-- ==== Sys2Proof/Word.lean ====
section
/-! DEFINITION. The word types of the LX96 and their plainest arithmetic: a byte, a byte string, the
register widths, and the two read-outs of a byte string as a number (R10: host-port structures are
little-endian, cryptographic blocks big-endian). -/

namespace Sys2Proof

/-- One byte. -/
abbrev Byte := BitVec 8

/-- A byte string; index 0 is the lowest address (host structures) or the most significant byte
(cryptographic blocks). -/
abbrev Bytes := List Byte

/-- A 32-bit register or field. -/
abbrev Word := BitVec 32

/-- A 64-bit register or field. -/
abbrev DWord := BitVec 64

/-- `n` as one byte, reduced modulo 256. -/
def byte (n : Nat) : Byte := BitVec.ofNat 8 n

/-- `n` bytes of zero. -/
def zeros (n : Nat) : Bytes := List.replicate n 0#8

end Sys2Proof
end

