-- ==== Sys2Proof/Types.lean ====
section
/-! DEFINITION. The names the commands and the state share: the two channels (R16), the operations of the Erwen
packets (R47), the status codes (R72) and the steps of an operation in a channel. -/

namespace Sys2Proof

/-- The two channels (R16). -/
inductive Chan where
  | a | b
  deriving DecidableEq, Repr

/-- The channels whose completions reach the port die in a cycle: one, or both (R64). -/
inductive Arrivals where
  | one (ch : Chan)
  | both
  deriving DecidableEq, Repr

/-- The other channel. -/
def Chan.peer : Chan → Chan
  | .a => .b
  | .b => .a

/-- The channel's number in recorder values: 0 A, 1 B (R406). -/
def Chan.idx : Chan → Nat
  | .a => 0
  | .b => 1

/-- TAG of a channel's completion (R59). -/
def Chan.tag : Chan → BitVec 2
  | .a => 1#2
  | .b => 2#2

/-- The channel's letter in ASCII (R289, R324). -/
def Chan.letter : Chan → Byte
  | .a => 0x41#8
  | .b => 0x42#8

/-- What ends or marks an item's service on a core: an uncorrectable memory error, of a result buffer (R302) or of shadow
records read back (R258), or an access of the core, to channel store or HBM, that its access control unit refuses (R351). -/
inductive ServeFault where
  | memory (hbm : Bool)
  | read (hbm : Bool) (addr : BitVec 64)
  | write (hbm : Bool) (addr : BitVec 64)
  deriving DecidableEq, Repr

/-- How an operation's command acts on a channel: `decode` takes the packet at the head of the channel's fan-out
through checks 13 to 16, the refusals of R55, admission and, where nothing holds it, its start; `serve id` runs the
service of work item `id` that a core has in hand (R89), and `fault id how` is a fault in that service. -/
inductive OpStep where
  | decode
  | serve (id : Nat)
  | fault (id : Nat) (how : ServeFault)
  deriving DecidableEq, Repr

/-- The opcodes of the Erwen packets (R47, R119, R144, R189, R214, R223, R266, R300), one per assigned value. -/
inductive Op where
  | getRandom
  | reseed
  | echo
  | pinTranslate
  | pinVerifyOffset
  | pinVerifyPvv
  | pinChange
  | cvcGenerate
  | cvcVerify
  | arqcVerify
  | arqcVerifyLongPan
  | dukptTranslate
  | dukptTranslateLongKey
  | dukptData
  | macCmac
  | macIso97973
  | macCmacLong
  | macIso9797Long
  | macHmacSha256
  | keyblockImport
  | keyblockExport
  | keyWrap
  | keyUnwrap
  | transportImport
  | transportExport
  | componentBegin
  | componentAdd
  | componentAbandon
  | tokenFf1
  | vaultTokenise
  | vaultDetokenise
  | vaultDelete
  | cipherEncrypt
  | cipherDecrypt
  | streamOpen
  | streamUpdate
  | streamFinal
  | streamAbandon
  | digest
  | macHmacSha2
  | pkSign
  | pkVerify
  | pkKeygen
  | pkAgree
  | pkEncap
  | pkDecap
  | pkPubkeyExport
  | pkPubkeyImport
  | keyCheckValue
  | keyAttributes
  | keyGenerate
  | keyRestrict
  | keyDestroy
  deriving DecidableEq, Repr

/-- The status codes of R72. -/
inductive Code where
  | ok | malformed | lengthMismatch | busy | denied
  | slotEmpty | slotCorrupt | keyUsageDenied | keyExhausted | keyWithdrawn
  | inputRejected | invariantFail | tagFail | pinFail | cryptogramFail
  | waitTimeout | channelLost | functionReset | rngFailed | tamperAbort | faultDetected
  deriving DecidableEq, Repr

/-- A transaction layer packet of the host: the function it addresses and the selective IDE stream it carries
(R345). -/
structure Tlp where
  function : BitVec 8
  ide : Option (BitVec 6)
  deriving DecidableEq, Repr

/-- The DWORDs a register read covers, and whether its byte enables name every byte of them (R416). -/
structure ReadSpan where
  dwords : Nat
  enables : Bool
  deriving DecidableEq, Repr

/-- The memory BARs of a function (R415). -/
inductive Bar where
  | bar0 | bar2 | bar4
  deriving DecidableEq, Repr

/-- The two bindings of the management port (R385). -/
inductive Binding where
  | pcie | i3c
  deriving DecidableEq, Repr

/-- A message of the management port as it arrived: its binding and the SPDM secured session it came in, if any. -/
structure Via where
  binding : Binding
  session : Option Nat
  deriving DecidableEq, Repr

/-- A Kerral message without its CODE, which the command names (R392): the header fields and what follows them. -/
structure Kerral where
  via : Via
  version : Byte
  reqId : BitVec 16
  bodyLen : BitVec 16
  authCount : Byte
  flags : Byte
  nonceId : Word
  reserved : Word
  /-- The bytes after the header: body and authorisation blocks. -/
  rest : Bytes
  deriving DecidableEq, Repr

/-- How a piece of engine or lane work ended (R182, R183, R218, R238, R239, R242). -/
inductive WorkEnd where
  | good | laneCompare | busCode | memory (hbm : Bool) | engineFault | closingCheck
  | readRefused (hbm : Bool) (addr : DWord) | writeRefused (hbm : Bool) (addr : DWord)
  deriving DecidableEq, Repr

/-- What a background test or scrub found (R311, R314). -/
inductive TestEnd where
  | pass | fail | corrected
  deriving DecidableEq, Repr

/-- The units under background test (R314). -/
inductive TestUnit where
  | lanePair (n : BitVec 6)
  | digestEngine (n : BitVec 2)
  | pkEngine (n : BitVec 4)
  | core (n : BitVec 6)
  | channelStore | hbm | collector | journal | bus
  deriving DecidableEq, Repr

/-- The kinds of flow key (R84, byte 0). -/
inductive FlowKind where
  | explicit | keySlot | vault | dukpt | counter | stream
  deriving DecidableEq, Repr

end Sys2Proof
end

