-- ==== Sys2Proof/Syntax.lean ====
section
/-! DEFINITION. The commands of the LX96: one constructor per row of the opcode table. A row of an Erwen operation acts
on one channel at one step (`OpStep`); the other rows carry what reaches the device from outside with them: the TLP of a
host access, the bytes of a message, a reading, the outcome of a test. -/

namespace Sys2Proof

/-- The commands (spec/opcode_table.json). Each docstring gives the row's rule and mnemonic. -/
inductive Instr where
  /-- R54: INLINE_DOORBELL. -/
  | inlineDoorbell (t : Tlp) (window : BitVec 4) (offset : BitVec 12) (data : Bytes)
  /-- R52: RING_TAIL. -/
  | ringTail (t : Tlp) (value : Word)
  /-- R52: RING_FETCH_DONE. -/
  | ringFetchDone (queue : BitVec 16) (ide : Option (BitVec 6)) (entry : Bytes) (payload : Option Bytes)
  /-- R310: INTAKE_RESUME. -/
  | intakeResume
  /-- R68: CQ_HEAD. -/
  | cqHead (t : Tlp) (value : Word)
  /-- R423: COMMIT. -/
  | commit (t : Tlp) (value : Word)
  /-- R423: COMMIT_APPLY. -/
  | commitApply
  /-- R426: IND_ADDR_LO. -/
  | indAddrLo (t : Tlp) (value : Word)
  /-- R426: IND_ADDR_HI. -/
  | indAddrHi (t : Tlp) (value : Word)
  /-- R426: IND_DATA. -/
  | indData (t : Tlp) (write : Option Word)
  /-- R352: FN_ACU_ENABLE. -/
  | fnAcuEnable (t : Tlp) (fn : BitVec 8)
  /-- R352: FN_ACU_DISABLE. -/
  | fnAcuDisable (t : Tlp) (fn : BitVec 8)
  /-- R352: ACU_DRAIN_DONE. -/
  | acuDrainDone (fn : BitVec 8)
  /-- R12: REGISTER_WRITE. -/
  | registerWrite (t : Tlp) (bar : Bar) (offset : Nat) (data : List Word) (enables : Bool)
  /-- R301: GET_RANDOM. -/
  | getRandom (ch : Chan) (step : OpStep)
  /-- R301: RESEED. -/
  | reseed (ch : Chan) (step : OpStep)
  /-- R301: ECHO. -/
  | echo (ch : Chan) (step : OpStep)
  /-- R130: PIN_TRANSLATE. -/
  | pinTranslate (ch : Chan) (step : OpStep)
  /-- R134: PIN_VERIFY_OFFSET. -/
  | pinVerifyOffset (ch : Chan) (step : OpStep)
  /-- R136: PIN_VERIFY_PVV. -/
  | pinVerifyPvv (ch : Chan) (step : OpStep)
  /-- R137: PIN_CHANGE. -/
  | pinChange (ch : Chan) (step : OpStep)
  /-- R138: CVC_GENERATE. -/
  | cvcGenerate (ch : Chan) (step : OpStep)
  /-- R138: CVC_VERIFY. -/
  | cvcVerify (ch : Chan) (step : OpStep)
  /-- R141: ARQC_VERIFY. -/
  | arqcVerify (ch : Chan) (step : OpStep)
  /-- R140: ARQC_VERIFY_LONG_PAN. -/
  | arqcVerifyLongPan (ch : Chan) (step : OpStep)
  /-- R152: DUKPT_TRANSLATE. -/
  | dukptTranslate (ch : Chan) (step : OpStep)
  /-- R153: DUKPT_TRANSLATE_LONG_KEY. -/
  | dukptTranslateLongKey (ch : Chan) (step : OpStep)
  /-- R154: DUKPT_DATA. -/
  | dukptData (ch : Chan) (step : OpStep)
  /-- R157: MAC_CMAC. -/
  | macCmac (ch : Chan) (step : OpStep)
  /-- R158: MAC_ISO9797_3. -/
  | macIso97973 (ch : Chan) (step : OpStep)
  /-- R159: MAC_CMAC_LONG. -/
  | macCmacLong (ch : Chan) (step : OpStep)
  /-- R159: MAC_ISO9797_LONG. -/
  | macIso9797Long (ch : Chan) (step : OpStep)
  /-- R159: MAC_HMAC_SHA256. -/
  | macHmacSha256 (ch : Chan) (step : OpStep)
  /-- R161: KEYBLOCK_IMPORT. -/
  | keyblockImport (ch : Chan) (step : OpStep)
  /-- R162: KEYBLOCK_EXPORT. -/
  | keyblockExport (ch : Chan) (step : OpStep)
  /-- R163: KEY_WRAP. -/
  | keyWrap (ch : Chan) (step : OpStep)
  /-- R163: KEY_UNWRAP. -/
  | keyUnwrap (ch : Chan) (step : OpStep)
  /-- R167: TRANSPORT_IMPORT. -/
  | transportImport (ch : Chan) (step : OpStep)
  /-- R168: TRANSPORT_EXPORT. -/
  | transportExport (ch : Chan) (step : OpStep)
  /-- R170: COMPONENT_BEGIN. -/
  | componentBegin (ch : Chan) (step : OpStep)
  /-- R170: COMPONENT_ADD. -/
  | componentAdd (ch : Chan) (step : OpStep)
  /-- R170: COMPONENT_ABANDON. -/
  | componentAbandon (ch : Chan) (step : OpStep)
  /-- R171: TOKEN_FF1. -/
  | tokenFf1 (ch : Chan) (step : OpStep)
  /-- R174: VAULT_TOKENISE. -/
  | vaultTokenise (ch : Chan) (step : OpStep)
  /-- R174: VAULT_DETOKENISE. -/
  | vaultDetokenise (ch : Chan) (step : OpStep)
  /-- R174: VAULT_DELETE. -/
  | vaultDelete (ch : Chan) (step : OpStep)
  /-- R192: CIPHER_ENCRYPT. -/
  | cipherEncrypt (ch : Chan) (step : OpStep)
  /-- R193: CIPHER_DECRYPT. -/
  | cipherDecrypt (ch : Chan) (step : OpStep)
  /-- R196: STREAM_OPEN. -/
  | streamOpen (ch : Chan) (step : OpStep)
  /-- R197: STREAM_UPDATE. -/
  | streamUpdate (ch : Chan) (step : OpStep)
  /-- R199: STREAM_FINAL. -/
  | streamFinal (ch : Chan) (step : OpStep)
  /-- R200: STREAM_ABANDON. -/
  | streamAbandon (ch : Chan) (step : OpStep)
  /-- R215: DIGEST. -/
  | digest (ch : Chan) (step : OpStep)
  /-- R215: MAC_HMAC_SHA2. -/
  | macHmacSha2 (ch : Chan) (step : OpStep)
  /-- R229: PK_SIGN. -/
  | pkSign (ch : Chan) (step : OpStep)
  /-- R229: PK_VERIFY. -/
  | pkVerify (ch : Chan) (step : OpStep)
  /-- R229: PK_KEYGEN. -/
  | pkKeygen (ch : Chan) (step : OpStep)
  /-- R228: PK_AGREE. -/
  | pkAgree (ch : Chan) (step : OpStep)
  /-- R228: PK_ENCAP. -/
  | pkEncap (ch : Chan) (step : OpStep)
  /-- R228: PK_DECAP. -/
  | pkDecap (ch : Chan) (step : OpStep)
  /-- R229: PK_PUBKEY_EXPORT. -/
  | pkPubkeyExport (ch : Chan) (step : OpStep)
  /-- R226: PK_PUBKEY_IMPORT. -/
  | pkPubkeyImport (ch : Chan) (step : OpStep)
  /-- R267: KEY_CHECK_VALUE. -/
  | keyCheckValue (ch : Chan) (step : OpStep)
  /-- R268: KEY_ATTRIBUTES. -/
  | keyAttributes (ch : Chan) (step : OpStep)
  /-- R269: KEY_GENERATE. -/
  | keyGenerate (ch : Chan) (step : OpStep)
  /-- R270: KEY_RESTRICT. -/
  | keyRestrict (ch : Chan) (step : OpStep)
  /-- R262: KEY_DESTROY. -/
  | keyDestroy (ch : Chan) (step : OpStep)
  /-- R262: DESTROY_USERS_DRAINED. -/
  | destroyUsersDrained (ch : Chan) (id : Nat)
  /-- R81: DECODE_RESUME. -/
  | decodeResume (ch : Chan)
  /-- R81: DECODE_LATE_FAULT. -/
  | decodeLateFault (ch : Chan)
  /-- R82: DELAY_RELEASE. -/
  | delayRelease (ch : Chan)
  /-- R88: COMMAND_START. -/
  | commandStart (ch : Chan) (id : Nat)
  /-- R89: CORE_DISPATCH. -/
  | coreDispatch (ch : Chan) (core : BitVec 6)
  /-- R89: CORE_SLICE_TIMER. -/
  | coreSliceTimer (ch : Chan) (core : BitVec 6)
  /-- R179: RAKE_JOB_START. -/
  | rakeJobStart (ch : Chan) (pair : BitVec 6)
  /-- R179: RAKE_SLICE_END. -/
  | rakeSliceEnd (ch : Chan) (pair : BitVec 6)
  /-- R179: RAKE_JOB_DONE. -/
  | rakeJobDone (ch : Chan) (pair : BitVec 6) (how : WorkEnd)
  /-- R184: LANE_SELF_TEST. -/
  | laneSelfTest (ch : Chan) (pair : BitVec 6) (pass : Bool)
  /-- R209: DIGEST_JOB_START. -/
  | digestJobStart (ch : Chan) (engine : BitVec 2)
  /-- R209: DIGEST_SLICE_END. -/
  | digestSliceEnd (ch : Chan) (engine : BitVec 2)
  /-- R206: DIGEST_JOB_DONE. -/
  | digestJobDone (ch : Chan) (engine : BitVec 2) (how : WorkEnd)
  /-- R217: DIGEST_KNOWN_ANSWER_TEST. -/
  | digestKnownAnswerTest (ch : Chan) (engine : BitVec 2) (pass : Bool)
  /-- R221: DIGEST_MODE. -/
  | digestMode (ch : Chan) (engine : BitVec 2) (value : Option Word)
  /-- R211: DIGEST_DATA. -/
  | digestData (ch : Chan) (engine : BitVec 2) (value : DWord)
  /-- R211: DIGEST_LAST_WORD. -/
  | digestLastWord (ch : Chan) (engine : BitVec 2) (value : DWord)
  /-- R211: DIGEST_LAST_COUNT. -/
  | digestLastCount (ch : Chan) (engine : BitVec 2) (value : Word)
  /-- R211: DIGEST_FINISH_DONE. -/
  | digestFinishDone (ch : Chan) (engine : BitVec 2)
  /-- R213: DIGEST_CMP. -/
  | digestCmp (ch : Chan) (engine : BitVec 2) (expect : Option Bytes) (value : Word)
  /-- R234: PK_JOB_START. -/
  | pkJobStart (ch : Chan) (engine : BitVec 4)
  /-- R236: PK_VALIDATION_END. -/
  | pkValidationEnd (ch : Chan) (engine : BitVec 4)
  /-- R234: PK_SLICE_REPORT. -/
  | pkSliceReport (ch : Chan) (engine : BitVec 4)
  /-- R238: PK_OPERATION_DONE. -/
  | pkOperationDone (ch : Chan) (engine : BitVec 4) (how : WorkEnd)
  /-- R241: PK_WIPE_DONE. -/
  | pkWipeDone (ch : Chan) (engine : BitVec 4)
  /-- R265: KEY_CACHE_FILL_START. -/
  | keyCacheFillStart (ch : Chan) (slot : BitVec 28)
  /-- R256: KEY_CACHE_FILL_DONE. -/
  | keyCacheFillDone (ch : Chan) (slot : BitVec 28)
  /-- R258: SHADOW_ENTRY_ACQUIRE. -/
  | shadowEntryAcquire (ch : Chan) (id : Nat)
  /-- R95: COMPLETION_ACCEPT. -/
  | completionAccept (ch : Chan)
  /-- R64: COMPLETION_ARRIVAL. -/
  | completionArrival (who : Arrivals)
  /-- R338: MODERATION_TIMER. -/
  | moderationTimer (queue : BitVec 16)
  /-- R65: ASSAY_WINDOW_EXPIRY. -/
  | assayWindowExpiry (intakeNo : Nat)
  /-- R316: PROBE_COMPLETION. -/
  | probeCompletion (ch : Chan) (wrong : Option DWord)
  /-- R317: PROBE_TIMEOUT. -/
  | probeTimeout
  /-- R35: TIDE_BOUNDARY. -/
  | tideBoundary
  /-- R92: DEADLINE_MISS. -/
  | deadlineMiss (ch : Chan) (id : Nat)
  /-- R87: WAIT_LIMIT_EXPIRY. -/
  | waitLimitExpiry (ch : Chan) (id : Nat)
  /-- R87: WAIT_VERDICT. -/
  | waitVerdict (intakeNo : Nat)
  /-- R87: WAIT_VERDICT_APPLY. -/
  | waitVerdictApply (intakeNo : Nat)
  /-- R26: TIDE_ALIGN. -/
  | tideAlign
  /-- R431: CCLK_LOCK_REPORT. -/
  | cclkLockReport (ch : Chan)
  /-- R431: CCLK_LOCK_TIMEOUT. -/
  | cclkLockTimeout
  /-- R28: TIDE_REPORT. -/
  | tideReport (countA : Option (BitVec 16)) (skewA : Nat) (countB : Option (BitVec 16)) (skewB : Nat)
  /-- R313: HEALTH_REPORT. -/
  | healthReport (a b : Bool)
  /-- R313: HEALTH_REPORT_MISSING. -/
  | healthReportMissing (ch : Chan)
  /-- R315: CHANNEL_FAULT_REPORT. -/
  | channelFaultReport (a b : Bool)
  /-- R320: CHANNEL_LOST_TIMEOUT. -/
  | channelLostTimeout (ch : Chan)
  /-- R429: CHANNEL_RESET. -/
  | channelReset (ch : Chan)
  /-- R325: CHECKPOINT_TIMER. -/
  | checkpointTimer (ch : Chan)
  /-- R188: EXHAUSTION_REPORT. -/
  | exhaustionReport (ch : Chan) (slot : BitVec 28)
  /-- R188: EXHAUSTION_MARK. -/
  | exhaustionMark (ch : Chan) (slot : BitVec 28)
  /-- R22: SLUICE_TAG_FAIL. -/
  | sluiceTagFail (sender : Chan)
  /-- R21: SLUICE_AGREEMENT_DONE. -/
  | sluiceAgreementDone
  /-- R327: REPAIR_LIST_RECEIVED. -/
  | repairListReceived
  /-- R327: JOURNAL_DELTA_RECEIVED. -/
  | journalDeltaReceived
  /-- R328: REGION_IMAGE_RECEIVED. -/
  | regionImageReceived
  /-- R327: STATE_SNAPSHOT_RECEIVED. -/
  | stateSnapshotReceived
  /-- R329: JOIN_READY. -/
  | joinReady
  /-- R109: JOIN_CAP_TIDE. -/
  | joinCapTide
  /-- R329: JOIN_TIDE. -/
  | joinTide
  /-- R329: JOIN_HANDOVER_RECEIVED. -/
  | joinHandoverReceived
  /-- R330: PLANNED_RETIREMENT_START. -/
  | plannedRetirementStart
  /-- R330: PLANNED_DRAIN_END. -/
  | plannedDrainEnd
  /-- R346: FUNCTION_LEVEL_RESET. -/
  | functionLevelReset (fn : BitVec 8)
  /-- R346: VF_ENABLE_CLEAR. -/
  | vfEnableClear
  /-- R347: FUNCTION_RESET_BOUNDARY_R. -/
  | functionResetBoundaryR
  /-- R347: RESET_LIST_RECEIVED. -/
  | resetListReceived (ch : Chan)
  /-- R347: RESET_LIST_TIMEOUT. -/
  | resetListTimeout
  /-- R347: FUNCTION_RESET_BOUNDARY_V. -/
  | functionResetBoundaryV
  /-- R429: LINK_RESET. -/
  | linkReset
  /-- R288: RNG_START_TEST_END. -/
  | rngStartTestEnd (ch : Chan) (pass : Bool)
  /-- R288: RNG_SEED_READY. -/
  | rngSeedReady (ch : Chan) (noise : Bytes)
  /-- R303: RNG_HEALTH_FAIL. -/
  | rngHealthFail (ch : Chan) (cause : BitVec 3)
  /-- R289: DRBG_RESEED_DUE. -/
  | drbgReseedDue (ch : Chan)
  /-- R289: DRBG_RESEED_DONE. -/
  | drbgReseedDone (ch : Chan) (noise : Bytes)
  /-- R299: RNG_PORT_REQ. -/
  | rngPortReq (ch : Chan) (core : BitVec 6) (value : Word)
  /-- R299: RNG_PORT_DATA. -/
  | rngPortData (ch : Chan) (core : BitVec 6)
  /-- R295: EPOCH_RENEWAL_TRIGGER. -/
  | epochRenewalTrigger
  /-- R295: ENTROPY_CONTRIBUTION. -/
  | entropyContribution (ch : Chan) (noise : Bytes)
  /-- R295: CONTRIBUTION_RECEIVED. -/
  | contributionReceived (ch : Chan)
  /-- R295: EPOCH_CHECK_RECEIVED. -/
  | epochCheckReceived
  /-- R295: EPOCH_EFFECT. -/
  | epochEffect (ch : Chan)
  /-- R295: EPOCH_RETRY_TIMER. -/
  | epochRetryTimer
  /-- R296: EPOCH_FORM_ALONE. -/
  | epochFormAlone (ch : Chan)
  /-- R364: TAMPER_SOURCE_DETECTED. -/
  | tamperSourceDetected (ch : Chan) (sources : BitVec 23)
  /-- R368: PEER_L5_ORDER. -/
  | peerL5Order (from_ : Chan)
  /-- R362: MONITOR_TEST. -/
  | monitorTest (ch : Chan) (source : BitVec 5) (pass : Bool)
  /-- R360: TMP_IN_ASSERT. -/
  | tmpInAssert (ch : Chan) (pin : BitVec 2)
  /-- R357: REFCLK_LOSS. -/
  | refclkLoss
  /-- R374: WAKE_N_RELEASE. -/
  | wakeNRelease (ch : Chan) (halfMicros : Nat)
  /-- R375: WAKE_TAMPER_DECISION. -/
  | wakeTamperDecision (ch : Chan)
  /-- R377: ISLAND_BROWN_OUT. -/
  | islandBrownOut (ch : Chan)
  /-- R429: POWER_ON. -/
  | powerOn
  /-- R370: MAIN_POWER_LOSS. -/
  | mainPowerLoss
  /-- R429: PORST_N_ASSERT. -/
  | porstNAssert
  /-- R430: PORST_N_RELEASE. -/
  | porstNRelease
  /-- R430: PORT_DIE_START_DONE. -/
  | portDieStartDone
  /-- R429: PERST_N_ASSERT. -/
  | perstNAssert
  /-- R430: PERST_N_RELEASE. -/
  | perstNRelease
  /-- R410: PWR_FAIL_N_ASSERT. -/
  | pwrFailNAssert
  /-- R378: FUSE_LOAD_DONE. -/
  | fuseLoadDone (ch : Chan) (rowsAgree : Bool)
  /-- R433: IMAGE_HASH_DONE. -/
  | imageHashDone (ch : Chan) (isMatch isMatchN : Bool)
  /-- R434: HBM_TRAINING_DONE. -/
  | hbmTrainingDone (ch : Chan) (ok : Bool)
  /-- R432: MEMORY_TEST_DONE. -/
  | memoryTestDone (ch : Chan) (ok : Bool)
  /-- R432: SELF_TEST_DONE. -/
  | selfTestDone (ch : Chan) (ok : Bool)
  /-- R437: FIRST_JOIN_WAIT_EXPIRY. -/
  | firstJoinWaitExpiry (ch : Chan)
  /-- R437: FIRST_JOIN. -/
  | firstJoin
  /-- R280: SVN_COMMIT_TARGET. -/
  | svnCommitTarget (ch : Chan)
  /-- R280: ROOT_RECORD_WRITE_DONE. -/
  | rootRecordWriteDone (ch : Chan)
  /-- R280: SVN_COMMIT_MESSAGE. -/
  | svnCommitMessage (ch : Chan)
  /-- R452: TEMPERATURE_READING. -/
  | temperatureReading (ch : Chan) (celsius : Int)
  /-- R457: THERMAL_DECISION. -/
  | thermalDecision
  /-- R457: CHANNEL_TRIP. -/
  | channelTrip (ch : Chan)
  /-- R457: SECOND_CHANNEL_TRIP. -/
  | secondChannelTrip (ch : Chan)
  /-- R457: TRIP_RECOVERY. -/
  | tripRecovery (ch : Chan)
  /-- R314: BACKGROUND_SELF_TEST. -/
  | backgroundSelfTest (ch : Chan) (unit : TestUnit) (result : TestEnd)
  /-- R399: GET_NONCE. -/
  | getNonce (m : Kerral)
  /-- R396: GET_STATUS. -/
  | getStatus (m : Kerral)
  /-- R398: OFFICER_SET. -/
  | officerSet (m : Kerral)
  /-- R404: PROVISION. -/
  | provision (m : Kerral)
  /-- R358: TAMPER_LEVELS. -/
  | tamperLevels (m : Kerral)
  /-- R382: TAMPER_CLEAR. -/
  | tamperClear (m : Kerral)
  /-- R371: SLACK. -/
  | slack (m : Kerral)
  /-- R371: SLEEP_DRAIN_DONE. -/
  | sleepDrainDone
  /-- R248: SLOT_GRANT. -/
  | slotGrant (m : Kerral)
  /-- R400: POLICY_SET. -/
  | policySet (m : Kerral)
  /-- R132: DECTAB_SET. -/
  | dectabSet (m : Kerral)
  /-- R169: CUSTODIANS_SET. -/
  | custodiansSet (m : Kerral)
  /-- R401: FENCE_HOLD. -/
  | fenceHold (ch : Chan)
  /-- R401: FENCE_REPORT. -/
  | fenceReport (ch : Chan)
  /-- R401: FENCE_APPLY. -/
  | fenceApply (ch : Chan)
  /-- R402: CEREMONY_BEGIN. -/
  | ceremonyBegin (m : Kerral)
  /-- R403: CEREMONY_COMPONENT. -/
  | ceremonyComponent (m : Kerral)
  /-- R394: CEREMONY_ABANDON. -/
  | ceremonyAbandon (m : Kerral)
  /-- R394: MGMT_KEYBLOCK_IMPORT. -/
  | mgmtKeyblockImport (m : Kerral)
  /-- R394: MGMT_KEY_DESTROY. -/
  | mgmtKeyDestroy (m : Kerral)
  /-- R343: BUDGET_SET. -/
  | budgetSet (m : Kerral)
  /-- R172: BASIN_ASSIGN. -/
  | basinAssign (m : Kerral)
  /-- R173: BASIN_CLEAR. -/
  | basinClear (m : Kerral)
  /-- R155: DUKPT_UNBIND. -/
  | dukptUnbind (m : Kerral)
  /-- R297: PERSONALISE. -/
  | personalise (m : Kerral)
  /-- R330: UPDATE_ACTIVATE. -/
  | updateActivate (m : Kerral)
  /-- R280: SVN_COMMIT. -/
  | svnCommit (m : Kerral)
  /-- R405: IMAGE_EXPORT. -/
  | imageExport (m : Kerral)
  /-- R405: IMAGE_IMPORT. -/
  | imageImport (m : Kerral) (image : Bytes)
  /-- R412: RECORDER_READ. -/
  | recorderRead (m : Kerral)
  /-- R411: RECORDER_FREEZE. -/
  | recorderFreeze (m : Kerral)
  /-- R411: RECORDER_FREEZE_TIMEOUT. -/
  | recorderFreezeTimeout
  /-- R410: RECORDER_FLUSH. -/
  | recorderFlush (m : Kerral)
  /-- R410: RECORDER_PERIODIC_FLUSH. -/
  | recorderPeriodicFlush
  /-- R410: RECORDER_FLUSH_DONE. -/
  | recorderFlushDone
  /-- R409: RECORDER_LIMITS. -/
  | recorderLimits (m : Kerral)
  /-- R394: ALERT_ROUTE. -/
  | alertRoute (m : Kerral)
  /-- R399: NONCE_EXPIRY. -/
  | nonceExpiry
  /-- R386: MCTP_UNSUPPORTED_MESSAGE. -/
  | mctpUnsupportedMessage (type : BitVec 7) (length : Nat)
  /-- R394: KERRAL_UNKNOWN_CODE. -/
  | kerralUnknownCode (code : Byte) (m : Kerral)
  /-- R387: GET_VERSION. -/
  | getVersion (via : Via) (body : Bytes)
  /-- R387: GET_CAPABILITIES. -/
  | getCapabilities (via : Via) (body : Bytes)
  /-- R387: NEGOTIATE_ALGORITHMS. -/
  | negotiateAlgorithms (via : Via) (body : Bytes)
  /-- R387: GET_DIGESTS. -/
  | getDigests (via : Via) (body : Bytes)
  /-- R387: GET_CERTIFICATE. -/
  | getCertificate (via : Via) (body : Bytes)
  /-- R387: CHALLENGE. -/
  | challenge (via : Via) (body : Bytes)
  /-- R388: GET_MEASUREMENTS. -/
  | getMeasurements (via : Via) (body : Bytes)
  /-- R387: KEY_EXCHANGE. -/
  | keyExchange (via : Via) (body : Bytes)
  /-- R387: FINISH. -/
  | finish (via : Via) (body : Bytes)
  /-- R387: HEARTBEAT. -/
  | heartbeat (via : Via) (body : Bytes)
  /-- R387: KEY_UPDATE. -/
  | keyUpdate (via : Via) (body : Bytes)
  /-- R387: END_SESSION. -/
  | endSession (via : Via) (body : Bytes)
  /-- R389: IDE_KM. -/
  | ideKm (via : Via) (stream : Option (BitVec 6)) (keys : Bytes) (secure : Bool)
  /-- R390: REQUEST_UPDATE. -/
  | requestUpdate (via : Via) (image : Bytes)
  /-- R390: ACTIVATE_FIRMWARE. -/
  | activateFirmware (via : Via)
  /-- R391: GET_SENSOR_READING. -/
  | getSensorReading (via : Via) (sensor : Nat)
  /-- R47: UNASSIGNED_OPCODE. -/
  | unassignedOpcode (ch : Chan)
  /-- R12: RC_REGISTER_READ. -/
  | rcRegisterRead (t : Tlp) (bar : Bar) (offset : Nat) (span : ReadSpan)
  /-- R69: PASSING_AREA_DRAIN. -/
  | passingAreaDrain (count : Nat)
  /-- R430: LINK_TRAINING_DONE. -/
  | linkTrainingDone
  /-- R397: KERRAL_RESPONSE. -/
  | kerralResponse
  /-- R385: ENDPOINT_ID_ASSIGNMENT. -/
  | endpointIdAssignment (binding : Binding) (eid : Byte)
  /-- R385: DYNAMIC_ADDRESS_ASSIGNMENT. -/
  | dynamicAddressAssignment (address : BitVec 7)
  deriving DecidableEq, Repr

end Sys2Proof
end

