-- ==== Sys2Proof/Decode.lean ====
section
/-! DEFINITION. The command a word of the opcode table spells. The table of this block gives its rows no bits, so no word
spells a command. -/

namespace Sys2Proof

/-- The command spelled by a word of `nbits` bits: none, because no row has bits (spec/opcode_table.json). -/
def decodeTableWord (_nbits _w : Nat) : Option Instr := none

end Sys2Proof
end

