-- ==== Sys2Proof/Machine/Bytes.lean ====
section
/-! DEFINITION. Byte strings: little- and big-endian numbers (R10), exclusive or, nibbles and packed
BCD digit strings (R119, R121, R122), ASCII, and sparse maps kept in one canonical form. -/

namespace Sys2Proof

/-- The number a little-endian byte string spells (R10). -/
def leNat : Bytes → Nat
  | [] => 0
  | b :: bs => b.toNat + 256 * leNat bs

/-- `k` bytes of `n`, least significant byte first (R10). -/
def leBytes : Nat → Nat → Bytes
  | 0, _ => []
  | k + 1, n => byte n :: leBytes k (n / 256)

/-- The number a big-endian byte string spells (R10). -/
def beNat (bs : Bytes) : Nat := bs.foldl (fun a b => a * 256 + b.toNat) 0

/-- `k` bytes of `n`, most significant byte first (R10). -/
def beBytes (k n : Nat) : Bytes := (leBytes k n).reverse

/-- Bytes `o` to `o + k - 1` of `bs`; bytes past the end read as 0. -/
def slice (bs : Bytes) (o k : Nat) : Bytes :=
  let t := (bs.drop o).take k
  t ++ zeros (k - t.length)

/-- Byte `o` of `bs` as a number; 0 past the end. -/
def u8 (bs : Bytes) (o : Nat) : Nat := (bs.getD o 0#8).toNat

/-- The little-endian field of `k` bytes at offset `o`. -/
def leAt (bs : Bytes) (o k : Nat) : Nat := leNat (slice bs o k)

/-- Every byte of the `k` bytes at `o` is 0. -/
def zeroAt (bs : Bytes) (o k : Nat) : Bool := (slice bs o k).all (· == 0#8)

/-- Exclusive or, byte by byte, over the shorter length. -/
def xorB (a b : Bytes) : Bytes := List.zipWith (· ^^^ ·) a b

/-- `bs` filled with zero bytes on the right, up to `n` bytes, and cut to `n` bytes. -/
def fitR (n : Nat) (bs : Bytes) : Bytes := bs.take n ++ zeros (n - bs.length)

/-- `bs` filled with zero bytes on the left, up to `n` bytes. -/
def padL (n : Nat) (bs : Bytes) : Bytes := zeros (n - bs.length) ++ bs

/-- The byte string cut into pieces of `n` bytes (`fuel` bounds the number of pieces). -/
def chunksAux (n : Nat) : Nat → Bytes → List Bytes
  | 0, _ => []
  | f + 1, bs => if bs.isEmpty then [] else bs.take n :: chunksAux n f (bs.drop n)

/-- The byte string cut into pieces of `n` bytes; the last piece may be shorter. -/
def chunks (n : Nat) (bs : Bytes) : List Bytes := chunksAux n bs.length bs

/-- ASCII code points of a string. -/
def ascii (s : String) : Bytes := s.toList.map (fun c => byte c.toNat)

/-! ### Nibbles and BCD -/

/-- The nibbles of a byte string, high nibble first (R119). -/
def nibbles (bs : Bytes) : List Nat := bs.flatMap (fun b => [b.toNat / 16, b.toNat % 16])

/-- Nibbles packed two to a byte, high nibble first; an odd last nibble is paired with 0. -/
def packNibbles : List Nat → Bytes
  | [] => []
  | [a] => [byte (16 * (a % 16))]
  | a :: b :: ns => byte (16 * (a % 16) + b % 16) :: packNibbles ns

/-- `digits` nibbles filled with `f` to `n` nibbles and packed. -/
def packFill (n f : Nat) (digits : List Nat) : Bytes :=
  packNibbles (digits.take n ++ List.replicate (n - digits.length) f)

/-- The field holds exactly `n` decimal digits, left-justified, every other nibble 0xF (R121, R122). -/
def bcdOk (bs : Bytes) (n : Nat) : Bool :=
  let ns := nibbles bs
  (decide (n ≤ ns.length)) && (ns.take n).all (· < 10) && (ns.drop n).all (· == 15)

/-- The first `n` digits of a BCD field. -/
def bcdDigits (bs : Bytes) (n : Nat) : List Nat := (nibbles bs).take n

/-- The number a digit string spells in radix 10. -/
def digitsNat (ds : List Nat) : Nat := ds.foldl (fun a d => 10 * a + d) 0

/-- `k` decimal digits of `n`, most significant first, with leading zeros. -/
def natDigits : Nat → Nat → List Nat
  | 0, _ => []
  | k + 1, n => natDigits k (n / 10) ++ [n % 10]

/-- The last `n` entries of a list. -/
def lastN {α : Type} (n : Nat) (l : List α) : List α := l.drop (l.length - n)

/-! ### Sparse maps -/

/-- A sparse map from numbers: pairs in strictly rising key order; a key not listed holds the map's
default. -/
abbrev SMap (α : Type) := List (Nat × α)

/-- The value at key `k`, `d` when the key is not listed. -/
def SMap.get {α : Type} (d : α) (m : SMap α) (k : Nat) : α :=
  match m with
  | [] => d
  | (j, v) :: m' => if j = k then v else SMap.get d m' k

/-- The value at key `k`, if one is listed. -/
def SMap.find? {α : Type} (m : SMap α) (k : Nat) : Option α :=
  match m with
  | [] => none
  | (j, v) :: m' => if j = k then some v else SMap.find? m' k

/-- Key `k` no longer listed. -/
def SMap.erase {α : Type} (m : SMap α) (k : Nat) : SMap α := m.filter (fun p => p.1 != k)

/-- Key `k` listed with `v`, at its place in the key order. -/
def SMap.insert {α : Type} (m : SMap α) (k : Nat) (v : α) : SMap α :=
  match m with
  | [] => [(k, v)]
  | (j, w) :: m' =>
    if k < j then (k, v) :: (j, w) :: m'
    else if k = j then (k, v) :: m'
    else (j, w) :: SMap.insert m' k v

/-- Key `k` holds `v`: listed, unless `v` is the default `d`, which lists nothing. -/
def SMap.set {α : Type} [DecidableEq α] (d : α) (m : SMap α) (k : Nat) (v : α) : SMap α :=
  if v = d then SMap.erase m k else SMap.insert (SMap.erase m k) k v

/-- The keys rise strictly. -/
def SMap.sorted {α : Type} : SMap α → Bool
  | [] => true
  | [_] => true
  | (j, _) :: (k, w) :: m => decide (j < k) && SMap.sorted ((k, w) :: m)

/-- The canonical form: keys rise strictly and no listed value is the default. -/
def SMap.wf {α : Type} [DecidableEq α] (d : α) (m : SMap α) : Bool :=
  SMap.sorted m && m.all (fun p => decide (p.2 ≠ d))

/-! ### Saturating counters -/

/-- `n + k`, held at `top`. -/
def satAdd (top n k : Nat) : Nat := min top (n + k)

/-- The smallest `q` with `q * b ≥ a` (`b` positive). -/
def ceilDiv (a b : Nat) : Nat := (a + b - 1) / b

end Sys2Proof
end

