-- ==== Sys2Proof/Machine/Cipher.lean ====
section
/-! DEFINITION. The block ciphers the lanes of the rakes run (R112): AES (FIPS 197) and DES / TDES (FIPS 46-3,
SP 800-67), as functions of a key and a block. The manual names these standards and gives no tables of its
own; the tables here are those of the standards (PRESUMED, assumption 20). -/

namespace Sys2Proof

/-! ### AES -/

/-- Doubling in GF(2^8) with the AES polynomial. -/
def gfDouble (x : Byte) : Byte := if x.msb then (x <<< 1) ^^^ 0x1B#8 else x <<< 1

/-- Product in GF(2^8), by the bits of the second factor from bit `n - 1` down. -/
def gfMulBits (x y : Byte) : Nat → Byte → Byte
  | 0, acc => acc
  | n + 1, acc =>
    let acc2 := gfDouble acc
    gfMulBits x y n (if y.getLsbD n then acc2 ^^^ x else acc2)

/-- Product in GF(2^8). -/
def gfMul (x y : Byte) : Byte := gfMulBits x y 8 0#8

/-- The inverse in GF(2^8), as the 254th power; 0 gives 0. -/
def gfInv (x : Byte) : Byte :=
  let x2 := gfMul x x
  let x4 := gfMul x2 x2
  let x8 := gfMul x4 x4
  let x16 := gfMul x8 x8
  let x32 := gfMul x16 x16
  let x64 := gfMul x32 x32
  let x128 := gfMul x64 x64
  gfMul x128 (gfMul x64 (gfMul x32 (gfMul x16 (gfMul x8 (gfMul x4 x2)))))

/-- The AES substitution of one byte: inverse, then the affine map. -/
def aesSub (x : Byte) : Byte :=
  let i := gfInv x
  i ^^^ i.rotateLeft 1 ^^^ i.rotateLeft 2 ^^^ i.rotateLeft 3 ^^^ i.rotateLeft 4 ^^^ 0x63#8

/-- The inverse of `aesSub`. -/
def aesSubInv (y : Byte) : Byte :=
  gfInv (y.rotateLeft 1 ^^^ y.rotateLeft 3 ^^^ y.rotateLeft 6 ^^^ 0x05#8)

/-- The substitution as a table, so that a run computes each entry once. -/
def aesSBox : Array Byte := (List.range 256).map (fun n => aesSub (byte n)) |>.toArray

/-- The inverse substitution as a table. -/
def aesSBoxInv : Array Byte := (List.range 256).map (fun n => aesSubInv (byte n)) |>.toArray

/-- Table look-up of a byte. -/
def lookB (t : Array Byte) (x : Byte) : Byte := t.getD x.toNat 0#8

/-- One word of the AES key schedule: word `i` from the words so far (latest first). -/
def aesKeyWord (nk i : Nat) (ws : List Bytes) : Bytes :=
  let temp := ws.headD []
  let back := ws.getD (nk - 1) []
  let t :=
    if i % nk = 0 then
      let r := (temp.drop 1 ++ temp.take 1).map (lookB aesSBox)
      let rcon := (List.range (i / nk - 1)).foldl (fun a _ => gfDouble a) 0x01#8
      xorB r [rcon, 0#8, 0#8, 0#8]
    else if nk > 6 && i % nk = 4 then temp.map (lookB aesSBox)
    else temp
  xorB back t

/-- The key schedule's words, latest first, after `n` more words from word `i`. -/
def aesExpand (nk : Nat) : Nat → Nat → List Bytes → List Bytes
  | 0, _, ws => ws
  | n + 1, i, ws => aesExpand nk n (i + 1) (aesKeyWord nk i ws :: ws)

/-- The round keys of an AES key of 16, 24 or 32 bytes, in order, 16 bytes each. -/
def aesRoundKeys (key : Bytes) : List Bytes :=
  let nk := key.length / 4
  let ws := aesExpand nk (4 * (nk + 7) - nk) nk (chunks 4 key).reverse
  chunks 16 ws.reverse.flatten

/-- The byte at row `r`, column `c` of an AES state held column by column. -/
def aesAt (s : Bytes) (r c : Nat) : Byte := s.getD (4 * (c % 4) + r) 0#8

/-- The row shift of the cipher; `dir` is 1 forwards and 3 (back by one) for the inverse cipher. -/
def aesShift (dir : Nat) (s : Bytes) : Bytes :=
  (List.range 16).map (fun i => aesAt s (i % 4) (i / 4 + dir * (i % 4)))

/-- Columns multiplied by the circulant matrix whose first row is `m`. -/
def aesMix (m : List Byte) (s : Bytes) : Bytes :=
  (chunks 4 s).flatMap fun col =>
    (List.range 4).map fun r =>
      (List.range 4).foldl (fun a k => a ^^^ gfMul (m.getD ((k + 4 - r) % 4) 0#8) (col.getD k 0#8)) 0#8

/-- AES encryption of one block (the lane's true direction). -/
def aesEnc (key blk : Bytes) : Bytes :=
  match aesRoundKeys key with
  | [] => blk
  | k0 :: ks =>
    let mid := ks.dropLast.foldl (fun s k =>
      xorB (aesMix [2#8, 3#8, 1#8, 1#8] (aesShift 1 (s.map (lookB aesSBox)))) k) (xorB blk k0)
    xorB (aesShift 1 (mid.map (lookB aesSBox))) (ks.getLastD [])

/-- AES decryption of one block. -/
def aesDec (key blk : Bytes) : Bytes :=
  match (aesRoundKeys key).reverse with
  | [] => blk
  | kl :: ks =>
    let mid := ks.dropLast.foldl (fun s k =>
      aesMix [14#8, 11#8, 13#8, 9#8] (xorB ((aesShift 3 s).map (lookB aesSBoxInv)) k)) (xorB blk kl)
    xorB ((aesShift 3 mid).map (lookB aesSBoxInv)) (ks.getLastD [])

/-! ### DES -/

/-- Bits of a byte string, most significant first. -/
def bitsOf (bs : Bytes) : List Bool := bs.flatMap (fun b => (List.range 8).map (fun i => b.getMsbD i))

/-- Bytes of a bit list, most significant first. -/
def bytesOfBits (bits : List Bool) : Bytes :=
  (List.range (bits.length / 8)).map fun i =>
    byte (((bits.drop (8 * i)).take 8).foldl (fun a b => 2 * a + b.toNat) 0)

/-- The bits that a table of 1-based positions selects. -/
def permBits (t : List Nat) (bits : List Bool) : List Bool :=
  let a := bits.toArray
  t.map (fun i => a.getD (i - 1) false)

/-- DES initial permutation: rows of rising start, falling by 8. -/
def desIP : List Nat :=
  [58, 60, 62, 64, 57, 59, 61, 63].flatMap (fun s => (List.range 8).map (fun i => s - 8 * i))

/-- DES final permutation, the inverse of `desIP`. -/
def desFP : List Nat :=
  (List.range 64).map (fun i => (desIP.idxOf (i + 1)) + 1)

/-- DES expansion: each group of four with its neighbours. -/
def desE : List Nat :=
  (List.range 8).flatMap (fun g => (List.range 6).map (fun i => (4 * g + i + 31) % 32 + 1))

/-- DES round permutation. -/
def desP : List Nat :=
  [16, 7, 20, 21, 29, 12, 28, 17, 1, 15, 23, 26, 5, 18, 31, 10,
   2, 8, 24, 14, 32, 27, 3, 9, 19, 13, 30, 6, 22, 11, 4, 25]

/-- DES key permutation 1. -/
def desPC1 : List Nat :=
  [57, 49, 41, 33, 25, 17, 9, 1, 58, 50, 42, 34, 26, 18, 10, 2, 59, 51, 43, 35, 27, 19, 11, 3, 60, 52, 44, 36]
  ++ [63, 55, 47, 39, 31, 23, 15, 7, 62, 54, 46, 38, 30, 22, 14, 6, 61, 53, 45, 37, 29, 21, 13, 5, 28, 20, 12, 4]

/-- DES key permutation 2. -/
def desPC2 : List Nat :=
  [14, 17, 11, 24, 1, 5, 3, 28, 15, 6, 21, 10, 23, 19, 12, 4, 26, 8, 16, 7, 27, 20, 13, 2]
  ++ [41, 52, 31, 37, 47, 55, 30, 40, 51, 45, 33, 48, 44, 49, 39, 56, 34, 53, 46, 42, 50, 36, 29, 32]

/-- DES S-boxes 1 to 4, each four rows of sixteen. -/
def desS1 : List (List Nat) :=
  [[14, 4, 13, 1, 2, 15, 11, 8, 3, 10, 6, 12, 5, 9, 0, 7, 0, 15, 7, 4, 14, 2, 13, 1, 10, 6, 12, 11, 9, 5, 3, 8,
    4, 1, 14, 8, 13, 6, 2, 11, 15, 12, 9, 7, 3, 10, 5, 0, 15, 12, 8, 2, 4, 9, 1, 7, 5, 11, 3, 14, 10, 0, 6, 13],
   [15, 1, 8, 14, 6, 11, 3, 4, 9, 7, 2, 13, 12, 0, 5, 10, 3, 13, 4, 7, 15, 2, 8, 14, 12, 0, 1, 10, 6, 9, 11, 5,
    0, 14, 7, 11, 10, 4, 13, 1, 5, 8, 12, 6, 9, 3, 2, 15, 13, 8, 10, 1, 3, 15, 4, 2, 11, 6, 7, 12, 0, 5, 14, 9],
   [10, 0, 9, 14, 6, 3, 15, 5, 1, 13, 12, 7, 11, 4, 2, 8, 13, 7, 0, 9, 3, 4, 6, 10, 2, 8, 5, 14, 12, 11, 15, 1,
    13, 6, 4, 9, 8, 15, 3, 0, 11, 1, 2, 12, 5, 10, 14, 7, 1, 10, 13, 0, 6, 9, 8, 7, 4, 15, 14, 3, 11, 5, 2, 12],
   [7, 13, 14, 3, 0, 6, 9, 10, 1, 2, 8, 5, 11, 12, 4, 15, 13, 8, 11, 5, 6, 15, 0, 3, 4, 7, 2, 12, 1, 10, 14, 9,
    10, 6, 9, 0, 12, 11, 7, 13, 15, 1, 3, 14, 5, 2, 8, 4, 3, 15, 0, 6, 10, 1, 13, 8, 9, 4, 5, 11, 12, 7, 2, 14]]

/-- DES S-boxes 5 to 8. -/
def desS2 : List (List Nat) :=
  [[2, 12, 4, 1, 7, 10, 11, 6, 8, 5, 3, 15, 13, 0, 14, 9, 14, 11, 2, 12, 4, 7, 13, 1, 5, 0, 15, 10, 3, 9, 8, 6,
    4, 2, 1, 11, 10, 13, 7, 8, 15, 9, 12, 5, 6, 3, 0, 14, 11, 8, 12, 7, 1, 14, 2, 13, 6, 15, 0, 9, 10, 4, 5, 3],
   [12, 1, 10, 15, 9, 2, 6, 8, 0, 13, 3, 4, 14, 7, 5, 11, 10, 15, 4, 2, 7, 12, 9, 5, 6, 1, 13, 14, 0, 11, 3, 8,
    9, 14, 15, 5, 2, 8, 12, 3, 7, 0, 4, 10, 1, 13, 11, 6, 4, 3, 2, 12, 9, 5, 15, 10, 11, 14, 1, 7, 6, 0, 8, 13],
   [4, 11, 2, 14, 15, 0, 8, 13, 3, 12, 9, 7, 5, 10, 6, 1, 13, 0, 11, 7, 4, 9, 1, 10, 14, 3, 5, 12, 2, 15, 8, 6,
    1, 4, 11, 13, 12, 3, 7, 14, 10, 15, 6, 8, 0, 5, 9, 2, 6, 11, 13, 8, 1, 4, 10, 7, 9, 5, 0, 15, 14, 2, 3, 12],
   [13, 2, 8, 4, 6, 15, 11, 1, 10, 9, 3, 14, 5, 0, 12, 7, 1, 15, 13, 8, 10, 3, 7, 4, 12, 5, 6, 11, 0, 14, 9, 2,
    7, 11, 4, 1, 9, 12, 14, 2, 0, 6, 10, 13, 15, 3, 5, 8, 2, 1, 14, 7, 4, 10, 8, 13, 15, 12, 9, 0, 3, 5, 6, 11]]

/-- The eight S-boxes as arrays. -/
def desSBoxes : List (Array Nat) := (desS1 ++ desS2).map (·.toArray)

/-- One S-box applied to six bits. -/
def desSub (t : Array Nat) (six : List Bool) : List Bool :=
  let b (i : Nat) : Nat := (six.getD i false).toNat
  let row := 2 * b 0 + b 5
  let col := 8 * b 1 + 4 * b 2 + 2 * b 3 + b 4
  let v := t.getD (16 * row + col) 0
  [v.testBit 3, v.testBit 2, v.testBit 1, v.testBit 0]

/-- Exclusive or of bit lists. -/
def xorBits (a b : List Bool) : List Bool := List.zipWith Bool.xor a b

/-- The DES round function. -/
def desF (r k : List Bool) : List Bool :=
  let x := xorBits (permBits desE r) k
  permBits desP ((List.range 8).flatMap fun i =>
    desSub (desSBoxes.getD i #[]) ((x.drop (6 * i)).take 6))

/-- Left rotation of a list. -/
def rotL {α : Type} (n : Nat) (l : List α) : List α := l.drop n ++ l.take n

/-- The sixteen DES round keys, in order. -/
def desKeys (key : Bytes) : List (List Bool) :=
  let cd := permBits desPC1 (bitsOf key)
  let shifts := [1, 2, 4, 6, 8, 10, 12, 14, 15, 17, 19, 21, 23, 25, 27, 28]
  shifts.map (fun n => permBits desPC2 (rotL n (cd.take 28) ++ rotL n (cd.drop 28)))

/-- DES over one block with round keys in the order given. -/
def desRun (keys : List (List Bool)) (blk : Bytes) : Bytes :=
  let x := permBits desIP (bitsOf blk)
  let lr := keys.foldl (fun (p : List Bool × List Bool) k => (p.2, xorBits p.1 (desF p.2 k))) (x.take 32, x.drop 32)
  bytesOfBits (permBits desFP (lr.2 ++ lr.1))

/-- Single DES encryption. -/
def desEnc (key blk : Bytes) : Bytes := desRun (desKeys key) blk

/-- Single DES decryption. -/
def desDec (key blk : Bytes) : Bytes := desRun (desKeys key).reverse blk

/-- The three DES keys of a TDES key: K1 K2 K1 for 16 bytes, K1 K2 K3 for 24 (R158). -/
def tdesParts (key : Bytes) : Bytes × Bytes × Bytes :=
  let k1 := slice key 0 8
  (k1, slice key 8 8, if key.length ≤ 16 then k1 else slice key 16 8)

/-- TDES encryption of one block. -/
def tdesEnc (key blk : Bytes) : Bytes :=
  let p := tdesParts key
  desEnc p.2.2 (desDec p.2.1 (desEnc p.1 blk))

/-- TDES decryption of one block. -/
def tdesDec (key blk : Bytes) : Bytes :=
  let p := tdesParts key
  desDec p.1 (desEnc p.2.1 (desDec p.2.2 blk))

/-- Odd parity forced on every byte of a TDES key (R140, R170, R269). -/
def oddParity (key : Bytes) : Bytes :=
  key.map fun b =>
    let ones := (List.range 7).foldl (fun a i => a + (b.getLsbD (i + 1)).toNat) 0
    (b &&& 0xFE#8) ||| (if ones % 2 = 0 then 1#8 else 0#8)

end Sys2Proof
end

