-- ==== Sys2Proof/Machine/Hash.lean ====
section
/-! DEFINITION. Hash functions and codes: SHA-1 (R140), SHA-2 and SHA-3 (FIPS 180-4, FIPS 202; R205), HMAC,
the completion check code CRC-64/ECMA-182 (R62) and CRC-32C (R85). The manual names the standards; their
constants are computed here from their definitions (PRESUMED, assumption 20). -/

namespace Sys2Proof

/-! ### CRC -/

/-- One byte through a most-significant-first CRC of `w` bits with polynomial `poly`. -/
def crcByte (w : Nat) (poly : BitVec w) (c : BitVec w) (b : Byte) : BitVec w :=
  (List.range 8).foldl (fun c _ => if c.msb then (c <<< 1) ^^^ poly else c <<< 1)
    (c ^^^ ((b.setWidth w) <<< (w - 8)))

/-- CRC-64/ECMA-182 of R62: initial value 0, no reflection, final exclusive or 0. -/
def crc64 (bs : Bytes) : DWord := bs.foldl (crcByte 64 0x42F0E1EBA9EA3693#64) 0#64

/-- One byte through the reflected CRC-32C. -/
def crc32cByte (c : Word) (b : Byte) : Word :=
  (List.range 8).foldl (fun c _ => if c.getLsbD 0 then (c >>> 1) ^^^ 0x82F63B78#32 else c >>> 1)
    (c ^^^ b.setWidth 32)

/-- CRC-32C (Castagnoli), reflected, initial value and final exclusive or all ones (R85 names the code). -/
def crc32c (bs : Bytes) : Word := ~~~ (bs.foldl crc32cByte 0xFFFFFFFF#32)

/-! ### Constants of the SHA-2 family: fractional bits of roots of the first primes -/

/-- `p` is prime, for the small numbers used here. -/
def isPrimeSmall (p : Nat) : Bool := decide (2 ≤ p) && (List.range p).all (fun d => d < 2 || p % d ≠ 0)

/-- The first eighty primes. -/
def primes80 : List Nat := ((List.range 410).filter isPrimeSmall).take 80

/-- The largest `r < 2^k` with `r^e ≤ n`, found bit by bit. -/
def iroot (e n : Nat) : Nat → Nat → Nat
  | 0, r => r
  | k + 1, r => let r2 := r + 2 ^ k; iroot e n k (if r2 ^ e ≤ n then r2 else r)

/-- The first `w` fractional bits of the `e`-th root of `p`. -/
def rootFrac (e w p : Nat) : Nat := iroot e (p * 2 ^ (e * w)) (w + 6) 0 % 2 ^ w

/-- The round constants of SHA-256. -/
def sha256K : Array Word := (primes80.take 64).map (fun p => BitVec.ofNat 32 (rootFrac 3 32 p)) |>.toArray

/-- The round constants of SHA-384 and SHA-512. -/
def sha512K : Array DWord := primes80.map (fun p => BitVec.ofNat 64 (rootFrac 3 64 p)) |>.toArray

/-- Initial value of SHA-256. -/
def sha256Init : List Word := (primes80.take 8).map (fun p => BitVec.ofNat 32 (rootFrac 2 32 p))

/-- Initial value of SHA-224: the second 32 fractional bits for the ninth to sixteenth primes. -/
def sha224Init : List Word := ((primes80.drop 8).take 8).map (fun p => BitVec.ofNat 32 (rootFrac 2 64 p))

/-- Initial value of SHA-512. -/
def sha512Init : List DWord := (primes80.take 8).map (fun p => BitVec.ofNat 64 (rootFrac 2 64 p))

/-- Initial value of SHA-384. -/
def sha384Init : List DWord := ((primes80.drop 8).take 8).map (fun p => BitVec.ofNat 64 (rootFrac 2 64 p))

/-! ### SHA-1 and SHA-2 -/

/-- Merkle-Damgård padding: 0x80, zeros, then the bit length in `lenBytes` bytes. -/
def mdPad (block lenBytes len : Nat) : Bytes :=
  let z := (2 * block - 1 - lenBytes - len % block) % block
  0x80#8 :: zeros z ++ beBytes lenBytes (8 * len)

/-- The words of a block, big-endian, each of `w / 8` bytes. -/
def wordsBE (w : Nat) (bs : Bytes) : List (BitVec w) := (chunks (w / 8) bs).map (fun c => BitVec.ofNat w (beNat c))

/-- The six rotation and shift amounts of one SHA-2 word size. -/
structure Sha2Rot where
  S0 : Nat × Nat × Nat
  S1 : Nat × Nat × Nat
  s0 : Nat × Nat × Nat
  s1 : Nat × Nat × Nat

/-- Rotations of the 32-bit family. -/
def rot32 : Sha2Rot := ⟨(2, 13, 22), (6, 11, 25), (7, 18, 3), (17, 19, 10)⟩

/-- Rotations of the 64-bit family. -/
def rot64 : Sha2Rot := ⟨(28, 34, 39), (14, 18, 41), (1, 8, 7), (19, 61, 6)⟩

/-- Three right rotations, exclusive-ored. -/
def rot3 {w : Nat} (t : Nat × Nat × Nat) (x : BitVec w) : BitVec w :=
  x.rotateRight t.1 ^^^ x.rotateRight t.2.1 ^^^ x.rotateRight t.2.2

/-- Two right rotations and one right shift, exclusive-ored. -/
def rot2s {w : Nat} (t : Nat × Nat × Nat) (x : BitVec w) : BitVec w :=
  x.rotateRight t.1 ^^^ x.rotateRight t.2.1 ^^^ (x >>> t.2.2)

/-- The message schedule of SHA-2, latest word first. -/
def sha2Sched {w : Nat} (r : Sha2Rot) : Nat → List (BitVec w) → List (BitVec w)
  | 0, ws => ws
  | n + 1, ws =>
    let g (i : Nat) : BitVec w := ws.getD (i - 1) 0
    sha2Sched r n ((rot2s r.s1 (g 2) + g 7 + rot2s r.s0 (g 15) + g 16) :: ws)

/-- One SHA-2 round on the eight working words. -/
def sha2Round {w : Nat} (r : Sha2Rot) (v : List (BitVec w)) (kw : BitVec w) : List (BitVec w) :=
  match v with
  | [a, b, c, d, e, f, g, h] =>
    let t1 := h + rot3 r.S1 e + ((e &&& f) ^^^ (~~~e &&& g)) + kw
    let t2 := rot3 r.S0 a + ((a &&& b) ^^^ (a &&& c) ^^^ (b &&& c))
    [t1 + t2, a, b, c, d + t1, e, f, g]
  | _ => v

/-- SHA-2 compression of one block. -/
def sha2Block {w : Nat} (r : Sha2Rot) (ks : Array (BitVec w)) (h : List (BitVec w)) (blk : Bytes) : List (BitVec w) :=
  let ws := (sha2Sched r (ks.size - 16) (wordsBE w blk).reverse).reverse
  let v := (List.zipWith (· + ·) ks.toList ws).foldl (sha2Round r) h
  List.zipWith (· + ·) h v

/-- SHA-2 over whole padded blocks from an initial value, cut to `out` bytes. -/
def sha2 {w : Nat} (r : Sha2Rot) (ks : Array (BitVec w)) (init : List (BitVec w)) (out : Nat) (msg : Bytes) : Bytes :=
  let blk := 2 * w
  let h := (chunks blk (msg ++ mdPad blk (w / 4) msg.length)).foldl (sha2Block r ks) init
  (h.flatMap (fun x => beBytes (w / 8) x.toNat)).take out

def sha224 (m : Bytes) : Bytes := sha2 rot32 sha256K sha224Init 28 m
def sha256 (m : Bytes) : Bytes := sha2 rot32 sha256K sha256Init 32 m
def sha384 (m : Bytes) : Bytes := sha2 rot64 sha512K sha384Init 48 m
def sha512 (m : Bytes) : Bytes := sha2 rot64 sha512K sha512Init 64 m

/-- The SHA-1 message schedule, latest word first. -/
def sha1Sched : Nat → List Word → List Word
  | 0, ws => ws
  | n + 1, ws =>
    let g (i : Nat) : Word := ws.getD (i - 1) 0
    sha1Sched n (((g 3 ^^^ g 8 ^^^ g 14 ^^^ g 16).rotateLeft 1) :: ws)

/-- One SHA-1 round; `p.1` is the round number. -/
def sha1Round (v : List Word) (p : Nat × Word) : List Word :=
  match v with
  | [a, b, c, d, e] =>
    let fk : Word × Word :=
      if p.1 < 20 then ((b &&& c) ||| (~~~b &&& d), 0x5A827999#32)
      else if p.1 < 40 then (b ^^^ c ^^^ d, 0x6ED9EBA1#32)
      else if p.1 < 60 then ((b &&& c) ||| (b &&& d) ||| (c &&& d), 0x8F1BBCDC#32)
      else (b ^^^ c ^^^ d, 0xCA62C1D6#32)
    [a.rotateLeft 5 + fk.1 + e + fk.2 + p.2, a, b.rotateLeft 30, c, d]
  | _ => v

/-- SHA-1, which a transaction core computes for ARQC_VERIFY_LONG_PAN (R140). -/
def sha1 (msg : Bytes) : Bytes :=
  let step (h : List Word) (blk : Bytes) : List Word :=
    let ws := (sha1Sched 64 (wordsBE 32 blk).reverse).reverse
    List.zipWith (· + ·) h ((List.zip (List.range 80) ws).foldl sha1Round h)
  let h := (chunks 64 (msg ++ mdPad 64 8 msg.length)).foldl step
    [0x67452301#32, 0xEFCDAB89#32, 0x98BADCFE#32, 0x10325476#32, 0xC3D2E1F0#32]
  h.flatMap (fun x => beBytes 4 x.toNat)

/-! ### SHA-3 -/

/-- A Keccak state: 25 lanes, lane `x + 5 y` at index `x + 5 y`. -/
abbrev Keccak := Array DWord

/-- Lane `x, y` of a Keccak state. -/
def kLane (s : Keccak) (x y : Nat) : DWord := s.getD (x % 5 + 5 * (y % 5)) 0

/-- The lane array built from a function of `x` and `y`. -/
def kBuild (f : Nat → Nat → DWord) : Keccak := ((List.range 25).map (fun i => f (i % 5) (i / 5))).toArray

/-- Rotation offsets: the walk (x, y) → (y, 2x + 3y) from (1, 0), step `t` rotating by (t+1)(t+2)/2. -/
def kOffsets : Array Nat :=
  let step := fun (p : (Nat × Nat) × Array Nat) (t : Nat) =>
    let x := p.1.1
    let y := p.1.2
    ((y, (2 * x + 3 * y) % 5), p.2.set! (x + 5 * y) ((t + 1) * (t + 2) / 2 % 64))
  ((List.range 24).foldl step ((1, 0), (List.replicate 25 0).toArray)).2

/-- The round constant generator's bit after `t` steps. -/
def kLfsr (t : Nat) : Bool :=
  ((List.range (t % 255)).foldl (fun (r : Nat) _ => if r / 128 = 1 then ((2 * r) % 256) ^^^ 0x71 else 2 * r) 1) % 2 = 1

/-- The round constant of round `i`. -/
def kRound (i : Nat) : DWord :=
  (List.range 7).foldl (fun a j => if kLfsr (7 * i + j) then a ||| (1#64 <<< (2 ^ j - 1)) else a) 0#64

/-- The twenty-four round constants. -/
def kRounds : List DWord := (List.range 24).map kRound

/-- One Keccak-f[1600] round. -/
def keccakRound (s : Keccak) (rc : DWord) : Keccak :=
  let col := fun x => kLane s x 0 ^^^ kLane s x 1 ^^^ kLane s x 2 ^^^ kLane s x 3 ^^^ kLane s x 4
  let c := ((List.range 5).map col).toArray
  let th := kBuild fun x y => kLane s x y ^^^ c.getD ((x + 4) % 5) 0 ^^^ (c.getD ((x + 1) % 5) 0).rotateLeft 1
  -- rho and pi: lane (x, y) of the result comes from lane (x + 3 y, x)
  let rp := kBuild fun x y =>
    let sx := (x + 3 * y) % 5
    (kLane th sx x).rotateLeft (kOffsets.getD (sx + 5 * x) 0)
  let ch := kBuild fun x y => kLane rp x y ^^^ (~~~ (kLane rp (x + 1) y) &&& kLane rp (x + 2) y)
  ch.set! 0 (ch.getD 0 0 ^^^ rc)

/-- Keccak-f[1600]. -/
def keccakF (s : Keccak) : Keccak := kRounds.foldl keccakRound s

/-- Lanes of a rate block, little-endian. -/
def kAbsorb (s : Keccak) (blk : Bytes) : Keccak :=
  let lanes := ((chunks 8 blk).map (fun c => BitVec.ofNat 64 (leNat c))).toArray
  keccakF (((List.range 25).map (fun i => s.getD i 0 ^^^ lanes.getD i 0)).toArray)

/-- SHA-3 with rate `rate` bytes and digest `out` bytes (the digest is shorter than the rate). -/
def sha3 (rate out : Nat) (msg : Bytes) : Bytes :=
  let z := rate - 1 - msg.length % rate
  let pad := if z = 0 then [0x86#8] else 0x06#8 :: zeros (z - 1) ++ [0x80#8]
  let s := (chunks rate (msg ++ pad)).foldl kAbsorb ((List.replicate 25 0#64).toArray)
  (s.toList.flatMap (fun x => leBytes 8 x.toNat)).take out

def sha3_256 (m : Bytes) : Bytes := sha3 136 32 m
def sha3_384 (m : Bytes) : Bytes := sha3 104 48 m
def sha3_512 (m : Bytes) : Bytes := sha3 72 64 m

/-! ### HMAC -/

/-- HMAC with a hash of block length `blk`. -/
def hmac (h : Bytes → Bytes) (blk : Nat) (key msg : Bytes) : Bytes :=
  let k := fitR blk (if key.length > blk then h key else key)
  h (k.map (· ^^^ 0x5C#8) ++ h (k.map (· ^^^ 0x36#8) ++ msg))

def hmacSha256 (key msg : Bytes) : Bytes := hmac sha256 64 key msg
def hmacSha384 (key msg : Bytes) : Bytes := hmac sha384 128 key msg
def hmacSha512 (key msg : Bytes) : Bytes := hmac sha512 128 key msg

end Sys2Proof
end

