-- ==== Sys2Proof/Machine/Modes.lean ====
section
/-! DEFINITION. Modes of operation over the block ciphers: CBC, CTR, GCM (R191), CMAC (R157), ISO/IEC 9797-1
algorithms 1 and 3 (R158, R159), KW and KWP (R163), FF1 (R171), SP 800-108 counter mode (R172, R278), and the
key check values of R255. The manual names the standards (PRESUMED, assumption 20). -/

namespace Sys2Proof

/-- A block cipher with a fixed key: block length, and both directions. -/
structure BlockCipher where
  size : Nat
  enc : Bytes → Bytes
  dec : Bytes → Bytes

def aesCipher (key : Bytes) : BlockCipher := ⟨16, aesEnc key, aesDec key⟩
def tdesCipher (key : Bytes) : BlockCipher := ⟨8, tdesEnc key, tdesDec key⟩

/-- The cipher of a KEYREF algorithm (R120): 1 and 2 TDES, 3 to 5 AES. -/
def cipherOf (alg : Nat) (key : Bytes) : BlockCipher := if alg ≤ 2 then tdesCipher key else aesCipher key

/-! ### CBC and CTR -/

def cbcEnc (c : BlockCipher) (iv data : Bytes) : Bytes :=
  ((chunks c.size data).foldl (fun (p : Bytes × Bytes) blk =>
    let o := c.enc (xorB blk p.1)
    (o, p.2 ++ o)) (iv, [])).2

def cbcDec (c : BlockCipher) (iv data : Bytes) : Bytes :=
  ((chunks c.size data).foldl (fun (p : Bytes × Bytes) blk =>
    (blk, p.2 ++ xorB (c.dec blk) p.1)) (iv, [])).2

/-- A counter block with its last 32 bits raised by `i` modulo 2^32. -/
def ctr32 (blk : Bytes) (i : Nat) : Bytes :=
  blk.take 12 ++ beBytes 4 ((beNat (blk.drop 12) + i) % 2 ^ 32)

/-- A counter block raised by `i` modulo 2^128. -/
def ctr128 (blk : Bytes) (i : Nat) : Bytes := beBytes 16 ((beNat blk + i) % 2 ^ 128)

/-- Counter mode with the next-block function `nxt`, from the block `blk`. -/
def ctrRun (c : BlockCipher) (nxt : Bytes → Nat → Bytes) (blk data : Bytes) : Bytes :=
  let cs := chunks c.size data
  (List.zip (List.range cs.length) cs).flatMap (fun p => xorB p.2 (c.enc (nxt blk p.1)))

/-! ### GCM -/

/-- Product in GF(2^128) in GCM's bit order, from bit 0 (the most significant) on. -/
def ghashMul (x y : BitVec 128) : BitVec 128 :=
  ((List.range 128).foldl (fun (p : BitVec 128 × BitVec 128) i =>
    (if x.getMsbD i then p.1 ^^^ p.2 else p.1,
     if p.2.getLsbD 0 then (p.2 >>> 1) ^^^ 0xE1000000000000000000000000000000#128 else p.2 >>> 1))
    (0#128, y)).1

/-- GHASH continued from `acc` over data zero-filled to whole blocks. -/
def ghash (h : BitVec 128) (acc : BitVec 128) (data : Bytes) : BitVec 128 :=
  (chunks 16 data).foldl (fun a blk => ghashMul (a ^^^ BitVec.ofNat 128 (beNat (fitR 16 blk))) h) acc

/-- GCM's H. -/
def gcmH (key : Bytes) : BitVec 128 := BitVec.ofNat 128 (beNat (aesEnc key (zeros 16)))

/-- GCM's J0 for a 96-bit IV. -/
def gcmJ0 (iv : Bytes) : Bytes := iv ++ [0#8, 0#8, 0#8, 1#8]

/-- The GCM tag from the GHASH state, the lengths in bytes, and E(J0). -/
def gcmTag (h acc : BitVec 128) (aadLen ctLen : Nat) (ej0 : Bytes) : Bytes :=
  let s := ghashMul (acc ^^^ BitVec.ofNat 128 (8 * aadLen * 2 ^ 64 + 8 * ctLen)) h
  xorB (beBytes 16 s.toNat) ej0

/-- GCM encryption: ciphertext and 16-byte tag. -/
def gcmEnc (key iv aad pt : Bytes) : Bytes × Bytes :=
  let j0 := gcmJ0 iv
  let ct := ctrRun (aesCipher key) ctr32 (ctr32 j0 1) pt
  let h := gcmH key
  (ct, gcmTag h (ghash h (ghash h 0#128 aad) ct) aad.length ct.length (aesEnc key j0))

/-- GCM decryption: the plaintext, when the 16-byte tag verifies. -/
def gcmDec (key iv aad ct tag : Bytes) : Option Bytes :=
  let j0 := gcmJ0 iv
  let h := gcmH key
  if gcmTag h (ghash h (ghash h 0#128 aad) ct) aad.length ct.length (aesEnc key j0) = tag then
    some (ctrRun (aesCipher key) ctr32 (ctr32 j0 1) ct)
  else none

/-! ### CMAC and ISO/IEC 9797-1 -/

/-- A CMAC subkey from the one before. -/
def cmacDouble (b : Bytes) : Bytes :=
  let n := b.length
  let v := 2 * beNat b
  let r := if b.length = 16 then 0x87 else 0x1B
  if v < 2 ^ (8 * n) then beBytes n v else xorB (beBytes n (v % 2 ^ (8 * n))) (beBytes n r)

/-- CMAC of SP 800-38B, the whole block. -/
def cmac (c : BlockCipher) (msg : Bytes) : Bytes :=
  let k1 := cmacDouble (c.enc (zeros c.size))
  let n := max 1 (ceilDiv msg.length c.size)
  let head := msg.take ((n - 1) * c.size)
  let last := msg.drop ((n - 1) * c.size)
  let m := if last.length = c.size then xorB last k1
           else xorB (fitR c.size (last ++ [0x80#8])) (cmacDouble k1)
  (chunks c.size (head ++ m)).foldl (fun a blk => c.enc (xorB a blk)) (zeros c.size)

def aesCmac (key msg : Bytes) : Bytes := cmac (aesCipher key) msg

/-- ISO/IEC 9797-1 padding methods 1, 2 and 3 for 8-byte blocks (R158). -/
def isoPad (method : Nat) (msg : Bytes) : Bytes :=
  let z (n : Nat) : Bytes := zeros ((8 - n % 8) % 8)
  match method with
  | 1 => if msg.isEmpty then zeros 8 else msg ++ z msg.length
  | 2 => msg ++ [0x80#8] ++ z (msg.length + 1)
  | _ => beBytes 8 (8 * msg.length) ++ (if msg.isEmpty then zeros 8 else msg ++ z msg.length)

/-- ISO/IEC 9797-1 algorithm 3: single DES under the first 8 key bytes, TDES on the last block (R158). -/
def isoMac3 (key : Bytes) (method : Nat) (msg : Bytes) : Bytes :=
  let blks := chunks 8 (isoPad method msg)
  let a := blks.dropLast.foldl (fun a b => desEnc (slice key 0 8) (xorB a b)) (zeros 8)
  tdesEnc key (xorB a (blks.getLastD (zeros 8)))

/-- ISO/IEC 9797-1 algorithm 1 under TDES (R159). -/
def isoMac1 (key : Bytes) (method : Nat) (msg : Bytes) : Bytes :=
  (chunks 8 (isoPad method msg)).foldl (fun a b => tdesEnc key (xorB a b)) (zeros 8)

/-! ### KW and KWP (SP 800-38F) -/

/-- One wrapping step `t` on the register pair (A, R), semi-blocks of 8 bytes. -/
def kwStep (key : Bytes) (n : Nat) (p : Bytes × List Bytes) (t : Nat) : Bytes × List Bytes :=
  let i := (t - 1) % n
  let b := aesEnc key (p.1 ++ p.2.getD i [])
  (xorB (b.take 8) (beBytes 8 t), p.2.set i (b.drop 8))

/-- One unwrapping step. -/
def kwUnstep (key : Bytes) (n : Nat) (p : Bytes × List Bytes) (t : Nat) : Bytes × List Bytes :=
  let i := (t - 1) % n
  let b := aesDec key (xorB p.1 (beBytes 8 t) ++ p.2.getD i [])
  (b.take 8, p.2.set i (b.drop 8))

/-- The wrapping function W over a first semi-block and the rest. -/
def kwW (key a : Bytes) (rs : List Bytes) : Bytes :=
  let n := rs.length
  let p := ((List.range (6 * n)).map (· + 1)).foldl (kwStep key n) (a, rs)
  p.1 ++ p.2.flatten

/-- The inverse of W: the first semi-block and the rest. -/
def kwWInv (key ct : Bytes) : Bytes × Bytes :=
  let rs := (chunks 8 ct).drop 1
  let n := rs.length
  let p := ((List.range (6 * n)).map (· + 1)).reverse.foldl (kwUnstep key n) (ct.take 8, rs)
  (p.1, p.2.flatten)

def kwIv : Bytes := List.replicate 8 0xA6#8

/-- KW of a plaintext of whole semi-blocks, at least two. -/
def kwWrap (key pt : Bytes) : Bytes := kwW key kwIv (chunks 8 pt)

/-- KW unwrap; none when the integrity check fails. -/
def kwUnwrap (key ct : Bytes) : Option Bytes :=
  let p := kwWInv key ct
  if ct.length % 8 = 0 ∧ 24 ≤ ct.length ∧ p.1 = kwIv then some p.2 else none

/-- KWP of any plaintext. -/
def kwpWrap (key pt : Bytes) : Bytes :=
  let a := [0xA6#8, 0x59#8, 0x59#8, 0xA6#8] ++ beBytes 4 pt.length
  let p := pt ++ zeros ((8 - pt.length % 8) % 8)
  if p.length = 8 then aesEnc key (a ++ p) else kwW key a (chunks 8 p)

/-- KWP unwrap; none when the integrity check fails. -/
def kwpUnwrap (key ct : Bytes) : Option Bytes :=
  let p := if ct.length = 16 then (let b := aesDec key ct; (b.take 8, b.drop 8)) else kwWInv key ct
  let n := beNat (p.1.drop 4)
  if ct.length % 8 = 0 ∧ 16 ≤ ct.length ∧ p.1.take 4 = [0xA6#8, 0x59#8, 0x59#8, 0xA6#8]
     ∧ n ≤ p.2.length ∧ p.2.length < n + 8 ∧ (p.2.drop n).all (· == 0#8) then some (p.2.take n) else none

/-! ### FF1 (SP 800-38G), radix 10 -/

/-- The byte length `b` of one half as a number: ceil of log2(10^v) bits, in bytes. -/
def ff1B (v : Nat) : Nat := (Nat.log2 (10 ^ v - 1) + 1 + 7) / 8

/-- The round value y of FF1 round `i` for half `bHalf`. -/
def ff1Y (key tweak p : Bytes) (v i : Nat) (bHalf : List Nat) : Nat :=
  let b := ff1B v
  let d := 4 * ((b + 3) / 4) + 4
  let q := tweak ++ zeros ((16 - (tweak.length + b + 1) % 16) % 16) ++ [byte i] ++ beBytes b (digitsNat bHalf)
  let r := (chunks 16 (p ++ q)).foldl (fun a blk => aesEnc key (xorB a blk)) (zeros 16)
  let blocks := (List.range (ceilDiv d 16)).flatMap fun j => if j = 0 then r else aesEnc key (xorB r (beBytes 16 j))
  beNat (blocks.take d)

/-- The fixed FF1 prefix P. -/
def ff1P (u n t : Nat) : Bytes := [1#8, 2#8, 1#8] ++ beBytes 3 10 ++ [10#8, byte u] ++ beBytes 4 n ++ beBytes 4 t

/-- FF1 encryption of a digit string. -/
def ff1Enc (key tweak : Bytes) (ds : List Nat) : List Nat :=
  let n := ds.length
  let u := n / 2
  let v := n - u
  let p := ff1P u n tweak.length
  let r := (List.range 10).foldl (fun (ab : List Nat × List Nat) i =>
    let m := if i % 2 = 0 then u else v
    (ab.2, natDigits m ((digitsNat ab.1 + ff1Y key tweak p v i ab.2) % 10 ^ m))) (ds.take u, ds.drop u)
  r.1 ++ r.2

/-- FF1 decryption of a digit string. -/
def ff1Dec (key tweak : Bytes) (ds : List Nat) : List Nat :=
  let n := ds.length
  let u := n / 2
  let v := n - u
  let p := ff1P u n tweak.length
  let r := (List.range 10).reverse.foldl (fun (ab : List Nat × List Nat) i =>
    let m := if i % 2 = 0 then u else v
    let y := ff1Y key tweak p v i ab.1 % 10 ^ m
    (natDigits m ((digitsNat ab.2 + 10 ^ m - y) % 10 ^ m), ab.1)) (ds.take u, ds.drop u)
  r.1 ++ r.2

/-! ### Key derivation -/

/-- SP 800-108 in counter mode with AES-CMAC: 32-bit counter, label, a zero byte, no context, and the length
in bits as 32 bits (the field widths are PRESUMED, assumption 20). -/
def kdfCtrCmac (key label : Bytes) (outLen : Nat) : Bytes :=
  ((List.range (ceilDiv outLen 16)).flatMap fun i =>
    aesCmac key (beBytes 4 (i + 1) ++ label ++ [0#8] ++ beBytes 4 (8 * outLen))).take outLen

/-- The one-step derivation of SP 800-56C with SHA-256 (R166, R227). -/
def kdfOneStep (z info : Bytes) (outLen : Nat) : Bytes :=
  ((List.range (ceilDiv outLen 32)).flatMap fun i => sha256 (beBytes 4 (i + 1) ++ z ++ info)).take outLen

/-- The check value of a symmetric key (R255), stored as 16 bytes. -/
def checkValue (alg : Nat) (key : Bytes) : Bytes :=
  if alg ≤ 2 then fitR 16 (tdesEnc key (zeros 8))
  else if alg ≤ 5 then aesCmac key (zeros 16)
  else (hmacSha256 key (zeros 32)).take 16

end Sys2Proof
end

