-- ==== Sys2Proof/Machine/Payment.lean ====
section
/-! DEFINITION. The payment computations of chapter 05 and the DUKPT derivations of chapter 06, on clear keys
and bytes: PIN blocks (R125 to R127), the two PIN verification methods (R134, R136), PIN change (R137), the card
verification code (R138), application cryptograms (R140, R141) and DUKPT (R151, R152, R154). -/

namespace Sys2Proof

/-! ### PIN blocks (R125, R126, R127) -/

/-- The PAN field of formats 0 and 3: two zero bytes, then the 12 rightmost digits without the check digit. -/
def panField0 (pan : List Nat) : Bytes := zeros 2 ++ packNibbles (lastN 12 pan.dropLast)

/-- The PAN field of format 4: M = PAN_LEN - 12, the digits, 0 to nibble 32. -/
def panField4 (pan : List Nat) : Bytes := packFill 32 0 ((pan.length - 12) :: pan)

/-- The PAN field XORed into a block of format 0, 1 or 3; format 1 uses none. -/
def panFieldT (fmt : Nat) (pan : List Nat) : Bytes := if fmt = 1 then zeros 8 else panField0 pan

/-- The clear PIN field of a PIN block under its format (R130, incoming side). -/
def pinOpen (fmt alg : Nat) (key : Bytes) (pan : List Nat) (blk : Bytes) : Bytes :=
  let c := cipherOf alg key
  if fmt = 4 then c.dec (xorB (c.dec (blk.take 16)) (panField4 pan))
  else xorB (c.dec (blk.take 8)) (panFieldT fmt pan)

/-- N of a clear PIN field. -/
def pinLen (field : Bytes) : Nat := (nibbles field).getD 1 0

/-- The PIN digits of a clear PIN field. -/
def pinDigits (field : Bytes) : List Nat := ((nibbles field).drop 2).take (pinLen field)

/-- The field check of R126. -/
def pinFieldOk (fmt : Nat) (field : Bytes) : Bool :=
  let ns := nibbles field
  let n := pinLen field
  let fill := (ns.drop (2 + n)).take (14 - n)
  ns.getD 0 0 == fmt && decide (4 ≤ n) && decide (n ≤ 12) && (pinDigits field).all (· < 10) &&
    (match fmt with
     | 0 => fill.all (· == 15)
     | 3 => fill.all (fun d => decide (10 ≤ d))
     | 4 => fill.all (· == 10)
     | _ => true)

/-- The outgoing PIN field of N digits with 16 bytes of fill material (R127). -/
def pinBuild (fmt : Nat) (digits : List Nat) (fill : Bytes) : Bytes :=
  let n := digits.length
  let head := fmt :: n :: digits
  let rest (f : Nat → Nat) : List Nat := (List.range (14 - n)).map f
  match fmt with
  | 0 => packNibbles (head ++ rest (fun _ => 15))
  | 1 => packNibbles (head ++ rest (fun i => u8 fill i % 16))
  | 3 => packNibbles (head ++ rest (fun i => 10 + u8 fill i % 6))
  | _ => packNibbles (head ++ rest (fun _ => 10)) ++ slice fill 0 8

/-- The enciphered PIN block of a PIN field (R125, R130 outgoing side). -/
def pinSeal (fmt alg : Nat) (key : Bytes) (pan : List Nat) (field : Bytes) : Bytes :=
  let c := cipherOf alg key
  if fmt = 4 then c.enc (xorB (c.enc field) (panField4 pan)) else c.enc (xorB field (panFieldT fmt pan))

/-- The REASON codes of R131. -/
inductive PinReason where
  | mismatch | format | length | unchanged
  deriving DecidableEq, Repr

/-- REASON as its byte (R131). -/
def PinReason.code : PinReason → Nat
  | .mismatch => 1 | .format => 2 | .length => 3 | .unchanged => 4

/-- The outcome of a PIN method: a result, or PIN_FAIL with its reason. -/
abbrev PinOut := Except PinReason Bytes

/-- PIN_TRANSLATE's lane steps (R130), from the clear incoming field on. -/
def pinTranslate (fmtIn fmtOut algOut : Nat) (keyOut : Bytes) (pan : List Nat) (clear fill : Bytes) : PinOut :=
  if pinFieldOk fmtIn clear then .ok (pinSeal fmtOut algOut keyOut pan (pinBuild fmtOut (pinDigits clear) fill))
  else .error .format

/-- The incoming-side lane charge of R130. -/
def chargeIn (alg : Nat) : Nat := if alg ≤ 2 then 394 else if alg = 3 then 336 else if alg = 4 then 400 else 464

/-- The outgoing-side lane charge of R130. -/
def chargeOut (alg : Nat) : Nat := if alg ≤ 2 then 392 else chargeIn alg

/-- The cycles one block of an algorithm occupies a lane pair (R112). -/
def blockCycles (alg : Nat) : Nat := if alg ≤ 2 then 392 else if alg = 3 then 168 else if alg = 4 then 200 else 232

/-- Cycles of a single DES block (R112). -/
def desCycles : Nat := 136

/-! ### PIN verification (R134, R136) and PIN change (R137) -/

/-- The natural PIN of the offset method: the decimalised nibbles of the enciphered validation data. -/
def naturalPin (pvk : Bytes) (validation : Bytes) (table : List Nat) (n : Nat) : List Nat :=
  ((nibbles (tdesEnc pvk validation)).take n).map (fun x => table.getD x 0)

/-- Digit-wise sum modulo 10. -/
def addDigits (a b : List Nat) : List Nat := List.zipWith (fun x y => (x + y) % 10) a b

/-- Digit-wise difference modulo 10. -/
def subDigits (a b : List Nat) : List Nat := List.zipWith (fun x y => (x + 10 - y) % 10) a b

/-- The offset method over a clear PIN field (R134). -/
def verifyOffset (fmt : Nat) (clear : Bytes) (natural offset : List Nat) : PinOut :=
  let n := natural.length
  if ¬ pinFieldOk fmt clear then .error .format
  else if pinLen clear < n then .error .length
  else if addDigits natural offset = (pinDigits clear).take n then .ok []
  else .error .mismatch

/-- The first `n` decimal nibbles, then the nibbles A to F less 10, in order (R136). -/
def decimalise (n : Nat) (ns : List Nat) : List Nat :=
  (ns.filter (· < 10) ++ (ns.filter (10 ≤ ·)).map (· - 10)).take n

/-- The PIN verification value of a PIN (R136). -/
def pvvOf (pvk : Bytes) (pan : List Nat) (pvki : Nat) (pin : List Nat) : List Nat :=
  decimalise 4 (nibbles (tdesEnc pvk (packNibbles (lastN 11 pan.dropLast ++ [pvki] ++ (pin ++ [0, 0, 0, 0]).take 4))))

/-- The PIN verification value method over a clear PIN field (R136). -/
def verifyPvv (fmt : Nat) (clear pvk : Bytes) (pan : List Nat) (pvki : Nat) (pvv : List Nat) : PinOut :=
  if ¬ pinFieldOk fmt clear then .error .format
  else if pvvOf pvk pan pvki (pinDigits clear) = pvv then .ok []
  else .error .mismatch

/-- PIN_CHANGE: the old PIN's verification, then the new PIN's conditions, in the order of R137. `newRef` is
computed from the new PIN's digits. -/
def pinChange (fmt : Nat) (oldV : PinOut) (oldClear newClear : Bytes) (minLen : Nat) (newRef : List Nat → List Nat) : PinOut :=
  match oldV with
  | .error r => .error r
  | .ok _ =>
    if ¬ pinFieldOk fmt newClear then .error .format
    else if pinLen newClear < minLen then .error .length
    else if pinDigits newClear = pinDigits oldClear then .error .unchanged
    else .ok (packFill 12 15 (newRef (pinDigits newClear)))

/-- The PIN_FAIL result of R131. -/
def pinFailResult (r : PinReason) : Bytes := byte r.code :: zeros 39

/-! ### Card verification code (R138) -/

/-- The three-digit card verification code. -/
def cvcOf (key : Bytes) (pan expiry service : List Nat) : List Nat :=
  let data := packFill 32 0 (pan ++ expiry ++ service)
  decimalise 3 (nibbles (tdesEnc key (xorB (desEnc (slice key 0 8) (slice data 0 8)) (slice data 8 8))))

/-! ### Application cryptograms (R140, R141) -/

/-- Every byte inverted (XOR 0xFF…FF). -/
def invB (b : Bytes) : Bytes := b.map (· ^^^ 0xFF#8)

/-- A digit string left-padded with 0 to `n` bytes. -/
def packLeft (n : Nat) (ds : List Nat) : Bytes := packNibbles (List.replicate (2 * n - ds.length) 0 ++ ds)

/-- The card master key data Y (R140); `long` selects option B. -/
def arqcY (alg : Nat) (long : Bool) (pan psn : List Nat) : Bytes :=
  let ds := pan ++ psn
  if alg ≤ 2 then
    if long then packNibbles (decimalise 16 (nibbles (sha1 (packLeft ((ds.length + 1) / 2) ds))))
    else packLeft 8 (lastN 16 ds)
  else packLeft 16 ds

/-- Key length in bytes of a KEYREF algorithm; 0 for HMAC, whose length is the slot's. -/
def algLen (alg : Nat) : Nat :=
  match alg with | 1 => 16 | 2 => 24 | 3 => 16 | 4 => 24 | 5 => 32 | _ => 0

/-- Two encryptions joined and cut to the algorithm's key length, with parity forced for TDES. -/
def deriveKey (alg : Nat) (key d1 d2 : Bytes) : Bytes :=
  let c := cipherOf alg key
  if alg ≤ 2 then oddParity (c.enc d1 ++ c.enc d2)
  else if alg = 3 then c.enc d1
  else (c.enc d1 ++ c.enc d2).take (algLen alg)

/-- The card master key (R140). -/
def cardMasterKey (alg : Nat) (imk : Bytes) (long : Bool) (pan psn : List Nat) : Bytes :=
  let y := arqcY alg long pan psn
  deriveKey alg imk y (invB y)

/-- The session key (R140). -/
def sessionKey (alg : Nat) (mk atc : Bytes) : Bytes :=
  let n := if alg ≤ 2 then 5 else 13
  deriveKey alg mk (atc ++ [0xF0#8] ++ zeros n) (atc ++ [0x0F#8] ++ zeros n)

/-- The MAC of the cryptogram chapter: algorithm 3 with padding method 2, or CMAC. -/
def emvMac (alg : Nat) (key msg : Bytes) : Bytes := if alg ≤ 2 then isoMac3 key 2 msg else aesCmac key msg

/-- The ARPC, 8 result bytes (R140, R141); empty for method 0. -/
def arpcOf (alg method : Nat) (useMk : Bool) (mk sk arqc arcCsu prop : Bytes) : Bytes :=
  match method with
  | 0 => []
  | 1 => (cipherOf alg (if useMk then mk else sk)).enc (xorB arqc (arcCsu.take 2 ++ zeros 6))
  | _ => (emvMac alg sk (arqc ++ arcCsu ++ prop)).take 4 ++ zeros 4

/-- The lane charge of ARQC_VERIFY (R141). -/
def arqcCharge (alg len method : Nat) : Nat :=
  let a := if method = 0 then 0 else 1
  let m := if method = 2 then 1 else 0
  if alg ≤ 2 then (5 + a) * 392 + (len / 8 + m) * 136
  else (if alg = 3 then 3 + ceilDiv len 16 + a else 5 + ceilDiv len 16 + a) * blockCycles alg

/-! ### DUKPT (R151, R152, R154) -/

/-- Set bits of a number below 2^32, from the highest down, as bit numbers. -/
def setBits (n : Nat) : List Nat := ((List.range 32).reverse).filter (fun i => n.testBit i)

/-- The transaction counter of a KSN field: 21 bits for a TDES BDK, 32 bits for an AES BDK (R151). -/
def dukptCounter (alg : Nat) (ksn : Bytes) : Nat :=
  if alg ≤ 2 then beNat (slice ksn 0 10) % 2 ^ 21 else beNat (slice ksn 8 4)

/-- The half-key mask C0C0 C0C0 0000 0000. -/
def dukptMask : Bytes := [0xC0#8, 0xC0#8, 0xC0#8, 0xC0#8, 0#8, 0#8, 0#8, 0#8]

/-- One non-reversible key-generation step of TDES DUKPT (ANSI X9.24; PRESUMED, assumption 20). -/
def nrkg (k reg : Bytes) : Bytes :=
  let half (key : Bytes) : Bytes :=
    let l := slice key 0 8
    let r := slice key 8 8
    xorB (desEnc l (xorB reg r)) r
  half (xorB k (dukptMask ++ dukptMask)) ++ half k

/-- The derived TDES DUKPT key of a KSN, before any variant (R152). -/
def dukptTdesKey (bdk ksn : Bytes) : Bytes :=
  let v := beNat (slice ksn 0 10)
  let clear := v - v % 2 ^ 21
  let base := beBytes 8 (clear / 2 ^ 16)
  let mask := (List.replicate (bdk.length / 8) dukptMask).flatten
  let ik := tdesEnc bdk base ++ tdesEnc (xorB bdk mask) base
  ((setBits (v % 2 ^ 21)).foldl (fun (p : Bytes × Nat) b =>
    let reg := p.2 + 2 ^ b
    (nrkg p.1 (beBytes 8 reg), reg)) (ik, clear % 2 ^ 64)).1

/-- One AES DUKPT derivation (ANSI X9.24-3; the field codes are PRESUMED, assumption 20). -/
def dukptAesDerive (alg : Nat) (key : Bytes) (usage : Nat) (info : Bytes) : Bytes :=
  let dd (i : Nat) : Bytes := [1#8, byte i] ++ beBytes 2 usage ++ beBytes 2 (alg - 1) ++ beBytes 2 (8 * algLen alg) ++ info
  (aesEnc key (dd 1) ++ (if alg = 3 then [] else aesEnc key (dd 2))).take (algLen alg)

/-- The AES DUKPT working key of a KSN for a usage (R152). -/
def dukptAesKey (alg : Nat) (bdk ksn : Bytes) (usage : Nat) : Bytes :=
  let c := dukptCounter alg ksn
  let id := slice ksn 4 4
  let ik := dukptAesDerive alg bdk 0x8001 (slice ksn 0 8)
  let k := ((setBits c).foldl (fun (p : Bytes × Nat) b =>
    let w := p.2 + 2 ^ b
    (dukptAesDerive alg p.1 0x8000 (id ++ beBytes 4 w), w)) (ik, 0)).1
  dukptAesDerive alg k usage (id ++ beBytes 4 c)

/-- The DUKPT PIN key (R152). -/
def dukptPinKey (alg : Nat) (bdk ksn : Bytes) : Bytes :=
  if alg ≤ 2 then xorB (dukptTdesKey bdk ksn) (zeros 7 ++ [0xFF#8] ++ zeros 7 ++ [0xFF#8])
  else dukptAesKey alg bdk ksn 0x1000

/-- The DUKPT data key for both directions (R154). -/
def dukptDataKey (alg : Nat) (bdk ksn : Bytes) : Bytes :=
  if alg ≤ 2 then
    let k := xorB (dukptTdesKey bdk ksn) (zeros 5 ++ [0xFF#8] ++ zeros 7 ++ [0xFF#8] ++ zeros 2)
    tdesEnc k (slice k 0 8) ++ tdesEnc k (slice k 8 8)
  else dukptAesKey alg bdk ksn 0x3002

/-- The lane charge of DUKPT_TRANSLATE (R153). -/
def dukptCharge (alg algOut h : Nat) : Nat :=
  (if alg ≤ 2 then 1178 + 272 * h else 672 + 168 * h) + chargeOut algOut

/-- The key identity a DUKPT state record binds (R155). -/
def dukptKeyId (alg : Nat) (ksn : Bytes) : Nat :=
  if alg ≤ 2 then beNat (slice ksn 0 10) / 2 ^ 21 else leNat (slice ksn 0 8)

end Sys2Proof
end

