-- ==== Sys2Proof/Machine/OpTable.lean ====
section
/-! DEFINITION. What each operation's payload declares, computed from the payload alone as the decoder does
(checks 13 to 16 of R54, R101): opcode and minimum class, lengths (R119, R144, R189, R214, R224, R266, R300), field
values, lane charges, core, public-key and HBM charges (R123, R148, R189, R214, R232, R266, R300), the object it
writes and the objects it reads (R84), and its random draws (R144). -/

namespace Sys2Proof

/-- The numeric status codes of R72. -/
def Code.num : Code → Nat
  | .ok => 0x00 | .malformed => 0x01 | .lengthMismatch => 0x02 | .busy => 0x03 | .denied => 0x04
  | .slotEmpty => 0x10 | .slotCorrupt => 0x11 | .keyUsageDenied => 0x12 | .keyExhausted => 0x13 | .keyWithdrawn => 0x14
  | .inputRejected => 0x20 | .invariantFail => 0x21 | .tagFail => 0x30 | .pinFail => 0x31 | .cryptogramFail => 0x32
  | .waitTimeout => 0x40 | .channelLost => 0x41 | .functionReset => 0x42
  | .rngFailed => 0x50 | .tamperAbort => 0x51 | .faultDetected => 0x52

/-- Byte 0 of a flow key (R84). -/
def FlowKind.num : FlowKind → Nat
  | .explicit => 0 | .keySlot => 1 | .vault => 2 | .dukpt => 3 | .counter => 4 | .stream => 5

/-- The OPCODE value of an operation. -/
def Op.code : Op → Nat
  | .getRandom => 0x0001
  | .reseed => 0x0002
  | .echo => 0x0010
  | .pinTranslate => 0x0101
  | .pinVerifyOffset => 0x0102
  | .pinVerifyPvv => 0x0103
  | .pinChange => 0x0104
  | .cvcGenerate => 0x0110
  | .cvcVerify => 0x0111
  | .arqcVerify => 0x0120
  | .arqcVerifyLongPan => 0x0121
  | .dukptTranslate => 0x0201
  | .dukptTranslateLongKey => 0x0202
  | .dukptData => 0x0203
  | .macCmac => 0x0210
  | .macIso97973 => 0x0211
  | .macCmacLong => 0x0212
  | .macIso9797Long => 0x0213
  | .macHmacSha256 => 0x0214
  | .keyblockImport => 0x0301
  | .keyblockExport => 0x0302
  | .keyWrap => 0x0303
  | .keyUnwrap => 0x0304
  | .transportImport => 0x0310
  | .transportExport => 0x0311
  | .componentBegin => 0x0321
  | .componentAdd => 0x0322
  | .componentAbandon => 0x0323
  | .tokenFf1 => 0x0401
  | .vaultTokenise => 0x0410
  | .vaultDetokenise => 0x0411
  | .vaultDelete => 0x0412
  | .cipherEncrypt => 0x0501
  | .cipherDecrypt => 0x0502
  | .streamOpen => 0x0510
  | .streamUpdate => 0x0511
  | .streamFinal => 0x0512
  | .streamAbandon => 0x0513
  | .digest => 0x0601
  | .macHmacSha2 => 0x0602
  | .pkSign => 0x0701
  | .pkVerify => 0x0702
  | .pkKeygen => 0x0703
  | .pkAgree => 0x0704
  | .pkEncap => 0x0705
  | .pkDecap => 0x0706
  | .pkPubkeyExport => 0x0707
  | .pkPubkeyImport => 0x0708
  | .keyCheckValue => 0x0801
  | .keyAttributes => 0x0802
  | .keyGenerate => 0x0803
  | .keyRestrict => 0x0804
  | .keyDestroy => 0x0805

/-- The minimum deadline class of an operation (R31). -/
def Op.minClass : Op → Nat
  | .getRandom => 2
  | .reseed => 5
  | .echo => 2
  | .pinTranslate => 0
  | .pinVerifyOffset => 0
  | .pinVerifyPvv => 0
  | .pinChange => 2
  | .cvcGenerate => 0
  | .cvcVerify => 0
  | .arqcVerify => 0
  | .arqcVerifyLongPan => 2
  | .dukptTranslate => 1
  | .dukptTranslateLongKey => 2
  | .dukptData => 2
  | .macCmac => 0
  | .macIso97973 => 1
  | .macCmacLong => 3
  | .macIso9797Long => 4
  | .macHmacSha256 => 2
  | .keyblockImport => 3
  | .keyblockExport => 3
  | .keyWrap => 2
  | .keyUnwrap => 2
  | .transportImport => 4
  | .transportExport => 4
  | .componentBegin => 2
  | .componentAdd => 4
  | .componentAbandon => 2
  | .tokenFf1 => 2
  | .vaultTokenise => 3
  | .vaultDetokenise => 3
  | .vaultDelete => 3
  | .cipherEncrypt => 4
  | .cipherDecrypt => 4
  | .streamOpen => 3
  | .streamUpdate => 4
  | .streamFinal => 4
  | .streamAbandon => 2
  | .digest => 2
  | .macHmacSha2 => 2
  | .pkSign => 4
  | .pkVerify => 4
  | .pkKeygen => 4
  | .pkAgree => 4
  | .pkEncap => 4
  | .pkDecap => 4
  | .pkPubkeyExport => 3
  | .pkPubkeyImport => 4
  | .keyCheckValue => 0
  | .keyAttributes => 2
  | .keyGenerate => 2
  | .keyRestrict => 2
  | .keyDestroy => 2

/-- Every operation. -/
def Op.all : List Op :=
  [.getRandom, .reseed, .echo, .pinTranslate, .pinVerifyOffset, .pinVerifyPvv, .pinChange, .cvcGenerate, .cvcVerify,
   .arqcVerify, .arqcVerifyLongPan, .dukptTranslate, .dukptTranslateLongKey, .dukptData, .macCmac, .macIso97973, .macCmacLong, .macIso9797Long,
   .macHmacSha256, .keyblockImport, .keyblockExport, .keyWrap, .keyUnwrap, .transportImport, .transportExport, .componentBegin, .componentAdd,
   .componentAbandon, .tokenFf1, .vaultTokenise, .vaultDetokenise, .vaultDelete, .cipherEncrypt, .cipherDecrypt, .streamOpen, .streamUpdate,
   .streamFinal, .streamAbandon, .digest, .macHmacSha2, .pkSign, .pkVerify, .pkKeygen, .pkAgree, .pkEncap,
   .pkDecap, .pkPubkeyExport, .pkPubkeyImport, .keyCheckValue, .keyAttributes, .keyGenerate, .keyRestrict, .keyDestroy]

/-- The operation an OPCODE value is assigned to; none for every value outside the assigned ones (R47). -/
def Op.ofCode (c : Nat) : Option Op := Op.all.find? (fun o => o.code == c)

/-- The skim opcodes (R100). -/
def Op.isSkim : Op → Bool
  | .keyCheckValue | .pinTranslate | .pinVerifyOffset | .pinVerifyPvv | .cvcGenerate | .cvcVerify
  | .arqcVerify | .macCmac | .macIso97973 | .dukptTranslate => true
  | _ => false

/-- A command runs on the skim path when its opcode is a skim opcode and its class is 0 or 1 (R32). -/
def Op.onSkim (o : Op) (cls : Nat) : Bool := o.isSkim && decide (cls ≤ 1)

/-! ### Key references -/

/-- The slot of a KEYREF (R120). -/
def krSlot (w : Nat) : Nat := w % 2 ^ 28
/-- The declared algorithm of a KEYREF (R120). -/
def krAlg (w : Nat) : Nat := w / 2 ^ 28
/-- A KEYREF whose declared algorithm is one of `algs`. -/
def krOk (algs : List Nat) (w : Nat) : Bool := algs.contains (krAlg w)
/-- The value of an optional key field that means "none" (R145). -/
def noRef : Nat := 0xFFFFFFFF
/-- An ASYMREF, or a target or source slot: bits [31:28] are 0 (R145). -/
def asymOk (w : Nat) : Bool := decide (w < 2 ^ 28)
/-- An optional ASYMREF. -/
def asymOptOk (w : Nat) : Bool := w == noRef || asymOk w

/-! ### PIN formats (R128) -/

/-- The format and key rule: 0, 1 and 3 take TDES, 4 takes AES. -/
def fmtKeyOk (fmt alg : Nat) : Bool :=
  if fmt == 4 then [3, 4, 5].contains alg else [0, 1, 3].contains fmt && [1, 2].contains alg

/-- The PAN_LEN range of a PAN-bound format. -/
def panLenFor (fmt n : Nat) : Bool :=
  if fmt == 4 then decide (12 ≤ n) && decide (n ≤ 19) else decide (13 ≤ n) && decide (n ≤ 19)

/-- PAN_LEN where no format of the command uses the PAN. -/
def panLenFree (n : Nat) : Bool := n == 0 || (decide (12 ≤ n) && decide (n ≤ 19))

/-- The pairings of R128 that are allowed, the ones under policy included. -/
def pinPairOk (i o : Nat) : Bool := !(o == 1 && i != 1)

/-- The pairings that need the PIN downgrade policy. -/
def pinPairPolicy (i o : Nat) : Bool := i == 4 && (o == 0 || o == 3)

/-- PAN_LEN of a translation between two formats. -/
def panLenPair (i o n : Nat) : Bool :=
  if i == 1 then (if o == 1 then n == 0 else panLenFor o n) else panLenFor i n && panLenFor o n

/-- PAN_LEN for the incoming side alone: as its format asks, free under format 1. -/
def panLenIn (i n : Nat) : Bool := if i == 1 then panLenFree n else panLenFor i n

/-- A PIN block field of 16 bytes: a TDES block leaves its last 8 bytes 0 (R129). -/
def pinBlkOk (fmt : Nat) (blk : Bytes) : Bool := fmt == 4 || zeroAt blk 8 8

/-! ### Key blocks (R160, R161 step 1) -/

/-- A decimal number in ASCII. -/
def asciiDec (bs : Bytes) : Option Nat :=
  bs.foldl (fun a b => a.bind fun n => if 0x30 ≤ b.toNat ∧ b.toNat ≤ 0x39 then some (10 * n + (b.toNat - 0x30)) else none) (some 0)

/-- One hexadecimal digit in ASCII. -/
def hexDigit (b : Byte) : Option Nat :=
  let n := b.toNat
  if 0x30 ≤ n ∧ n ≤ 0x39 then some (n - 0x30)
  else if 0x41 ≤ n ∧ n ≤ 0x46 then some (n - 0x37)
  else if 0x61 ≤ n ∧ n ≤ 0x66 then some (n - 0x57) else none

/-- A hexadecimal number in ASCII. -/
def asciiHex (bs : Bytes) : Option Nat :=
  bs.foldl (fun a b => a.bind fun n => (hexDigit b).map (fun d => 16 * n + d)) (some 0)

/-- The bytes that hexadecimal characters spell. -/
def hexBytes (bs : Bytes) : Option Bytes :=
  if bs.length % 2 = 0 ∧ bs.all (fun b => (hexDigit b).isSome) then
    some (packNibbles (bs.map (fun b => (hexDigit b).getD 0)))
  else none

/-- Bytes as upper-case hexadecimal characters. -/
def toHex (bs : Bytes) : Bytes := (nibbles bs).map (fun n => byte (if n < 10 then 0x30 + n else 0x37 + n))

/-- A parsed key block: the header with its optional blocks, the encrypted key data and the MAC. -/
structure KeyBlock where
  version : Byte
  usage : Bytes
  algorithm : Byte
  mode : Byte
  keyVersion : Bytes
  exportability : Byte
  /-- Optional blocks, identifier and data. -/
  opts : List (Bytes × Bytes)
  /-- The header characters, optional blocks included, which the MAC covers. -/
  head : Bytes
  data : Bytes
  mac : Bytes
  deriving DecidableEq, Repr

/-- Optional blocks of a key block: `n` of them from `bs`, with the characters left over. A length of "00" is an
extended length: two characters that give the count of length digits, then those digits. -/
def parseOpts : Nat → Bytes → Option (List (Bytes × Bytes) × Bytes)
  | 0, bs => some ([], bs)
  | n + 1, bs =>
    match asciiHex (slice bs 2 2) with
    | none => none
    | some l =>
      let ext := l == 0
      let k := if ext then 2 * (asciiHex (slice bs 4 2)).getD 0 else 0
      let len := if ext then (asciiHex (slice bs 6 k)).getD 0 else l
      let hd := if ext then 6 + k else 4
      if len < hd ∨ bs.length < len then none
      else (parseOpts n (bs.drop len)).map fun p => ((bs.take 2, (bs.take len).drop hd) :: p.1, p.2)

/-- The cipher block length a key block version works with: 8 for the TDES versions, 16 for D. -/
def kbBlock (version : Byte) : Nat := if version == 0x44#8 then 16 else 8

/-- Step 1 of R161: sixteen printable header characters, a length field equal to `len`, optional blocks that
parse, and hexadecimal key data of whole blocks before the MAC. -/
def parseKeyBlock (kb : Bytes) : Option KeyBlock :=
  let ver := kb.getD 0 0#8
  let blk := kbBlock ver
  let macChars := if ver == 0x41#8 || ver == 0x43#8 then 8 else 2 * blk
  if ¬ (kb.take 16).all (fun b => decide (0x20 ≤ b.toNat) && decide (b.toNat ≤ 0x7E)) then none
  else if asciiDec (slice kb 1 4) ≠ some kb.length ∨ kb.length < 16 then none
  else match (asciiDec (slice kb 12 2)).bind (fun n => parseOpts n (kb.drop 16)) with
    | none => none
    | some (opts, rest) =>
      if rest.length < macChars then none
      else match hexBytes (rest.take (rest.length - macChars)), hexBytes (rest.drop (rest.length - macChars)) with
        | some d, some m =>
          if d.isEmpty ∨ d.length % blk ≠ 0 then none
          else some { version := ver, usage := slice kb 5 2, algorithm := kb.getD 7 0#8, mode := kb.getD 8 0#8,
                      keyVersion := slice kb 9 2, exportability := kb.getD 11 0#8, opts := opts,
                      head := kb.take (kb.length - rest.length), data := d, mac := m }
        | _, _ => none

/-- A 16-character attribute header of R163: version B or D, length "0000", no optional block. -/
def attrOk (h : Bytes) : Bool :=
  (h.getD 0 0#8 == 0x42#8 || h.getD 0 0#8 == 0x44#8) && slice h 1 4 == ascii "0000" && slice h 12 2 == ascii "00"

/-! ### Public-key algorithms (R225, R230) -/

/-- One row of the algorithm tables: encodings in bytes. -/
structure PkAlg where
  keygen : Bool := false
  sign : Bool := false
  agree : Bool := false
  kem : Bool := false
  /-- IN of sign and verify is a digest of 32, 48 or 64 bytes; otherwise a message of 0 to 4,096 bytes. -/
  digest : Bool := false
  sig : Nat := 0
  pub : Nat
  ct : Nat := 0
  /-- The stored private part (R240, R251). -/
  priv : Nat
  /-- The modulus, order or coordinate length in bytes. -/
  size : Nat := 0
  /-- Validation stage cycles (R236). -/
  valid : Nat
  /-- Engine cycles of keygen, sign, verify, agree, encap, decap (R230). -/
  cyc : List Nat
  /-- Strength in bits (R147, R165). -/
  strength : Nat
  deriving DecidableEq, Repr

/-- The algorithm codes of R225. -/
def pkAlg (algo : Nat) : Option PkAlg :=
  match algo with
  | 0x01 => some { sign := true, digest := true, sig := 256, pub := 256, ct := 256, priv := 640, size := 256, valid := 1024, cyc := [0, 226048, 8192, 0, 0, 0], strength := 112 }
  | 0x02 => some { sign := true, digest := true, sig := 384, pub := 384, ct := 384, priv := 960, size := 384, valid := 1024, cyc := [0, 762880, 14336, 0, 0, 0], strength := 128 }
  | 0x03 => some { sign := true, digest := true, sig := 512, pub := 512, ct := 512, priv := 1280, size := 512, valid := 1024, cyc := [0, 1808384, 24576, 0, 0, 0], strength := 128 }
  | 0x11 => some { keygen := true, sign := true, agree := true, digest := true, sig := 64, pub := 65, priv := 32, size := 32, valid := 1536, cyc := [49152, 53248, 98304, 81920, 0, 0], strength := 128 }
  | 0x12 => some { keygen := true, sign := true, agree := true, digest := true, sig := 96, pub := 97, priv := 48, size := 48, valid := 2560, cyc := [165888, 179712, 331776, 276480, 0, 0], strength := 192 }
  | 0x13 => some { keygen := true, sign := true, agree := true, digest := true, sig := 132, pub := 133, priv := 66, size := 66, valid := 5120, cyc := [414464, 448768, 828672, 690688, 0, 0], strength := 256 }
  | 0x21 => some { keygen := true, sign := true, sig := 64, pub := 32, priv := 32, size := 32, valid := 6144, cyc := [36864, 40960, 86016, 0, 0, 0], strength := 128 }
  | 0x22 => some { keygen := true, agree := true, pub := 32, priv := 32, size := 32, valid := 512, cyc := [36864, 0, 0, 61440, 0, 0], strength := 128 }
  | 0x31 => some { keygen := true, kem := true, pub := 800, ct := 768, priv := 64, valid := 2048, cyc := [9728, 0, 0, 0, 11776, 14336], strength := 128 }
  | 0x32 => some { keygen := true, kem := true, pub := 1184, ct := 1088, priv := 64, valid := 2048, cyc := [15360, 0, 0, 0, 18432, 22528], strength := 192 }
  | 0x33 => some { keygen := true, kem := true, pub := 1568, ct := 1568, priv := 64, valid := 2048, cyc := [23552, 0, 0, 0, 28160, 33792], strength := 256 }
  | 0x41 => some { keygen := true, sign := true, sig := 2420, pub := 1312, priv := 32, valid := 3072, cyc := [65536, 168960, 77824, 0, 0, 0], strength := 128 }
  | 0x42 => some { keygen := true, sign := true, sig := 3309, pub := 1952, priv := 32, valid := 3072, cyc := [102400, 287744, 122880, 0, 0, 0], strength := 192 }
  | 0x43 => some { keygen := true, sign := true, sig := 4627, pub := 2592, priv := 32, valid := 3072, cyc := [163840, 370381, 196608, 0, 0, 0], strength := 256 }
  | _ => none

/-- RSA algorithm codes. -/
def isRsa (algo : Nat) : Bool := algo == 0x01 || algo == 0x02 || algo == 0x03
/-- P-curve algorithm codes. -/
def isPCurve (algo : Nat) : Bool := algo == 0x11 || algo == 0x12 || algo == 0x13
/-- ML-DSA algorithm codes. -/
def isMlDsa (algo : Nat) : Bool := algo == 0x41 || algo == 0x42 || algo == 0x43

/-- Extension records a stored encoding of `n` bytes needs (R253). -/
def extFor (n : Nat) : Nat := ceilDiv (n - 64) 88

/-- Extension records of an asymmetric key of an algorithm; `priv` with its private part (R251, R253). -/
def pkExt (algo : Nat) (priv : Bool) : Nat :=
  match pkAlg algo with
  | none => 0
  | some a => extFor ((if priv then a.priv else 0) + a.pub)

/-- Cycles that a message beyond 64 bytes adds (R230). -/
def pkExtra (algo : Nat) (signing : Bool) (inLen : Nat) : Nat :=
  if algo == 0x21 then ceilDiv (inLen - 64) 128 * (if signing then 168 else 84)
  else if isMlDsa algo then ceilDiv (inLen - 64) 136 * 28 else 0

/-- Engine cycles of an operation of range 0x0700 (R230). -/
def pkCycles (o : Op) (algo inLen : Nat) : Nat :=
  match pkAlg algo with
  | none => 0
  | some a =>
    match o with
    | .pkKeygen => a.cyc.getD 0 0
    | .pkSign => a.cyc.getD 1 0 + pkExtra algo true inLen
    | .pkVerify => a.cyc.getD 2 0 + pkExtra algo false inLen
    | .pkAgree => a.cyc.getD 3 0
    | .pkEncap => a.cyc.getD 4 0
    | .pkDecap => a.cyc.getD 5 0
    | .pkPubkeyExport => 512
    | .pkPubkeyImport => a.valid + 256
    | _ => 0

/-- Public-key slices of 256 engine cycles. -/
def pkSlices (cycles : Nat) : Nat := ceilDiv cycles 256

end Sys2Proof
end

