-- ==== Sys2Proof/Machine/OpFields.lean ====
section
/-! DEFINITION. Checks 15 and 16 of R54 for every operation: the payload length and the payload fields, each by the
layout of its own rule. -/

namespace Sys2Proof

/-- Check 15: PAYLOAD_LEN is the length, or lies in the range, that the operation's layout defines. -/
def Op.lenOk (o : Op) (p : Bytes) : Bool :=
  let n := p.length
  match o with
  | .getRandom | .reseed => n == 8
  | .echo => decide (n ≤ 32)
  | .pinTranslate | .pinVerifyPvv => n == 40
  | .pinVerifyOffset => n == 56
  | .pinChange => n == 72
  | .cvcGenerate => n == 24
  | .cvcVerify => n == 32
  | .arqcVerify | .arqcVerifyLongPan => decide (37 ≤ n) && decide (n ≤ 100) && n == 36 + u8 p 35
  | .dukptTranslate | .dukptTranslateLongKey => n == 56
  | .dukptData => decide (64 ≤ n) && n == 64 + leAt p 10 2
  | .macCmac | .macIso97973 => decide (48 ≤ n) && n == 48 + leAt p 8 2 && decide (leAt p 8 2 ≤ 256)
  | .macCmacLong | .macIso9797Long | .macHmacSha256 =>
    decide (48 ≤ n) && n == 48 + leAt p 8 2 && decide (leAt p 8 2 ≤ 16336)
  | .keyblockImport => decide (16 ≤ n) && n == 16 + leAt p 10 2
  | .keyblockExport | .keyWrap => n == 16
  | .keyUnwrap => decide (32 ≤ n) && n == 32 + leAt p 10 2
  | .transportImport => decide (72 ≤ n) && n == 72 + leAt p 64 2 + leAt p 66 2 + leAt p 68 2
  | .transportExport => n == 48
  | .componentBegin => n == 40
  | .componentAdd => decide (64 ≤ n) && n == 64 + leAt p 48 2
  | .componentAbandon => n == 8
  | .tokenFf1 => n == 40
  | .vaultTokenise | .vaultDetokenise | .vaultDelete => n == 16
  | .cipherEncrypt | .cipherDecrypt => decide (48 ≤ n) && n == 48 + leAt p 8 2 + leAt p 10 2
  | .streamOpen => decide (48 ≤ n) && n == 48 + leAt p 16 2
  | .streamUpdate => decide (16 ≤ n) && n == 16 + leAt p 4 2
  | .streamFinal => decide (32 ≤ n) && n == 32 + leAt p 4 2
  | .streamAbandon => n == 8
  | .digest => decide (16 ≤ n) && n == 16 + leAt p 4 2 && decide (leAt p 4 2 ≤ 16368)
  | .macHmacSha2 => decide (80 ≤ n) && n == 80 + leAt p 8 2 && decide (leAt p 8 2 ≤ 16304)
  | .pkSign | .pkVerify | .pkKeygen | .pkAgree | .pkEncap | .pkDecap | .pkPubkeyExport | .pkPubkeyImport =>
    decide (32 ≤ n) && n == 32 + leAt p 6 2 + leAt p 16 2
  | .keyCheckValue | .keyAttributes | .keyDestroy => n == 8
  | .keyGenerate => n == 24
  | .keyRestrict => n == 16

/-- `n` lies in a range. -/
def inR (lo n hi : Nat) : Bool := decide (lo ≤ n) && decide (n ≤ hi)

/-- The leftmost `k` bytes of the field at `o` of `w` bytes are free and the rest are 0. -/
def leftOnly (p : Bytes) (o w k : Nat) : Bool := zeroAt p (o + k) (w - k)

/-- Every byte at `o` to `o + k - 1` is 0. -/
def z (p : Bytes) (o k : Nat) : Bool := zeroAt p o k

/-- PIN_TRANSLATE's fields (R128, R129). -/
def fieldsPinTranslate (p : Bytes) : Bool :=
  let kin := leAt p 0 4
  let kout := leAt p 4 4
  let i := u8 p 8
  let o := u8 p 9
  let n := u8 p 10
  fmtKeyOk i (krAlg kin) && fmtKeyOk o (krAlg kout) && pinPairOk i o && panLenPair i o n && z p 11 1
  && bcdOk (slice p 12 10) n && z p 22 2 && pinBlkOk i (slice p 24 16)

/-- The fields PIN_VERIFY_OFFSET and PIN_CHANGE share: zone key, verification key, format. -/
def fieldsPinKeys (p : Bytes) : Bool := fmtKeyOk (u8 p 8) (krAlg (leAt p 0 4)) && krOk [1, 2] (leAt p 4 4)

/-- PIN_VERIFY_OFFSET's fields (R133). -/
def fieldsPinOffset (p : Bytes) : Bool :=
  let n := u8 p 9
  fieldsPinKeys p && panLenIn (u8 p 8) n && inR 4 (u8 p 10) 12 && inR 0 (u8 p 11) 15 && bcdOk (slice p 12 10) n
  && z p 22 2 && bcdOk (slice p 32 6) (u8 p 10) && z p 38 2 && pinBlkOk (u8 p 8) (slice p 40 16)

/-- PIN_VERIFY_PVV's fields (R135). -/
def fieldsPinPvv (p : Bytes) : Bool :=
  let n := u8 p 9
  fieldsPinKeys p && inR 13 n 19 && inR 0 (u8 p 10) 9 && z p 11 1 && bcdOk (slice p 12 10) n
  && bcdOk (slice p 22 2) 4 && pinBlkOk (u8 p 8) (slice p 24 16)

/-- PIN_CHANGE's fields (R137). -/
def fieldsPinChange (p : Bytes) : Bool :=
  let n := u8 p 9
  let f := u8 p 8
  let off := u8 p 10 == 0
  fieldsPinKeys p && inR 0 (u8 p 10) 1 && z p 13 3 && bcdOk (slice p 16 10) n
  && pinBlkOk f (slice p 40 16) && pinBlkOk f (slice p 56 16)
  && (if off then panLenIn f n && inR 4 (u8 p 11) 12 && inR 0 (u8 p 12) 15 && bcdOk (slice p 26 6) (u8 p 11)
      else inR 13 n 19 && inR 0 (u8 p 11) 9 && u8 p 12 == 0 && bcdOk (slice p 26 6) 4 && z p 32 8)

/-- The card verification code's fields (R138). -/
def fieldsCvc (p : Bytes) (verify : Bool) : Bool :=
  let n := u8 p 4
  krOk [1] (leAt p 0 4) && inR 12 n 19 && z p 5 3 && bcdOk (slice p 8 10) n && bcdOk (slice p 18 2) 4
  && bcdOk (slice p 20 2) 3 && z p 22 2 && (!verify || (bcdOk (slice p 24 2) 3 && z p 26 6))

/-- The cryptogram opcodes' fields (R139); `long` for ARQC_VERIFY_LONG_PAN. -/
def fieldsArqc (p : Bytes) (long : Bool) : Bool :=
  let alg := krAlg (leAt p 0 4)
  let n := u8 p 4
  let m := u8 p 6
  let opt := u8 p 7
  let prop := opt / 2 % 8
  (if long then alg == 1 && inR 17 n 19 else [1, 3, 4, 5].contains alg && inR 12 n (if alg == 1 then 16 else 19))
  && bcdOk (slice p 5 1) 2 && inR 0 m 2 && (m != 1 || alg == 1) && decide (opt < 16)
  && (m == 1 || opt % 2 == 0) && (if m == 2 then decide (prop ≤ 3) else prop == 0)
  && bcdOk (slice p 8 10) n
  && (if m == 0 then z p 28 4 else if m == 1 then z p 30 2 else true)
  && (if m == 2 then leftOnly p 32 3 prop else z p 32 3)
  && inR 1 (u8 p 35) 64

/-- The KSN of a BDK algorithm: the counter bounds of R151, and bytes beyond a TDES KSN 0. -/
def ksnOk (alg : Nat) (ksn : Bytes) : Bool :=
  let c := dukptCounter alg ksn
  let h := (setBits c).length
  c != 0 && (if alg ≤ 2 then decide (h ≤ 10) && zeroAt ksn 10 2 else decide (h ≤ 16))

/-- GUARD and GUARD_INDEX (R150, R155): no guard on the skim classes, no index without a guard. -/
def guardOk (opt idx cls : Nat) : Bool :=
  decide (opt ≤ 1) && (opt == 1 || idx == 0) && (opt == 0 || decide (2 ≤ cls))

/-- The DUKPT translations' fields (R150, R151). -/
def fieldsDukpt (p : Bytes) (algs : List Nat) (cls : Nat) : Bool :=
  let alg := krAlg (leAt p 0 4)
  let i := u8 p 8
  let o := u8 p 9
  let n := u8 p 10
  algs.contains alg && fmtKeyOk i alg && fmtKeyOk o (krAlg (leAt p 4 4)) && pinPairOk i o && panLenPair i o n
  && guardOk (u8 p 11) (leAt p 36 2) cls && bcdOk (slice p 12 10) n && z p 22 2 && ksnOk alg (slice p 24 12)
  && z p 38 2 && pinBlkOk i (slice p 40 16)

/-- DUKPT_DATA's fields (R154). -/
def fieldsDukptData (p : Bytes) (cls : Nat) : Bool :=
  let alg := krAlg (leAt p 0 4)
  let kout := leAt p 4 4
  let m := u8 p 8
  let len := leAt p 10 2
  inR 1 alg 5 && inR 0 m 1 && (if m == 0 then kout == noRef && z p 48 16 else inR 1 (krAlg kout) 5)
  && guardOk (u8 p 9) (leAt p 24 2) cls && inR 16 len 4096 && len % 16 == 0 && ksnOk alg (slice p 12 12)
  && z p 26 6 && (!decide (alg ≤ 2) || z p 40 8) && (m == 0 || !decide (krAlg kout ≤ 2) || z p 56 8)

/-- The MAC opcodes' fields (R156): algorithms, MAC_LEN bounds, and whether PAD and ALGO are used. -/
def fieldsMac (p : Bytes) (algs : List Nat) (lo hi : Nat) (iso long : Bool) : Bool :=
  let dir := u8 p 4
  let len := u8 p 5
  krOk algs (leAt p 0 4) && inR 0 dir 1 && inR lo len hi
  && (if iso then inR 1 (u8 p 6) 3 else u8 p 6 == 0)
  && (if long then u8 p 7 == 1 || u8 p 7 == 3 else u8 p 7 == 0)
  && z p 10 6 && (if dir == 1 then leftOnly p 16 32 len else z p 16 32)

/-- KEYBLOCK_IMPORT's fields (R160, R161 step 1). -/
def fieldsKbImport (p : Bytes) : Bool :=
  inR 1 (krAlg (leAt p 0 4)) 5 && asymOk (leAt p 4 4) && inR 0 (u8 p 8) 1 && z p 9 1
  && inR 16 (leAt p 10 2) 9999 && z p 12 4 && (parseKeyBlock (p.drop 16)).isSome

/-- The key-block version that a KBPK algorithm protects (R160): "B" under TDES, "D" under AES. -/
def kbVersionFor (alg : Nat) : Nat := if alg ≤ 2 then 0x42 else 0x44

/-- KEYBLOCK_EXPORT's fields (R162). -/
def fieldsKbExport (p : Bytes) : Bool :=
  let alg := krAlg (leAt p 0 4)
  inR 1 alg 5 && asymOk (leAt p 4 4) && u8 p 8 == kbVersionFor alg && inR 0 (u8 p 9) 3 && z p 10 6

/-- KEY_WRAP's fields (R163). -/
def fieldsKeyWrap (p : Bytes) : Bool :=
  inR 3 (krAlg (leAt p 0 4)) 5 && asymOk (leAt p 4 4) && inR 0 (u8 p 8) 1 && z p 9 7

/-- KEY_UNWRAP's fields (R163): under KW the wrapped length is that of a key of 16 to 64 bytes in multiples of 8. -/
def fieldsKeyUnwrap (p : Bytes) : Bool :=
  let ct := leAt p 10 2
  inR 3 (krAlg (leAt p 0 4)) 5 && asymOk (leAt p 4 4) && inR 0 (u8 p 8) 1 && inR 0 (u8 p 9) 1 && inR 24 ct 72
  && z p 12 4 && attrOk (slice p 16 16) && (u8 p 8 != 0 || ct % 8 == 0)

/-- The sizes of A that a transport method admits (R165). -/
def transportSizes (m : Nat) : List Nat :=
  match m with
  | 1 => [256, 384, 512]
  | 2 => [65, 97, 133, 32]
  | _ => [768, 1088, 1568]

/-- TRANSPORT_IMPORT's fields (R164, R165). -/
def fieldsTransportImport (p : Bytes) : Bool :=
  let m := u8 p 12
  let a := leAt p 64 2
  let kb := leAt p 66 2
  let sig := leAt p 68 2
  asymOk (leAt p 0 4) && asymOptOk (leAt p 4 4) && asymOk (leAt p 8 4) && inR 1 m 3 && inR 0 (u8 p 13) 1
  && inR 0 (u8 p 14) 1 && z p 15 1 && (m == 2 || z p 48 16) && (transportSizes m).contains a
  && (if u8 p 13 == 1 then kb == 0 else inR 16 kb 9999 && (parseKeyBlock (slice p (72 + a) kb)).isSome)
  && (if leAt p 4 4 == noRef then sig == 0 else sig == 96 || sig == 3309) && z p 70 2

/-- TRANSPORT_EXPORT's fields (R168). -/
def fieldsTransportExport (p : Bytes) : Bool :=
  asymOk (leAt p 0 4) && asymOptOk (leAt p 4 4) && asymOk (leAt p 8 4) && inR 1 (u8 p 12) 3 && z p 13 3

/-- COMPONENT_BEGIN's fields (R169). -/
def fieldsCompBegin (p : Bytes) : Bool :=
  let alg := u8 p 15
  asymOk (leAt p 0 4) && inR 2 (u8 p 4) 3 && inR 0 (u8 p 5) 1 && inR 1 (leAt p 6 2) 3600 && attrOk (slice p 8 16)
  && (alg == 0x54 || alg == 0x41 || alg == 0x48) && inR 3 (u8 p 32) 8 && leftOnly p 24 8 (u8 p 32) && z p 33 7

/-- COMPONENT_ADD's fields (R169). -/
def fieldsCompAdd (p : Bytes) : Bool :=
  asymOk (leAt p 0 4) && inR 0 (u8 p 5) 7 && inR 1 (u8 p 6) 2 && inR 3 (u8 p 7) 8 && leftOnly p 8 8 (u8 p 7)
  && leAt p 48 2 == (if u8 p 6 == 1 then 96 else 3309) && z p 50 14

/-- TOKEN_FF1's fields (R171). -/
def fieldsFf1 (p : Bytes) : Bool :=
  let len := u8 p 5
  inR 3 (krAlg (leAt p 0 4)) 5 && inR 0 (u8 p 4) 1 && inR 6 len 32 && inR 0 (u8 p 6) 8 && inR 0 (u8 p 7) 8
  && inR 0 (u8 p 8) 8 && z p 9 7 && leftOnly p 16 8 (u8 p 8) && bcdOk (slice p 24 16) len
  && decide (u8 p 6 + u8 p 7 + 6 ≤ len)

/-- The vault opcodes' fields (R174). -/
def fieldsVault (p : Bytes) (tokenise : Bool) : Bool :=
  inR 12 (u8 p 2) 19 && (if tokenise then inR 0 (u8 p 3) 1 else u8 p 3 == 0) && bcdOk (slice p 4 10) (u8 p 2) && z p 14 2

/-- The block size of a KEYREF algorithm. -/
def algBlock (alg : Nat) : Nat := if alg ≤ 2 then 8 else 16

/-- The bulk cipher opcodes' fields (R190). -/
def fieldsCipher (p : Bytes) (encrypt : Bool) : Bool :=
  let alg := krAlg (leAt p 0 4)
  let m := u8 p 4
  let pad := u8 p 5
  let tl := u8 p 6
  let dl := leAt p 8 2
  let al := leAt p 10 2
  inR 1 alg 5 && inR 1 m 3 && (m == 1 || decide (3 ≤ alg)) && (pad == 0 || (encrypt && m == 1 && pad == 2))
  && (if m == 3 then inR 12 tl 16 else tl == 0) && z p 7 1 && inR 1 dl (16336 - al)
  && (m != 1 || pad == 2 || dl % algBlock alg == 0) && (if m == 3 then inR 0 al 16335 else al == 0) && z p 12 4
  && (if encrypt then z p 16 16
      else if m == 1 then (decide (3 ≤ alg) || z p 24 8) else if m == 3 then z p 28 4 else true)
  && (if !encrypt && m == 3 then leftOnly p 32 16 tl else z p 32 16)

/-- A stream number matches its queue's mode: 0 to 31 twin, 32 to 63 halved (R194). -/
def streamOk (s : Nat) (halved : Bool) : Bool := if halved then inR 32 s 63 else inR 0 s 31

/-- STREAM_OPEN's fields (R196). -/
def fieldsStreamOpen (p : Bytes) (halved : Bool) : Bool :=
  let dir := u8 p 5
  inR 3 (krAlg (leAt p 0 4)) 5 && streamOk (u8 p 4) halved && inR 0 dir 1 && inR 12 (u8 p 6) 16 && z p 7 1
  && inR 1 (leAt p 8 8) (2 ^ 36 - 32) && inR 0 (leAt p 16 2) 16336 && z p 18 14
  && (if dir == 1 then z p 44 4 else z p 32 16)

/-- STREAM_UPDATE's fields (R197). -/
def fieldsStreamUpdate (p : Bytes) (halved : Bool) : Bool :=
  streamOk (u8 p 0) halved && z p 1 3 && inR 1 (leAt p 4 2) 16368 && z p 6 2

/-- STREAM_FINAL's fields (R197); which bytes of TAG must be 0 depends on the stream, and the decoder checks them with it. -/
def fieldsStreamFinal (p : Bytes) (halved : Bool) : Bool :=
  streamOk (u8 p 0) halved && z p 1 3 && inR 0 (leAt p 4 2) 16352 && z p 6 2

/-- DIGEST's fields (R215). -/
def fieldsDigest (p : Bytes) : Bool := inR 1 (u8 p 0) 6 && z p 1 3 && z p 6 10

/-- MAC_HMAC_SHA2's fields (R215). -/
def fieldsHmac2 (p : Bytes) : Bool :=
  let dir := u8 p 4
  let len := u8 p 5
  let a := u8 p 6
  krOk [6] (leAt p 0 4) && inR 0 dir 1 && (if a == 3 then inR 24 len 48 else a == 4 && inR 32 len 64) && z p 7 1
  && z p 10 6 && (if dir == 1 then leftOnly p 16 64 len else z p 16 64)

/-- Operations of range 0x0700 that write TARGET. -/
def Op.pkWrites : Op → Bool
  | .pkKeygen | .pkAgree | .pkEncap | .pkDecap | .pkPubkeyImport => true
  | _ => false

/-- Operations of range 0x0700 that derive a symmetric key. -/
def Op.pkDerives : Op → Bool
  | .pkAgree | .pkEncap | .pkDecap => true
  | _ => false

/-- The algorithm permits the operation (R225). -/
def pkPermits (o : Op) (a : PkAlg) : Bool :=
  match o with
  | .pkKeygen => a.keygen
  | .pkSign | .pkVerify => a.sign
  | .pkAgree => a.agree
  | .pkEncap | .pkDecap => a.kem
  | _ => true

/-- IN_LEN of an operation (R225). -/
def pkInOk (o : Op) (a : PkAlg) (n : Nat) : Bool :=
  match o with
  | .pkSign | .pkVerify => if a.digest then n == 32 || n == 48 || n == 64 else inR 0 n 4096
  | .pkAgree | .pkPubkeyImport => n == a.pub
  | .pkDecap => n == a.ct
  | _ => n == 0

/-- The fields of range 0x0700 (R224, R225). Of an opcode without TARGET, R224 gives USAGE the value 0; MODE, EXPORT and
FLAGS.REPLACE must be 0 there too (DESIGN CHOICE, log 285). -/
def fieldsPk (o : Op) (p : Bytes) : Bool :=
  match pkAlg (u8 p 4) with
  | none => false
  | some a =>
    pkPermits o a && pkInOk o a (leAt p 6 2)
    && (if o == .pkKeygen || o == .pkPubkeyImport then leAt p 0 4 == noRef else asymOk (leAt p 0 4))
    && (if o.pkDerives then inR 3 (u8 p 5) 6 else u8 p 5 == 0 && z p 20 12)
    && (if o.pkWrites then asymOk (leAt p 8 4) && (u8 p 15 == 0x45 || u8 p 15 == 0x4E || u8 p 15 == 0x53)
        else leAt p 8 4 == noRef && z p 12 4)
    && leAt p 16 2 == (if o == .pkVerify then a.sig else 0)
    && (if o.pkWrites then inR 0 (u8 p 18) 1 else u8 p 18 == 0) && z p 19 1

/-- KEY_GENERATE's fields (R269). -/
def fieldsKeyGenerate (p : Bytes) : Bool :=
  let alg := u8 p 4
  asymOk (leAt p 0 4) && inR 1 alg 6 && (if alg == 6 then inR 16 (u8 p 5) 64 else u8 p 5 == 0) && inR 0 (u8 p 6) 3
  && (u8 p 7 == 0x45 || u8 p 7 == 0x4E || u8 p 7 == 0x53) && z p 11 1 && z p 14 10

/-- KEY_RESTRICT's fields (R270). -/
def fieldsKeyRestrict (p : Bytes) : Bool :=
  let f := u8 p 4
  let uses := leAt p 8 4
  asymOk (leAt p 0 4) && inR 1 f 7 && f % 4 != 3 && z p 5 3 && (if f % 2 == 1 then decide (1 ≤ uses) else uses == 0) && z p 12 4

/-- Check 16: every payload field lies within the values the operation permits. -/
def Op.fieldsOk (o : Op) (halved : Bool) (cls : Nat) (p : Bytes) : Bool :=
  match o with
  | .getRandom => inR 1 (leAt p 0 2) 4096 && z p 2 6
  | .reseed => z p 0 8
  | .echo => true
  | .pinTranslate => fieldsPinTranslate p
  | .pinVerifyOffset => fieldsPinOffset p
  | .pinVerifyPvv => fieldsPinPvv p
  | .pinChange => fieldsPinChange p
  | .cvcGenerate => fieldsCvc p false
  | .cvcVerify => fieldsCvc p true
  | .arqcVerify => fieldsArqc p false
  | .arqcVerifyLongPan => fieldsArqc p true
  | .dukptTranslate => fieldsDukpt p [1, 2, 3] cls
  | .dukptTranslateLongKey => fieldsDukpt p [4, 5] cls
  | .dukptData => fieldsDukptData p cls
  | .macCmac | .macCmacLong => fieldsMac p [3, 4, 5] 4 16 false false
  | .macIso97973 => fieldsMac p [1, 2] 4 8 true false
  | .macIso9797Long => fieldsMac p [1, 2] 4 8 true true
  | .macHmacSha256 => fieldsMac p [6] 16 32 false false
  | .keyblockImport => fieldsKbImport p
  | .keyblockExport => fieldsKbExport p
  | .keyWrap => fieldsKeyWrap p
  | .keyUnwrap => fieldsKeyUnwrap p
  | .transportImport => fieldsTransportImport p
  | .transportExport => fieldsTransportExport p
  | .componentBegin => fieldsCompBegin p
  | .componentAdd => fieldsCompAdd p
  | .componentAbandon => asymOk (leAt p 0 4) && z p 4 4
  | .tokenFf1 => fieldsFf1 p
  | .vaultTokenise => fieldsVault p true
  | .vaultDetokenise | .vaultDelete => fieldsVault p false
  | .cipherEncrypt => fieldsCipher p true
  | .cipherDecrypt => fieldsCipher p false
  | .streamOpen => fieldsStreamOpen p halved
  | .streamUpdate => fieldsStreamUpdate p halved
  | .streamFinal => fieldsStreamFinal p halved
  | .streamAbandon => streamOk (u8 p 0) halved && z p 1 7
  | .digest => fieldsDigest p
  | .macHmacSha2 => fieldsHmac2 p
  | .pkSign => fieldsPk .pkSign p
  | .pkVerify => fieldsPk .pkVerify p
  | .pkKeygen => fieldsPk .pkKeygen p
  | .pkAgree => fieldsPk .pkAgree p
  | .pkEncap => fieldsPk .pkEncap p
  | .pkDecap => fieldsPk .pkDecap p
  | .pkPubkeyExport => fieldsPk .pkPubkeyExport p
  | .pkPubkeyImport => fieldsPk .pkPubkeyImport p
  | .keyCheckValue => inR 1 (krAlg (leAt p 0 4)) 5 && z p 4 4
  | .keyAttributes => asymOk (leAt p 0 4) && z p 4 4
  | .keyGenerate => fieldsKeyGenerate p
  | .keyRestrict => fieldsKeyRestrict p
  | .keyDestroy => asymOk (leAt p 0 4) && inR 0 (u8 p 4) 1 && z p 5 3

/-! ### Charges -/

/-- The lane charge of a skim opcode, from the payload alone (R101, R130, R134, R136, R138, R141, R153, R157, R158,
R113). -/
def Op.laneCharge (o : Op) (p : Bytes) : Nat :=
  let a0 := krAlg (leAt p 0 4)
  let a1 := krAlg (leAt p 4 4)
  match o with
  | .keyCheckValue => blockCycles a0
  | .pinTranslate => chargeIn a0 + chargeOut a1
  | .pinVerifyOffset | .pinVerifyPvv => chargeIn a0 + 392 + 4
  | .cvcGenerate | .cvcVerify => desCycles + 392 + 4
  | .arqcVerify => arqcCharge a0 (u8 p 35) (u8 p 6)
  | .macCmac => max 1 (ceilDiv (leAt p 8 2) 16) * blockCycles a0
  | .macIso97973 =>
    let l := leAt p 8 2
    let n := if u8 p 6 = 1 then max 1 (ceilDiv l 8) else if u8 p 6 = 2 then l / 8 + 1 else l / 8 + 2
    desCycles * (n - 1) + 392
  | .dukptTranslate => dukptCharge a0 a1 (setBits (dukptCounter a0 (slice p 24 12))).length
  | _ => 0

/-- The core charge in slices of 3,584 cycles (R123, R148, R189, R214, R232, R266, R300), for a firmware-path run. -/
def Op.coreSlices : Op → Nat
  | .echo => 0
  | .macCmacLong | .macIso9797Long => 2
  | .keyblockImport | .keyblockExport | .keyWrap | .keyUnwrap => 2
  | .transportImport | .transportExport => 3
  | .vaultTokenise | .vaultDelete => 2
  | .cipherEncrypt | .cipherDecrypt => 2
  | _ => 1

/-- The public-key charge in slices (R148, R230, R232). A transport's key operation follows from its method and the
length of A; an export, whose payload names no algorithm, is charged as the operation of its method's largest size, so that
both channels charge alike (DESIGN CHOICE, log 41). -/
def Op.pkCharge (o : Op) (p : Bytes) : Nat :=
  let sigv (n : Nat) : Nat := if n = 96 then pkSlices 331776 else if n = 3309 then pkSlices 122880 else 0
  match o with
  | .pkSign | .pkVerify | .pkKeygen | .pkAgree | .pkEncap | .pkDecap | .pkPubkeyExport | .pkPubkeyImport =>
    pkSlices (pkCycles o (u8 p 4) (leAt p 6 2))
  | .componentAdd => sigv (leAt p 48 2)
  | .transportImport =>
    let a := leAt p 64 2
    let k := match u8 p 12 with
      | 1 => if a = 256 then 883 else if a = 384 then 2980 else 7064
      | 2 => if a = 65 then 320 else if a = 97 then 1080 else if a = 133 then 2698 else 240
      | _ => if a = 768 then 56 else if a = 1088 then 88 else 132
    k + sigv (leAt p 68 2)
  | .transportExport =>
    (match u8 p 12 with | 1 => 96 | 2 => 1619 + 2698 | _ => 110) + (if leAt p 4 4 = noRef then 0 else 1124)
  | _ => 0

/-- The HBM charge in bytes (R123, R148, R189, R214, R232, R266), from the payload alone (R101, R224); `ext` is the number of
extension records that it counts beyond. A key that may be private or public is charged as a private one (DESIGN CHOICE, log
41). -/
def Op.hbmCharge (o : Op) (skim : Bool) (p : Bytes) (ext : Nat) : Nat :=
  if skim then 256 else
  match o with
  | .getRandom | .reseed | .echo | .digest | .streamAbandon => 0
  | .pinTranslate | .pinVerifyOffset | .pinVerifyPvv | .pinChange | .cvcGenerate | .cvcVerify
  | .arqcVerify | .arqcVerifyLongPan | .keyCheckValue => 256
  | .dukptTranslate | .dukptTranslateLongKey => 256 + 64 * u8 p 11
  | .dukptData => 256 + 64 * u8 p 9
  | .macCmac | .macIso97973 | .macCmacLong | .macIso9797Long | .macHmacSha256 | .macHmacSha2 => 128
  | .keyblockImport | .keyblockExport | .keyWrap => 256 + 128 * ext
  | .keyUnwrap => 256
  | .transportImport | .transportExport => 384 + 128 * ext
  | .componentBegin | .componentAdd | .componentAbandon | .tokenFf1 => 128
  | .vaultTokenise | .vaultDelete => 1024
  | .vaultDetokenise => 256
  | .cipherEncrypt | .cipherDecrypt | .streamOpen | .streamUpdate | .streamFinal => 128
  | .pkSign | .pkDecap => 128 * (1 + pkExt (u8 p 4) true) + (if o == .pkDecap then 128 else 0)
  | .pkVerify | .pkPubkeyExport => 128 * (1 + pkExt (u8 p 4) true)
  | .pkKeygen => 128 * (1 + pkExt (u8 p 4) true)
  | .pkAgree => 128 * (2 + pkExt (u8 p 4) true)
  | .pkEncap => 128 * (2 + pkExt (u8 p 4) true)
  | .pkPubkeyImport => 128 * (1 + pkExt (u8 p 4) false)
  | .keyAttributes => 128
  | .keyGenerate | .keyRestrict | .keyDestroy => 256 + 128 * ext

/-! ### Random draws (R127, R144, R189, R223, R266, R300) -/

/-- The command draws random material under a request index. -/
def Op.draws (o : Op) (p : Bytes) : Bool :=
  match o with
  | .getRandom | .keyblockExport | .transportExport | .componentBegin | .cipherEncrypt | .streamOpen
  | .pkKeygen | .pkEncap | .keyGenerate => true
  | .pkSign => u8 p 4 != 0x21
  | .pinTranslate | .dukptTranslate | .dukptTranslateLongKey => u8 p 9 != 0
  | _ => false

/-- The operation draws internal blinding material (R223). -/
def Op.blinds : Op → Bool
  | .pkSign | .pkKeygen | .pkAgree | .pkDecap => true
  | _ => false

/-- Condition 1 of R79 applies: a random index, internal blinding (R223), or RESEED (R300). -/
def Op.needsRng (o : Op) (p : Bytes) : Bool := o.draws p || o.blinds || o == .reseed

/-! ### Objects (R84, R144, R172, R194, R223, R266) -/

/-- The object flow the command joins as a writer: kind and object number. -/
def Op.writes (o : Op) (fn : Nat) (p : Bytes) : Option (FlowKind × Nat) :=
  match o with
  | .dukptTranslate | .dukptTranslateLongKey =>
    if u8 p 11 % 2 = 1 then some (.dukpt, fn * 65536 + leAt p 36 2) else none
  | .dukptData => if u8 p 9 % 2 = 1 then some (.dukpt, fn * 65536 + leAt p 24 2) else none
  | .keyblockImport | .keyUnwrap => some (.keySlot, leAt p 4 4)
  | .transportImport => some (.keySlot, leAt p 8 4)
  | .componentBegin | .componentAdd | .componentAbandon => some (.keySlot, leAt p 0 4)
  | .vaultTokenise | .vaultDelete => some (.vault, leAt p 0 2)
  | .streamOpen => some (.stream, fn * 64 + u8 p 4)
  | .streamUpdate | .streamFinal | .streamAbandon => some (.stream, fn * 64 + u8 p 0)
  | .pkKeygen | .pkAgree | .pkEncap | .pkDecap | .pkPubkeyImport => some (.keySlot, leAt p 8 4)
  | .keyGenerate | .keyRestrict | .keyDestroy => some (.keySlot, leAt p 0 4)
  | _ => none

/-- The slots a command names as keys it uses, in payload order, each with the payload index of its field; a stream
command's slot is its context's and is added where the context is known. -/
def Op.keySlots (o : Op) (p : Bytes) : List (Nat × Nat) :=
  let k (i off : Nat) : List (Nat × Nat) := [(i, krSlot (leAt p off 4))]
  match o with
  | .pinTranslate | .pinVerifyOffset | .pinVerifyPvv | .pinChange
  | .dukptTranslate | .dukptTranslateLongKey => k 0 0 ++ k 1 4
  | .dukptData => k 0 0 ++ (if u8 p 8 = 1 then k 1 4 else [])
  | .cvcGenerate | .cvcVerify | .arqcVerify | .arqcVerifyLongPan | .macCmac | .macIso97973 | .macCmacLong
  | .macIso9797Long | .macHmacSha256 | .tokenFf1 | .cipherEncrypt | .cipherDecrypt | .streamOpen
  | .macHmacSha2 | .keyblockImport | .keyUnwrap | .keyCheckValue | .keyAttributes => k 0 0
  | .keyblockExport | .keyWrap => k 0 0 ++ k 1 4
  | .transportImport => k 0 0 ++ (if leAt p 4 4 = noRef then [] else k 1 4)
  | .transportExport => k 0 0 ++ (if leAt p 4 4 = noRef then [] else k 1 4) ++ k 2 8
  | .pkSign | .pkVerify | .pkAgree | .pkEncap | .pkDecap | .pkPubkeyExport => k 0 0
  | _ => []

/-- A halved command that would write state both channels hold is refused at decode (R55, R321): every writer of a key
slot, a basin or a DUKPT state record. -/
def Op.writesShared (o : Op) (fn : Nat) (p : Bytes) : Bool :=
  match o.writes fn p with
  | some (.keySlot, _) | some (.vault, _) | some (.dukpt, _) => true
  | _ => false

end Sys2Proof
end

