-- ==== Sys2Proof/Machine/KeyRecord.lean ====
section
/-! DEFINITION. The slot record of the key store (R247 to R256): the header and its 128 bits, sealing and opening a
record under the store keys, extension records, and the outcome of a fill. -/

namespace Sys2Proof

/-! ### The slot space (R247) -/

/-- First asymmetric slot. -/
def asymBase : Nat := 0x0EF80000
/-- First extension record. -/
def extBase : Nat := 0x0F000000
/-- Number of slot numbers. -/
def slotCount : Nat := 2 ^ 28
/-- The slot is an extension record. -/
def isExtSlot (s : Nat) : Bool := decide (extBase ≤ s)
/-- The slot lies in the asymmetric range. -/
def isAsymSlot (s : Nat) : Bool := decide (asymBase ≤ s) && decide (s < extBase)
/-- Extension record `j` of an asymmetric slot. -/
def extSlot (s j : Nat) : Nat := extBase + 32 * (s - asymBase) + j

/-! ### The header (R250) -/

/-- The fields of a home record's header (R250). -/
structure KeyHeader where
  state : BitVec 2
  cls : BitVec 2
  alg : BitVec 8
  extCount : BitVec 6
  length : BitVec 7
  mgmt : Bool
  isVolatile : Bool
  limited : Bool
  usage : BitVec 16
  mode : BitVec 8
  exportability : BitVec 2
  owner : BitVec 8
  version : BitVec 16
  generation : BitVec 16
  useCount : BitVec 32
  deriving DecidableEq, Repr

/-- The header as a 128-bit number (R250). -/
def KeyHeader.toNat (h : KeyHeader) : Nat :=
  h.state.toNat + 2 ^ 2 * h.cls.toNat + 2 ^ 4 * h.alg.toNat + 2 ^ 12 * h.extCount.toNat + 2 ^ 18 * h.length.toNat
  + 2 ^ 25 * h.mgmt.toNat + 2 ^ 26 * h.isVolatile.toNat + 2 ^ 27 * h.limited.toNat + 2 ^ 28 * h.usage.toNat
  + 2 ^ 44 * h.mode.toNat + 2 ^ 52 * h.exportability.toNat + 2 ^ 54 * h.owner.toNat + 2 ^ 62 * h.version.toNat
  + 2 ^ 78 * h.generation.toNat + 2 ^ 94 * h.useCount.toNat

/-- The header's 16 bytes, little-endian (R249). -/
def KeyHeader.bytes (h : KeyHeader) : Bytes := leBytes 16 h.toNat

/-- The header that 16 bytes spell. -/
def KeyHeader.ofBytes (bs : Bytes) : KeyHeader :=
  let n := leNat (bs.take 16)
  { state := BitVec.ofNat 2 n, cls := BitVec.ofNat 2 (n / 2 ^ 2), alg := BitVec.ofNat 8 (n / 2 ^ 4),
    extCount := BitVec.ofNat 6 (n / 2 ^ 12), length := BitVec.ofNat 7 (n / 2 ^ 18), mgmt := n.testBit 25,
    isVolatile := n.testBit 26, limited := n.testBit 27, usage := BitVec.ofNat 16 (n / 2 ^ 28),
    mode := BitVec.ofNat 8 (n / 2 ^ 44), exportability := BitVec.ofNat 2 (n / 2 ^ 52),
    owner := BitVec.ofNat 8 (n / 2 ^ 54), version := BitVec.ofNat 16 (n / 2 ^ 62),
    generation := BitVec.ofNat 16 (n / 2 ^ 78), useCount := BitVec.ofNat 32 (n / 2 ^ 94) }

/-- The two ASCII characters of a usage or version field, first character first. -/
def pair16 (v : BitVec 16) : Bytes := leBytes 2 v.toNat

/-- A 16-bit field from two ASCII characters (R250: the first character in the low byte). -/
def ofPair16 (bs : Bytes) : BitVec 16 := BitVec.ofNat 16 (leNat (bs.take 2))

/-- Exportability as stored: N, E, S (R250). -/
def exportCode (c : Byte) : BitVec 2 := if c == 0x45#8 then 1#2 else if c == 0x53#8 then 2#2 else 0#2

/-- Exportability as a character. -/
def exportChar (c : BitVec 2) : Byte := if c == 1#2 then 0x45#8 else if c == 2#2 then 0x53#8 else 0x4E#8

/-- Usage D0, whose record carries the tally block (R251). -/
def usageD0 : BitVec 16 := ofPair16 (ascii "D0")

/-- A symmetric record with a tally block. -/
def KeyHeader.hasTally (h : KeyHeader) : Bool := h.cls == 0#2 && h.usage == usageD0

/-- The generation after `g`: it wraps from 0xFFFF to 1 and is never 0 (R257). -/
def nextGen (g : BitVec 16) : BitVec 16 := if g == 0xFFFF#16 then 1#16 else g + 1#16

/-! ### The tally block (R251) -/

/-- Usage tallies of a generation (R186, R251). -/
structure Tally where
  tdesBlocks : Nat := 0
  gcmEncryptions : Nat := 0
  aesBlocks : Nat := 0
  exhaustedFrom : Nat := 0
  exhausted : Bool := false
  deriving DecidableEq, Repr

/-- The 32 bytes of a tally block. -/
def Tally.bytes (t : Tally) : Bytes :=
  leBytes 6 t.tdesBlocks ++ leBytes 6 t.gcmEncryptions ++ leBytes 8 t.aesBlocks ++ leBytes 8 t.exhaustedFrom
  ++ [byte t.exhausted.toNat] ++ zeros 3

/-- The tally that 32 bytes spell. -/
def Tally.ofBytes (bs : Bytes) : Tally :=
  { tdesBlocks := leAt bs 0 6, gcmEncryptions := leAt bs 6 6, aesBlocks := leAt bs 12 8, exhaustedFrom := leAt bs 20 8,
    exhausted := u8 bs 28 % 2 == 1 }

/-- A tally with a command's count added (R187). -/
def Tally.add (t : Tally) (alg blocks gcm : Nat) : Tally :=
  if alg ≤ 2 then { t with tdesBlocks := min (2 ^ 48 - 1) (t.tdesBlocks + blocks) }
  else { t with aesBlocks := min (2 ^ 64 - 1) (t.aesBlocks + blocks), gcmEncryptions := min (2 ^ 48 - 1) (t.gcmEncryptions + gcm) }

/-- A tally at one of its limits, under the AES block limit k of the function (R186). -/
def Tally.reached (t : Tally) (k : Nat) : Bool :=
  decide (2 ^ 20 ≤ t.tdesBlocks) || decide (2 ^ 32 ≤ t.gcmEncryptions) || (k != 0 && decide (2 ^ k ≤ t.aesBlocks))

/-! ### Sealing (R252) -/

/-- The sealing keys of a record: encryption and SIV keys, which are the function's volatile pair for a volatile
record, and the record MAC key (R252, R261). -/
structure SealKeys where
  enc : Bytes
  siv : Bytes
  mac : Bytes
  deriving DecidableEq, Repr

/-- The encrypted length of a home record's key material: 32 bytes for usage D0, else 64 (R251). -/
def KeyHeader.sealLen (h : KeyHeader) : Nat := if h.hasTally then 32 else 64

/-- The slot number as the MACs cover it. -/
def slotBytes (s : Nat) : Bytes := leBytes 4 s

/-- A sealed home record of 128 bytes (R249, R252). -/
def sealRecord (k : SealKeys) (slot : Nat) (h : KeyHeader) (t : Tally) (material check : Bytes) : Bytes :=
  let m := fitR h.sealLen material
  let siv := aesCmac k.siv (slotBytes slot ++ h.bytes ++ m ++ check)
  let body := h.bytes ++ ctrRun (aesCipher k.enc) ctr32 siv m ++ (if h.hasTally then t.bytes else []) ++ check ++ siv
  body ++ aesCmac k.mac (slotBytes slot ++ body)

/-- The record MAC of a stored record verifies. -/
def recMacOk (k : SealKeys) (slot : Nat) (rec : Bytes) : Bool :=
  aesCmac k.mac (slotBytes slot ++ rec.take 112) == slice rec 112 16

/-- A stored record has never been written (R254). -/
def recBlank (rec : Bytes) : Bool := rec.all (· == 0#8)

/-- An empty record that keeps a generation (R254). -/
def emptyRecord (k : SealKeys) (slot : Nat) (gen : BitVec 16) : Bytes :=
  let h := (KeyHeader.ofBytes (zeros 16))
  let body := ({ h with generation := gen } : KeyHeader).bytes ++ zeros 96
  body ++ aesCmac k.mac (slotBytes slot ++ body)

/-- The outcome of opening a record (R256). -/
inductive Fill where
  | loaded (hdr : KeyHeader) (tally : Tally) (material check : Bytes)
  | empty
  /-- A volatile record whose key is gone: it reads as empty (R256, R261). -/
  | volEmpty
  | corrupt
  deriving DecidableEq, Repr

/-- The outcome of opening a home record by the table of R256; `vol` gives the volatile pair of the owner. -/
def openRecord (k vol : SealKeys) (slot : Nat) (rec : Bytes) : Fill :=
  if recBlank rec then .empty
  else if ¬ recMacOk k slot rec then .corrupt
  else
    let h := KeyHeader.ofBytes rec
    if h.state == 0#2 then .empty
    else if h.state == 3#2 then .corrupt
    else
      let ks := if h.isVolatile then vol else k
      let siv := slice rec 96 16
      let m := ctrRun (aesCipher ks.enc) ctr32 siv (slice rec 16 h.sealLen)
      let check := slice rec 80 16
      let good := aesCmac ks.siv (slotBytes slot ++ rec.take 16 ++ m ++ check) == siv
      if h.state == 2#2 then .corrupt
      else if h.cls == 3#2 || h.exportability == 3#2 then .corrupt
      else if good then .loaded h (if h.hasTally then Tally.ofBytes (slice rec 48 32) else {}) m check
      else if h.isVolatile then .volEmpty else .corrupt

/-! ### Extension records (R253) -/

/-- The first 8 bytes of an extension record. -/
def extHead (parent index : Nat) (gen : BitVec 16) : Bytes :=
  leBytes 8 (2 + 4 * (index % 32) + 2 ^ 8 * gen.toNat + 2 ^ 32 * (parent % 2 ^ 28))

/-- A sealed extension record. -/
def sealExt (k : SealKeys) (parent index : Nat) (gen : BitVec 16) (payload : Bytes) : Bytes :=
  let s := extSlot parent index
  let m := fitR 88 payload
  let hd := extHead parent index gen
  let siv := aesCmac k.siv (slotBytes s ++ hd ++ m)
  let body := hd ++ ctrRun (aesCipher k.enc) ctr32 siv m ++ siv
  body ++ aesCmac k.mac (slotBytes s ++ body)

/-- The payload of an extension record, when every check of R256 on it passes. -/
def openExt (k ks : SealKeys) (parent index : Nat) (gen : BitVec 16) (rec : Bytes) : Option Bytes :=
  let s := extSlot parent index
  let siv := slice rec 96 16
  let m := ctrRun (aesCipher ks.enc) ctr32 siv (slice rec 8 88)
  if recMacOk k s rec && rec.take 8 == extHead parent index gen && aesCmac ks.siv (slotBytes s ++ rec.take 8 ++ m) == siv
  then some m else none

/-- The payloads of the first `n` extension records joined; none when any record fails. -/
def openExts (k ks : SealKeys) (parent : Nat) (gen : BitVec 16) (get : Nat → Bytes) : Nat → Option Bytes
  | 0 => some []
  | n + 1 =>
    match openExts k ks parent gen get n, openExt k ks parent n gen (get (extSlot parent n)) with
    | some a, some b => some (a ++ b)
    | _, _ => none

/-- The length of an asymmetric key's stored encoding (R251). -/
def asymEncLen (h : KeyHeader) : Nat :=
  match pkAlg h.alg.toNat with
  | none => 0
  | some a => (if h.cls == 1#2 then a.priv else 0) + a.pub

/-- The fill of a slot, extension records included (R256). `get` reads a stored record. -/
def fillSlot (k vol : SealKeys) (slot : Nat) (get : Nat → Bytes) : Fill :=
  match openRecord k vol slot (get slot) with
  | .loaded h t m c =>
    if h.cls == 0#2 then .loaded h t (m.take h.length.toNat) c
    else match openExts k (if h.isVolatile then vol else k) slot h.generation get h.extCount.toNat with
      | some e => .loaded h t ((m ++ e).take (asymEncLen h)) c
      | none => .corrupt
  | f => f

/-- The records of a key installed in a slot: the home record and its extension records, each with its slot. -/
def keyRecords (k : SealKeys) (slot : Nat) (h : KeyHeader) (t : Tally) (material check : Bytes) : List (Nat × Bytes) :=
  (slot, sealRecord k slot h t (material.take h.sealLen) check) ::
  (List.range h.extCount.toNat).map (fun j =>
    (extSlot slot j, sealExt k slot j h.generation (slice material (64 + 88 * j) 88)))

/-! ### Attributes -/

/-- A usage of two characters. -/
def usageOf (u : String) : BitVec 16 := ofPair16 (ascii u)

/-- A header with one of the modes of use named by `ms`. -/
def KeyHeader.modeIn (h : KeyHeader) (ms : String) : Bool := (ascii ms).contains h.mode

/-- A header with a usage and one of its modes. -/
def KeyHeader.for_ (h : KeyHeader) (u ms : String) : Bool := h.usage == usageOf u && h.modeIn ms

/-- The key may leave in a key block: exportability E or S (R162). -/
def KeyHeader.exportable (h : KeyHeader) : Bool := h.exportability == 1#2 || h.exportability == 2#2

/-- Strength in bits of a key of a class, an algorithm and a length in bytes (R147). -/
def strengthOf (cls : BitVec 2) (alg len : Nat) : Nat :=
  if cls == 0#2 then
    match alg with
    | 1 => 80 | 2 => 112 | 3 => 128 | 4 => 192 | 5 => 256
    | _ => min 256 (8 * len)
  else match pkAlg alg with
    | some a => a.strength
    | none => 0

/-- Strength in bits of a stored key (R147). -/
def keyStrength (h : KeyHeader) : Nat := strengthOf h.cls h.alg.toNat h.length.toNat

/-- The public key part of an asymmetric key's stored encoding (R251). -/
def pubOf (h : KeyHeader) (material : Bytes) : Bytes :=
  match pkAlg h.alg.toNat with
  | none => []
  | some a => if h.cls == 1#2 then material.drop a.priv else material

/-- The check value stored with a key (R255). -/
def checkOf (h : KeyHeader) (material : Bytes) : Bytes :=
  if h.cls == 0#2 then checkValue h.alg.toNat (material.take h.length.toNat)
  else (sha256 (pubOf h material)).take 16

end Sys2Proof
end

