-- ==== Sys2Proof/Machine/StateSched.lean ====
section
/-! DEFINITION. The state of a channel's scheduler, skim path, rakes, digest engines, public-key engines, key store
and random bit generator (chapters 03, 04, 06 to 11), as plain data. A bit vector is what the manual gives a
register or field; a plain number is a count or a time (cycles since tide 0, or tides). -/

namespace Sys2Proof.Machine

/-- The Erwen header (R44). -/
structure Header where
  version : BitVec 4
  halved : Bool
  assayed : Bool
  notBefore : Bool
  reserved0 : Bool
  function : BitVec 8
  opcode : BitVec 16
  queue : BitVec 16
  cls : BitVec 3
  priority : BitVec 3
  reserved6 : BitVec 2
  depCount : BitVec 3
  reserved7 : BitVec 5
  seq : Word
  flowId : Word
  payloadLen : BitVec 16
  waitValue : BitVec 15
  waitScale : Bool
  delay : BitVec 20
  reserved20 : BitVec 12
  tokens : List (BitVec 16)
  deriving DecidableEq, Repr

/-- A packet as fan-out delivers it (R54): header, payload, intake tide and intake number (R309). -/
structure Packet where
  hdr : Header
  payload : Bytes
  intakeTide : Nat
  intakeNo : Nat
  deriving DecidableEq, Repr

/-- A completion record as the collector accepts it (R94): the first entry's content and the result. An inline result
is 40 bytes; a longer one is the body of an extended completion (R59). -/
structure CompRec where
  queue : BitVec 16
  seq : Word
  function : BitVec 8
  code : Code
  detail : BitVec 4
  missed : Bool
  result : Bytes
  tideLo : Word
  cycles : Nat
  intakeNo : Nat
  halved : Bool
  assayed : Bool
  deriving DecidableEq, Repr

/-- A completion waiting at a producer (R94): the producer's place in the order of R94 (0 to 79), the cycle from which
it can be granted, the work item it completes, and the record. -/
structure Produced where
  producer : Nat
  readyAt : Nat
  item : Option Nat
  record : CompRec
  deriving DecidableEq, Repr

/-- A generation a command has bound (R86, R257), with the uses its ledger entry had left at the binding (R260, R268) and
whether the count was already spent. -/
structure Bind where
  slot : Nat
  generation : BitVec 16
  ledger : Option Nat
  exhausted : Bool
  /-- A halved command found a ledger entry of its function (R321). -/
  refused : Bool
  deriving DecidableEq, Repr

/-- Where a work item stands. -/
inductive Phase where
  | delayed (release : Nat)   -- in the delay list (R82)
  | waiting                   -- on its dependence counter, its flows or its binding (R83, R86)
  | filling                   -- a skim command waiting for a key cache fill (R110)
  | laneQueue                 -- in its lane pair's queue (R108)
  | lane                      -- its lane work runs, its completion waits at the producer
  | ready                     -- in a ready list (R88)
  | running (core : Nat)      -- dispatched to a core (R89)
  | saving (head : Bool)      -- sliced or pre-empted, being saved; then to the head or tail of its level (R89, R90)
  | engine                    -- yielded to a rake, digest or public-key job (R89)
  | draining                  -- a destroy waiting for the slot's users (R262)
  | shadowWait                -- a writer waiting for shadow entries (R258)
  | epochWait                 -- a RESEED waiting for its renewal or reseed (R301)
  | finished                  -- its completion waits for the collector
  deriving DecidableEq, Repr

/-- A loaded key as the key read hands it to the command. -/
structure Loaded where
  idx : Nat
  slot : Nat
  gen : BitVec 16
  hdr : KeyHeader
  tally : Tally
  material : Bytes
  check : Bytes
  deriving DecidableEq, Repr

/-- A work item: a command between decode and completion (R81). -/
structure Item where
  id : Nat
  op : Op
  pkt : Packet
  phase : Phase
  /-- Cycle of the admission check; `none` before it. -/
  admitAt : Option Nat
  /-- The tide whose budgets and epoch it uses: intake tide, or release tide of a delayed command. -/
  admitTide : Nat
  startTide : Option Nat
  due : Option Nat
  missed : Bool
  exempt : Bool
  urgent : Bool
  level : BitVec 3
  /-- Work items whose completion lowers the dependence counter (R83). -/
  deps : List Nat
  binds : List Bind
  /-- Use-ledger entries the decode saw, per key slot (R260). -/
  ledgerSeen : List (Nat × Nat)
  /-- Lane pair and charge of a skim command (R106). -/
  pair : Option Nat
  charge : Nat
  /-- Slots and generations still being filled for it. -/
  fills : List (Nat × BitVec 16)
  /-- Expiry-pending under R87, and a wait without a limit after "continue". -/
  expiryPending : Bool
  noLimit : Bool
  /-- Upper bound on remaining slices (R91). -/
  remaining : Nat
  /-- Core cycles of the running slice's start. -/
  sliceStart : Nat
  /-- The item was saved and needs a restore, and the cycle at which its save ends (R89). -/
  saved : Bool
  savedAt : Nat
  /-- Engine work done in its service so far. -/
  stage : Nat
  /-- A ledger refusal decided at decode (R270). -/
  capacityMark : Bool
  /-- Shadow entries held by a writer (R258). -/
  shadow : Nat
  /-- A skim command has waited for a fill (R118). -/
  waitedFill : Bool
  /-- Its key read has been made: it holds handles (R183, R265). -/
  read : Bool
  /-- The keys behind its handles, as a function reset found them that erased them in the store (R347, R348). -/
  kept : List Loaded
  /-- Slots whose tag look-up missed (R104, R283). -/
  missedSlots : List Nat
  /-- A later command of its queue with the same low 10 bits of SEQ has been delivered (R83). -/
  superseded : Bool
  /-- The decimalisation table as its key read found it (R143). -/
  dectab : List Nat
  /-- Random material drawn, by request index (R292, R298), and a draw that the generator failed (R303). -/
  drawn : List (Nat × Bytes)
  rngFailed : Bool
  /-- The cycle at which its draws are whole (R290). -/
  drawnAt : Nat
  deriving DecidableEq, Repr

/-- How a member stands in a flow's list (R86). -/
inductive Role where
  | explicit | writer | reader
  deriving DecidableEq, Repr

/-- A flow-state entry (R85): set and way, the key, MERGED, and its members in delivery order. -/
structure FlowEntry where
  set : BitVec 15
  way : BitVec 3
  kind : FlowKind
  function : BitVec 8
  number : Word
  merged : Bool
  members : List (Nat × Role)
  deriving DecidableEq, Repr

/-- A budget record of one kind (R344). -/
structure Budget where
  skimFloor : BitVec 8
  skimCeil : BitVec 8
  coreFloor : BitVec 6
  coreCeil : BitVec 6
  pkFloor : BitVec 9
  pkCeil : BitVec 9
  hbmFloor : BitVec 16
  hbmCeil : BitVec 16
  deriving DecidableEq, Repr

/-- One kind's budget counters of one function in one tide (R341), with its public-key ledgers: the ceiling and the floor
ledger as the tide's drain left them, and the slices charged to both in the tide (R342). -/
structure FnUse where
  function : Nat
  skim : Nat
  core : Nat
  hbm : Nat
  ceil : Nat
  floor : Nat
  pk : Nat
  deriving DecidableEq, Repr

/-- The budget counters of one tide for one kind, twin or halved (R79, R81, R340 to R342), with the shares in force when
it opened (R99, R455): skim admissions, core slices, HBM units, the kind's lane pairs (R105), public-key engines (R233),
and ebb with its share, and the budget records of the kind that were in force in the tide (R40, R79). The public-key and
the ebb ledger stand as the tide's drain left them, with the slices charged to both in the tide, so that a command decoded
later finds the ledgers of its own tide. -/
structure TideUse where
  tide : Nat
  skimShare : Nat
  coreShare : Nat
  hbmShare : Nat
  firstPair : Nat
  pairs : Nat
  engines : Nat
  ebbOn : Bool
  ebbShare : Nat
  ledger : Nat
  eledger : Nat
  pk : Nat
  skim : Nat
  ebb : Nat
  corePool : Nat
  hbmPool : Nat
  fns : List FnUse
  budgets : SMap Budget
  deriving DecidableEq, Repr

/-- A scheduling trace record (R96). -/
structure TraceRec where
  tide : Nat
  offset : BitVec 12
  decision : BitVec 4
  queue : BitVec 16
  seq : Word
  flowEntry : BitVec 18
  flowKind : BitVec 2
  unit : Byte
  function : BitVec 8
  cls : BitVec 3
  priority : BitVec 3
  halved : Bool
  urgent : Bool
  code : Byte
  due : Word
  cycles : BitVec 24
  exempt : Bool
  deriving DecidableEq, Repr

/-- A DMA window of a function, or a region of a core or an engine job (R349, R350, R353). -/
structure Window where
  base : BitVec 52
  pagesM1 : BitVec 24
  read : Bool
  write : Bool
  on : Bool
  lock : Bool
  deriving DecidableEq, Repr

/-- A region of a core's access control unit: a window of channel store or of the channel's HBM (R349). -/
structure Region where
  window : Window
  hbm : Bool
  deriving DecidableEq, Repr

/-- A core (R89, R90): the item in hand, when it was dispatched, its pre-emptions in the tide, and the regions of its access
control unit, which firmware loads for the item (R349). -/
structure Core where
  item : Option Nat
  since : Nat
  preempts : Nat
  regions : List Region
  /-- The unit has refused to enable: the core stalls (R350, R352). -/
  cfgFault : Bool
  /-- Its background test failed, or a buffered write of it was refused, and it has left service (R314, R351). -/
  out : Bool
  testedTide : Option Nat
  deriving DecidableEq, Repr

/-- Scheduler registers (R98) with their shadows. -/
structure SchedRegs where
  twinSkimShadow : Byte
  twinSkim : Byte
  maskShadow : BitVec 9
  mask : BitVec 9
  twinMismatch : Bool
  decodeLate : Bool
  missCount : Word
  traceNext : BitVec 25
  traceWrapped : Bool
  traceLost : Word
  preempts : BitVec 16
  merges : BitVec 16
  deriving DecidableEq, Repr

/-- The scheduler of a channel (chapter 03). -/
structure Sched where
  /-- Packets fan-out has delivered and the decoder has not taken (R78). -/
  fanout : List Packet
  /-- The last sequence number delivered on each queue (R83). -/
  delivered : SMap Nat
  nextItem : Nat
  items : List Item
  flows : List FlowEntry
  /-- Twin and halved delay lists, in order of release tide and delivery (R82). -/
  delayTwin : List Nat
  delayHalved : List Nat
  /-- Budget counters of the 16 most recent tides (R81), newest first. -/
  useTwin : List TideUse
  useHalved : List TideUse
  /-- Ready lists 0 to 7 and the urgent list (R88, R91). -/
  ready : List (List Nat)
  urgentList : List Nat
  cores : List Core
  /-- Producers' waiting completions, the grant pointer and the 512-record buffer (R94, R95). -/
  produced : List Produced
  pointer : Nat
  buffer : List CompRec
  /-- The trace ring in HBM, by index, and the trace buffer, oldest record first (R96). -/
  traceRing : SMap TraceRec
  traceBuf : List TraceRec
  regs : SchedRegs
  deriving DecidableEq, Repr

/-- Skim registers (R118) with the shadow of SKIM_CTRL. -/
structure SkimRegs where
  rakesShadow : BitVec 4
  rakes : BitVec 4
  twinMismatch : Bool
  admits : Word
  refusedCount : BitVec 16
  refusedLanes : BitVec 16
  fills : Word
  maxAhead : BitVec 14
  booked : Word
  faultCompare : BitVec 16
  faultCorrupt : BitVec 16
  deriving DecidableEq, Repr

/-- Steps of one length in a row (R179): how many, the cycles of each, and the cipher or digest blocks each completes. -/
structure Run where
  count : Nat
  cycles : Nat
  blocks : Nat
  deriving DecidableEq, Repr

/-- The steps a unit runs now: for which item, from which cycle, and the blocks of them counted so far (R204, R220). -/
structure Work where
  item : Nat
  start : Nat
  runs : List Run
  counted : Nat
  deriving DecidableEq, Repr

/-- A descriptor of a digest job's fragment list (R207). -/
structure Fragment where
  addr : DWord
  len : BitVec 24
  /-- SPACE: 0 channel store, 1 the channel's HBM. -/
  hbm : Bool
  last : Bool
  reserved : BitVec 38
  deriving DecidableEq, Repr

/-- A rake or digest job (R179, R207, R209): its item, level, and the steps left; `urgent` first. -/
structure Job where
  item : Nat
  level : BitVec 3
  urgent : Bool
  runs : List Run
  /-- The fragment descriptor list of a digest job. -/
  frags : List Fragment
  /-- The region set of its issuing item, taken at issue (R349). -/
  regions : List Region
  /-- The job was saved and needs a 24-cycle restore; the cycle at which its save ends, and whether it then goes to the head
  of its level, as one that leaves a skim pair does (R178, R179). -/
  saved : Bool
  readyAt : Nat
  front : Bool
  /-- Of a digest job: the bytes of its message, those of a block, the blocks before the message, and the blocks compressed so
  far (R210, R220). -/
  message : Nat
  block : Nat
  lead : Nat
  hashed : Nat
  deriving DecidableEq, Repr

/-- A lane pair (R105 to R108, R179, R184): booked-until time, the skim queue, the cycle until which its lanes are
busy, the last tide whose self-test it ran, and the firmware-path job it runs. -/
structure Pair where
  booked : Nat
  queue : List Nat
  busyUntil : Nat
  testedTide : Option Nat
  job : Option Job
  /-- The steps that its lanes run now. -/
  work : List Work
  testFail : Bool
  faultCompare : Bool
  faultBus : Bool
  deriving DecidableEq, Repr

/-- The skim path (chapter 04): the 64 lane pairs of the rakes, the rotation of each kind, as the pair the next search starts at (R106), the tide before a
join (R109), and the registers. -/
structure Skim where
  pairs : List Pair
  rotTwin : Nat
  rotHalved : Nat
  joinCap : Bool
  regs : SkimRegs
  deriving DecidableEq, Repr

/-- A stream context's STATE (R195). -/
inductive StreamState where
  | free | opened | dead
  deriving DecidableEq, Repr

/-- A stream context (R195); the layout has no place for `iv`, the stream's IV, which later counter blocks need (DEDUCED, log
245). -/
structure Stream where
  state : StreamState
  decrypt : Bool
  tagLen : Nat
  alg : Nat
  slot : Nat
  generation : BitVec 16
  aadLen : Nat
  totalLen : Nat
  received : Nat
  key : Bytes
  crustKey : Bytes
  h : BitVec 128
  ej0 : Bytes
  ctr : Nat
  iv : Bytes
  ghash : BitVec 128
  /-- Ciphertext and unused keystream of the partial block. -/
  partialCt : Bytes
  partKs : Bytes
  deriving DecidableEq, Repr

/-- Rake-wide counters of one rake (R204). -/
structure RakeRegs where
  faultCount : BitVec 16
  blocks : Word
  yields : BitVec 16
  aborts : BitVec 16
  deriving DecidableEq, Repr

/-- The rakes of a channel beyond the skim path (chapter 07). -/
structure Rakes where
  jobs : List Job
  streams : SMap Stream
  perRake : List RakeRegs
  crustKilled : Word
  exhaustReports : BitVec 16
  exhaustRefused : BitVec 16
  logPair : BitVec 3
  logRake : BitVec 3
  logKind : BitVec 2
  logMore : Bool
  faultTide : Word
  gapSlices : Word
  tagFails : Word
  deriving DecidableEq, Repr

/-- A digest engine (R207 to R213, R217, R220, R221). -/
structure DigestEngine where
  job : Option Job
  work : List Work
  busyUntil : Nat
  outOfService : Bool
  testFail : Bool
  testedTide : Option Nat
  blocks : Word
  faultBus : Bool
  faultMemory : Bool
  faultPair : Bool
  faultList : Bool
  faultCount : BitVec 16
  yields : BitVec 16
  aborts : BitVec 16
  /-- Register mode: ALGO, REG, the message so far, LAST_WORD, finishing, DONE, FAULT, result, expected value and the
  verdict pair. -/
  algo : BitVec 3
  regMode : Bool
  /-- What MODE read when it was last read. -/
  modeRead : Word
  message : Bytes
  lastWord : DWord
  lastCount : Option (BitVec 4)
  done : Bool
  modeFault : Bool
  result : Bytes
  expect : Bytes
  isMatch : Bool
  isMatchN : Bool
  deriving DecidableEq, Repr

/-- The digest engines of a channel (chapter 08). -/
structure Digests where
  engines : List DigestEngine
  jobs : List Job
  compareMatches : BitVec 16
  compareMismatches : BitVec 16
  logEngine : BitVec 2
  logKind : BitVec 3
  logMore : Bool
  faultTide : Word
  bytes : DWord
  katRuns : Word
  locked : Bool
  deriving DecidableEq, Repr

/-- A public-key job (R234). -/
structure PkJob where
  item : Nat
  algo : Nat
  op : BitVec 3
  function : Nat
  cycles : Nat
  valid : Nat
  level : BitVec 3
  urgent : Bool
  halved : Bool
  /-- The region set of its issuing item, taken at issue (R349). -/
  regions : List Region
  deriving DecidableEq, Repr

/-- A public-key engine (R222, R234, R241, R246). -/
structure PkEngine where
  job : Option PkJob
  startedAt : Nat
  validated : Bool
  slicesReported : Nat
  wipingUntil : Nat
  wiping : Bool
  /-- Cycle until which a background test or a management verification runs on it (R314, R400), and the tide of its last test. -/
  busyUntil : Nat
  testedTide : Option Nat
  owned : Bool
  owner : BitVec 8
  ops : BitVec 16
  aborts : BitVec 16
  /-- The operand memory (R222): what the 32 KiB secret region and the 480 KiB working region hold from their first byte
  on; every other byte reads 0. -/
  secret : Bytes
  working : Bytes
  deriving DecidableEq, Repr

/-- The public-key engines of a channel (chapter 09). -/
structure Pks where
  engines : List PkEngine
  queueTwin : List PkJob
  queueHalved : List PkJob
  /-- The ledgers after the last drain, as PK_LEDGER shows them (R246). -/
  drainedTwin : Nat
  drainedHalved : Nat
  splitShadow : BitVec 5
  split : BitVec 5
  twinMismatch : Bool
  rejInput : BitVec 16
  rejInvariant : BitVec 16
  logEngine : BitVec 4
  logKind : BitVec 3
  logMore : Bool
  faultTide : Word
  wipesOwner : BitVec 16
  wipesAbort : BitVec 16
  maxAttempts : BitVec 9
  capHits : BitVec 16
  deriving DecidableEq, Repr

/-- A key cache entry (R265): tag, replacement age and the loaded key, and for an AES key the final round key and the CMAC
subkeys; an extension record's entry carries no key. Its pin count is the number of work items that hold a handle on it. -/
structure CacheEntry where
  slot : Nat
  generation : BitVec 16
  function : BitVec 8
  age : Nat
  hdr : KeyHeader
  tally : Tally
  material : Bytes
  check : Bytes
  lastRound : Bytes
  k1 : Bytes
  k2 : Bytes
  deriving DecidableEq, Repr

/-- A fill under way (R111): the slot generation, its start, and whether it waits for a way of a fully pinned set. -/
structure FillJob where
  slot : Nat
  generation : BitVec 16
  function : BitVec 8
  startedAt : Nat
  waitsForWay : Bool
  deriving DecidableEq, Repr

/-- A retained copy of an old generation (R258, R259). -/
structure Retained where
  slot : Nat
  generation : BitVec 16
  records : List (Nat × Bytes)
  deriving DecidableEq, Repr

/-- A use-ledger entry (R260); `live` is false once a later decode removed or overwrote it. -/
structure LedgerEntry where
  id : Nat
  function : Nat
  slot : Nat
  left : Nat
  live : Bool
  deriving DecidableEq, Repr

/-- A component session or a key ceremony held in a slot's shadow generation (R169, R170, R402). -/
structure Session where
  slot : Nat
  function : Nat
  ceremony : Bool
  count : Nat
  replace : Bool
  attr : Bytes
  kcv : Bytes
  nonce : Bytes
  expiry : Nat
  received : List Bytes
  contributors : List Nat
  deriving DecidableEq, Repr

/-- A copy of the root record in flash (R278). -/
structure RootCopy where
  rung : Nat
  seq : Nat
  wrapped : Bytes
  check : Bytes
  deriving DecidableEq, Repr

/-- A DUKPT state record (R155). -/
structure DukptRec where
  keyId : Nat
  last : Nat
  refused : Nat
  bound : Bool
  deriving DecidableEq, Repr

/-- A basin record (R172). -/
structure Basin where
  owner : Nat
  vaultSlot : Nat
  keepLead : Nat
  keepTrail : Nat
  detokGrant : Bool
  next : Nat
  deriving DecidableEq, Repr

/-- An SVN commit under way (R280). -/
structure SvnCommit where
  target : Nat
  /-- The tide X at which it began. -/
  since : Nat
  /-- The new copy is written, and the commit message sent. -/
  written : Bool
  deriving DecidableEq, Repr

/-- The key store of a channel (chapters 06 and 10). -/
structure Keys where
  /-- The slot array: 128-byte records, a slot not listed is all zero (R249, R254). -/
  slots : SMap Bytes
  retained : List Retained
  cache : List CacheEntry
  /-- The cycle of the last purge of the cache, whose sets are zeroed in set order after it (R365). -/
  purgedAt : Option Nat
  clock : Nat
  fills : List FillJob
  ledger : List LedgerEntry
  nextLedger : Nat
  sessions : List Session
  /-- The hierarchy: SR once formed, the rung held by the ladder unit, SDK once the root record is open, VR, VC_f. -/
  fuseRoot : Bytes
  fuseFloor : Nat
  sdk : Option Bytes
  rung : Nat
  svnRun : Nat
  vr : Option Bytes
  vc : SMap Nat
  rootCopies : List RootCopy
  /-- A provisioned channel has still to write its root records (R439). -/
  firstRoot : Bool
  commit : Option SvnCommit
  /-- Exhaustion targets fixed by the port die and not yet reached (R188): slot, generation, tide X. -/
  exhaustAt : List (Nat × BitVec 16 × Nat)
  reported : List (Nat × BitVec 16)
  dukpt : SMap DukptRec
  basins : SMap Basin
  /-- Vault entries (R172): the 128-bit record of an entry number, and the index slots of a basin × 2^21 + slot. -/
  entries : SMap Nat
  index : SMap Nat
  hits : Word
  misses : Word
  fillCorrupt : BitVec 16
  fillVolEmpty : BitVec 16
  flips : Word
  destroys : BitVec 16
  withdrawnCount : BitVec 16
  corruptSlot : BitVec 28
  corruptValid : Bool
  corruptMore : Bool
  corruptTide : Word
  deriving DecidableEq, Repr

/-- The states of the random bit generator (R288, RNG_STATUS.STATE). -/
inductive RngState where
  | off | startTest | seeding | ready | failed
  deriving DecidableEq, Repr

/-- A retained twin epoch (R291, R294). -/
structure Epoch where
  number : Nat
  seed : Bytes
  /-- The tide at which it took effect, and each function's P_f in it (R292, R297). -/
  since : Nat
  person : SMap Bytes
  deriving DecidableEq, Repr

/-- A renewal under way (R295): the peer's and the own contribution, the seed formed, and the target once fixed. -/
structure Renewal where
  own : Option Bytes
  /-- The tide in which the channel sent its contribution and so asked for its peer's (R296). -/
  askedAt : Nat
  peer : Option Bytes
  formed : Option Bytes
  target : Option Nat
  /-- The P_f that the epoch takes, once the target is fixed (R297, R305). -/
  person : SMap Bytes
  deriving DecidableEq, Repr

/-- The continuous tests of a noise source (R286): the last sample and its run, and of the window the first sample, the
samples seen and those equal to the first. -/
structure NoiseTest where
  last : Bool
  run : Nat
  first : Bool
  seen : Nat
  count : Nat
  deriving DecidableEq, Repr

/-- A core's port to the generator (R299). -/
structure RngPort where
  data : Bytes
  /-- The word last read, and a request that waits for a reseed. -/
  word : DWord
  waiting : Option Word
  failed : Bool
  deriving DecidableEq, Repr

/-- The random bit generator of a channel (chapter 11). -/
structure Rng where
  state : RngState
  source : BitVec 3
  cause : BitVec 3
  atStartup : Bool
  /-- The conditioned words in the pool, oldest first, at most 32 (R285). -/
  pool : List DWord
  /-- The conditioner, the raw bits since its last read-out, and the word read out last (R285, R286). -/
  lfsr : DWord
  rawBits : Nat
  lastWord : Option DWord
  /-- The tests of sources 0 to 7, and a test that has failed: cause and source. -/
  tests : List NoiseTest
  failing : Option (BitVec 3 × BitVec 3)
  /-- CTR_DRBG: key, V, requests and tide of the last seed; a reseed that is due or waits. -/
  drbgKey : Bytes
  drbgV : Bytes
  drbgRequests : Nat
  drbgSeedTide : Nat
  reseedDue : Bool
  epochs : List Epoch
  /-- The seed of epoch 0 of this device start, which VR is derived from (R261). -/
  seed0 : Option Bytes
  current : Nat
  epochTide : Nat
  uses : Nat
  renewal : Option Renewal
  mismatches : Nat
  retryAt : Option Nat
  /-- P_f in force, and those that take effect with the next epoch (R297). -/
  person : SMap Bytes
  personNext : SMap Bytes
  ports : SMap RngPort
  /-- The admission tide of a command whose probe runs: its epoch is kept (R317). -/
  probeTide : Option Nat
  reseeds : BitVec 16
  epochCount : BitVec 16
  draws : Word
  repMax : BitVec 16
  aptMax : BitVec 16
  failedReqs : BitVec 16
  deriving DecidableEq, Repr

end Sys2Proof.Machine
end

