-- ==== Sys2Proof/Machine/StatePort.lean ====
section
/-! DEFINITION. The state of the port die's data path (chapters 01, 02, 12, 13, 16): the tide registers, the global
page, queue contexts, function records and pages, the replay log, egress, the assay unit and function resets, as
plain data. -/

namespace Sys2Proof.Machine

/-- The SH fields of a queue context that R76 protects or lets change (R75, R338). -/
structure QConf where
  enable : Bool
  halved : Bool
  homeB : Bool
  assayed : Bool
  ring : Bool
  sqLog2 : BitVec 5
  cqLog2 : BitVec 5
  prioLimit : BitVec 3
  /-- Bits [63:12] of the ring bases. -/
  sqBase : BitVec 52
  cqBase : BitVec 52
  vector : BitVec 11
  irqEn : Bool
  modCount : Byte
  modTides : Byte
  deriving DecidableEq, Repr

/-- A queue context (R75, R77, R338). -/
structure QCtx where
  shadow : QConf
  conf : QConf
  expected : Word
  sqHead : BitVec 16
  sqTail : BitVec 16
  cqWrite : BitVec 16
  cqHead : BitVec 16
  phase : Bool
  overrun : Bool
  cfgErr : Bool
  /-- A refused ring-entry fetch waits for the next RING_TAIL write (R351). -/
  fetchHalt : Bool
  outstanding : BitVec 17
  unsignalled : Byte
  firstTide : BitVec 24
  deriving DecidableEq, Repr

/-- FN_CFG (R353). -/
structure FnCfg where
  vectors : BitVec 12
  errVector : BitVec 11
  errEn : Bool
  ideStream : BitVec 6
  ideAssigned : Bool
  deriving DecidableEq, Repr

/-- A function: its record (R353) and its BAR0 page (R74, R355, R415). -/
structure Fn where
  cfgShadow : FnCfg
  cfg : FnCfg
  acuWanted : Bool
  acuEnabled : Bool
  acuDraining : Bool
  cfgFault : Bool
  writeIgnored : Bool
  faultWin : BitVec 4
  windows : SMap Window
  twin : Budget
  halved : Budget
  intakeCause : BitVec 4
  intakeMore : Bool
  intakeQueue : BitVec 16
  intakeExpected : Word
  errIntake : Bool
  errDmaRead : Bool
  errDmaWrite : Bool
  errVector : Bool
  errIde : Bool
  qsel : BitVec 16
  deriving DecidableEq, Repr

/-- A queue block entry (R336, R353). -/
structure QBlock where
  fnShadow : BitVec 8
  assignedShadow : Bool
  fn : BitVec 8
  assigned : Bool
  deriving DecidableEq, Repr

/-- A commit under way (R423, R424). -/
structure Commit where
  target : Nat
  mask : BitVec 7
  deriving DecidableEq, Repr

/-- How far a command's completions have come at the port die (R64, R65, R307, R308). -/
inductive Verdict where
  | open
  | agreed
  | discord
  | writtenOff
  deriving DecidableEq, Repr

/-- A command fanned out and not yet final (R75 OUTSTANDING, R310): the packet, which channels' completions are
expected, what has arrived and when, and whether a completion of it has been written. -/
structure Outst where
  intakeNo : Nat
  queue : BitVec 16
  seq : Word
  function : BitVec 8
  halved : Bool
  assayed : Bool
  homeB : Bool
  cls : BitVec 3
  pkt : Packet
  /-- The position of its payload in the replay heap, in units of 64 bytes (R310). -/
  heapAt : Nat
  needA : Bool
  needB : Bool
  gotA : Option CompRec
  gotB : Option CompRec
  firstAt : Option Nat
  written : Bool
  windowOver : Bool
  held : Bool
  verdict : Verdict
  deriving DecidableEq, Repr

/-- A discord under resolution (R316, R317): the command, the check codes of its probes, the staleness of
each, and the tide by which they count as late. -/
structure Resolve where
  intakeNo : Nat
  probeA : Option DWord
  probeB : Option DWord
  stale : Bool
  lateTide : Nat
  deriving DecidableEq, Repr

/-- A completion on its way out: in the passing area, or held for an overrun hold (R68, R69). -/
structure Egress where
  queue : BitVec 16
  function : BitVec 8
  /-- 0: continuation. 1: A. 2: B. 3: M (R59). -/
  tag : BitVec 2
  witness : Bool
  /-- The port die's own completion, whose TIDE_LO is the tide it is written in (R61). -/
  own : Bool
  record : CompRec
  deriving DecidableEq, Repr

/-- A function reset between its request and boundary V (R347). -/
structure FnReset where
  fns : List Nat
  r : Nat
  /-- The last intake number of the functions at the request. -/
  n : Nat
  listA : Option (List Nat)
  listB : Option (List Nat)
  v : Option Nat
  union : List Nat
  deriving DecidableEq, Repr

/-- The SR-IOV capability of PF0 (R335, R346). -/
structure SrIov where
  initialVfs : BitVec 16
  totalVfs : BitVec 16
  vfEnable : Bool
  deriving DecidableEq, Repr

/-- A sent MSI-X message: function, table entry, and the selective IDE stream it carries (R337, R338, R345). -/
structure MsiX where
  function : Nat
  vector : Nat
  ide : Option (BitVec 6)
  deriving DecidableEq, Repr

/-- The states of a channel in ASSAY_STATUS (R334). -/
inductive ChState where
  | off | starting | refilling | ready | joined | retired | draining
  deriving DecidableEq, Repr

/-- The assay unit's registers and per-channel records (R307 to R334). -/
structure Assay where
  floorShadow : Byte
  irqShadow : Bool
  floor : Byte
  irq : Bool
  stateA : ChState
  stateB : ChState
  soloFault : Bool
  healthA : Word
  healthB : Word
  scoreA : Byte
  scoreB : Byte
  /-- The tide of each channel's last report. -/
  reportA : Option Nat
  reportB : Option Nat
  /-- The last report is bad by its word or by its score against the floor in force when it came (R313, R425). -/
  badA : Bool
  badB : Bool
  /-- The tide each channel joined in, from which its reports are awaited (R313). -/
  joinedAtA : Nat
  joinedAtB : Nat
  runA : BitVec 5
  runB : BitVec 5
  discords : BitVec 16
  unresolved : BitVec 16
  logQueue : BitVec 16
  logVerdict : BitVec 3
  logRetiredB : Bool
  logValid : Bool
  logMore : Bool
  logSeq : Word
  retireChannelB : Bool
  retireCause : BitVec 3
  retireValid : Bool
  retireMore : Bool
  retireTide : Word
  refillActive : Bool
  refillB : Bool
  refillFull : Bool
  joinTide : Word
  /-- The join tide fixed and not yet reached (R329). -/
  joinAt : Option Nat
  lateA : BitVec 16
  lateB : BitVec 16
  withdrawalPairs : BitVec 16
  generatorPairs : BitVec 16
  probesIssued : BitVec 16
  probesStale : Byte
  resolve : Option Resolve
  /-- Channels that have sent a generator fault report (R304). -/
  genFaultA : Bool
  genFaultB : Bool
  /-- Tides at whose boundary CHANNEL_LOST is due for a retired channel (R320): channel B?, tide. -/
  lostDue : List (Bool × Nat)
  /-- A planned retirement (R330): channel, target P, and whether the new image is to start. -/
  planned : Option (Chan × Nat)
  deriving DecidableEq, Repr

/-- The tide registers of the port die (R29). -/
structure TideRegs where
  maxSkew : Byte
  faultA : Bool
  faultB : Bool
  adopted : Bool
  /-- The channels' count, adopted at the next boundary (R28). -/
  adoptTo : Option Nat
  deriving DecidableEq, Repr

/-- The global page (R422 to R427). -/
structure Global where
  evReadyUp : Bool
  evTwinUp : Bool
  evTwinDown : Bool
  evRetireA : Bool
  evRetireB : Bool
  evNotReady : Bool
  evBlank : Bool
  evEbb : Bool
  scratch : Word
  commitDone : Word
  issued : Byte
  doneCount : Byte
  overflow : Bool
  lateWrite : Bool
  reject : BitVec 7
  ecDiscord : Bool
  ecDevEvent : Bool
  ecCommitErr : Bool
  ecUnmapped : Bool
  ecAccess : Bool
  ecIndErr : Bool
  ecChannelDown : Bool
  ecFunction : Byte
  indAddr : BitVec 48
  indInc : Bool
  stagedHi : BitVec 16
  badAddr : Bool
  roWrite : Bool
  indChannelDown : Bool
  deriving DecidableEq, Repr

/-- The tenant page (R354). -/
structure Tenant where
  twinCoreShadow : BitVec 6
  twinCore : BitVec 6
  twinHbmShadow : BitVec 16
  twinHbm : BitVec 16
  resetFn : Byte
  resetAll : Bool
  resetEgress : Bool
  faultFn : Byte
  faultKind : BitVec 2
  faultPartial : Bool
  faultMore : Bool
  faultQueue : BitVec 16
  faultAddr : DWord
  errQblock : Bool
  errVectors : Bool
  errIde : Bool
  deriving DecidableEq, Repr

/-- An exhaustion target or a wait verdict the port die has sent (R87, R188). -/
structure WaitVote where
  intakeNo : Nat
  e : Nat
  waitingA : Option Bool
  waitingB : Option Bool
  expire : Option Bool
  deriving DecidableEq, Repr

end Sys2Proof.Machine
end

