-- ==== Sys2Proof/Machine/StateMgmt.lean ====
section
/-! DEFINITION. The state of tamper response and power (chapter 14), the management plane and event recorder (chapter
15), the start of a channel (chapter 17), its thermal rules (chapter 18) and its journal (chapter 12), as plain data. -/

namespace Sys2Proof.Machine

/-! ### Management records (R395, R398, R400, R435) -/

/-- An officer or custodian record: ALG, public key, ROLES (R169, R398). -/
structure Officer where
  alg : Nat
  key : Bytes
  roles : BitVec 4
  deriving DecidableEq, Repr

/-- A function's policy record: grant bits, the AES block limit k and the usages it may create (R400). -/
structure Policy where
  grants : Byte
  aesLimit : Nat
  usages : DWord
  deriving DecidableEq, Repr

/-- The management records of a channel (R435): officers, programmed tamper levels, slot grants (function × 16 + grant:
first slot and count), policies, decimalisation tables and custodians (function × 16 + index). -/
structure Records where
  officers : SMap Officer
  levels : List (BitVec 3)
  grants : SMap (Nat × Nat)
  policies : SMap Policy
  dectabs : SMap Bytes
  custodians : SMap Officer
  deriving DecidableEq, Repr

/-- The persistent regions of a channel that an image or a full copy carries (R281, R328): slot array, DUKPT records,
basin records, vault entries and index, and of the shadow area the component sessions, whose shadow generations outlive a
command. -/
structure Regions where
  slots : SMap Bytes
  dukpt : SMap DukptRec
  basins : SMap Basin
  entries : SMap Nat
  index : SMap Nat
  sessions : List Session
  deriving DecidableEq, Repr

/-- A management change as it is applied at its effect tide (R394, R397, R401). -/
inductive Change where
  | officer (id : Nat) (o : Option Officer)
  | provision (officers : List (Nat × Officer))
  | levels (l : List (BitVec 3))
  | clearAlarm (mask : BitVec 23)
  | grant (fn idx first count : Nat)
  | policy (fn : Nat) (p : Policy)
  | dectab (fn idx : Nat) (table : Bytes)
  | custodians (fn : Nat) (l : List (Nat × Officer))
  | openSession (x : Session)
  | component (slot index officer : Nat) (kcv part : Bytes)
  | abandon (slot : Nat)
  | keyBlock (fn kbpk target : Nat) (replace : Bool) (block : Bytes)
  | destroy (slot : Nat)
  | budget (fn : Nat) (halved : Bool) (b : Budget)
  | basin (n : Nat) (b : Basin)
  | basinClear (n : Nat)
  | unbind (n : Nat)
  | personalise (fn : Nat) (p : Bytes)
  | image (r : Regions)
  | freeze (on : Bool)
  | flush
  | limits (l : List (Nat × Nat))
  | route (binding : Option Binding) (eid : Byte)
  deriving DecidableEq, Repr

/-! ### The journal (R323 to R325) -/

/-- The after-image a delta carries (R323). -/
inductive Image where
  | slot (records : List (Nat × Bytes))
  | basin (n : Nat) (b : Basin) (entry : List (Nat × Nat)) (index : List (Nat × Nat))
  | dukpt (n : Nat) (r : DukptRec)
  | stream (n : Nat) (x : Stream)
  | ledger (e : LedgerEntry)
  | exhaustion (slot : Nat) (gen : BitVec 16) (tide : Nat)
  | management (c : Change)
  | session (slot : Nat) (x : Option Session)
  | volatileCount (fn n : Nat)
  | volatileRoot (vr : Bytes)
  deriving DecidableEq, Repr

/-- A journal delta (R324). -/
structure Delta where
  intake : Nat
  jseq : Nat
  kind : Nat
  object : Nat
  tideLo : Word
  rung : Nat
  /-- CHANNEL and TAG of the header; the image is what the payload opens to. -/
  side : Chan
  image : Image
  tag : Bytes
  deriving DecidableEq, Repr

/-- A checkpoint record (R325), with its CMAC under K_REC. -/
structure Checkpoint where
  lowWater : Nat
  fromJseq : Nat
  nextJseq : Nat
  tide : Nat
  rung : Nat
  mac : Bytes
  deriving DecidableEq, Repr

/-- An assay note of a twin command: whether it writes an object, its admission tide and what it bound
(R317). -/
structure AssayNote where
  intakeNo : Nat
  writer : Bool
  tide : Nat
  binds : List Bind
  deriving DecidableEq, Repr

/-- The journal of a channel: the deltas its ring holds, oldest first, the next JSEQ, the two checkpoint places, the
last low-water received, and the assay notes. -/
structure Journal where
  ring : List Delta
  nextJseq : Nat
  checkA : Option Checkpoint
  checkB : Option Checkpoint
  newerB : Bool
  lowWater : Nat
  notes : List AssayNote
  /-- Before-images of what commands wrote, by intake number, freed with their notes (R317). -/
  before : List (Nat × Image)
  deriving DecidableEq, Repr

/-- What a refill has reached in the refilling channel (R326 to R329). -/
inductive RefillStep where
  | none
  | repairList
  | replay
  | regions
  | snapshots
  | catchUp
  deriving DecidableEq, Repr

/-- What a survivor hands over at a join (R329), as it stands when the last command delivered before the join has been
decoded: the tide, the twin public-key ledgers, the current epoch and its count, the twin ebb ledger, the twin delay list,
the sequence numbers delivered, and the pair at which the twin booking goes on (R109; DEDUCED, log 224). -/
structure Handover where
  tide : Nat
  epoch : Nat
  uses : Nat
  rotTwin : Nat
  delayed : List Item
  delivered : SMap Nat
  /-- The twin counters of the tides, with the public-key and ebb ledgers (R233, R455). -/
  use : List TideUse
  deriving DecidableEq, Repr

/-- The refill of a channel (R326 to R329): its step; the low-water L below which nothing is sent, or after the join the
last intake number delivered before it; the survivor's JSEQ that is sent next; the join's placeholders (the writer's intake
number and its object); whether the handover is awaited; whether content was lost, so that a full copy is due. In the
survivor: the last intake number before the join, and the handover once formed. -/
structure Refill where
  step : RefillStep
  low : Nat
  nextSend : Nat
  placeholders : List (Nat × FlowKind × Nat)
  awaitHandover : Bool
  persistentLost : Bool
  /-- A refill ended before its join: the content is part the survivor's, part the channel's own. -/
  partialCopy : Bool
  sending : Option Nat
  sent : Option Handover
  deriving DecidableEq, Repr

/-! ### Tamper (R357 to R384) -/

/-- The backup island of a channel (R375 to R377, R382, R384). -/
structure Island where
  brine : Bytes
  /-- The 64-bit check value beside the brine key (R274). -/
  check : DWord
  /-- BRINE_VALID: the key passed its check at the last arming (R384). -/
  valid : Bool
  erased : Bool
  retain : Bool
  onVbat : Bool
  backupWakes : Byte
  wakeDuration : BitVec 16
  wakeClass : BitVec 2
  pending : BitVec 16
  alarm : BitVec 23
  /-- Latched sources whose response was L1 or above (R382). -/
  drivers : BitVec 23
  deriving DecidableEq, Repr

/-- The tamper responder of a channel (R357 to R383). -/
structure Tamper where
  armed : Bool
  boot : Bool
  /-- The level of the last response, and the cycle at which its last action ends (R365). -/
  active : BitVec 3
  activeUntil : Nat
  /-- The cycles the response still lasts in a channel that is not aligned and so counts no tide. -/
  lasts : Nat
  /-- The union of the response under way (R369). -/
  answering : BitVec 23
  peerL5 : Bool
  seen : BitVec 23
  /-- Sources detecting now. -/
  detecting : BitVec 23
  /-- Levels in force, sources 0 to 22. -/
  levels : List (BitVec 3)
  l1 : Byte
  l2 : Byte
  l3 : Byte
  lastSources : BitVec 23
  lastLevel : BitVec 3
  lastTide : Word
  bistNext : BitVec 5
  /-- The cycle in which a detection that outlasts the last test window is raised, 16 after the window has closed (R362). -/
  bistUntil : Nat
  /-- Sources that detect since they came under test, raised when the test is over (R362). -/
  outlast : BitVec 23
  bistRuns : BitVec 16
  bistFail : BitVec 23
  /-- Sources whose last test failed (R363). -/
  failedOnce : BitVec 23
  tmpIn : BitVec 4
  wakeHigh : Bool
  restarts : BitVec 4
  deriving DecidableEq, Repr

/-- The fuse bank of a channel beyond the fuse root and the floor (R273, R277, R380, R422, R427): `rootRow` is the second
row of the fuse root, `lockFuse` the pattern of the configuration lock and `cfgLock` the byte read from it. -/
structure Fuses where
  identity : Bytes
  part : BitVec 4
  stackGb : Byte
  rootRow : Bytes
  lockFuse : Byte
  cfgLock : Byte
  evidence : List (BitVec 6)
  loaded : Bool
  rowsAgree : Bool
  peerMatch : Bool
  loadTide : Word
  deriving DecidableEq, Repr

/-! ### Start (R432 to R437), flash and thermal (R452 to R457) -/

/-- Where a channel stands in its start (R432): held in reset, at step 1, 3, 5, 6, 7 or 9 of the table, waiting for its
join, in service, in recovery (R433), out of service (R434), tripped (R457), or halted (R379). -/
inductive StartStep where
  | off | fuseLoad | image | training | memoryTest | selfTest | sluice | join | service | recovery | failed | tripped
  | halted
  deriving DecidableEq, Repr

/-- What a channel's flash holds (R330, R435, R453): two firmware images, the active one, the board record, and the
configuration area beside the records. -/
structure Flash where
  images : List Bytes
  active : Nat
  board : Bytes
  records : Records
  budgets : SMap (Budget × Budget)
  basins : SMap Basin
  person : SMap Bytes
  limits : SMap Nat
  deriving DecidableEq, Repr

/-- The start of a channel (R431 to R437). -/
structure Start where
  step : StartStep
  triedOther : Bool
  trainingFailures : Nat
  hbmKept : Bool
  step8At : Option Nat
  /-- A trip holds the channel at the end of step 1 (R457). -/
  held : Bool
  /-- No checkpoint has been written in this device start (R436). -/
  unchecked : Bool
  deriving DecidableEq, Repr

/-- The thermal state of a channel (R452 to R457). -/
structure Thermal where
  reading : Int
  threshold : Int
  share : Nat
  ebbTwin : Bool
  ebbHalved : Bool
  /-- Ebb states computed in the tide, in force from the next boundary (R454). -/
  nextTwin : Bool
  nextHalved : Bool
  hotTides : Nat
  coolTides : Nat
  overTemp : Bool
  /-- The role of R457 sent for the tide: trip as the first, trip as the second. -/
  tripFirst : Bool
  tripSecond : Bool
  deriving DecidableEq, Repr

/-- What the health word and score rest on beside other state (R311, R312): the bits cleared since channel start, the
tide of the last bus code error, the tide from which no sluice session stands, the score and the tide's deductions. -/
structure Health where
  cleared : BitVec 16
  busTide : Option Nat
  noSluiceFrom : Option Nat
  score : Nat
  deduct : Nat
  /-- Tides of the last whole scrub of channel store and of HBM (R314). -/
  scrubStore : Option Nat
  scrubHbm : Option Nat
  /-- The word and score computed at the last boundary and not yet reported. -/
  report : Option (Word × Byte)
  deriving DecidableEq, Repr

/-- The causes of a channel fault report (R315). -/
inductive FaultCause where
  | tideFault | decodeLate | generator | tamper | thermal
  deriving DecidableEq, Repr

/-! ### Management port (R385 to R405) -/

/-- A live nonce (R399). -/
structure Nonce where
  id : Word
  value : Bytes
  tide : Nat
  deriving DecidableEq, Repr

/-- A channel's result of a Kerral message (R393). -/
structure KerralResult where
  result : Nat
  effect : Nat
  data : Bytes
  deriving DecidableEq, Repr

/-- An outstanding Kerral message (R397, R401): its management counter and intake number, CODE and message; whether its
execution has begun; the change it makes, its hold tide H and its target tide; the fence reports; and the
result the joined channels agree on. -/
structure KerralMsg where
  counter : Nat
  intakeNo : Nat
  /-- The tide of its intake, by which a ceremony's expiry is judged (R170). -/
  intakeTide : Nat
  code : Nat
  msg : Kerral
  /-- The image that IMAGE_IMPORT's window holds (R405). -/
  image : Bytes
  started : Bool
  change : Option Change
  hold : Option Nat
  target : Option Nat
  noneA : Bool
  noneB : Bool
  result : Option KerralResult
  deriving DecidableEq, Repr

/-- A message the device sends on the management port: binding, the endpoint it goes to where a route names one (an answer
goes to the endpoint that asked), session, MCTP type, bytes. -/
structure MgmtOut where
  binding : Binding
  eid : Option Byte
  session : Option Nat
  type : BitVec 7
  body : Bytes
  deriving DecidableEq, Repr

/-- An SPDM secured session (R387): its responder, whether FINISH has completed it, and its key updates. -/
structure SpdmSession where
  id : Nat
  responder : Chan
  established : Bool
  updates : Nat
  deriving DecidableEq, Repr

/-- The SPDM responder's connection state (R387). -/
structure Spdm where
  version : Bool
  capabilities : Bool
  algorithms : Bool
  sessions : List SpdmSession
  nextSession : Nat
  deriving DecidableEq, Repr

/-! ### The event recorder (R406 to R413) -/

/-- A recorder record (R408); `limit` none is the reset value of the code's severity (R409). -/
structure EventRec where
  limit : Option Nat
  count : Nat
  suppressed : Nat
  min : Nat
  max : Nat
  first : Nat
  last : Nat
  bins : List Nat
  limited : Bool
  approx : Bool
  deriving DecidableEq, Repr

/-- An image of the recorder in MRAM (R410): sequence number, timestamp, records. -/
structure RecImage where
  seq : Nat
  stamp : Nat
  records : SMap EventRec
  deriving DecidableEq, Repr

/-- The event recorder (R406 to R413). -/
structure Recorder where
  records : SMap EventRec
  /-- Histogram updates of the tide, by code. -/
  tideUse : SMap Nat
  frozenAt : Option Nat
  deltas : List (Nat × Nat × Nat)
  side : SMap Nat
  marked : List Nat
  /-- Codes that the rate limit acted on while the recorder was frozen (R409, R411). -/
  limitedCodes : List Nat
  /-- Events in the 4,096-entry input queue, from which the recorder takes one each cycle (R409). -/
  input : Nat
  image0 : Option RecImage
  image1 : Option RecImage
  seq : Nat
  /-- The flush under way: the image it writes and the copy it writes; and the trigger of one that waits. -/
  flushing : Option (Bool × RecImage)
  queued : Option Nat
  /-- The trigger of the flush that started in this cycle, with record 0x023 and its updates of the tide as they stood
  before it (R414). -/
  began : Option (Nat × EventRec × Nat)
  optime : Nat
  cycles : Nat
  /-- The first CCLK cycle of a PCLK cycle has passed (R24, R409). -/
  half : Bool
  /-- Cycles of the unit of OPTIME under way, and the value of OPTIME at the last periodic flush. -/
  opfrac : Nat
  opFlushed : Nat
  deriving DecidableEq, Repr

/-- The management port of the port die (R385 to R405, R413). -/
structure Mgmt where
  counter : Nat
  nonces : List Nonce
  messages : List KerralMsg
  eidPcie : Byte
  eidI3c : Byte
  i3cAddress : BitVec 7
  route : Option Binding
  routeEid : Byte
  alertsSent : Nat
  spdm : Spdm
  out : List MgmtOut
  /-- A firmware update transferred and written in each channel (R390). -/
  updateA : Bool
  updateB : Bool
  /-- A slack entry: target tide S (R371). -/
  slack : Option Nat
  /-- The activation of R330 under way: the Kerral message's counter and the channel. -/
  activation : Option (Nat × Chan)
  deriving DecidableEq, Repr

/-- The power states (R370). -/
inductive Power where
  | run | sleep | backup
  deriving DecidableEq, Repr

/-- The pins and layers of a start (R429 to R431, R449). -/
structure PortStart where
  power : Power
  porst : Bool
  perst : Bool
  refclk : Bool
  /-- The port die's start has ended. -/
  up : Bool
  linkUp : Bool
  coldStart : Bool
  aligned : Bool
  /-- The first lock report's tide-independent mark: which channels have reported CCLK lock. -/
  lockA : Bool
  lockB : Bool
  deriving DecidableEq, Repr

end Sys2Proof.Machine
end

