-- ==== Sys2Proof/Config.lean ====
section
/-! DEFINITION. What the spec leaves to an implementation or does not state: opaque constants, about which nothing can be
proved (the assumption log names each). -/

namespace Sys2Proof

/-- A flash image passes the signature check of the boot ROM under the signer key whose hash is fused (R433). -/
opaque Config.imageSigned : Bytes → Bool

/-- The security version an image carries (R279, R433). -/
opaque Config.imageSvn : Bytes → Byte

/-- The firmware signer an image names (R21). -/
opaque Config.imageSigner : Bytes → Nat

/-- The hash of the boot ROM and the hash of the firmware signer key (R21, R276). -/
opaque Config.bootRomHash : Bytes
opaque Config.signerKeyHash : Bytes

/-- The characters that fill a PB block (R162 does not give them). -/
opaque Config.pbFill : Nat → Byte

/-- The substitute Z of a failed OAEP decoding, from the private key and A (R165 does not give its derivation). -/
opaque Config.oaepSubstitute : Bytes → Bytes → Bytes

/-- The 64-bit check value beside a brine key (R274 does not give its code). -/
opaque Config.brineCheck : Bytes → DWord

/-- The two keys of a sluice session, channel A's to send under first, from both shared secrets (R21 does not give the
derivation), and the 32-bit direction-and-session word, by direction and session number (R21 does not give its fields). -/
opaque Config.sluiceKeys : Bytes → Bytes → Bytes × Bytes
opaque Config.sluiceWord : Nat → Nat → Word

/-- The payload bytes of a journal delta's image, where R323 and R324 give it no layout. -/
opaque Config.deltaBytes : Machine.Image → Bytes

/-- Byte strings the spec does not state, by the counter of free values. -/
opaque Config.freeBytes : Nat → Bytes

/-- Numbers the spec does not state, by the counter of free values. -/
opaque Config.freeNat : Nat → Nat

/-- The upper bound on an item's remaining slices that firmware reports at a slice end or a pre-emption (R91), by channel,
work item and cycle: core time is otherwise not specified (R89). -/
opaque Config.sliceBound : Chan → Nat → Nat → Nat

/-- The regions firmware loads into a core's access control unit for an item (R349), by channel, work item and cycle; and
the address and the space (true: HBM) where firmware has the message of a digest job, with the address of the padding it
builds (R207, R208), by channel and work item. -/
opaque Config.regions : Chan → Nat → Nat → List Machine.Region
opaque Config.message : Chan → Nat → DWord × Bool × DWord

/-- The areas that no region may cover, in channel store (false) and HBM (true), as first address and length: lane-private and
engine-private channel store, the key cache, flow state and stream contexts, whose addresses the spec does not give (R349). -/
opaque Config.privateAreas : Bool → List (Nat × Nat)

/-- Where in the replay heap a packet's payload lies (R310 gives no allocation), by intake number. -/
opaque Config.heapAt : Nat → Nat

/-- Bytes of blinding material that a public-key operation draws (R223 gives no length), by opcode and algorithm code. -/
opaque Config.blindingLen : Nat → Nat → Nat

/-- Bytes of masks that a rake job draws (R290 and R298 give no length), by opcode. -/
opaque Config.maskLen : Nat → Nat

/-- The certificate chain of slot 0, by the fuse root, from which the identity key is derived, and the device identity
(R387), and the bytes a measurement block covers (R388), by block index and the
numbers the spec names for it. -/
opaque Config.certChain : Bytes → Bytes → Bytes

/-- The identity keys that the key ladder derives from FR, ECDSA P-384 and ML-DSA-65 (R21, R387 give no derivation), and what a signed answer signs, by its
content (DSP0274's transcript). -/
opaque Config.identityKey : Bytes → Nat
opaque Config.identitySeed : Bytes → Bytes
opaque Config.signedMessage : Bytes → Bytes
opaque Config.measured : Nat → List Nat → Bytes → Bytes

/-- The bytes by which a management standard (DSP0274, DSP0267, DSP0248) spells an answer, by the request answered and the
content the spec gives it. -/
opaque Config.standardMessage : Nat → Bytes → Bytes

/-- The event, code and value, by which a boot ROM records that it refuses an image (R433), and by which a second failure
of HBM training is recorded (R434): R406 lists no code for either. -/
opaque Config.imageRefusalEvent : Nat × Nat
opaque Config.trainingFaultEvent : Nat × Nat

/-- The sealed store image of the persistent regions under a key, and what an image opens to under it; none where it does
not open (R281 gives no layout). -/
opaque Config.imageSeal : Bytes → Machine.Regions → Bytes
opaque Config.imageOpen : Bytes → Bytes → Option Machine.Regions

end Sys2Proof
end

