-- ==== Sys2Proof/Machine/ResetValues.lean ====
section
/-! DEFINITION. The values the parts of the LX96 take at a reset: the Reset columns of the register tables, the values
the rules state for a channel start or a device reset, and, where the spec states none, the values the assumption log
names. -/

namespace Sys2Proof.Machine

/-! ### Port die (R29, R75, R334, R338, R353, R354, R422) -/

/-- The SH fields of a queue context at device reset (R75, R338). -/
def QConf.reset : QConf :=
  { enable := false, halved := false, homeB := false, assayed := false, ring := false, sqLog2 := 6#5, cqLog2 := 10#5,
    prioLimit := 0#3, sqBase := 0#52, cqBase := 0#52, vector := 0#11, irqEn := false, modCount := 1#8, modTides := 0#8 }

/-- A queue context at device reset (R75, R77). -/
def QCtx.reset : QCtx :=
  { shadow := QConf.reset, conf := QConf.reset, expected := 0#32, sqHead := 0#16, sqTail := 0#16, cqWrite := 0#16,
    cqHead := 0#16, phase := true, overrun := false, cfgErr := false, fetchHalt := false, outstanding := 0#17, unsignalled := 0#8,
    firstTide := 0#24 }

/-- A DMA window at device reset (R353). -/
def Window.reset : Window :=
  { base := 0#52, pagesM1 := 0#24, read := false, write := false, on := false, lock := false }

/-- A budget record after first provisioning and at device reset: floors 0, ceilings at their maxima (R344). -/
def Budget.reset : Budget :=
  { skimFloor := 0#8, skimCeil := 0x80#8, coreFloor := 0#6, coreCeil := 0x30#6, pkFloor := 0#9, pkCeil := 0x100#9,
    hbmFloor := 0#16, hbmCeil := 0x8000#16 }

/-- FN_CFG at device reset (R353). -/
def FnCfg.reset : FnCfg :=
  { vectors := 0x040#12, errVector := 0#11, errEn := true, ideStream := 0#6, ideAssigned := false }

/-- A function at device reset (R74, R353, R355, R418). -/
def Fn.reset : Fn :=
  { cfgShadow := FnCfg.reset, cfg := FnCfg.reset, acuWanted := false, acuEnabled := false, acuDraining := false,
    cfgFault := false, writeIgnored := false, faultWin := 0#4, windows := [], twin := Budget.reset,
    halved := Budget.reset, intakeCause := 0#4, intakeMore := false, intakeQueue := 0#16, intakeExpected := 0#32,
    errIntake := false, errDmaRead := false, errDmaWrite := false, errVector := false, errIde := false, qsel := 0#16 }

/-- A queue block entry at device reset (R353). -/
def QBlock.reset : QBlock := { fnShadow := 0#8, assignedShadow := false, fn := 0#8, assigned := false }

/-- The assay unit at device reset (R334). -/
def Assay.reset : Assay :=
  { floorShadow := 0x20#8, irqShadow := true, floor := 0x20#8, irq := true, stateA := .off, stateB := .off,
    soloFault := false, healthA := 0#32, healthB := 0#32, scoreA := 0#8, scoreB := 0#8, joinedAtA := 0, joinedAtB := 0, reportA := none,
    reportB := none, badA := false, badB := false, runA := 0#5, runB := 0#5, discords := 0#16, unresolved := 0#16, logQueue := 0#16,
    logVerdict := 0#3, logRetiredB := false, logValid := false, logMore := false, logSeq := 0#32,
    retireChannelB := false, retireCause := 0#3, retireValid := false, retireMore := false, retireTide := 0#32,
    refillActive := false, refillB := false, refillFull := false, joinTide := 0#32, joinAt := none,
    lateA := 0#16, lateB := 0#16, withdrawalPairs := 0#16, generatorPairs := 0#16, probesIssued := 0#16,
    probesStale := 0#8, resolve := none, genFaultA := false, genFaultB := false, lostDue := [], planned := none }

/-- The tide registers at device reset (R29). -/
def TideRegs.reset : TideRegs := { maxSkew := 0#8, faultA := false, faultB := false, adopted := false, adoptTo := none }

/-- The global page at device reset (R421 to R426). -/
def Global.reset : Global :=
  { evReadyUp := false, evTwinUp := false, evTwinDown := false, evRetireA := false, evRetireB := false,
    evNotReady := false, evBlank := false, evEbb := false, scratch := 0#32, commitDone := 0#32, issued := 0#8,
    doneCount := 0#8, overflow := false, lateWrite := false, reject := 0#7, ecDiscord := false, ecDevEvent := false,
    ecCommitErr := false, ecUnmapped := false, ecAccess := false, ecIndErr := false, ecChannelDown := false,
    ecFunction := 0#8, indAddr := 0#48, indInc := true, stagedHi := 0#16, badAddr := false, roWrite := false,
    indChannelDown := false }

/-- The tenant page at device reset (R354). -/
def Tenant.reset : Tenant :=
  { twinCoreShadow := 0x30#6, twinCore := 0x30#6, twinHbmShadow := 0x8000#16, twinHbm := 0x8000#16, resetFn := 0#8,
    resetAll := false, resetEgress := false, faultFn := 0#8, faultKind := 0#2, faultPartial := false,
    faultMore := false, faultQueue := 0#16, faultAddr := 0#64, errQblock := false, errVectors := false,
    errIde := false }

/-! ### A channel's scheduler and engines (R98, R118, R204, R220, R246, R283, R306) -/

/-- Budget counters of a fresh tide under the shares and budgets in force: skim admissions, core slices, HBM units, the first
lane pair and how many, engines, ebb. -/
def TideUse.fresh (tide skim core hbm : Nat) (pairs : Nat × Nat) (engines : Nat) (ebb : Bool) (share : Nat)
    (budgets : SMap Budget) : TideUse :=
  { tide := tide, skimShare := skim, coreShare := core, hbmShare := hbm, firstPair := pairs.1, pairs := pairs.2,
    engines := engines, ebbOn := ebb, ebbShare := share, ledger := 0, eledger := 0, pk := 0, skim := 0,
    ebb := 0, corePool := 0, hbmPool := 0, fns := [], budgets := budgets }

/-- An idle core. -/
def Core.idle : Core :=
  { item := none, since := 0, preempts := 0, regions := [], cfgFault := false, out := false, testedTide := none }

/-- The scheduler at channel start (R97, R98). -/
def Sched.reset : Sched :=
  { fanout := [], delivered := [], nextItem := 0, items := [], flows := [], delayTwin := [], delayHalved := [],
    useTwin := [], useHalved := [], ready := List.replicate 8 [], urgentList := [],
    cores := List.replicate 48 Core.idle, produced := [], pointer := 0, buffer := [], traceRing := [], traceBuf := [],
    regs := { twinSkimShadow := 0x80#8, twinSkim := 0x80#8, maskShadow := 0x1FF#9, mask := 0x1FF#9, twinMismatch := false,
              decodeLate := false, missCount := 0#32, traceNext := 0#25, traceWrapped := false, traceLost := 0#32,
              preempts := 0#16, merges := 0#16 } }

/-- A lane pair at channel start. -/
def Pair.idle : Pair :=
  { booked := 0, queue := [], busyUntil := 0, testedTide := none, job := none, work := [], testFail := false, faultCompare := false,
    faultBus := false }

/-- The skim path at channel start (R118). -/
def Skim.reset : Skim :=
  { pairs := List.replicate 64 Pair.idle, rotTwin := 0, rotHalved := 0, joinCap := false,
    regs := { rakesShadow := 7#4, rakes := 7#4, twinMismatch := false, admits := 0#32, refusedCount := 0#16,
              refusedLanes := 0#16, fills := 0#32, maxAhead := 0#14, booked := 0#32, faultCompare := 0#16,
              faultCorrupt := 0#16 } }

/-- A free stream context (R195). -/
def Stream.free : Stream :=
  { state := .free, decrypt := false, tagLen := 0, alg := 0, slot := 0, generation := 0#16, aadLen := 0, totalLen := 0,
    received := 0, key := [], crustKey := [], h := 0#128, ej0 := [], ctr := 0, iv := [], ghash := 0#128,
    partialCt := [], partKs := [] }

/-- The counters of one rake at channel start (R204). -/
def RakeRegs.reset : RakeRegs := { faultCount := 0#16, blocks := 0#32, yields := 0#16, aborts := 0#16 }

/-- The rakes at channel start (R204). -/
def Rakes.reset : Rakes :=
  { jobs := [], streams := [], perRake := List.replicate 8 RakeRegs.reset, crustKilled := 0#32, exhaustReports := 0#16,
    exhaustRefused := 0#16, logPair := 0#3, logRake := 0#3, logKind := 0#2, logMore := false, faultTide := 0#32,
    gapSlices := 0#32, tagFails := 0#32 }

/-- A digest engine at channel start (R220, R221). -/
def DigestEngine.reset : DigestEngine :=
  { job := none, work := [], busyUntil := 0, outOfService := false, testFail := false, testedTide := none, blocks := 0#32, faultBus := false,
    faultMemory := false, faultPair := false, faultList := false, faultCount := 0#16, yields := 0#16, aborts := 0#16,
    algo := 0#3, regMode := false, modeRead := 0#32, message := [], lastWord := 0#64, lastCount := none, done := false,
    modeFault := false, result := zeros 64, expect := zeros 64, isMatch := false, isMatchN := false }

/-- The digest engines at channel start (R220, R221). -/
def Digests.reset : Digests :=
  { engines := List.replicate 4 DigestEngine.reset, jobs := [], compareMatches := 0#16, compareMismatches := 0#16,
    logEngine := 0#2, logKind := 0#3, logMore := false, faultTide := 0#32, bytes := 0#64, katRuns := 0#32,
    locked := false }

/-- A public-key engine at channel start (R246). -/
def PkEngine.reset : PkEngine :=
  { job := none, startedAt := 0, validated := false, slicesReported := 0, wipingUntil := 0, wiping := false, busyUntil := 0,
    testedTide := none,    owned := false, owner := 0#8, ops := 0#16, aborts := 0#16, secret := [], working := [] }

/-- The public-key engines at channel start (R246). -/
def Pks.reset : Pks :=
  { engines := List.replicate 16 PkEngine.reset, queueTwin := [], queueHalved := [],
    drainedTwin := 0, drainedHalved := 0, splitShadow := 16#5, split := 16#5, twinMismatch := false, rejInput := 0#16,
    rejInvariant := 0#16, logEngine := 0#4, logKind := 0#3, logMore := false, faultTide := 0#32, wipesOwner := 0#16,
    wipesAbort := 0#16, maxAttempts := 0#9, capHits := 0#16 }

/-- The key store of a channel with nothing in HBM, flash or fuses (R249, R254, R277, R283). -/
def Keys.reset : Keys :=
  { slots := [], retained := [], cache := [], purgedAt := none, clock := 0, fills := [], ledger := [], nextLedger := 0,
    sessions := [], fuseRoot := zeros 32, fuseFloor := 0, sdk := none, rung := 0, svnRun := 0, vr := none, vc := [],
    rootCopies := [], firstRoot := false, commit := none, exhaustAt := [], reported := [], dukpt := [], basins := [], entries := [],
    index := [], hits := 0#32, misses := 0#32, fillCorrupt := 0#16, fillVolEmpty := 0#16, flips := 0#32,
    destroys := 0#16, withdrawnCount := 0#16, corruptSlot := 0#28, corruptValid := false, corruptMore := false,
    corruptTide := 0#32 }

/-- A renewal just triggered (R295). -/
def Renewal.fresh : Renewal :=
  { own := none, askedAt := 0, peer := none, formed := none, target := none, person := [] }

/-- A noise source of which no sample has been seen. -/
def NoiseTest.reset : NoiseTest := { last := false, run := 0, first := false, seen := 0, count := 0 }

/-- A core's port to the generator at channel start (R299). -/
def RngPort.reset : RngPort := { data := [], word := 0#64, waiting := none, failed := false }

/-- The random bit generator at channel start, before step 1 (R288, R306). -/
def Rng.reset : Rng :=
  { state := .off, source := 0#3, cause := 0#3, atStartup := false, pool := [], lfsr := 1#64, rawBits := 0,
    lastWord := none, tests := List.replicate 8 NoiseTest.reset, failing := none, drbgKey := [],
    drbgV := [], drbgRequests := 0, drbgSeedTide := 0, reseedDue := false, epochs := [], seed0 := none, current := 0, epochTide := 0,
    uses := 0, renewal := none, mismatches := 0, retryAt := none, person := [], personNext := [], ports := [], probeTide := none,
    reseeds := 0#16, epochCount := 0#16, draws := 0#32, repMax := 0#16, aptMax := 0#16, failedReqs := 0#16 }

/-! ### Tamper, start, thermal, management -/

/-- The floor of each tamper source (R357). -/
def tamperFloors : List (BitVec 3) :=
  [2, 2, 1, 1, 1, 0, 3, 3, 3, 3, 3, 4, 5, 4, 0, 0, 0, 0, 2, 1, 4, 5, 5]

/-- The reset level of each tamper source (R357). -/
def tamperResetLevels : List (BitVec 3) :=
  [3, 3, 2, 1, 2, 1, 4, 4, 4, 4, 4, 5, 5, 5, 1, 1, 1, 1, 2, 2, 4, 5, 5]

/-- The evidence class of each tamper source (R357). -/
def tamperClasses : List Nat :=
  [4, 4, 4, 4, 4, 12, 4, 5, 5, 5, 6, 2, 1, 3, 7, 7, 7, 7, 8, 8, 9, 10, 0]

/-- The management records of a device that was never provisioned (R404, R435). -/
def Records.blank : Records :=
  { officers := [], levels := tamperResetLevels, grants := [], policies := [], dectabs := [], custodians := [] }

/-- The policy record of a function for which none was set: it grants and permits nothing. -/
def Policy.none : Policy := { grants := 0#8, aesLimit := 0, usages := 0#64 }

/-- An island after a loss of island power (R377, R384). -/
def Island.unpowered : Island :=
  { brine := zeros 32, check := 0#64, valid := false, erased := false, retain := false, onVbat := false, backupWakes := 0#8,
    wakeDuration := 0#16, wakeClass := 0#2, pending := 0#16, alarm := 0#23, drivers := 0#23 }

/-- The tamper responder at channel start (R383). -/
def Tamper.reset : Tamper :=
  { armed := false, boot := false, active := 0#3, activeUntil := 0, lasts := 0, answering := 0#23, peerL5 := false, seen := 0#23,
    detecting := 0#23, levels := tamperResetLevels, l1 := 0#8, l2 := 0#8, l3 := 0#8, lastSources := 0#23, lastLevel := 0#3,
    lastTide := 0#32, bistNext := 0#5, bistUntil := 0, outlast := 0#23, bistRuns := 0#16, bistFail := 0#23, failedOnce := 0#23,
    tmpIn := 0#4, wakeHigh := true, restarts := 0#4 }

/-- The fuse bank as the log's entry gives it (R384, R427). -/
def Fuses.initial : Fuses :=
  { identity := zeros 16, part := 1#4, stackGb := 0x24#8, rootRow := zeros 32, lockFuse := 0xC3#8, cfgLock := 0xC3#8, evidence := List.replicate 16 0#6,
    loaded := false, rowsAgree := false, peerMatch := false, loadTide := 0#32 }

/-- The flash of a channel as the log's entry gives it (R433, R435, R453). -/
def Flash.initial : Flash :=
  { images := [[], []], active := 0, board := [], records := Records.blank, budgets := [], basins := [], person := [],
    limits := [] }

/-- A channel held at the start of step 1 (R432). -/
def Start.reset : Start :=
  { step := .off, triedOther := false, trainingFailures := 0, hbmKept := false, step8At := none, held := false,
    unchecked := true }

/-- The thermal state at channel start: EBB_TJ 100 and share 8 until step 8 (R453). -/
def Thermal.reset : Thermal :=
  { reading := 0, threshold := 100, share := 8, ebbTwin := false, ebbHalved := false, nextTwin := false,
    nextHalved := false, hotTides := 0, coolTides := 0, overTemp := false,
    tripFirst := false, tripSecond := false }

/-- Health at channel start: every bit set, the score at its cap (R312). -/
def Health.reset : Health :=
  { cleared := 0#16, busTide := none, noSluiceFrom := none, score := 255, deduct := 0, scrubStore := none,
    scrubHbm := none, report := none }

/-- An empty journal (R323, R325). -/
def Journal.reset : Journal :=
  { ring := [], nextJseq := 0, checkA := none, checkB := none, newerB := false, lowWater := 0, notes := [], before := [] }

/-- No refill. -/
def Refill.reset : Refill :=
  { step := .none, low := 0, nextSend := 0, placeholders := [], awaitHandover := false, persistentLost := false, partialCopy := false,
    sending := none, sent := none }

/-- A recorder record with no event (R408, R409). -/
def EventRec.empty : EventRec :=
  { limit := none, count := 0, suppressed := 0, min := 0, max := 0, first := 0, last := 0,
    bins := List.replicate 16 0, limited := false, approx := false }

/-- A recorder that has recorded nothing (R410). -/
def Recorder.reset : Recorder :=
  { records := [], tideUse := [], frozenAt := none, deltas := [], side := [], marked := [], limitedCodes := [], input := 0, image0 := none,
    image1 := none, seq := 0, flushing := none, queued := none, began := none, optime := 0, cycles := 0,
    half := false, opfrac := 0, opFlushed := 0 }

/-- The SPDM responder before a connection (R387). -/
def Spdm.reset : Spdm :=
  { version := false, capabilities := false, algorithms := false, sessions := [], nextSession := 1 }

/-- The management port at device reset (R385, R399). -/
def Mgmt.reset : Mgmt :=
  { counter := 0, nonces := [], messages := [], eidPcie := 0#8, eidI3c := 0#8, i3cAddress := 0#7, route := none,
    routeEid := 0#8, alertsSent := 0, spdm := Spdm.reset, out := [], updateA := false, updateB := false,
    slack := none, activation := none }

end Sys2Proof.Machine
end

