-- ==== Sys2Proof/Machine/State.lean ====
section
/-! DEFINITION. The state of the LX96: the queue of waiting commands, the port die, the two channels, what the device
has written to the host, and the counter of free values. `State.reset` is the device as main power and PORST_N leave it
(R429), before the first step of the port die and of the channels. -/

namespace Sys2Proof.Machine

/-- The key set of a selective IDE stream, or of link IDE (R345, R389). -/
structure IdeStream where
  keys : Bytes
  secure : Bool
  deriving DecidableEq, Repr

/-- An exhaustion target of the port die (R188): slot, generation, X. -/
structure ExhaustTarget where
  slot : Nat
  generation : BitVec 16
  x : Nat
  deriving DecidableEq, Repr

/-- The epoch agreement at the port die (R295): the checks received and the target tide fixed. -/
structure EpochVote where
  checkA : Option Bytes
  checkB : Option Bytes
  target : Option Nat
  mismatches : Nat
  retryAt : Option Nat
  deriving DecidableEq, Repr

/-- The values in force of the channel blocks, as the port die keeps them (R462). -/
structure Kept where
  twinSkim : Byte
  mask : BitVec 9
  rakes : BitVec 4
  split : BitVec 5
  deriving DecidableEq, Repr

/-- What the device has sent to the host: the 64-byte lines its completion writes and images put into host memory, by
line address, with 1 + the selective IDE stream a line was written under, 0 under none (R59, R345, R405); the MSI-X table and pending bits, by function × 2,048 + vector (R337, R415); the messages
sent; and the words the last register read returned. -/
structure HostSide where
  lines : SMap Bytes
  ides : SMap Nat
  table : SMap Bytes
  pba : SMap Bool
  sent : List MsiX
  readData : List Word
  deriving DecidableEq, Repr

/-- The port die. -/
structure PortDie where
  start : PortStart
  tide : Nat
  offset : Nat
  tides : TideRegs
  page : Global
  tenant : Tenant
  assay : Assay
  fns : SMap Fn
  queues : SMap QCtx
  qblocks : SMap QBlock
  commits : List Commit
  kept : Kept
  sriov : SrIov
  ide : SMap IdeStream
  linkIde : IdeStream
  /-- Packets held at intake for replay log entries or heap units, oldest first (R310). -/
  waiting : List Packet
  nextIntake : Nat
  outst : List Outst
  /-- Released entries of the replay log that no command has reused, oldest first, with their payloads' positions (R310). -/
  released : List (Packet × Nat)
  passing : List Egress
  /-- The host grants posted-write credits (R69). -/
  credits : Bool
  held : List Egress
  resets : List FnReset
  waits : List WaitVote
  exhaust : List ExhaustTarget
  epoch : EpochVote
  /-- The hottest readings received for the tide (R452). -/
  readA : Option Int
  readB : Option Int
  /-- L5 signals received and not yet acted on, by sending channel (R368). -/
  l5From : List Chan
  /-- Functions whose reset passed boundary V with no channel joined: the channels apply their part at their join (R440). -/
  wipes : List Nat
  /-- The first join's tide J0 (R437), and an SVN commit's version and target (R280). -/
  j0 : Option Nat
  svnTarget : Option (Nat × Nat)
  recorder : Recorder
  mgmt : Mgmt
  deriving DecidableEq, Repr

/-- A sluice message as the port die forwards it: sealed under the session key of its direction (R20, R21). -/
structure Sealed where
  iv : Bytes
  body : Bytes
  tag : Bytes
  deriving DecidableEq, Repr

/-- What a channel presents in a session agreement (R21): its attested identity, fuse root check value, firmware signer,
SVN and boot measurements, its ECDH P-384 share and ML-KEM-768 key, its encapsulation to its peer's key, and its identity
keys' signatures over share and encapsulation. -/
structure Hello where
  identity : Bytes
  rootCheck : Bytes
  signer : Nat
  svn : Nat
  measurements : List Bytes
  share : Bytes
  kemKey : Bytes
  encapsulation : Bytes
  ecdsa : Bytes
  mldsa : Bytes
  deriving DecidableEq, Repr

/-- A channel's end of the sluice session (R21): the session's number, the keys it sends and receives under, the 64-bit
counter of the next message it sends, the message it sent last as it crossed the port die, the content of the last one it
received (none where that did not open), and what it presented in its last agreement. -/
structure Link where
  session : Nat
  sendKey : Bytes
  recvKey : Bytes
  sent : Nat
  wire : Option Sealed
  received : Option Bytes
  hello : Option Hello
  deriving DecidableEq, Repr

/-- A channel. -/
structure Channel where
  /-- Which channel it is, as its fuses and its place give it. -/
  side : Chan
  tide : Nat
  offset : Nat
  aligned : Bool
  /-- The tide at whose boundary a restarted channel takes the port die's count (R27). -/
  alignAt : Option Nat
  start : Start
  flash : Flash
  fuses : Fuses
  island : Island
  tamper : Tamper
  thermal : Thermal
  health : Health
  records : Records
  journal : Journal
  refill : Refill
  sluice : Bool
  /-- A sluice message has failed its tag once and is being sent again (R22). -/
  sluiceRetry : Bool
  link : Link
  sched : Sched
  skim : Skim
  rakes : Rakes
  digests : Digests
  pks : Pks
  keys : Keys
  rng : Rng
  /-- Fault reports on their way to the port die (R315). -/
  faults : List FaultCause
  /-- Recorder events on their way to the port die (R406): code and value. -/
  events : List (Nat × Nat)
  /-- Twin writers that completed past their commit point, above the assay low-water: function and intake number (R347). -/
  writersDone : List (Nat × Nat)
  /-- Committed writers listed at boundary R of a function reset, not yet received (R347). -/
  resetList : Option (List Nat)
  /-- Function resets between boundaries R and V: their functions and N (R347). -/
  resetting : List (List Nat × Nat)
  /-- A fenced change of a function, and its hold tide H (R401). -/
  fence : Option (Nat × Nat)
  /-- A planned drain is under way (R330). -/
  draining : Bool
  /-- A reset has been ordered and not yet performed: a retire order, L4, or a planned retirement (R429). -/
  resetOrder : Bool
  deriving DecidableEq, Repr

/-- The state of the LX96. -/
structure State where
  /-- The commands that wait, first in first out. -/
  pending : List Instr
  port : PortDie
  a : Channel
  b : Channel
  host : HostSide
  /-- The counter each free value is drawn at (the model's own field). -/
  free : Nat
  deriving DecidableEq, Repr

/-- No command of the LX96 faults in the model: every rule states an effect, or the effect of ignoring the command. The
one constructor is raised by nobody. It is safe. -/
inductive Fault where
  /-- Raised by nobody; it keeps the type inhabited. Safe. -/
  | unused
  deriving DecidableEq, Repr

/-- Refusals of the model. -/
inductive Refusal where
  /-- A command whose meaning is not written: raised by `exec` alone. Safe. -/
  | notModelled (mnemonic : String)
  deriving DecidableEq, Repr

/-- The host side before any traffic: every MSI-X entry as the table's default reads. -/
def HostSide.reset : HostSide := { lines := [], ides := [], table := [], pba := [], sent := [], readData := [] }

/-- The port die at a power-on, PORST_N just released, PERST_N released (R429, R430). -/
def PortDie.reset : PortDie :=
  { start := { power := .run, porst := false, perst := false, refclk := true, up := false, linkUp := false,
               coldStart := true, aligned := false, lockA := false, lockB := false },
    tide := 0, offset := 0, tides := TideRegs.reset, page := Global.reset, tenant := Tenant.reset,
    assay := { Assay.reset with stateA := .starting, stateB := .starting }, fns := [], queues := [], qblocks := [],
    commits := [], kept := { twinSkim := 0x80#8, mask := 0x1FF#9, rakes := 7#4, split := 16#5 }, 
    sriov := { initialVfs := 255#16, totalVfs := 255#16, vfEnable := false },
    ide := [], linkIde := { keys := [], secure := false }, waiting := [], nextIntake := 1, outst := [], released := [], passing := [], credits := true, held := [], resets := [], waits := [],
    exhaust := [], epoch := { checkA := none, checkB := none, target := none, mismatches := 0, retryAt := none },
    readA := none, readB := none, l5From := [], wipes := [], j0 := none, svnTarget := none, recorder := Recorder.reset,
    mgmt := Mgmt.reset }

/-- No session has stood since the channel started. -/
def Link.none : Link :=
  { session := 0, sendKey := [], recvKey := [], sent := 0, wire := Option.none, received := Option.none, hello := Option.none }

/-- The key store of a part as it leaves Ceriost: its fuse floor is the SVN of the image in its flash (R279). -/
def Keys.factory : Keys := { Keys.reset with fuseFloor := (Config.imageSvn (Flash.initial.images.headD [])).toNat }

/-- A channel at a power-on, at the start of step 1 (R432). -/
def Channel.reset : Channel :=
  { side := .a, tide := 0, offset := 0, aligned := false, alignAt := none, start := { Start.reset with step := .fuseLoad },
    flash := Flash.initial,
    fuses := Fuses.initial, island := Island.unpowered, tamper := Tamper.reset, thermal := Thermal.reset,
    health := Health.reset, records := Records.blank, journal := Journal.reset, refill := Refill.reset,
    sluice := false, sluiceRetry := false, link := Link.none, sched := Sched.reset, skim := Skim.reset,
    rakes := Rakes.reset, digests := Digests.reset, pks := Pks.reset, keys := Keys.factory, rng := { Rng.reset with state := .startTest },
    faults := [], events := [], writersDone := [], resetList := none, resetting := [], fence := none, draining := false,
    resetOrder := false }

/-- The LX96 right after reset: a power-on start of both layers, no command waiting. -/
def State.reset : State :=
  { pending := [], port := PortDie.reset, a := Channel.reset, b := { Channel.reset with side := .b }, host := HostSide.reset, free := 0 }

end Sys2Proof.Machine
end

