-- ==== Sys2Proof/Machine/Ops.lean ====
section
/-! DEFINITION. The named operations over the state that every family of commands shares: the two channels, time, the
event recorder and its alerts, interrupts and error causes, and the device status. -/

namespace Sys2Proof.Machine

/-! ### The two channels -/

/-- Channel `ch`. -/
def State.chan (s : State) : Chan → Channel
  | .a => s.a
  | .b => s.b

/-- The state with channel `ch` replaced. -/
def State.setChan (s : State) (ch : Chan) (c : Channel) : State :=
  match ch with
  | .a => { s with a := c }
  | .b => { s with b := c }

/-- The state with `f` applied to channel `ch`. -/
def State.upd (s : State) (ch : Chan) (f : Channel → Channel) : State := s.setChan ch (f (s.chan ch))

/-- The state with `f` applied to the port die. -/
def State.updPort (s : State) (f : PortDie → PortDie) : State := { s with port := f s.port }

/-- STATE_A or STATE_B (R334). -/
def Assay.st (x : Assay) : Chan → ChState
  | .a => x.stateA
  | .b => x.stateB

/-- The assay unit with a channel's state set. -/
def Assay.setSt (x : Assay) (ch : Chan) (v : ChState) : Assay :=
  match ch with
  | .a => { x with stateA := v }
  | .b => { x with stateB := v }

/-- The channel is joined. -/
def PortDie.joined (p : PortDie) (ch : Chan) : Bool := p.assay.st ch == .joined

/-- The channel is joined or draining: it holds commands (R330, R420). -/
def PortDie.serving (p : PortDie) (ch : Chan) : Bool := p.joined ch || p.assay.st ch == .draining

/-- The channel's pages are served: ready, joined or draining (R420). -/
def PortDie.pagesUp (p : PortDie) (ch : Chan) : Bool := p.serving ch || p.assay.st ch == .ready

/-- Both channels. -/
def chans : List Chan := [.a, .b]

/-- The joined channels. -/
def PortDie.joinedChans (p : PortDie) : List Chan := chans.filter p.joined

/-- The channel is the only joined one. -/
def PortDie.lastJoined (p : PortDie) (ch : Chan) : Bool := p.joined ch && !p.joined ch.peer

/-- The encoding of a channel state in ASSAY_STATUS (R334). -/
def ChState.num : ChState → Nat
  | .off => 0 | .starting => 1 | .refilling => 2 | .ready => 3 | .joined => 4 | .retired => 5 | .draining => 6

/-- The channel of a home bit (R75). -/
def homeChan (homeB : Bool) : Chan := if homeB then .b else .a

/-! ### Time (R26, R30) -/

/-- Cycles since tide 0 on a channel. -/
def Channel.now (c : Channel) : Nat := 4096 * c.tide + c.offset

/-- The level of the response the channel executes, 0 when it executes none (R365, R383). A channel that is not aligned
counts no tide, and its response lasts the cycles left of it. -/
def Channel.responding (c : Channel) : Nat :=
  if (if c.aligned then decide (c.now < c.tamper.activeUntil) else c.tamper.lasts != 0) then c.tamper.active.toNat else 0

/-- The source whose monitor test is not yet 16 cycles past its window (R362). -/
def Channel.underTest (c : Channel) : BitVec 23 :=
  if c.aligned && decide (c.now < c.tamper.bistUntil) then BitVec.ofNat 23 (2 ^ ((c.tamper.bistNext.toNat + 19) % 20)) else 0#23

/-- The 64-cycle window of a monitor test is open (R362, R383). -/
def Channel.testWindow (c : Channel) : Bool := c.aligned && decide (c.now + 16 < c.tamper.bistUntil)

/-- The last intake number given (R309), which a delta bears that no command or message made (R324; DESIGN CHOICE, log
226). -/
def PortDie.lastIntake (p : PortDie) : Nat := p.nextIntake - 1

/-- Cycles since tide 0 on the port die. -/
def PortDie.now (p : PortDie) : Nat := 4096 * p.tide + p.offset

/-! ### Saturating registers -/

/-- A counter of `w` bits that saturates. -/
def satBv {w : Nat} (x : BitVec w) (k : Nat) : BitVec w := BitVec.ofNat w (min (2 ^ w - 1) (x.toNat + k))

/-- A word from its fields: (lowest bit, value). -/
def word (fields : List (Nat × Nat)) : Word := BitVec.ofNat 32 (fields.map (fun f => f.2 * 2 ^ f.1)).sum

/-! ### Steps of work in a unit (R179, R204, R209, R220) -/

/-- Cycles of a row of steps. -/
def runsCycles (l : List Run) : Nat := (l.map (fun r => r.count * r.cycles)).sum

/-- Blocks completed in the first `t` cycles of a row of steps. -/
def runsBlocks : List Run → Nat → Nat
  | [], _ => 0
  | r :: l, t =>
    if r.count * r.cycles ≤ t then r.count * r.blocks + runsBlocks l (t - r.count * r.cycles)
    else t / r.cycles * r.blocks

/-- The whole steps of a row that fit in `room` cycles, and those left. -/
def splitRuns : List Run → Nat → List Run × List Run
  | [], _ => ([], [])
  | r :: l, room =>
    if r.count * r.cycles ≤ room then
      let (a, b) := splitRuns l (room - r.count * r.cycles)
      (r :: a, b)
    else
      let k := room / r.cycles
      (if k == 0 then [] else [{ r with count := k }], { r with count := r.count - k } :: l)

/-- Work as far as cycle `now`: the blocks completed and not yet counted, and the work still running. -/
def Work.sync (w : Work) (now : Nat) : Nat × Option Work :=
  let done := runsBlocks w.runs (now - w.start)
  (done - w.counted, if w.start + runsCycles w.runs ≤ now then none else some { w with counted := done })

/-- A unit's work as far as cycle `now`. -/
def syncWork (l : List Work) (now : Nat) : Nat × List Work :=
  ((l.map (fun w => (w.sync now).1)).sum, l.filterMap (fun w => (w.sync now).2))

/-- Message bytes that a digest job has hashed after `n` blocks (R220). -/
def Job.bytesAt (j : Job) (n : Nat) : Nat := min j.message ((n - j.lead) * j.block)

/-- Message bytes that an engine's job hashes as `n` more blocks complete. -/
def DigestEngine.newBytes (e : DigestEngine) (n : Nat) : Nat :=
  match e.job with
  | some j => j.bytesAt (j.hashed + n) - j.bytesAt j.hashed
  | none => 0

/-- The blocks that lanes and digest engines have completed by now are counted, and the bytes hashed (R204, R220). -/
def Channel.sync (c : Channel) : Channel :=
  let now := c.now
  let bytes := (c.digests.engines.map (fun e => e.newBytes (syncWork e.work now).1)).sum
  let of (n : Nat) : Nat := ((c.skim.pairs.drop (8 * n)).take 8).map (fun p => (syncWork p.work now).1) |>.sum
  { c with
    skim := { c.skim with pairs := c.skim.pairs.map (fun p => { p with work := (syncWork p.work now).2 }) }
    rakes := { c.rakes with perRake := c.rakes.perRake.mapIdx (fun i r => { r with blocks := satBv r.blocks (of i) }) }
    digests := { c.digests with
      bytes := c.digests.bytes + BitVec.ofNat 64 bytes
      engines := c.digests.engines.map (fun e =>
        let w := syncWork e.work now
        { e with blocks := satBv e.blocks w.1, work := w.2, job := e.job.map (fun j => { j with hashed := j.hashed + w.1 }) }) } }

/-! ### Regions and windows (R349, R350) -/

/-- The window holds an address. -/
def Window.holds (w : Window) (addr : Nat) : Bool :=
  decide (4096 * w.base.toNat ≤ addr) && decide (addr < 4096 * (w.base.toNat + w.pagesM1.toNat + 1))

/-- First and last+1 address of a window. -/
def Window.lo (w : Window) : Nat := 4096 * w.base.toNat
def Window.hi (w : Window) : Nat := 4096 * (w.base.toNat + w.pagesM1.toNat + 1)

/-- A region set permits an access to a space that begins in a piece (R350). -/
def permits (l : List Region) (hbm write : Bool) (addr : Nat) : Bool :=
  l.any (fun r => r.hbm == hbm && r.window.on && (if write then r.window.write else r.window.read) && r.window.holds addr)

/-- Two spans of addresses overlap. -/
def spansMeet (lo hi lo' hi' : Nat) : Bool := decide (lo < hi') && decide (lo' < hi)

/-- Enabled region `i` of a set keeps its core unit disabled: it wraps past the end of the address space, covers an area that
R349 forbids, or overlaps another (R350). -/
def regionBad (l : List Region) (i : Nat) : Bool :=
  match l[i]? with
  | none => false
  | some r => r.window.on && (decide (2 ^ 64 < r.window.hi)
      || (Config.privateAreas r.hbm).any (fun a => spansMeet r.window.lo r.window.hi a.1 (a.1 + a.2))
      || (l.mapIdx (fun j v => (j, v))).any (fun v => v.1 != i && v.2.hbm == r.hbm && v.2.window.on
          && spansMeet r.window.lo r.window.hi v.2.window.lo v.2.window.hi))

/-- Firmware loads the 16 regions of a core's unit: an entry with LOCK set keeps its value until channel start (R352). -/
def loadRegions (old new : List Region) : List Region :=
  (List.range 16).filterMap (fun i => match old[i]? with
    | some r => if r.window.lock then some r else new[i]?
    | none => new[i]?)

/-- The first bytes of the pieces of an access: its start and the 64-byte boundaries inside it (R350). -/
def dmaPieces (addr len : Nat) : List Nat :=
  if len == 0 then []
  else addr :: ((List.range ((addr + len - 1) / 64 - addr / 64)).map (fun i => 64 * (addr / 64 + i + 1)))

/-! ### Free values -/

/-- The state with the free-value counter advanced. -/
def State.drawn (s : State) : State := { s with free := s.free + 1 }

/-! ### The event recorder (R406 to R411) -/

/-- The severity of an event code: 0 info, 1 minor, 2 major, 3 critical (R406). -/
def eventSeverity (code : Nat) : Nat :=
  if code < 0x100 then
    match code with
    | 0x001 => 1 | 0x002 => 2 | 0x003 => 2 | 0x004 => 2 | 0x008 => 1 | 0x009 => 2 | 0x010 => 2 | 0x011 => 2
    | 0x012 => 2 | 0x013 => 2 | 0x015 => 3 | 0x018 => 2 | 0x019 => 2 | 0x022 => 2
    | _ => 0
  else if code < 0x300 then
    let k := code % 256
    if k == 0x00 || k == 0xC0 then 1
    else if k == 0xE0 then 3
    else if [0x02, 0x20, 0x21, 0x22, 0x40, 0x60, 0x61, 0x62, 0x80, 0xD0].contains k then 2
    else if 0xA0 ≤ k && k ≤ 0xB6 then 2
    else 0
  else if code == 0x301 then 0
  else if code ≤ 0x303 then 1
  else 0

/-- The codes that R406 lists. -/
def eventCodes : List Nat :=
  let chan (base : Nat) : List Nat :=
    ([0x00, 0x02, 0x20, 0x21, 0x22, 0x40, 0x60, 0x61, 0x62, 0x80] ++ (List.range 23).map (0xA0 + ·) ++ [0xC0, 0xD0, 0xE0]).map (base + ·)
  [0x001, 0x002, 0x003, 0x004, 0x008, 0x009, 0x010, 0x011, 0x012, 0x013, 0x014, 0x015, 0x018, 0x019, 0x020, 0x021, 0x022,
   0x023, 0x024, 0x300, 0x301, 0x302, 0x303] ++ chan 0x100 ++ chan 0x200

/-- A listed code, whichever number an open choice gives: no other code is ever raised (R406). -/
def listedEvent (n : Nat) : Nat := eventCodes.getD (n % eventCodes.length) 0

/-- The base of a channel's event codes (R406). -/
def eventBase : Chan → Nat
  | .a => 0x100
  | .b => 0x200

/-- LIMIT's reset value by severity (R409). -/
def resetLimit (severity : Nat) : Nat := if severity == 0 then 16 else if severity == 1 then 64 else 65535

/-- The limit of a code in force. -/
def Recorder.limitOf (r : Recorder) (code : Nat) : Nat :=
  (SMap.get EventRec.empty r.records code).limit.getD (resetLimit (eventSeverity code))

/-- The recorder's timestamp: OPTIME and the power-cycle count (R407). -/
def Recorder.stamp (r : Recorder) : Nat := r.optime % 2 ^ 32 + 2 ^ 32 * (r.cycles % 2 ^ 24)

/-- The histogram bin of a value (R408). -/
def eventBin (v : Nat) : Nat := if v == 0 then 0 else min 15 (v.log2 / 2 + 1)

/-- A 32-bit saturating count. -/
def sat32 (n : Nat) : Nat := min (2 ^ 32 - 1) n

/-- A record after one event that updates its histogram (R408). -/
def EventRec.update (e : EventRec) (v stamp : Nat) : EventRec :=
  { e with
    count := sat32 (e.count + 1)
    min := if e.count == 0 then v else Nat.min e.min v
    max := if e.count == 0 then v else Nat.max e.max v
    first := if e.count == 0 then stamp else e.first
    last := stamp
    bins := e.bins.mapIdx (fun i n => if i == eventBin v then sat32 (n + 1) else n) }

/-- The recorder with a code's record changed. -/
def Recorder.modify (r : Recorder) (code : Nat) (f : EventRec → EventRec) : Recorder :=
  { r with records := SMap.set EventRec.empty r.records code (f (SMap.get EventRec.empty r.records code)) }

/-- The recorder takes an event while it is not frozen (R409). -/
def Recorder.take (r : Recorder) (code v : Nat) : Recorder :=
  let used := SMap.get 0 r.tideUse code
  if used < r.limitOf code then
    ({ r with tideUse := SMap.set 0 r.tideUse code (used + 1) } : Recorder).modify code (·.update v r.stamp)
  else r.modify code (fun e => { e with suppressed := sat32 (e.suppressed + 1), limited := true })

/-- The recorder takes an event while it is frozen (R411). -/
def Recorder.takeFrozen (r : Recorder) (code v : Nat) : Recorder :=
  let used := SMap.get 0 r.tideUse code
  let aside (r : Recorder) : Recorder := { r with side := SMap.set 0 r.side code (SMap.get 0 r.side code + 1) }
  if used < r.limitOf code then
    if r.deltas.length < 1024 then
      { r with tideUse := SMap.set 0 r.tideUse code (used + 1), deltas := r.deltas ++ [(code, v, r.stamp)] }
    else aside { r with marked := if r.marked.contains code then r.marked else r.marked ++ [code] }
  else aside { r with limitedCodes := if r.limitedCodes.contains code then r.limitedCodes else r.limitedCodes ++ [code] }

/-- The end of a freeze: the entries merge in arrival order, the side counters are added, and marked codes are
approximate (R411); LIMITED is set where the rate limit acted (R409). -/
def Recorder.unfreeze (r : Recorder) : Recorder :=
  match r.frozenAt with
  | none => r
  | some _ =>
    let r := r.deltas.foldl (fun r d => r.modify d.1 (·.update d.2.1 d.2.2)) r
    let r := r.side.foldl (fun r d => r.modify d.1 (fun e => { e with suppressed := sat32 (e.suppressed + d.2) })) r
    let r := r.marked.foldl (fun r code => r.modify code (fun e => { e with approx := true })) r
    let r := r.limitedCodes.foldl (fun r code => r.modify code (fun e => { e with limited := true })) r
    { r with frozenAt := none, deltas := [], side := [], marked := [], limitedCodes := [] }

/-- An event that finds the input queue full is counted as suppressed; a frozen record waits for it (R409, R411). -/
def Recorder.overflow (r : Recorder) (code : Nat) : Recorder :=
  if r.frozenAt.isSome then { r with side := SMap.set 0 r.side code (SMap.get 0 r.side code + 1) }
  else r.modify code (fun e => { e with suppressed := sat32 (e.suppressed + 1) })

/-- The recorder takes an event (R409, R411). -/
def Recorder.event (r : Recorder) (code v : Nat) : Recorder :=
  if 4096 ≤ r.input then r.overflow code
  else
    let r := { r with input := r.input + 1 }
    if r.frozenAt.isSome then r.takeFrozen code v else r.take code v

/-- A cycle of CCLK passes at the recorder: in every second one, the PCLK cycle of R24, it takes an event from its input
queue (R409). -/
def Recorder.cycle (r : Recorder) : Recorder :=
  if r.half then { r with half := false, input := r.input - 1, began := none } else { r with half := true }

/-- Cycles of a unit of OPTIME: 3.515 625 s at 2,048 cycles a microsecond (R407). -/
def optimeUnit : Nat := 7200000000

/-- OPTIME advances by a number of cycles (R407). -/
def Recorder.elapse (r : Recorder) (n : Nat) : Recorder :=
  { r with opfrac := (r.opfrac + n) % optimeUnit, optime := (r.optime + (r.opfrac + n) / optimeUnit) % 2 ^ 32 }

/-- The sequence number of a recorder image; 0 when there is none. -/
def imageSeq : Option RecImage → Nat
  | none => 0
  | some i => i.seq

/-- The image a flush writes next: the older one (R410). -/
def Recorder.olderIs1 (r : Recorder) : Bool := decide (imageSeq r.image1 < imageSeq r.image0)

/-- The records are copied for a flush into an image: a freeze ends first, and event 0x023 carries the trigger (R410,
R411). -/
def Recorder.copy (r : Recorder) (one : Bool) (trigger : Nat) : Recorder :=
  let r := r.unfreeze
  let was := (trigger, SMap.get EventRec.empty r.records 0x023, SMap.get 0 r.tideUse 0x023)
  let r := r.event 0x023 trigger
  { r with flushing := some (one, { seq := r.seq, stamp := r.stamp, records := r.records }), began := some was }

/-- A flush starts: it writes the older image (R410). -/
def Recorder.startFlush (r : Recorder) (trigger : Nat) : Recorder :=
  ({ r with seq := r.seq + 1 } : Recorder).copy r.olderIs1 trigger

/-- Another trigger falls in the cycle in which the flush started: the one flush serves both, and event 0x023 carries the
lower number (R414). -/
def Recorder.joinFlush (r : Recorder) (one : Bool) (t : Nat) (e : EventRec) (used trigger : Nat) : Recorder :=
  ({ r with records := SMap.set EventRec.empty r.records 0x023 e, tideUse := SMap.set 0 r.tideUse 0x023 used,
            input := r.input - 1 } : Recorder).copy one (min t trigger)

/-- A flush trigger arrives (R410): during a flush it queues one more; PWR_FAIL_N (trigger 3) restarts the flush under
way into the same image. -/
def Recorder.flush (r : Recorder) (trigger : Nat) : Recorder :=
  match r.flushing, r.began with
  | none, _ => r.startFlush trigger
  | some (one, _), some (t, e, used) => r.joinFlush one t e used trigger
  | some (one, _), none =>
    if trigger == 3 then r.copy one trigger else { r with queued := some (r.queued.getD trigger) }

/-- A flush ends: its image is whole in MRAM, and a waiting flush starts (R410). -/
def Recorder.flushDone (r : Recorder) : Recorder :=
  match r.flushing with
  | none => r
  | some (one, img) =>
    let r : Recorder := if one then { r with image1 := some img } else { r with image0 := some img }
    match r.queued with
    | none => { r with flushing := none }
    | some t => ({ r with flushing := none, queued := none } : Recorder).startFlush t

/-- One cycle passes: where the tide runs, offsets rise and hold at the last cycle of the tide until the boundary. Without
REFCLK no tide is counted (R25). Where no tide runs, OPTIME counts the cycle while the port die has main power (R407). -/
def State.tick (s : State) : State :=
  let tick (runs : Bool) (o : Nat) := if runs && s.port.start.refclk then min 4095 (o + 1) else o
  let t := s.port.start
  let r := if t.refclk then s.port.recorder.cycle else s.port.recorder
  let port : PortDie :=
    { s.port with offset := tick t.aligned s.port.offset
                  recorder := if t.power == .backup || (t.aligned && t.refclk) then r else r.elapse 1 }
  let chan (c : Channel) : Channel :=
    { c with offset := tick c.aligned c.offset
             tamper := if c.aligned || !s.port.start.refclk then c.tamper else { c.tamper with lasts := c.tamper.lasts - 1 } }
  { s with port := port, a := chan s.a, b := chan s.b }

/-! ### Alerts (R395, R413) -/

/-- The 16-byte header of a message the device sends (R392). -/
def kerralHeader (code reqId bodyLen flags : Nat) : Bytes :=
  [byte 1, byte code] ++ leBytes 2 reqId ++ leBytes 2 bodyLen ++ [0#8, byte flags] ++ zeros 8

/-- The alert of an event (R395, code 0x70). -/
def alertBytes (code v stamp level : Nat) : Bytes :=
  let source := if 0x100 ≤ code && code < 0x200 then 0x41 else if 0x200 ≤ code && code < 0x300 then 0x42 else 0
  kerralHeader 0x70 0 24 2 ++ leBytes 2 code ++ zeros 2 ++ leBytes 4 v ++ leBytes 8 stamp ++ [byte level, byte source]
  ++ zeros 6

/-- The tamper level an alert of the event carries: the value of a tamper source's event (R395, R406). -/
def alertLevel (code v : Nat) : Nat :=
  if 0x100 ≤ code && code < 0x300 && 0xA0 ≤ code % 256 && code % 256 ≤ 0xB6 then v else 0

/-- An alert is sent to the EID and binding of the route, at most 16 in a tide (R413). -/
def Mgmt.alert (m : Mgmt) (code v stamp : Nat) : Mgmt :=
  match m.route with
  | none => m
  | some b =>
    if 16 ≤ m.alertsSent then m
    else { m with alertsSent := m.alertsSent + 1,
                  out := m.out ++ [{ binding := b, eid := some m.routeEid, session := none, type := 0x7E#7,
                                     body := alertBytes code v stamp (alertLevel code v) }] }

/-- An event reaches the recorder: it is recorded; severity 2 or 3 sends an alert; severity 3 flushes (R406 to R413). -/
def PortDie.record (p : PortDie) (code v : Nat) : PortDie :=
  let stamp := p.recorder.stamp
  let p := { p with recorder := p.recorder.event code v }
  let p := if 2 ≤ eventSeverity code then { p with mgmt := p.mgmt.alert code v stamp } else p
  if eventSeverity code == 3 then { p with recorder := p.recorder.flush 2 } else p

/-- The events a channel has sent reach the recorder. -/
def State.drain (s : State) : State :=
  let p := s.a.events.foldl (fun p e => p.record e.1 e.2) s.port
  let p := s.b.events.foldl (fun p e => p.record e.1 e.2) p
  { s with port := p, a := { s.a with events := [] }, b := { s.b with events := [] } }

/-- A channel sends an event: `k` is its code above the channel's base (R406). -/
def Channel.event (c : Channel) (ch : Chan) (k v : Nat) : Channel := { c with events := c.events ++ [(eventBase ch + k, v)] }

/-- A health bit is cleared (R311). -/
def Channel.clearHealth (c : Channel) (bit : Nat) : Channel :=
  { c with health := { c.health with cleared := c.health.cleared ||| BitVec.ofNat 16 (2 ^ bit) } }

/-! ### The sluice session (R21 to R23) -/

/-- A session stands, so sluice messages pass. -/
def State.sluiceUp (s : State) : Bool := s.a.sluice && s.b.sluice

/-- The GCM initialisation vector of the next message that channel `ch` sends. -/
def Link.iv (l : Link) (ch : Chan) : Bytes := beBytes 4 (Config.sluiceWord ch.idx l.session).toNat ++ beBytes 8 l.sent

/-- The messages under a session, by the kinds of R23. -/
inductive SluiceMsg where
  | brineKey (key : Bytes)
  | contribution (entropy : Bytes)
  | delta (d : Delta)
  | regionImage
  | svnCommit (target : Nat)
  | repairList
  | repairImage
  | snapshot
  | handover
  deriving DecidableEq, Repr

/-- The bytes of a sluice message, by what it carries and its sender: R23 names the content and lays nothing out. -/
opaque Config.sluiceBytes : SluiceMsg → Channel → Bytes

/-- Content sealed as the next message of channel `ch` (R21). -/
def Link.seal (l : Link) (ch : Chan) (content : Bytes) : Sealed :=
  let (body, tag) := gcmEnc l.sendKey (l.iv ch) [] content
  { iv := l.iv ch, body := body, tag := tag }

/-- What a message opens to under the key of the other direction; none where its tag fails. -/
def Link.opens (l : Link) (m : Sealed) : Option Bytes := gcmDec l.recvKey m.iv [] m.body m.tag

/-- The next message of a channel, as it crosses the port die. -/
def Channel.sealed (c : Channel) (m : SluiceMsg) : Sealed := c.link.seal c.side (Config.sluiceBytes m c)

/-- The counter value of the message that the channel sends is spent. -/
def Link.spend (l : Link) (wire : Option Sealed) : Link := { l with sent := l.sent + 1, wire := wire }

/-- A message that the channel sent reaches its peer whole: its counter value is spent, and a retransmission has arrived
(R22). -/
def Channel.sluiceSent (c : Channel) (m : SluiceMsg) : Channel :=
  { c with sluiceRetry := false, link := c.link.spend (some (c.sealed m)) }

/-- The channel opens a message of its peer. -/
def Channel.sluiceTaken (c : Channel) (m : Sealed) : Channel := { c with link := { c.link with received := c.link.opens m } }

/-- A message of `ch` passes to its peer. -/
def State.sluiceMsg (s : State) (ch : Chan) (m : SluiceMsg) : State :=
  (s.upd ch (·.sluiceSent m)).upd ch.peer (·.sluiceTaken ((s.chan ch).sealed m))

/-! ### The refill's deltas (R327) -/

/-- A refill still has the delta to send: it was written at or after the JSEQ reached, and its intake number exceeds L. -/
def Refill.sends (r : Refill) (d : Delta) : Bool := decide (r.nextSend ≤ d.jseq) && (d.intake == 0 || decide (r.low < d.intake))

/-- The deltas that the survivor has still to send to channel `x`. -/
def State.toSend (s : State) (x : Chan) : List Delta := (s.chan x.peer).journal.ring.filter (s.chan x).refill.sends

/-- ASSAY_REFILL.LAG: unknown before the replay begins, or in a full copy before its last step (R327). -/
def State.refillLag (s : State) : Nat :=
  if !s.port.assay.refillActive then 0
  else
    let x := homeChan s.port.assay.refillB
    match (s.chan x).refill.step with
    | .replay | .catchUp => min 0xFFFFFF (s.toSend x).length
    | _ => 0xFFFFFF

/-! ### Functions, queues and interrupts (R336 to R339) -/

/-- Function `f`. -/
def PortDie.fn (p : PortDie) (f : Nat) : Fn := SMap.get Fn.reset p.fns f

/-- The port die with function `f` replaced. -/
def PortDie.setFn (p : PortDie) (f : Nat) (x : Fn) : PortDie := { p with fns := SMap.set Fn.reset p.fns f x }

/-- The context of queue `q`. -/
def PortDie.queue (p : PortDie) (q : Nat) : QCtx := SMap.get QCtx.reset p.queues q

/-- The port die with queue `q` replaced. -/
def PortDie.setQueue (p : PortDie) (q : Nat) (x : QCtx) : PortDie := { p with queues := SMap.set QCtx.reset p.queues q x }

/-- The block entry of queue `q` (R336). -/
def PortDie.block (p : PortDie) (q : Nat) : QBlock := SMap.get QBlock.reset p.qblocks (q / 64)

/-- The queue's block is assigned to function `f`. -/
def PortDie.owns (p : PortDie) (f q : Nat) : Bool := (p.block q).assigned && (p.block q).fn.toNat == f

/-- QCTX_CTRL.FUNCTION (R75, R336). -/
def PortDie.queueFn (p : PortDie) (q : Nat) : Nat := (p.block q).fn.toNat

/-- An MSI-X table entry at reset: masked, all else 0 (R337). -/
def msixReset : Bytes := zeros 12 ++ [1#8, 0#8, 0#8, 0#8]

/-- Entry `v` of function `f` is masked: its mask bit is set, or it is not live (R337). -/
def State.masked (s : State) (f v : Nat) : Bool :=
  decide ((s.port.fn f).cfg.vectors.toNat ≤ v) || (SMap.get msixReset s.host.table (2048 * f + v)).getD 12 0#8 &&& 1#8 == 1#8

/-- The selective IDE stream of a function, while it is in the secure state (R345). -/
def PortDie.secureIde (p : PortDie) (f : Nat) : Option (BitVec 6) :=
  let c := (p.fn f).cfg
  if c.ideAssigned && (SMap.get { keys := [], secure := false } p.ide c.ideStream.toNat).secure then some c.ideStream else none

/-- A live vector is raised: sent, or pending while masked (R337, R338). -/
def State.raise (s : State) (f v : Nat) : State :=
  if (s.port.fn f).cfg.vectors.toNat ≤ v then s
  else if s.masked f v then { s with host := { s.host with pba := SMap.set false s.host.pba (2048 * f + v) true } }
  else { s with host := { s.host with sent := s.host.sent ++ [{ function := f, vector := v, ide := s.port.secureIde f }] } }

/-- The function's error vector is raised (R339). -/
def State.raiseError (s : State) (f : Nat) : State :=
  if (s.port.fn f).cfg.errEn then s.raise f (s.port.fn f).cfg.errVector.toNat else s

/-- The bits of FN_ERR (R355). -/
inductive FnErr where
  | intake | dmaRead | dmaWrite | vector | ide
  deriving DecidableEq, Repr

/-- FN_ERR's bit. -/
def Fn.err (x : Fn) : FnErr → Bool
  | .intake => x.errIntake
  | .dmaRead => x.errDmaRead
  | .dmaWrite => x.errDmaWrite
  | .vector => x.errVector
  | .ide => x.errIde

/-- The function with a bit of FN_ERR set. -/
def Fn.setErr (x : Fn) : FnErr → Fn
  | .intake => { x with errIntake := true }
  | .dmaRead => { x with errDmaRead := true }
  | .dmaWrite => { x with errDmaWrite := true }
  | .vector => { x with errVector := true }
  | .ide => { x with errIde := true }

/-- A bit of FN_ERR is set; a change from 0 to 1 raises the error vector (R339). -/
def State.fnErr (s : State) (f : Nat) (e : FnErr) : State :=
  let old := s.port.fn f
  let s := s.updPort (fun p => p.setFn f (old.setErr e))
  if old.err e then s else s.raiseError f

/-! ### Error causes and device events (R422) -/

/-- The bits of ERR_CAUSE (R422). -/
inductive ErrCause where
  | discord | devEvent | commitErr | unmapped | access | indErr | channelDown
  deriving DecidableEq, Repr

/-- ERR_CAUSE's bit. -/
def Global.cause (g : Global) : ErrCause → Bool
  | .discord => g.ecDiscord
  | .devEvent => g.ecDevEvent
  | .commitErr => g.ecCommitErr
  | .unmapped => g.ecUnmapped
  | .access => g.ecAccess
  | .indErr => g.ecIndErr
  | .channelDown => g.ecChannelDown

/-- The global page with a bit of ERR_CAUSE set. -/
def Global.setCause (g : Global) : ErrCause → Global
  | .discord => { g with ecDiscord := true }
  | .devEvent => { g with ecDevEvent := true }
  | .commitErr => { g with ecCommitErr := true }
  | .unmapped => { g with ecUnmapped := true }
  | .access => { g with ecAccess := true }
  | .indErr => { g with ecIndErr := true }
  | .channelDown => { g with ecChannelDown := true }

/-- A bit of ERR_CAUSE is set; a change from 0 to 1 raises PF0's error vector, a discord's only when DISCORD_IRQ is 1
(R318, R422). -/
def State.errCause (s : State) (e : ErrCause) : State :=
  let old := s.port.page.cause e
  let s := s.updPort (fun p => { p with page := p.page.setCause e })
  if old || (e == .discord && !s.port.assay.irq) then s else s.raiseError 0

/-- A device-event bit is set, and with it ERR_CAUSE.DEV_EVENT (R422). -/
def State.devEvent (s : State) (f : Global → Global) : State :=
  (s.updPort (fun p => { p with page := f p.page })).errCause .devEvent

/-- The device is blank: an island shows ERASED (R422, R439). -/
def State.blank (s : State) : Bool := s.a.island.erased || s.b.island.erased

/-- A channel that will not start without PORST_N or an update (R379, R433). -/
def StartStep.stuck : StartStep → Bool
  | .recovery | .halted => true
  | _ => false

/-- DEV_STATUS.STATE (R422): 0 starting, 1 READY, 2 TWIN, 3 blank, 4 halted. -/
def State.devState (s : State) : Nat :=
  if s.blank then 3
  else if s.port.joined .a && s.port.joined .b then 2
  else if s.port.joined .a || s.port.joined .b || s.port.assay.stateA == .draining || s.port.assay.stateB == .draining then 1
  else if s.a.start.step.stuck && s.b.start.step.stuck then 4
  else 0

/-- DEV_STATUS.EBB: twin ebb is in force (R422, R454), as the joined channels hold it; with none joined, as the last did. -/
def State.ebb (s : State) : Bool :=
  (if s.port.joinedChans.isEmpty then chans else s.port.joinedChans).any (fun ch => (s.chan ch).thermal.ebbTwin)

/-- A channel takes the twin ebb state (R454). -/
def Channel.withEbb (c : Channel) (e : Bool) : Channel := { c with thermal := { c.thermal with ebbTwin := e, nextTwin := e } }

/-- DEV_EVENTS after a change of the device's state from that of `old` (R422); a first join of both channels leaves
starting too (R438's example). -/
def State.noteStatus (s old : State) : State :=
  let m := old.devState
  let n := s.devState
  let s := if (n == 1 || n == 2) && m == 0 then s.devEvent (fun g => { g with evReadyUp := true }) else s
  let s := if n == 2 && m != 2 then s.devEvent (fun g => { g with evTwinUp := true }) else s
  let s := if m == 2 && n != 2 then s.devEvent (fun g => { g with evTwinDown := true }) else s
  let s := if (n == 0 || n == 4) && m != n then s.devEvent (fun g => { g with evNotReady := true }) else s
  let s := if n == 3 && m != 3 then s.devEvent (fun g => { g with evBlank := true }) else s
  if s.ebb != old.ebb then s.devEvent (fun g => { g with evEbb := true }) else s

/-- What every meaning that may send events or change the device's state ends with. -/
def State.finish (old s : State) : State := (s.drain).noteStatus old

/-- A next state. -/
abbrev Out := Host.Outcome State Fault Refusal

end Sys2Proof.Machine
end

