-- ==== Sys2Proof/Machine/Flags.lean ====
section
/-! DEFINITION. Status words, check codes and the entries of a completion (R59 to R62, R71 to R73), and the DETAIL values
the commands use. -/

namespace Sys2Proof.Machine

/-- The status word: CODE, DETAIL, DEADLINE_MISSED, SINGLE_WITNESS (R71). -/
def statusWord (code : Code) (detail : BitVec 4) (missed single : Bool) : Nat :=
  code.num + 2 ^ 8 * detail.toNat + 2 ^ 12 * missed.toNat + 2 ^ 13 * single.toNat

/-- The result is carried as an extended completion: 41 bytes or more (R59). -/
def CompRec.ext (r : CompRec) : Bool := decide (40 < r.result.length)

/-- The result bytes the check code covers: 40 when inline (R62). -/
def CompRec.covered (r : CompRec) : Bytes := if r.ext then r.result else fitR 40 r.result

/-- CHECK (R62). -/
def CompRec.check (r : CompRec) : DWord :=
  crc64 (leBytes 4 r.seq.toNat ++ leBytes 2 r.queue.toNat ++ leBytes 2 (statusWord r.code r.detail false false)
    ++ leBytes 2 r.covered.length ++ r.covered)

/-- The number of ring entries a completion takes (R60). -/
def CompRec.entries (r : CompRec) : Nat := if r.ext then 1 + ceilDiv (r.result.length - 38) 63 else 1

/-- The FLAGS byte (R59). -/
def flagsByte (tag : BitVec 2) (ext phase : Bool) : Byte := byte (tag.toNat + 4 * ext.toNat + 8 * phase.toNat)

/-- The first entry of a completion (R59). -/
def CompRec.first (r : CompRec) (tag : BitVec 2) (single phase : Bool) : Bytes :=
  leBytes 4 r.seq.toNat ++ leBytes 2 r.queue.toNat ++ leBytes 2 (statusWord r.code r.detail r.missed single)
  ++ leBytes 8 r.check.toNat ++ leBytes 4 r.tideLo.toNat ++ leBytes 3 (min 0xFFFFFF r.cycles)
  ++ [flagsByte tag r.ext phase]
  ++ (if r.ext then leBytes 2 r.result.length ++ r.result.take 38 else fitR 40 r.result)

/-- Continuation entry `k`, from 1 (R60). Result bytes that the last one does not use are 0 (DESIGN CHOICE, log 240). -/
def CompRec.continuation (r : CompRec) (k : Nat) (phase : Bool) : Bytes :=
  let d := slice r.result (38 + 63 * (k - 1)) 63
  d.take 23 ++ [flagsByte 0#2 false phase] ++ d.drop 23

/-- The entries of a completion with their ring indices, from index `write` of a ring of `n`: continuation entries first,
the first entry last (R60). The phase turns where the ring wraps. -/
def CompRec.ringEntries (r : CompRec) (tag : BitVec 2) (single : Bool) (n write : Nat) (phase : Bool) :
    List (Nat × Bytes) :=
  let at' (k : Nat) : Nat × Bool := ((write + k) % n, if write + k < n then phase else !phase)
  ((List.range (r.entries - 1)).map (fun j =>
    let w := at' (j + 1); (w.1, r.continuation (j + 1) w.2))) ++ [((at' 0).1, r.first tag single (at' 0).2)]

/-! ### DETAIL values (R73) -/

/-- BUSY details (R73). -/
def busySkim : BitVec 4 := 1#4
def busyFnSkim : BitVec 4 := 2#4
def busyCore : BitVec 4 := 3#4
def busyPk : BitVec 4 := 4#4
def busyHbm : BitVec 4 := 5#4
def busyEbb : BitVec 4 := 6#4
def busyWarming : BitVec 4 := 7#4
def busyFlow : BitVec 4 := 8#4

/-- MALFORMED details (R73). -/
def malVersion : BitVec 4 := 1#4
def malFlags : BitVec 4 := 2#4
def malReserved : BitVec 4 := 3#4
def malSize : BitVec 4 := 4#4
def malClass : BitVec 4 := 5#4
def malOpcode : BitVec 4 := 6#4
def malDep : BitVec 4 := 7#4
def malLength : BitVec 4 := 8#4
def malField : BitVec 4 := 9#4
def malFetch : BitVec 4 := 10#4

/-- DENIED details (R73). -/
def denOwner : BitVec 4 := 1#4
def denPolicy : BitVec 4 := 2#4
def denCapacity : BitVec 4 := 3#4
def denState : BitVec 4 := 4#4

/-- FAULT_DETECTED details (R73). -/
def fltLane : BitVec 4 := 1#4
def fltBus : BitVec 4 := 2#4
def fltMemory : BitVec 4 := 3#4
def fltEngine : BitVec 4 := 4#4

end Sys2Proof.Machine
end

