-- ==== Sys2Proof/Machine/Egress.lean ====
section
/-! DEFINITION. The port die's way out: DMA windows (R349 to R351), the egress buffer, completion rings and moderation
(R58 to R60, R68, R69, R338), and the request of a function reset (R346, R347). -/

namespace Sys2Proof.Machine

/-! ### DMA windows (R350, R351) -/

/-- A piece passes if an enabled window with the needed permission holds its first byte (R350). -/
def Fn.dmaOk (x : Fn) (write : Bool) (addr : Nat) : Bool :=
  x.windows.any (fun w => w.2.on && (if write then w.2.write else w.2.read) && w.2.holds addr)

/-- A refused piece is reported (R351, R354): kind 1 ring entry, 2 payload, 3 completion write. -/
def State.dmaFault (s : State) (f kind q addr : Nat) (part : Bool) : State :=
  let t := s.port.tenant
  let t' :=
    if t.faultKind == 0#2 then
      { t with faultFn := byte f, faultKind := BitVec.ofNat 2 kind, faultPartial := part,
               faultQueue := if kind == 3 then 0#16 else BitVec.ofNat 16 q, faultAddr := BitVec.ofNat 64 addr }
    else { t with faultMore := true }
  (s.updPort (fun p => { p with tenant := t' })).fnErr f (if kind == 3 then .dmaWrite else .dmaRead)

/-- A line of 64 bytes of a function is written to host memory, under its selective IDE stream while that is in the secure
state (R345). -/
def State.hostLine (s : State) (f addr : Nat) (line : Bytes) : State :=
  { s with host := { s.host with
    lines := SMap.insert s.host.lines (addr / 64) line
    ides := SMap.set 0 s.host.ides (addr / 64) ((s.port.secureIde f).elim 0 (·.toNat + 1)) } }

/-- The pending MSI-X messages of functions are discarded (R347, R348). -/
def HostSide.dropPba (h : HostSide) (fns : List Nat) : HostSide :=
  { h with pba := h.pba.filter (fun x => !fns.contains (x.1 / 2048)) }

/-! ### Moderation (R338) -/

/-- The queue's message is sent, or its vector found not live (R337, R338). -/
def State.signal (s : State) (q : Nat) : State :=
  let x := s.port.queue q
  let f := s.port.queueFn q
  if (s.port.fn f).cfg.vectors.toNat ≤ x.conf.vector.toNat then s.fnErr f .vector
  else (s.updPort (fun p => p.setQueue q { x with unsignalled := 0#8 })).raise f x.conf.vector.toNat

/-- One more completion of the queue is written: it is counted, and at MOD_COUNT signalled (R338). -/
def State.moderate (s : State) (q : Nat) : State :=
  let x := s.port.queue q
  let u := satBv x.unsignalled 1
  let x' := { x with unsignalled := u,
                     firstTide := if x.unsignalled == 0#8 then BitVec.ofNat 24 s.port.tide else x.firstTide }
  let s := s.updPort (fun p => p.setQueue q x')
  if x.conf.irqEn && decide (max 1 x.conf.modCount.toNat ≤ u.toNat) then s.signal q else s

/-! ### Completion rings (R58 to R60, R68) -/

/-- Entries of the queue's completion ring. -/
def QCtx.cqSize (x : QCtx) : Nat := 2 ^ x.conf.cqLog2.toNat

/-- Entries the host has not returned. -/
def QCtx.unreturned (x : QCtx) : Nat := (x.cqWrite.toNat + x.cqSize - x.cqHead.toNat) % x.cqSize

/-- The record as it is written: one of the port die's own carries the tide of the writing (R61). -/
def Egress.written (e : Egress) (tide : Nat) : CompRec :=
  if e.own then { e.record with tideLo := BitVec.ofNat 32 tide } else e.record

/-- A completion is written to its ring, its entries piece by piece (R60, R351). -/
def State.emit (s : State) (e : Egress) : State :=
  let q := e.queue.toNat
  let f := e.function.toNat
  let x := s.port.queue q
  let es := (e.written s.port.tide).ringEntries e.tag e.witness x.cqSize x.cqWrite.toNat x.phase
  let addr (i : Nat) : Nat := 4096 * x.conf.cqBase.toNat + 64 * i
  let good := es.filter (fun w => (s.port.fn f).dmaOk true (addr w.1))
  let bad := es.filter (fun w => !(s.port.fn f).dmaOk true (addr w.1))
  let s := good.foldl (fun s w => s.hostLine f (addr w.1) w.2) s
  let n := x.cqWrite.toNat + e.record.entries
  let s := s.updPort (fun p => p.setQueue q { x with cqWrite := BitVec.ofNat 16 (n % x.cqSize),
                                                     phase := if n < x.cqSize then x.phase else !x.phase })
  let s := bad.foldl (fun s w => s.dmaFault f 3 q (addr w.1) (!good.isEmpty)) s
  s.moderate q

/-! ### Function reset, step 1 (R346, R347) -/

/-- A reset of the function is between its request and boundary V. -/
def PortDie.underReset (p : PortDie) (f : Nat) : Bool := p.resets.any (fun r => r.fns.contains f)

/-- The queues with a context of their own, of the functions. -/
def PortDie.queuesOf (p : PortDie) (fns : List Nat) : List Nat :=
  (p.queues.map (·.1)).filter (fun q => fns.contains (p.queueFn q))

/-- A function reset is requested in the tide (R347, step 1): functions already under reset merge into the reset under
way (R356). -/
def State.requestReset (s : State) (fns : List Nat) (all egress : Bool) : State :=
  let p := s.port
  let new := fns.filter (fun f => !p.underReset f)
  let mine (f : BitVec 8) : Bool := new.contains f.toNat
  let probing (n : Nat) : Bool := match p.assay.resolve with
    | some r => r.intakeNo == n
    | none => false
  let t := { p.tenant with resetFn := if all then 0#8 else byte (fns.headD 0), resetAll := all, resetEgress := egress }
  if new.isEmpty then { s with port := { p with tenant := t } }
  else
    let outst : List Outst := (p.outst.filter (fun o => !mine o.function || probing o.intakeNo)).map
      (fun (o : Outst) => if mine o.function then { o with held := false, written := true } else o)
    let p' : PortDie := { p with
      tenant := t
      waiting := p.waiting.filter (fun k => !mine k.hdr.function)
      passing := p.passing.filter (fun e => !mine e.function)
      held := p.held.filter (fun e => !mine e.function)
      waits := p.waits.filter (fun w => outst.any (fun o => o.intakeNo == w.intakeNo))
      outst := outst
      resets := p.resets ++ [{ fns := new, r := p.tide + 2, n := p.nextIntake - 1, listA := none, listB := none,
                               v := none, union := [] }] }
    let p' := (p'.queuesOf new).foldl (fun p q => p.setQueue q { p.queue q with outstanding := 0#17 }) p'
    { s with port := if egress then p'.record 0x004 (fns.headD 0) else p', host := s.host.dropPba new }

/-- A channel's list in a reset. -/
def FnReset.list (r : FnReset) : Chan → Option (List Nat)
  | .a => r.listA
  | .b => r.listB

/-- The reset with a channel's list. -/
def FnReset.setList (r : FnReset) (ch : Chan) (l : List Nat) : FnReset :=
  match ch with
  | .a => { r with listA := some l }
  | .b => { r with listB := some l }

/-- The verdict of a reset once every joined channel's list is held: the union, and V two tides on. -/
def PortDie.resetVerdict (p : PortDie) (r : FnReset) : FnReset :=
  if r.v.isSome || p.tide < r.r || !p.joinedChans.all (fun ch => (r.list ch).isSome) then r
  else { r with v := some (p.tide + 2), union := (r.listA.getD [] ++ r.listB.getD []).eraseDups }

/-- Verdicts that have become possible. -/
def PortDie.resetVerdicts (p : PortDie) : PortDie := { p with resets := p.resets.map p.resetVerdict }

/-! ### The egress buffer (R68, R69) -/

/-- Bytes a completion takes in the egress buffer: its entries. -/
def Egress.size (e : Egress) : Nat := 64 * e.record.entries

/-- Bytes of a list of completions. -/
def egressBytes (l : List Egress) : Nat := (l.map Egress.size).sum

/-- The passing area of 2 MiB has room for a completion (R69). -/
def PortDie.passingRoom (p : PortDie) (e : Egress) : Bool := decide (egressBytes p.passing + e.size ≤ 2 ^ 21)

/-- The passing area is full when it has no room for a completion of the largest size, 261 entries (R60); the collectors
then stall (R69). -/
def PortDie.passingFull (p : PortDie) : Bool := decide (2 ^ 21 < egressBytes p.passing + 64 * 261)

/-- A completion is held (R68, R352); one that outgrows its function's share or the held area resets the function
(R69). -/
def State.hold (s : State) (e : Egress) : State :=
  let l := s.port.held ++ [e]
  if 2 ^ 20 < egressBytes (l.filter (fun x => x.function == e.function)) || 6 * 2 ^ 20 < egressBytes l then
    s.requestReset [e.function.toNat] false true
  else s.updPort (fun p => { p with held := l })

/-- The link takes posted writes at once: it is up, the host grants credits, and nothing waits before them (R69). -/
def PortDie.linkOpen (p : PortDie) : Bool := p.start.linkUp && p.credits && p.passing.isEmpty

/-- A completion goes on its way: discarded under a function reset (R347), held behind an overrun hold or a disabled DMA
unit (R68, R352), held with a new overrun hold when its entries would pass the limit of R68, written, or left in the
passing area while the link is not open (R69). One that finds no room there, which no collector sent, waits in the held area
until a tide boundary finds room (DESIGN CHOICE, log 227). -/
def State.send (s : State) (e : Egress) : State :=
  let q := e.queue.toNat
  let x := s.port.queue q
  let f := s.port.fn e.function.toNat
  if s.port.underReset e.function.toNat then s
  else if x.overrun || !f.acuEnabled || f.acuDraining || s.port.held.any (fun h => h.queue == e.queue) then s.hold e
  else
    let waiting := ((s.port.passing.filter (fun h => h.queue == e.queue)).map (fun h => h.record.entries)).sum
    if x.cqSize - 1 < x.unreturned + waiting + e.record.entries then
      (s.updPort (fun p => p.setQueue q { x with overrun := true })).hold e
    else if s.port.linkOpen then s.emit e
    else if s.port.passingRoom e then s.updPort (fun p => { p with passing := p.passing ++ [e] })
    else s.hold e

/-- Completions leave the passing area in order over the open link, at most `n` (R69). -/
def State.drainPassing (s : State) : Nat → State
  | 0 => s
  | n + 1 =>
    if !s.port.start.linkUp then s
    else match s.port.passing with
      | [] => s
      | e :: l => State.drainPassing ((s.updPort (fun p => { p with passing := l })).emit e) n

/-- The completions of a function in the passing area, none of whose pieces has been checked, are held when its DMA unit is
disabled (R352, R356). -/
def State.holdPassing (s : State) (f : Nat) : State :=
  let l := s.port.passing.filter (fun e => e.function.toNat == f)
  l.foldl (fun s e => s.hold e) (s.updPort (fun p => { p with passing := p.passing.filter (fun e => e.function.toNat != f) }))

/-- The completions of the queue that the egress buffer holds. -/
def PortDie.heldOf (p : PortDie) (q : Nat) : List Egress := p.held.filter (fun h => h.queue.toNat == q)

/-- The held completions of a queue are written when its DMA unit is enabled and the ring has room for every one; the
overrun hold then ends (R68, R352). -/
def State.release (s : State) (q : Nat) : State :=
  let x := s.port.queue q
  let l := s.port.heldOf q
  let f := s.port.fn (s.port.queueFn q)
  let waiting := ((s.port.passing.filter (fun h => h.queue.toNat == q)).map (fun h => h.record.entries)).sum
  if !f.acuEnabled || f.acuDraining then s
  else if x.cqSize - 1 < x.unreturned + waiting + (l.map (fun h => h.record.entries)).sum then
    if l.isEmpty || x.overrun then s else s.updPort (fun p => p.setQueue q { x with overrun := true })
  else
    let s := s.updPort (fun p => { (p.setQueue q { x with overrun := false }) with
                                    held := p.held.filter (fun h => h.queue.toNat != q) })
    l.foldl (fun s e => s.send e) s

/-- Completions that wait in the held area for no hold are written when the passing area has room (log 227). -/
def State.releaseWaiting (s : State) : State :=
  ((s.port.held.map (fun h => h.queue.toNat)).eraseDups).foldl (fun s q =>
    if (s.port.queue q).overrun || !(s.port.heldOf q).all s.port.passingRoom then s else s.release q) s

/-! ### Completions the port die writes itself (R61) -/

/-- A completion record of the port die for a packet: tag M, CYCLES 0 (R61). -/
def portRecord (p : PortDie) (h : Header) (intakeNo : Nat) (code : Code) (detail : BitVec 4) : CompRec :=
  { queue := h.queue, seq := h.seq, function := h.function, code := code, detail := detail, missed := false,
    result := [], tideLo := BitVec.ofNat 32 p.tide, cycles := 0, intakeNo := intakeNo, halved := h.halved,
    assayed := h.assayed }

/-- The port die writes a completion of its own for a packet (R54, R61, R320). -/
def State.sendOwn (s : State) (h : Header) (intakeNo : Nat) (code : Code) (detail : BitVec 4) : State :=
  s.send { queue := h.queue, function := h.function, tag := 3#2, witness := false, own := true,
           record := portRecord s.port h intakeNo code detail }

/-- A channel's completion is written, under tag A or B, or M with or without SINGLE_WITNESS (R59, R64, R65). -/
def State.sendRecord (s : State) (r : CompRec) (tag : BitVec 2) (single : Bool) : State :=
  s.send { queue := r.queue, function := r.function, tag := tag, witness := single, own := false, record := r }

/-! ### The commands of the egress -/

/-- R338: MOD_TIDES after the first unsignalled completion, the queue's message is sent. -/
def modDue (p : PortDie) (q : Nat) : Bool :=
  let x := p.queue q
  !p.underReset (p.queueFn q) && x.conf.irqEn && x.conf.modTides != 0#8 && x.unsignalled != 0#8
    && decide (x.conf.modTides.toNat ≤ (p.tide + 2 ^ 24 - x.firstTide.toNat) % 2 ^ 24)

/-- R338: MODERATION_TIMER. -/
def execModerationTimer (queue : BitVec 16) (s : State) : Out :=
  .next (if modDue s.port queue.toNat then s.signal queue.toNat else s)

/-- A free value decides at a tide boundary whether the host withholds posted-write credits from then on (R69; DESIGN CHOICE,
log 273). -/
def State.drawCredits (s : State) : State :=
  (s.updPort (fun p => { p with credits := p.credits && Config.freeNat s.free % 2 == 0 })).drawn

/-- R69: PASSING_AREA_DRAIN. The host grants credits, and `count` completions leave. -/
def execPassingAreaDrain (count : Nat) (s : State) : Out :=
  let s := s.updPort (fun p => { p with credits := true })
  .next (s.drainPassing (min count s.port.passing.length))

/-- R68, R74: CQ_HEAD. A write naming a queue outside the function is recorded in INTAKE_ERR with CAUSE = QUEUE. -/
def intakeDrop (s : State) (f : Nat) (cause : Nat) (queue : BitVec 16) (attributed : Bool) : State :=
  let x := s.port.fn f
  let x' :=
    if x.intakeCause == 0#4 then
      { x with intakeCause := BitVec.ofNat 4 cause, intakeQueue := if cause == 1 then 0#16 else queue,
               intakeExpected := if attributed then (s.port.queue queue.toNat).expected else 0#32 }
    else { x with intakeMore := true }
  ((s.updPort (fun p => p.setFn f x')).fnErr f .intake)

/-- A CQ_HEAD write reaches the port die (R68, R74, R418). -/
def State.writeCqHead (s : State) (f : Nat) (value : Word) : State :=
  let q := value.toNat / 2 ^ 16
  let x := s.port.queue q
  if s.port.underReset f then s
  else if !s.port.owns f q then intakeDrop s f 3 (BitVec.ofNat 16 q) false
  else (s.updPort (fun p => p.setQueue q { x with cqHead := BitVec.ofNat 16 (value.toNat % 2 ^ 16 % x.cqSize) })).release q

end Sys2Proof.Machine
end

