-- ==== Sys2Proof/Machine/Assay.lean ====
section
/-! DEFINITION. The assay unit (R64, R65, R307 to R322): the comparison of twin completions, lateness, health reports,
discords and probes, and the retirement of a channel. -/

namespace Sys2Proof.Machine

/-! ### Commands outstanding at the port die -/

/-- The deadline of a class in tides, D (R30). -/
def classTides (c : Nat) : Nat :=
  match c with
  | 0 => 1 | 1 => 2 | 2 => 8 | 3 => 64 | 4 => 4096 | _ => 500000

/-- The command of an intake number. -/
def PortDie.findOut (p : PortDie) (n : Nat) : Option Outst := p.outst.find? (fun o => o.intakeNo == n)

/-- The port die with a command's entry replaced. -/
def PortDie.setOut (p : PortDie) (o : Outst) : PortDie :=
  { p with outst := p.outst.map (fun x => if x.intakeNo == o.intakeNo then o else x) }

/-- The command's verdict is final: its replay entry is released, and stays readable until it is reused (R310). -/
def PortDie.dropOut (p : PortDie) (n : Nat) : PortDie :=
  let gone := (p.outst.filter (fun o => o.intakeNo == n && !o.halved)).map (fun o => (o.pkt, o.heapAt))
  { p with outst := p.outst.filter (fun o => o.intakeNo != n), released := p.released ++ gone }

/-- One command fewer is outstanding on the queue (R75). -/
def PortDie.lessOut (p : PortDie) (q : Nat) : PortDie :=
  let x := p.queue q
  p.setQueue q { x with outstanding := BitVec.ofNat 17 (x.outstanding.toNat - 1) }

/-- A channel's completion of the command is still expected. -/
def Outst.need (o : Outst) : Chan → Bool
  | .a => o.needA
  | .b => o.needB

/-- A channel's completion that has arrived. -/
def Outst.got (o : Outst) : Chan → Option CompRec
  | .a => o.gotA
  | .b => o.gotB

/-- The entry with a channel's completion. -/
def Outst.setGot (o : Outst) (ch : Chan) (r : Option CompRec) : Outst :=
  match ch with
  | .a => { o with gotA := r }
  | .b => { o with gotB := r }

/-- The entry with a channel's completion written off. -/
def Outst.writeOff (o : Outst) (ch : Chan) : Outst :=
  match ch with
  | .a => { o with needA := false, gotA := none }
  | .b => { o with needB := false, gotB := none }

/-- The entry with a channel's completion expected. -/
def Outst.expect (o : Outst) (ch : Chan) : Outst :=
  match ch with
  | .a => { o with needA := true }
  | .b => { o with needB := true }

/-! ### Health (R311 to R313) -/

/-- The last health word received. -/
def Assay.word (x : Assay) : Chan → Word
  | .a => x.healthA
  | .b => x.healthB

/-- The last score received. -/
def Assay.score (x : Assay) : Chan → Nat
  | .a => x.scoreA.toNat
  | .b => x.scoreB.toNat

/-- The tide of the last report. -/
def Assay.reportTide (x : Assay) : Chan → Option Nat
  | .a => x.reportA
  | .b => x.reportB

/-- A fatal bit is 0: TIDE, DECODE, RNG, SRAM, JOURNAL, FUSE or COLLECTOR (R311). -/
def fatalClear (w : Word) : Bool := w &&& 0xC507#32 != 0xC507#32

/-- An advisory bit is 0: RAKES, DIGEST, PK, CORES, BUS, HBM, TAMPER, THERMAL or SLUICE (R311). -/
def advisoryClear (w : Word) : Bool := w &&& 0x3AF8#32 != 0x3AF8#32

/-- The tide a channel joined in. -/
def Assay.joinedAt (x : Assay) : Chan → Nat
  | .a => x.joinedAtA
  | .b => x.joinedAtB

/-- The assay unit with a channel joined in a tide: its reports are awaited from then on. -/
def Assay.joins (x : Assay) (ch : Chan) (tide : Nat) : Assay :=
  let y := x.setSt ch .joined
  match ch with
  | .a => { y with joinedAtA := tide, reportA := none }
  | .b => { y with joinedAtB := tide, reportB := none }

/-- The verdict on the last report, as it came. -/
def Assay.bad (x : Assay) : Chan → Bool
  | .a => x.badA
  | .b => x.badB

/-- No report has come in 4 consecutive tides that are over, counted from the last report or the join (R313). -/
def PortDie.reportMissing (p : PortDie) (ch : Chan) : Bool :=
  match p.assay.reportTide ch with
  | none => decide (p.assay.joinedAt ch + 4 ≤ p.tide)
  | some t => decide (t + 5 ≤ p.tide)

/-- The last report of the channel is bad, by the floor of the tide it came in (R313, R425). -/
def PortDie.reportBad (p : PortDie) (ch : Chan) : Bool :=
  p.reportMissing ch || (p.assay.reportTide ch).isSome && p.assay.bad ch

/-- The channel with the lower score, and channel B when the scores are equal (R315, R316). -/
def PortDie.lowerScore (p : PortDie) : Chan := if p.assay.score .a < p.assay.score .b then .a else .b

/-! ### Retirement (R315, R319, R322) -/

/-- The command's completions are written off from a retired channel, and what the survivor has sent is written (R319): a
held completion goes out with SINGLE_WITNESS; a command that the survivor runs is expected from it; a command with a
discord is written from the survivor and its verdict is final. -/
def State.writeOffOne (s : State) (x : Chan) (o : Outst) : State :=
  if o.halved then s
  else
    let other := o.got x.peer
    let final (s : State) : State :=
      let s := s.updPort (fun p => p.dropOut o.intakeNo)
      if o.verdict == .discord then s else s.updPort (fun p => p.lessOut o.queue.toNat)
    if !o.need x && o.verdict != .discord then s
    else match other with
      | some r =>
        if (o.verdict == .discord && o.held) || (o.verdict != .discord && !o.written) then
          final (s.sendRecord r (if o.assayed then 3#2 else x.peer.tag) o.assayed)
        else final s
      | none =>
        let held := (s.chan x.peer).sched.items.any (fun y => y.pkt.intakeNo == o.intakeNo)
        if o.need x.peer || held then
          s.updPort (fun p => p.setOut { ((o.writeOff x).expect x.peer) with firstAt := if o.written then o.firstAt else none })
        else final s

/-- CHANNEL, CAUSE and the tide of a retirement are captured (R334). -/
def Assay.logRetire (y : Assay) (x : Chan) (cause tide : Nat) : Assay :=
  if y.retireValid then { y with retireMore := true }
  else { y with retireChannelB := x == Chan.b, retireCause := BitVec.ofNat 3 cause, retireValid := true,
                retireTide := BitVec.ofNat 32 tide }

/-- A fault of the last joined channel: a critical event and SOLO_FAULT (R322). -/
def State.soloFault (s : State) (x : Chan) : State :=
  s.updPort (fun p => ({ p with assay := { p.assay with soloFault := true } }).record 0x015 x.idx)

/-- A probe ends: the channels keep its epoch no longer (R317). -/
def State.probeOver (s : State) : State :=
  let off (c : Channel) : Channel := { c with rng := { c.rng with probeTide := none } }
  if s.port.assay.resolve.isNone then s else (s.upd .a off).upd .b off

/-- A probe starts: each channel keeps the epoch of the original's note (R317). -/
def State.probeFrom (s : State) (n : Nat) : State :=
  let on (c : Channel) : Channel := { c with rng := { c.rng with
    probeTide := (c.journal.notes.find? (fun y => y.intakeNo == n)).map (·.tide) } }
  (s.upd .a on).upd .b on

/-- The completions that the port die holds of a channel whose generator has failed (R304) are written: the channel is the
last joined one, so no retirement follows (R322). -/
def State.writeHeldRng (s : State) (x : Chan) : State :=
  s.port.outst.foldl (fun s o => match o.got x with
    | some r =>
      if r.code == .rngFailed && !o.written && !o.need x.peer then
        (s.sendRecord r (if o.assayed && !o.halved then 3#2 else x.tag) (o.assayed && !o.halved)).updPort
          (fun p => (p.dropOut o.intakeNo).lessOut o.queue.toNat)
      else s
    | none => s) s

/-- A joined or draining channel is retired (R319). `cause` is CAUSE of ASSAY_RETIRE_LOG. -/
def State.retire (s : State) (x : Chan) (cause : Nat) : State :=
  if !s.port.serving x then s
  else if !s.port.joined x.peer && (s.port.joined x || !s.port.serving x.peer) then (s.soloFault x).writeHeldRng x
  else
    let s := s.probeOver
    let p := s.port
    let y := (p.assay.setSt x .retired).logRetire x cause p.tide
    let y := { y with runA := 0#5, runB := 0#5, resolve := none, lostDue := y.lostDue ++ [(x == Chan.b, p.tide + 2)],
                      planned := none }
    let p := ({ p with assay := y }).record 0x013 (8 * x.idx + cause)
    let p := { p with recorder := p.recorder.flush 1,
                      mgmt := { p.mgmt with spdm := { p.mgmt.spdm with
                        sessions := p.mgmt.spdm.sessions.filter (fun z => z.responder != x) } } }
    let s := { s with port := p }
    let s := s.devEvent (fun g => if x == .a then { g with evRetireA := true } else { g with evRetireB := true })
    let s := s.upd x (fun c => { c with resetOrder := true })
    (p.outst.foldl (fun s o => s.writeOffOne x o) s).updPort (·.resetVerdicts)

/-! ### Lateness (R308) -/

/-- Both channels are joined, so lateness runs are kept (R308). -/
def PortDie.bothJoined (p : PortDie) : Bool := p.joined .a && p.joined .b

/-- A channel's lateness run. -/
def Assay.run (x : Assay) : Chan → Nat
  | .a => x.runA.toNat
  | .b => x.runB.toNat

/-- The assay unit with a lateness run set. -/
def Assay.setRun (x : Assay) (ch : Chan) (n : Nat) : Assay :=
  match ch with
  | .a => { x with runA := BitVec.ofNat 5 n }
  | .b => { x with runB := BitVec.ofNat 5 n }

/-- A completion of the channel came within its window: its run returns to 0 (R308). -/
def State.inTime (s : State) (ch : Chan) (cls : BitVec 3) : State :=
  if s.port.bothJoined && decide (cls.toNat ≤ 3) then s.updPort (fun p => { p with assay := p.assay.setRun ch 0 }) else s

/-- A completion of the channel was late: it is counted, its run rises, and a run of 16 retires the channel (R308). -/
def State.late (s : State) (ch : Chan) (cls : BitVec 3) : State :=
  if !s.port.bothJoined then s
  else
    let y := s.port.assay
    let y := match ch with
      | .a => { y with lateA := satBv y.lateA 1 }
      | .b => { y with lateB := satBv y.lateB 1 }
    if cls.toNat ≤ 3 then
      let n := min 16 (y.run ch + 1)
      let s := s.updPort (fun p => { p with assay := y.setRun ch n })
      if n == 16 then s.retire ch 3 else s
    else s.updPort (fun p => { p with assay := y })

/-! ### Discords (R316 to R318) -/

/-- The discord is captured (R318). -/
def Assay.logDiscord (y : Assay) (o : Outst) : Assay :=
  let y := { y with discords := satBv y.discords 1 }
  if y.logValid then { y with logMore := true }
  else { y with logQueue := o.queue, logSeq := o.seq, logVerdict := 0#3, logValid := true }

/-- The verdict on the first discord is captured (R334). -/
def Assay.logVerdictOf (y : Assay) (v : Nat) (x : Chan) : Assay :=
  if y.logValid && y.logVerdict == 0#3 then { y with logVerdict := BitVec.ofNat 3 v, logRetiredB := x == .b } else y

/-- A verdict retires channel `x`: `v` is VERDICT, `cause` CAUSE. -/
def State.verdict (s : State) (x : Chan) (v cause : Nat) : State :=
  (s.updPort (fun p => { p with assay := p.assay.logVerdictOf v x })).retire x cause

/-- The channel that step 1 of R316 decides to retire. -/
def PortDie.healthVerdict (p : PortDie) : Option Chan :=
  match p.reportBad .a, p.reportBad .b with
  | true, false => some .a
  | false, true => some .b
  | false, false =>
    match advisoryClear (p.assay.word .a), advisoryClear (p.assay.word .b) with
    | true, false => some .a
    | false, true => some .b
    | _, _ => none
  | true, true => none

/-- A discord is found (R316, R318): counted, captured and raised; held while another is being resolved; else decided by
health or probed. -/
def State.discord (s : State) (o : Outst) : State :=
  let s := s.updPort (fun p => (({ p with assay := p.assay.logDiscord o }).setOut { o with verdict := .discord }).record
    0x010 o.queue.toNat)
  let s := s.errCause .discord
  if s.port.assay.resolve.isSome then s
  else match s.port.healthVerdict with
    | some x => s.verdict x 1 0
    | none =>
      (s.probeFrom o.intakeNo).updPort (fun p => { p with assay := { p.assay with
        probesIssued := satBv p.assay.probesIssued 1
        resolve := some { intakeNo := o.intakeNo, probeA := none, probeB := none, stale := false,
                          lateTide := p.tide + classTides o.cls.toNat + 2 } } })

/-- The verdict on the probes of a discord (R316, step 2). -/
def State.probeVerdict (s : State) (r : Resolve) (o : Outst) : State :=
  let rep (ch : Chan) (v : Option DWord) : Bool :=
    match v, o.got ch with
    | some k, some c => k == c.check
    | _, _ => false
  let a := rep .a r.probeA
  let b := rep .b r.probeB
  if !r.stale && a && !b then s.verdict .b 2 1
  else if !r.stale && b && !a then s.verdict .a 2 1
  else
    let both := !r.stale && a && b
    let s := s.updPort (fun p => ({ p with assay := { p.assay with unresolved := satBv p.assay.unresolved 1 } }).record
      (if both then 0x011 else 0x012) o.queue.toNat)
    s.verdict s.port.lowerScore (if both then 3 else 4) 2

/-- The probes are decided when both are in. -/
def State.tryProbe (s : State) : State :=
  match s.port.assay.resolve with
  | none => s
  | some r =>
    match s.port.findOut r.intakeNo with
    | none => s.probeOver.updPort (fun p => { p with assay := { p.assay with resolve := none } })
    | some o => if r.probeA.isSome && r.probeB.isSome then s.probeVerdict r o else s

/-! ### Completions reach the port die (R64, R65, R307) -/

/-- How two completions of a twin command compare (R307). -/
inductive Compare where
  | agree | withdrawal | generator | discord
  deriving DecidableEq, Repr

/-- A channel has sent a generator fault report (R304, R307). -/
def State.genFault (s : State) (ch : Chan) : Bool :=
  (match ch with
    | .a => s.port.assay.genFaultA
    | .b => s.port.assay.genFaultB) || (s.chan ch).faults.contains .generator

/-- The comparison of channel A's and channel B's completions (R307). -/
def compareRecs (genA genB : Bool) (a b : CompRec) : Compare :=
  if a.check == b.check then .agree
  else if (a.code == .keyWithdrawn) != (b.code == .keyWithdrawn) then .withdrawal
  else if (a.code == .rngFailed && genA) || (b.code == .rngFailed && genB) then .generator
  else .discord

/-- The merged completion: from the one that reached the port die later, missed if either is (R61, R65). -/
def merged (first second : CompRec) : CompRec := { second with missed := first.missed || second.missed }

/-- An RNG_FAILED completion that the port die holds for the other channel's (R304). -/
def State.holdsRng (s : State) (ch : Chan) (r : CompRec) : Bool := r.code == .rngFailed && s.genFault ch

/-- An RNG_FAILED completion that the port die holds although no completion of the other channel is due: the channel's
fault report is still to come, and its peer is joined, so that the report retires it (R304). -/
def State.holdsAlone (s : State) (ch : Chan) (r : CompRec) : Bool := s.holdsRng ch r && s.port.joined ch.peer

/-- The port die keeps a completion and writes nothing. -/
def State.keepGot (s : State) (ch : Chan) (o : Outst) (r : CompRec) : State :=
  s.updPort (fun p => p.setOut (o.setGot ch (some r)))

/-- The first completion of a twin command arrives (R64, R65, R304). -/
def State.firstArrival (s : State) (ch : Chan) (o : Outst) (r : CompRec) : State :=
  if !o.need ch.peer && s.holdsAlone ch r then s.keepGot ch o r
  else if !o.need ch.peer then
    let late := match o.firstAt with
      | some t => o.written && decide (t + 8192 < s.port.now)
      | none => false
    let s := if late then s else s.sendRecord r (if o.assayed then 3#2 else ch.tag) o.assayed
    s.updPort (fun p => (p.dropOut o.intakeNo).lessOut o.queue.toNat)
  else
    let s := if s.holdsRng ch r then s else s.inTime ch o.cls
    let write := !o.assayed && !s.holdsRng ch r
    let s := s.updPort (fun p => p.setOut { (o.setGot ch (some r)) with firstAt := some p.now, written := write })
    if write then s.sendRecord r ch.tag false else s

/-- The second completion of a twin command arrives: it is compared, written or merged within the window, and a
difference is counted or becomes a discord (R64, R65, R264, R304, R307). -/
def State.secondArrival (s : State) (ch : Chan) (o : Outst) (first second : CompRec) : State :=
  let late := o.windowOver || (match o.firstAt with
    | some t => decide (t + 8192 < s.port.now)
    | none => false)
  let done (s : State) : State := s.updPort (fun p => (p.dropOut o.intakeNo).lessOut o.queue.toNat)
  let lateness (s : State) : State :=
    if late then (if o.windowOver then s else s.late ch o.cls) else s.inTime ch o.cls
  let cmp := match ch with
    | .a => compareRecs (s.genFault .a) (s.genFault .b) second first
    | .b => compareRecs (s.genFault .a) (s.genFault .b) first second
  let lone (s : State) : State :=
    if o.assayed && late && !o.written then s.sendRecord first 3#2 true else s
  match cmp with
  | .agree =>
    let s := if o.assayed then (if late then lone s else s.sendRecord (merged first second) 3#2 false)
             else if late then s else s.sendRecord second ch.tag false
    lateness (done s)
  | .withdrawal =>
    let s := s.updPort (fun p => { p with assay := { p.assay with withdrawalPairs := satBv p.assay.withdrawalPairs 1 } })
    let s := if o.assayed then
        (if late then lone s else s.sendRecord (if first.code == .keyWithdrawn then second else first) 3#2 false)
      else if late then s else s.sendRecord second ch.tag false
    lateness (done s)
  | .generator =>
    let s := s.updPort (fun p => { p with assay := { p.assay with generatorPairs := satBv p.assay.generatorPairs 1 } })
    let s := if first.code == .rngFailed then
        (if o.written then s else s.sendRecord second (if o.assayed then 3#2 else ch.tag) false)
      else if o.written then s
      else s.sendRecord first (if o.assayed then 3#2 else ch.peer.tag) false
    done s
  | .discord =>
    let s := if o.assayed then lone s else if late then s else s.sendRecord second ch.tag false
    let o' := { (o.setGot ch (some second)) with held := o.assayed && !late, written := true }
    let s := s.updPort (fun p => (p.setOut o').lessOut o.queue.toNat)
    lateness (s.discord o')

/-- A completion record of a channel reaches the port die: discarded from a channel that serves no more or for a command
the port die no longer holds (R319, R347), written for a halved command, else compared (R307). -/
def State.portArrive (s : State) (ch : Chan) (r : CompRec) : State :=
  if !s.port.serving ch then s
  else match s.port.findOut r.intakeNo with
    | none => s
    | some o =>
      if !o.need ch || (o.got ch).isSome || o.verdict == .discord then s
      else if o.halved && s.holdsAlone ch r then s.keepGot ch o r
      else if o.halved then
        (s.sendRecord r ch.tag false).updPort (fun p => (p.dropOut o.intakeNo).lessOut o.queue.toNat)
      else match o.got ch.peer with
        | none => s.firstArrival ch o r
        | some first => s.secondArrival ch o first r

/-! ### Reports (R311 to R315, R320) -/

/-- The channel's computed report reaches the port die. -/
def State.takeReport (s : State) (ch : Chan) : State :=
  match (s.chan ch).health.report with
  | none => s
  | some (w, k) =>
    let s := s.upd ch (fun c => { c with health := { c.health with report := none } })
    s.updPort (fun p => { p with assay := match ch with
      | .a => { p.assay with healthA := w, scoreA := k, reportA := some p.tide
                             badA := fatalClear w || decide (k.toNat < p.assay.floor.toNat) }
      | .b => { p.assay with healthB := w, scoreB := k, reportB := some p.tide
                             badB := fatalClear w || decide (k.toNat < p.assay.floor.toNat) } })

/-- Of two channels whose causes are found together, the one that is retired: that with the lower score, but never the last
joined one (R315, R322). -/
def PortDie.weaker (p : PortDie) : Chan :=
  if p.joined .a && !p.joined .b then .b else if p.joined .b && !p.joined .a then .a else p.lowerScore

/-- Channels whose causes are found together are retired: the one that is bad, or the weaker of two (R315). -/
def State.retireTogether (s : State) (badA badB : Bool) (cause : Nat) : State :=
  match badA, badB with
  | true, true => (s.retire s.port.weaker cause).soloFault s.port.weaker.peer
  | true, false => s.retire .a cause
  | false, true => s.retire .b cause
  | false, false => s

/-- The last reports of the channels in service are judged together, a draining one's too; CAUSE is 7 where the channel that
goes has sent none, else 5 (R315). -/
def State.judgeNow (s : State) : State :=
  let bad (ch : Chan) : Bool := s.port.serving ch && s.port.reportBad ch
  let goes := if bad .a && (!bad .b || s.port.weaker == .a) then Chan.a else .b
  s.retireTogether (bad .a) (bad .b) (if s.port.reportMissing goes then 7 else 5)

/-- The reports of the tide are judged once that of every channel in service is held (R315). -/
def State.judge (s : State) : State :=
  let have_ (ch : Chan) : Bool := s.port.assay.reportTide ch == some s.port.tide
  if (chans.filter s.port.serving).all have_ then s.judgeNow else s

/-- A fault report on its way from the channel. -/
def Channel.popFault (c : Channel) : Option FaultCause × Channel :=
  match c.faults with
  | [] => (none, c)
  | f :: l => (some f, { c with faults := l })

/-- A fault report of the channel is received (R304, R315). -/
def State.takeFault (s : State) (ch : Chan) : State × Bool :=
  let r := (s.chan ch).popFault
  let s := s.setChan ch r.2
  match r.1 with
  | none => (s, false)
  | some f =>
    (if f == .generator then s.updPort (fun p => { p with assay := match ch with
        | .a => { p.assay with genFaultA := true }
        | .b => { p.assay with genFaultB := true } }) else s, s.port.serving ch)

/-- Halved commands outstanding on queues homed on the channel, in SEQ order within each queue (R320). -/
def PortDie.lostOf (p : PortDie) (ch : Chan) : List Outst :=
  (p.outst.filter (fun o => o.halved && homeChan o.homeB == ch)).mergeSort
    (fun x y => x.queue.toNat < y.queue.toNat || (x.queue == y.queue && x.seq.toNat ≤ y.seq.toNat))

/-- CHANNEL_LOST is written for every halved command still outstanding that was homed on the retired channel (R320). -/
def State.writeLost (s : State) (ch : Chan) : State :=
  let l := s.port.lostOf ch
  let s := s.updPort (fun p => { p with assay := { p.assay with
    lostDue := p.assay.lostDue.filter (fun d => !(d.1 == (ch == .b) && decide (d.2 ≤ p.tide))) } })
  l.foldl (fun s o => (s.sendOwn o.pkt.hdr o.intakeNo .channelLost 0#4).updPort (fun p =>
    (p.dropOut o.intakeNo).lessOut o.queue.toNat)) s

/-- A retirement of the channel whose tide r + 2 has come (R320). -/
def PortDie.lostIsDue (p : PortDie) (ch : Chan) : Bool :=
  p.assay.lostDue.any (fun d => d.1 == (ch == .b) && decide (d.2 ≤ p.tide))

/-! ### The commands of the assay unit -/

/-- Every fault report on its way from the channel is received, the oldest first. -/
def State.takeFaults (s : State) (ch : Chan) : Nat → State
  | 0 => s
  | n + 1 =>
    let r := s.takeFault ch
    State.takeFaults (if r.2 then r.1.retire ch 4 else r.1) ch n

/-- A completion that a tamper response has aborted comes after the response's fault report (R366). -/
def State.reportFirst (s : State) (ch : Chan) (r : CompRec) : State :=
  if r.code == .tamperAbort && (s.chan ch).faults.contains .tamper then s.takeFaults ch (s.chan ch).faults.length else s

/-- The record at the head of the channel's collector buffer reaches the port die, unless the passing area is full. -/
def State.arrive (s : State) (ch : Chan) : State :=
  if s.port.passingFull then s
  else match (s.chan ch).sched.buffer with
    | [] => s
    | r :: l => ((s.upd ch (fun c => { c with sched := { c.sched with buffer := l } })).reportFirst ch r).portArrive ch r

/-- The records of a cycle arrive; of two in one cycle channel A's is taken first (R64). -/
def State.arrivals (s : State) (who : Arrivals) : State :=
  match who with
  | .one ch => s.arrive ch
  | .both => (s.arrive .a).arrive .b

/-- R64: COMPLETION_ARRIVAL. -/
def execCompletionArrival (who : Arrivals) (s : State) : Out := .next (s.finish (s.arrivals who))

/-- R65: ASSAY_WINDOW_EXPIRY. 8,192 cycles after a twin command's first completion without the second: an assayed one is
written with SINGLE_WITNESS and the lateness run counts. -/
def State.windowExpiry (s : State) (o : Outst) : State :=
  match o.firstAt, o.gotA, o.gotB with
  | some t, some r, none => if t + 8192 ≤ s.port.now && o.needB then expire s o r .b else s
  | some t, none, some r => if t + 8192 ≤ s.port.now && o.needA then expire s o r .a else s
  | _, _, _ => s
where
  /-- The window of `o` ends with `r` alone; channel `x` is late, but for a completion held for R304. -/
  expire (s : State) (o : Outst) (r : CompRec) (x : Chan) : State :=
    let write := o.assayed && !o.written && !s.holdsRng x.peer r
    let s := s.updPort (fun p => p.setOut { o with windowOver := true, written := o.written || write })
    if s.holdsRng x.peer r then s else (if write then s.sendRecord r 3#2 true else s).late x o.cls

/-- R65: ASSAY_WINDOW_EXPIRY. -/
def execAssayWindowExpiry (intakeNo : Nat) (s : State) : Out :=
  .next (s.finish (match s.port.findOut intakeNo with
    | none => s
    | some o => if o.halved || o.windowOver || o.verdict == .discord then s else s.windowExpiry o))

/-- R313: HEALTH_REPORT. The reports of the named channels reach the port die and are judged. -/
def execHealthReport (a b : Bool) (s : State) : Out :=
  .next (s.finish (
    let t := if a then s.takeReport .a else s
    let t := if b then t.takeReport .b else t
    t.judge))

/-- R313: HEALTH_REPORT_MISSING. A channel whose report is missing is judged with what the port die holds of the other. -/
def execHealthReportMissing (ch : Chan) (s : State) : Out :=
  .next (s.finish (if s.port.serving ch && s.port.reportMissing ch then s.judgeNow else s))

/-- R315: CHANNEL_FAULT_REPORT. Fault reports of the named channels reach the port die in one cycle. -/
def execChannelFaultReport (a b : Bool) (s : State) : Out :=
  .next (s.finish (
    let ra := if a then s.takeFault .a else (s, false)
    let rb := if b then ra.1.takeFault .b else (ra.1, false)
    rb.1.retireTogether ra.2 rb.2 4))

/-- R320: CHANNEL_LOST_TIMEOUT. -/
def execChannelLostTimeout (ch : Chan) (s : State) : Out :=
  .next (s.finish (if s.port.lostIsDue ch then s.writeLost ch else s))

end Sys2Proof.Machine
end

