-- ==== Sys2Proof/Machine/Pages.lean ====
section
/-! DEFINITION. The register pages of a channel (R97, R117, R204, R220, R245, R283, R306, R383, R384, R427): for each
word of a page its value, and what a read clears (R12). The tables are the spec's, word by word in offset order. -/

namespace Sys2Proof.Machine

/-- Bits numbered from 0 where `f` holds. -/
def bitsOf (n : Nat) (f : Nat → Bool) : Nat := ((List.range n).map (fun i => if f i then 2 ^ i else 0)).sum

/-- Rakes in force on the skim path: 0 applies as 1, above 8 as 8 (R118). -/
def Skim.rakes (k : Skim) : Nat := max 1 (min 8 k.regs.rakes.toNat)

/-- Twin skim admissions per tide: above 128 applies as 128 (R98). -/
def Sched.twinSkim (d : Sched) : Nat := min 128 d.regs.twinSkim.toNat

/-- S and T: skim lane pairs and those of twin commands (R105). -/
def Channel.skimPairs (c : Channel) : Nat := 8 * c.skim.rakes
def Channel.twinPairs (c : Channel) : Nat := c.skimPairs * c.sched.twinSkim / 128

/-- E_k: public-key engines of twin and of halved commands (R233). -/
def Pks.twinEngines (k : Pks) : Nat := min 16 k.split.toNat
def Pks.engineCount (k : Pks) (halved : Bool) : Nat := if halved then 16 - k.twinEngines else k.twinEngines

/-! ### Scheduler page (R97, R98) -/

/-- Word `k` of the scheduler page. -/
def schedWord (c : Channel) (k : Nat) : Word :=
  let d := c.sched
  let r := d.regs
  match k with
  | 0 => word [(0, r.twinSkimShadow.toNat)]
  | 1 => word [(0, r.maskShadow.toNat)]
  | 2 => word [(0, d.items.length), (19, r.twinMismatch.toNat), (20, r.decodeLate.toNat)]
  | 3 => word [(0, d.flows.length)]
  | 4 => r.missCount
  | 5 => word [(0, r.traceNext.toNat), (25, r.traceWrapped.toNat)]
  | 6 => r.traceLost
  | _ => word [(0, r.preempts.toNat), (16, r.merges.toNat)]

/-- The scheduler page after a read of word `k`. -/
def schedClear (d : Sched) (k : Nat) : Sched :=
  let r := d.regs
  { d with regs := match k with
    | 2 => { r with twinMismatch := false, decodeLate := false }
    | 4 => { r with missCount := 0#32 }
    | 6 => { r with traceLost := 0#32 }
    | 7 => { r with preempts := 0#16, merges := 0#16 }
    | _ => r }

/-! ### Skim page (R117, R118) -/

/-- Word `k` of the skim page. -/
def skimWord (c : Channel) (k : Nat) : Word :=
  let r := c.skim.regs
  match k with
  | 0 => word [(0, r.rakesShadow.toNat)]
  | 1 => word [(0, c.twinPairs), (7, c.skimPairs - c.twinPairs), (14, r.twinMismatch.toNat), (15, c.skim.joinCap.toNat)]
  | 2 => r.admits
  | 3 => word [(0, r.refusedCount.toNat), (16, r.refusedLanes.toNat)]
  | 4 => r.fills
  | 5 => word [(0, r.maxAhead.toNat)]
  | 6 => r.booked
  | _ => word [(0, r.faultCompare.toNat), (16, r.faultCorrupt.toNat)]

/-- The skim page after a read of word `k`. -/
def skimClear (x : Skim) (k : Nat) : Skim :=
  let r := x.regs
  { x with regs := match k with
    | 1 => { r with twinMismatch := false }
    | 2 => { r with admits := 0#32 }
    | 3 => { r with refusedCount := 0#16, refusedLanes := 0#16 }
    | 4 => { r with fills := 0#32 }
    | 6 => { r with booked := 0#32 }
    | 7 => { r with faultCompare := 0#16, faultCorrupt := 0#16 }
    | _ => r }

/-! ### Rake page (R204) -/

/-- Lane pair `p` of rake `n`. -/
def Skim.pairOf (k : Skim) (n p : Nat) : Pair := k.pairs.getD (8 * n + p) Pair.idle

/-- Word `k` (0 to 3) of rake `n`. -/
def rakeWord (c : Channel) (n k : Nat) : Word :=
  let pr (p : Nat) : Pair := c.skim.pairOf n p
  let r := c.rakes.perRake.getD n RakeRegs.reset
  match k with
  | 0 => word [(0, bitsOf 8 (fun p => (pr p).job.isSome || decide (c.now < (pr p).busyUntil))),
               (8, (decide (n < c.skim.rakes)).toNat), (16, bitsOf 8 (fun p => (pr p).testFail))]
  | 1 => word [(0, bitsOf 8 (fun p => (pr p).faultCompare)), (8, bitsOf 8 (fun p => (pr p).faultBus)),
               (16, r.faultCount.toNat)]
  | 2 => r.blocks
  | _ => word [(0, r.yields.toNat), (16, r.aborts.toNat)]

/-- Word `k` of the rake page's eight global registers. -/
def rakeGlobal (c : Channel) (k : Nat) : Word :=
  let r := c.rakes
  match k with
  | 0 => word [(0, r.jobs.length)]
  | 1 => word [(0, (r.streams.filter (fun x => x.2.state == .opened)).length),
               (15, (r.streams.filter (fun x => x.2.state == .dead)).length)]
  | 2 => r.crustKilled
  | 3 => word [(0, r.exhaustReports.toNat), (16, r.exhaustRefused.toNat)]
  | 4 => word [(0, r.logPair.toNat), (3, r.logRake.toNat), (6, r.logKind.toNat), (8, r.logMore.toNat)]
  | 5 => r.faultTide
  | 6 => r.gapSlices
  | _ => r.tagFails

/-- The lane pairs of a rake changed. -/
def Skim.mapRake (k : Skim) (n : Nat) (f : Pair → Pair) : Skim :=
  { k with pairs := k.pairs.mapIdx (fun i p => if i / 8 == n then f p else p) }

/-- The channel after a read of word `k` of rake `n`. -/
def rakeClear (c : Channel) (n k : Nat) : Channel :=
  let reg (f : RakeRegs → RakeRegs) : Rakes :=
    { c.rakes with perRake := c.rakes.perRake.mapIdx (fun i r => if i == n then f r else r) }
  match k with
  | 0 => { c with skim := c.skim.mapRake n (fun p => { p with testFail := false }) }
  | 1 => { c with skim := c.skim.mapRake n (fun p => { p with faultCompare := false, faultBus := false }),
                  rakes := reg (fun r => { r with faultCount := 0#16 }) }
  | 2 => { c with rakes := reg (fun r => { r with blocks := 0#32 }) }
  | _ => { c with rakes := reg (fun r => { r with yields := 0#16, aborts := 0#16 }) }

/-- The rakes after a read of global word `k`. -/
def rakeGlobalClear (r : Rakes) (k : Nat) : Rakes :=
  match k with
  | 2 => { r with crustKilled := 0#32 }
  | 3 => { r with exhaustReports := 0#16, exhaustRefused := 0#16 }
  | 4 => { r with logPair := 0#3, logRake := 0#3, logKind := 0#2, logMore := false }
  | 5 => { r with faultTide := 0#32 }
  | 6 => { r with gapSlices := 0#32 }
  | 7 => { r with tagFails := 0#32 }
  | _ => r

/-! ### Digest page (R220) -/

/-- The algorithm of an operation's digest job (R205, R215). -/
def digestAlgo (o : Op) (p : Bytes) : Nat :=
  match o with
  | .digest => u8 p 0
  | .macHmacSha2 => u8 p 6
  | _ => 2

/-- Word `k` (0 to 3) of digest engine `n`. `algo` and `hmac` are those of the running job. -/
def digestWord (c : Channel) (n k : Nat) : Word :=
  let e := c.digests.engines.getD n DigestEngine.reset
  let item : Option Item := match e.job with
    | none => none
    | some j => c.sched.items.find? (fun i => i.id == j.item)
  let algo := match item with
    | none => 0
    | some i => digestAlgo i.op i.pkt.payload
  let hmac := match item with
    | none => false
    | some i => i.op != Op.digest
  match k with
  | 0 => word [(0, (e.job.isSome || decide (c.now < e.busyUntil)).toNat), (1, algo), (4, hmac.toNat), (5, e.outOfService.toNat), (6, e.testFail.toNat)]
  | 1 => e.blocks
  | 2 => word [(0, e.faultBus.toNat), (1, e.faultMemory.toNat), (2, e.faultPair.toNat), (3, e.faultList.toNat),
               (16, e.faultCount.toNat)]
  | _ => word [(0, e.yields.toNat), (16, e.aborts.toNat)]

/-- Word `k` of the digest page's eight global registers. -/
def digestGlobal (d : Digests) (k : Nat) : Word :=
  match k with
  | 0 => word [(0, d.jobs.length)]
  | 1 => word [(0, d.compareMatches.toNat), (16, d.compareMismatches.toNat)]
  | 2 => word [(0, d.logEngine.toNat), (2, d.logKind.toNat), (5, d.logMore.toNat)]
  | 3 => d.faultTide
  | 4 => word [(0, d.bytes.toNat)]
  | 5 => word [(0, d.bytes.toNat / 2 ^ 32)]
  | 6 => d.katRuns
  | _ => word [(0, bitsOf 4 (fun n => (d.engines.getD n DigestEngine.reset).regMode)), (4, d.locked.toNat)]

/-- The digest engines with engine `n` changed. -/
def Digests.mapEngine (d : Digests) (n : Nat) (f : DigestEngine → DigestEngine) : Digests :=
  { d with engines := d.engines.mapIdx (fun i e => if i == n then f e else e) }

/-- The digest engines after a read of word `k` of engine `n`. -/
def digestClear (d : Digests) (n k : Nat) : Digests :=
  d.mapEngine n (fun e => match k with
    | 0 => { e with testFail := false }
    | 1 => { e with blocks := 0#32 }
    | 2 => { e with faultBus := false, faultMemory := false, faultPair := false, faultList := false, faultCount := 0#16 }
    | _ => { e with yields := 0#16, aborts := 0#16 })

/-- The digest engines after a read of global word `k`. -/
def digestGlobalClear (d : Digests) (k : Nat) : Digests :=
  match k with
  | 1 => { d with compareMatches := 0#16, compareMismatches := 0#16 }
  | 2 => { d with logEngine := 0#2, logKind := 0#3, logMore := false }
  | 3 => { d with faultTide := 0#32 }
  | 6 => { d with katRuns := 0#32 }
  | _ => d

/-! ### Public-key page (R245, R246) -/

/-- Word `k` (0 or 1) of public-key engine `n`. -/
def pkWord (x : Pks) (n k : Nat) : Word :=
  let e := x.engines.getD n PkEngine.reset
  match k with
  | 0 =>
    let job := if e.wiping then none else e.job
    word [(0, job.isSome.toNat), (1, e.wiping.toNat), (2, (decide (n < x.twinEngines)).toNat),
          (8, match job with | none => 0 | some j => j.algo),
          (16, match job with | none => 0 | some j => j.op.toNat), (19, (e.owned && !e.wiping).toNat), (24, e.owner.toNat)]
  | _ => word [(0, e.ops.toNat), (16, e.aborts.toNat)]

/-- Word `k` of the public-key page's eight global registers. -/
def pkGlobal (x : Pks) (k : Nat) : Word :=
  match k with
  | 0 => word [(0, x.splitShadow.toNat)]
  | 1 => word [(0, min 0xFFFF x.drainedTwin), (16, min 0xFFFF x.drainedHalved)]
  | 2 => word [(0, min 0xFFFF (x.queueTwin.length + x.queueHalved.length)), (16, x.twinMismatch.toNat)]
  | 3 => word [(0, x.rejInput.toNat), (16, x.rejInvariant.toNat)]
  | 4 => word [(0, x.logEngine.toNat), (4, x.logKind.toNat), (7, x.logMore.toNat)]
  | 5 => x.faultTide
  | 6 => word [(0, x.wipesOwner.toNat), (16, x.wipesAbort.toNat)]
  | _ => word [(0, x.maxAttempts.toNat), (16, x.capHits.toNat)]

/-- The public-key engines with engine `n` changed. -/
def Pks.mapEngine (x : Pks) (n : Nat) (f : PkEngine → PkEngine) : Pks :=
  { x with engines := x.engines.mapIdx (fun i e => if i == n then f e else e) }

/-- The public-key engines after a read of word `k` of engine `n`. -/
def pkClear (x : Pks) (n k : Nat) : Pks :=
  if k == 1 then x.mapEngine n (fun e => { e with ops := 0#16, aborts := 0#16 }) else x

/-- The public-key engines after a read of global word `k`. -/
def pkGlobalClear (x : Pks) (k : Nat) : Pks :=
  match k with
  | 2 => { x with twinMismatch := false }
  | 3 => { x with rejInput := 0#16, rejInvariant := 0#16 }
  | 4 => { x with logEngine := 0#4, logKind := 0#3, logMore := false }
  | 5 => { x with faultTide := 0#32 }
  | 6 => { x with wipesOwner := 0#16, wipesAbort := 0#16 }
  | 7 => { x with maxAttempts := 0#9, capHits := 0#16 }
  | _ => x

/-! ### Key store page (R283) -/

/-- Shadow entries in use: retained copies and component sessions (R169, R258, R259). -/
def Keys.shadowUsed (x : Keys) : Nat := (x.retained.map (fun r => r.records.length)).sum + x.sessions.length

/-- The pin count of a cache entry: the work items that hold a handle on it (R265). An extension record's entry goes with its
key's. -/
def Channel.pins (c : Channel) (e : CacheEntry) : Nat :=
  let home := if extBase ≤ e.slot then asymBase + (e.slot - extBase) / 32 else e.slot
  c.sched.items.countP (fun x => x.read && x.binds.any (fun b => b.slot == home && b.generation == e.generation))

/-- The entry is pinned. -/
def Channel.pinned (c : Channel) (e : CacheEntry) : Bool := c.pins e != 0

/-- Shadow entries that writers in service have taken and not yet given back (R258). -/
def Sched.heldShadow (d : Sched) : Nat :=
  (d.items.map (fun x => if x.phase == .shadowWait || x.phase == .finished then 0 else x.shadow)).sum

/-- Word `k` of the key store page, 0 to 11. -/
def keyWord (c : Channel) (k : Nat) : Word :=
  let x := c.keys
  match k with
  | 0 => word [(0, x.sdk.isSome.toNat), (1, x.vr.isSome.toNat), (2, x.commit.isSome.toNat), (8, x.rung % 256), (16, x.svnRun % 256)]
  | 1 => x.hits
  | 2 => x.misses
  | 3 => word [(0, (x.cache.filter c.pinned).length)]
  | 4 => word [(0, x.fillCorrupt.toNat), (16, x.fillVolEmpty.toNat)]
  | 5 => word [(0, x.shadowUsed + c.sched.heldShadow)]
  | 6 => word [(0, (x.ledger.filter (·.live)).length)]
  | 7 => x.flips
  | 8 => word [(0, x.destroys.toNat), (16, x.withdrawnCount.toNat)]
  | 9 => word [(0, x.corruptSlot.toNat), (28, x.corruptValid.toNat), (29, x.corruptMore.toNat)]
  | 10 => x.corruptTide
  | _ => word [(0, x.fuseFloor % 256)]

/-- The key store after a read of word `k`. -/
def keyClear (x : Keys) (k : Nat) : Keys :=
  match k with
  | 1 => { x with hits := 0#32 }
  | 2 => { x with misses := 0#32 }
  | 4 => { x with fillCorrupt := 0#16, fillVolEmpty := 0#16 }
  | 7 => { x with flips := 0#32 }
  | 8 => { x with destroys := 0#16, withdrawnCount := 0#16 }
  | 9 => { x with corruptSlot := 0#28, corruptValid := false, corruptMore := false }
  | 10 => { x with corruptTide := 0#32 }
  | _ => x

/-! ### Generator page (R306) -/

/-- RNG_STATUS.STATE. -/
def RngState.num : RngState → Nat
  | .off => 0 | .startTest => 1 | .seeding => 2 | .ready => 3 | .failed => 4

/-- The pool holds a unit of 1,024 bits (R285). -/
def Rng.unit (g : Rng) : Bool := decide (16 ≤ g.pool.length)

/-- The conditions of step 2 of R295 beside the pool unit: fewer than 16 retained epochs, 64 tides since the epoch took
effect, where one has, and no wait after a second mismatch. -/
def Rng.epochRoom (g : Rng) (tide : Nat) : Bool :=
  decide (g.epochs.length < 16) && (g.epochTide == 0 || decide (g.epochTide + 64 ≤ tide))
  && g.retryAt.all (fun t => decide (t ≤ tide))

/-- The conditions of step 2 of R295. -/
def Rng.step2 (g : Rng) (tide : Nat) : Bool := g.unit && g.epochRoom tide

/-- A renewal has been triggered and waits under step 2 of R295. -/
def Rng.deferred (g : Rng) (tide : Nat) : Bool := g.renewal.any (fun r => r.own.isNone && r.formed.isNone) && !g.step2 tide

/-- Word `k` of the generator page, 0 to 11. -/
def rngWord (g : Rng) (tide k : Nat) : Word :=
  match k with
  | 0 => word [(0, g.state.num), (3, g.source.toNat), (6, g.cause.toNat), (9, g.atStartup.toNat)]
  | 1 => word [(0, g.current % 2 ^ 32)]
  | 2 => word [(0, g.current / 2 ^ 32 % 2 ^ 32)]
  | 3 => word [(0, g.epochTide % 2 ^ 32)]
  | 4 => word [(0, min 0x1FFFFFF g.uses)]
  | 5 => word [(0, g.epochs.length), (5, g.renewal.isSome.toNat), (6, (g.deferred tide).toNat)]
  | 6 => word [(0, g.reseeds.toNat), (16, g.epochCount.toNat)]
  | 7 => g.draws
  | 8 => word [(0, g.repMax.toNat), (16, g.aptMax.toNat)]
  | 9 => word [(0, g.failedReqs.toNat)]
  | 10 => word [(0, 64 * g.pool.length)]
  | _ => 0#32

/-- The generator after a read of word `k`. -/
def rngClear (g : Rng) (k : Nat) : Rng :=
  match k with
  | 6 => { g with reseeds := 0#16, epochCount := 0#16 }
  | 7 => { g with draws := 0#32 }
  | 8 => { g with repMax := 0#16, aptMax := 0#16 }
  | 9 => { g with failedReqs := 0#16 }
  | _ => g

/-! ### Tamper page, island and fuse windows (R383, R384, R427) -/

/-- The channel drives TAMPER_OUT_N: its alarm latch holds a source whose response was L1 or above (R382). -/
def Channel.drivesOut (c : Channel) : Bool := c.island.drivers &&& c.island.alarm != 0#23

/-- Eight 3-bit fields, those of sources 8 × `m` on. -/
def nibbleWord (f : Nat → Nat) (m : Nat) : Word :=
  word ((List.range 8).map (fun k => (4 * k, if 8 * m + k < 23 then f (8 * m + k) else 0)))

/-- The level a programmed value applies as: at least the floor, 6 and 7 as 5 (R359). -/
def levelOf (source : Nat) (programmed : Nat) : Nat := max (tamperFloors.getD source 0#3).toNat (min 5 programmed)

/-- The level in force of a source. -/
def Tamper.level (t : Tamper) (source : Nat) : Nat := levelOf source (t.levels.getD source 0#3).toNat

/-- What a read of the tamper page takes from outside the channel: whether TAMPER_OUT_N is low, the peer's halt, and the
present levels of TMP_IN[3:0] and WAKE_N. -/
structure PinView where
  outLow : Bool
  peerHalted : Bool
  tmpIn : BitVec 4
  wakeHigh : Bool
  deriving DecidableEq, Repr

/-- The levels of the pins before filtering (R383): a TMP_IN that a command has reported is high and a WAKE_N decided as a
tamper is low; of the others no command reports the level, which is the free value `n` (DESIGN CHOICE, log 270). -/
def Tamper.levelsOf (t : Tamper) (n : Nat) : BitVec 4 × Bool := (t.tmpIn ||| BitVec.ofNat 4 n, t.wakeHigh && n / 16 % 2 == 1)

/-- Word `k` of the tamper page of a channel. -/
def tamperWord (c : Channel) (pins : PinView) (k : Nat) : Word :=
  let t := c.tamper
  match k with
  | 0 => word [(0, t.armed.toNat), (1, t.boot.toNat), (2, c.responding), (5, c.drivesOut.toNat), (6, t.peerL5.toNat)]
  | 1 => word [(0, c.island.alarm.toNat)]
  | 2 => word [(0, t.seen.toNat)]
  | 3 => nibbleWord t.level 0
  | 4 => nibbleWord t.level 1
  | 5 => nibbleWord t.level 2
  | 6 => nibbleWord (fun n => (tamperFloors.getD n 0#3).toNat) 0
  | 7 => nibbleWord (fun n => (tamperFloors.getD n 0#3).toNat) 1
  | 8 => nibbleWord (fun n => (tamperFloors.getD n 0#3).toNat) 2
  | 9 => word [(0, t.l1.toNat), (8, t.l2.toNat), (16, t.l3.toNat)]
  | 10 => word [(0, t.lastSources.toNat), (23, t.lastLevel.toNat)]
  | 11 => t.lastTide
  | 12 => word [(0, t.bistNext.toNat), (5, c.testWindow.toNat), (16, t.bistRuns.toNat)]
  | 13 => word [(0, t.bistFail.toNat)]
  | 14 => word [(0, pins.tmpIn.toNat), (4, (!pins.outLow).toNat), (5, pins.wakeHigh.toNat)]
  | _ => word [(0, t.restarts.toNat), (4, pins.peerHalted.toNat)]

/-- The tamper responder after a read of word `k`. -/
def tamperClear (t : Tamper) (k : Nat) : Tamper :=
  match k with
  | 2 => { t with seen := 0#23 }
  | 9 => { t with l1 := 0#8, l2 := 0#8, l3 := 0#8 }
  | 10 => { t with lastSources := 0#23, lastLevel := 0#3 }
  | 11 => { t with lastTide := 0#32 }
  | 12 => { t with bistRuns := 0#16 }
  | 13 => { t with bistFail := 0#23 }
  | _ => t

/-- Word `k` of the island window, 0 to 5 (R384). -/
def islandWord (c : Channel) (k : Nat) : Word :=
  let i := c.island
  match k with
  | 0 => word [(0, i.valid.toNat), (1, i.erased.toNat), (2, i.retain.toNat), (3, i.onVbat.toNat), (8, i.backupWakes.toNat)]
  | 1 => word [(0, i.wakeDuration.toNat), (16, i.wakeClass.toNat)]
  | m => word (((List.range 4).map (fun j =>
      (8 * j, (c.fuses.evidence.getD (4 * (m - 2) + j) 0#6).toNat + 64 * (i.pending.getLsbD (4 * (m - 2) + j)).toNat))))

/-- Word `k` of the fuse window, 0 or 1 (R427). -/
def fuseWord (c : Channel) (k : Nat) : Word :=
  let f := c.fuses
  match k with
  | 0 => word [(0, f.loaded.toNat), (1, f.rowsAgree.toNat), (2, f.peerMatch.toNat), (8, f.cfgLock.toNat)]
  | _ => f.loadTide

/-! ### The trace ring (R96) -/

/-- The 32 bytes of a trace record. -/
def TraceRec.bytes (t : TraceRec) : Bytes :=
  leBytes 8 t.tide ++ leBytes 2 (t.offset.toNat + 2 ^ 12 * t.decision.toNat) ++ leBytes 2 t.queue.toNat
  ++ leBytes 4 t.seq.toNat ++ leBytes 4 (t.flowEntry.toNat + 2 ^ 18 * t.flowKind.toNat) ++ [t.unit, t.function]
  ++ [byte (t.cls.toNat + 8 * t.priority.toNat + 64 * t.halved.toNat + 128 * t.urgent.toNat), t.code]
  ++ leBytes 4 t.due.toNat ++ leBytes 3 t.cycles.toNat ++ [byte t.exempt.toNat]

/-- Word `k` of the trace ring; a record never written reads as 0. -/
def traceWord (c : Channel) (k : Nat) : Word :=
  match SMap.find? c.sched.traceRing (k / 8) with
  | none => 0#32
  | some r => BitVec.ofNat 32 (leAt r.bytes (4 * (k % 8)) 4)

/-! ### A channel's pages (R419) -/

/-- A read of the word at `offset` of a channel's page 0 to 7: its value and the channel after the read. -/
def Channel.readPage (c : Channel) (pins : PinView) (page offset : Nat) : Word × Channel :=
  let k := offset / 4 % 64
  let c := if page == 2 || page == 3 then c.sync else c
  match page with
  | 0 => (schedWord c (k % 8), { c with sched := schedClear c.sched (k % 8) })
  | 1 => (skimWord c (k % 8), { c with skim := skimClear c.skim (k % 8) })
  | 2 => if k < 32 then (rakeWord c (k / 4) (k % 4), rakeClear c (k / 4) (k % 4))
         else (rakeGlobal c (k % 8), { c with rakes := rakeGlobalClear c.rakes (k % 8) })
  | 3 => if k % 32 < 16 then (digestWord c (k % 32 / 4) (k % 4), { c with digests := digestClear c.digests (k % 32 / 4) (k % 4) })
         else (digestGlobal c.digests (k % 8), { c with digests := digestGlobalClear c.digests (k % 8) })
  | 4 => if k < 32 then (pkWord c.pks (k / 2) (k % 2), { c with pks := pkClear c.pks (k / 2) (k % 2) })
         else (pkGlobal c.pks (k % 8), { c with pks := pkGlobalClear c.pks (k % 8) })
  | 5 => let j := if k % 16 < 12 then k % 16 else k % 16 - 4
         (keyWord c j, { c with keys := keyClear c.keys j })
  | 6 => let j := if k % 16 < 12 then k % 16 else k % 16 - 4
         (rngWord c.rng c.tide j, { c with rng := rngClear c.rng j })
  | _ => (tamperWord c pins (k % 16), { c with tamper := tamperClear c.tamper (k % 16) })

/-- The SH registers of the channel pages: which block's shadow a write at an offset of a page reaches (R97, R117,
R245, R423). -/
inductive ChanShadow where
  | split | trace | rakes | engines
  deriving DecidableEq, Repr

/-- The SH register a write to a channel page reaches, if any. -/
def chanShadow (page offset : Nat) : Option ChanShadow :=
  let k := offset / 4 % 64
  match page with
  | 0 => if k % 8 == 0 then some .split else if k % 8 == 1 then some .trace else none
  | 1 => if k % 8 == 0 then some .rakes else none
  | 4 => if 32 ≤ k && k % 8 == 0 then some .engines else none
  | _ => none

/-- A write reaches the shadow; bit 6 of MASK cannot be cleared (R98). -/
def Channel.writeShadow (c : Channel) (r : ChanShadow) (v : Word) : Channel :=
  match r with
  | .split => { c with sched := { c.sched with regs := { c.sched.regs with twinSkimShadow := BitVec.ofNat 8 v.toNat } } }
  | .trace => { c with sched := { c.sched with regs := { c.sched.regs with maskShadow := BitVec.ofNat 9 v.toNat ||| 0x40#9 } } }
  | .rakes => { c with skim := { c.skim with regs := { c.skim.regs with rakesShadow := BitVec.ofNat 4 v.toNat } } }
  | .engines => { c with pks := { c.pks with splitShadow := BitVec.ofNat 5 v.toNat } }

/-- The mask bit of the shadow's block (R423). -/
def ChanShadow.bit : ChanShadow → Nat
  | .split => 2 | .trace => 2 | .rakes => 3 | .engines => 4

end Sys2Proof.Machine
end

