-- ==== Sys2Proof/Machine/Commits.lean ====
section
/-! DEFINITION. The commit strobe (R423 to R425, R462) with the refusal rules of its blocks (R76, R77, R98, R118, R246,
R336, R337, R345), and the DMA units' enables (R350, R352). -/

namespace Sys2Proof.Machine

/-! ### Register updates -/

/-- The scheduler with its registers changed. -/
def Channel.mapSched (c : Channel) (f : SchedRegs → SchedRegs) : Channel :=
  { c with sched := { c.sched with regs := f c.sched.regs } }

/-- The skim path with its registers changed. -/
def Channel.mapSkim (c : Channel) (f : SkimRegs → SkimRegs) : Channel :=
  { c with skim := { c.skim with regs := f c.skim.regs } }

/-! ### Refusal rules -/

/-- The shadow context is invalid: a ring size outside its range, or ASSAYED and HALVED together (R76). -/
def QConf.invalid (c : QConf) : Bool :=
  decide (c.sqLog2.toNat < 6) || decide (16 < c.sqLog2.toNat) || decide (c.cqLog2.toNat < 10)
  || decide (16 < c.cqLog2.toNat) || (c.assayed && c.halved)

/-- The shadow changes a field that R76 protects. -/
def QConf.protectedChange (a b : QConf) : Bool :=
  a.halved != b.halved || a.homeB != b.homeB || a.assayed != b.assayed || a.ring != b.ring || a.sqLog2 != b.sqLog2
  || a.cqLog2 != b.cqLog2 || a.sqBase != b.sqBase || a.cqBase != b.cqBase

/-- A commit of a queue context (R76, R77): the context after it, and whether it was refused. -/
def QCtx.commit (x : QCtx) : QCtx × Bool :=
  if x.shadow.invalid || (x.shadow.protectedChange x.conf && (x.conf.enable || x.outstanding != 0#17)) then
    ({ x with cfgErr := true }, true)
  else if x.shadow.enable && !x.conf.enable then
    ({ x with conf := x.shadow, expected := 0#32, sqHead := 0#16, sqTail := 0#16, cqWrite := 0#16, cqHead := 0#16,
              phase := true, overrun := false, fetchHalt := false }, false)
  else ({ x with conf := x.shadow }, false)

/-- The queue contexts after a commit, and whether any was refused. A context equal to its shadow is not changed. -/
def PortDie.commitQueues (p : PortDie) : PortDie × Bool :=
  (p.queues.map (·.1)).foldl (fun (r : PortDie × Bool) q =>
    let x := r.1.queue q
    if x.shadow == x.conf then r
    else let y := x.commit; (r.1.setQueue q y.1, r.2 || y.2)) (p, false)

/-- The 256 functions. -/
def allFns : List Nat := List.range 256

/-- VECTORS of all functions' shadows sum to at most 16,384 (R337). -/
def PortDie.vectorsFit (p : PortDie) : Bool :=
  decide ((allFns.map (fun f => (p.fn f).cfgShadow.vectors.toNat)).sum ≤ 16384)

/-- No stream is assigned to two functions by the shadows (R345). -/
def PortDie.idesDistinct (p : PortDie) : Bool :=
  decide (((allFns.filter (fun f => (p.fn f).cfgShadow.ideAssigned)).map (fun f => (p.fn f).cfgShadow.ideStream)).Nodup)

/-- FN_VEC_USED (R354). -/
def PortDie.vectorsUsed (p : PortDie) : Nat := (allFns.map (fun f => (p.fn f).cfg.vectors.toNat)).sum

/-- Every queue of a block has ENABLE 0 and OUTSTANDING 0 (R336). -/
def PortDie.blockIdle (p : PortDie) (b : Nat) : Bool :=
  (List.range 64).all (fun i => let x := p.queue (64 * b + i); !x.conf.enable && x.outstanding == 0#17)

/-- The function tables after a commit (R336, R337, R345), and whether any part was refused. -/
def PortDie.commitTables (p : PortDie) : PortDie × Bool :=
  let vec := !p.vectorsFit
  let ide := !p.idesDistinct
  let p := { p with tenant := { p.tenant with errVectors := p.tenant.errVectors || vec, errIde := p.tenant.errIde || ide } }
  let p := if vec || ide then p
    else { p with fns := p.fns.map (fun x => (x.1, { x.2 with cfg := x.2.cfgShadow })) }
  (p.qblocks.map (·.1)).foldl (fun (r : PortDie × Bool) b =>
    let k := SMap.get QBlock.reset r.1.qblocks b
    if k.fn == k.fnShadow && k.assigned == k.assignedShadow then r
    else if r.1.blockIdle b then
      ({ r.1 with qblocks := SMap.set QBlock.reset r.1.qblocks b { k with fn := k.fnShadow, assigned := k.assignedShadow } },
       r.2)
    else ({ r.1 with tenant := { r.1.tenant with errQblock := true } }, true)) (p, vec || ide)

/-- The shadows of a channel block in the channels that take part: equal where both do (R98, R118, R246, R462). -/
def State.shadowsAgree {α : Type} [BEq α] (s : State) (f : Channel → α) : Bool :=
  match s.port.joined .a, s.port.joined .b with
  | true, true => f s.a == f s.b
  | false, false => false
  | _, _ => true

/-- A channel block is committed: applied in every joined channel where the shadows agree; differing shadows of two
joined channels set TWIN_MISMATCH in both; with none joined it applies nowhere (R462). Answers whether it was refused. -/
def State.commitBlock {α : Type} [BEq α] (s : State) (shadow : Channel → α) (apply mismatch : Channel → Channel)
    (keep : Channel → Kept → Kept) : State × Bool :=
  if s.shadowsAgree shadow then
    let on (s : State) (ch : Chan) : State := if s.port.joined ch then s.upd ch apply else s
    let s := on (on s .a) .b
    let c := if s.port.joined .a then s.a else s.b
    (s.updPort (fun p => { p with kept := keep c p.kept }), false)
  else if s.port.joined .a && s.port.joined .b then ((s.upd .a mismatch).upd .b mismatch, true)
  else (s, true)

/-! ### Application (R423, R424) -/

/-- The shadows of one mask bit are applied; answers whether the block was refused. -/
def State.applyBlock (s : State) (m : Nat) : State × Bool :=
  match m with
  | 0 => let r := s.port.commitQueues; ({ s with port := r.1 }, r.2)
  | 1 => let r := s.port.commitTables; ({ s with port := r.1 }, r.2)
  | 2 => s.commitBlock (fun c => c.sched.regs.twinSkimShadow)
      (fun c => c.mapSched (fun r => { r with twinSkim := r.twinSkimShadow, mask := r.maskShadow }))
      (fun c => c.mapSched (fun r => { r with twinMismatch := true }))
      (fun c k => { k with twinSkim := c.sched.regs.twinSkim, mask := c.sched.regs.mask })
  | 3 => s.commitBlock (fun c => c.skim.regs.rakesShadow)
      (fun c => c.mapSkim (fun r => { r with rakes := r.rakesShadow }))
      (fun c => c.mapSkim (fun r => { r with twinMismatch := true }))
      (fun c k => { k with rakes := c.skim.regs.rakes })
  | 4 => s.commitBlock (fun c => c.pks.splitShadow)
      (fun c => { c with pks := { c.pks with split := c.pks.splitShadow } })
      (fun c => { c with pks := { c.pks with twinMismatch := true } })
      (fun c k => { k with split := c.pks.split })
  | 5 => (s.updPort (fun p => { p with assay := { p.assay with floor := p.assay.floorShadow, irq := p.assay.irqShadow } }),
          false)
  | _ =>
    let t := s.port.tenant
    (s.updPort (fun p => { p with tenant := { t with twinCore := t.twinCoreShadow, twinHbm := t.twinHbmShadow } }), false)

/-- A commit applies: each named block in the order of the mask bits, the refused ones noted in REJECT; COMMIT_DONE takes
the target (R423, R424). -/
def State.applyCommit (s : State) (c : Commit) : State :=
  let r := (List.range 7).foldl (fun (r : State × Nat) m =>
    if c.mask.getLsbD m then
      let y := r.1.applyBlock m
      (y.1, if y.2 then r.2 + 2 ^ m else r.2)
    else r) (s, 0)
  let g := r.1.port.page
  let g := { g with commitDone := BitVec.ofNat 32 c.target, doneCount := g.doneCount + 1#8,
                    reject := g.reject ||| BitVec.ofNat 7 r.2 }
  let s := r.1.updPort (fun p => { p with page := g })
  if r.2 == 0 then s else s.errCause .commitErr

/-- Every commit whose target tide has come applies, in the order the commits were written (step 2 of R35). -/
def State.applyCommits (s : State) : State :=
  let due := s.port.commits.filter (fun c => decide (c.target ≤ s.port.tide))
  let s := s.updPort (fun p => { p with commits := p.commits.filter (fun c => decide (p.tide < c.target)) })
  due.foldl (fun s c => s.applyCommit c) s

/-- A COMMIT write (R423, R424). -/
def State.writeCommit (s : State) (v : Word) : State :=
  let mask := BitVec.ofNat 7 v.toNat
  if mask == 0#7 then s
  else if 4 ≤ s.port.commits.length then
    (s.updPort (fun p => { p with page := { p.page with overflow := true } })).errCause .commitErr
  else s.updPort (fun p => { p with commits := p.commits ++ [{ target := p.tide + 2, mask := mask }],
                                    page := { p.page with issued := p.page.issued + 1#8 } })

/-- The shadows of the block are locked: a pending commit names it (R423, step 4). -/
def PortDie.locked (p : PortDie) (m : Nat) : Bool := p.commits.any (fun c => c.mask.getLsbD m)

/-- A write to a shadow of block `m`: ignored with LATE_WRITE while the shadow is locked (R423). -/
def State.shadowWrite (s : State) (m : Nat) (f : State → State) : State :=
  if s.port.locked m then
    (s.updPort (fun p => { p with page := { p.page with lateWrite := true } })).errCause .commitErr
  else f s

/-! ### DMA units (R350, R352) -/

/-- Window `n`'s entry wraps past the end of the address space, or overlaps another enabled entry (R350). -/
def Fn.windowBad (x : Fn) (n : Nat) : Bool :=
  let w := SMap.get Window.reset x.windows n
  w.on && (decide (2 ^ 64 < w.hi) || x.windows.any (fun v =>
    v.1 != n && v.2.on && decide (w.lo < v.2.hi) && decide (v.2.lo < w.hi)))

/-- The windows an enable is refused for. -/
def Fn.badWindows (x : Fn) : List Nat := (List.range 16).filter x.windowBad

/-- Every queue of the function that holds completions is released where it can be. -/
def State.releaseFn (s : State) (f : Nat) : State :=
  ((s.port.held.filter (fun e => e.function.toNat == f)).map (fun e => e.queue.toNat)).eraseDups.foldl
    (fun s q => s.release q) s

/-- ENABLE is written 1 (R350, R352): a unit that passes the checks is enabled and its held accesses proceed. -/
def State.acuEnable (s : State) (f : Nat) : State :=
  let x := s.port.fn f
  match x.badWindows with
  | n :: _ =>
    if x.acuEnabled then s
    else s.updPort (fun p => p.setFn f { x with acuWanted := true, cfgFault := true, faultWin := BitVec.ofNat 4 n })
  | [] => (s.updPort (fun p => p.setFn f { x with acuWanted := true, acuEnabled := true, acuDraining := false })).releaseFn f

/-- ENABLE is written 0 (R352): checked accesses drain, and new ones are held. -/
def State.acuDisable (s : State) (f : Nat) : State :=
  let x := s.port.fn f
  (s.updPort (fun p => p.setFn f { x with acuWanted := false, acuEnabled := false,
                                          acuDraining := x.acuEnabled || x.acuDraining })).holdPassing f

/-- The drain ends (R352). -/
def State.acuDrained (s : State) (f : Nat) : State :=
  let x := s.port.fn f
  s.updPort (fun p => p.setFn f { x with acuDraining := false })

end Sys2Proof.Machine
end

