-- ==== Sys2Proof/Machine/Operands.lean ====
section
/-! DEFINITION. The operand forms of the host port: the Erwen header in its 32 bytes (R44), the payload forms of a ring
entry (R51) and of a doorbell (R50), and the checks of R54 that look at them. -/

namespace Sys2Proof.Machine

/-- The header that 32 bytes spell (R44). -/
def Header.parse (bs : Bytes) : Header :=
  let b (i : Nat) : Nat := u8 bs i
  { version := BitVec.ofNat 4 (b 0), halved := (b 0).testBit 4, assayed := (b 0).testBit 5, notBefore := (b 0).testBit 6,
    reserved0 := (b 0).testBit 7, function := byte (b 1), opcode := BitVec.ofNat 16 (leAt bs 2 2),
    queue := BitVec.ofNat 16 (leAt bs 4 2), cls := BitVec.ofNat 3 (b 6), priority := BitVec.ofNat 3 (b 6 / 8),
    reserved6 := BitVec.ofNat 2 (b 6 / 64), depCount := BitVec.ofNat 3 (b 7), reserved7 := BitVec.ofNat 5 (b 7 / 8),
    seq := BitVec.ofNat 32 (leAt bs 8 4), flowId := BitVec.ofNat 32 (leAt bs 12 4),
    payloadLen := BitVec.ofNat 16 (leAt bs 16 2), waitValue := BitVec.ofNat 15 (leAt bs 18 2),
    waitScale := (b 19).testBit 7, delay := BitVec.ofNat 20 (leAt bs 20 4),
    reserved20 := BitVec.ofNat 12 (leAt bs 20 4 / 2 ^ 20),
    tokens := [BitVec.ofNat 16 (leAt bs 24 2), BitVec.ofNat 16 (leAt bs 26 2), BitVec.ofNat 16 (leAt bs 28 2),
               BitVec.ofNat 16 (leAt bs 30 2)] }

/-- The 32 bytes of a header (R44). -/
def Header.bytes (h : Header) : Bytes :=
  [byte (h.version.toNat + 16 * h.halved.toNat + 32 * h.assayed.toNat + 64 * h.notBefore.toNat + 128 * h.reserved0.toNat),
   h.function] ++ leBytes 2 h.opcode.toNat ++ leBytes 2 h.queue.toNat
  ++ [byte (h.cls.toNat + 8 * h.priority.toNat + 64 * h.reserved6.toNat), byte (h.depCount.toNat + 8 * h.reserved7.toNat)]
  ++ leBytes 4 h.seq.toNat ++ leBytes 4 h.flowId.toNat ++ leBytes 2 h.payloadLen.toNat
  ++ leBytes 2 (h.waitValue.toNat + 2 ^ 15 * h.waitScale.toNat)
  ++ leBytes 4 (h.delay.toNat + 2 ^ 20 * h.reserved20.toNat) ++ (h.tokens.map (fun t => leBytes 2 t.toNat)).flatten

/-- Reserved header fields, unused tokens, and DELAY without NOT_BEFORE are 0 (check 9 of R54). -/
def Header.reservedZero (h : Header) : Bool :=
  !h.reserved0 && h.reserved6 == 0#2 && h.reserved7 == 0#5 && h.reserved20 == 0#12
  && (h.tokens.drop h.depCount.toNat).all (· == 0#16) && (h.notBefore || h.delay == 0#20)

/-- The wait limit in tides; 0 for none (R46). -/
def Header.waitTides (h : Header) : Nat := h.waitValue.toNat * (if h.waitScale then 64 else 1)

/-- k of a delayed command: 1 to 2^20 tides (R44). -/
def Header.delayTides (h : Header) : Nat := h.delay.toNat + 1

/-- The packet's effective priority under its queue's PRIO_LIMIT (R75). -/
def Packet.level (p : Packet) (limit : BitVec 3) : BitVec 3 :=
  if p.hdr.priority.toNat < limit.toNat then limit else p.hdr.priority

/-- The smallest doorbell that holds a payload (R50). -/
def doorbellSize (len : Nat) : Nat := if 32 + len ≤ 64 then 64 else if 32 + len ≤ 128 then 128 else 256

/-- The doorbell's size agrees with PAYLOAD_LEN (check 11 of R54). -/
def doorbellSizeOk (h : Header) (size : Nat) : Bool :=
  decide (h.payloadLen.toNat ≤ 224) && size == doorbellSize h.payloadLen.toNat

/-- A ring entry carries a payload address (R51). -/
def entryHasAddress (h : Header) : Bool := decide (32 < h.payloadLen.toNat)

/-- Bytes 32 to 63 of a ring entry that must be 0 are 0 (R51, check 9 of R54). -/
def entryPadZero (h : Header) (entry : Bytes) : Bool :=
  if 16384 < h.payloadLen.toNat then true
  else if entryHasAddress h then zeroAt entry 40 24 else zeroAt entry (32 + h.payloadLen.toNat) (32 - h.payloadLen.toNat)

/-- The payload address of a ring entry (R51). -/
def entryAddress (entry : Bytes) : Nat := leAt entry 32 8

/-- Checks 7 to 11 of R54 on a header whose SEQ was accepted: the MALFORMED detail of the first that fails. `pad` and
`size` are the entry's and the doorbell's own parts of checks 9 and 11. -/
def headerChecks (h : Header) (c : QConf) (pad size : Bool) : Option (BitVec 4) :=
  if h.version != 1#4 then some malVersion
  else if h.halved != c.halved || h.assayed != c.assayed then some malFlags
  else if !h.reservedZero || !pad then some malReserved
  else if 4 < h.depCount.toNat then some malDep
  else if !size then some malSize
  else none

end Sys2Proof.Machine
end

