-- ==== Sys2Proof/Machine/Lattice.lean ====
section
/-! DEFINITION. ML-KEM (FIPS 203) and ML-DSA (FIPS 204), which R225 names: polynomials of 256 coefficients as lists, the
number theoretic transforms, sampling from SHAKE, and the three operations of each. Loops that the standards leave without
a bound run over a fixed amount of SHAKE output, which they exhaust with a chance below 2^-250 (log 219). -/

namespace Sys2Proof

/-- A polynomial: 256 coefficients, each reduced modulo the ring's modulus. -/
abbrev Poly := List Nat

/-! ### SHAKE as a stream of blocks -/

/-- The state after absorbing a message under SHAKE's padding. -/
def shakeState (rate : Nat) (msg : Bytes) : Keccak :=
  let z := rate - 1 - msg.length % rate
  let pad := if z = 0 then [0x9F#8] else 0x1F#8 :: zeros (z - 1) ++ [0x80#8]
  (chunks rate (msg ++ pad)).foldl kAbsorb ((List.replicate 25 0#64).toArray)

/-- The bytes of one block. -/
def shakeBlock (rate : Nat) (s : Keccak) : Bytes := (s.toList.flatMap (fun x => leBytes 8 x.toNat)).take rate

/-- Numbers that `parse` reads from successive blocks, until `need` of them are there or `fuel` blocks are spent. -/
def shakeFill (rate need : Nat) (parse : Bytes → List Nat) : Nat → Keccak → List Nat → List Nat
  | 0, _, acc => acc.take need
  | fuel + 1, s, acc =>
    if need ≤ acc.length then acc.take need
    else shakeFill rate need parse fuel (keccakF s) (acc ++ parse (shakeBlock rate s))

/-- SHAKE256 and SHAKE128 of a length in bytes. -/
def shake (rate : Nat) (msg : Bytes) (len : Nat) : Bytes :=
  (shakeFill rate len (fun b => b.map (·.toNat)) (ceilDiv len rate) (shakeState rate msg) []).map byte
def shake256 (msg : Bytes) (len : Nat) : Bytes := shake 136 msg len

/-! ### Bits -/

/-- The bits of a byte string, least significant first. -/
def lowBits (bs : Bytes) : List Nat := bs.flatMap (fun b => (List.range 8).map (fun i => b.toNat / 2 ^ i % 2))

/-- The number that bits spell, least significant first. -/
def bitsNat : List Nat → Nat
  | [] => 0
  | b :: l => b + 2 * bitsNat l

/-- Pieces of `n` entries. -/
def pieces {α : Type} (n : Nat) : Nat → List α → List (List α)
  | 0, _ => []
  | f + 1, l => if l.isEmpty then [] else l.take n :: pieces n f (l.drop n)

/-- Coefficients packed in `d` bits each (ByteEncode, SimpleBitPack). -/
def packCoeffs (d : Nat) (p : Poly) : Bytes :=
  let bits := p.flatMap (fun x => (List.range d).map (fun i => x / 2 ^ i % 2))
  (pieces 8 bits.length bits).map (fun b => byte (bitsNat b))

/-- Coefficients of `d` bits each (ByteDecode, SimpleBitUnpack). -/
def unpackCoeffs (d : Nat) (bs : Bytes) : Poly :=
  let bits := lowBits bs
  (pieces d bits.length bits).map bitsNat

/-- Polynomials of `len` bytes each. -/
def unpackPolys (len d : Nat) (bs : Bytes) : List Poly := (chunks len bs).map (unpackCoeffs d)

/-! ### Rings -/

/-- `n` with its lowest `k` bits reversed. -/
def bitRev : Nat → Nat → Nat
  | 0, _ => 0
  | k + 1, n => n % 2 * 2 ^ k + bitRev k (n / 2)

/-- A transform's ring: modulus, root of unity, the order of the root and the layers. -/
structure Ring where
  q : Nat
  root : Nat
  order : Nat
  layers : Nat
  /-- The powers of the root. -/
  powers : Array Nat

/-- The powers of a root. -/
def rootPowers (q root : Nat) : Nat → Nat → List Nat
  | 0, _ => []
  | n + 1, x => x :: rootPowers q root n (x * root % q)

/-- The rings of ML-KEM and ML-DSA. -/
def kemRing : Ring := { q := 3329, root := 17, order := 256, layers := 7, powers := (rootPowers 3329 17 256 1).toArray }
def dsaRing : Ring :=
  { q := 8380417, root := 1753, order := 512, layers := 8, powers := (rootPowers 8380417 1753 512 1).toArray }

/-- A power of the root. -/
def Ring.zeta (r : Ring) (e : Nat) : Nat := r.powers.getD (e % r.order) 1

def Ring.addP (r : Ring) (a b : Poly) : Poly := List.zipWith (fun x y => (x + y) % r.q) a b
def Ring.subP (r : Ring) (a b : Poly) : Poly := List.zipWith (fun x y => (x + r.q - y) % r.q) a b

/-- The transform of the block `i`, numbered as the nodes of a heap, with `l` layers to go. -/
def Ring.ntt (r : Ring) : Nat → Nat → Poly → Poly
  | 0, _, f => f
  | l + 1, i, f =>
    let h := f.length / 2
    let z := r.zeta (bitRev r.layers i)
    let lo := f.take h
    let hi := (f.drop h).map (· * z % r.q)
    r.ntt l (2 * i) (r.addP lo hi) ++ r.ntt l (2 * i + 1) (r.subP lo hi)

/-- Its inverse, but for the factor 2^layers. -/
def Ring.unntt (r : Ring) : Nat → Nat → Poly → Poly
  | 0, _, f => f
  | l + 1, i, f =>
    let h := f.length / 2
    let lo := r.unntt l (2 * i) (f.take h)
    let hi := r.unntt l (2 * i + 1) (f.drop h)
    let z := r.zeta (r.order - bitRev r.layers i)
    r.addP lo hi ++ (r.subP lo hi).map (· * z % r.q)

/-- The transform and its inverse. -/
def Ring.fwd (r : Ring) (f : Poly) : Poly := r.ntt r.layers 1 f
def Ring.back (r : Ring) (f : Poly) : Poly :=
  let half := (r.q + 1) / 2
  let c := (List.range r.layers).foldl (fun a _ => a * half % r.q) 1
  (r.unntt r.layers 1 f).map (· * c % r.q)

/-- Entry by entry product of transformed polynomials. -/
def Ring.mulP (r : Ring) (a b : Poly) : Poly := List.zipWith (fun x y => x * y % r.q) a b

/-- The product of degree-one pieces modulo X² − γ, pieces numbered from `i` (FIPS 203, MultiplyNTTs). -/
def kemMulAux : Nat → Poly → Poly → Poly
  | i, a :: b :: f, c :: d :: g =>
    let z := kemRing.zeta (2 * bitRev 7 i + 1)
    (a * c + b * d % 3329 * z) % 3329 :: (a * d + b * c) % 3329 :: kemMulAux (i + 1) f g
  | _, _, _ => []
def kemMul (a b : Poly) : Poly := kemMulAux 0 a b

/-- The zero polynomial. -/
def zeroPoly : Poly := List.replicate 256 0

/-- A row of a matrix times a vector, under a product of polynomials. -/
def Ring.dot (r : Ring) (mul : Poly → Poly → Poly) (row v : List Poly) : Poly :=
  (List.zipWith mul row v).foldl r.addP zeroPoly

/-- Numbers of three bytes read from a block. -/
def triples (f : Nat → Nat → Nat → List Nat) : Bytes → List Nat
  | a :: b :: c :: l => f a.toNat b.toNat c.toNat ++ triples f l
  | _ => []

/-! ### ML-KEM (FIPS 203) -/

/-- An ML-KEM parameter set. -/
structure KemSet where
  k : Nat
  eta1 : Nat
  du : Nat
  dv : Nat

/-- The sets by algorithm code (R225); η2 is 2. -/
def kemSet (algo : Nat) : KemSet :=
  match algo with
  | 0x31 => ⟨2, 3, 10, 4⟩
  | 0x32 => ⟨3, 2, 10, 4⟩
  | _ => ⟨4, 2, 11, 5⟩

/-- SampleNTT: a uniform transformed polynomial. -/
def kemUniform (seed : Bytes) : Poly :=
  let parse := triples (fun a b c => [a + 256 * (b % 16), b / 16 + 16 * c].filter (· < 3329))
  shakeFill 168 256 parse 16 (shakeState 168 seed) []

/-- SamplePolyCBD. -/
def kemCbd (eta : Nat) (seed : Bytes) (n : Nat) : Poly :=
  let bits := lowBits (shake256 (seed ++ [byte n]) (64 * eta))
  (pieces (2 * eta) 256 bits).map (fun b => ((b.take eta).sum + 3329 - (b.drop eta).sum) % 3329)

/-- Row `i` of the matrix Â, or of its transpose. -/
def kemRow (k : Nat) (rho : Bytes) (transpose : Bool) (i : Nat) : List Poly :=
  (List.range k).map (fun j => kemUniform (rho ++ if transpose then [byte i, byte j] else [byte j, byte i]))

/-- Compress and Decompress. -/
def kemCompress (d x : Nat) : Nat := (2 * x * 2 ^ d + 3329) / (2 * 3329) % 2 ^ d
def kemDecompress (d y : Nat) : Nat := (2 * y * 3329 + 2 ^ d) / 2 ^ (d + 1)

/-- Key generation from d ‖ z: the transformed secret, and the encapsulation key. -/
def kemKeys (algo : Nat) (seed : Bytes) : List Poly × Bytes :=
  let p := kemSet algo
  let g := sha3_512 (slice seed 0 32 ++ [byte p.k])
  let rho := g.take 32
  let sigma := g.drop 32
  let s := (List.range p.k).map (fun i => kemRing.fwd (kemCbd p.eta1 sigma i))
  let e := (List.range p.k).map (fun i => kemRing.fwd (kemCbd p.eta1 sigma (p.k + i)))
  let t := (List.range p.k).map (fun i => kemRing.addP (kemRing.dot kemMul (kemRow p.k rho false i) s) (e.getD i []))
  (s, t.flatMap (packCoeffs 12) ++ rho)

/-- The encapsulation key of a seed. -/
def mlkemPublic (algo : Nat) (seed : Bytes) : Bytes := (kemKeys algo seed).2

/-- K-PKE encryption. -/
def kemEncrypt (algo : Nat) (ek m r : Bytes) : Bytes :=
  let p := kemSet algo
  let t := unpackPolys 384 12 (ek.take (384 * p.k))
  let rho := slice ek (384 * p.k) 32
  let y := (List.range p.k).map (fun i => kemRing.fwd (kemCbd p.eta1 r i))
  let u := (List.range p.k).map (fun i =>
    kemRing.addP (kemRing.back (kemRing.dot kemMul (kemRow p.k rho true i) y)) (kemCbd 2 r (p.k + i)))
  let mu := (unpackCoeffs 1 m).map (kemDecompress 1)
  let v := kemRing.addP (kemRing.addP (kemRing.back (kemRing.dot kemMul t y)) (kemCbd 2 r (2 * p.k))) mu
  u.flatMap (fun f => packCoeffs p.du (f.map (kemCompress p.du))) ++ packCoeffs p.dv (v.map (kemCompress p.dv))

/-- Encapsulation of `m` to a key: ciphertext and shared secret. -/
def mlkemEncap (algo : Nat) (ek m : Bytes) : Bytes × Bytes :=
  let g := sha3_512 (m ++ sha3_256 ek)
  (kemEncrypt algo ek m (g.drop 32), g.take 32)

/-- Decapsulation under the seed d ‖ z, rejecting implicitly. -/
def mlkemDecap (algo : Nat) (seed ct : Bytes) : Bytes :=
  let p := kemSet algo
  let (s, ek) := kemKeys algo seed
  let u := (unpackPolys (32 * p.du) p.du (ct.take (32 * p.du * p.k))).map (fun f => f.map (kemDecompress p.du))
  let v := (unpackCoeffs p.dv (ct.drop (32 * p.du * p.k))).map (kemDecompress p.dv)
  let w := kemRing.subP v (kemRing.back (kemRing.dot kemMul s (u.map kemRing.fwd)))
  let m := packCoeffs 1 (w.map (kemCompress 1))
  let g := sha3_512 (m ++ sha3_256 ek)
  if kemEncrypt algo ek m (g.drop 32) == ct then g.take 32 else shake256 (slice seed 32 32 ++ ct) 32

/-! ### ML-DSA (FIPS 204) -/

/-- An ML-DSA parameter set. -/
structure DsaSet where
  k : Nat
  l : Nat
  tau : Nat
  gamma1 : Nat
  gamma2 : Nat
  eta : Nat
  omega : Nat
  lambda : Nat

/-- The sets by algorithm code (R225). -/
def dsaSet (algo : Nat) : DsaSet :=
  match algo with
  | 0x41 => ⟨4, 4, 39, 2 ^ 17, 95232, 2, 80, 128⟩
  | 0x42 => ⟨6, 5, 49, 2 ^ 19, 261888, 4, 55, 192⟩
  | _ => ⟨8, 7, 60, 2 ^ 19, 261888, 2, 75, 256⟩

/-- β. -/
def DsaSet.beta (p : DsaSet) : Nat := p.tau * p.eta

/-- The modulus of ML-DSA. -/
def dsaQ : Nat := 8380417

/-- The distance of a residue from 0. -/
def dsaAbs (x : Nat) : Nat := min x (dsaQ - x)

/-- Every coefficient lies nearer to 0 than the bound. -/
def dsaShort (bound : Nat) (v : List Poly) : Bool := v.all (fun f => f.all (fun x => decide (dsaAbs x < bound)))

/-- RejNTTPoly: a uniform transformed polynomial. -/
def dsaUniform (seed : Bytes) : Poly :=
  let parse := triples (fun a b c => [a + 256 * b + 65536 * (c % 128)].filter (· < dsaQ))
  shakeFill 168 256 parse 16 (shakeState 168 seed) []

/-- RejBoundedPoly. -/
def dsaBounded (eta : Nat) (seed : Bytes) : Poly :=
  let half (z : Nat) : List Nat :=
    if eta = 2 then (if z < 15 then [(dsaQ + 2 - z % 5) % dsaQ] else [])
    else if z < 9 then [(dsaQ + 4 - z) % dsaQ] else []
  shakeFill 136 256 (fun b => b.flatMap (fun x => half (x.toNat % 16) ++ half (x.toNat / 16))) 16 (shakeState 136 seed) []

/-- The places and signs of SampleInBall, from position `i` on. -/
def ballAux (signs : List Nat) : List Nat → Nat → Nat → Array Nat → Array Nat
  | [], _, _, c => c
  | j :: js, i, n, c =>
    if 256 ≤ i then c
    else if i < j then ballAux signs js i n c
    else ballAux signs js (i + 1) (n + 1) ((c.set! i (c.getD j 0)).set! j (if signs.getD n 0 = 1 then dsaQ - 1 else 1))

/-- SampleInBall. -/
def dsaBall (tau : Nat) (seed : Bytes) : Poly :=
  let s := shake256 seed (136 * 8)
  (ballAux (lowBits (s.take 8)) ((s.drop 8).map (·.toNat)) (256 - tau) 0 zeroPoly.toArray).toList

/-- Â, row by row. -/
def dsaMatrix (p : DsaSet) (rho : Bytes) : List (List Poly) :=
  (List.range p.k).map (fun r => (List.range p.l).map (fun s => dsaUniform (rho ++ [byte s, byte r])))

/-- The matrix times a transformed vector. -/
def dsaApply (m : List (List Poly)) (v : List Poly) : List Poly := m.map (fun row => dsaRing.dot dsaRing.mulP row v)

/-- Power2Round: the high part, and the low part as a residue. -/
def dsaHigh13 (r : Nat) : Nat := (r + 4095) / 8192
def dsaLow13 (r : Nat) : Nat := (r + dsaQ - 8192 * dsaHigh13 r) % dsaQ

/-- Decompose: the high part, and the low part as a residue. -/
def dsaDecompose (g2 r : Nat) : Nat × Nat :=
  let h := (r + g2 - 1) / (2 * g2)
  if h * (2 * g2) == dsaQ - 1 then (0, (r + dsaQ - (dsaQ - 1) + dsaQ - 1) % dsaQ)
  else (h, (r + dsaQ - 2 * g2 * h) % dsaQ)

/-- The keys of a seed ξ: ρ, K, s1, s2, t0 and the public key. -/
structure DsaKey where
  rho : Bytes
  key : Bytes
  s1 : List Poly
  s2 : List Poly
  t0 : List Poly
  pub : Bytes

/-- Key generation from ξ. -/
def dsaKeys (algo : Nat) (xi : Bytes) : DsaKey :=
  let p := dsaSet algo
  let h := shake256 (slice xi 0 32 ++ [byte p.k, byte p.l]) 128
  let rho := h.take 32
  let rho' := slice h 32 64
  let s1 := (List.range p.l).map (fun r => dsaBounded p.eta (rho' ++ leBytes 2 r))
  let s2 := (List.range p.k).map (fun r => dsaBounded p.eta (rho' ++ leBytes 2 (p.l + r)))
  let t := List.zipWith dsaRing.addP ((dsaApply (dsaMatrix p rho) (s1.map dsaRing.fwd)).map dsaRing.back) s2
  { rho := rho, key := h.drop 96, s1 := s1, s2 := s2, t0 := t.map (·.map dsaLow13),
    pub := rho ++ t.flatMap (fun f => packCoeffs 10 (f.map dsaHigh13)) }

/-- The public key of a seed. -/
def mldsaPublic (algo : Nat) (xi : Bytes) : Bytes := (dsaKeys algo xi).pub

/-- Bits of a coefficient of z and of y. -/
def DsaSet.zBits (p : DsaSet) : Nat := if p.gamma1 == 2 ^ 17 then 18 else 20

/-- w1Encode. -/
def dsaW1 (p : DsaSet) (w : List Poly) : Bytes := w.flatMap (packCoeffs (if p.gamma2 == 95232 then 6 else 4))

/-- BitPack and BitUnpack of coefficients in (−γ1, γ1]. -/
def dsaPackZ (p : DsaSet) (f : Poly) : Bytes := packCoeffs p.zBits (f.map (fun x => (p.gamma1 + dsaQ - x) % dsaQ))
def dsaUnpackZ (p : DsaSet) (b : Bytes) : Poly := (unpackCoeffs p.zBits b).map (fun x => (p.gamma1 + dsaQ - x) % dsaQ)

/-- ExpandMask. -/
def dsaMask (p : DsaSet) (rho : Bytes) (kappa : Nat) : List Poly :=
  (List.range p.l).map (fun r => dsaUnpackZ p (shake256 (rho ++ leBytes 2 (kappa + r)) (32 * p.zBits)))

/-- HintBitPack: the indices of the ones of each polynomial, then the running ends. -/
def dsaPackHint (p : DsaSet) (h : List (List Nat)) : Bytes :=
  fitR p.omega (h.flatten.map byte) ++ (List.range p.k).map (fun i => byte ((h.take (i + 1)).map List.length).sum)

/-- The indices of the ones of each polynomial that a hint's bytes spell. -/
def dsaUnpackHint (p : DsaSet) (b : Bytes) : List (List Nat) :=
  let y := b.map (·.toNat)
  let ends := 0 :: y.drop p.omega
  (List.range p.k).map (fun i => (y.take (ends.getD (i + 1) 0)).drop (ends.getD i 0))

/-- A signing key ready for the rejection loop: the transforms of Â, s1, s2, t0, and μ and ρ''. -/
structure DsaJob where
  mat : List (List Poly)
  s1 : List Poly
  s2 : List Poly
  t0 : List Poly
  mu : Bytes
  rho : Bytes

/-- One attempt of the rejection loop: a signature, or none. -/
def dsaAttempt (p : DsaSet) (j : DsaJob) (kappa : Nat) : Option Bytes :=
  let y := dsaMask p j.rho kappa
  let w := (dsaApply j.mat (y.map dsaRing.fwd)).map dsaRing.back
  let w1 := w.map (·.map (fun x => (dsaDecompose p.gamma2 x).1))
  let tag := shake256 (j.mu ++ dsaW1 p w1) (p.lambda / 4)
  let c := dsaRing.fwd (dsaBall p.tau tag)
  let times (v : List Poly) : List Poly := v.map (fun f => dsaRing.back (dsaRing.mulP c f))
  let z := List.zipWith dsaRing.addP y (times j.s1)
  let r := List.zipWith dsaRing.subP w (times j.s2)
  let r0 := r.map (·.map (fun x => (dsaDecompose p.gamma2 x).2))
  if !dsaShort (p.gamma1 - p.beta) z || !dsaShort (p.gamma2 - p.beta) r0 then none
  else
    let ct0 := times j.t0
    let high (f : Poly) : Poly := f.map (fun x => (dsaDecompose p.gamma2 x).1)
    let moved := List.zipWith dsaRing.addP r ct0
    let h := List.zipWith (fun a b => (List.range 256).filter (fun i => (high a).getD i 0 != (high b).getD i 0)) moved r
    if !dsaShort p.gamma2 ct0 || decide (p.omega < (h.map List.length).sum) then none
    else some (tag ++ z.flatMap (dsaPackZ p) ++ dsaPackHint p h)

/-- Attempts until one succeeds or none is left: the signature, empty where every one was rejected, and the attempts. -/
def dsaLoop (p : DsaSet) (j : DsaJob) : Nat → Nat → Bytes × Nat
  | 0, n => ([], n)
  | fuel + 1, n => match dsaAttempt p j (p.l * n) with
    | some s => (s, n + 1)
    | none => dsaLoop p j fuel (n + 1)

/-- The most attempts of a signing (R239). -/
def mldsaCap (algo : Nat) : Nat := if algo == 0x43 then 185 else 256

/-- μ of a message under a public key, with an empty context string (R225). -/
def dsaMu (pub msg : Bytes) : Bytes := shake256 (shake256 pub 64 ++ [0#8, 0#8] ++ msg) 64

/-- A hedged signature of a message under the seed ξ with `rnd`, and the attempts it took; empty where the cap of R239 is
reached. -/
def mldsaSign (algo : Nat) (xi msg rnd : Bytes) : Bytes × Nat :=
  let p := dsaSet algo
  let k := dsaKeys algo xi
  let mu := dsaMu k.pub msg
  let j : DsaJob := { mat := dsaMatrix p k.rho, s1 := k.s1.map dsaRing.fwd, s2 := k.s2.map dsaRing.fwd,
                      t0 := k.t0.map dsaRing.fwd, mu := mu, rho := shake256 (k.key ++ rnd ++ mu) 64 }
  dsaLoop p j (mldsaCap algo) 0

/-- The high part that a hint corrects. -/
def dsaUseHint (p : DsaSet) (ones : List Nat) (f : Poly) : Poly :=
  let m := (dsaQ - 1) / (2 * p.gamma2)
  f.mapIdx (fun i x =>
    let (h, l) := dsaDecompose p.gamma2 x
    if !ones.contains i then h
    else if 0 < l && l ≤ dsaQ / 2 then (h + 1) % m
    else (h + m - 1) % m)

/-- Verification of a signature whose hint is well formed. -/
def mldsaVerify (algo : Nat) (pub msg sig : Bytes) : Bool :=
  let p := dsaSet algo
  let tag := sig.take (p.lambda / 4)
  let z := (chunks (32 * p.zBits) (slice sig (p.lambda / 4) (32 * p.zBits * p.l))).map (dsaUnpackZ p)
  let h := dsaUnpackHint p (sig.drop (p.lambda / 4 + 32 * p.zBits * p.l))
  let t1 := (unpackPolys 320 10 (slice pub 32 (320 * p.k))).map (fun f => dsaRing.fwd (f.map (· * 8192 % dsaQ)))
  let c := dsaRing.fwd (dsaBall p.tau tag)
  let az := dsaApply (dsaMatrix p (pub.take 32)) (z.map dsaRing.fwd)
  let w := List.zipWith (fun a t => dsaRing.back (dsaRing.subP a (dsaRing.mulP c t))) az t1
  let w1 := List.zipWith (dsaUseHint p) h w
  dsaShort (p.gamma1 - p.beta) z && shake256 (dsaMu pub msg ++ dsaW1 p w1) (p.lambda / 4) == tag

end Sys2Proof
end

