-- ==== Sys2Proof/Machine/PkMath.lean ====
section
/-! DEFINITION. The public-key operations of R225 to R229 in exact arithmetic: RSA with exponent 65537 (PSS and OAEP), the
P-curves (ECDSA, ECDH), Ed25519 and X25519, each as its standard defines it, beside ML-KEM and ML-DSA
(Lattice); and the input checks of R237. Numbers are exact, and every recursion is on a
bit count. -/

namespace Sys2Proof

/-! ### Modular arithmetic -/

/-- `b ^ e mod m`, over the lowest `k` bits of `e`, the highest first. -/
def powMod (b e m : Nat) : Nat → Nat
  | 0 => 1 % m
  | k + 1 =>
    let r := powMod b (e / 2) m k
    let sq := r * r % m
    if e % 2 = 1 then sq * b % m else sq

/-- The inverse modulo a prime (Fermat). -/
def invMod (a p : Nat) : Nat := powMod (a % p) (p - 2) p p.log2.succ

/-- Subtraction modulo `p`. -/
def subMod (a b p : Nat) : Nat := (a + p - b % p) % p

/-! ### RSA (R225): modulus n, exponent 65537 -/

/-- The only public exponent. -/
def rsaE : Nat := 65537

/-- The public operation. -/
def rsaPub (n x : Nat) : Nat := powMod x rsaE n 17

/-- The stored private part: p, q, dp, dq, qinv, each half the modulus length (R251). -/
structure RsaKey where
  p : Nat
  q : Nat
  dp : Nat
  dq : Nat
  qinv : Nat
  n : Nat
  deriving DecidableEq, Repr

/-- The key in a stored encoding of modulus length `size` (R251). -/
def RsaKey.ofBytes (size : Nat) (bs : Bytes) : RsaKey :=
  let f (i : Nat) : Nat := beNat (slice bs (i * (size / 2)) (size / 2))
  { p := f 0, q := f 1, dp := f 2, dq := f 3, qinv := f 4, n := beNat (slice bs (5 * (size / 2)) size) }

/-- The private operation, by the two halves (R238). -/
def RsaKey.priv (k : RsaKey) (x : Nat) : Nat :=
  let a := powMod (x % k.p) k.dp k.p k.p.log2.succ
  let b := powMod (x % k.q) k.dq k.q k.q.log2.succ
  b + k.q * (k.qinv * subMod a b k.p % k.p)

/-- The hash a digest length selects (R225). -/
def hashFor (n : Nat) : Bytes → Bytes := if n = 32 then sha256 else if n = 48 then sha384 else sha512

/-- MGF1. -/
def mgf1 (h : Bytes → Bytes) (hLen : Nat) (seed : Bytes) (len : Nat) : Bytes :=
  ((List.range (ceilDiv len hLen)).flatMap fun i => h (seed ++ beBytes 4 i)).take len

/-- The first byte with its top bit cleared, as PSS does for a modulus of a whole number of bytes. -/
def clearTop : Bytes → Bytes
  | [] => []
  | b :: bs => (b &&& 0x7F#8) :: bs

/-- RSASSA-PSS encoding of a digest with a salt of its length, for a modulus of `size` bytes (R225). -/
def pssEncode (size : Nat) (digest salt : Bytes) : Bytes :=
  let hl := digest.length
  let h := hashFor hl (zeros 8 ++ digest ++ salt)
  let db := zeros (size - 2 * hl - 2) ++ [1#8] ++ salt
  clearTop (xorB db (mgf1 (hashFor hl) hl h (size - hl - 1))) ++ h ++ [0xBC#8]

/-- RSASSA-PSS verification of an encoded message. -/
def pssVerify (size : Nat) (digest em : Bytes) : Bool :=
  let hl := digest.length
  let masked := em.take (size - hl - 1)
  let h := slice em (size - hl - 1) hl
  let db := clearTop (xorB masked (mgf1 (hashFor hl) hl h (size - hl - 1)))
  let k := size - 2 * hl - 2
  decide (em.getLast? = some 0xBC#8) && decide ((em.headD 0#8).toNat < 128) && zeroAt db 0 k
  && db.getD k 0#8 == 1#8 && hashFor hl (zeros 8 ++ digest ++ db.drop (k + 1)) == h

/-- RSA-PSS signature. -/
def rsaSign (size : Nat) (key digest salt : Bytes) : Bytes :=
  beBytes size ((RsaKey.ofBytes size key).priv (beNat (pssEncode size digest salt)))

/-- RSA-PSS verification. -/
def rsaVerify (size : Nat) (pub digest sig : Bytes) : Bool :=
  pssVerify size digest (beBytes size (rsaPub (beNat pub) (beNat sig)))

/-- OAEP with SHA-256 and an empty label (R165). -/
def oaepEncode (size : Nat) (msg seed : Bytes) : Bytes :=
  let db := sha256 [] ++ zeros (size - msg.length - 66) ++ [1#8] ++ msg
  let mdb := xorB db (mgf1 sha256 32 seed (size - 33))
  [0#8] ++ xorB seed (mgf1 sha256 32 mdb 32) ++ mdb

/-- OAEP decoding. -/
def oaepDecode (size : Nat) (em : Bytes) : Option Bytes :=
  let ms := slice em 1 32
  let mdb := em.drop 33
  let seed := xorB ms (mgf1 sha256 32 mdb 32)
  let db := xorB mdb (mgf1 sha256 32 seed (size - 33))
  let rest := (db.drop 32).dropWhile (· == 0#8)
  if em.headD 1#8 == 0#8 && db.take 32 == sha256 [] && rest.headD 0#8 == 1#8 then some (rest.drop 1) else none

/-! ### Short Weierstrass curves with a = -3 (R225: P-256, P-384, P-521) -/

/-- A curve: field prime, b, base point, order, coordinate length. -/
structure Curve where
  p : Nat
  b : Nat
  gx : Nat
  gy : Nat
  n : Nat
  size : Nat
  deriving DecidableEq, Repr

/-- The constants of FIPS 186-5 and SP 800-186 (PRESUMED, assumption 20: R225 names the standard). -/
def curveP256 : Curve :=
  { p := 0xFFFFFFFF00000001000000000000000000000000FFFFFFFFFFFFFFFFFFFFFFFF,
    b := 0x5AC635D8AA3A93E7B3EBBD55769886BC651D06B0CC53B0F63BCE3C3E27D2604B,
    gx := 0x6B17D1F2E12C4247F8BCE6E563A440F277037D812DEB33A0F4A13945D898C296,
    gy := 0x4FE342E2FE1A7F9B8EE7EB4A7C0F9E162BCE33576B315ECECBB6406837BF51F5,
    n := 0xFFFFFFFF00000000FFFFFFFFFFFFFFFFBCE6FAADA7179E84F3B9CAC2FC632551, size := 32 }
def curveP384 : Curve :=
  { p := 0xFFFFFFFFFFFFFFFFFFFFFFFFFFFFFFFFFFFFFFFFFFFFFFFFFFFFFFFFFFFFFFFEFFFFFFFF0000000000000000FFFFFFFF,
    b := 0xB3312FA7E23EE7E4988E056BE3F82D19181D9C6EFE8141120314088F5013875AC656398D8A2ED19D2A85C8EDD3EC2AEF,
    gx := 0xAA87CA22BE8B05378EB1C71EF320AD746E1D3B628BA79B9859F741E082542A385502F25DBF55296C3A545E3872760AB7,
    gy := 0x3617DE4A96262C6F5D9E98BF9292DC29F8F41DBD289A147CE9DA3113B5F0B8C00A60B1CE1D7E819D7A431D7C90EA0E5F,
    n := 0xFFFFFFFFFFFFFFFFFFFFFFFFFFFFFFFFFFFFFFFFFFFFFFFFC7634D81F4372DDF581A0DB248B0A77AECEC196ACCC52973,
    size := 48 }
def curveP521 : Curve :=
  { p := 2 ^ 521 - 1,
    b := 0x0051953EB9618E1C9A1F929A21A0B68540EEA2DA725B99B315F3B8B489918EF109E156193951EC7E937B1652C0BD3BB1BF073573DF883D2C34F1EF451FD46B503F00,
    gx := 0x00C6858E06B70404E9CD9E3ECB662395B4429C648139053FB521F828AF606B4D3DBAA14B5E77EFE75928FE1DC127A2FFA8DE3348B3C1856A429BF97E7E31C2E5BD66,
    gy := 0x011839296A789A3BC0045C8A5FB42C7D1BD998F54449579B446817AFBD17273E662C97EE72995EF42640C550B9013FAD0761353C7086A272C24088BE94769FD16650,
    n := 0x01FFFFFFFFFFFFFFFFFFFFFFFFFFFFFFFFFFFFFFFFFFFFFFFFFFFFFFFFFFFFFFFFFA51868783BF2F966B7FCC0148F709A5D03BB5C9B8899C47AEBB6FB71E91386409,
    size := 66 }

/-- The curve of an algorithm code. -/
def curveOf (algo : Nat) : Curve := if algo = 0x11 then curveP256 else if algo = 0x12 then curveP384 else curveP521

/-- A point in Jacobian coordinates; Z = 0 is the identity. -/
structure JPoint where
  x : Nat
  y : Nat
  z : Nat
  deriving DecidableEq, Repr

/-- Doubling for a = -3. -/
def Curve.dbl (c : Curve) (a : JPoint) : JPoint :=
  let p := c.p
  if a.z = 0 ∨ a.y = 0 then ⟨1, 1, 0⟩
  else
    let zz := a.z * a.z % p
    let m := 3 * (subMod a.x zz p * ((a.x + zz) % p)) % p
    let yy := a.y * a.y % p
    let s := 4 * (a.x * yy) % p
    let x := subMod (m * m) (2 * s) p
    ⟨x, subMod (m * subMod s x p) (8 * (yy * yy % p)) p, 2 * (a.y * a.z) % p⟩

/-- Addition. -/
def Curve.add (c : Curve) (a b : JPoint) : JPoint :=
  let p := c.p
  if a.z = 0 then b else if b.z = 0 then a
  else
    let za := a.z * a.z % p
    let zb := b.z * b.z % p
    let u1 := a.x * zb % p
    let u2 := b.x * za % p
    let s1 := a.y * (zb * b.z % p) % p
    let s2 := b.y * (za * a.z % p) % p
    if u1 = u2 then (if s1 = s2 then c.dbl a else ⟨1, 1, 0⟩)
    else
      let h := subMod u2 u1 p
      let r := subMod s2 s1 p
      let hh := h * h % p
      let hhh := hh * h % p
      let v := u1 * hh % p
      let x := subMod (subMod (r * r) hhh p) (2 * v) p
      ⟨x, subMod (r * subMod v x p) (s1 * hhh) p, h * (a.z * b.z % p) % p⟩

/-- Scalar multiplication over the lowest `k` bits. -/
def Curve.mul (c : Curve) (s : Nat) (a : JPoint) : Nat → JPoint
  | 0 => ⟨1, 1, 0⟩
  | k + 1 =>
    let d := c.dbl (c.mul (s / 2) a k)
    if s % 2 = 1 then c.add d a else d

/-- The affine coordinates; none for the identity. -/
def Curve.affine (c : Curve) (a : JPoint) : Option (Nat × Nat) :=
  if a.z = 0 then none
  else
    let i := invMod a.z c.p
    let ii := i * i % c.p
    some (a.x * ii % c.p, a.y * (ii * i % c.p) % c.p)

/-- The base point multiplied. -/
def Curve.base (c : Curve) (s : Nat) : JPoint := c.mul s ⟨c.gx, c.gy, 1⟩ (8 * c.size)

/-- The uncompressed encoding (R225). -/
def Curve.encode (c : Curve) (a : JPoint) : Bytes :=
  match c.affine a with
  | some (x, y) => [4#8] ++ beBytes c.size x ++ beBytes c.size y
  | none => zeros (2 * c.size + 1)

/-- The point an encoding names. -/
def Curve.decode (c : Curve) (bs : Bytes) : JPoint :=
  ⟨beNat (slice bs 1 c.size), beNat (slice bs (1 + c.size) c.size), 1⟩

/-- A point passes R237: first byte 4, coordinates below p, on the curve, not both zero. -/
def Curve.pointOk (c : Curve) (bs : Bytes) : Bool :=
  let q := c.decode bs
  bs.getD 0 0#8 == 4#8 && decide (q.x < c.p) && decide (q.y < c.p) && !(q.x == 0 && q.y == 0)
  && decide (q.y * q.y % c.p = subMod (q.x * q.x % c.p * q.x + c.b) (3 * q.x) c.p)

/-- A scalar from drawn material (R227). -/
def Curve.scalar (c : Curve) (material : Bytes) : Nat := beNat material % (c.n - 1) + 1

/-- The digest as an integer: its leftmost bits, as many as the order has. -/
def Curve.digestInt (c : Curve) (digest : Bytes) : Nat :=
  let bits := c.n.log2 + 1
  let d := beNat digest
  if bits < 8 * digest.length then d / 2 ^ (8 * digest.length - bits) else d

/-- ECDSA signature with nonce `k` (FIPS 186-5). -/
def Curve.sign (c : Curve) (d k : Nat) (digest : Bytes) : Bytes :=
  let r := match c.affine (c.base k) with
    | some (x, _) => x % c.n
    | none => 0
  let s := invMod k c.n * ((c.digestInt digest + r * d) % c.n) % c.n
  beBytes c.size r ++ beBytes c.size s

/-- ECDSA verification of a signature that passed R237. -/
def Curve.verify (c : Curve) (pub digest sig : Bytes) : Bool :=
  let r := beNat (sig.take c.size)
  let s := beNat (sig.drop c.size)
  let w := invMod s c.n
  let u1 := c.digestInt digest * w % c.n
  let u2 := r * w % c.n
  match c.affine (c.add (c.base u1) (c.mul u2 (c.decode pub) (8 * c.size))) with
  | some (x, _) => x % c.n == r
  | none => false

/-- ECDH: the shared x-coordinate; none for the identity. -/
def Curve.agree (c : Curve) (d : Nat) (peer : Bytes) : Option Bytes :=
  (c.affine (c.mul d (c.decode peer) (8 * c.size))).map (fun q => beBytes c.size q.1)

/-! ### Curve25519 (RFC 7748, RFC 8032) -/

/-- 2^255 - 19 and the order L of the base point. -/
def p25519 : Nat := 2 ^ 255 - 19
def l25519 : Nat := 2 ^ 252 + 27742317777372353535851937790883648493

/-- The clamped scalar of RFC 7748. -/
def clamp25519 (bs : Bytes) : Nat := leNat bs / 8 % 2 ^ 251 * 8 + 2 ^ 254

/-- One step of the X25519 ladder on (x2, z2, x3, z3). -/
def ladderStep (u : Nat) (v : Nat × Nat × Nat × Nat) : Nat × Nat × Nat × Nat :=
  let p := p25519
  let (x2, z2, x3, z3) := v
  let a := (x2 + z2) % p
  let b := subMod x2 z2 p
  let aa := a * a % p
  let bb := b * b % p
  let e := subMod aa bb p
  let da := subMod x3 z3 p * a % p
  let cb := (x3 + z3) % p * b % p
  let s := (da + cb) % p
  let d := subMod da cb p
  (aa * bb % p, e * ((aa + 121665 * e) % p) % p, s * s % p, u * (d * d % p) % p)

/-- The ladder over the lowest `k` bits of the scalar. -/
def ladder (s u : Nat) : Nat → Nat × Nat × Nat × Nat
  | 0 => (1, 0, u, 1)
  | k + 1 =>
    let (a, b, c, d) := ladder (s / 2) u k
    if s % 2 = 1 then
      let (a', b', c', d') := ladderStep u (c, d, a, b)
      (c', d', a', b')
    else ladderStep u (a, b, c, d)

/-- X25519 on the little-endian strings of RFC 7748, where R10 and R224 call operands big-endian (DEDUCED, log 238). -/
def x25519 (key u : Bytes) : Bytes :=
  let uu := leNat u % 2 ^ 255
  let (x2, z2, _, _) := ladder (clamp25519 key) uu 255
  leBytes 32 (x2 * invMod z2 p25519 % p25519)

/-- The X25519 base point. -/
def base25519 : Bytes := leBytes 32 9

/-- A u-coordinate passes R237: below the prime, none of the small-order ones (those whose multiple by 8 is the
identity or that are 0). -/
def u25519Ok (u : Bytes) : Bool :=
  let uu := leNat u % 2 ^ 255
  let (_, z2, _, _) := ladder 8 uu 4
  decide (uu < p25519) && uu != 0 && decide (z2 % p25519 ≠ 0)

/-- A point of edwards25519 in extended coordinates. -/
structure EPoint where
  x : Nat
  y : Nat
  z : Nat
  t : Nat
  deriving DecidableEq, Repr

/-- d of edwards25519. -/
def d25519 : Nat := subMod 0 (121665 * invMod 121666 p25519) p25519

/-- Addition (complete). -/
def EPoint.add (a b : EPoint) : EPoint :=
  let p := p25519
  let m := subMod a.y a.x p * subMod b.y b.x p % p
  let n := (a.y + a.x) * (b.y + b.x) % p
  let c := a.t * (2 * d25519) % p * b.t % p
  let d := 2 * (a.z * b.z) % p
  let e := subMod n m p
  let f := subMod d c p
  let g := (d + c) % p
  let h := (n + m) % p
  ⟨e * f % p, g * h % p, f * g % p, e * h % p⟩

/-- The identity. -/
def EPoint.zero : EPoint := ⟨0, 1, 1, 0⟩

/-- Scalar multiplication over the lowest `k` bits. -/
def EPoint.mul (s : Nat) (a : EPoint) : Nat → EPoint
  | 0 => EPoint.zero
  | k + 1 =>
    let r := EPoint.mul (s / 2) a k
    let d := r.add r
    if s % 2 = 1 then d.add a else d

/-- The x of a y with the given sign; none where the curve has none, or for x = 0 with sign 1 (RFC 8032). -/
def edX (y : Nat) (sign : Bool) : Option Nat :=
  let p := p25519
  let yy := y * y % p
  let xx := subMod yy 1 p * invMod ((d25519 * yy + 1) % p) p % p
  let r := powMod xx ((p + 3) / 8) p 253
  let r := if r * r % p = xx then r else r * powMod 2 ((p - 1) / 4) p 253 % p
  if r * r % p ≠ xx then none
  else if r = 0 ∧ sign then none
  else some (if (r % 2 = 1) = sign then r else p - r)

/-- A canonical encoding decoded (RFC 8032). -/
def edDecode (bs : Bytes) : Option EPoint :=
  let n := leNat bs
  let y := n % 2 ^ 255
  if p25519 ≤ y then none else (edX y (n.testBit 255)).map (fun x => ⟨x, y, 1, x * y % p25519⟩)

/-- The encoding of a point. -/
def EPoint.encode (a : EPoint) : Bytes :=
  let i := invMod a.z p25519
  let x := a.x * i % p25519
  leBytes 32 (a.y * i % p25519 + 2 ^ 255 * (x % 2))

/-- The base point. -/
def edBase : EPoint :=
  let y := 4 * invMod 5 p25519 % p25519
  let x := (edX y false).getD 0
  ⟨x, y, 1, x * y % p25519⟩

/-- Projective equality. -/
def EPoint.same (a b : EPoint) : Bool :=
  decide (a.x * b.z % p25519 = b.x * a.z % p25519) && decide (a.y * b.z % p25519 = b.y * a.z % p25519)

/-- The public key of a seed. -/
def edPublic (seed : Bytes) : Bytes := (EPoint.mul (clamp25519 ((sha512 seed).take 32)) edBase 255).encode

/-- Ed25519 signature. -/
def edSign (seed msg : Bytes) : Bytes :=
  let h := sha512 seed
  let a := clamp25519 (h.take 32)
  let pub := (EPoint.mul a edBase 255).encode
  let r := leNat (sha512 (h.drop 32 ++ msg)) % l25519
  let rr := (EPoint.mul r edBase 255).encode
  let k := leNat (sha512 (rr ++ pub ++ msg)) % l25519
  rr ++ leBytes 32 ((r + k * a) % l25519)

/-- Ed25519 verification. -/
def edVerify (pub msg sig : Bytes) : Bool :=
  match edDecode (sig.take 32), edDecode pub with
  | some r, some a =>
    let k := leNat (sha512 (sig.take 32 ++ pub ++ msg)) % l25519
    (EPoint.mul (leNat (sig.drop 32)) edBase 256).same (r.add (EPoint.mul k a 255))
  | _, _ => false

/-- The point has small order (R237). -/
def EPoint.small (a : EPoint) : Bool := (EPoint.mul 8 a 4).same EPoint.zero

/-! ### Encodings of ML-KEM and ML-DSA that R237 checks -/

/-- The coefficients of 12 bits that bytes spell, low bits first (FIPS 203). -/
def coeffs12 : Bytes → List Nat
  | a :: b :: c :: bs => (a.toNat + 256 * (b.toNat % 16)) :: (b.toNat / 16 + 16 * c.toNat) :: coeffs12 bs
  | _ => []

/-- An encapsulation key whose coefficients are all below 3,329 (R237); its last 32 bytes are the seed. -/
def mlkemKeyOk (pub : Bytes) : Bool := (coeffs12 (pub.take (pub.length - 32))).all (· < 3329)

/-- Hint parameters ω and k of an ML-DSA set (FIPS 204). -/
def hintParams (algo : Nat) : Nat × Nat := ((dsaSet algo).omega, (dsaSet algo).k)

/-- Indices that rise strictly. -/
def rising : List Nat → Bool
  | a :: b :: l => decide (a < b) && rising (b :: l)
  | _ => true

/-- A hint of an ML-DSA signature is well formed (R237): its last ω + k bytes. -/
def hintOk (algo : Nat) (sig : Bytes) : Bool :=
  let (w, k) := hintParams algo
  let h := (sig.drop (sig.length - (w + k))).map (·.toNat)
  let ends := h.drop w
  let starts := 0 :: ends
  (List.range k).all (fun i =>
    let a := starts.getD i 0
    let b := starts.getD (i + 1) 0
    decide (a ≤ b) && decide (b ≤ w) && rising ((h.take b).drop a))
  && ((h.take w).drop (ends.getLastD 0)).all (· == 0)

/-! ### The checks of R237 by operand -/

/-- An imported or peer public key passes R237. -/
def pubKeyOk (algo : Nat) (pub : Bytes) : Bool :=
  match algo with
  | 0x01 | 0x02 | 0x03 => decide ((pub.headD 0#8).toNat ≥ 128) && beNat pub % 2 == 1
  | 0x11 | 0x12 | 0x13 => (curveOf algo).pointOk pub
  | 0x21 => match edDecode pub with
    | some a => !a.small
    | none => false
  | 0x22 => u25519Ok pub
  | 0x31 | 0x32 | 0x33 => mlkemKeyOk pub
  | _ => true

/-- A signature's structure passes R237. -/
def sigOk (algo : Nat) (pub sig : Bytes) : Bool :=
  match algo with
  | 0x01 | 0x02 | 0x03 => let s := beNat sig; decide (1 < s) && decide (s < beNat pub)
  | 0x11 | 0x12 | 0x13 =>
    let c := curveOf algo
    let r := beNat (sig.take c.size)
    let s := beNat (sig.drop c.size)
    r != 0 && decide (r < c.n) && s != 0 && decide (s < c.n)
  | 0x21 => (edDecode (sig.take 32)).isSome && decide (leNat (sig.drop 32) < l25519)
  | _ => hintOk algo sig

/-- An RSA ciphertext passes R237. -/
def rsaCtOk (n ct : Nat) : Bool := decide (1 < ct) && decide (ct < n)

/-! ### Operations by algorithm -/

/-- Bytes drawn under request index 0 (R227): by operation. -/
def pkDrawLen (o : Op) (algo inLen : Nat) : Nat :=
  match o with
  | .pkSign => if isRsa algo then inLen else if isPCurve algo then (curveOf algo).size + 8 else 32
  | .pkKeygen => if isPCurve algo then (curveOf algo).size + 8 else if algo / 16 == 3 then 64 else 32
  | .pkEncap => 32
  | _ => 0

/-- Key generation from its material: private part and public key (R227, R240). -/
def pkKeygenOf (algo : Nat) (m : Bytes) : Bytes × Bytes :=
  match algo with
  | 0x11 | 0x12 | 0x13 =>
    let c := curveOf algo
    let d := c.scalar m
    (beBytes c.size d, c.encode (c.base d))
  | 0x21 => (m, edPublic m)
  | 0x22 => (m, x25519 m base25519)
  | 0x31 | 0x32 | 0x33 => (m, mlkemPublic algo m)
  | _ => (m, mldsaPublic algo m)

/-- A signature and the attempts it took (R225, R239); a private key is its stored encoding. -/
def pkSignOf (algo : Nat) (key inp m : Bytes) : Bytes × Nat :=
  match algo with
  | 0x01 | 0x02 | 0x03 => (rsaSign ((pkAlg algo).elim 0 (·.size)) key inp m, 1)
  | 0x11 | 0x12 | 0x13 => let c := curveOf algo; (c.sign (beNat (key.take c.size)) (c.scalar m) inp, 1)
  | 0x21 => (edSign (key.take 32) inp, 1)
  | _ => mldsaSign algo (key.take 32) inp m

/-- The verdict of a verification whose inputs passed R237. -/
def pkVerifyOf (algo : Nat) (pub inp sig : Bytes) : Bool :=
  match algo with
  | 0x01 | 0x02 | 0x03 => rsaVerify ((pkAlg algo).elim 0 (·.size)) pub inp sig
  | 0x11 | 0x12 | 0x13 => (curveOf algo).verify pub inp sig
  | 0x21 => edVerify pub inp sig
  | _ => mldsaVerify algo pub inp sig

/-- The shared secret of an agreement; none where a closing check fails (R238). -/
def pkAgreeOf (algo : Nat) (key peer : Bytes) : Option Bytes :=
  if algo = 0x22 then
    let z := x25519 (key.take 32) peer
    if z.all (· == 0#8) then none else some z
  else let c := curveOf algo; c.agree (beNat (key.take c.size)) peer

end Sys2Proof
end

