-- ==== Sys2Proof/Machine/KeyBlock.lean ====
section
/-! DEFINITION. Key blocks (R160 to R162): derivation, opening and building, the contents that are accepted, and the
keys of a transport (R166). -/

namespace Sys2Proof

/-! ### Attributes a key may be installed with (R146, R160) -/

/-- The modes of use that a usage admits (ANSI X9.143; PRESUMED, assumption 20). -/
def modesFor (u : BitVec 16) : String :=
  if [usageOf "B0", usageOf "E0", usageOf "E1", usageOf "E2", usageOf "E3", usageOf "E4", usageOf "E5",
      usageOf "E6"].contains u then "X"
  else if [usageOf "P0", usageOf "D0", usageOf "K0", usageOf "K1", usageOf "10"].contains u then "BDE"
  else if [usageOf "C0", usageOf "V1", usageOf "V2", usageOf "M1", usageOf "M3", usageOf "M6", usageOf "M7"].contains u
    then "CGV"
  else if u == usageOf "K3" then "BDEX"
  else if u == usageOf "S0" then "SV"
  else if u == usageOf "11" then "N"
  else ""

/-- A usage serves a class and algorithm: K3 and S0 are asymmetric, M7 is HMAC (R145, R146). -/
def usageFits (u : BitVec 16) (cls : BitVec 2) (alg : Nat) : Bool :=
  (u == usageOf "K3" || u == usageOf "S0") == (cls != 0#2) && (u == usageOf "M7") == (cls == 0#2 && alg == 6)

/-- The attributes a new key takes. -/
structure Attr where
  usage : BitVec 16
  mode : Byte
  exportability : Byte
  version : BitVec 16
  deriving DecidableEq, Repr

/-- Usage, mode and exportability are accepted by R160, and the version marks no component. -/
def Attr.accepted (a : Attr) : Bool :=
  (ascii (modesFor a.usage)).contains a.mode && (ascii "ENS").contains a.exportability
  && (pair16 a.version).take 1 != ascii "c"

/-- Attributes from a 16-character header. -/
def Attr.ofHeader (h : Bytes) : Attr :=
  { usage := ofPair16 (slice h 5 2), mode := h.getD 8 0#8, exportability := h.getD 11 0#8, version := ofPair16 (slice h 9 2) }

/-- The header of a key to be installed for function `f`; `install` sets the generation and the extension count. -/
def Attr.header (a : Attr) (f : Nat) (cls : BitVec 2) (alg len : Nat) : KeyHeader :=
  { state := 1#2, cls := cls, alg := BitVec.ofNat 8 alg, extCount := 0#6,
    length := if cls == 0#2 then BitVec.ofNat 7 len else 0#7, mgmt := false, isVolatile := false, limited := false,
    usage := a.usage, mode := a.mode, exportability := exportCode a.exportability, owner := byte f,
    version := a.version, generation := 0#16, useCount := 0#32 }

/-! ### Algorithms in key blocks -/

/-- Class and algorithm code of a key of `n` bytes under a key-block algorithm character (R160). An asymmetric key is
carried in its stored encoding (R251; DEDUCED, assumption 42). -/
def kbAlg (c : Byte) (n : Nat) : Option (BitVec 2 × Nat) :=
  if c == 0x54#8 then (if n = 16 then some (0#2, 1) else if n = 24 then some (0#2, 2) else none)
  else if c == 0x41#8 then
    (if n = 16 then some (0#2, 3) else if n = 24 then some (0#2, 4) else if n = 32 then some (0#2, 5) else none)
  else if c == 0x48#8 then (if 16 ≤ n ∧ n ≤ 64 then some (0#2, 6) else none)
  else if c == 0x52#8 then
    (if n = 896 then some (1#2, 1) else if n = 1344 then some (1#2, 2) else if n = 1792 then some (1#2, 3) else none)
  else if c == 0x45#8 then
    (if n = 97 then some (1#2, 0x11) else if n = 145 then some (1#2, 0x12) else if n = 199 then some (1#2, 0x13) else none)
  else none

/-- The algorithm character of a stored key; none where key blocks do not carry it (R160). -/
def kbChar (h : KeyHeader) : Option Byte :=
  let a := h.alg.toNat
  if h.cls == 0#2 then some (if a ≤ 2 then 0x54#8 else if a ≤ 5 then 0x41#8 else 0x48#8)
  else if h.cls == 1#2 && isRsa a then some 0x52#8
  else if h.cls == 1#2 && isPCurve a then some 0x45#8
  else none

/-! ### Derivation, opening and building (ANSI X9.143; the constants are PRESUMED, assumption 20) -/

/-- The key-block encryption key (`use` 0) or MAC key (`use` 1) of a KBPK. -/
def kbKey (alg : Nat) (kbpk : Bytes) (use : Nat) : Bytes :=
  let len := algLen alg
  let c := cipherOf alg kbpk
  ((List.range (ceilDiv len c.size)).flatMap (fun i =>
    cmac c ([byte (i + 1)] ++ beBytes 2 use ++ [0#8] ++ beBytes 2 (alg - 1) ++ beBytes 2 (8 * len)))).take len

/-- The least strength of a key under an algorithm character whose length lies from `lo` to `hi` bytes; 0 where there is
none. It is what step 4 of R161 can test before the key data is open (DEDUCED, log 45). -/
def leastStrength (c : Byte) (lo hi : Nat) : Nat :=
  ((List.range (min hi 1792 + 1 - lo)).findSome? (fun i => (kbAlg c (lo + i)).map (fun a => strengthOf a.1 a.2 (lo + i)))).getD 0

/-- The longest key under an algorithm character that `n` bytes of key data hold behind their length field. -/
def longestKey (c : Byte) (n : Nat) : Option (BitVec 2 × Nat × Nat) :=
  (List.range (min n 1794 - 1)).reverse.findSome? (fun i => (kbAlg c i).map (fun a => (a.1, a.2, i)))

/-- The decrypted key data of a key block whose MAC verifies (R161 step 6). -/
def kbOpen (alg : Nat) (kbpk : Bytes) (b : KeyBlock) : Option Bytes :=
  let data := cbcDec (cipherOf alg (kbKey alg kbpk 0)) b.mac b.data
  if cmac (cipherOf alg (kbKey alg kbpk 1)) (b.head ++ data) = b.mac then some data else none

/-- The key of key data whose length field agrees with the algorithm (R161 step 7): class, algorithm and key. -/
def kbContent (c : Byte) (data : Bytes) : Option (BitVec 2 × Nat × Bytes) :=
  let bits := beNat (data.take 2)
  if bits % 8 ≠ 0 ∨ data.length < 2 + bits / 8 then none
  else (kbAlg c (bits / 8)).map (fun a => (a.1, a.2, slice data 2 (bits / 8)))

/-- The optional blocks that are accepted (R160). -/
def kbOptsOk (b : KeyBlock) : Bool :=
  b.opts.all (fun o => [ascii "KC", ascii "KP", ascii "IK", ascii "KS", ascii "TS", ascii "HM", ascii "PB"].contains o.1)

/-- The contents of a header that step 4 of R161 examines. -/
def kbHeaderOk (b : KeyBlock) : Bool :=
  (Attr.ofHeader b.head).accepted && kbOptsOk b && (ascii "TAHRE").contains b.algorithm
  && usageFits (ofPair16 b.usage) (if (ascii "TAH").contains b.algorithm then 0#2 else 1#2)
      (if b.algorithm == 0x48#8 then 6 else 1)

/-- A KC or KP block, if present, equals a check value: after two characters that name the method, its digits are the
leftmost bytes of the value (PRESUMED, assumption 20). -/
def kbCheckOk (b : KeyBlock) (id : String) (check : Bytes) : Bool :=
  match b.opts.find? (fun o => o.1 == ascii id) with
  | none => true
  | some o => match hexBytes (o.2.drop 2) with
    | some v => !v.isEmpty && v == check.take v.length
    | none => false

/-- A check value block. -/
def kbCheckBlock (id : String) (alg : Nat) (sym : Bool) (check : Bytes) : Bytes :=
  let tdes := sym && decide (alg ≤ 2)
  let d := (if tdes then ascii "00" else ascii "01") ++ toHex (check.take (if tdes then 3 else 5))
  ascii id ++ toHex [byte (4 + d.length)] ++ d

/-- A PB block that brings a header of `n` characters to whole cipher blocks; its fill is Config's. -/
def kbPadBlock (blk n : Nat) : Bytes :=
  let r := (blk - n % blk) % blk
  if r = 0 then [] else
  let len := if r < 4 then r + blk else r
  ascii "PB" ++ toHex [byte len] ++ (List.range (len - 4)).map Config.pbFill

/-- A number as decimal characters. -/
def decimal (w n : Nat) : Bytes := (natDigits w n).map (fun d => byte (0x30 + d))

/-- Bytes of the key data of a key of `n` bytes: the length field, the key and its padding. -/
def kbDataLen (version : Byte) (n : Nat) : Nat := ceilDiv (2 + n) (kbBlock version) * kbBlock version

/-- Padding bytes of the key data (R162 step 2). -/
def kbPadLen (version : Byte) (n : Nat) : Nat := kbDataLen version n - (2 + n)

/-- The key block of a stored key under a KBPK (R162). -/
def kbBuild (alg : Nat) (kbpk : Bytes) (version c : Byte) (h : KeyHeader) (opts : List Bytes) (key pad : Bytes) : Bytes :=
  let o := opts.flatten
  let pb := kbPadBlock (kbBlock version) (16 + o.length)
  let n := opts.length + (if pb.isEmpty then 0 else 1)
  let data := beBytes 2 (8 * key.length) ++ key ++ fitR (kbPadLen version key.length) pad
  let macLen := kbBlock version
  let total := 16 + o.length + pb.length + 2 * data.length + 2 * macLen
  let head := [version] ++ decimal 4 total ++ pair16 h.usage ++ [c, h.mode] ++ pair16 h.version
    ++ [exportChar h.exportability] ++ decimal 2 n ++ ascii "00" ++ o ++ pb
  let mac := cmac (cipherOf alg (kbKey alg kbpk 1)) (head ++ data)
  head ++ toHex (cbcEnc (cipherOf alg (kbKey alg kbpk 0)) mac data) ++ toHex mac

/-! ### Transport (R165, R166) -/

/-- The four values both parties derive from Z: the KBPK, T_U and T_V. -/
structure TransportKeys where
  kbpk : Bytes
  tu : Bytes
  tv : Bytes
  deriving DecidableEq, Repr

/-- The derivation of R166. -/
def transportKeys (z : Bytes) (method : Nat) (idU idV a : Bytes) : TransportKeys :=
  let dkm := kdfOneStep z (ascii "LX96KT" ++ [byte method] ++ idU ++ idV ++ sha256 a) 64
  let mk := dkm.take 32
  { kbpk := dkm.drop 32, tu := (hmacSha256 mk (ascii "KC_1_U" ++ idU ++ idV ++ a)).take 16,
    tv := (hmacSha256 mk (ascii "KC_1_V" ++ idV ++ idU ++ a)).take 16 }

/-- The strength of a transport under its asymmetric key (R165). -/
def algStrength (alg : Nat) : Nat := (pkAlg alg).elim 0 (·.strength)

/-- The value a transport's signature covers (R167). -/
def transportSigned (method : Nat) (idU idV a kb : Bytes) : Bytes := sha512 ([byte method] ++ idU ++ idV ++ a ++ kb)

/-- A draw's lengths for the key operation of an export (R168): OAEP secret and seed, ephemeral key, or KEM message. -/
def transportDraw (method alg : Nat) : Nat :=
  match method with
  | 1 => 64
  | 2 => if isPCurve alg then (curveOf alg).size + 8 else 32
  | _ => 32

/-- An export's A and Z (R165, R168); none where a closing check fails. -/
def transportSend (method alg : Nat) (pub m : Bytes) : Option (Bytes × Bytes) :=
  match method with
  | 1 =>
    let n := (pkAlg alg).elim 0 (·.size)
    some (beBytes n (rsaPub (beNat pub) (beNat (oaepEncode n (m.take 32) (slice m 32 32)))), m.take 32)
  | 2 =>
    let k := pkKeygenOf alg m
    (pkAgreeOf alg k.1 pub).map (fun z => (k.2, z))
  | _ => some (mlkemEncap alg pub m)

/-- An import's Z from A under the private key's stored encoding (R165); none where a closing check fails. A failed OAEP
decoding goes on with the substitute. -/
def transportReceive (method alg : Nat) (key a : Bytes) : Option Bytes :=
  match method with
  | 1 =>
    let n := (pkAlg alg).elim 0 (·.size)
    let k := RsaKey.ofBytes n key
    let x := k.priv (beNat a)
    if rsaPub k.n x ≠ beNat a then none
    else match oaepDecode n (beBytes n x) with
    | some z => some (if z.length = 32 then z else Config.oaepSubstitute key a)
    | none => some (Config.oaepSubstitute key a)
  | 2 => pkAgreeOf alg key a
  | _ => some (mlkemDecap alg key a)

/-- A passes the validation of R237 for a transport under a stored key. -/
def transportInputOk (method alg : Nat) (pub a : Bytes) : Bool :=
  match method with
  | 1 => rsaCtOk (beNat pub) (beNat a)
  | 2 => pubKeyOk alg a
  | _ => true

/-- The length A has under a key (R165). -/
def transportALen (method alg : Nat) : Nat :=
  match pkAlg alg with
  | none => 0
  | some x => if method = 2 then x.pub else x.ct

end Sys2Proof
end

