-- ==== Sys2Proof/Machine/Random.lean ====
section
/-! DEFINITION. Draws of random material (chapter 11): the twin expander (R292), the CTR_DRBG of SP 800-90A (R289) and
the epoch a command draws from (R293, R294). -/

namespace Sys2Proof.Machine

/-! ### CTR_DRBG, AES-256 with the derivation function (R289) -/

/-- The AES-CBC-MAC the derivation function uses. -/
def drbgBcc (key data : Bytes) : Bytes := (chunks 16 data).foldl (fun a b => aesEnc key (xorB a b)) (zeros 16)

/-- Block_Cipher_df to the 48 bytes of a seed. -/
def drbgDf (input : Bytes) : Bytes :=
  let s := beBytes 4 input.length ++ beBytes 4 48 ++ input ++ [0x80#8]
  let s := s ++ zeros ((16 - s.length % 16) % 16)
  let k := (List.range 32).map byte
  let t := (List.range 3).flatMap (fun i => drbgBcc k (beBytes 4 i ++ zeros 12 ++ s))
  let x1 := aesEnc (t.take 32) (slice t 32 16)
  let x2 := aesEnc (t.take 32) x1
  x1 ++ x2 ++ aesEnc (t.take 32) x2

/-- Output blocks after `v`. -/
def drbgBlocks (key v : Bytes) (n : Nat) : Bytes := (List.range n).flatMap (fun i => aesEnc key (ctr128 v (i + 1)))

/-- CTR_DRBG_Update: the new key and V. -/
def drbgUpdate (key v provided : Bytes) : Bytes × Bytes :=
  let t := xorB (drbgBlocks key v 3) provided
  (t.take 32, t.drop 32)

/-- Additional input, derived; 48 zero bytes when there is none. -/
def drbgExtra (add : Bytes) : Bytes := if add.isEmpty then zeros 48 else drbgDf add

/-- Instantiation. -/
def drbgInstantiate (entropy nonce person : Bytes) : Bytes × Bytes :=
  drbgUpdate (zeros 32) (zeros 16) (drbgDf (entropy ++ nonce ++ person))

/-- Generation: the output, and the new key and V. -/
def drbgGenerate (key v add : Bytes) (len : Nat) : Bytes × Bytes × Bytes :=
  let x := drbgExtra add
  let (key, v) := if add.isEmpty then (key, v) else drbgUpdate key v x
  let n := ceilDiv len 16
  let out := (drbgBlocks key v n).take len
  let (k, w) := drbgUpdate key (ctr128 v n) x
  (out, k, w)

/-- The CTR_DRBG instantiated from a pool unit (R288, R289). -/
def Rng.instantiate (g : Rng) (ch : Chan) (tide : Nat) (identity noise : Bytes) : Rng :=
  let (k, v) := drbgInstantiate (fitR 128 noise) (beBytes 8 tide ++ [ch.letter]) (identity ++ [ch.letter])
  { g with drbgKey := k, drbgV := v, drbgRequests := 0, drbgSeedTide := tide, reseedDue := false }

/-- The CTR_DRBG reseeded from a pool unit. -/
def Rng.reseed (g : Rng) (tide : Nat) (noise : Bytes) : Rng :=
  let (k, v) := drbgUpdate g.drbgKey g.drbgV (drbgDf (fitR 128 noise))
  { g with drbgKey := k, drbgV := v, drbgRequests := 0, drbgSeedTide := tide, reseedDue := false,
           reseeds := satBv g.reseeds 1 }

/-- One generate request; the 65,536th makes a reseed due (R289). -/
def Rng.generate (g : Rng) (add : Bytes) (len : Nat) : Bytes × Rng :=
  let (out, k, v) := drbgGenerate g.drbgKey g.drbgV add len
  (out, { g with drbgKey := k, drbgV := v, drbgRequests := g.drbgRequests + 1,
                 reseedDue := g.reseedDue || decide (65536 ≤ g.drbgRequests + 1),
                 draws := satBv g.draws (ceilDiv len 16) })

/-! ### The twin expander (R292) -/

/-- P_f in force. -/
def Rng.personOf (g : Rng) (f : Nat) : Bytes := SMap.get (zeros 32) g.person f

/-- The label of a draw: function, queue, sequence number, request index. -/
def drawLabel (h : Header) (index : Nat) : Bytes :=
  [h.function] ++ beBytes 2 h.queue.toNat ++ beBytes 4 h.seq.toNat ++ [byte index]

/-- An expander output under the seed of an epoch. -/
def expand (seed person label : Bytes) (len : Nat) : Bytes :=
  let head := slice seed 32 32 ++ fitR 32 person ++ label ++ [0#8] ++ beBytes 2 (8 * len)
  ((List.range (ceilDiv len 16)).flatMap (fun i => aesCmac (seed.take 32) (head ++ beBytes 2 (i + 1)))).take len

/-- The retained epoch that was current in a tide (R293). -/
def Rng.epochAt (g : Rng) (tide : Nat) : Option Epoch :=
  (g.epochs.filter (fun e => decide (e.since ≤ tide))).getLast?

/-! ### A command's draw -/

/-- The outcome of a draw: material, a wait behind a reseed (R289), or the generator's failure (R303). -/
inductive Draw where
  | got (bytes : Bytes)
  | wait
  | failed
  deriving DecidableEq, Repr

/-- A command's draw under a request index (R292, R293, R298): a twin command's from the expander under the epoch of its
admission tide, a halved command's from the CTR_DRBG with the additional input of R289. -/
def Rng.draw (g : Rng) (h : Header) (admitTide index len : Nat) : Draw × Rng :=
  if g.state != .ready then (.failed, g)
  else if h.halved then
    if g.reseedDue then (.wait, g)
    else
      let (b, g) := g.generate (fitR 32 (g.personOf h.function.toNat) ++ drawLabel h index) len
      (.got b, g)
  else match g.epochAt admitTide with
    | none => (.failed, g)
    | some e => (.got (expand e.seed (SMap.get (zeros 32) e.person h.function.toNat) (drawLabel h index) len),
                 { g with draws := satBv g.draws (ceilDiv len 16) })

/-- Draws under request indices 0, 1, … of the given lengths; 0 draws nothing. -/
def Rng.drawAll (g : Rng) (h : Header) (tide : Nat) : Nat → List Nat → Option (List (Nat × Bytes)) × Bool × Rng
  | _, [] => (some [], false, g)
  | i, n :: ns =>
    if n == 0 then g.drawAll h tide (i + 1) ns
    else match g.draw h tide i n with
      | (.got b, g) =>
        match g.drawAll h tide (i + 1) ns with
        | (some l, f, g) => (some ((i, b) :: l), f, g)
        | r => r
      | (.wait, g) => (none, false, g)
      | (.failed, g) => (none, true, g)

end Sys2Proof.Machine
end

