-- ==== Sys2Proof/Machine/KeyStore.lean ====
section
/-! DEFINITION. The key store (chapter 10): derived keys, reading and sealing slot records, binding and the use ledger,
key cache fills, the key read of R463, installation of a generation and its destruction, and journal deltas. -/

namespace Sys2Proof.Machine

/-! ### The hierarchy (R275, R276, R278) -/

/-- SHA-256 applied `n` times. -/
def sha256Times : Nat → Bytes → Bytes
  | 0, x => x
  | n + 1, x => sha256Times n (sha256 x)

/-- K(t) of the ladder, under the fuse root and the brine key (R275). -/
def ladderKey (fuseRoot brine : Bytes) (t : Nat) : Bytes :=
  sha256Times (255 - t) (hmacSha256 (hmacSha256 fuseRoot (ascii "LX96-SR" ++ brine)) (ascii "LX96-SVN-TOP"))

/-- M(t) (R276). -/
def bootMeasure (t : Nat) (lock : Byte) : Bytes :=
  sha256 (Config.bootRomHash ++ Config.signerKeyHash ++ [byte t, lock])

/-- KD(t, L) of a channel (R276). -/
def Channel.derive (c : Channel) (t : Nat) (l : String) : Bytes :=
  hmacSha256 (ladderKey c.keys.fuseRoot c.island.brine t) (ascii l ++ bootMeasure t c.fuses.cfgLock)

/-- An image-bound key, under the running version and the SHA-384 hash of the running image (R276). -/
def Channel.imageKey (c : Channel) (l : String) : Bytes :=
  let s := c.keys.svnRun
  let image := c.flash.images.getD c.flash.active []
  hmacSha256 (ladderKey c.keys.fuseRoot c.island.brine s) (ascii l ++ bootMeasure s c.fuses.cfgLock ++ sha384 image)

/-- The brine key passes its check value; an overwritten key passes none (R274, R375). -/
def Island.passes (i : Island) : Bool := !i.brine.all (· == 0#8) && i.check == Config.brineCheck i.brine

/-- K_ENC, K_SIV, K_REC (R278). -/
def Keys.sealKeys (k : Keys) : SealKeys :=
  let sdk := k.sdk.getD (zeros 32)
  { enc := kdfCtrCmac sdk (ascii "ENC") 32, siv := kdfCtrCmac sdk (ascii "SIV") 32, mac := kdfCtrCmac sdk (ascii "REC") 32 }

/-- The sealing keys of function `f`'s volatile records (R261). -/
def Keys.volKeys (k : Keys) (f : Nat) : SealKeys :=
  let vr := k.vr.getD []
  let tail := [byte f] ++ beBytes 4 (SMap.get 0 k.vc f)
  { k.sealKeys with enc := hmacSha256 vr (ascii "ENC" ++ tail), siv := hmacSha256 vr (ascii "SIV" ++ tail) }

/-! ### Records -/

/-- The stored record of a slot (R249, R254). -/
def Keys.record (k : Keys) (slot : Nat) : Bytes := SMap.get (zeros 128) k.slots slot

/-- The header of a slot's home record. -/
def Keys.header (k : Keys) (slot : Nat) : KeyHeader := KeyHeader.ofBytes (k.record slot)

/-- The records of a slot's generation: the home record, or the retained copy (R259). -/
def Keys.reader (k : Keys) (slot : Nat) (gen : BitVec 16) (s : Nat) : Bytes :=
  if (k.header slot).generation == gen then k.record s
  else match k.retained.find? (fun r => r.slot == slot && r.generation == gen) with
    | some r => SMap.get (k.record s) r.records s
    | none => k.record s

/-- The outcome of loading a generation (R256, R259). A volatile record of an ended key reads as empty, and without VR every
volatile record does (R367). -/
def Keys.load (k : Keys) (slot : Nat) (gen : BitVec 16) : Fill :=
  let get := k.reader slot gen
  match fillSlot k.sealKeys (k.volKeys (KeyHeader.ofBytes (get slot)).owner.toNat) slot get with
  | .loaded h t m c => if h.isVolatile && k.vr.isNone then .volEmpty else .loaded h t m c
  | f => f

/-- The key a slot now holds. -/
def Keys.loadNow (k : Keys) (slot : Nat) : Fill := k.load slot (k.header slot).generation

/-- Records written over those the store holds. -/
def Keys.writeRecords (k : Keys) (l : List (Nat × Bytes)) : Keys :=
  { k with slots := l.foldl (fun m r => SMap.set (zeros 128) m r.1 r.2) k.slots }

/-- The sealing keys a header selects (R252). -/
def Keys.sealFor (k : Keys) (h : KeyHeader) : SealKeys := if h.isVolatile then k.volKeys h.owner.toNat else k.sealKeys

/-- A header changed in place, with its tally, resealed under the same generation. The record is that of the generation
`gen`, at home or retained; one that does not open is left. -/
def Keys.rewrite (k : Keys) (slot : Nat) (gen : BitVec 16) (f : KeyHeader → KeyHeader) (t : Tally → Tally) : Keys :=
  match k.load slot gen with
  | .loaded h tal m chk =>
    let recd := sealRecord { k.sealFor h with mac := k.sealKeys.mac } slot (f h) (t tal) (m.take h.sealLen) chk
    if (k.header slot).generation == gen then k.writeRecords [(slot, recd)]
    else { k with retained := k.retained.map (fun r =>
             if r.slot == slot && r.generation == gen then { r with records := SMap.set (zeros 128) r.records slot recd }
             else r) }
  | _ => k

/-! ### Users (R257) -/

/-- A work item is a user of a slot's generation. -/
def Item.uses (x : Item) (slot : Nat) (gen : BitVec 16) : Bool :=
  x.binds.any (fun b => b.slot == slot && b.generation == gen)

/-- A generation has users. -/
def Channel.hasUsers (c : Channel) (slot : Nat) (gen : BitVec 16) : Bool := c.sched.items.any (·.uses slot gen)


/-- Retained copies and cache entries of old generations leave when their last user has completed (R259, R265). -/
def Channel.releaseRetained (c : Channel) : Channel :=
  let k := c.keys
  { c with keys := { k with
      retained := k.retained.filter (fun r => c.hasUsers r.slot r.generation),
      cache := k.cache.filter (fun e =>
        let home := if extBase ≤ e.slot then asymBase + (e.slot - extBase) / 32 else e.slot
        (k.header home).generation == e.generation || c.hasUsers home e.generation) } }

/-! ### Journal (R323, R324) -/

/-- The kind number of a delta (R323). -/
def Image.kind : Image → Nat
  | .slot _ => 1 | .basin .. => 2 | .dukpt .. => 3 | .stream .. => 5 | .ledger _ => 16 | .exhaustion .. => 17
  | .management _ => 20 | .session .. => 22 | .volatileCount .. => 17 | .volatileRoot _ => 17

/-- Bytes of a management record: of a list of keys by its keys, of what the spec gives no layout 64 (DESIGN CHOICE, log 286). -/
def Change.size : Change → Nat
  | .custodians _ l | .provision l => (l.map (fun o => 4 + o.2.key.length)).sum
  | .officer _ (some o) => 4 + o.key.length
  | .openSession x => 128 + 32 * x.received.length
  | .personalise _ p => p.length
  | _ => 64

/-- Payload length in 64-byte units (R324): a session's is its 128-byte shadow record (R259). -/
def Image.units : Image → Nat
  | .slot l => 2 * l.length
  | .basin .. => 3
  | .stream .. => 3
  | .session .. => 2
  | .management x => max 1 (ceilDiv x.size 64)
  | _ => 1

/-- The 16 bytes of a DUKPT state record (R155). -/
def DukptRec.bytes (r : DukptRec) : Bytes :=
  leBytes 8 r.keyId ++ leBytes 4 r.last ++ leBytes 2 r.refused ++ leBytes 2 r.bound.toNat

/-- STATE of a stream context: its state with DIR above it (R195). -/
def Stream.stateByte (x : Stream) : Nat :=
  (match x.state with | .free => 0 | .opened => 1 | .dead => 2) + 4 * x.decrypt.toNat

/-- The 192 bytes of a stream context (R195), its numbers little-endian and the values of GCM as their algorithms order them
(DEDUCED, log 286). -/
def Stream.bytes (x : Stream) : Bytes :=
  [byte x.stateByte, byte x.tagLen, byte x.partialCt.length, byte x.alg] ++ leBytes 4 x.slot ++ leBytes 2 x.generation.toNat
  ++ leBytes 2 x.aadLen ++ leBytes 4 x.ctr ++ leBytes 8 x.totalLen ++ leBytes 8 x.received ++ fitR 32 x.key ++ fitR 32 x.crustKey
  ++ beBytes 16 x.h.toNat ++ fitR 16 x.ej0 ++ beBytes 16 x.ghash.toNat ++ fitR 16 x.partialCt ++ fitR 16 x.partKs ++ zeros 16

/-- The payload of a delta before it is encrypted, in whole units (R323). -/
def Image.payload (i : Image) : Bytes :=
  fitR (64 * i.units) (match i with
    | .slot l => l.flatMap (·.2)
    | .dukpt _ r => r.bytes
    | .stream _ x => x.bytes
    | i => Config.deltaBytes i)

/-- Bytes 0 to 47 of a delta's header (R324). -/
def Delta.header (d : Delta) : Bytes :=
  leBytes 8 d.intake ++ leBytes 8 d.jseq ++ [byte d.kind, d.side.letter] ++ leBytes 2 d.image.units ++ leBytes 4 d.object
  ++ leBytes 4 d.tideLo.toNat ++ [byte d.rung] ++ zeros 19

/-- The encrypted payload of a delta and its tag, under the journal key (R324). -/
def Delta.sealed (d : Delta) (key : Bytes) : Bytes × Bytes :=
  gcmEnc key ([0x4A#8, d.side.letter] ++ zeros 2 ++ beBytes 8 d.jseq) d.header d.image.payload

/-- The rung of the journal key: that of the root record, and from boundary X of an SVN commit the new one (R280, R324). -/
def Keys.journalRung (k : Keys) : Nat := (k.commit.map (·.target)).getD k.rung

/-- The deltas that a ring of 33,554,432 units keeps, the newest (R323). -/
def trimRing (room : Nat) : List Delta → List Delta
  | [] => []
  | d :: l => if 1 + d.image.units ≤ room then d :: trimRing (room - (1 + d.image.units)) l else []

/-- A change is journaled (R323): `n` is the intake number of the command that made it. -/
def Channel.journalWrite (c : Channel) (n object : Nat) (image : Image) : Channel :=
  let j := c.journal
  let d : Delta := { intake := n, jseq := j.nextJseq, kind := image.kind, object := object,
                     tideLo := BitVec.ofNat 32 c.tide, rung := c.keys.journalRung, side := c.side, image := image, tag := [] }
  let d := { d with tag := (d.sealed (c.derive d.rung "JOURNAL")).2 }
  { c with journal := { j with nextJseq := j.nextJseq + 1, ring := (trimRing 33554432 (d :: j.ring.reverse)).reverse } }

/-! ### Binding and the use ledger (R257, R260) -/

/-- The live ledger entry of a function for a slot. -/
def Keys.ledgerOf (k : Keys) (f slot : Nat) : Option LedgerEntry :=
  k.ledger.find? (fun e => e.live && e.function == f && e.slot == slot)

/-- A ledger entry is no longer the live one for its function and slot. -/
def Keys.ledgerDrop (k : Keys) (f slot : Nat) : Keys :=
  { k with ledger := k.ledger.map (fun e => if e.function == f && e.slot == slot then { e with live := false } else e) }

/-- A ledger entry is made, over any that was live. -/
def Keys.ledgerSet (k : Keys) (f slot uses : Nat) : Keys :=
  let k := k.ledgerDrop f slot
  { k with nextLedger := k.nextLedger + 1,
           ledger := k.ledger ++ [{ id := k.nextLedger, function := f, slot := slot, left := uses, live := true }] }

/-- Live entries of a function. -/
def Keys.ledgerCount (k : Keys) (f : Nat) : Nat := (k.ledger.filter (fun e => e.live && e.function == f)).length

/-- An operation that takes uses: all but the two that only describe a key (R260). -/
def takesUse (o : Op) : Bool := !(o == .keyCheckValue || o == .keyAttributes)

/-- Slot `slot` of item `x` is bound to its current generation, and a use is taken from the entry the
decode saw (R257, R260). A halved command that meets an entry is refused at its binding and takes no use (R321). The
count is written back to the slot's header; an entry of a function that does not own the slot leaves the header alone. -/
def Channel.bindSlot (c : Channel) (x : Item) (slot : Nat) : Channel × Item :=
  let k := c.keys
  let gen := (k.header slot).generation
  let entry := (x.ledgerSeen.find? (fun p => p.1 == slot)).bind (fun p => k.ledger.find? (fun e => e.id == p.2))
  let bound (left : Option Nat) (ex ref : Bool) : Item :=
    { x with binds := x.binds ++ [{ slot := slot, generation := gen, ledger := left, exhausted := ex,
                                    refused := ref }] }
  match entry with
  | none => (c, bound none false false)
  | some e =>
    if x.pkt.hdr.halved then (c, bound none false true)
    else if !takesUse x.op then (c, bound (some e.left) false false)
    else
      let k := { k with ledger := k.ledger.map (fun (l : LedgerEntry) => if l.id == e.id then { l with left := l.left - 1 } else l) }
      let k := if (k.header slot).owner != x.pkt.hdr.function then k
        else k.rewrite slot gen (fun h => { h with limited := true, useCount := BitVec.ofNat 32 (e.left - 1) }) id
      let c := { c with keys := k }
      let c := c.journalWrite x.pkt.intakeNo slot (.ledger { e with left := e.left - 1 })
      (c, bound (some (e.left - 1)) (e.left == 0) false)

/-! ### The key cache (R265) -/

/-- The cache set of a record. -/
def cacheSet (slot : Nat) : Nat := (slot % 2 ^ 14) ^^^ (slot / 2 ^ 14)

/-- The records of a key: the slot and its extension records, at most 32 and only of an asymmetric slot (R247, R250). -/
def keySlotsOf (slot : Nat) (h : KeyHeader) : List Nat :=
  slot :: (List.range (if isAsymSlot slot then min 32 h.extCount.toNat else 0)).map (extSlot slot)

/-- The cache holds a generation of a slot whole. -/
def Keys.cached (k : Keys) (slot : Nat) (gen : BitVec 16) : Bool :=
  match k.cache.find? (fun e => e.slot == slot && e.generation == gen) with
  | none => false
  | some e => (keySlotsOf slot e.hdr).all (fun s => k.cache.any (fun y => y.slot == s && y.generation == gen))

/-- The entry of a set that a fill replaces: the oldest that is not pinned. -/
def Channel.victim (c : Channel) (set : Nat) : Option CacheEntry :=
  (c.keys.cache.filter (fun e => cacheSet e.slot == set && !c.pinned e)).foldl (fun b e =>
    match b with
    | none => some e
    | some y => if e.age < y.age then some e else some y) none

/-- Ways of a set that a fill may take: free, or with an entry that is not pinned. -/
def Channel.waysOpen (c : Channel) (set : Nat) : Nat :=
  let inSet := c.keys.cache.filter (fun e => cacheSet e.slot == set)
  (16 - inSet.length) + inSet.countP (fun e => !c.pinned e)

/-- The records a fill of a generation loads. -/
def Channel.fillRecords (c : Channel) (slot : Nat) (gen : BitVec 16) : List Nat :=
  keySlotsOf slot (KeyHeader.ofBytes (c.keys.reader slot gen slot))

/-- Every set that a fill of the generation needs has the ways for it. -/
def Channel.waysFree (c : Channel) (slot : Nat) (gen : BitVec 16) : Bool :=
  let l := c.fillRecords slot gen
  l.all (fun s => decide (l.countP (fun t => cacheSet t == cacheSet s) ≤ c.waysOpen (cacheSet s)))

/-- The bytes of a cache set are zeroed: after a purge the sets follow in order, each in 32 cycles, the first from cycle 2
(R365). -/
def Channel.setZeroed (c : Channel) (set : Nat) : Bool := c.keys.purgedAt.all (fun t => decide (t + 2 + 32 * (set + 1) ≤ c.now))

/-- A fill of the generation may take its sets. -/
def Channel.setOpen (c : Channel) (slot : Nat) (gen : BitVec 16) : Bool :=
  c.waysFree slot gen && (c.fillRecords slot gen).all (fun s => c.setZeroed (cacheSet s))

/-- The fill waits for a way of a fully pinned set: since its start, or since it ran out. -/
def Channel.fillBlocked (c : Channel) (f : FillJob) : Bool :=
  (f.waitsForWay || decide (f.startedAt + 1500 ≤ c.now)) && !c.waysFree f.slot f.generation

/-- One record is placed in its set. -/
def Channel.place (c : Channel) (e : CacheEntry) : Channel :=
  let inSet := c.keys.cache.filter (fun y => cacheSet y.slot == cacheSet e.slot)
  let cache := if inSet.length < 16 then c.keys.cache
    else match c.victim (cacheSet e.slot) with
      | some v => c.keys.cache.filter (fun y => !(y == v))
      | none => c.keys.cache
  { c with keys := { c.keys with cache := cache ++ [{ e with age := c.keys.clock }], clock := c.keys.clock + 1 } }

/-- A loaded key is placed, one entry for each of its records. -/
def Channel.placeKey (c : Channel) (slot : Nat) (gen : BitVec 16) (f : BitVec 8) (h : KeyHeader) (t : Tally)
    (m chk : Bytes) : Channel :=
  let aes := h.cls == 0#2 && decide (3 ≤ h.alg.toNat) && decide (h.alg.toNat ≤ 5)
  let k1 := if aes then cmacDouble (aesEnc m (zeros 16)) else []
  (keySlotsOf slot h).foldl (fun c s =>
    let on (b : Bytes) : Bytes := if s == slot then b else []
    c.place { slot := s, generation := gen, function := f, age := 0, hdr := h, tally := t, material := on m, check := chk,
              lastRound := on (if aes then (aesRoundKeys m).getLastD [] else []), k1 := on k1,
              k2 := on (if aes then cmacDouble k1 else []) }) c

/-- A slot lies in a grant of the function and is no extension record (R248). -/
def Channel.granted (c : Channel) (f slot : Nat) : Bool :=
  !isExtSlot slot && (List.range 16).any (fun i =>
    let g := SMap.get (0, 0) c.records.grants (16 * f + i)
    decide (g.1 ≤ slot) && decide (slot < g.1 + g.2))

/-- A fill ended without a key: counters, the capture and the event of a corrupt slot (R256, R283). -/
def Channel.noteFill (c : Channel) (ch : Chan) (slot : Nat) (f : Fill) : Channel :=
  match f with
  | .corrupt =>
    let k := c.keys
    let k := { k with fillCorrupt := satBv k.fillCorrupt 1, corruptMore := k.corruptMore || k.corruptValid }
    let k := if k.corruptValid then k
      else { k with corruptSlot := BitVec.ofNat 28 slot, corruptValid := true, corruptTide := BitVec.ofNat 32 c.tide }
    let h := c.health
    ({ c with keys := k, health := { h with deduct := h.deduct + 4 } } : Channel).event ch 0x60 slot
  | .volEmpty => { c with keys := { c.keys with fillVolEmpty := satBv c.keys.fillVolEmpty 1 } }
  | _ => c

/-! ### What a command asks of its keys (R120, R146, R226) -/

/-- One key a command uses: payload index, slot, declared algorithm if any, and the header check of stage 5. -/
structure KeyReq where
  idx : Nat
  slot : Nat
  alg : Option Nat
  ok : KeyHeader → Bool

/-- A KEYREF field with its header check. -/
def keyrefReq (p : Bytes) (idx off : Nat) (ok : KeyHeader → Bool) : KeyReq :=
  { idx := idx, slot := krSlot (leAt p off 4), alg := some (krAlg (leAt p off 4)), ok := ok }

/-- A KEYREF field whose key has a usage and one of its modes. -/
def keyReq (p : Bytes) (idx off : Nat) (u ms : String) : KeyReq :=
  keyrefReq p idx off (fun h => h.cls == 0#2 && h.for_ u ms)

/-- An ASYMREF field with its header check. -/
def asymReq (p : Bytes) (idx off : Nat) (alg : Option Nat) (ok : KeyHeader → Bool) : KeyReq :=
  { idx := idx, slot := leAt p off 4 % 2 ^ 28, alg := alg, ok := ok }

/-- The algorithm of a stored asymmetric key serves a transport method (R165). -/
def methodAlg (m alg : Nat) : Bool :=
  match m with
  | 1 => isRsa alg
  | 2 => isPCurve alg || alg == 0x22
  | _ => alg == 0x31 || alg == 0x32 || alg == 0x33

/-- Signing algorithms of a transport (R164, R168). -/
def signerAlg (alg : Nat) : Bool := alg == 0x12 || alg == 0x42

/-- The key is bare symmetric key bits whose length KW takes (R163). -/
def wrapLenOk (method len : Nat) : Bool := method == 1 || (decide (16 ≤ len) && decide (len ≤ 64) && len % 8 == 0)

/-- The keys a command uses, in payload order, with what stages 4 and 5 of R463 ask of each (R146, R226 and the layouts
of chapters 05 to 10). -/
def keyReqs (o : Op) (p : Bytes) : List KeyReq :=
  match o with
  | .pinTranslate => [keyReq p 0 0 "P0" "BD", keyReq p 1 4 "P0" "BE"]
  | .pinVerifyOffset => [keyReq p 0 0 "P0" "BD", keyReq p 1 4 "V1" "CV"]
  | .pinVerifyPvv => [keyReq p 0 0 "P0" "BD", keyReq p 1 4 "V2" "CV"]
  | .pinChange => [keyReq p 0 0 "P0" "BD", keyReq p 1 4 (if u8 p 10 == 0 then "V1" else "V2") "CG"]
  | .cvcGenerate => [keyReq p 0 0 "C0" "CG"]
  | .cvcVerify => [keyReq p 0 0 "C0" "CV"]
  | .arqcVerify | .arqcVerifyLongPan => [keyReq p 0 0 "E0" "X"]
  | .dukptTranslate | .dukptTranslateLongKey => [keyReq p 0 0 "B0" "X", keyReq p 1 4 "P0" "BE"]
  | .dukptData => [keyReq p 0 0 "B0" "X"] ++ (if u8 p 8 == 1 then [keyReq p 1 4 "D0" "BE"] else [])
  | .macCmac | .macCmacLong => [keyReq p 0 0 "M6" (if u8 p 4 == 0 then "CG" else "CV")]
  | .macIso97973 => [keyReq p 0 0 "M3" (if u8 p 4 == 0 then "CG" else "CV")]
  | .macIso9797Long => [keyReq p 0 0 (if u8 p 7 == 1 then "M1" else "M3") (if u8 p 4 == 0 then "CG" else "CV")]
  | .macHmacSha256 | .macHmacSha2 => [keyReq p 0 0 "M7" (if u8 p 4 == 0 then "CG" else "CV")]
  | .keyblockImport =>
    let alg := krAlg (leAt p 0 4)
    [keyrefReq p 0 0 (fun h => h.cls == 0#2 && h.for_ "K1" "BD" && u8 p 16 == kbVersionFor alg)]
  | .keyblockExport => [keyReq p 0 0 "K1" "BE", asymReq p 1 4 none KeyHeader.exportable]
  | .keyWrap => [keyReq p 0 0 "K0" "BE",
      asymReq p 1 4 none (fun h => h.cls == 0#2 && wrapLenOk (u8 p 8) h.length.toNat)]
  | .keyUnwrap => [keyReq p 0 0 "K0" "BD"]
  | .transportImport =>
    let m := u8 p 12
    [asymReq p 0 0 none (fun h => h.cls == 1#2 && methodAlg m h.alg.toNat && h.for_ "K3" (if m == 2 then "X" else "D"))]
    ++ (if leAt p 4 4 == noRef then []
        else [asymReq p 1 4 none (fun h => h.cls != 0#2 && signerAlg h.alg.toNat && h.for_ "S0" "V")])
  | .transportExport =>
    let m := u8 p 12
    [asymReq p 0 0 none (fun h => h.cls != 0#2 && methodAlg m h.alg.toNat && h.for_ "K3" (if m == 2 then "X" else "E"))]
    ++ (if leAt p 4 4 == noRef then []
        else [asymReq p 1 4 none (fun h => h.cls == 1#2 && signerAlg h.alg.toNat && h.for_ "S0" "S")])
    ++ [asymReq p 2 8 none KeyHeader.exportable]
  | .tokenFf1 => [keyReq p 0 0 "10" (if u8 p 4 == 0 then "BE" else "BD")]
  | .cipherEncrypt => [keyReq p 0 0 "D0" "BE"]
  | .cipherDecrypt => [keyReq p 0 0 "D0" "BD"]
  | .streamOpen => [keyReq p 0 0 "D0" (if u8 p 5 == 0 then "BE" else "BD")]
  | .pkSign => [asymReq p 0 0 (some (u8 p 4)) (fun h => h.cls == 1#2 && h.for_ "S0" "S")]
  | .pkVerify => [asymReq p 0 0 (some (u8 p 4)) (fun h => h.cls != 0#2 && h.for_ "S0" "V")]
  | .pkAgree => [asymReq p 0 0 (some (u8 p 4)) (fun h => h.cls == 1#2 && h.for_ "K3" "X")]
  | .pkEncap => [asymReq p 0 0 (some (u8 p 4)) (fun h => h.cls != 0#2 && h.for_ "K3" "E")]
  | .pkDecap => [asymReq p 0 0 (some (u8 p 4)) (fun h => h.cls == 1#2 && h.for_ "K3" "D")]
  | .pkPubkeyExport => [asymReq p 0 0 (some (u8 p 4)) (fun h => h.cls != 0#2)]
  | .keyCheckValue => [keyrefReq p 0 0 (fun h => h.cls == 0#2)]
  | .keyAttributes => [asymReq p 0 0 none (fun _ => true)]
  | _ => []

/-- The slot a command writes, with the payload index of its field. -/
def targetOf (o : Op) (p : Bytes) : Option (Nat × Nat) :=
  match o with
  | .keyblockImport | .keyUnwrap => some (1, leAt p 4 4)
  | .transportImport => some (2, leAt p 8 4)
  | .componentBegin | .componentAdd | .componentAbandon | .keyGenerate | .keyRestrict | .keyDestroy => some (0, leAt p 0 4)
  | .pkKeygen | .pkAgree | .pkEncap | .pkDecap | .pkPubkeyImport => some (1, leAt p 8 4)
  | _ => none

/-! ### Policies the key read consults (R463 stage 6) -/

/-- The function's policy record (R400). -/
def Channel.policy (c : Channel) (f : Nat) : Policy := SMap.get Policy.none c.records.policies f

/-- A grant bit of R400. -/
def Channel.grants (c : Channel) (f bit : Nat) : Bool := (c.policy f).grants.getLsbD bit

/-- A decimalisation table is installed (R132). -/
def Channel.dectab (c : Channel) (f i : Nat) : Option Bytes := SMap.find? c.records.dectabs (16 * f + i)

/-- The policies an operation consults at its key read hold (R128, R132, R154, R163, R169, R202, R226). `ide`: the
function has a selective IDE stream in force. -/
def Channel.policyOk (c : Channel) (o : Op) (f : Nat) (ide : Bool) (p : Bytes) : Bool :=
  match o with
  | .pinTranslate | .dukptTranslate | .dukptTranslateLongKey => !pinPairPolicy (u8 p 8) (u8 p 9) || c.grants f 0
  | .pinVerifyOffset => (c.dectab f (u8 p 11)).isSome
  | .pinChange => u8 p 10 != 0 || (c.dectab f (u8 p 12)).isSome
  | .dukptData => u8 p 8 != 0 || c.grants f 1
  | .keyUnwrap => c.grants f 2
  | .componentBegin | .componentAdd => ide && c.grants f 4
  | .pkPubkeyImport => c.grants f 5
  | .cipherEncrypt | .cipherDecrypt | .streamOpen => c.grants f 6
  | _ => true

/-! ### Exhaustion (R186 to R188) -/

/-- The generation is exhausted for a command of an intake tide (R188): X has come, or the mark is of an earlier device
start, whose EXHAUSTED_FROM is ignored (R251). -/
def Keys.exhausted (k : Keys) (slot : Nat) (gen : BitVec 16) (t : Tally) (intakeTide : Nat) : Bool :=
  t.exhausted && (decide (t.exhaustedFrom ≤ intakeTide)
    || !(k.exhaustAt.any (fun x => x.1 == slot && x.2.1 == gen)))

/-! ### The key read (R463) -/

/-- How a key read ends. -/
inductive KeyRead where
  | ok (keys : List Loaded)
  | fail (code : Code) (detail : BitVec 4)
  deriving DecidableEq, Repr

/-- The first request that `f` fails gives the outcome. -/
def firstFail {α : Type} (l : List α) (f : α → Option (Code × BitVec 4)) : Option (Code × BitVec 4) := l.findSome? f

/-- The loaded key of a request under the item's binding. -/
def Keys.loadReq (k : Keys) (x : Item) (r : KeyReq) : Fill × BitVec 16 :=
  let gen := ((x.binds.find? (fun b => b.slot == r.slot)).map (·.generation)).getD (k.header r.slot).generation
  (k.load r.slot gen, gen)

/-- The key read of a command: the stages of R463 in order, keys in payload order. `reqs` are its keys. -/
def Channel.keyRead (c : Channel) (x : Item) (ide : Bool) (reqs : List KeyReq) : KeyRead :=
  let f := x.pkt.hdr.function.toNat
  let p := x.pkt.payload
  let d (n : Nat) : BitVec 4 := BitVec.ofNat 4 n
  let named := reqs.map (·.slot) ++ ((targetOf x.op p).map (·.2)).toList
  if !named.all (c.granted f) then .fail .denied denOwner
  else if x.binds.any (·.refused) then .fail .denied denPolicy
  else
    let fills := reqs.map (fun r => (r, c.keys.loadReq x r))
    match firstFail fills (fun q => match q.2.1 with
      | .loaded .. => none
      | .corrupt => some (.slotCorrupt, d q.1.idx)
      | _ => some (.slotEmpty, d q.1.idx)) with
    | some e => .fail e.1 e.2
    | none =>
      let keys := fills.filterMap (fun q => match q.2.1 with
        | .loaded h t m chk => some (q.1, ({ idx := q.1.idx, slot := q.1.slot, gen := q.2.2, hdr := h, tally := t,
                                              material := m, check := chk } : Loaded))
        | _ => none)
      if keys.any (fun k => k.2.hdr.owner.toNat != f) then .fail .denied denOwner
      else match firstFail keys (fun k => match k.1.alg with
        | some a => if k.2.hdr.alg.toNat == a then none else some (.keyUsageDenied, d k.1.idx)
        | none => none) with
      | some e => .fail e.1 e.2
      | none => match firstFail keys (fun k => if k.1.ok k.2.hdr then none else some (.keyUsageDenied, d k.1.idx)) with
        | some e => .fail e.1 e.2
        | none =>
          if !c.policyOk x.op f ide p then .fail .denied denPolicy
          else match firstFail keys (fun k =>
            let spent := (x.binds.find? (fun b => b.slot == k.1.slot)).elim false (·.exhausted)
            if spent || (x.op != .keyAttributes && c.keys.exhausted k.1.slot k.2.gen k.2.tally x.pkt.intakeTide)
            then some (.keyExhausted, d k.1.idx) else none) with
          | some e => .fail e.1 e.2
          | none => .ok (keys.map (·.2))

/-! ### Targets (R161 steps 3 and 4, R248) -/

/-- What a writer finds in its target: the header and generation of a key, or nothing. -/
inductive Target where
  | empty
  | held (h : KeyHeader)
  | corrupt
  deriving DecidableEq, Repr

/-- The target as a writer sees it; an ended volatile key counts as nothing (R261). -/
def Keys.target (k : Keys) (slot : Nat) : Target :=
  match k.loadNow slot with
  | .loaded h _ _ _ => .held h
  | .corrupt => .corrupt
  | _ => .empty

/-- The slot array is empty: every home slot opens as empty (R405). -/
def Keys.empty (k : Keys) : Bool := k.slots.all (fun p => isExtSlot p.1 || k.target p.1 == .empty)

/-- Step 3 of R161 for function `f`: none where the target may be written. A management key that REPLACE offers to
overwrite is refused by step 4's policy. -/
def Keys.targetDenied (k : Keys) (f idx slot : Nat) (replace : Bool) : Option (Code × BitVec 4) :=
  match k.target slot with
  | .empty => none
  | .corrupt => some (.slotCorrupt, BitVec.ofNat 4 idx)
  | .held h =>
    if h.owner.toNat != f then some (.denied, denOwner)
    else if !replace then some (.denied, denState)
    else if h.mgmt then some (.denied, denPolicy)
    else none

/-! ### Installation and destruction (R257, R258, R262) -/

/-- The extension records an encoding needs (R253). -/
def extNeeded (cls : BitVec 2) (len : Nat) : Nat := if cls == 0#2 then 0 else extFor len

/-- Shadow entries that writers may take: those not kept for component sessions (R259). -/
def writerShadow : Nat := 65536 - 4096

/-- Retained records in the shadow area. -/
def Keys.retainedUsed (k : Keys) : Nat := (k.retained.map (fun r => r.records.length)).sum

/-- An open session on a slot is discarded (R170). -/
def Keys.dropSession (k : Keys) (slot : Nat) : Keys := { k with sessions := k.sessions.filter (fun x => x.slot != slot) }

/-- A key is installed in a slot (R258 steps 2 to 5): sealed under the next generation, flipped, the old generation kept
while it has users, and journaled. `h` carries the attributes; GENERATION and EXT_COUNT are set here. -/
def Channel.install (c : Channel) (intakeNo slot : Nat) (h : KeyHeader) (material : Bytes) : Channel :=
  let k := c.keys
  let old := k.header slot
  let gen := nextGen old.generation
  let gen := if (k.record slot).all (· == 0#8) then 1#16 else gen
  let h := { h with state := 1#2, generation := gen, extCount := BitVec.ofNat 6 (extNeeded h.cls material.length) }
  let check := checkOf h material
  let recs := keyRecords { k.sealFor h with mac := k.sealKeys.mac } slot h {} material check
  let kept : Retained := { slot := slot, generation := old.generation,
                           records := (keySlotsOf slot old).map (fun s => (s, k.record s)) }
  let retained := if c.hasUsers slot old.generation then k.retained ++ [kept] else k.retained
  let k := ({ k with retained := retained, flips := satBv k.flips 1 } : Keys).writeRecords recs
  let k := k.dropSession slot
  (({ c with keys := k } : Channel).journalWrite intakeNo slot (.slot recs)).releaseRetained

/-- A stream is killed (R200): its keys are destroyed and its context marked dead. -/
def Stream.kill (x : Stream) : Stream := { Stream.free with state := .dead, alg := x.alg, slot := x.slot }

/-- Crust keys destroyed are counted (R204). -/
def Rakes.countCrust (r : Rakes) (l : List Stream) : Rakes :=
  { r with crustKilled := satBv r.crustKilled (l.filter (fun x => x.state == .opened && x.decrypt)).length }

/-- Every open stream that `f` selects is killed, and the change journaled under intake number `n` (R195, R200). -/
def Channel.killStreams (c : Channel) (n : Nat) (f : Nat → Stream → Bool) : Channel :=
  let r := c.rakes
  let hit := r.streams.filter (fun x => x.2.state == .opened && f x.1 x.2)
  let r := r.countCrust (hit.map (·.2))
  let c : Channel := { c with rakes := { r with streams := r.streams.map (fun x =>
      if x.2.state == .opened && f x.1 x.2 then (x.1, x.2.kill) else x) } }
  hit.foldl (fun c x => c.journalWrite n x.1 (.stream x.1 x.2.kill)) c

/-- The stream that an item works on is dead, whatever its state was: a STREAM_OPEN that ends in its lane work leaves a dead
context too (R200). RAKE_CRUST_KILLED counts the keys of open contexts alone: not one that such an OPEN has drawn (DESIGN CHOICE,
log 284). -/
def Channel.killStream (c : Channel) (n i : Nat) : Channel :=
  let s := SMap.get Stream.free c.rakes.streams i
  let c : Channel := { c with rakes := (c.rakes.countCrust [s]) }
  ({ c with rakes := { c.rakes with streams := SMap.set Stream.free c.rakes.streams i s.kill } } : Channel).journalWrite n i
    (.stream i s.kill)

/-- Steps 1 to 5 of R262: empty records, the cache, sessions and streams of the slot, the journal. -/
def Channel.destroySlot (c : Channel) (intakeNo slot : Nat) : Channel :=
  let k := c.keys
  let h := k.header slot
  let recs := (keySlotsOf slot h).map (fun s =>
    (s, emptyRecord k.sealKeys s h.generation))
  let slots := keySlotsOf slot h
  let k := (k.writeRecords recs).dropSession slot
  let k := { k with cache := k.cache.filter (fun e => !slots.contains e.slot), destroys := satBv k.destroys 1 }
  let c := ({ c with keys := k } : Channel).killStreams intakeNo (fun _ x => x.slot == slot)
  c.journalWrite intakeNo slot (.slot recs)

end Sys2Proof.Machine
end

