-- ==== Sys2Proof/Machine/RunPayment.lean ====
section
/-! DEFINITION. The payment operations of chapter 05 and the DUKPT and MAC operations of chapter 06, on a command's
payload, its keys and its random material: the result of a run whose key read passed. -/

namespace Sys2Proof.Machine

/-- What a run completes with. -/
structure Res where
  code : Code
  detail : BitVec 4
  bytes : Bytes
  /-- A TAG_FAIL that a public-key or digest engine decides, not a rake (R204). -/
  offRake : Bool := false
  deriving DecidableEq, Repr

/-- An OK completion. -/
def Res.good (b : Bytes) : Res := { code := .ok, detail := 0#4, bytes := b }

/-- A completion without a result. -/
def Res.fail (c : Code) (d : BitVec 4 := 0#4) : Res := { code := c, detail := d, bytes := [] }

/-- A TAG_FAIL that a public-key or digest engine decides. -/
def Res.engineTag : Res := { Res.fail .tagFail with offRake := true }

/-- The completion of a PIN method (R131). -/
def Res.pin : PinOut → Res
  | .ok b => .good b
  | .error r => { code := .pinFail, detail := 0#4, bytes := pinFailResult r }

/-- OK without result, or a code without result. -/
def Res.verdict (ok : Bool) (c : Code) : Res := if ok then .good [] else .fail c

/-- A key that is not there: the list of a run's keys is read by payload order. -/
def Loaded.none : Loaded :=
  { idx := 0, slot := 0, gen := 0#16, hdr := KeyHeader.ofBytes (zeros 16), tally := {}, material := [], check := [] }

/-- The key at place `i`. -/
def keyAt (l : List Loaded) (i : Nat) : Loaded := l.getD i Loaded.none

/-- The key's algorithm code. -/
def Loaded.alg (k : Loaded) : Nat := k.hdr.alg.toNat

/-- Random material of an item under a request index. -/
def Item.material (x : Item) (i : Nat) : Bytes := SMap.get [] x.drawn i

/-! ### Chapter 05 -/

/-- PIN_TRANSLATE (R129, R130). -/
def runPinTranslate (p : Bytes) (ks : List Loaded) (fill : Bytes) : Res :=
  let i := keyAt ks 0
  let o := keyAt ks 1
  let pan := bcdDigits (slice p 12 10) (u8 p 10)
  let clear := pinOpen (u8 p 8) i.alg i.material pan (slice p 24 16)
  .pin (pinTranslate (u8 p 8) (u8 p 9) o.alg o.material pan clear fill)

/-- A decimalisation table's digits (R132). -/
def tableDigits (t : Option Bytes) : List Nat := (t.getD []).map (·.toNat)

/-- PIN_VERIFY_OFFSET (R133, R134). -/
def runPinOffset (p : Bytes) (ks : List Loaded) (table : List Nat) : Res :=
  let z := keyAt ks 0
  let v := keyAt ks 1
  let n := u8 p 10
  let clear := pinOpen (u8 p 8) z.alg z.material (bcdDigits (slice p 12 10) (u8 p 9)) (slice p 40 16)
  .pin (verifyOffset (u8 p 8) clear (naturalPin v.material (slice p 24 8) table n) (bcdDigits (slice p 32 6) n))

/-- PIN_VERIFY_PVV (R135, R136). -/
def runPinPvv (p : Bytes) (ks : List Loaded) : Res :=
  let z := keyAt ks 0
  let v := keyAt ks 1
  let pan := bcdDigits (slice p 12 10) (u8 p 9)
  let clear := pinOpen (u8 p 8) z.alg z.material pan (slice p 24 16)
  .pin (verifyPvv (u8 p 8) clear v.material pan (u8 p 10) (bcdDigits (slice p 22 2) 4))

/-- PIN_CHANGE (R137). -/
def runPinChange (p : Bytes) (ks : List Loaded) (table : List Nat) : Res :=
  let z := keyAt ks 0
  let v := keyAt ks 1
  let fmt := u8 p 8
  let pan := bcdDigits (slice p 16 10) (u8 p 9)
  let param := u8 p 11
  let old := pinOpen fmt z.alg z.material pan (slice p 40 16)
  let new := pinOpen fmt z.alg z.material pan (slice p 56 16)
  if u8 p 10 == 0 then
    let natural := naturalPin v.material (slice p 32 8) table param
    .pin (pinChange fmt (verifyOffset fmt old natural (bcdDigits (slice p 26 6) param)) old new param
      (fun d => subDigits (d.take param) natural))
  else
    .pin (pinChange fmt (verifyPvv fmt old v.material pan param (bcdDigits (slice p 26 2) 4)) old new 0
      (fun d => pvvOf v.material pan param d))

/-- The code of the card verification code commands (R138). -/
def cvcDigits (p : Bytes) (ks : List Loaded) : List Nat :=
  cvcOf (keyAt ks 0).material (bcdDigits (slice p 8 10) (u8 p 4)) (bcdDigits (slice p 18 2) 4) (bcdDigits (slice p 20 2) 3)

/-- CVC_GENERATE (R138). -/
def runCvcGenerate (p : Bytes) (ks : List Loaded) : Res := .good (packFill 4 15 (cvcDigits p ks))

/-- CVC_VERIFY (R138). -/
def runCvcVerify (p : Bytes) (ks : List Loaded) : Res :=
  .verdict (cvcDigits p ks == bcdDigits (slice p 24 2) 3) .cryptogramFail

/-- ARQC_VERIFY and, under option B, ARQC_VERIFY_LONG_PAN (R139 to R141). -/
def runArqc (p : Bytes) (ks : List Loaded) (long : Bool) : Res :=
  let k := keyAt ks 0
  let alg := k.alg
  let mk := cardMasterKey alg k.material long (bcdDigits (slice p 8 10) (u8 p 4)) (bcdDigits (slice p 5 1) 2)
  let sk := sessionKey alg mk (slice p 18 2)
  let arqc := slice p 20 8
  let arpc := arpcOf alg (u8 p 6) (u8 p 7 % 2 == 1) mk sk arqc (slice p 28 4) (slice p 32 (u8 p 7 / 2 % 8))
  if (emvMac alg sk (slice p 36 (u8 p 35))).take 8 == arqc then .good arpc else .fail .cryptogramFail

/-! ### DUKPT (R150 to R154) -/

/-- DUKPT_TRANSLATE and its long-key form (R150 to R153): PIN_TRANSLATE under the derived key. -/
def runDukptTranslate (p : Bytes) (ks : List Loaded) (fill : Bytes) : Res :=
  let b := keyAt ks 0
  let o := keyAt ks 1
  let pan := bcdDigits (slice p 12 10) (u8 p 10)
  let key := dukptPinKey b.alg b.material (slice p 24 12)
  -- the derived key's algorithm: two-key TDES under a TDES BDK, the BDK's under an AES BDK (R152)
  let alg := if b.alg ≤ 2 then 1 else b.alg
  let clear := pinOpen (u8 p 8) alg key pan (slice p 40 16)
  .pin (pinTranslate (u8 p 8) (u8 p 9) o.alg o.material pan clear fill)

/-- DUKPT_DATA (R154): the data deciphered under the data key, and enciphered again under MODE 1. -/
def runDukptData (p : Bytes) (ks : List Loaded) : Res :=
  let b := keyAt ks 0
  let key := dukptDataKey b.alg b.material (slice p 12 12)
  let inner := cipherOf (if b.alg ≤ 2 then 1 else b.alg) key
  let clear := cbcDec inner (slice p 32 inner.size) (p.drop 64)
  if u8 p 8 == 0 then .good clear
  else
    let outer := cipherOf (keyAt ks 1).alg (keyAt ks 1).material
    .good (cbcEnc outer (slice p 48 outer.size) clear)

/-- The record and counter a guarded command names (R150, R154, R155); none without GUARD. -/
def guardOf (o : Op) (f : Nat) (p : Bytes) : Option (Nat × Nat × Nat) :=
  let alg := krAlg (leAt p 0 4)
  match o with
  | .dukptTranslate | .dukptTranslateLongKey =>
    if u8 p 11 % 2 == 1 then
      some (65536 * f + leAt p 36 2, dukptKeyId alg (slice p 24 12), dukptCounter alg (slice p 24 12)) else none
  | .dukptData =>
    if u8 p 9 % 2 == 1 then
      some (65536 * f + leAt p 24 2, dukptKeyId alg (slice p 12 12), dukptCounter alg (slice p 12 12)) else none
  | _ => none

/-- An unbound state record (R155). -/
def DukptRec.unbound : DukptRec := { keyId := 0, last := 0, refused := 0, bound := false }

/-- The guard of R155: the record as it leaves it, and whether the command goes on. -/
def DukptRec.guard (r : DukptRec) (keyId counter : Nat) : DukptRec × Bool :=
  if !r.bound then ({ r with keyId := keyId, last := counter, bound := true }, true)
  else if r.keyId != keyId then (r, false)
  else if counter ≤ r.last then ({ r with refused := min 65535 (r.refused + 1) }, false)
  else ({ r with last := counter }, true)

/-! ### MACs (R156 to R159, R215) -/

/-- The MAC of a message under the opcode's algorithm; 64 bytes at most. -/
def macOf (o : Op) (p : Bytes) (k : Loaded) (msg : Bytes) : Bytes :=
  match o with
  | .macCmac | .macCmacLong => aesCmac k.material msg
  | .macIso97973 => isoMac3 k.material (u8 p 6) msg
  | .macIso9797Long => if u8 p 7 == 1 then isoMac1 k.material (u8 p 6) msg else isoMac3 k.material (u8 p 6) msg
  | .macHmacSha256 => hmacSha256 k.material msg
  | _ => if u8 p 6 == 3 then hmacSha384 k.material msg else hmacSha512 k.material msg

/-- Generation or verification of a MAC; `head` is the length of the fields before the message. -/
def runMac (o : Op) (head : Nat) (p : Bytes) (ks : List Loaded) : Res :=
  let mac := (macOf o p (keyAt ks 0) (p.drop head)).take (u8 p 5)
  if u8 p 4 == 0 then .good mac else .verdict (mac == slice p 16 (u8 p 5)) .tagFail

end Sys2Proof.Machine
end

