-- ==== Sys2Proof/Machine/RunKeys.lean ====
section
/-! DEFINITION. Key exchange, components and slot management (R160 to R170, R267 to R271): what a command does once its
keys are read, on its channel. -/

namespace Sys2Proof.Machine

/-! ### Installing a key (R161 steps 3, 4 and 9) -/

/-- The result of R161 for a slot as it now stands. -/
def Channel.importResult (c : Channel) (slot : Nat) : Bytes :=
  let r := c.keys.record slot
  leBytes 4 slot ++ pair16 (c.keys.header slot).generation ++ zeros 2 ++ slice r 80 8 ++ zeros 24

/-- The usages by their bit of a policy's USAGES (R395). -/
def policyUsages : List (BitVec 16) :=
  ["B0", "P0", "D0", "M1", "M3", "M6", "M7", "K0", "K1", "K3", "S0", "10", "11", "E0", "E1", "E2", "E3", "E4", "E5", "E6",
   "C0", "V1", "V2"].map usageOf

/-- The function's policy permits the usage (R395, R400). -/
def Channel.mayCreate (c : Channel) (f : Nat) (u : BitVec 16) : Bool :=
  match policyUsages.findIdx? (· == u) with
  | some i => (c.policy f).usages.getLsbD i
  | none => false

/-- A slot's range holds keys of a class (R248). -/
def slotFits (slot : Nat) (cls : BitVec 2) : Bool := isAsymSlot slot == (cls != 0#2)

/-- Step 4 of R161 but for the strength: attributes accepted, serving the algorithm, permitted, and in their range. -/
def Channel.attrOk (c : Channel) (f slot : Nat) (a : Attr) (cls : BitVec 2) (alg : Nat) : Bool :=
  a.accepted && usageFits a.usage cls alg && c.mayCreate f a.usage && slotFits slot cls

/-- Step 3 of R161 as a completion. -/
def Channel.targetRes (c : Channel) (f idx slot : Nat) (replace : Bool) : Option Res :=
  (c.keys.targetDenied f idx slot replace).map (fun e => .fail e.1 e.2)

/-- The item's function. -/
def Item.fn (x : Item) : Nat := x.pkt.hdr.function.toNat

/-- A key is written to a slot and the result of R161 formed (R161 step 9). -/
def Channel.put (c : Channel) (x : Item) (slot : Nat) (a : Attr) (cls : BitVec 2) (alg : Nat) (key : Bytes) :
    Channel × Res :=
  let c := c.install x.pkt.intakeNo slot (a.header x.fn cls alg key.length) key
  (c, .good (c.importResult slot))

/-! ### Key blocks (R161, R162) -/

/-- Steps 5 to 8 of R161: KP, MAC, length, KC. `check` is the KBPK's check value, `limit` the strength that protects, tested
again on the key that the length field gives. -/
def kbReceive (alg : Nat) (kbpk check : Bytes) (limit : Nat) (b : KeyBlock) : Except Res (BitVec 2 × Nat × Bytes) :=
  if !kbCheckOk b "KP" check then .error (.fail .tagFail)
  else match kbOpen alg kbpk b with
    | none => .error (.fail .tagFail)
    | some data =>
      match kbContent b.algorithm data with
      | none => .error (.fail .denied denPolicy)
      | some (cls, a, key) =>
        let h := (Attr.ofHeader b.head).header 0 cls a key.length
        if limit < keyStrength h || !usageFits (ofPair16 b.usage) cls a then .error (.fail .denied denPolicy)
        else if !kbCheckOk b "KC" (checkOf h key) then .error (.fail .tagFail)
        else .ok (cls, a, key)

/-- Step 4 of R161 on a key block's header. -/
def Channel.kbPolicy (c : Channel) (f slot : Nat) (b : KeyBlock) : Bool :=
  kbHeaderOk b && c.mayCreate f (ofPair16 b.usage)
  && slotFits slot (if (ascii "TAH").contains b.algorithm then 0#2 else 1#2)

/-- KEYBLOCK_IMPORT after its key read (R161 steps 3 to 9). -/
def runKbImport (c : Channel) (x : Item) (ks : List Loaded) : Channel × Res :=
  let p := x.pkt.payload
  let k := keyAt ks 0
  let slot := leAt p 4 4
  match c.targetRes x.fn 1 slot (u8 p 8 == 1), parseKeyBlock (p.drop 16) with
  | some r, _ => (c, r)
  | none, none => (c, .fail .malformed malField)
  | none, some b =>
    if !c.kbPolicy x.fn slot b || keyStrength k.hdr < leastStrength b.algorithm 0 (b.data.length - 2) then
      (c, .fail .denied denPolicy)
    else match kbReceive k.alg k.material k.check (keyStrength k.hdr) b with
      | .error r => (c, r)
      | .ok (cls, a, key) => c.put x slot (Attr.ofHeader b.head) cls a key

/-- KEYBLOCK_EXPORT (R162). -/
def runKbExport (p : Bytes) (ks : List Loaded) (pad : Bytes) : Res :=
  let k := keyAt ks 0
  let src := keyAt ks 1
  match kbChar src.hdr with
  | none => .fail .denied denPolicy
  | some ch =>
    if keyStrength k.hdr < keyStrength src.hdr then .fail .denied denPolicy
    else
      let kc := if u8 p 9 % 2 == 1 then [kbCheckBlock "KC" src.alg (src.hdr.cls == 0#2) src.check] else []
      let kp := if u8 p 9 / 2 % 2 == 1 then [kbCheckBlock "KP" k.alg true k.check] else []
      .good (kbBuild k.alg k.material (byte (u8 p 8)) ch src.hdr (kc ++ kp) src.material pad)

/-! ### Key wrap (R163) -/

/-- KEY_WRAP. -/
def runKeyWrap (p : Bytes) (ks : List Loaded) : Res :=
  let k := keyAt ks 0
  let src := keyAt ks 1
  if keyStrength k.hdr < keyStrength src.hdr then .fail .denied denPolicy
  else .good (if u8 p 8 == 0 then kwWrap k.material src.material else kwpWrap k.material src.material)

/-- KEY_UNWRAP: steps 3, 4, 7 and 9 of R161 around the unwrap. The length of the wrapped key lies in the last eight that its
ciphertext may hold, and under KW is the last. -/
def runKeyUnwrap (c : Channel) (x : Item) (ks : List Loaded) : Channel × Res :=
  let p := x.pkt.payload
  let k := keyAt ks 0
  let slot := leAt p 4 4
  let hd := slice p 16 16
  let a := Attr.ofHeader hd
  let ct := slice p 32 (leAt p 10 2)
  match c.targetRes x.fn 1 slot (u8 p 9 == 1) with
  | some r => (c, r)
  | none =>
    let most := ct.length - 8
    let least := leastStrength (hd.getD 7 0#8) (if u8 p 8 == 0 then most else most - 7) most
    if !(a.accepted && (ascii "TAH").contains (hd.getD 7 0#8) && c.mayCreate x.fn a.usage && slotFits slot 0#2
        && usageFits a.usage 0#2 (if hd.getD 7 0#8 == 0x48#8 then 6 else 1)) || keyStrength k.hdr < least then
      (c, .fail .denied denPolicy)
    else match (if u8 p 8 == 0 then kwUnwrap k.material ct else kwpUnwrap k.material ct) with
      | none => (c, .fail .tagFail)
      | some key => match kbAlg (hd.getD 7 0#8) key.length with
        | none => (c, .fail .denied denPolicy)
        | some (cls, alg) =>
          if keyStrength k.hdr < keyStrength (a.header x.fn cls alg key.length) || !usageFits a.usage cls alg then
            (c, .fail .denied denPolicy)
          else c.put x slot a cls alg key

/-! ### Transport (R164 to R168) -/

/-- The attributes of an established transport KBPK (R164). -/
def establishAttr : Attr := { usage := usageOf "K1", mode := 0x42#8, exportability := 0x4E#8, version := usageOf "00" }

/-- The outcome of a signature's check (R167, R237): none where it verifies. -/
def signatureRes (alg : Nat) (pub msg sig : Bytes) : Option Res :=
  if (pkAlg alg).elim 0 (·.sig) != sig.length || !sigOk alg pub sig then some (.fail .inputRejected 1#4)
  else if pkVerifyOf alg pub msg sig then none else some .engineTag

/-- What TRANSPORT_IMPORT decides in its first slice: the size of A, target, policy and strength (R165, R167 steps 2
and 3). -/
def transportEarly (c : Channel) (x : Item) (ks : List Loaded) : Option Res :=
  let p := x.pkt.payload
  let k := keyAt ks 0
  let m := u8 p 12
  let a := leAt p 64 2
  if a != transportALen m k.alg then some (.fail .inputRejected 0#4)
  else match c.targetRes x.fn 2 (leAt p 8 4) (u8 p 14 == 1) with
    | some r => some r
    | none =>
      if leAt p 4 4 == noRef && c.grants x.fn 3 then some (.fail .denied denPolicy)
      else if u8 p 13 == 1 then
        if algStrength k.alg < 256 || !c.attrOk x.fn (leAt p 8 4) establishAttr 0#2 5 then some (.fail .denied denPolicy) else none
      else match parseKeyBlock (slice p (72 + a) (leAt p 66 2)) with
        | none => some (.fail .malformed malField)
        | some b =>
          if c.kbPolicy x.fn (leAt p 8 4) b && b.version == 0x44#8
            && decide (leastStrength b.algorithm 0 (b.data.length - 2) ≤ min 256 (algStrength k.alg)) then none
          else some (.fail .denied denPolicy)

/-- What the signature of a transport import gives (R167): none where none is given or it verifies. -/
def importSigned (p : Bytes) (ks : List Loaded) : Option Res :=
  let n := leAt p 64 2
  if leAt p 4 4 == noRef then none
  else signatureRes (keyAt ks 1).alg (pubOf (keyAt ks 1).hdr (keyAt ks 1).material)
    (transportSigned (u8 p 12) (slice p 16 16) (slice p 32 16) (slice p 72 n) (slice p (72 + n) (leAt p 66 2)))
    (p.drop (72 + n + leAt p 66 2))

/-- TRANSPORT_IMPORT after its engine operations (R165 to R167). An A that is refused gives detail 0 (DEDUCED, log 231). -/
def runTransportImport (c : Channel) (x : Item) (ks : List Loaded) : Channel × Res :=
  let p := x.pkt.payload
  let k := keyAt ks 0
  let m := u8 p 12
  let idU := slice p 16 16
  let idV := slice p 32 16
  let a := slice p 72 (leAt p 64 2)
  let kb := slice p (72 + leAt p 64 2) (leAt p 66 2)
  let slot := leAt p 8 4
  match importSigned p ks with
  | some r => (c, r)
  | none =>
    if !transportInputOk m k.alg (pubOf k.hdr k.material) a then (c, .fail .inputRejected 0#4)
    else match transportReceive m k.alg k.material a with
      | none => (c, .fail .invariantFail)
      | some z =>
        let t := transportKeys z m idU idV a
        let tail (r : Channel × Res) : Channel × Res :=
          if m == 2 && r.2.code == .ok then (r.1, { r.2 with bytes := r.2.bytes.take 16 ++ t.tv ++ zeros 8 }) else r
        if m == 2 && slice p 48 16 != t.tu then (c, .engineTag)
        else if u8 p 13 == 1 then tail (c.put x slot establishAttr 0#2 5 t.kbpk)
        else match parseKeyBlock kb with
          | none => (c, .fail .malformed malField)
          | some b => match kbReceive 5 t.kbpk (checkValue 5 t.kbpk) (min 256 (algStrength k.alg)) b with
            | .error r => (c, r)
            | .ok (cls, alg, key) => tail (c.put x slot (Attr.ofHeader b.head) cls alg key)

/-- The place of SOURCE among a transport export's keys. -/
def exportSource (p : Bytes) : Nat := if leAt p 4 4 == noRef then 1 else 2

/-- What TRANSPORT_EXPORT decides in its first slice: the source can travel, and its strength (R147, R160). -/
def exportEarly (x : Item) (ks : List Loaded) : Option Res :=
  let k := keyAt ks 0
  let src := keyAt ks (exportSource x.pkt.payload)
  if (kbChar src.hdr).isNone || algStrength k.alg < keyStrength src.hdr then some (.fail .denied denPolicy) else none

/-- PK_MLDSA after a signing of so many attempts. -/
def Pks.noteAttempts (k : Pks) (n : Nat) (hit : Bool) : Pks :=
  { k with maxAttempts := if k.maxAttempts.toNat < n then BitVec.ofNat 9 n else k.maxAttempts,
           capHits := if hit then satBv k.capHits 1 else k.capHits }

/-- A signature with the closing check of R238: none, with what the command completes with, where the signing was rejected at
its last permitted attempt (R239) or does not verify. -/
def signed (alg : Nat) (key pub inp m : Bytes) : Except Res Bytes :=
  let sig := (pkSignOf alg key inp m).1
  if sig.isEmpty then .error (.fail .faultDetected fltEngine)
  else if pkVerifyOf alg pub inp sig then .ok sig else .error (.fail .invariantFail)

/-- What a transport export makes before it signs (R166, R168): A, the key block and T_U; none where the secret fails. -/
def exportMade (x : Item) (ks : List Loaded) : Option (Bytes × Bytes × Bytes) :=
  let p := x.pkt.payload
  let k := keyAt ks 0
  let src := keyAt ks (exportSource p)
  let m := u8 p 12
  (transportSend m k.alg (pubOf k.hdr k.material) (x.material 1)).map (fun s =>
    let t := transportKeys s.2 m (slice p 16 16) (slice p 32 16) s.1
    (s.1, kbBuild 5 t.kbpk 0x44#8 ((kbChar src.hdr).getD 0#8) src.hdr [] src.material (x.material 0), t.tu))

/-- The message a transport export signs. -/
def exportSigned (x : Item) (a kb : Bytes) : Bytes :=
  let p := x.pkt.payload
  transportSigned (u8 p 12) (slice p 16 16) (slice p 32 16) a kb

/-- TRANSPORT_EXPORT (R168). -/
def runTransportExport (x : Item) (ks : List Loaded) : Res :=
  let p := x.pkt.payload
  match exportMade x ks with
  | none => .fail .invariantFail
  | some (a, kb, tu) =>
    let signer := keyAt ks 1
    let sig : Except Res Bytes := if leAt p 4 4 == noRef then .ok []
      else signed signer.alg signer.material (pubOf signer.hdr signer.material) (exportSigned x a kb) (x.material 2)
    match sig with
    | .error r => r
    | .ok sig =>
      .good (leBytes 2 a.length ++ leBytes 2 kb.length ++ leBytes 2 sig.length ++ zeros 2
        ++ (if u8 p 12 == 2 then tu else zeros 16) ++ a ++ kb ++ sig)

/-! ### Components (R169, R170) -/

/-- The open session of a slot that is no ceremony. -/
def Keys.session (k : Keys) (slot : Nat) : Option Session := k.sessions.find? (fun s => s.slot == slot && !s.ceremony)

/-- A session is discarded, and the discard journaled (R323). -/
def Channel.endSession (c : Channel) (n slot : Nat) : Channel :=
  ({ c with keys := c.keys.dropSession slot } : Channel).journalWrite n slot (.session slot none)

/-- A session is held, and journaled. -/
def Channel.holdSession (c : Channel) (n : Nat) (s : Session) : Channel :=
  let k := c.keys.dropSession s.slot
  ({ c with keys := { k with sessions := k.sessions ++ [s] } } : Channel).journalWrite n s.slot (.session s.slot (some s))

/-- Open sessions of a function, ceremonies among them (R259, R402). -/
def Keys.openSessions (k : Keys) (f : Nat) : Nat := (k.sessions.filter (fun s => s.function == f)).length

/-- COMPONENT_BEGIN (R169, R170). That the usage serves the algorithm is not tested (DEDUCED, log 244). -/
def runCompBegin (c : Channel) (x : Item) : Channel × Res :=
  let p := x.pkt.payload
  let slot := leAt p 0 4
  let n := x.pkt.intakeNo
  let attr := slice p 8 16
  let occupied := c.keys.sessions.find? (fun s => s.slot == slot)
  let denied : Channel × Res := (c, .fail .denied denState)
  match occupied with
  | some s => if s.expiry < x.pkt.intakeTide then (c.endSession n slot, .fail .denied denState) else denied
  | none => match c.targetRes x.fn 0 slot (u8 p 5 == 1) with
    | some r => (c, r)
    | none =>
      if !((Attr.ofHeader attr).accepted && c.mayCreate x.fn (ofPair16 (slice attr 5 2)) && slotFits slot 0#2) then
        (c, .fail .denied denPolicy)
      else if 16 ≤ c.keys.openSessions x.fn then denied
      else
        let expiry := x.pkt.intakeTide + 500000 * leAt p 6 2
        let s : Session := { slot := slot, function := x.fn, ceremony := false, count := u8 p 4, replace := u8 p 5 == 1,
                             attr := attr, kcv := slice p 24 (u8 p 32), nonce := x.material 0, expiry := expiry,
                             received := [], contributors := [] }
        (c.holdSession n s, .good (x.material 0 ++ leBytes 4 expiry))

/-- Key lengths of an algorithm character, shortest first. -/
def componentLens (ch : Byte) : List Nat :=
  if ch == 0x54#8 then [16, 24] else if ch == 0x41#8 then [16, 24, 32] else (List.range 17).map (· + 16)

/-- The length of a key entered by components of 32-byte fields: the shortest length of its algorithm that leaves only
zero bytes beyond it in every field (DEDUCED, assumption 43). -/
def componentLen (ch : Byte) (fields : List Bytes) : Nat :=
  ((componentLens ch).find? (fun n => fields.all (fun f => (f.drop n).all (· == 0#8)))).getD 32

/-- The check value of a component or combined key of an attribute header. -/
def componentCheck (attr key : Bytes) : Bytes :=
  match kbAlg (attr.getD 7 0#8) key.length with
  | some (_, alg) => checkValue alg key
  | none => []

/-- The value a custodian signs (R170). -/
def componentSigned (nonce : Bytes) (slot index custodian : Nat) (kcv : Bytes) : Bytes :=
  sha384 (ascii "LX96COMP" ++ nonce ++ leBytes 4 slot ++ [byte index, byte custodian] ++ kcv)

/-- The signature algorithm a SIG_ALG names. -/
def sigAlgOf (n : Nat) : Nat := if n == 1 then 0x12 else 0x42

/-- Checks 1 to 3 of COMPONENT_ADD: the session and its custodian. The channel is as the checks leave it. A session of another
function is none (DEDUCED, log 243). -/
def componentEarly (c : Channel) (x : Item) : Channel × Option Res :=
  let p := x.pkt.payload
  let slot := leAt p 0 4
  match c.keys.session slot with
  | none => (c, some (.fail .denied denState))
  | some s =>
    if s.function != x.fn then (c, some (.fail .denied denState))
    else if s.expiry < x.pkt.intakeTide then (c.endSession x.pkt.intakeNo slot, some (.fail .denied denState))
    else if u8 p 4 != s.received.length || s.contributors.contains (u8 p 5) then (c, some (.fail .denied denState))
    else match SMap.find? c.records.custodians (16 * x.fn + u8 p 5) with
      | some o => if o.alg == u8 p 6 then (c, none) else (c, some (.fail .denied denPolicy))
      | none => (c, some (.fail .denied denPolicy))

/-- The combined key of the components (R170). -/
def combine (attr : Bytes) (fields : List Bytes) : Bytes :=
  let key := (fields.foldl xorB (zeros 32)).take (componentLen (attr.getD 7 0#8) fields)
  if attr.getD 7 0#8 == 0x54#8 then oddParity key else key

/-- COMPONENT_ADD from its signature check on (R170). -/
def runCompAdd (c : Channel) (x : Item) : Channel × Res :=
  let p := x.pkt.payload
  let slot := leAt p 0 4
  let n := x.pkt.intakeNo
  match c.keys.session slot, SMap.find? c.records.custodians (16 * x.fn + u8 p 5) with
  | some s, some o =>
    let kcv := slice p 8 (u8 p 7)
    let field := slice p 16 32
    let fail : Channel × Res := (c.endSession n slot, .fail .tagFail)
    match signatureRes (sigAlgOf (u8 p 6)) o.key (componentSigned s.nonce slot (u8 p 4) (u8 p 5) kcv) (p.drop 64) with
    | some r => if r.code == .tagFail then fail else (c, r)
    | none =>
      if (componentCheck s.attr (field.take (componentLen (s.attr.getD 7 0#8) [field]))).take kcv.length != kcv then fail
      else
        let fields := s.received ++ [field]
        if fields.length < s.count then
          (c.holdSession n { s with received := fields, contributors := s.contributors ++ [u8 p 5] }, .good [])
        else
          let key := combine s.attr fields
          if (componentCheck s.attr key).take s.kcv.length != s.kcv then fail
          else match kbAlg (s.attr.getD 7 0#8) key.length with
            | none => fail
            | some (cls, alg) => c.put x slot (Attr.ofHeader s.attr) cls alg key
  | _, _ => (c, .fail .denied denState)

/-- COMPONENT_ABANDON (R170). A session of another function is none (DEDUCED, log 243). -/
def runCompAbandon (c : Channel) (x : Item) : Channel × Res :=
  let slot := leAt x.pkt.payload 0 4
  match c.keys.session slot with
  | some s =>
    if s.function != x.fn then (c, .fail .denied denState)
    else (c.endSession x.pkt.intakeNo slot, if s.expiry < x.pkt.intakeTide then .fail .denied denState else .good [])
  | none => (c, .fail .denied denState)

/-! ### Slot management (R267 to R271) -/

/-- KEY_CHECK_VALUE (R267). -/
def runCheckValue (ks : List Loaded) : Res := .good (keyAt ks 0).check

/-- KEY_ATTRIBUTES (R268). -/
def runAttributes (c : Channel) (x : Item) (ks : List Loaded) : Res :=
  let k := keyAt ks 0
  let left := (x.binds.find? (fun b => b.slot == k.slot)).bind (·.ledger)
  let h := match left with
    | some n => { k.hdr with limited := true, useCount := BitVec.ofNat 32 n }
    | none => k.hdr
  let retained := c.keys.retained.any (fun r => r.slot == k.slot && r.generation != k.gen)
  .good (h.bytes ++ k.check ++ [byte (k.tally.exhausted.toNat + 2 * retained.toNat)] ++ zeros 7)

/-- KEY_GENERATE (R269). -/
def runGenerate (c : Channel) (x : Item) : Channel × Res :=
  let p := x.pkt.payload
  let slot := leAt p 0 4
  let alg := u8 p 4
  let a : Attr := { usage := ofPair16 (slice p 8 2), mode := p.getD 10 0#8, exportability := p.getD 7 0#8,
                    version := ofPair16 (slice p 12 2) }
  let key := if alg ≤ 2 then oddParity (x.material 0) else x.material 0
  match c.targetRes x.fn 0 slot (u8 p 6 % 2 == 1) with
  | some r => (c, r)
  | none =>
    if !c.attrOk x.fn slot a 0#2 alg then (c, .fail .denied denPolicy)
    else
      let h := a.header x.fn 0#2 alg key.length
      let c := c.install x.pkt.intakeNo slot { h with isVolatile := u8 p 6 / 2 % 2 == 1 } key
      (c, .good (c.importResult slot))

/-- KEY_RESTRICT (R270): USE_COUNT and LIMITED in the header, and the reseal of MAKE_VOLATILE. -/
def runRestrict (c : Channel) (x : Item) : Channel × Res :=
  let p := x.pkt.payload
  let slot := leAt p 0 4
  let flags := u8 p 4
  match c.keys.loadNow slot with
  | .corrupt => (c, .fail .slotCorrupt)
  | .loaded h _ m _ =>
    if h.owner.toNat != x.fn then (c, .fail .denied denOwner)
    else if h.mgmt then (c, .fail .denied denPolicy)
    else if x.capacityMark then (c, .fail .denied denCapacity)
    else
      let set (h : KeyHeader) : KeyHeader :=
        if flags % 2 == 1 then { h with limited := true, useCount := BitVec.ofNat 32 (leAt p 8 4) }
        else if flags / 2 % 2 == 1 then { h with limited := false, useCount := 0#32 } else h
      let c := if flags / 4 % 2 == 1 && !h.isVolatile then
          c.install x.pkt.intakeNo slot { set h with isVolatile := true } m
        else if flags % 4 == 0 then c
        else
          let k := c.keys.rewrite slot h.generation set id
          ({ c with keys := k } : Channel).journalWrite x.pkt.intakeNo slot (.slot [(slot, k.record slot)])
      (c, .good (c.importResult slot))
  | _ => (c, .fail .slotEmpty)

/-- What ends a KEY_DESTROY without effect (R262); a corrupt slot may be destroyed (R256). -/
def destroyDenied (c : Channel) (x : Item) (slot : Nat) : Option Res :=
  match c.keys.loadNow slot with
  | .loaded h _ _ _ =>
    if h.owner.toNat != x.fn then some (.fail .denied denOwner)
    else if h.mgmt then some (.fail .denied denPolicy) else none
  | .corrupt => none
  | _ => some (.fail .slotEmpty)

/-- KEY_DESTROY once the slot's users have completed (R262, R271). -/
def runDestroy (c : Channel) (x : Item) : Channel × Res :=
  let slot := leAt x.pkt.payload 0 4
  let gen := (c.keys.header slot).generation
  (c.destroySlot x.pkt.intakeNo slot, .good (leBytes 4 slot ++ pair16 gen ++ zeros 34))

end Sys2Proof.Machine
end

