-- ==== Sys2Proof/Machine/RunTokens.lean ====
section
/-! DEFINITION. Tokenisation (R171 to R174): FF1 tokens, and the vault's basins, entries and index. -/

namespace Sys2Proof.Machine

/-- TOKEN_FF1 (R171). -/
def runFf1 (p : Bytes) (ks : List Loaded) : Res :=
  let ds := bcdDigits (slice p 24 16) (u8 p 5)
  let lead := u8 p 6
  let mid := (ds.drop lead).take (u8 p 5 - lead - u8 p 7)
  let tweak := slice p 16 (u8 p 8)
  let out := if u8 p 4 == 0 then ff1Enc (keyAt ks 0).material tweak mid else ff1Dec (keyAt ks 0).material tweak mid
  .good (packFill 32 15 (ds.take lead ++ out ++ ds.drop (u8 p 5 - u8 p 7)))

/-! ### Basins (R172, R173) -/

/-- Entries of a basin, and its index slots. -/
def basinEntries : Nat := 2 ^ 20
def basinIndex : Nat := 2 ^ 21

/-- The four keys derived from a vault key (R172). -/
structure VaultKeys where
  tok : Bytes
  pan : Bytes
  idx : Bytes
  tag : Bytes
  deriving DecidableEq, Repr

/-- The derivation of R172. -/
def vaultKeys (k : Bytes) : VaultKeys :=
  { tok := kdfCtrCmac k (ascii "TOK") 32, pan := kdfCtrCmac k (ascii "PAN") 32, idx := kdfCtrCmac k (ascii "IDX") 32,
    tag := kdfCtrCmac k (ascii "TAG") 32 }

/-- An entry number as the derivations take it; its width is the model's (assumption 44). -/
def entryBytes (e : Nat) : Bytes := beBytes 4 e

/-- Bits [79:0] of an entry record: PAN_CT, PAN_LEN and STATE. -/
def entryBody (ct len state : Nat) : Nat := ct % 2 ^ 64 + 2 ^ 64 * (len % 32) + 2 ^ 69 * state

/-- TAG of an entry (R172). -/
def entryTag (v : VaultKeys) (e body : Nat) : Nat := beNat ((aesCmac v.tag (entryBytes e ++ leBytes 10 body)).take 6)

/-- An entry record. -/
def entryRecord (v : VaultKeys) (e : Nat) (pan : List Nat) (state : Nat) : Nat :=
  let body := entryBody (digitsNat (ff1Enc v.pan (entryBytes e) pan)) pan.length state
  body + 2 ^ 80 * entryTag v e body

/-- TAG of a record verifies. -/
def entryOk (v : VaultKeys) (e r : Nat) : Bool := r / 2 ^ 80 == entryTag v e (r % 2 ^ 80)

/-- STATE of a record. -/
def entryState (r : Nat) : Nat := r / 2 ^ 69 % 4

/-- The PAN of a record. -/
def entryPan (v : VaultKeys) (e r : Nat) : List Nat :=
  ff1Dec v.pan (entryBytes e) (natDigits (r / 2 ^ 64 % 32) (r % 2 ^ 64))

/-- The digits a shape keeps at each end. -/
def keptLead (b : Basin) (ds : List Nat) : List Nat := ds.take b.keepLead
def keptTrail (b : Basin) (ds : List Nat) : List Nat := ds.drop (ds.length - b.keepTrail)

/-- The FF1 tweak of a token (R173). -/
def tokenTweak (basin : Nat) (b : Basin) (ds : List Nat) : Bytes :=
  beBytes 2 basin ++ packFill 8 15 (keptLead b ds) ++ packFill 4 15 (keptTrail b ds)

/-- The digits between the kept ones. -/
def middle (b : Basin) (ds : List Nat) : List Nat := (ds.drop b.keepLead).take (ds.length - b.keepLead - b.keepTrail)

/-- The number of middle digits of a number under a shape. -/
def middleLen (b : Basin) (n : Nat) : Nat := n - b.keepLead - b.keepTrail

/-- The token of an entry (R173). -/
def tokenOf (v : VaultKeys) (basin : Nat) (b : Basin) (pan : List Nat) (e : Nat) : List Nat :=
  keptLead b pan ++ ff1Enc v.tok (tokenTweak basin b pan) (natDigits (middleLen b pan.length) e) ++ keptTrail b pan

/-- The entry number a token names. -/
def tokenEntry (v : VaultKeys) (basin : Nat) (b : Basin) (token : List Nat) : Nat :=
  digitsNat (ff1Dec v.tok (tokenTweak basin b token) (middle b token))

/-- Where a PAN's index probe starts, and its fingerprint (R174). -/
def probeOf (v : VaultKeys) (pan : List Nat) : Nat × Nat :=
  let h := beNat (aesCmac v.idx (packFill 20 15 pan ++ [byte pan.length]))
  (h % 2 ^ 21, h / 2 ^ 21 % 2 ^ 10)

/-- What a probe of the index finds: an entry whose PAN is equal and live, a TAG that fails, or nothing, with the first
empty or tombstone slot met. -/
inductive Probe where
  | found (e : Nat)
  | corrupt
  | absent (place : Option Nat)
  deriving DecidableEq, Repr

/-- An index slot: 0 empty, 1 used, 2 tombstone. -/
def slotState (w : Nat) : Nat := w / 2 ^ 30

/-- The probe of R174 over at most `n` more slots from `i`. -/
def Keys.probe (k : Keys) (v : VaultKeys) (basin : Nat) (pan : List Nat) (fp : Nat) : Nat → Nat → Option Nat → Probe
  | 0, _, place => .absent place
  | n + 1, i, place =>
    let at' := basinIndex * basin + i % basinIndex
    let w := SMap.get 0 k.index at'
    let e := basinEntries * basin + w % 2 ^ 20
    let r := SMap.get 0 k.entries e
    if slotState w == 0 then .absent (place.orElse (fun _ => some at'))
    else if slotState w == 1 then
      if w / 2 ^ 20 % 2 ^ 10 == fp then
        if !entryOk v e r then .corrupt
        else if entryState r == 1 && entryPan v e r == pan then .found e
        else k.probe v basin pan fp n (i + 1) place
      else k.probe v basin pan fp n (i + 1) place
    else k.probe v basin pan fp n (i + 1) (place.orElse (fun _ => some at'))

/-- The index slot, of at most `n` from `i`, that a live entry occupies. -/
def Keys.indexOf (k : Keys) (basin e : Nat) : Nat → Nat → Option Nat
  | 0, _ => none
  | n + 1, i =>
    let at' := basinIndex * basin + i % basinIndex
    let w := SMap.get 0 k.index at'
    if slotState w == 1 && w % 2 ^ 20 == e % 2 ^ 20 then some at'
    else if slotState w == 0 then none else k.indexOf basin e n (i + 1)

/-- A basin's change is stored and journaled. -/
def Channel.writeBasin (c : Channel) (n basin : Nat) (b : Basin) (entry index : List (Nat × Nat)) : Channel :=
  let k := c.keys
  let put (m : SMap Nat) (l : List (Nat × Nat)) : SMap Nat := l.foldl (fun m p => SMap.set 0 m p.1 p.2) m
  let k := { k with basins := SMap.insert k.basins basin b, entries := put k.entries entry, index := put k.index index }
  ({ c with keys := k } : Channel).journalWrite n basin (.basin basin b entry index)

/-- The vault key's read (R146, R172, R463): the basin's slot, AES-256, usage 11, mode N. No payload field names
it, so a failed check has detail 0, and its use is not counted (DEDUCED, log 242). -/
def Channel.vaultKey (c : Channel) (f : Nat) (b : Basin) : Except Res VaultKeys :=
  if !c.granted f b.vaultSlot then .error (.fail .denied denOwner)
  else match c.keys.loadNow b.vaultSlot with
    | .loaded h _ m _ =>
      if h.owner.toNat != f then .error (.fail .denied denOwner)
      else if h.cls != 0#2 || h.alg != 5#8 || !h.for_ "11" "N" then .error (.fail .keyUsageDenied)
      else .ok (vaultKeys m)
    | .corrupt => .error (.fail .slotCorrupt)
    | _ => .error (.fail .slotEmpty)

/-- The owned basin of a command with its keys, once the number's length fits its shape (R172, R173). R173 refuses
only a PAN so; a token that is too short is refused as one (DEDUCED, log 241). -/
def Channel.openBasin (c : Channel) (f basin len : Nat) : Except Res (Basin × VaultKeys) :=
  match SMap.find? c.keys.basins basin with
  | none => .error (.fail .denied denOwner)
  | some b =>
    if b.owner != f then .error (.fail .denied denOwner)
    else match c.vaultKey f b with
      | .error r => .error r
      | .ok v => if middleLen b len < 10 then .error (.fail .denied denPolicy) else .ok (b, v)

/-- The result of a tokenisation. -/
def tokenResult (token : List Nat) (new : Nat) : Res := .good (packFill 20 15 token ++ [byte new])

/-- VAULT_TOKENISE (R174). -/
def runTokenise (c : Channel) (x : Item) : Channel × Res :=
  let p := x.pkt.payload
  let n := leAt p 0 2
  let pan := bcdDigits (slice p 4 10) (u8 p 2)
  match c.openBasin x.fn n pan.length with
  | .error r => (c, r)
  | .ok (b, v) =>
    let (start, fp) := probeOf v pan
    match c.keys.probe v n pan fp 128 start none with
    | .corrupt => (c, .fail .slotCorrupt)
    | .found e => (c, tokenResult (tokenOf v n b pan e) 0)
    | .absent place =>
      if u8 p 3 == 1 then (c, .fail .slotEmpty)
      else match place with
        | none => (c, .fail .denied denCapacity)
        | some at' =>
          if b.next == basinEntries then (c, .fail .denied denCapacity)
          else
            let e := basinEntries * n + b.next
            let c := c.writeBasin x.pkt.intakeNo n { b with next := b.next + 1 } [(e, entryRecord v e pan 1)]
              [(at', b.next + 2 ^ 20 * fp + 2 ^ 30)]
            (c, tokenResult (tokenOf v n b pan e) 1)

/-- The live entry and PAN a token names (R174). -/
def resolveToken (c : Channel) (n : Nat) (b : Basin) (v : VaultKeys) (token : List Nat) : Except Res (Nat × List Nat) :=
  let e := tokenEntry v n b token
  let r := SMap.get 0 c.keys.entries e
  if e / basinEntries != n || b.next ≤ e % basinEntries || entryState r != 1 then .error (.fail .slotEmpty)
  else if !entryOk v e r then .error (.fail .slotCorrupt)
  else
    let pan := entryPan v e r
    if keptLead b pan != keptLead b token || keptTrail b pan != keptTrail b token then .error (.fail .slotEmpty)
    else .ok (e, pan)

/-- VAULT_DETOKENISE (R174). -/
def runDetokenise (c : Channel) (x : Item) : Res :=
  let p := x.pkt.payload
  let n := leAt p 0 2
  let token := bcdDigits (slice p 4 10) (u8 p 2)
  match c.openBasin x.fn n token.length with
  | .error r => r
  | .ok (b, v) =>
    if !b.detokGrant then .fail .denied denPolicy
    else match resolveToken c n b v token with
      | .error r => r
      | .ok (_, pan) => .good (packFill 20 15 pan ++ [byte pan.length])

/-- VAULT_DELETE (R174). -/
def runVaultDelete (c : Channel) (x : Item) : Channel × Res :=
  let p := x.pkt.payload
  let n := leAt p 0 2
  let token := bcdDigits (slice p 4 10) (u8 p 2)
  match c.openBasin x.fn n token.length with
  | .error r => (c, r)
  | .ok (b, v) => match resolveToken c n b v token with
    | .error r => (c, r)
    | .ok (e, pan) =>
      let index := match c.keys.indexOf n e 128 (probeOf v pan).1 with
        | some at' => [(at', SMap.get 0 c.keys.index at' % 2 ^ 30 + 2 * 2 ^ 30)]
        | none => []
      (c.writeBasin x.pkt.intakeNo n b [(e, entryRecord v e pan 2)] index, .good [])

end Sys2Proof.Machine
end

