-- ==== Sys2Proof/Machine/RunCipher.lean ====
section
/-! DEFINITION. The bulk ciphers, streams and digests (R185 to R200, R205, R215), and the usage tallies of a generation
(R186 to R188). -/

namespace Sys2Proof.Machine

/-! ### Bulk ciphers (R190 to R193) -/

/-- Block size of a loaded key. -/
def Loaded.block (k : Loaded) : Nat := algBlock k.alg

/-- CIPHER_ENCRYPT (R191, R192). -/
def runEncrypt (p : Bytes) (ks : List Loaded) (rand : Bytes) : Res :=
  let k := keyAt ks 0
  let aad := slice p 48 (leAt p 10 2)
  let data := slice p (48 + leAt p 10 2) (leAt p 8 2)
  match u8 p 4 with
  | 1 =>
    let iv := rand.take k.block
    let padded := if u8 p 5 == 2 then
        let d := data ++ [0x80#8]
        d ++ zeros ((k.block - d.length % k.block) % k.block)
      else data
    .good (iv ++ cbcEnc (cipherOf k.alg k.material) iv padded)
  | 2 =>
    let iv := rand.take 12 ++ beBytes 4 1
    .good (iv ++ ctrRun (aesCipher k.material) ctr32 iv data)
  | _ =>
    let iv := rand.take 12
    let (ct, tag) := gcmEnc k.material iv aad data
    .good (iv ++ ct ++ tag.take (u8 p 6))

/-- CIPHER_DECRYPT (R191, R193). -/
def runDecrypt (p : Bytes) (ks : List Loaded) : Res :=
  let k := keyAt ks 0
  let aad := slice p 48 (leAt p 10 2)
  let data := slice p (48 + leAt p 10 2) (leAt p 8 2)
  match u8 p 4 with
  | 1 => .good (cbcDec (cipherOf k.alg k.material) (slice p 16 k.block) data)
  | 2 => .good (ctrRun (aesCipher k.material) ctr32 (slice p 16 16) data)
  | _ =>
    let j0 := gcmJ0 (slice p 16 12)
    let h := gcmH k.material
    let tag := gcmTag h (ghash h (ghash h 0#128 aad) data) aad.length data.length (aesEnc k.material j0)
    if tag.take (u8 p 6) == slice p 32 (u8 p 6) then .good (ctrRun (aesCipher k.material) ctr32 (ctr32 j0 1) data)
    else .fail .tagFail

/-! ### Tallies (R186 to R188) -/

/-- What a command adds to its key's tallies: the payload index of the key, CBC, CTR and GCM blocks, GCM encryptions. -/
def tallyOf (o : Op) (p : Bytes) : Option (Nat × Nat × Nat) :=
  let alg := krAlg (leAt p 0 4)
  match o with
  | .cipherEncrypt =>
    let n := leAt p 8 2
    let b := algBlock alg
    some (0, if u8 p 4 == 1 && u8 p 5 == 2 then n / b + 1 else ceilDiv n b, if u8 p 4 == 3 then 1 else 0)
  | .cipherDecrypt => some (0, ceilDiv (leAt p 8 2) (algBlock alg), 0)
  | .streamOpen => some (0, ceilDiv (leAt p 8 8) 16, if u8 p 5 == 0 then 1 else 0)
  | .dukptData => if u8 p 8 == 1 then some (1, leAt p 10 2 / algBlock (krAlg (leAt p 4 4)), 0) else none
  | _ => none

/-! ### Streams (R194 to R200) -/

/-- The context number of a stream command. -/
def streamIx (x : Item) : Nat :=
  64 * x.fn + (if x.op == .streamOpen then u8 x.pkt.payload 4 else u8 x.pkt.payload 0)

/-- The stream context. -/
def Channel.stream (c : Channel) (n : Nat) : Stream := SMap.get Stream.free c.rakes.streams n

/-- The tallies of a command are added at its key read, twice for a halved one; a generation that first reaches a limit
is reported to the port die (R187, R188). A STREAM_OPEN on a context that is not free adds nothing (R196). -/
def Channel.addTally (c : Channel) (x : Item) (ks : List Loaded) : Channel :=
  match tallyOf x.op x.pkt.payload with
  | none => c
  | some (i, blocks, gcm) =>
    match ks.find? (fun k => k.idx == i) with
    | none => c
    | some k =>
      if !k.hdr.hasTally || (x.op == .streamOpen && (c.stream (streamIx x)).state != .free) then c
      else
        let m := if x.pkt.hdr.halved then 2 else 1
        let t := k.tally.add k.alg (m * blocks) (m * gcm)
        let keys := c.keys.rewrite k.slot k.gen id (fun _ => t)
        let lim := (c.policy x.fn).aesLimit
        let c := { c with keys := keys }
        let fixed := c.keys.exhaustAt.any (fun y => y.1 == k.slot && y.2.1 == k.gen)
        if t.reached lim && !(k.tally.reached lim && fixed) && !keys.reported.contains (k.slot, k.gen) then
          let r := c.rakes
          { c with keys := { keys with reported := keys.reported ++ [(k.slot, k.gen)] },
                   rakes := { r with exhaustReports := satBv r.exhaustReports 1 } }
        else c

/-- A stream context is written, and the change journaled (R195). -/
def Channel.setStream (c : Channel) (intakeNo n : Nat) (s : Stream) : Channel :=
  let r := c.rakes
  ({ c with rakes := { r with streams := SMap.set Stream.free r.streams n s } } : Channel).journalWrite intakeNo n (.stream n s)

/-- A stream's crust key is destroyed with its context, which takes the state given: free or dead (R199, R200). -/
def Channel.dropStream (c : Channel) (intakeNo n : Nat) (s : Stream) (after : Stream) : Channel :=
  ({ c with rakes := c.rakes.countCrust [s] } : Channel).setStream intakeNo n after

/-- STREAM_OPEN (R196). -/
def runStreamOpen (c : Channel) (x : Item) (ks : List Loaded) : Channel × Res :=
  let p := x.pkt.payload
  let k := keyAt ks 0
  let n := streamIx x
  if (c.stream n).state != .free then (c, .fail .denied denState)
  else
    let dec := u8 p 5 == 1
    let iv := if dec then slice p 32 12 else (x.material 0).take 12
    let j0 := gcmJ0 iv
    let h := gcmH k.material
    let aad := slice p 48 (leAt p 16 2)
    let s : Stream :=
      { state := .opened, decrypt := dec, tagLen := u8 p 6, alg := k.alg, slot := k.slot, generation := k.gen,
        aadLen := aad.length, totalLen := leAt p 8 8, received := 0, key := k.material,
        crustKey := if dec then x.material 0 else [], h := h, ej0 := aesEnc k.material j0, ctr := 2, iv := iv,
        ghash := ghash h 0#128 aad, partialCt := [], partKs := [] }
    (c.setStream x.pkt.intakeNo n s, .good (if dec then [] else iv))

/-- The crust keystream from stream offset `o`, `n` bytes (R198). -/
def crustStream (key : Bytes) (o n : Nat) : Bytes :=
  let first := o / 16
  let blocks := ceilDiv (o % 16 + n) 16
  slice ((List.range blocks).flatMap (fun i => aesEnc key (beBytes 16 (first + i)))) (o % 16) n

/-- A segment is processed: ciphertext or crusted plaintext, and the context after it (R197, R198). -/
def Stream.segment (s : Stream) (seg : Bytes) : Bytes × Stream :=
  let need := seg.length - s.partKs.length
  let blocks := ceilDiv need 16
  let ks := s.partKs ++ (List.range blocks).flatMap (fun i => aesEnc s.key (s.iv ++ beBytes 4 ((s.ctr + i) % 2 ^ 32)))
  let out := xorB seg ks
  let ct := s.partialCt ++ (if s.decrypt then seg else out)
  let whole := ct.length / 16 * 16
  let res := if s.decrypt then xorB out (crustStream s.crustKey s.received seg.length) else out
  (res, { s with received := s.received + seg.length, ctr := (s.ctr + blocks) % 2 ^ 32,
                 ghash := Sys2Proof.ghash s.h s.ghash (ct.take whole), partialCt := ct.drop whole, partKs := ks.drop seg.length })

/-- GHASH closed with the partial block and the lengths block: the tag (R199). -/
def Stream.tag (s : Stream) : Bytes := gcmTag s.h (Sys2Proof.ghash s.h s.ghash s.partialCt) s.aadLen s.received s.ej0

/-- What STREAM_UPDATE and STREAM_FINAL decide before lane work: the context's state and the lengths (R197, R199). The
channel is as the decision leaves it. -/
def streamEarly (c : Channel) (x : Item) : Channel × Option Res :=
  let p := x.pkt.payload
  let n := streamIx x
  let s := c.stream n
  let final := x.op == .streamFinal
  let len := leAt p 4 2
  let off := leAt p 8 8
  if s.state != .opened then (c, some (.fail .denied denState))
  else if off != s.received || s.totalLen < s.received + len || (final && s.received + len != s.totalLen) then
    (c.dropStream x.pkt.intakeNo n s (if final then Stream.free else s.kill), some (.fail .lengthMismatch))
  else (c, none)

/-- STREAM_UPDATE (R197). -/
def runStreamUpdate (c : Channel) (x : Item) : Channel × Res :=
  let n := streamIx x
  let s := c.stream n
  if s.state != .opened then (c, .fail .denied denState)
  else
    let (out, s) := s.segment (x.pkt.payload.drop 16)
    (c.setStream x.pkt.intakeNo n s, .good out)

/-- STREAM_FINAL (R199). -/
def runStreamFinal (c : Channel) (x : Item) : Channel × Res :=
  let n := streamIx x
  let s := c.stream n
  if s.state != .opened then (c, .fail .denied denState)
  else
    let (out, t) := s.segment (x.pkt.payload.drop 32)
    let tag := t.tag.take s.tagLen
    if !s.decrypt then (c.setStream x.pkt.intakeNo n Stream.free, .good (out ++ tag))
    else if tag == slice x.pkt.payload 16 s.tagLen then
      (c.setStream x.pkt.intakeNo n Stream.free, .good (s.crustKey ++ out))
    else
      let c := c.dropStream x.pkt.intakeNo n s Stream.free
      let r := c.rakes
      ({ c with rakes := { r with tagFails := satBv r.tagFails 1 } }, .fail .tagFail)

/-- STREAM_ABANDON (R200). -/
def runStreamAbandon (c : Channel) (x : Item) : Channel × Res :=
  let n := streamIx x
  let s := c.stream n
  if s.state == .free then (c, .fail .denied denState) else (c.dropStream x.pkt.intakeNo n s Stream.free, .good [])

/-! ### Digests (R205, R215) -/

/-- A digest algorithm of R205. -/
def digestOf (algo : Nat) : Bytes → Bytes :=
  match algo with
  | 1 => sha224 | 2 => sha256 | 3 => sha384 | 4 => sha512 | 5 => sha3_256 | _ => sha3_512

/-- Block or rate of a digest algorithm, and cycles a block (R205). -/
def digestBlock (algo : Nat) : Nat × Nat :=
  match algo with
  | 1 | 2 => (64, 68) | 3 | 4 => (128, 84) | 5 => (136, 28) | _ => (72, 28)

/-- DIGEST (R215). -/
def runDigest (p : Bytes) : Res := .good (digestOf (u8 p 0) (p.drop 16))

end Sys2Proof.Machine
end

