-- ==== Sys2Proof/Machine/RunPk.lean ====
section
/-! DEFINITION. The public-key operations (R224 to R242): what is decided before an engine takes a command, and what the
engine completes it with. -/

namespace Sys2Proof.Machine

/-- IN and SIG of a payload (R224). -/
def pkIn (p : Bytes) : Bytes := slice p 32 (leAt p 6 2)
def pkSig (p : Bytes) : Bytes := slice p (32 + leAt p 6 2) (leAt p 16 2)

/-- The target's attributes as the payload gives them; the key version is "00". -/
def pkAttr (p : Bytes) : Attr :=
  { usage := ofPair16 (slice p 12 2), mode := p.getD 14 0#8, exportability := p.getD 15 0#8, version := usageOf "00" }

/-- The target usage and mode of R226. -/
def pkTargetOk (o : Op) (p : Bytes) : Bool :=
  let a := pkAttr p
  let alg := u8 p 4
  let is (u ms : String) : Bool := a.usage == usageOf u && (ascii ms).contains a.mode
  match o with
  | .pkKeygen =>
    ((isPCurve alg || alg == 0x21 || isMlDsa alg) && is "S0" "S") || ((isPCurve alg || alg == 0x22) && is "K3" "X")
    || ((pkAlg alg).elim false (·.kem) && is "K3" "D")
  | .pkPubkeyImport =>
    ((pkAlg alg).elim false (·.sign) && is "S0" "V") || ((isRsa alg || (pkAlg alg).elim false (·.kem)) && is "K3" "E")
    || ((isPCurve alg || alg == 0x22) && is "K3" "X")
  | .pkAgree | .pkEncap | .pkDecap => a.accepted && usageFits a.usage 0#2 (u8 p 5)
  | _ => true

/-- The class of the key an operation writes. -/
def pkClass (o : Op) : BitVec 2 :=
  match o with
  | .pkKeygen => 1#2
  | .pkPubkeyImport => 2#2
  | _ => 0#2

/-- Bytes of a derived key (R228). -/
def pkOutLen (p : Bytes) : Nat := if u8 p 5 == 6 then 32 else algLen (u8 p 5)

/-- The strength rule of R147 holds for a derived key (R228). -/
def pkStrengthOk (o : Op) (p : Bytes) : Bool :=
  !o.pkDerives || decide (keyStrength ((pkAttr p).header 0 0#2 (u8 p 5) (pkOutLen p)) ≤ algStrength (u8 p 4))

/-- What an operation that writes TARGET decides before its engine takes it: the target, then usage, mode, range, policy
and strength (R161 steps 3 and 4, R226, R228). R243 gives SLOT_CORRUPT to KEY alone, so a corrupt TARGET is an occupied one that
may not be replaced (DEDUCED, log 232). -/
def pkEarly (c : Channel) (x : Item) : Option Res :=
  let p := x.pkt.payload
  if !x.op.pkWrites then none
  else match c.targetRes x.fn 1 (leAt p 8 4) (u8 p 18 == 1) with
    | some r => some (if r.code == .slotCorrupt then .fail .denied denState else r)
    | none =>
      let a := pkAttr p
      if pkTargetOk x.op p && c.mayCreate x.fn a.usage && slotFits (leAt p 8 4) (pkClass x.op) && pkStrengthOk x.op p then none
      else some (.fail .denied denPolicy)

/-! ### Engine operations (R148, R230, R236 to R239, R246) -/

/-- An operation that an item has a public-key engine do: algorithm, OP of PK_n_STATUS, and cycles. -/
structure PkStep where
  algo : Nat
  op : Nat
  cycles : Nat
  deriving DecidableEq, Repr

/-- The operations of R230's table by their numbers in PK_n_STATUS, without a message's extra time. -/
def PkStep.of (algo op : Nat) (column : Nat) : PkStep :=
  { algo := algo, op := op, cycles := (pkAlg algo).elim 0 (fun a => a.cyc.getD column 0) }
def PkStep.verify (algo : Nat) : PkStep := .of algo 2 2

/-- OP of an operation of range 0x0700 (R246). -/
def pkOpNum (o : Op) : Nat :=
  match o with
  | .pkSign => 1
  | .pkVerify => 2
  | .pkKeygen => 3
  | .pkAgree => 4
  | .pkEncap => 5
  | .pkDecap => 6
  | _ => 7

/-- The engine operations of an item, in order: the signature of an import comes before its key operation (R167), that of an
export after it, and an ECDH export makes its ephemeral key and agrees (R148, R168). -/
def pkSteps (x : Item) (ks : List Loaded) : List PkStep :=
  let p := x.pkt.payload
  let k := (keyAt ks 0).alg
  let signer (s : PkStep) : List PkStep := if leAt p 4 4 == noRef then [] else [s]
  match x.op with
  | .componentAdd => [.verify (sigAlgOf (u8 p 6))]
  | .transportImport => signer (.verify (keyAt ks 1).alg)
      ++ [match u8 p 12 with | 1 => .of k 6 1 | 2 => .of k 4 3 | _ => .of k 6 5]
  | .transportExport => (match u8 p 12 with | 1 => [.of k 5 2] | 2 => [.of k 3 0, .of k 4 3] | _ => [.of k 5 4])
      ++ signer (.of (keyAt ks 1).alg 1 1)
  | o => [{ algo := u8 p 4, op := pkOpNum o, cycles := pkCycles o (u8 p 4) (leAt p 6 2) }]

/-- The operation an item's engine does now, or will do next. -/
def pkStep (x : Item) (ks : List Loaded) : PkStep := (pkSteps x ks).getD x.stage { algo := 0, op := 0, cycles := 0 }

/-- The item has an engine operation left. -/
def pkLeft (x : Item) (ks : List Loaded) : Bool := decide (x.stage < (pkSteps x ks).length)

/-- Cycles of an operation's validation stage; an export has none (R230, R236). -/
def pkValid (x : Item) (ks : List Loaded) : Nat :=
  if x.op == .pkPubkeyExport then 0 else (pkAlg (pkStep x ks).algo).elim 0 (·.valid)

/-- Operands that the validation stage refuses: the lowest payload index of one (R236, R237). The signature of an import is
validated by its own operation, before A (R167); A, whose payload gives it no key index, has detail 0 (DEDUCED, log 231). -/
def pkRejected (x : Item) (ks : List Loaded) : Option (BitVec 4) :=
  let p := x.pkt.payload
  let alg := u8 p 4
  let k := keyAt ks 0
  let pub := pubOf k.hdr k.material
  match x.op with
  | .pkVerify => if sigOk alg pub (pkSig p) then none else some 3#4
  | .pkAgree | .pkPubkeyImport => if pubKeyOk alg (pkIn p) then none else some 2#4
  | .pkEncap => if mlkemKeyOk pub then none else some 0#4
  | .transportImport =>
    if (pkStep x ks).op == 2 then
      match importSigned p ks with
      | some r => if r.code == .inputRejected then some 1#4 else none
      | none => none
    else if transportInputOk (u8 p 12) k.alg pub (slice p 72 (leAt p 64 2)) then none else some 0#4
  | .transportExport => if (pkStep x ks).op != 5 || u8 p 12 != 3 || mlkemKeyOk pub then none else some 0#4
  | _ => none

/-- A component's signature is malformed (R170, R236). -/
def Channel.componentRejected (c : Channel) (x : Item) : Option (BitVec 4) :=
  match SMap.find? c.records.custodians (16 * x.fn + u8 x.pkt.payload 5) with
  | some o => if sigOk (sigAlgOf (u8 x.pkt.payload 6)) o.key (x.pkt.payload.drop 64) then none else some 1#4
  | none => none

/-- What the validation stage of an item's job refuses. -/
def Channel.pkRefuses (c : Channel) (x : Item) (ks : List Loaded) : Option (BitVec 4) :=
  if x.op == .componentAdd then c.componentRejected x else pkRejected x ks

/-- The operation ends with a closing check (R238): a signing, a key generation, an agreement, an RSA private operation. -/
def PkStep.closes (s : PkStep) : Bool := s.op == 1 || s.op == 3 || s.op == 4 || (s.op == 6 && isRsa s.algo)

/-- The operation carries a verdict as a pair of signals (R213, R238). -/
def PkStep.hasVerdict (s : PkStep) : Bool := s.op == 2

/-- Cycles of an ML-DSA signing of `n` attempts (R239). -/
def mldsaTime (algo n : Nat) : Nat :=
  match algo with
  | 0x41 => 81920 + 20480 * n
  | 0x42 => 131072 + 30720 * n
  | _ => 204800 + 43008 * n

/-- The key, message and random material of an item's signing. -/
def signInput (x : Item) (ks : List Loaded) : Bytes × Bytes × Bytes :=
  if x.op == .transportExport then
    ((keyAt ks 1).material, ((exportMade x ks).elim [] (fun r => exportSigned x r.1 r.2.1)), x.material 2)
  else ((keyAt ks 0).material, pkIn x.pkt.payload, x.material 0)

/-- The attempts of the ML-DSA signing that an item's engine does, and whether the cap ended it; none where it does no such
signing (R239). -/
def signAttempts (x : Item) (ks : List Loaded) : Option (Nat × Bool) :=
  let s := pkStep x ks
  if s.op != 1 || !isMlDsa s.algo then none
  else
    let i := signInput x ks
    let r := pkSignOf s.algo i.1 i.2.1 i.2.2
    some (r.2, r.1.isEmpty)

/-- The cycles an operation runs: those of R230, and of R239 by the attempts an ML-DSA signing takes. -/
def pkTime (x : Item) (ks : List Loaded) : Nat :=
  let s := pkStep x ks
  match signAttempts x ks with
  | some (n, _) => mldsaTime s.algo n + pkExtra s.algo true (signInput x ks).2.1.length
  | none => s.cycles

/-- A signing that has run is noted in PK_MLDSA, however it ends (R239). -/
def Channel.noteSigning (c : Channel) (x : Item) (ks : List Loaded) : Channel :=
  match signAttempts x ks with
  | some (n, hit) => { c with pks := c.pks.noteAttempts n hit }
  | none => c

/-- The secret operands that reach an engine by the private key bus, or that it makes (R240). -/
def pkSecret (x : Item) (ks : List Loaded) : Bytes :=
  if x.op == .pkKeygen then (pkKeygenOf (u8 x.pkt.payload 4) (x.material 0)).1
  else (ks.filter (fun k => k.hdr.cls == 1#2)).flatMap (·.material)

/-- The derived key (R228). -/
def pkDerive (p z bound : Bytes) : Bytes :=
  let info := ascii "LX96KA" ++ [byte (u8 p 4), byte (u8 p 5)] ++ slice p 12 2 ++ slice p 14 1 ++ slice p 20 12 ++ sha256 bound
  kdfOneStep z info (pkOutLen p)

/-- A signature (R225, R238, R239). -/
def runSign (x : Item) (ks : List Loaded) : Res :=
  let p := x.pkt.payload
  let k := keyAt ks 0
  match signed (u8 p 4) k.material (pubOf k.hdr k.material) (pkIn p) (x.material 0) with
  | .ok sig => .good sig
  | .error r => r

/-- What an engine's good end completes a command with (R229). -/
def runPk (c : Channel) (x : Item) (ks : List Loaded) : Channel × Res :=
  let p := x.pkt.payload
  let k := keyAt ks 0
  let alg := u8 p 4
  let slot := leAt p 8 4
  let install (key : Bytes) : Channel × Res := c.put x slot (pkAttr p) 0#2 (u8 p 5) key
  match x.op with
  | .pkSign => (c, runSign x ks)
  | .pkVerify => (c, .verdict (pkVerifyOf alg (pubOf k.hdr k.material) (pkIn p) (pkSig p)) .tagFail)
  | .pkKeygen =>
    let (priv, pub) := pkKeygenOf alg (x.material 0)
    let (c, r) := c.put x slot (pkAttr p) 1#2 alg (priv ++ pub)
    (c, .good (r.bytes.take 8 ++ pub))
  | .pkAgree => match pkAgreeOf alg k.material (pkIn p) with
    | none => (c, .fail .invariantFail)
    | some z => install (pkDerive p z (pkIn p))
  | .pkEncap =>
    let (ct, z) := mlkemEncap alg (pubOf k.hdr k.material) (x.material 0)
    let (c, r) := install (pkDerive p z ct)
    (c, .good (r.bytes.take 16 ++ ct))
  | .pkDecap => install (pkDerive p (mlkemDecap alg k.material (pkIn p)) (pkIn p))
  | .pkPubkeyExport => (c, .good (pubOf k.hdr k.material))
  | _ => c.put x slot (pkAttr p) 2#2 alg (pkIn p)

end Sys2Proof.Machine
end

