-- ==== Sys2Proof/Machine/Items.lean ====
section
/-! DEFINITION. Work items in a channel (R81 to R96): their flows and bindings, the ready lists and pre-emption, the
scheduling trace, completions waiting at producers, and how an item is stopped. -/

namespace Sys2Proof.Machine

/-! ### Items -/

/-- The channel with its scheduler changed. -/
def Channel.onSched (c : Channel) (f : Sched → Sched) : Channel := { c with sched := f c.sched }

/-- A work item. -/
def Channel.item? (c : Channel) (id : Nat) : Option Item := c.sched.items.find? (fun x => x.id == id)

/-- The channel with a work item replaced. -/
def Channel.setItem (c : Channel) (x : Item) : Channel :=
  c.onSched (fun d => { d with items := d.items.map (fun y => if y.id == x.id then x else y) })

/-- A command as decode makes it a work item. -/
def Item.new (id : Nat) (op : Op) (k : Packet) : Item :=
  { id := id, op := op, pkt := k, phase := .waiting, admitAt := none, admitTide := k.intakeTide, startTide := none,
    due := none, missed := false, exempt := false, urgent := false, level := k.hdr.priority, deps := [], binds := [],
    ledgerSeen := [], pair := none, charge := 0, fills := [], expiryPending := false, noLimit := false, remaining := 0,
    sliceStart := 0, saved := false, savedAt := 0, stage := 0, capacityMark := false, shadow := 0,
    waitedFill := false, read := false, kept := [], missedSlots := [], superseded := false, dectab := [], drawn := [], rngFailed := false, drawnAt := 0 }

/-- The item at its effective priority, by the PRIO_LIMIT in force for its queue (R75). -/
def Item.limited (x : Item) (p : PortDie) : Item :=
  { x with level := x.pkt.level (p.queue x.pkt.hdr.queue.toNat).conf.prioLimit }

/-- The item's payload, class and kind. -/
abbrev Item.p (x : Item) : Bytes := x.pkt.payload
abbrev Item.halved (x : Item) : Bool := x.pkt.hdr.halved

/-- The item runs on the skim path (R32, R100). -/
def Item.skim (x : Item) : Bool := x.op.onSkim x.pkt.hdr.cls.toNat

/-- Place among the levels: 0 urgent, then the eight priorities (R88). -/
def Item.rank (x : Item) : Nat := if x.urgent then 0 else x.level.toNat + 1

/-! ### The scheduling trace (R96) -/

/-- UNIT of a producer. -/
def unitOf (producer : Nat) : Nat :=
  if producer < 4 then 0xFF
  else if producer < 12 then 0x40 + (producer - 4)
  else if producer < 28 then 0x60 + (producer - 12)
  else if producer < 32 then 0x80 + (producer - 28)
  else producer - 32

/-- The flow-state entry of an item and its kind: explicit first, then the object flow (R96). -/
def Sched.flowOf (d : Sched) (id : Nat) : Nat × Nat :=
  let mine := d.flows.filter (fun e => e.members.any (fun m => m.1 == id && m.2 != .reader))
  match (mine.filter (fun e => e.kind == FlowKind.explicit) ++ mine).head? with
  | none => (0, 0)
  | some e => (8 * e.set.toNat + e.way.toNat, if e.merged then 3 else if e.kind == FlowKind.explicit then 1 else 2)

/-- The oldest record of the trace buffer enters the ring. -/
def Sched.writeTrace (d : Sched) : Sched :=
  match d.traceBuf with
  | [] => d
  | r :: l =>
    let n := d.regs.traceNext
    { d with traceBuf := l, traceRing := SMap.insert d.traceRing n.toNat r,
             regs := { d.regs with traceNext := n + 1#25, traceWrapped := d.regs.traceWrapped || n == 0x1FFFFFF#25 } }

/-- A deadline-miss record. -/
def TraceRec.isMiss (r : TraceRec) : Bool := r.decision == 6#4

/-- A record whose type is selected enters the buffer of 4,096, of which 64 places are kept for deadline misses: a full
buffer drops any other record and counts it, and passes its oldest record on for a deadline miss, which is never lost. -/
def Sched.pushTrace (d : Sched) (r : TraceRec) : Sched :=
  let put (d : Sched) : Sched := { d with traceBuf := d.traceBuf ++ [r] }
  if !d.regs.mask.getLsbD r.decision.toNat then d
  else if r.isMiss then put (if d.traceBuf.length < 4096 then d else d.writeTrace)
  else if (d.traceBuf.filter (fun y => !y.isMiss)).length < 4032 && d.traceBuf.length < 4096 then put d
  else { d with regs := { d.regs with traceLost := satBv d.regs.traceLost 1 } }

/-- A decision about an item is traced. -/
def Channel.trace (c : Channel) (x : Item) (decision unit : Nat) (code : Nat := 0) (due : Nat := 0) (cycles : Nat := 0)
    (exempt : Bool := false) : Channel :=
  let f := c.sched.flowOf x.id
  c.onSched (·.pushTrace
    { tide := c.tide, offset := BitVec.ofNat 12 c.offset, decision := BitVec.ofNat 4 decision, queue := x.pkt.hdr.queue,
      seq := x.pkt.hdr.seq, flowEntry := BitVec.ofNat 18 f.1, flowKind := BitVec.ofNat 2 f.2, unit := byte unit,
      function := x.pkt.hdr.function, cls := x.pkt.hdr.cls, priority := x.level, halved := x.halved, urgent := x.urgent,
      code := byte code, due := BitVec.ofNat 32 (if decision == 1 then due else x.due.getD 0),
      cycles := BitVec.ofNat 24 (min 0xFFFFFF cycles), exempt := exempt })

/-! ### Completions (R94, R95) -/

/-- The record of a result as a producer holds it; the collector stamps time at acceptance. -/
def Item.record (x : Item) (r : Res) : CompRec :=
  let h := x.pkt.hdr
  { queue := h.queue, seq := h.seq, function := h.function, code := r.code, detail := r.detail, missed := false,
    result := r.bytes, tideLo := 0#32, cycles := 0, intakeNo := x.pkt.intakeNo, halved := h.halved,
    assayed := h.assayed }

/-- A completion of item `x` waits at a producer from cycle `at'` on, with the item in phase `ph`. -/
def Channel.produceIn (c : Channel) (x : Item) (ph : Phase) (producer at' : Nat) (r : Res) : Channel :=
  (c.setItem { x with phase := ph }).onSched (fun d =>
    { d with produced := d.produced ++ [{ producer := producer, readyAt := at', item := some x.id, record := x.record r }] })

/-- A completion of a finished item. -/
def Channel.produce (c : Channel) (x : Item) (producer at' : Nat) (r : Res) : Channel :=
  c.produceIn x .finished producer at' r

/-- A completion built by a scheduler port. -/
def Channel.schedPort (c : Channel) (x : Item) (r : Res) : Channel := c.produce x (x.id % 4) c.now r

/-- A completion built by a core: 18 cycles of completion build. -/
def Channel.corePort (c : Channel) (x : Item) (core : Nat) (r : Res) : Channel := c.produce x (32 + core) (c.now + 18) r

/-! ### Flows (R84 to R86) -/

/-- Byte 0 of a flow key. -/
def kindNum : FlowKind → Nat
  | .explicit => 0 | .keySlot => 1 | .vault => 2 | .dukpt => 3 | .counter => 4 | .stream => 5

/-- A flow key with the role the command takes in it. -/
structure Place where
  kind : FlowKind
  fn : Nat
  number : Nat
  role : Role
  deriving DecidableEq, Repr

/-- The set of a key (R85). -/
def Place.set (k : Place) : BitVec 15 :=
  BitVec.ofNat 15 (crc32c ([byte (kindNum k.kind), byte k.fn] ++ leBytes 4 k.number)).toNat

/-- The slot a stream command reads: that of the most recent STREAM_OPEN of the stream under way, else the context's
(R194). -/
def Channel.streamSlot (c : Channel) (f n : Nat) : Option Nat :=
  let opens := c.sched.items.filter (fun y => y.op == Op.streamOpen && y.fn == f && u8 y.p 4 == n && y.phase != .finished)
  match opens.getLast? with
  | some y => some (krSlot (leAt y.p 0 4))
  | none =>
    let s := SMap.get Stream.free c.rakes.streams (64 * f + n)
    if s.state == .opened then some s.slot else none

/-- The slots a command observes as a reader (R84, R144, R174, R194). -/
def Channel.readSlots (c : Channel) (x : Item) : List Nat :=
  match x.op with
  | .streamUpdate | .streamFinal => (c.streamSlot x.fn (u8 x.p 0)).toList
  | _ => ((x.op.keySlots x.p).map (·.2)).eraseDups

/-- The command stands behind `i` in the slot's list. -/
def Channel.behind (c : Channel) (x : Item) (slot i : Nat) : Bool :=
  c.sched.flows.any (fun e => e.kind == FlowKind.keySlot && e.number.toNat == slot
    && ((e.members.dropWhile (fun m => m.1 != i)).drop 1).any (fun m => m.1 == x.id))

/-- The item is a user of some generation of a slot (R262, R263): it has bound one, or it is a stream command whose stream
holds the slot's key (R194, R203) and stands before `i` there. -/
def Channel.userOf (c : Channel) (x : Item) (slot i : Nat) : Bool :=
  x.id != i && (x.binds.any (fun b => b.slot == slot)
    || ((x.op == Op.streamUpdate || x.op == Op.streamFinal) && x.phase != .finished
        && c.streamSlot x.fn (u8 x.p 0) == some slot && !c.behind x slot i))

/-- Some generation of a slot has users other than item `i`. -/
def Channel.slotUsers (c : Channel) (slot i : Nat) : Bool := c.sched.items.any (fun x => c.userOf x slot i)

/-- The flow places of a command: its explicit flow, the object it writes, the objects it reads (R84). -/
def Channel.places (c : Channel) (x : Item) : List Place :=
  let own : List Place := if x.pkt.hdr.flowId == 0#32 then []
    else [{ kind := .explicit, fn := x.fn, number := x.pkt.hdr.flowId.toNat, role := .explicit }]
  let written : List Place := match x.op.writes x.fn x.p with
    | some (k, n) => [{ kind := k, fn := 0, number := n, role := .writer }]
    | none => []
  let key (s : Nat) : Place := { kind := .keySlot, fn := 0, number := s, role := .reader }
  let reads := (c.readSlots x).map key
    ++ (if x.op == Op.vaultDetokenise then [{ kind := .vault, fn := 0, number := leAt x.p 0 2, role := .reader }] else [])
  own ++ written ++ reads.filter (fun r => !written.any (fun w => w.kind == r.kind && w.number == r.number))

/-- The entry stands for the key: it holds it, or it is the merged way of its set and no other way holds it (R85). R85 refuses
a halved command in a full set and lets way 7, once MERGED, stand for every unheld key: a halved command too joins it then
(DESIGN CHOICE, log 274). -/
def Sched.entryOf (d : Sched) (k : Place) : Option FlowEntry :=
  let inSet := d.flows.filter (fun e => e.set == k.set)
  match inSet.find? (fun e => e.kind == k.kind && e.function.toNat == k.fn && e.number.toNat == k.number && !e.merged) with
  | some e => some e
  | none => inSet.find? (·.merged)

/-- Item `id` joins an entry's list; a place it already holds there serves, as the stronger role. -/
def FlowEntry.add (e : FlowEntry) (id : Nat) (r : Role) : FlowEntry :=
  if e.members.any (fun m => m.1 == id) then
    if r == .reader then e else { e with members := e.members.map (fun m => if m.1 == id then (id, r) else m) }
  else { e with members := e.members ++ [(id, r)] }

/-- The entry is replaced in its place. -/
def Sched.setFlow (d : Sched) (e : FlowEntry) : Sched :=
  { d with flows := d.flows.map (fun y => if y.set == e.set && y.way == e.way then e else y) }

/-- A command that has joined a merged way is counted, once (R98). -/
def Sched.countMerge (d : Sched) (id : Nat) : Sched :=
  if d.flows.any (fun e => e.merged && e.members.any (fun m => m.1 == id)) then
    { d with regs := { d.regs with merges := satBv d.regs.merges 1 } }
  else d

/-- A command takes a flow place (R85, R86); none when a halved command finds no way free. -/
def Sched.joinOne (d : Sched) (id : Nat) (halved : Bool) (k : Place) : Option Sched :=
  match d.entryOf k with
  | some e =>
    if k.role == .reader && !e.members.any (fun m => m.1 != id && m.2 != .reader) then some d
    else some (d.setFlow (e.add id k.role))
  | none =>
    if k.role == .reader then some d
    else
      let ways := (List.range 8).filter (fun w => !d.flows.any (fun e => e.set == k.set && e.way.toNat == w))
      match ways.head? with
      | some w =>
        let e : FlowEntry := { set := k.set, way := BitVec.ofNat 3 w, kind := k.kind, function := byte k.fn,
                               number := BitVec.ofNat 32 k.number, merged := false, members := [(id, k.role)] }
        some { d with flows := d.flows ++ [e] }
      | none =>
        if halved then none
        else match d.flows.find? (fun e => e.set == k.set && e.way == 7#3) with
          | some e => some (d.setFlow { (e.add id k.role) with merged := true })
          | none => none

/-- A command takes its flow places in order. -/
def Sched.joinAll (d : Sched) (id : Nat) (halved : Bool) : List Place → Option Sched
  | [] => some d
  | k :: l => match d.joinOne id halved k with
    | some d => d.joinAll id halved l
    | none => none

/-- A command joins its flows, and is counted where a merged way is among them. -/
def Sched.join (d : Sched) (id : Nat) (halved : Bool) (l : List Place) : Option Sched :=
  (d.joinAll id halved l).map (·.countMerge id)

/-- An item that holds its place in its lists: it waits on its dependence counter or its delay (R86). -/
def Item.holds (x : Item) : Bool :=
  !x.deps.isEmpty || (match x.phase with | .delayed _ => true | _ => false)

/-- The members in front of an item in a list. -/
def FlowEntry.ahead (e : FlowEntry) (id : Nat) : List (Nat × Role) := e.members.takeWhile (fun m => m.1 != id)

/-- Readers at the head leave their list, up to the next writer and to one that holds its place (R86). -/
def Channel.popReaders (c : Channel) : Channel :=
  let held (id : Nat) : Bool := (c.item? id).elim false (·.holds)
  c.onSched (fun d => { d with flows := (d.flows.map (fun e =>
    { e with members := e.members.dropWhile (fun m => m.2 == .reader && !held m.1) })).filter (fun e => !e.members.isEmpty) })

/-- A slot can be bound: no writer stands in front of the item in its object's list (R86, R257). -/
def Channel.bindable (c : Channel) (x : Item) (slot : Nat) : Bool :=
  match c.sched.entryOf { kind := .keySlot, fn := 0, number := slot, role := .reader } with
  | some e => !e.members.any (fun m => m.1 == x.id) || (e.ahead x.id).all (fun m => m.2 == .reader)
  | none => true

/-- The slots whose generation an item binds. -/
def Item.keys (x : Item) : List (Nat × Nat) := x.op.keySlots x.p

/-- A command that has a key read or a binding (R401). -/
def readsKeys (o : Op) : Bool :=
  !(o == .getRandom || o == .reseed || o == .echo || o == .digest || o == .streamAbandon || o == .componentAbandon)

/-- A fence holds the item before its key read or binding: its function is changed and it was taken in at H or later
(R401). -/
def Channel.fenced (c : Channel) (x : Item) : Bool :=
  match c.fence with
  | some (f, h) => x.fn == f && decide (h ≤ x.pkt.intakeTide) && readsKeys x.op
  | none => false

/-- The item is a twin writer that a function reset holds at its commit point, between boundaries R and V (R347). -/
def Channel.resetHolds (c : Channel) (x : Item) : Bool :=
  !x.halved && (x.op.writes x.fn x.p).isSome
  && c.resetting.any (fun r => r.1.contains x.fn && decide (x.pkt.intakeNo ≤ r.2))

/-- The item binds every slot that can be bound, each once, in payload order. -/
def Channel.bindAll (c : Channel) (id : Nat) : Channel :=
  match c.item? id with
  | none => c
  | some x => x.keys.foldl (fun c k => match c.item? id with
      | some y => if y.binds.any (fun b => b.slot == k.2) || !c.bindable y k.2 || c.fenced y then c
          else let r := c.bindSlot y k.2; r.1.setItem r.2
      | none => c) c

/-- Lists move on: readers at their heads leave, and bindings that became possible are made in order of delivery. -/
def Channel.settle (c : Channel) : Channel :=
  let c := c.popReaders
  (c.sched.items.filter (fun x => x.phase != .finished && x.binds.length < x.keys.length)).foldl
    (fun c x => c.bindAll x.id) c

/-- An item leaves its flows. -/
def Channel.leaveFlows (c : Channel) (id : Nat) : Channel :=
  c.onSched (fun d => { d with flows := (d.flows.map (fun e =>
    { e with members := e.members.filter (fun m => m.1 != id) })).filter (fun e => !e.members.isEmpty) })

/-- The item number under which a management destroy stands in a slot's list. -/
def mgmtWriter (slot : Nat) : Nat := 2 ^ 41 + slot

/-- A management destroy takes, or gives up, its place as a writer of the slot (R262). -/
def Channel.queueWriter (c : Channel) (slot : Nat) : Channel :=
  if c.sched.flows.any (fun e => e.members.any (fun m => m.1 == mgmtWriter slot)) then c
  else c.onSched (fun d => (d.joinOne (mgmtWriter slot) false { kind := .keySlot, fn := 0, number := slot, role := .writer }).getD d)
def Channel.dropWriter (c : Channel) (slot : Nat) : Channel := (c.leaveFlows (mgmtWriter slot)).settle

/-- Every explicit flow and written object has the item at its head, and it waits behind no writer (R86). -/
def Channel.atHeads (c : Channel) (x : Item) : Bool :=
  c.sched.flows.all (fun e => !e.members.any (fun m => m.1 == x.id) || (e.ahead x.id).isEmpty)

/-! ### Before-images (R317) -/

/-- The image of the same objects as they stand in channel `s` (the repair image of R327). -/
def Channel.currentImage (s : Channel) (i : Image) : Image :=
  let k := s.keys
  match i with
  | .slot recs => .slot (recs.map (fun r => (r.1, k.record r.1)))
  | .basin n b entry index =>
    .basin n ((SMap.find? k.basins n).getD b) (entry.map (fun e => (e.1, SMap.get 0 k.entries e.1)))
      (index.map (fun e => (e.1, SMap.get 0 k.index e.1)))
  | .dukpt n _ => .dukpt n (SMap.get DukptRec.unbound k.dukpt n)
  | .stream n _ => .stream n (SMap.get Stream.free s.rakes.streams n)
  | .ledger e => .ledger ((k.ledgerOf e.function e.slot).getD { e with live := false })
  | .exhaustion slot _ _ => .slot [(slot, k.record slot)]
  | .session slot _ => .session slot (k.sessions.find? (fun x => x.slot == slot))
  | i => i

/-- The before-images of what intake number `n` has journaled between `c` and `c'` are noted (R317). -/
def Channel.noting (c : Channel) (n : Nat) (c' : Channel) : Channel :=
  let new := c'.journal.ring.filter (fun d => d.intake == n && decide (c.journal.nextJseq ≤ d.jseq))
  { c' with journal := { c'.journal with before := c'.journal.before ++ new.map (fun d => (n, c.currentImage d.image)) } }

/-! ### Ready lists and cores (R88 to R91) -/

/-- The due tide of an item of the channel. -/
def Sched.dueOf (d : Sched) (id : Nat) : Nat := ((d.items.find? (fun x => x.id == id)).bind (·.due)).getD 0

/-- The ready lists with an item at the tail, or the head, of its level; the urgent level is in order of due tide (R91). -/
def Sched.enlist (d : Sched) (x : Item) (head : Bool) : Sched :=
  let put (l : List Nat) : List Nat := if head then x.id :: l else l ++ [x.id]
  let due := x.due.getD 0
  let sorted := d.urgentList.filter (fun i => d.dueOf i ≤ due) ++ [x.id] ++ d.urgentList.filter (fun i => due < d.dueOf i)
  if x.urgent then { d with urgentList := sorted }
  else { d with ready := d.ready.mapIdx (fun i l => if i == x.level.toNat then put l else l) }

/-- The item leaves the ready lists. -/
def Sched.delist (d : Sched) (id : Nat) : Sched :=
  { d with urgentList := d.urgentList.filter (· != id), ready := d.ready.map (fun l => l.filter (· != id)) }

/-- A core changed. -/
def Sched.mapCore (d : Sched) (k : Nat) (f : Core → Core) : Sched :=
  { d with cores := d.cores.mapIdx (fun i y => if i == k then f y else y) }

/-- The core that runs an item. -/
def Sched.coreOf (d : Sched) (id : Nat) : Option Nat := d.cores.findIdx? (fun y => y.item == some id)

/-- The core an arriving item pre-empts (R90): of the lowest running level that has an eligible core, the one with the
most recently dispatched item; of two dispatched in the same cycle the lower-numbered core (DESIGN CHOICE, log 221). A core
that still saves its last item is not idle. -/
def Channel.victimCore (c : Channel) (x : Item) : Option (Nat × Item) :=
  let d := c.sched
  if d.cores.any (fun k => k.item.isNone && !k.out && decide (k.since ≤ c.now)) then none
  else
    let cand := (d.cores.mapIdx (fun i k => (i, k))).filterMap (fun p =>
      match p.2.item.bind c.item? with
      | some y => if (match y.phase with | .running _ => true | _ => false) && x.rank < y.rank
                     && (x.urgent || decide (p.2.preempts < 4)) then some (p.1, p.2.since, y) else none
      | none => none)
    (cand.foldl (fun (b : Option (Nat × Nat × Item)) q => match b with
      | none => some q
      | some p => if p.2.2.rank < q.2.2.rank || (p.2.2.rank == q.2.2.rank && p.2.1 < q.2.1) then some q else some p)
      none).map (fun p => (p.1, p.2.2))

/-- The bound on its remaining slices that firmware reports for an item, never above the one before (R91). -/
def Channel.bounded (c : Channel) (x : Item) (most : Nat) : Item :=
  { x with remaining := max 1 (min most (Config.sliceBound c.side x.id c.now)) }

/-- Core `k` is pre-empted: its item is saved in 192 cycles and goes to the head of its level (R90). A pre-emption for an
urgent item, which the limit of four does not bind, does not count towards it (DESIGN CHOICE, log 222). -/
def Channel.preempt (c : Channel) (k : Nat) (y : Item) (urgent : Bool) : Channel :=
  let now := c.now
  let free (z : Core) : Core :=
    { z with item := none, since := now + 192, preempts := if urgent then z.preempts else z.preempts + 1 }
  let z := { c.bounded y y.remaining with phase := .saving true, saved := true, savedAt := now + 192 }
  let c := (c.setItem z).onSched (·.mapCore k free)
  let c := c.mapSched (fun r => { r with preempts := satBv r.preempts 1 })
  c.trace y 3 k

/-- An item enters its level at the tail or the head; with no core idle it may pre-empt one. -/
def Channel.enterAt (c : Channel) (x : Item) (head : Bool) : Channel :=
  let c := (c.setItem { x with phase := .ready }).onSched (·.enlist x head)
  match c.victimCore x with
  | some (k, y) => c.preempt k y x.urgent
  | none => c

/-- An item enters its level at the tail. -/
def Channel.enter (c : Channel) (x : Item) : Channel := c.enterAt x false

/-- An item whose core still saves it enters its level when the save ends (R89). -/
def Channel.enterSaved (c : Channel) (x : Item) : Channel :=
  if c.now < x.savedAt then c.setItem { x with phase := .saving false } else c.enter x

/-- The head flag of an item being saved. -/
def Item.savingHead (x : Item) : Option Bool := match x.phase with | .saving h => some h | _ => none

/-- Items whose saves have ended enter their levels, the earlier saved first (R89, R90). -/
def Channel.landSaves (c : Channel) : Channel :=
  let ended := c.sched.items.filter (fun x => x.savingHead.isSome && decide (x.savedAt ≤ c.now))
  let put (l : List Item) (x : Item) : List Item :=
    l.filter (fun y => y.savedAt ≤ x.savedAt) ++ [x] ++ l.filter (fun y => x.savedAt < y.savedAt)
  (ended.foldl put []).foldl (fun c x => match c.item? x.id with
    | some y => match y.phase with
      | .saving h => c.enterAt y h
      | _ => c
    | none => c) c

/-! ### Stopping an item (R70, R201, R218, R241, R263) -/

/-- A public-key engine's job ends in a wipe of 256 cycles; a wiped engine owns nothing (R241). -/
def PkEngine.abort (e : PkEngine) (now : Nat) : PkEngine :=
  { e with job := none, validated := false, wiping := true, wipingUntil := now + 256, owned := false, aborts := satBv e.aborts 1 }

/-- The item's lane work has ended or its completion is built: nothing stops it any longer. -/
def Channel.past (c : Channel) (x : Item) : Bool :=
  match x.phase with
  | .finished => true
  | .lane => c.sched.produced.any (fun p => p.item == some x.id && decide (p.readyAt ≤ c.now + 28))
  | _ => false

/-- Lane pairs, engines, cores and lists let go of an item; a running operation is aborted in the next cycle and its unit
wiped. ABORTS counts at the unit that holds the job at that moment; a job queued or saved counts at none (R204, R220; DESIGN
CHOICE, log 275). -/
def Channel.stop (c : Channel) (x : Item) : Channel :=
  let id := x.id
  let now := c.now
  let c := c.sync
  let lane := (match x.phase with | .lane => true | _ => false) && !c.past x
  let lastTaken := c.sched.produced.any (fun p => p.item == some id
    && x.pair.any (fun n => (c.skim.pairs.getD n Pair.idle).busyUntil + 28 == p.readyAt))
  let pairs := c.skim.pairs.mapIdx (fun n (p : Pair) =>
    let p := { p with queue := p.queue.filter (· != id), work := p.work.filter (·.item != id) }
    if p.job.any (·.item == id) then { p with job := none, busyUntil := now + 1 }
    else if lane && lastTaken && x.pair == some n then { p with busyUntil := max (now + 1) (p.busyUntil - x.charge) } else p)
  let hit (n : Nat) : Bool := ((c.skim.pairs.getD n Pair.idle).job.any (·.item == id)) || (lane && x.pair == some n)
  let perRake := c.rakes.perRake.mapIdx (fun i r =>
    if (List.range 64).any (fun n => n / 8 == i && hit n) then { r with aborts := satBv r.aborts 1 } else r)
  let rakes := { c.rakes with jobs := c.rakes.jobs.filter (·.item != id), perRake := perRake }
  let engines := c.digests.engines.map (fun (e : DigestEngine) =>
    if e.job.any (·.item == id) then { e with job := none, work := [], busyUntil := now + 1, aborts := satBv e.aborts 1 } else e)
  let digests := { c.digests with jobs := c.digests.jobs.filter (·.item != id), engines := engines }
  let pkEngines := c.pks.engines.map (fun (e : PkEngine) => if e.job.any (·.item == id) then e.abort (now + 1) else e)
  let wiped := (c.pks.engines.filter (fun (e : PkEngine) => e.job.any (·.item == id))).length
  let pks := { c.pks with queueTwin := c.pks.queueTwin.filter (·.item != id),
                          queueHalved := c.pks.queueHalved.filter (·.item != id), engines := pkEngines,
                          wipesAbort := satBv c.pks.wipesAbort wiped }
  let ports := (c.sched.coreOf id).elim c.rng.ports (fun k => c.rng.ports.map (fun p =>
    if p.1 == k then (k, { p.2 with data := [], waiting := none }) else p))
  let d := c.sched.delist id
  let cores := d.cores.map (fun k => if k.item == some id then { k with item := none, since := now + 1 } else k)
  let sched := { d with cores := cores, delayTwin := d.delayTwin.filter (· != id),
                        delayHalved := d.delayHalved.filter (· != id),
                        produced := d.produced.filter (fun p => p.item != some id) }
  { c with skim := { c.skim with pairs := pairs }, rakes := rakes, digests := digests, pks := pks, sched := sched,
           rng := { c.rng with ports := ports } }

/-- The item is stopped and completes with a status (R263, R365). A skim command completes from its rake's port, after the 28
cycles of assembly and build (R114). -/
def Channel.abort (c : Channel) (x : Item) (r : Res) : Channel :=
  if c.past x then c
  else
    let c := c.stop x
    match x.phase, x.pair with
    | .lane, some n => c.produce x (4 + n / 8) (c.now + 29) r
    | .waiting, some n | .filling, some n | .laneQueue, some n => c.produce x (4 + n / 8) (c.now + 28) r
    | _, _ => c.schedPort x r

/-- The epoch whose effect answers a twin RESEED admitted in tide `t`: the first that took effect after it (R301). -/
def Rng.effectAfter (g : Rng) (t : Nat) : Option Epoch :=
  (g.epochs.filter (fun e => decide (t < e.since))).foldl (fun b e => match b with
    | none => some e
    | some y => if e.since < y.since then some e else some y) none

/-- Epochs that are not current leave when no admitted twin command of them is outstanding (R294); one that fan-out still
holds a command of stays for its draw (R293; DEDUCED, log 228), a probe's stays (R317), and one that answers a RESEED does
until the RESEED has completed (R301, R305). -/
def Channel.releaseEpochs (c : Channel) : Channel :=
  let g := c.rng
  let used (e : Epoch) : Bool :=
    let of (t : Nat) : Bool := (g.epochAt t).elim false (fun y => y.number == e.number)
    c.sched.items.any (fun x => !x.halved && x.admitAt.isSome && of x.admitTide)
    || c.sched.fanout.any (fun k => !k.hdr.halved && of k.intakeTide) || g.probeTide.any of
    || c.sched.items.any (fun x => !x.halved && x.admitAt.isSome && x.op == .reseed
        && (g.effectAfter x.admitTide).any (fun y => y.number == e.number))
  { c with rng := { g with epochs := g.epochs.filter (fun e => e.number == g.current || used e) } }

/-- The item leaves the channel: its completion lowers the counters that wait on it, its flows move on, and generations
without users and epochs are released (R83, R86, R259, R294). -/
def Channel.retireItem (c : Channel) (id : Nat) : Channel :=
  let c := c.leaveFlows id
  let c := c.onSched (fun d => { d with items := (d.items.filter (fun x => x.id != id)).map (fun (x : Item) =>
    if x.deps.contains id then { x with deps := x.deps.filter (· != id) } else x) })
  c.settle.releaseRetained.releaseEpochs

/-- Cycles in which a stopped core clears its 128 KiB data memory and a save area, at 64 bytes a cycle (R348). The spec gives
the save area no size: it is what the 192 cycles of a save move at that rate (DESIGN CHOICE, log 235). -/
def coreClear : Nat := 131072 / 64 + 192

/-- The item is removed without completion (R70, R347); a core that it stops clears before its next item. -/
def Channel.removeItem (c : Channel) (x : Item) : Channel :=
  let free := c.now + 1 + coreClear
  let on := c.sched.coreOf x.id
  let c := (c.stop x).retireItem x.id
  match on with
  | some k => c.onSched (·.mapCore k (fun z => { z with since := free }))
  | none => c

end Sys2Proof.Machine
end

