-- ==== Sys2Proof/Machine/Intake.lean ====
section
/-! DEFINITION. The port die's way in (R48 to R57, R310, R461): doorbells, submission rings, the checks of R54, the replay
log and fan-out. -/

namespace Sys2Proof.Machine

/-! ### The host link -/

/-- Requests of the host reach the device: main power, no reset pin low, the port die up and the link trained (R438). -/
def State.hostReaches (s : State) : Bool :=
  let t := s.port.start
  t.power == .run && !t.porst && !t.perst && t.up && t.linkUp

/-- A TLP of a function whose IDE stream is in the secure state must carry that stream (R345). -/
def PortDie.ideOk (p : PortDie) (f : Nat) (ide : Option (BitVec 6)) : Bool :=
  match p.secureIde f with
  | some x => ide == some x
  | none => true

/-- A request of a virtual function shows that VF Enable is set (R346; DESIGN CHOICE, log 272). -/
def State.vfSeen (s : State) (f : Nat) : State :=
  if f == 0 || s.port.sriov.vfEnable then s else s.updPort (fun p => { p with sriov := { p.sriov with vfEnable := true } })

/-- An access of the host: nothing before the link is up; a TLP that fails its function's IDE check is discarded and
sets FN_ERR.IDE (R345). -/
def State.hostAccess (s : State) (t : Tlp) (f : State → State) : State :=
  if !s.hostReaches then s
  else
    let s := s.vfSeen t.function.toNat
    if !s.port.ideOk t.function.toNat t.ide then s.fnErr t.function.toNat .ide else f s

/-! ### Fan-out and the replay log (R54, R309, R310) -/

/-- Intake is open: a channel is joined, the device is not blank, and no Sleep entry has begun (R371, R438). -/
def State.intakeOpen (s : State) : Bool :=
  !s.port.joinedChans.isEmpty && !s.blank
    && (match s.port.mgmt.slack with
        | some t => decide (s.port.tide < t)
        | none => true)

/-- Heap units of a payload (R310). -/
def heapUnits (n : Nat) : Nat := ceilDiv n 64

/-- The group of a queue in the replay log. -/
def logGroup (q : BitVec 16) : Nat := q.toNat / 4096

/-- The held entries of a group. -/
def PortDie.heldEntries (p : PortDie) (g : Nat) : Nat := (p.outst.filter (fun o => !o.halved && logGroup o.queue == g)).length

/-- A twin packet finds an entry of its group and its heap units free (R310). -/
def PortDie.logRoom (p : PortDie) (k : Packet) : Bool :=
  let twins := p.outst.filter (fun o => !o.halved)
  decide (p.heldEntries (logGroup k.hdr.queue) < 4096)
    && decide ((twins.map (fun o => heapUnits o.pkt.payload.length)).sum + heapUnits k.payload.length ≤ 12 * 2 ^ 20 / 64)

/-- A packet of a group takes an entry: with no entry free, the one released first is reused (R310). -/
def PortDie.reuse (p : PortDie) (g : Nat) : PortDie :=
  let mine := p.released.filter (fun r => logGroup r.1.hdr.queue == g)
  match mine.head? with
  | none => p
  | some r => if p.heldEntries g + mine.length < 4096 then p else { p with released := p.released.erase r }

/-- A channel to which fan-out has delivered a packet (R78). -/
def Channel.delivered (c : Channel) (k : Packet) : Channel :=
  { c with sched := { c.sched with fanout := c.sched.fanout ++ [k] } }

/-- The packet is given its intake number and fanned out: a halved one to its home channel, or completed with
CHANNEL_LOST while that is not joined (R320); a twin one to every joined channel (R309, R319). -/
def State.fanOut (s : State) (k : Packet) : State :=
  let p := s.port
  let q := k.hdr.queue.toNat
  let x := p.queue q
  let home := homeChan x.conf.homeB
  if k.hdr.halved && !p.joined home then s.sendOwn k.hdr 0 .channelLost 0#4
  else
    let k : Packet := { k with intakeNo := p.nextIntake }
    let sent (ch : Chan) : Bool := if k.hdr.halved then ch == home else p.joined ch
    let o : Outst := { intakeNo := k.intakeNo, queue := k.hdr.queue, seq := k.hdr.seq, function := k.hdr.function,
                       halved := k.hdr.halved, assayed := k.hdr.assayed, homeB := x.conf.homeB, cls := k.hdr.cls, pkt := k,
                       heapAt := Config.heapAt k.intakeNo, needA := sent .a, needB := sent .b, gotA := none, gotB := none, firstAt := none, written := false,
                       windowOver := false, held := false, verdict := .open }
    let p := p.reuse (logGroup k.hdr.queue)
    let p : PortDie := { p with nextIntake := p.nextIntake + 1, outst := p.outst ++ [o],
                                released := if k.hdr.halved then p.released ++ [(k, o.heapAt)] else p.released }
    let p := p.setQueue q { x with outstanding := x.outstanding + 1#17 }
    let s : State := { s with port := p }
    let s := if o.needA then s.upd .a (·.delivered k) else s
    if o.needB then s.upd .b (·.delivered k) else s

/-- A packet that passed checks 1 to 12 is fanned out, or waits at intake behind those that wait for replay log space
(R310). -/
def State.accept (s : State) (k : Packet) : State :=
  if s.port.waiting.isEmpty && (k.hdr.halved || s.port.logRoom k) then s.fanOut k
  else s.updPort (fun p => { p with waiting := p.waiting ++ [k] })

/-- Packets that wait at intake proceed in order while space allows; at most `n` (R310). -/
def State.resumeIntake (s : State) : Nat → State
  | 0 => s
  | n + 1 =>
    match s.port.waiting with
    | [] => s
    | k :: l =>
      if k.hdr.halved || s.port.logRoom k then
        State.resumeIntake ((s.updPort (fun p => { p with waiting := l })).fanOut k) n
      else s

/-! ### The checks of R54 -/

/-- A drop: INTAKE_ERR, the recorder event 0x001 and the error vector (R56, R74). -/
def State.drop (s : State) (f cause : Nat) (queue : BitVec 16) : State :=
  let own := s.port.owns f queue.toNat && cause != 1 && cause != 2
  intakeDrop (s.updPort (fun p => p.record 0x001 cause)) f cause queue own

/-- Checks 2 to 6 of R54 on a packet that came through function `f`, by ring `ring` or by a doorbell: the CAUSE of the
first that fails. -/
def State.dropCause (s : State) (f : Nat) (h : Header) (ring : Option (BitVec 16)) : Option Nat :=
  let x := s.port.queue h.queue.toNat
  if h.function.toNat != f then some 2
  else if !s.intakeOpen || !s.port.owns f h.queue.toNat || !x.conf.enable then some 3
  else if (match ring with
    | none => x.conf.ring
    | some r => !x.conf.ring || r != h.queue) then some 4
  else if x.overrun then some 5
  else if h.seq != x.expected then some 6
  else none

/-- A packet whose SEQ is accepted: the expected number advances, checks 7 to 11 run, and `payload` supplies the payload
or the FETCH failure of check 12 (R54). `k` builds on the state after any refused fetch was reported. -/
def State.attributed (s : State) (h : Header) (pad size : Bool) (payload : State → State × Option Bytes) : State :=
  let q := h.queue.toNat
  let x := s.port.queue q
  let s := s.updPort (fun p => p.setQueue q { x with expected := x.expected + 1#32 })
  match headerChecks h x.conf pad size with
  | some d => s.sendOwn h 0 .malformed d
  | none =>
    match payload s with
    | (s, none) => s.sendOwn h 0 .malformed malFetch
    | (s, some b) => s.accept { hdr := h, payload := b, intakeTide := s.port.tide, intakeNo := 0 }

/-- A doorbell reaches the receiver (R49, R50, R54). -/
def State.doorbell (s : State) (f : Nat) (offset : Nat) (data : Bytes) : State :=
  if s.port.underReset f then s
  else if offset != 0 || decide (data.length < 32) then s.drop f 1 0#16
  else
    let h := Header.parse data
    match s.dropCause f h none with
    | some c => s.drop f c h.queue
    | none => s.attributed h true (doorbellSizeOk h data.length) (fun s => (s, some (slice data 32 h.payloadLen.toNat)))

/-- The payload of a fetched entry: inline bytes, or the bytes the host returned from an aligned address inside the
function's windows (R51 to R53, R351). -/
def State.fetchPayload (s : State) (f : Nat) (h : Header) (entry : Bytes) (payload : Option Bytes) : State × Option Bytes :=
  let len := h.payloadLen.toNat
  if !entryHasAddress h then (s, some (slice entry 32 len))
  else
    let addr := entryAddress entry
    let bad := (dmaPieces addr len).filter (fun a => !(s.port.fn f).dmaOk false a)
    if addr % 8 != 0 then (s, none)
    else if !bad.isEmpty then (bad.foldl (fun s a => s.dmaFault f 2 h.queue.toNat a false) s, none)
    else match payload with
      | none => (s, none)
      | some b => (s, if b.length == len then some b else none)

/-- The queue's ring has an entry to fetch and nothing holds its fetches (R52, R68, R352). A queue disabled since is fetched up
to its tail; check 3 of R54 drops the entries. -/
def PortDie.fetches (p : PortDie) (q : Nat) : Bool :=
  let x := p.queue q
  let f := p.fn (p.queueFn q)
  x.conf.ring && x.sqHead != x.sqTail && !x.overrun && !x.fetchHalt && f.acuEnabled && !f.acuDraining
    && !p.underReset (p.queueFn q) && (p.block q).assigned && p.waiting.isEmpty

/-- Entries of the submission ring (R51, R75). -/
def QCtx.sqSize (x : QCtx) : Nat := 2 ^ x.conf.sqLog2.toNat

/-- A fetched entry arrives (R52 to R54, R351). -/
def State.fetched (s : State) (queue : BitVec 16) (ide : Option (BitVec 6)) (entry : Bytes) (payload : Option Bytes) :
    State :=
  let q := queue.toNat
  let f := s.port.queueFn q
  let x := s.port.queue q
  let addr := 4096 * x.conf.sqBase.toNat + 64 * x.sqHead.toNat
  if !s.port.fetches q || entry.length != 64 then s
  else if !s.port.ideOk f ide then s.fnErr f .ide
  else if !(s.port.fn f).dmaOk false addr then
    (s.updPort (fun p => p.setQueue q { x with fetchHalt := true })).dmaFault f 1 q addr false
  else
    let s := s.updPort (fun p => p.setQueue q { x with sqHead := BitVec.ofNat 16 ((x.sqHead.toNat + 1) % x.sqSize) })
    let h := Header.parse entry
    match s.dropCause f h (some queue) with
    | some c => s.drop f c h.queue
    | none => s.attributed h (entryPadZero h entry) (decide (h.payloadLen.toNat ≤ 16384))
        (fun s => s.fetchPayload f h entry payload)

/-- A RING_TAIL write (R52, R74, R418). -/
def State.writeRingTail (s : State) (f : Nat) (value : Word) : State :=
  let queue := BitVec.ofNat 16 (value.toNat / 2 ^ 16)
  let q := queue.toNat
  let x := s.port.queue q
  if s.port.underReset f then s
  else if !s.port.owns f q then intakeDrop s f 3 queue false
  else if !x.conf.ring then intakeDrop s f 4 queue true
  else s.updPort (fun p => p.setQueue q { x with sqTail := BitVec.ofNat 16 (value.toNat % 2 ^ 16 % x.sqSize),
                                                 fetchHalt := false })

/-! ### The commands of the intake -/

/-- R54: INLINE_DOORBELL. Offsets from 0x800 of page 0 are the function page (R417), no intake window. -/
def execInlineDoorbell (t : Tlp) (window : BitVec 4) (offset : BitVec 12) (data : Bytes) (s : State) : Out :=
  .next (s.finish (if window == 0#4 && decide (0x800 ≤ offset.toNat) then s
    else s.hostAccess t (fun s => s.doorbell t.function.toNat offset.toNat data)))

/-- R52: RING_TAIL. -/
def execRingTail (t : Tlp) (value : Word) (s : State) : Out :=
  .next (s.hostAccess t (fun s => s.writeRingTail t.function.toNat value))

/-- R52: RING_FETCH_DONE. -/
def execRingFetchDone (queue : BitVec 16) (ide : Option (BitVec 6)) (entry : Bytes) (payload : Option Bytes)
    (s : State) : Out :=
  .next (s.finish (if s.hostReaches then s.fetched queue ide entry payload else s))

/-- R310: INTAKE_RESUME. -/
def execIntakeResume (s : State) : Out := .next (s.finish (s.resumeIntake s.port.waiting.length))

/-- R68: CQ_HEAD. -/
def execCqHead (t : Tlp) (value : Word) (s : State) : Out :=
  .next (s.finish (s.hostAccess t (fun s => s.writeCqHead t.function.toNat value)))

end Sys2Proof.Machine
end

