-- ==== Sys2Proof/Machine/Registers.lean ====
section
/-! DEFINITION. The host's register accesses (R12 to R14, R334, R353 to R355, R415 to R428): the function page, PF0's BAR2
with its global, assay, tenant and channel pages, the MSI-X table, and the indirect window. -/

namespace Sys2Proof.Machine

/-! ### Words of the port-die pages -/

/-- TAMPER_OUT_N is low: a channel drives it, in Run only (R370, R382). -/
def State.tamperOutLow (s : State) : Bool := s.port.start.power == .run && (s.a.drivesOut || s.b.drivesOut)

/-- DEV_STATUS (R422). -/
def State.devStatus (s : State) : Word :=
  word [(0, s.devState), (3, s.port.assay.stateA.num), (6, s.port.assay.stateB.num), (9, s.port.assay.resolve.isSome.toNat),
        (10, s.ebb.toNat), (11, s.tamperOutLow.toNat), (12, (!s.port.commits.isEmpty).toNat)]

/-- Word `k` of the global page, 0 to 23 (R422). -/
def State.globalWord (s : State) (k : Nat) : Word :=
  let g := s.port.page
  match k with
  | 0 | 1 | 2 | 3 => BitVec.ofNat 32 (leAt s.a.fuses.identity (4 * k) 4)
  | 4 => word [(0, s.a.fuses.part.toNat), (8, 0xB1), (16, s.a.fuses.stackGb.toNat)]
  | 5 => s.devStatus
  | 6 => word [(0, g.evReadyUp.toNat), (1, g.evTwinUp.toNat), (2, g.evTwinDown.toNat), (3, g.evRetireA.toNat),
               (4, g.evRetireB.toNat), (5, g.evNotReady.toNat), (6, g.evBlank.toNat), (7, g.evEbb.toNat)]
  | 7 => g.scratch
  | 8 => BitVec.ofNat 32 s.port.tide
  | 9 => BitVec.ofNat 32 (s.port.tide / 2 ^ 32)
  | 10 => word [(0, s.port.offset / 2 * 2)]
  | 11 => word [(0, s.port.tides.maxSkew.toNat), (16, s.port.tides.faultA.toNat), (17, s.port.tides.faultB.toNat),
                (18, s.port.tides.adopted.toNat)]
  | 13 => g.commitDone
  | 14 => word [(0, g.issued.toNat), (8, g.doneCount.toNat), (16, s.port.commits.length), (19, g.overflow.toNat),
                (20, g.lateWrite.toNat), (21, g.reject.toNat)]
  | 15 => word [(0, g.ecDiscord.toNat), (1, g.ecDevEvent.toNat), (2, g.ecCommitErr.toNat), (3, g.ecUnmapped.toNat),
                (4, g.ecAccess.toNat), (5, g.ecIndErr.toNat), (6, g.ecChannelDown.toNat), (8, g.ecFunction.toNat)]
  | 16 => word [(0, g.indAddr.toNat % 2 ^ 32)]
  | 17 => word [(0, g.indAddr.toNat / 2 ^ 32), (31, g.indInc.toNat)]
  | 19 => word [(0, g.badAddr.toNat), (1, g.roWrite.toNat), (2, g.indChannelDown.toNat)]
  | _ => 0#32

/-- The port die after a read of word `k` of the global page. -/
def PortDie.globalClear (p : PortDie) (k : Nat) : PortDie :=
  let g := p.page
  match k with
  | 6 => { p with page := { g with evReadyUp := false, evTwinUp := false, evTwinDown := false, evRetireA := false,
                                   evRetireB := false, evNotReady := false, evBlank := false, evEbb := false } }
  | 11 => { p with tides := { TideRegs.reset with adoptTo := p.tides.adoptTo } }
  | 14 => { p with page := { g with overflow := false, lateWrite := false, reject := 0#7 } }
  | 15 => { p with page := { g with ecDiscord := false, ecDevEvent := false, ecCommitErr := false, ecUnmapped := false,
                                    ecAccess := false, ecIndErr := false, ecChannelDown := false, ecFunction := 0#8 } }
  | 19 => { p with page := { g with badAddr := false, roWrite := false, indChannelDown := false } }
  | _ => p

/-- Replay log entries held for a verdict (R310, R334). -/
def PortDie.replayHeld (p : PortDie) : Nat := (p.outst.filter (fun o => !o.halved)).length

/-- Word `k` of the assay page (R334). -/
def State.assayWord (s : State) (k : Nat) : Word :=
  let p := s.port
  let y := p.assay
  match k with
  | 0 => word [(0, y.floorShadow.toNat), (8, y.irqShadow.toNat)]
  | 1 => word [(0, y.stateA.num), (3, y.stateB.num), (6, y.resolve.isSome.toNat), (7, y.soloFault.toNat)]
  | 2 => y.healthA
  | 3 => y.healthB
  | 4 => word [(0, y.scoreA.toNat), (8, y.scoreB.toNat), (16, y.runA.toNat), (21, y.runB.toNat)]
  | 5 => word [(0, y.discords.toNat), (16, y.unresolved.toNat)]
  | 6 => word [(0, y.logQueue.toNat), (16, y.logVerdict.toNat), (19, y.logRetiredB.toNat), (20, y.logValid.toNat),
               (21, y.logMore.toNat)]
  | 7 => y.logSeq
  | 8 => word [(0, y.retireChannelB.toNat), (1, y.retireCause.toNat), (4, y.retireValid.toNat), (5, y.retireMore.toNat)]
  | 9 => y.retireTide
  | 10 => word [(0, y.refillActive.toNat), (1, y.refillB.toNat), (2, y.refillFull.toNat), (4, s.refillLag)]
  | 11 => y.joinTide
  | 12 => word [(0, y.lateA.toNat), (16, y.lateB.toNat)]
  | 13 => word [(0, y.withdrawalPairs.toNat), (16, y.generatorPairs.toNat)]
  | 14 => word [(0, p.replayHeld)]
  | _ => word [(0, y.probesIssued.toNat), (16, y.probesStale.toNat)]

/-- The assay unit after a read of word `k`. -/
def Assay.clear (y : Assay) (k : Nat) : Assay :=
  match k with
  | 1 => { y with soloFault := false }
  | 5 => { y with discords := 0#16, unresolved := 0#16 }
  | 6 => { y with logQueue := 0#16, logVerdict := 0#3, logRetiredB := false, logValid := false, logMore := false }
  | 7 => { y with logSeq := 0#32 }
  | 8 => { y with retireChannelB := false, retireCause := 0#3, retireValid := false, retireMore := false }
  | 9 => { y with retireTide := 0#32 }
  | 12 => { y with lateA := 0#16, lateB := 0#16 }
  | 13 => { y with withdrawalPairs := 0#16, generatorPairs := 0#16 }
  | 15 => { y with probesIssued := 0#16, probesStale := 0#8 }
  | _ => y

/-- Twin and halved pools of core slices and HBM units: values above the supply apply as the supply (R340, R354). -/
def Tenant.corePool (t : Tenant) (halved : Bool) : Nat :=
  let n := min 48 t.twinCore.toNat
  if halved then 48 - n else n
def Tenant.hbmPool (t : Tenant) (halved : Bool) : Nat :=
  let n := min 0x8000 t.twinHbm.toNat
  if halved then 0x8000 - n else n

/-- The sum of a floor over all functions. -/
def PortDie.floors (p : PortDie) (f : Fn → Nat) : Nat := (allFns.map (fun i => f (p.fn i))).sum

/-- FN_BUDGET_STATUS.OVERCOMMIT (R343, R354), under the splits in force. -/
def State.overcommit (s : State) : Nat :=
  let p := s.port
  let twin := min 128 p.kept.twinSkim.toNat
  let eng := min 16 p.kept.split.toNat
  let past (n : Nat) (f : Fn → Nat) (pool : Nat) : Nat := if pool < p.floors f then 2 ^ n else 0
  past 0 (fun x => x.twin.skimFloor.toNat) twin + past 1 (fun x => x.halved.skimFloor.toNat) (128 - twin)
  + past 2 (fun x => x.twin.coreFloor.toNat) (p.tenant.corePool false)
  + past 3 (fun x => x.halved.coreFloor.toNat) (p.tenant.corePool true)
  + past 4 (fun x => x.twin.pkFloor.toNat) (16 * eng) + past 5 (fun x => x.halved.pkFloor.toNat) (16 * (16 - eng))
  + past 6 (fun x => x.twin.hbmFloor.toNat) (p.tenant.hbmPool false)
  + past 7 (fun x => x.halved.hbmFloor.toNat) (p.tenant.hbmPool true)

/-- Word `k` of the tenant page (R354). -/
def State.tenantWord (s : State) (k : Nat) : Word :=
  let t := s.port.tenant
  match k with
  | 0 => word [(0, t.twinCoreShadow.toNat), (16, t.twinHbmShadow.toNat)]
  | 1 => word [(0, s.overcommit)]
  | 2 => word [(0, t.resetFn.toNat), (8, (!s.port.resets.isEmpty).toNat), (9, t.resetAll.toNat), (10, t.resetEgress.toNat)]
  | 3 => word [(0, t.faultFn.toNat), (8, t.faultKind.toNat), (10, t.faultPartial.toNat), (11, t.faultMore.toNat),
               (16, t.faultQueue.toNat)]
  | 4 => word [(0, t.faultAddr.toNat % 2 ^ 32)]
  | 5 => word [(0, t.faultAddr.toNat / 2 ^ 32)]
  | 6 => word [(0, t.errQblock.toNat), (1, t.errVectors.toNat), (2, t.errIde.toNat)]
  | _ => word [(0, s.port.vectorsUsed)]

/-- The tenant page after a read of word `k`. -/
def Tenant.clear (t : Tenant) (k : Nat) : Tenant :=
  match k with
  | 3 => { t with faultFn := 0#8, faultKind := 0#2, faultPartial := false, faultMore := false, faultQueue := 0#16 }
  | 4 => { t with faultAddr := t.faultAddr &&& 0xFFFFFFFF00000000#64 }
  | 5 => { t with faultAddr := t.faultAddr &&& 0x00000000FFFFFFFF#64 }
  | 6 => { t with errQblock := false, errVectors := false, errIde := false }
  | _ => t

/-! ### The function page (R418) -/

/-- Word `k` of function `f`'s page (R74, R355, R418). -/
def State.fnWord (s : State) (f k : Nat) : Word :=
  let x := s.port.fn f
  let q := x.qsel.toNat
  let c := s.port.queue q
  let own := s.port.owns f q
  match k with
  | 0 => word [(0, f), (8, (f == 0).toNat)]
  | 1 => word [(0, s.devStatus.toNat % 2 ^ 16)]
  | 2 => BitVec.ofNat 32 s.port.tide
  | 3 => BitVec.ofNat 32 (s.port.tide / 2 ^ 32)
  | 6 => word [(0, x.intakeCause.toNat), (4, x.intakeMore.toNat), (16, x.intakeQueue.toNat)]
  | 7 => x.intakeExpected
  | 8 => word [(0, x.errIntake.toNat), (1, x.errDmaRead.toNat), (2, x.errDmaWrite.toNat), (3, x.errVector.toNat),
               (4, x.errIde.toNat)]
  | 9 => word [(0, q)]
  | 10 => if own then word [(0, 1), (1, c.conf.enable.toNat), (2, c.conf.halved.toNat), (3, c.conf.homeB.toNat),
                            (4, c.conf.assayed.toNat), (5, c.conf.ring.toNat), (6, c.conf.sqLog2.toNat),
                            (11, c.conf.cqLog2.toNat), (16, c.conf.prioLimit.toNat), (19, c.overrun.toNat)]
          else 0#32
  | 11 => if own then c.expected else 0#32
  | 12 => if own then word [(0, c.outstanding.toNat)] else 0#32
  | _ => 0#32

/-- Function `f` after a read of word `k` of its page. -/
def Fn.clear (x : Fn) (k : Nat) : Fn :=
  match k with
  | 6 => { x with intakeCause := 0#4, intakeMore := false, intakeQueue := 0#16 }
  | 7 => { x with intakeExpected := 0#32 }
  | 8 => { x with errIntake := false, errDmaRead := false, errDmaWrite := false, errVector := false, errIde := false }
  | _ => x

/-! ### The indirect space (R427) -/

/-- The words of the indirect space. -/
inductive IndWord where
  | queue (q k : Nat)
  | fn (f k : Nat)
  | qblock (b : Nat)
  | fuse (ch : Chan) (k : Nat)
  | island (ch : Chan) (k : Nat)
  | trace (ch : Chan) (k : Nat)
  deriving DecidableEq, Repr

/-- The word at an indirect address (R427). -/
def indWord (a : Nat) : Option IndWord :=
  if a < 0x400000 then some (.queue (a / 64) (a / 4 % 16))
  else if a < 0x420000 then some (.fn ((a - 0x400000) / 0x200) (a / 4 % 128))
  else if 0x600000 ≤ a && a < 0x601000 then some (.qblock ((a - 0x600000) / 4))
  else if 0x800000 ≤ a && a < 0x800008 then some (.fuse .a (a / 4 % 2))
  else if 0x801000 ≤ a && a < 0x801008 then some (.fuse .b (a / 4 % 2))
  else if 0x1000000 ≤ a && a < 0x1000018 then some (.island .a ((a - 0x1000000) / 4))
  else if 0x1001000 ≤ a && a < 0x1001018 then some (.island .b ((a - 0x1001000) / 4))
  else if 0x1000000000 ≤ a && a < 0x1040000000 then some (.trace .a ((a - 0x1000000000) / 4))
  else if 0x1040000000 ≤ a && a < 0x1080000000 then some (.trace .b ((a - 0x1040000000) / 4))
  else none

/-- The low and the high word of a base of bits [63:12]. -/
def baseLo (b : BitVec 52) : Word := word [(12, b.toNat % 2 ^ 20)]
def baseHi (b : BitVec 52) : Word := word [(0, b.toNat / 2 ^ 20)]

/-- A base with its low or its high word written. -/
def setBaseLo (b : BitVec 52) (v : Word) : BitVec 52 := BitVec.ofNat 52 (b.toNat / 2 ^ 20 * 2 ^ 20 + v.toNat / 2 ^ 12)
def setBaseHi (b : BitVec 52) (v : Word) : BitVec 52 := BitVec.ofNat 52 (v.toNat * 2 ^ 20 + b.toNat % 2 ^ 20)

/-- A field of a word. -/
def bits (v : Word) (lo w : Nat) : BitVec w := BitVec.ofNat w (v.toNat / 2 ^ lo)

/-- Word `k` of queue `q`'s context (R75, R338); SH fields read their shadow (R12). -/
def PortDie.queueWord (p : PortDie) (q k : Nat) : Word :=
  let x := p.queue q
  let h := x.shadow
  match k with
  | 0 => word [(0, h.enable.toNat), (1, h.halved.toNat), (2, h.homeB.toNat), (3, h.assayed.toNat), (4, h.ring.toNat),
               (8, p.queueFn q), (16, h.sqLog2.toNat), (21, h.cqLog2.toNat), (26, h.prioLimit.toNat)]
  | 2 => baseLo h.sqBase
  | 3 => baseHi h.sqBase
  | 4 => baseLo h.cqBase
  | 5 => baseHi h.cqBase
  | 6 => x.expected
  | 7 => word [(0, x.sqHead.toNat), (16, x.sqTail.toNat)]
  | 8 => word [(0, x.cqWrite.toNat), (16, x.cqHead.toNat)]
  | 9 => word [(0, x.phase.toNat), (1, x.overrun.toNat), (2, x.cfgErr.toNat), (15, x.outstanding.toNat)]
  | 10 => word [(0, h.vector.toNat), (11, h.irqEn.toNat), (16, h.modCount.toNat), (24, h.modTides.toNat)]
  | 11 => word [(0, x.unsignalled.toNat), (8, x.firstTide.toNat)]
  | _ => 0#32

/-- The shadow of a queue context with word `k` written; none when the word is read-only. -/
def QConf.write (h : QConf) (k : Nat) (v : Word) : Option QConf :=
  match k with
  | 0 => some { h with enable := v.getLsbD 0, halved := v.getLsbD 1, homeB := v.getLsbD 2, assayed := v.getLsbD 3,
                       ring := v.getLsbD 4, sqLog2 := bits v 16 5, cqLog2 := bits v 21 5, prioLimit := bits v 26 3 }
  | 2 => some { h with sqBase := setBaseLo h.sqBase v }
  | 3 => some { h with sqBase := setBaseHi h.sqBase v }
  | 4 => some { h with cqBase := setBaseLo h.cqBase v }
  | 5 => some { h with cqBase := setBaseHi h.cqBase v }
  | 10 => some { h with vector := bits v 0 11, irqEn := v.getLsbD 11, modCount := bits v 16 8, modTides := bits v 24 8 }
  | _ => none

/-- Word `j` (0 to 3) of a budget record (R344). -/
def Budget.word (b : Budget) (j : Nat) : Word :=
  match j with
  | 0 => Machine.word [(0, b.skimFloor.toNat), (8, b.skimCeil.toNat), (16, b.coreFloor.toNat), (24, b.coreCeil.toNat)]
  | 1 => Machine.word [(0, b.pkFloor.toNat), (16, b.pkCeil.toNat)]
  | 2 => Machine.word [(0, b.hbmFloor.toNat), (16, b.hbmCeil.toNat)]
  | _ => 0#32

/-- Word `k` of function `f`'s record (R353). -/
def PortDie.recordWord (p : PortDie) (f k : Nat) : Word :=
  let x := p.fn f
  let w := SMap.get Window.reset x.windows ((k - 64) / 4)
  if 64 ≤ k then
    match k % 4 with
    | 0 => baseLo w.base
    | 1 => baseHi w.base
    | 2 => word [(0, w.pagesM1.toNat), (24, w.read.toNat), (25, w.write.toNat), (26, w.on.toNat), (27, w.lock.toNat)]
    | _ => 0#32
  else
    match k with
    | 0 => let c := x.cfgShadow
           word [(0, c.vectors.toNat), (12, c.errVector.toNat), (23, c.errEn.toNat), (24, c.ideStream.toNat),
                 (30, c.ideAssigned.toNat)]
    | 1 => word [(0, x.acuWanted.toNat)]
    | 2 => word [(0, x.acuEnabled.toNat), (1, x.acuDraining.toNat), (2, x.cfgFault.toNat), (3, x.writeIgnored.toNat),
                 (4, x.faultWin.toNat)]
    | 4 | 5 | 6 | 7 => x.twin.word (k - 4)
    | 8 | 9 | 10 | 11 => x.halved.word (k - 8)
    | _ => 0#32

/-- A window with word `j` written. -/
def Window.setWord (w : Window) (j : Nat) (v : Word) : Window :=
  match j with
  | 0 => { w with base := setBaseLo w.base v }
  | 1 => { w with base := setBaseHi w.base v }
  | _ => { w with pagesM1 := bits v 0 24, read := v.getLsbD 24, write := v.getLsbD 25, on := v.getLsbD 26,
                  lock := v.getLsbD 27 }

/-- A write of word `j` of window `n` of function `f`: ignored and recorded while the unit is enabled or the entry is
locked (R352). -/
def State.writeWindow (s : State) (f n j : Nat) (v : Word) : State :=
  let x := s.port.fn f
  let w := SMap.get Window.reset x.windows n
  if x.acuEnabled || w.lock then s.updPort (fun p => p.setFn f { x with writeIgnored := true })
  else s.updPort (fun p => p.setFn f { x with windows := SMap.set Window.reset x.windows n (w.setWord j v) })

/-- A bit of IND_STATUS is set, and with it ERR_CAUSE.IND_ERR (R422, R426). -/
def State.indErr (s : State) (f : Global → Global) : State :=
  (s.updPort (fun p => { p with page := f p.page })).errCause .indErr

/-- A word of a channel's own space is reached only while its pages are up; the fuse and island windows are exempt
(R420, R427). -/
def State.indReach (s : State) (w : IndWord) : Bool :=
  match w with
  | .trace ch _ => s.port.pagesUp ch
  | _ => true

/-- A read of a word of the indirect space, with its RC effect (R426). -/
def State.indRead (s : State) (w : IndWord) : Word × State :=
  match w with
  | .queue q k => (s.port.queueWord q k,
      if k == 9 then s.updPort (fun p => p.setQueue q { p.queue q with cfgErr := false }) else s)
  | .fn f k => (s.port.recordWord f k,
      if k == 2 then s.updPort (fun p => p.setFn f { p.fn f with cfgFault := false, writeIgnored := false, faultWin := 0#4 })
      else s)
  | .qblock b => let k := SMap.get QBlock.reset s.port.qblocks b
      (word [(0, k.fnShadow.toNat), (8, k.assignedShadow.toNat)], s)
  | .fuse ch k => (fuseWord (s.chan ch) k, s)
  | .island ch k => (islandWord (s.chan ch) k, s)
  | .trace ch k => (traceWord (s.chan ch) k, s)

/-- A write of a word of the indirect space: RW words at once, SH words to their shadow, read-only words ignored with
RO_WRITE (R426). -/
def State.indWrite (s : State) (w : IndWord) (v : Word) : State :=
  let ro := s.indErr (fun g => { g with roWrite := true })
  match w with
  | .queue q k =>
    match (s.port.queue q).shadow.write k v with
    | some h => s.shadowWrite 0 (fun s => s.updPort (fun p => p.setQueue q { p.queue q with shadow := h }))
    | none => ro
  | .fn f k =>
    if 64 ≤ k && k % 4 != 3 then s.writeWindow f ((k - 64) / 4) (k % 4) v
    else if k == 0 then s.shadowWrite 1 (fun s => s.updPort (fun p => p.setFn f { p.fn f with
      cfgShadow := { vectors := bits v 0 12, errVector := bits v 12 11, errEn := v.getLsbD 23, ideStream := bits v 24 6,
                     ideAssigned := v.getLsbD 30 } }))
    else if k == 1 then (if v.getLsbD 0 then s.acuEnable f else s.acuDisable f)
    else ro
  | .qblock b =>
    let e := SMap.get QBlock.reset s.port.qblocks b
    let e := { e with fnShadow := bits v 0 8, assignedShadow := v.getLsbD 8 }
    s.shadowWrite 1 (fun s => s.updPort (fun p => { p with qblocks := SMap.set QBlock.reset p.qblocks b e }))
  | _ => ro

/-- An IND_DATA access: a read, or a write of a word; the address then advances when INC is 1 (R426). -/
def State.indAccess (s : State) (write : Option Word) : Word × State :=
  let g := s.port.page
  let r : Word × State :=
    match indWord g.indAddr.toNat with
    | none => (0#32, s.indErr (fun g => { g with badAddr := true }))
    | some w =>
      if !s.indReach w then (0#32, s.indErr (fun g => { g with indChannelDown := true }))
      else match write with
        | none => s.indRead w
        | some v => (0#32, s.indWrite w v)
  (r.1, if g.indInc then r.2.updPort (fun p => { p with page := { p.page with indAddr := g.indAddr + 4#48 } }) else r.2)

/-- IND_ADDR_LO: the whole address, with the staged high part (R426). -/
def State.writeIndLo (s : State) (v : Word) : State :=
  s.updPort (fun p => { p with page := { p.page with
    indAddr := BitVec.ofNat 48 (p.page.stagedHi.toNat * 2 ^ 32 + v.toNat / 4 * 4) } })

/-- IND_ADDR_HI: ADDR[47:32] is staged, INC is set at once (R426). -/
def State.writeIndHi (s : State) (v : Word) : State :=
  s.updPort (fun p => { p with page := { p.page with stagedHi := bits v 0 16, indInc := v.getLsbD 31 } })

/-! ### BAR2 (R419 to R421) -/

/-- What a BAR2 offset reaches (R419, R421, R334, R354): a word of a port-die page or an offset of a channel's page. -/
inductive DevReg where
  | global (k : Nat)
  | assay (k : Nat)
  | tenant (k : Nat)
  | page (ch : Chan) (page offset : Nat)
  deriving DecidableEq, Repr

/-- The register a BAR2 offset reaches; none on an unmapped page. -/
def devReg (o : Nat) : Option DevReg :=
  let page := o / 4096
  let k := o / 4 % 64
  if page == 0 then some (.global (if k % 32 < 16 then k % 32 else 16 + k % 8))
  else if page == 1 then some (.assay (k % 16))
  else if page == 2 then some (.tenant (k % 8))
  else if 0x100 ≤ page && page < 0x108 then some (.page .a (page - 0x100) (o % 4096))
  else if 0x200 ≤ page && page < 0x208 then some (.page .b (page - 0x200) (o % 4096))
  else none

/-- The tamper page of channel `ch` as its pins and its peer stand. -/
def State.pinView (s : State) (ch : Chan) : PinView :=
  let l := (s.chan ch).tamper.levelsOf (Config.freeNat s.free)
  { outLow := s.tamperOutLow, peerHalted := (s.chan ch.peer).start.step == .halted, tmpIn := l.1, wakeHigh := l.2 }

/-- The register of a channel's page is TAMPER_PINS, whose levels a read samples. -/
def readsPins (page off : Nat) : Bool := page == 7 && off / 4 % 16 == 14

/-- A read of a register of BAR2 (R12, R419, R420). -/
def State.devRead (s : State) (o : Nat) : Word × State :=
  match devReg o with
  | none => (0#32, s.errCause .unmapped)
  | some (.global k) => if k == 18 then s.indAccess none else (s.globalWord k, s.updPort (fun p => p.globalClear k))
  | some (.assay k) => (s.assayWord k, s.updPort (fun p => { p with assay := p.assay.clear k }))
  | some (.tenant k) => (s.tenantWord k, s.updPort (fun p => { p with tenant := p.tenant.clear k }))
  | some (.page ch page off) =>
    if s.port.pagesUp ch then
      let r := (s.chan ch).readPage (s.pinView ch) page off
      let t := s.setChan ch r.2
      (r.1, if readsPins page off then t.drawn else t)
    else (0#32, s.errCause .channelDown)

/-- A write of a register of BAR2 (R12, R419, R420, R423). -/
def State.devWrite (s : State) (o : Nat) (v : Word) : State :=
  match devReg o with
  | none => s.errCause .unmapped
  | some (.global k) =>
    match k with
    | 7 => s.updPort (fun p => { p with page := { p.page with scratch := v } })
    | 12 => s.writeCommit v
    | 16 => s.writeIndLo v
    | 17 => s.writeIndHi v
    | 18 => (s.indAccess (some v)).2
    | _ => s
  | some (.assay k) =>
    if k == 0 then s.shadowWrite 5 (fun s => s.updPort (fun p =>
      { p with assay := { p.assay with floorShadow := bits v 0 8, irqShadow := v.getLsbD 8 } })) else s
  | some (.tenant k) =>
    if k == 0 then s.shadowWrite 6 (fun s => s.updPort (fun p =>
      { p with tenant := { p.tenant with twinCoreShadow := bits v 0 6, twinHbmShadow := bits v 16 16 } })) else s
  | some (.page ch page off) =>
    if !s.port.pagesUp ch then s.errCause .channelDown
    else match chanShadow page off with
      | none => s
      | some r => s.shadowWrite r.bit (fun s => s.upd ch (fun c => c.writeShadow r v))

/-! ### BAR0 and BAR4 (R415 to R418) -/

/-- The function-page word of a BAR0 offset; none inside the intake windows (R417). -/
def fnPageWord (o : Nat) : Option Nat := if 0x800 ≤ o && o < 0x1000 then some (o / 4 % 32) else none

/-- A read of one DWORD of a function's BARs (R415 to R419). -/
def State.readWord (s : State) (f : Nat) (bar : Bar) (o : Nat) : Word × State :=
  match bar with
  | .bar0 =>
    match fnPageWord o with
    | none => (0#32, s)
    | some k => (s.fnWord f k, s.updPort (fun p => p.setFn f ((p.fn f).clear k)))
  | .bar2 => if f == 0 then s.devRead o else (0#32, s)
  | .bar4 =>
    if o < 0x8000 then
      let e := SMap.get msixReset s.host.table (2048 * f + o / 16)
      let w := leAt e (o % 16) 4
      (BitVec.ofNat 32 (if o % 16 == 12 && s.masked f (o / 16) then w / 2 * 2 + 1 else w), s)
    else
      let n := o - 0x8000
      (word [(0, bitsOf 32 (fun i => n < 256 && SMap.get false s.host.pba (2048 * f + 8 * n + i)))], s)

/-- A write of a word of the MSI-X table; unmasking a pending live entry sends its message (R337, R338). -/
def State.writeMsix (s : State) (f o : Nat) (v : Word) : State :=
  if 0x8000 ≤ o then s
  else
    let i := 2048 * f + o / 16
    let e := SMap.get msixReset s.host.table i
    let s := { s with host := { s.host with
      table := SMap.set msixReset s.host.table i (e.take (o % 16) ++ leBytes 4 v.toNat ++ e.drop (o % 16 + 4)) } }
    if SMap.get false s.host.pba i && !s.masked f (o / 16) then
      { s with host := { s.host with pba := SMap.set false s.host.pba i false,
                                     sent := s.host.sent ++ [{ function := f, vector := o / 16, ide := s.port.secureIde f }] } }
    else s

/-- A write of one DWORD of a function's BARs (R415 to R419). -/
def State.writeWord (s : State) (f : Nat) (bar : Bar) (o : Nat) (v : Word) : State :=
  match bar with
  | .bar0 =>
    match fnPageWord o with
    | some 4 => s.writeRingTail f v
    | some 5 => s.writeCqHead f v
    | some 9 => if s.port.underReset f then s else s.updPort (fun p => p.setFn f { p.fn f with qsel := bits v 0 16 })
    | _ => s
  | .bar2 => if f == 0 then s.devWrite o v else s
  | .bar4 => s.writeMsix f o v

/-- The access is one R416 allows: one aligned DWORD, or two DWORDs aligned to 8 bytes. -/
def accessOk (o n : Nat) : Bool := (n == 1 && o % 4 == 0) || (n == 2 && o % 8 == 0)

/-- ERR_CAUSE.ACCESS with the function of the first (R416, R422). -/
def State.accessError (s : State) (f : Nat) : State :=
  let s := if s.port.page.ecAccess then s else s.updPort (fun p => { p with page := { p.page with ecFunction := byte f } })
  s.errCause .access

/-- The DWORDs from `o` on are read, lower address first. -/
def State.readWords (s : State) (f : Nat) (bar : Bar) (o : Nat) : Nat → List Word × State
  | 0 => ([], s)
  | n + 1 =>
    let r := s.readWord f bar o
    let t := State.readWords r.2 f bar (o + 4) n
    (r.1 :: t.1, t.2)

/-- The DWORDs are written from `o` on, lower address first. -/
def State.writeWords (s : State) (f : Nat) (bar : Bar) (o : Nat) : List Word → State
  | [] => s
  | v :: l => State.writeWords (s.writeWord f bar o v) f bar (o + 4) l

/-- The DWORD at an offset stands in an intake window of BAR0 (R417). -/
def inWindow (bar : Bar) (o : Nat) : Bool := bar == .bar0 && (fnPageWord o).isNone

/-- A host read, `enables` telling whether its byte enables are all set: whole DWORDs even where R416 does not allow the
access, with their RC effects, and ERR_CAUSE.ACCESS then (R416). A DWORD of an intake window reads 0 with no effect (R417),
and an access wholly inside the windows is no error. -/
def State.hostRead (s : State) (f : Nat) (bar : Bar) (o n : Nat) (enables : Bool) : State :=
  let o' := o / 4 * 4
  let r := s.readWords f bar o' n
  let t := if (accessOk o n && enables) || (List.range n).all (fun i => inWindow bar (o' + 4 * i)) then r.2 else r.2.accessError f
  { t with host := { t.host with readData := r.1 } }

/-- A host write: ignored with ERR_CAUSE.ACCESS where R416 does not allow it; inside an intake window it is a doorbell
(R416, R417). -/
def State.hostWrite (s : State) (f : Nat) (bar : Bar) (o : Nat) (data : List Word) (enables : Bool) : State :=
  if inWindow bar o then
    s.doorbell f (o % 4096) ((data.map (fun v => leBytes 4 v.toNat)).flatten)
  else if accessOk o data.length && enables then s.writeWords f bar o data
  else s.accessError f

/-! ### The commands of the register interface -/

/-- R423: COMMIT, a write of PF0's COMMIT register. -/
def execCommit (t : Tlp) (value : Word) (s : State) : Out :=
  .next (s.hostAccess t (fun s => if t.function == 0#8 then s.writeCommit value else s))

/-- R423: COMMIT_APPLY. -/
def execCommitApply (s : State) : Out := .next (s.finish s.applyCommits)

/-- R426: IND_ADDR_LO. -/
def execIndAddrLo (t : Tlp) (value : Word) (s : State) : Out :=
  .next (s.hostAccess t (fun s => if t.function == 0#8 then s.writeIndLo value else s))

/-- R426: IND_ADDR_HI. -/
def execIndAddrHi (t : Tlp) (value : Word) (s : State) : Out :=
  .next (s.hostAccess t (fun s => if t.function == 0#8 then s.writeIndHi value else s))

/-- R426: IND_DATA. -/
def execIndData (t : Tlp) (write : Option Word) (s : State) : Out :=
  .next (s.finish (s.hostAccess t (fun s =>
    if t.function == 0#8 then
      let r := s.indAccess write
      { r.2 with host := { r.2.host with readData := if write.isSome then [] else [r.1] } }
    else s)))

/-- R352: FN_ACU_ENABLE, a write of 1 to the function's FN_ACU_CTRL.ENABLE by PF0. -/
def execFnAcuEnable (t : Tlp) (fn : BitVec 8) (s : State) : Out :=
  .next (s.finish (s.hostAccess t (fun s => if t.function == 0#8 then s.acuEnable fn.toNat else s)))

/-- R352: FN_ACU_DISABLE, a write of 0 to the function's FN_ACU_CTRL.ENABLE by PF0. -/
def execFnAcuDisable (t : Tlp) (fn : BitVec 8) (s : State) : Out :=
  .next (s.hostAccess t (fun s => if t.function == 0#8 then s.acuDisable fn.toNat else s))

/-- R352: ACU_DRAIN_DONE. -/
def execAcuDrainDone (fn : BitVec 8) (s : State) : Out := .next (s.acuDrained fn.toNat)

/-- R12: REGISTER_WRITE. -/
def execRegisterWrite (t : Tlp) (bar : Bar) (offset : Nat) (data : List Word) (enables : Bool) (s : State) : Out :=
  .next (s.finish (s.hostAccess t (fun s => s.hostWrite t.function.toNat bar offset data enables)))

/-- R12: RC_REGISTER_READ. -/
def execRcRegisterRead (t : Tlp) (bar : Bar) (offset : Nat) (span : ReadSpan) (s : State) : Out :=
  .next (s.hostAccess t (fun s => s.hostRead t.function.toNat bar offset span.dwords span.enables))

end Sys2Proof.Machine
end

