-- ==== Sys2Proof/Machine/Admission.lean ====
section
/-! DEFINITION. The admission check of a channel (R79 to R81, R105, R106, R233, R293, R295, R340 to R342, R455): what a
command asks for, the counters of its tide and kind, the booking of a lane pair, and the conditions in their order. -/

namespace Sys2Proof.Machine

/-! ### Counters of a tide (R81, R341) -/

/-- The budget record of a kind. -/
def Fn.budget (x : Fn) (halved : Bool) : Budget := if halved then x.halved else x.twin

/-- The lane pairs of a kind: the first, and how many (R105). -/
def Channel.pairsOf (c : Channel) (halved : Bool) : Nat × Nat :=
  if halved then (c.twinPairs, c.skimPairs - c.twinPairs) else (0, c.twinPairs)

/-- The counters of a tide that opens under the shares in force (step 5 of R35). -/
def Channel.openUse (c : Channel) (p : PortDie) (halved : Bool) (tide : Nat) : TideUse :=
  let t := p.tenant
  let skim := if halved then 128 - c.sched.twinSkim else c.sched.twinSkim
  TideUse.fresh tide skim (t.corePool halved) (t.hbmPool halved) (c.pairsOf halved) (c.pks.engineCount halved)
    (if halved then c.thermal.ebbHalved else c.thermal.ebbTwin) c.thermal.share (p.fns.map (fun g => (g.1, g.2.budget halved)))

/-- The counters of a kind, the newest tide's first. -/
def Sched.uses (d : Sched) (halved : Bool) : List TideUse := if halved then d.useHalved else d.useTwin

/-- A function that has used nothing. -/
def FnUse.none (f : Nat) : FnUse := { function := f, skim := 0, core := 0, hbm := 0, ceil := 0, floor := 0, pk := 0 }

/-- What a function has used in a tide. -/
def TideUse.of (u : TideUse) (f : Nat) : FnUse := (u.fns.find? (fun y => y.function == f)).getD (FnUse.none f)

/-- The counters with a function's use replaced. -/
def TideUse.setFn (u : TideUse) (y : FnUse) : TideUse :=
  { u with fns := y :: u.fns.filter (fun v => v.function != y.function) }

/-- The budget record of a function in the tide (R40, R79). -/
def TideUse.budget (u : TideUse) (f : Nat) : Budget := SMap.get Budget.reset u.budgets f

/-- A function's ledgers at the drain that opens tide `v`, after tide `u` (R342). -/
def TideUse.drainFn (u v : TideUse) (f : Nat) : FnUse :=
  let x := u.of f
  let n := v.tide - u.tide
  { v.of f with ceil := x.ceil + x.pk - n * (v.budget f).pkCeil.toNat, floor := x.floor + x.pk - n * (v.budget f).pkFloor.toNat }

/-- The ledgers of tide `v` after those of tide `u`: what `u` left, drained once for every boundary between (R233, R342,
R455). -/
def TideUse.after (v u : TideUse) : TideUse :=
  let n := v.tide - u.tide
  let fns := ((u.fns ++ v.fns).map (·.function)).eraseDups
  { v with ledger := u.ledger + u.pk - n * (16 * v.engines)
           eledger := u.eledger + u.pk - n * (v.engines * v.ebbShare)
           fns := (fns.map (u.drainFn v)).filter (fun y => y != FnUse.none y.function) }

/-- The ledgers of each tide follow from those of the tide before it. -/
def rollUses : List TideUse → List TideUse
  | [] => []
  | v :: l => match rollUses l with
    | [] => [v]
    | u :: r => v.after u :: u :: r

/-- Counters of a tide are kept, of the 16 most recent tides (R81); the ledgers of later tides follow. -/
def keepUse (l : List TideUse) (u : TideUse) : List TideUse :=
  rollUses (if l.any (fun v => v.tide == u.tide) then l.map (fun v => if v.tide == u.tide then u else v)
    else ((l.filter (fun v => u.tide < v.tide)) ++ u :: l.filter (fun v => v.tide < u.tide)).take 16)

/-- The counters of a tide. -/
def Channel.tideUse (c : Channel) (p : PortDie) (halved : Bool) (tide : Nat) : TideUse :=
  let l := c.sched.uses halved
  let new := c.openUse p halved tide
  match l.find? (fun u => u.tide == tide) with
  | some u => u
  | none => ((keepUse l new).find? (fun u => u.tide == tide)).getD new

/-- The channel with the counters of a tide. -/
def Channel.setUse (c : Channel) (halved : Bool) (u : TideUse) : Channel :=
  c.onSched (fun d => if halved then { d with useHalved := keepUse d.useHalved u }
    else { d with useTwin := keepUse d.useTwin u })

/-- The tide opens: its counters start, and PK_LEDGER shows the ledgers that the drain leaves (R233, R246, R341, R342). -/
def Channel.openTide (c : Channel) (p : PortDie) : Channel :=
  let open_ (c : Channel) (h : Bool) : Channel := c.setUse h (c.tideUse p h c.tide)
  let c := open_ (open_ c false) true
  let at' (h : Bool) : Nat := (c.tideUse p h c.tide).ledger
  { c with pks := { c.pks with drainedTwin := at' false, drainedHalved := at' true } }

/-- `floor` of every function but `f` beyond its use, summed, by the tide's budgets (R341, R342). -/
def TideUse.spare (u : TideUse) (f : Nat) (floor : Budget → Nat) (used : Nat → Nat) : Nat :=
  ((u.budgets.filter (fun g => g.1 != f)).map (fun g => floor g.2 - used g.1)).sum

/-- The pool test of R341. -/
def poolOk (used c floor pool spare supply : Nat) : Bool := decide (used + c ≤ floor) || decide (pool + c + spare ≤ supply)

/-! ### What a command asks for (R79) -/

/-- A command's charges (R101, R123, R148, R189, R214, R232, R266, R300). -/
structure Ask where
  skim : Bool
  rng : Bool
  core : Nat
  pk : Nat
  hbm : Nat
  lane : Nat
  deriving DecidableEq, Repr

/-- Extension records of the key in a key block: of the longest its key data can hold (DESIGN CHOICE, log 41). -/
def kbExt (kb : Bytes) : Nat :=
  match parseKeyBlock kb with
  | some b => (longestKey b.algorithm b.data.length).elim 0 (fun k => if k.1 == 0#2 then 0 else extFor k.2.2)
  | none => 0

/-- The algorithms of R225. -/
def pkAlgos : List Nat := [0x01, 0x02, 0x03, 0x11, 0x12, 0x13, 0x21, 0x22, 0x31, 0x32, 0x33, 0x41, 0x42, 0x43]

/-- Extension records of the largest key of a slot: none in the symmetric range (R247), and of asymmetric keys those of the
longest (DESIGN CHOICE, log 41). -/
def slotExt (slot : Nat) : Nat := if isAsymSlot (slot % slotCount) then (pkAlgos.map (pkExt · true)).foldl max 0 else 0

/-- Extension records of the transport private key of an import: its method and the length of A tell the algorithm (R165). -/
def importKeyExt (method a : Nat) : Nat :=
  let mine (n : Nat) : Bool := methodAlg method n && (pkAlg n).any (fun k => (if method == 2 then k.pub else k.ct) == a)
  ((pkAlgos.filter mine).map (pkExt · true)).foldl max 0

/-- Extension records of a key that a charge counts by what the payload alone tells, so that both channels charge alike (R40,
R101, R224): of a transport those of its key, of the key moved and of SIGNER (R148, R232; DESIGN CHOICE, log 41). -/
def Item.extOf (x : Item) : Nat :=
  let p := x.p
  match x.op with
  | .keyblockExport | .keyWrap => slotExt (leAt p 4 4)
  | .keyblockImport => kbExt (p.drop 16)
  | .transportImport =>
    importKeyExt (u8 p 12) (leAt p 64 2)
    + (if u8 p 13 == 1 then 0 else kbExt (slice p (72 + leAt p 64 2) (leAt p 66 2)))
    + (let n := leAt p 68 2; if n == 0 then 0 else pkExt (if n == 96 then 0x12 else 0x42) true)
  | .transportExport =>
    ((pkAlgos.filter (methodAlg (u8 p 12))).map (pkExt · true)).foldl max 0 + slotExt (leAt p 8 4)
    + (if leAt p 4 4 == noRef then 0 else pkExt 0x42 true)
  | .keyGenerate | .keyRestrict | .keyDestroy => slotExt (leAt p 0 4)
  | _ => 0

/-- The charges of an item. -/
def Item.ask (x : Item) : Ask :=
  { skim := x.skim, rng := x.op.needsRng x.p, core := if x.skim then 0 else x.op.coreSlices, pk := x.op.pkCharge x.p,
    hbm := ceilDiv (x.op.hbmCharge x.skim x.p x.extOf) 64, lane := if x.skim then x.op.laneCharge x.p else 0 }

/-! ### Booking (R105, R106, R109) -/

/-- The booked-until time a pair would take. -/
def bookAt (p : Pair) (first charge : Nat) : Nat := max p.booked (first + 136) + charge

/-- The command belongs to the tide before a join, in which the survivor books against the class 0 limit (R109); decode may
reach it after that tide. -/
def Channel.capped (c : Channel) (p : PortDie) (x : Item) : Bool :=
  !x.halved && (c.skim.joinCap
    || (c.refill.sending.isSome && BitVec.ofNat 32 (x.admitTide + 1) == p.assay.joinTide))

/-- The pair the booking of R106 gives, for a command of a class in the tide of `u`, of the pairs that were its kind's there
(R40). The search starts at the pair the rotation names, or, where that is no pair of the kind, at the kind's first (DESIGN
CHOICE, log 220). -/
def Channel.booking (c : Channel) (halved cap : Bool) (u : TideUse) (cls charge : Nat) : Option Nat :=
  let k := (u.firstPair, u.pairs)
  let first := 4096 * (u.tide + 1)
  let d := if cap then 1 else classTides cls
  let at' := if halved then c.skim.rotHalved else c.skim.rotTwin
  let rot := if k.1 ≤ at' && at' < k.1 + k.2 then at' - k.1 else 0
  ((List.range k.2).map (fun i => k.1 + (rot + i) % k.2)).find? (fun j =>
    decide (bookAt (c.skim.pairs.getD j Pair.idle) first charge ≤ first + 4096 * d - 47))

/-- The pair is booked, and the rotation moves past it. -/
def Channel.book (c : Channel) (halved : Bool) (u : TideUse) (charge j : Nat) : Channel :=
  let next := u.firstPair + (j - u.firstPair + 1) % u.pairs
  let pairs := c.skim.pairs.mapIdx (fun i p => if i == j then { p with booked := bookAt p (4096 * (u.tide + 1)) charge } else p)
  let r := c.skim.regs
  let regs := { r with admits := satBv r.admits 1, booked := satBv r.booked charge }
  { c with skim := if halved then { c.skim with pairs := pairs, rotHalved := next, regs := regs }
                   else { c.skim with pairs := pairs, rotTwin := next, regs := regs } }

/-! ### Conditions (R79) -/

/-- Condition 6 for a function and charge under the budgets, the engines and the ledgers of its tide: the function's ledgers
and the channel's (R233, R342). -/
def TideUse.pkOk (u : TideUse) (f n : Nat) : Bool :=
  let b := u.budget f
  let y := u.of f
  let e := u.engines
  let l := u.ledger + u.pk
  let reserve := u.spare f (fun b => 32 * b.pkFloor.toNat) (fun g => (u.of g).floor + (u.of g).pk)
  n == 0
  || (b.pkCeil != 0#9 && (y.ceil + y.pk == 0 || decide (y.ceil + y.pk + n ≤ 32 * b.pkCeil.toNat))
      && (decide (y.floor + y.pk + n ≤ 32 * b.pkFloor.toNat) || l == 0 || decide (l + n + reserve ≤ 512 * e))
      && e != 0 && (l == 0 || decide (l + n ≤ 512 * e)))

/-- The ebb test of R455, in the tide's counters. -/
def TideUse.ebbOk (u : TideUse) (a : Ask) : Bool :=
  let l := u.eledger + u.pk
  !u.ebbOn || a.skim
  || (decide (u.ebb + a.core ≤ u.coreShare * u.ebbShare / 16)
      && (a.pk == 0 || l == 0 || decide (l + a.pk ≤ 32 * u.engines * u.ebbShare)))

/-- The first condition of R79 that fails, as its BUSY detail. A free flow way (condition 8) is tested where the command
joins its flows. ECHO takes no budget (R301). -/
def Channel.refusal (c : Channel) (p : PortDie) (x : Item) : Option (BitVec 4) :=
  let h := x.halved
  let f := x.fn
  let a := x.ask
  let u := c.tideUse p h x.admitTide
  let b := u.budget f
  let mine := u.of f
  let spare (floor : Budget → Nat) (used : FnUse → Nat) : Nat := u.spare f floor (fun g => used (u.of g))
  if x.op == .echo then none
  else if a.rng && !(c.rng.state == .ready || c.rng.state == .failed) then some busyWarming
  else if !u.ebbOk a then some busyEbb
  else if a.skim && (!poolOk mine.skim 1 b.skimFloor.toNat u.skim (spare (·.skimFloor.toNat) (·.skim)) u.skimShare
      || (c.booking h (c.capped p x) u x.pkt.hdr.cls.toNat a.lane).isNone) then some busySkim
  else if a.skim && b.skimCeil.toNat < mine.skim + 1 then some busyFnSkim
  else if !a.skim && (!poolOk mine.core a.core b.coreFloor.toNat u.corePool (spare (·.coreFloor.toNat) (·.core)) u.coreShare
      || b.coreCeil.toNat < mine.core + a.core) then some busyCore
  else if !u.pkOk f a.pk then some busyPk
  else if !poolOk mine.hbm a.hbm b.hbmFloor.toNat u.hbmPool (spare (·.hbmFloor.toNat) (·.hbm)) u.hbmShare
      || b.hbmCeil.toNat < mine.hbm + a.hbm then some busyHbm
  else none

/-- A refusal of condition 3 is counted by its reason (R118). -/
def Channel.noteRefusal (c : Channel) (p : PortDie) (x : Item) (detail : BitVec 4) : Channel :=
  if detail != busySkim then c
  else
    let u := c.tideUse p x.halved x.admitTide
    let b := u.budget x.fn
    let spare := u.spare x.fn (·.skimFloor.toNat) (fun g => (u.of g).skim)
    if poolOk (u.of x.fn).skim 1 b.skimFloor.toNat u.skim spare u.skimShare then
      c.mapSkim (fun r => { r with refusedLanes := satBv r.refusedLanes 1 })
    else c.mapSkim (fun r => { r with refusedCount := satBv r.refusedCount 1 })

/-- The charges of an accepted command are made (R341, R342, R233, R455). -/
def Channel.charge (c : Channel) (p : PortDie) (x : Item) : Channel :=
  let h := x.halved
  let a := x.ask
  let u := c.tideUse p h x.admitTide
  let y := u.of x.fn
  let s := if a.skim then 1 else 0
  let y := { y with skim := y.skim + s, core := y.core + a.core, hbm := y.hbm + a.hbm, pk := y.pk + a.pk }
  c.setUse h { u.setFn y with skim := u.skim + s, ebb := u.ebb + a.core, corePool := u.corePool + a.core,
                              hbmPool := u.hbmPool + a.hbm, pk := u.pk + a.pk }

/-! ### Random material at admission (R293, R295, R298) -/

/-- A renewal is triggered, or a pending one joined (R295). -/
def Rng.trigger (g : Rng) : Rng :=
  if g.renewal.isSome then g else { g with renewal := some Renewal.fresh }

/-- A twin command that draws counts against the current epoch, and the 2^24-th triggers a renewal; a twin RESEED
triggers one. -/
def Channel.countDraw (c : Channel) (x : Item) : Channel :=
  let g := c.rng
  if x.halved then c
  else if x.op == .reseed then { c with rng := g.trigger }
  else if !x.op.draws x.p then c
  else if (g.epochAt x.admitTide).elim false (fun e => e.number == g.current) then
    let g := { g with uses := g.uses + 1 }
    { c with rng := if g.uses == 2 ^ 24 then g.trigger else g }
  else c

/-- Lengths a command draws under indices 0, 1, … from its payload alone (R127, R144, R189, R196, R300); 0 for none. -/
def skimDraw (x : Item) : List Nat := if x.op.draws x.p then [16] else []

/-- A lane's mask request waits: a reseed is due, and generate requests wait with it (R289, R290). -/
def Channel.maskWaits (c : Channel) (o : Op) : Bool :=
  c.rng.state == .ready && c.rng.reseedDue && Config.maskLen o.code % 4097 != 0

/-- The masks of an item's lane work, always from the channel's CTR_DRBG, whole after 16 cycles (R290, R298). A lane that starts
while the generator has failed runs without new masks, which change no result (DESIGN CHOICE, log 102). -/
def Channel.maskDraw (c : Channel) (x : Item) : Channel × Item :=
  let n := Config.maskLen x.op.code % 4097
  if c.rng.state != .ready || n == 0 then (c, x)
  else ({ c with rng := (c.rng.generate [] n).2 }, { x with drawnAt := max x.drawnAt (c.now + 16) })

/-- A skim command's draw is issued at its admission check (R298); a halved one may wait for a reseed. -/
def Channel.drawSkim (c : Channel) (x : Item) : Channel × Item :=
  match c.rng.drawAll x.pkt.hdr x.admitTide 0 (skimDraw x) with
  | (some l, _, g) => ({ c with rng := g }, { x with drawn := l, drawnAt := c.now + 16 })
  | (none, failed, g) => ({ c with rng := g }, { x with rngFailed := failed })

/-- A command that passes the admission check: its charges, its lane pair and its draw. -/
def Channel.accepted (c : Channel) (p : PortDie) (x : Item) : Channel × Item :=
  let c := if x.op == .echo then c else c.charge p x
  let c := c.countDraw x
  let x := { x with admitAt := some c.now }
  if !x.skim then (c, x)
  else
    let a := x.ask
    let u := c.tideUse p x.halved x.admitTide
    match c.booking x.halved (c.capped p x) u x.pkt.hdr.cls.toNat a.lane with
    | none => (c, x)
    | some j => (c.book x.halved u a.lane j).drawSkim { x with pair := some j, charge := a.lane }

end Sys2Proof.Machine
end

