-- ==== Sys2Proof/Machine/Sched.lean ====
section
/-! DEFINITION. The scheduler of a channel (R78 to R95, R103 to R111, R256, R265): decode, start, the skim lanes, key
cache fills, the release of delayed commands, wait limits, deadline misses and the completion collector. -/

namespace Sys2Proof.Machine

/-! ### What a command computes once its keys are read -/

/-- The outcome of an operation on its channel, its keys and its drawn material, after every check that precedes it. -/
def Channel.run (c : Channel) (x : Item) (ks : List Loaded) : Channel × Res :=
  let p := x.p
  let pure (r : Res) : Channel × Res := (c, r)
  match x.op with
  | .getRandom => pure (.good (x.material 0))
  | .reseed => pure (.good (zeros 12 ++ [byte x.halved.toNat]))
  | .echo => pure (.good p)
  | .pinTranslate => pure (runPinTranslate p ks (x.material 0))
  | .pinVerifyOffset => pure (runPinOffset p ks x.dectab)
  | .pinVerifyPvv => pure (runPinPvv p ks)
  | .pinChange => pure (runPinChange p ks x.dectab)
  | .cvcGenerate => pure (runCvcGenerate p ks)
  | .cvcVerify => pure (runCvcVerify p ks)
  | .arqcVerify => pure (runArqc p ks false)
  | .arqcVerifyLongPan => pure (runArqc p ks true)
  | .dukptTranslate | .dukptTranslateLongKey => pure (runDukptTranslate p ks (x.material 0))
  | .dukptData => pure (runDukptData p ks)
  | .macCmac | .macIso97973 | .macCmacLong | .macIso9797Long | .macHmacSha256 => pure (runMac x.op 48 p ks)
  | .macHmacSha2 => pure (runMac x.op 80 p ks)
  | .keyblockImport => runKbImport c x ks
  | .keyblockExport => pure (runKbExport p ks (x.material 0))
  | .keyWrap => pure (runKeyWrap p ks)
  | .keyUnwrap => runKeyUnwrap c x ks
  | .transportImport => runTransportImport c x ks
  | .transportExport => pure (runTransportExport x ks)
  | .componentBegin => runCompBegin c x
  | .componentAdd => runCompAdd c x
  | .componentAbandon => runCompAbandon c x
  | .tokenFf1 => pure (runFf1 p ks)
  | .vaultTokenise => runTokenise c x
  | .vaultDetokenise => pure (runDetokenise c x)
  | .vaultDelete => runVaultDelete c x
  | .cipherEncrypt => pure (runEncrypt p ks (x.material 0))
  | .cipherDecrypt => pure (runDecrypt p ks)
  | .streamOpen => runStreamOpen c x ks
  | .streamUpdate => runStreamUpdate c x
  | .streamFinal => runStreamFinal c x
  | .streamAbandon => runStreamAbandon c x
  | .digest => pure (runDigest p)
  | .pkSign | .pkVerify | .pkKeygen | .pkAgree | .pkEncap | .pkDecap | .pkPubkeyExport | .pkPubkeyImport => runPk c x ks
  | .keyCheckValue => pure (runCheckValue ks)
  | .keyAttributes => pure (runAttributes c x ks)
  | .keyGenerate => runGenerate c x
  | .keyRestrict => runRestrict c x
  | .keyDestroy => runDestroy c x

/-- The item with the decimalisation table its key read finds (R143). -/
def Channel.withTable (c : Channel) (x : Item) : Item :=
  match x.op with
  | .pinVerifyOffset => { x with dectab := tableDigits (c.dectab x.fn (u8 x.p 11)) }
  | .pinChange => { x with dectab := tableDigits (c.dectab x.fn (u8 x.p 12)) }
  | _ => x

/-- What a completion decided in the channel adds to its counters: R188 refusals, TAG_FAIL decided in the rakes (R204),
RNG_FAILED (R306), the score's deductions of R312, and the health bit that a failed closing check clears (R311). -/
def Channel.noteResult (c : Channel) (x : Item) (r : Res) : Channel :=
  let k := c.rakes
  let rakeTag := r.code == .tagFail && !r.offRake && x.op != .macHmacSha256 && x.op != .macHmacSha2 && x.op != .pkVerify
    && x.op != .streamFinal
  let c :=
    if r.code == .keyExhausted && !x.binds.any (·.exhausted) then
      { c with rakes := { k with exhaustRefused := satBv k.exhaustRefused 1 } }
    else if rakeTag then { c with rakes := { k with tagFails := satBv k.tagFails 1 } } else c
  let c := if r.code == .rngFailed then { c with rng := { c.rng with failedReqs := satBv c.rng.failedReqs 1 } } else c
  let h := c.health
  let c := if r.code == .faultDetected || r.code == .invariantFail then { c with health := { h with deduct := h.deduct + 16 } } else c
  if r.code == .invariantFail then c.clearHealth 5 else c

/-! ### Key cache fills (R110, R111, R265) -/

/-- Generations an item has bound that the cache does not hold; none when a slot lies outside its grants (R463). -/
def Channel.misses (c : Channel) (x : Item) : List (Nat × BitVec 16) :=
  let reqs := keyReqs x.op x.p
  let named := reqs.map (·.slot) ++ ((targetOf x.op x.p).map (·.2)).toList
  if !named.all (c.granted x.fn) then []
  else (reqs.filterMap (fun r => match x.binds.find? (fun b => b.slot == r.slot) with
    | some b => if c.keys.cached b.slot b.generation then none else some (b.slot, b.generation)
    | none => none)).eraseDups

/-- What of an item's misses needs a fill: not a slot that its own fill has found empty or corrupt. -/
def Channel.wanted (c : Channel) (x : Item) : List (Nat × BitVec 16) :=
  let loads (q : Nat × BitVec 16) : Bool := match c.keys.load q.1 q.2 with | .loaded .. => true | _ => false
  (c.misses x).filter (fun q => x.fills.contains q || !x.missedSlots.contains q.1 || loads q)

/-- The tag look-up of an item's keys: what misses is to be filled. -/
def Channel.lookUp (c : Channel) (x : Item) : Item :=
  let m := c.wanted x
  { x with fills := m, missedSlots := (x.missedSlots ++ m.map (·.1)).eraseDups }

/-- The key reads of an item that hit are counted, whatever they end with: those of slots whose look-up did not miss. A command
that names a slot outside its grants reads none (R283, R463). -/
def Channel.countHits (c : Channel) (x : Item) : Channel :=
  let reqs := keyReqs x.op x.p
  let hit := reqs.filter (fun r => !x.missedSlots.contains r.slot)
  if !(reqs.map (·.slot) ++ ((targetOf x.op x.p).map (·.2)).toList).all (c.granted x.fn) then c
  else { c with keys := { c.keys with hits := satBv c.keys.hits hit.length } }

/-- Fills that are under way and not waiting for a way: the key store has two fill ports (R111). -/
def Keys.filling (k : Keys) : Nat := (k.fills.filter (fun f => !f.waitsForWay)).length

/-! ### The skim lanes (R103 to R111) -/

/-- `n` blocks of an algorithm in a row (R112). -/
def blockRuns (alg n : Nat) : List Run := [{ count := n, cycles := blockCycles alg, blocks := 1 }]

/-- `n` single-DES blocks in a row. -/
def desRuns (n : Nat) : List Run := [{ count := n, cycles := desCycles, blocks := 1 }]

/-- Lane cycles that complete no block: a field check, a decimalisation, a GHASH step. -/
def restRuns (n cycles : Nat) : List Run := [{ count := n, cycles := cycles, blocks := 0 }]

/-- The lane work of ARQC_VERIFY (R140, R141): the derivations, the MAC, and then the response. -/
def arqcRuns (alg : Nat) (p : Bytes) : List Run :=
  let l := u8 p 35
  if alg ≤ 2 then
    blockRuns alg 4 ++ desRuns (l / 8) ++ blockRuns alg 1
    ++ (match u8 p 6 with | 0 => [] | 1 => blockRuns alg 1 | _ => desRuns 1 ++ blockRuns alg 1)
  else blockRuns alg ((if alg = 3 then 3 else 5) + ceilDiv l 16 + (if u8 p 6 = 0 then 0 else 1))

/-- The incoming and the outgoing side of a PIN block under a key algorithm (R130). -/
def pinIn (alg : Nat) : List Run := if alg ≤ 2 then blockRuns alg 1 ++ restRuns 1 2 else blockRuns alg 2
def pinOut (alg : Nat) : List Run := blockRuns alg (if alg ≤ 2 then 1 else 2)

/-- Derivation of a DUKPT key with `h` set counter bits and the incoming side (R152, R153). -/
def dukptIn (alg h : Nat) : List Run :=
  if alg ≤ 2 then blockRuns alg 2 ++ desRuns (2 * h) ++ blockRuns alg 1 ++ restRuns 1 2
  else blockRuns alg (if alg = 3 then h + 4 else 2 * h + 6)

/-- The lane work of a skim opcode, the same in every outcome (R113, R124). -/
def skimRuns (o : Op) (p : Bytes) : List Run :=
  let a0 := krAlg (leAt p 0 4)
  let a1 := krAlg (leAt p 4 4)
  match o with
  | .pinTranslate => pinIn a0 ++ pinOut a1
  | .pinVerifyOffset | .pinVerifyPvv => pinIn a0 ++ blockRuns a1 1 ++ restRuns 1 4
  | .cvcGenerate | .cvcVerify => desRuns 1 ++ blockRuns a0 1 ++ restRuns 1 4
  | .dukptTranslate => dukptIn a0 (setBits (dukptCounter a0 (slice p 24 12))).length ++ pinOut a1
  | .arqcVerify => arqcRuns a0 p
  | .macIso97973 => desRuns ((o.laneCharge p - 392) / desCycles) ++ blockRuns a0 1
  | _ => blockRuns a0 (o.laneCharge p / blockCycles a0)

/-- A lane pair changed. -/
def Channel.mapPair (c : Channel) (j : Nat) (f : Pair → Pair) : Channel :=
  { c with skim := { c.skim with pairs := c.skim.pairs.mapIdx (fun i p => if i == j then f p else p) } }

/-- Lane pair `j`. -/
def Channel.lanePair (c : Channel) (j : Nat) : Pair := c.skim.pairs.getD j Pair.idle

/-- A rake's counters changed. -/
def Channel.mapRake (c : Channel) (n : Nat) (f : RakeRegs → RakeRegs) : Channel :=
  { c with rakes := { c.rakes with perRake := c.rakes.perRake.mapIdx (fun i r => if i == n then f r else r) } }

/-- An item's start, if it has not started: its deadline runs from now (R93). -/
def Channel.begin (c : Channel) (x : Item) : Item :=
  if x.startTide.isSome then x
  else { x with startTide := some c.tide, due := some (c.tide + classTides x.pkt.hdr.cls.toNat) }

/-- A skim item goes to wait for the fills of what its look-up missed, and is counted once (R110, R118). -/
def Channel.awaitFill (c : Channel) (x : Item) : Channel :=
  let c := match x.pair with
    | some j => c.mapPair j (fun p => { p with queue := p.queue.filter (· != x.id) })
    | none => c
  let c := c.setItem { x with phase := .filling, waitedFill := true }
  if x.waitedFill then c else c.mapSkim (fun r => { r with fills := satBv r.fills 1 })

/-- What a fill that found its slot empty or corrupt completes a skim command with (R111). -/
def Channel.fillFailed (c : Channel) (x : Item) : Option Res :=
  if x.missedSlots.isEmpty then none
  else match c.keyRead x false (keyReqs x.op x.p) with
    | .fail code d => if code == .slotEmpty || code == .slotCorrupt then some (.fail code d) else none
    | .ok _ => none

/-- A producer holds a completion that the collector has not granted in the cycle that made it: it stalls, and takes nothing
new (R95). -/
def Channel.stalls (c : Channel) (producer : Nat) : Bool :=
  c.sched.produced.any (fun p => p.producer == producer && decide (p.readyAt < c.now))

/-- The head of a lane pair's queue is taken: it starts, its keys are read, and its lane work runs (R103, R110). The key
read of 14 cycles passes while the lanes finish the work before it. The pair's rake takes nothing while its result port stalls
(R95). A command whose draw or masks wait for a reseed waits at the head of the queue, before its key read, and those behind it
wait too (DESIGN CHOICE, log 277). -/
def Channel.laneTake (c : Channel) (x : Item) : Channel :=
  match x.pair with
  | none => c
  | some j =>
    let p := c.lanePair j
    if p.queue.head? != some x.id || c.now + 14 < p.busyUntil || p.job.isSome || c.stalls (4 + j / 8) then c
    else
      let (c, x) := if x.halved && !(skimDraw x).isEmpty && x.drawn.isEmpty && !x.rngFailed then c.drawSkim x else (c, x)
      let y := c.lookUp x
      if !y.fills.isEmpty then c.awaitFill y
      else if (!(skimDraw x).isEmpty && x.drawn.isEmpty && !x.rngFailed) || c.maskWaits x.op then c
      else
        let c := c.mapPair j (fun p => { p with queue := p.queue.drop 1 })
        let (c, z) := c.maskDraw x
        let y := c.begin z
        let c := if x.startTide.isSome then c else c.trace y 7 (0x40 + j / 8)
        let x := y
        let c := c.countHits x
        match c.keyRead x false (keyReqs x.op x.p) with
        | .fail code d => (c.noteResult x (.fail code d)).produce x (4 + j / 8) (c.now + 42) (.fail code d)
        | .ok ks =>
          let x := c.withTable x
          let r := if x.rngFailed then Res.fail .rngFailed else (c.run x ks).2
          let start := max p.busyUntil (c.now + 14)
          let done := start + x.charge
          let w : Work := { item := x.id, start := start, runs := skimRuns x.op x.p, counted := 0 }
          let c := c.sync.mapPair j (fun p => { p with busyUntil := done, work := p.work ++ [w] })
          c.produceIn { x with read := true } .lane (4 + j / 8) (done + 28) r

/-- A skim item whose waits have ended joins its lane pair's queue, or waits for a fill; an idle pair takes it at once. One whose
fill failed completes from its rake's result port without entering a lane, after 28 cycles of assembly and build (R111, R114). -/
def Channel.laneJoin (c : Channel) (x : Item) : Channel :=
  match x.pair with
  | none => c
  | some j =>
    let y := c.lookUp x
    if !y.fills.isEmpty then c.awaitFill y
    else match c.fillFailed y with
    | some r => (c.noteResult (c.begin y) r).produce (c.begin y) (4 + j / 8) (c.now + 28) r
    | none =>
      let x := { y with phase := .laneQueue }
      ((c.setItem x).mapPair j (fun p => { p with queue := p.queue ++ [x.id] })).laneTake x

/-! ### Start (R86, R88) -/

/-- Nothing holds the item any longer. -/
def Channel.startable (c : Channel) (x : Item) : Bool :=
  x.phase == .waiting && x.deps.isEmpty && !x.expiryPending && c.atHeads x && !c.fenced x

/-- The payload index of a slot's key in a command; a stream's key has index 0 (R73). -/
def Item.keyIndex (x : Item) (slot : Nat) : BitVec 4 :=
  BitVec.ofNat 4 (((keyReqs x.op x.p).find? (fun r => r.slot == slot)).elim 0 (·.idx))

/-- The item's job runs on a firmware-path pair. -/
def Channel.inLanes (c : Channel) (x : Item) : Bool := c.skim.pairs.any (fun p => p.job.any (·.item == x.id))

/-- Destroy-now acts on a user of the slot: one that writes no object but a stream completes with KEY_WITHDRAWN (R263). -/
def Channel.withdraw (c : Channel) (slot : Nat) (x : Item) : Channel :=
  let free := match x.op.writes x.fn x.p with
    | none => true
    | some (k, _) => k == FlowKind.stream
  if !free || c.past x then c
  else
    let c := if x.op == .streamOpen && c.inLanes x then c.killStream x.pkt.intakeNo (streamIx x) else c
    let c := c.abort x (.fail .keyWithdrawn (x.keyIndex slot))
    { c with keys := { c.keys with withdrawnCount := satBv c.keys.withdrawnCount 1 } }

/-- A KEY_DESTROY with MODE 1 acts on every user of the slot (R263). -/
def Channel.withdrawUsers (c : Channel) (x : Item) : Channel :=
  let slot := leAt x.p 0 4
  if u8 x.p 4 != 1 then c
  else
    let users := c.sched.items.filter (fun y => c.userOf y slot x.id)
    (users.foldl (fun c y => c.withdraw slot y) c).killStreams x.pkt.intakeNo (fun _ s => s.slot == slot)

/-- A firmware-path command that has started enters its level. A KEY_DESTROY first withdraws the slot's users under MODE 1,
unless it may not act or the slot lies outside its grants, and waits for the users that are left, its deadline not running
(R262, R263, R463). -/
def Channel.enterStarted (c : Channel) (x : Item) : Channel :=
  if x.op != .keyDestroy then c.enter x
  else
    let slot := leAt x.p 0 4
    let c := if (destroyDenied c x slot).isSome || !c.granted x.fn slot then c else c.withdrawUsers x
    if c.slotUsers slot x.id then c.setItem { x with phase := .draining, startTide := none, due := none } else c.enter x

/-- A command starts (R88). One that never waited starts at its admission check; a skim command that waited, or whose
key misses, starts when its lane pair takes it (R110). -/
def Channel.startItem (c : Channel) (x : Item) (waited : Bool) : Channel :=
  let c := c.bindAll x.id
  let x := (c.item? x.id).getD x
  if x.op == .echo then
    let y := c.begin x
    (if waited then c.trace y 7 0xFF else c).produce y (x.id % 4) (c.now + 18) (c.run x []).2
  else if x.skim then
    c.laneJoin (if waited || !(c.lookUp x).fills.isEmpty then x else c.begin x)
  else
    let y := { (c.begin x) with remaining := max 1 x.op.coreSlices }
    (if waited then c.trace y 7 0xFF else c).enterStarted y

/-- The item starts if nothing holds it. -/
def Channel.tryStart (c : Channel) (id : Nat) (waited : Bool) : Channel :=
  match c.item? id with
  | some x => if c.startable x then c.startItem x waited else c
  | none => c

/-- The tag look-up of a skim command that its admission check has accepted and that waits: what it has bound and the
cache does not hold is filled meanwhile (R104, R110). -/
def Channel.lookAhead (c : Channel) (id : Nat) : Channel :=
  match c.item? id with
  | none => c
  | some x => match x.phase with
    | .waiting => if x.skim then c.setItem (c.lookUp x) else c
    | _ => c

/-! ### Decode (R54, R55, R78 to R85) -/

/-- The work-item table's size (R81). -/
def workItems : Nat := 262144

/-- The item is of a queue, with these low 10 bits of its sequence number. -/
def Item.named (x : Item) (queue low : Nat) : Bool := x.pkt.hdr.queue.toNat == queue && x.pkt.hdr.seq.toNat % 1024 == low

/-- The channel with a new work item, which tokens of its low 10 bits name from now on (R83). -/
def Channel.addItem (c : Channel) (x : Item) : Channel :=
  let old (y : Item) : Item :=
    if y.named x.pkt.hdr.queue.toNat (x.pkt.hdr.seq.toNat % 1024) then { y with superseded := true } else y
  c.onSched (fun d => { d with items := d.items.map old ++ [x], nextItem := x.id + 1 })

/-- A new command is refused: its completion comes from a scheduler port with CYCLES 0 (R61, R94). Bits [3:0] of byte 24 of its
trace record carry the detail of whatever status refuses it, where R96 gives BUSY's alone (DESIGN CHOICE, log 279). -/
def Channel.refuse (c : Channel) (x : Item) (code : Code) (detail : BitVec 4) : Channel :=
  let x := { x with admitAt := none, startTide := none, due := none }
  ((c.setItem x).trace x 1 0xFF code.num detail.toNat).schedPort x (.fail code detail)

/-- DIR (true: decrypt) and TAG_LEN of a stream as decode sees it: those of the most recent STREAM_OPEN of the stream under
way, else of its open context (R197; DEDUCED, log 225). -/
def Channel.streamShape (c : Channel) (f n : Nat) : Option (Bool × Nat) :=
  let opens := c.sched.items.filter (fun y => y.op == Op.streamOpen && y.fn == f && u8 y.p 4 == n && y.phase != .finished)
  match opens.getLast? with
  | some y => some (u8 y.p 5 == 1, u8 y.p 6)
  | none =>
    let s := SMap.get Stream.free c.rakes.streams (64 * f + n)
    if s.state == .opened then some (s.decrypt, s.tagLen) else none

/-- The bytes of a STREAM_FINAL's TAG that its stream leaves unused are 0 (check 16 of R54, R197). -/
def Channel.tagFieldOk (c : Channel) (x : Item) : Bool :=
  x.op != .streamFinal || (match c.streamShape x.fn (u8 x.p 0) with
    | some (dec, n) => leftOnly x.p 16 16 (if dec then n else 0)
    | none => true)

/-- Checks 13 to 16 of R54: the MALFORMED detail of the first that fails. -/
def decodeChecks (o : Op) (h : Header) (p : Bytes) : Option (BitVec 4) :=
  let cls := h.cls.toNat
  if 5 < cls || cls < o.minClass then some malClass
  else if !o.lenOk p then some malLength
  else if !o.fieldsOk h.halved cls p then some malField
  else none

/-- The command a token names, if it is still between decode and completion: the most recent that was delivered of the queue
with the token's low 10 bits (R45, R83). -/
def Channel.tokenItem (c : Channel) (q : Nat) (t : BitVec 16) : Option Nat :=
  let q' := q / 64 * 64 + t.toNat / 1024
  if (SMap.find? c.sched.delivered q').isNone then none
  else (c.sched.items.find? (fun x => x.named q' (t.toNat % 1024) && !x.superseded)).map (·.id)

/-- An entry of the item's function leaves the ledger, and the removal is journaled. -/
def Channel.dropLedger (c : Channel) (x : Item) (slot : Nat) : Channel :=
  match c.keys.ledgerOf x.fn slot with
  | none => c
  | some e => ({ c with keys := c.keys.ledgerDrop x.fn slot } : Channel).journalWrite x.pkt.intakeNo slot (.ledger { e with live := false })

/-- What the use ledger is at decode for a command, and the change the command makes to it (R260, R270). -/
def Channel.ledgerAt (c : Channel) (x : Item) : Channel × Item :=
  let f := x.fn
  let k := c.keys
  let seen := ((x.keys.map (·.2)).eraseDups).filterMap (fun s => (k.ledgerOf f s).map (fun e => (s, e.id)))
  let x := { x with ledgerSeen := seen }
  let slot := leAt x.p 0 4
  match x.op with
  | .keyRestrict =>
    let flags := u8 x.p 4
    if flags % 2 == 1 then
      if (k.ledgerOf f slot).isNone && 256 ≤ k.ledgerCount f then (c, { x with capacityMark := true })
      else
        let k := k.ledgerSet f slot (leAt x.p 8 4)
        let c : Channel := { c with keys := k }
        (match k.ledgerOf f slot with | some e => c.journalWrite x.pkt.intakeNo slot (.ledger e) | none => c, x)
    else if flags / 2 % 2 == 1 then (c.dropLedger x slot, x) else (c, x)
  | .keyDestroy => (c.dropLedger x slot, x)
  | _ => (c, x)

/-- The same, with the before-image of an entry the command changes (R317). -/
def Channel.ledgerNoted (c : Channel) (x : Item) : Channel × Item :=
  let r := c.ledgerAt x
  (c.noting x.pkt.intakeNo r.1, r.2)

/-- Entries of a delay list (R82). -/
def delayEntries : Nat := 65536

/-- The refusals of R55, in their order. -/
def Channel.decodeRefusal (c : Channel) (x : Item) (joined : Option Sched) : Option (Code × BitVec 4) :=
  let h := x.pkt.hdr
  let list := if h.halved then c.sched.delayHalved else c.sched.delayTwin
  if x.op.code / 256 == 3 && c.grants x.fn 7 then some (.denied, denPolicy)
  else if h.halved && x.op.writesShared x.fn x.p then some (.denied, denPolicy)
  else if h.notBefore && delayEntries ≤ list.length then some (.denied, denCapacity)
  else if h.notBefore && joined.isNone then some (.busy, busyFlow)
  else none

/-- The packet at the head of fan-out, known to be of operation `o`, is decoded (R78). -/
def Channel.decodeAs (c : Channel) (p : PortDie) (o : Op) (k : Packet) : Channel :=
  let h := k.hdr
  let id := c.sched.nextItem
  let deps := ((h.tokens.take h.depCount.toNat).filterMap (c.tokenItem h.queue.toNat)).eraseDups
  let c := c.onSched (fun d => { d with fanout := d.fanout.drop 1,
                                        delivered := SMap.insert d.delivered h.queue.toNat h.seq.toNat })
  let x := (Item.new id o k).limited p
  let places := c.places x
  let c := c.addItem x
  match (decodeChecks o h k.payload).or (if c.tagFieldOk x then none else some malField) with
  | some d => c.refuse x .malformed d
  | none =>
    let joined := c.sched.join id h.halved places
    match c.decodeRefusal x joined with
    | some e => c.refuse x e.1 e.2
    | none =>
      if h.notBefore then
        let (c, x) := c.ledgerNoted { x with deps := deps, phase := .delayed (k.intakeTide + h.delayTides) }
        let c := (c.onSched (fun d =>
          let d := (joined.getD d)
          if h.halved then { d with delayHalved := d.delayHalved ++ [id] } else { d with delayTwin := d.delayTwin ++ [id] }))
        (c.setItem x).settle
      else match c.refusal p x with
        | some d => (c.noteRefusal p x d).refuse x .busy d
        | none => match joined with
          | none => c.refuse x .busy busyFlow
          | some d =>
            let (c, x) := ({ c with sched := d } : Channel).accepted p { x with deps := deps }
            let (c, x) := c.ledgerNoted x
            (((((c.setItem x).trace x 0 0xFF)).settle).tryStart id false).lookAhead id

/-- A packet whose opcode is assigned to no operation (check 13 of R54). Its item stands as any other until its completion
is accepted; no meaning reads its operation. -/
def Channel.decodeUnknown (c : Channel) (p : PortDie) (k : Packet) : Channel :=
  let id := c.sched.nextItem
  let c := c.onSched (fun d => { d with fanout := d.fanout.drop 1,
                                        delivered := SMap.insert d.delivered k.hdr.queue.toNat k.hdr.seq.toNat })
  let x := (Item.new id .echo k).limited p
  (c.addItem x).refuse x .malformed malOpcode

/-- Fan-out stalls into a full work-item table (R81). -/
def Channel.tableFull (c : Channel) : Bool := decide (workItems ≤ c.sched.items.length)

/-- The handover of a join as it stands: the twin counters carry the ledgers (R329). -/
def Channel.handover (c : Channel) : Handover :=
  { tide := c.tide, epoch := c.rng.current, uses := c.rng.uses, rotTwin := c.skim.rotTwin,
    delayed := c.sched.delayTwin.filterMap c.item?, delivered := c.sched.delivered, use := c.sched.useTwin }

/-- A survivor forms the handover once every command delivered before the join has been admitted or refused (R329). -/
def Channel.formHandover (c : Channel) : Channel :=
  match c.refill.sending with
  | none => c
  | some n =>
    if c.refill.sent.isSome || c.sched.fanout.any (fun k => decide (k.intakeNo ≤ n)) then c
    else { c with refill := { c.refill with sent := some c.handover } }

/-- The packet at the head of fan-out is decoded, if its opcode is one that `sel` selects. A channel that has just joined
holds decode until the handover has come (R329), and decode stalls with the scheduler port that its command has (R95). -/
def Channel.decodeHead (c : Channel) (p : PortDie) (sel : Option Op → Bool) : Channel :=
  let c := c.formHandover
  match c.sched.fanout with
  | [] => c
  | k :: _ =>
    let o := Op.ofCode k.hdr.opcode.toNat
    if c.tableFull || c.refill.awaitHandover || !sel o || c.stalls (c.sched.nextItem % 4) then c
    else match o with
      | some o => c.decodeAs p o k
      | none => c.decodeUnknown p k

/-! ### Release of delayed commands (R78, R82) -/

/-- One delayed item whose release tide has come takes its admission check. -/
def Channel.releaseOne (c : Channel) (p : PortDie) (x : Item) : Channel :=
  match x.phase with
  | .delayed n =>
    if c.tide < n then c
    else
      let x := ({ x with phase := .waiting, admitTide := n } : Item).limited p
      let c := (c.onSched (fun d => { d with delayTwin := d.delayTwin.filter (· != x.id),
                                             delayHalved := d.delayHalved.filter (· != x.id) })).setItem x
      match c.refusal p x with
      | some d => ((c.noteRefusal p x d).refuse x .busy d).leaveFlows x.id |>.settle
      | none =>
        let (c, x) := c.accepted p x
        (((c.setItem x).trace x 0 0xFF).settle.tryStart x.id false).lookAhead x.id
  | _ => c

/-- Every delayed item that is due is released, in order of delivery (step 6 of R35). -/
def Channel.releaseDue (c : Channel) (p : PortDie) : Channel :=
  c.sched.items.foldl (fun c x => match c.item? x.id with
    | some y => c.releaseOne p y
    | none => c) c

/-! ### Wait limits (R87) -/

/-- The tide at whose opening an item's wait limit falls due; none without a limit, and for a delayed item. -/
def Item.limit (x : Item) : Option Nat :=
  match x.phase with
  | .delayed _ => none
  | _ => if x.pkt.hdr.waitTides == 0 || x.noLimit then none else some (x.admitTide + x.pkt.hdr.waitTides)

/-- The item is admitted and waits on its dependence counter, its flows or the users of its slot (R46, R87, R262): a wait
for a key cache fill or in a lane pair's queue is bounded by no limit. -/
def Item.waits (x : Item) : Bool :=
  x.admitAt.isSome && x.startTide.isNone && (match x.phase with | .waiting | .draining => true | _ => false)

/-- The item's wait ends with WAIT_TIMEOUT. -/
def Channel.timeOut (c : Channel) (x : Item) : Channel :=
  let c := (c.stop x).trace x 5 0xFF Code.waitTimeout.num
  ((c.schedPort { x with expiryPending := false } (.fail .waitTimeout)).leaveFlows x.id).settle

/-! ### Deadlines (R91, R92) -/

/-- The item moves to the urgent level (R91). -/
def Channel.promote (c : Channel) (x : Item) : Channel :=
  let y := { x with urgent := true }
  let c := c.setItem y
  let job (j : Job) : Job := if j.item == x.id then { j with urgent := true } else j
  let pk (j : PkJob) : PkJob := if j.item == x.id then { j with urgent := true } else j
  let c := { c with rakes := { c.rakes with jobs := c.rakes.jobs.map job },
                    skim := { c.skim with pairs := c.skim.pairs.map (fun p => { p with job := p.job.map job }) },
                    digests := { c.digests with jobs := c.digests.jobs.map job,
                                                engines := c.digests.engines.map (fun e => { e with job := e.job.map job }) },
                    pks := { c.pks with queueTwin := c.pks.queueTwin.map pk, queueHalved := c.pks.queueHalved.map pk } }
  match x.phase with
  | .ready =>
    let c := c.onSched (fun d => (d.delist y.id).enlist y false)
    match c.victimCore y with
    | some (k, z) => c.preempt k z true
    | none => c
  | _ => c

/-- The item is ready or running: in a level, on a core, being saved, or a public-key job, whose engine reports its slices
(R91, R234). -/
def Channel.readyOrRunning (c : Channel) (x : Item) : Bool :=
  match x.phase with
  | .ready | .running _ | .saving _ => true
  | .engine => c.pks.engines.any (fun e => e.job.any (·.item == x.id))
      || (c.pks.queueTwin ++ c.pks.queueHalved).any (·.item == x.id)
  | _ => false

/-- Items to promote at a sweep that opens the channel's tide: slices left not fewer than tides left (R91). -/
def Channel.urgentDue (c : Channel) (x : Item) : Bool :=
  !x.skim && !x.urgent && c.readyOrRunning x
  && (match x.due with
      | some d => decide (d + 1 ≤ c.tide + x.remaining)
      | none => false)

/-- A deadline that ended with the tide just closed is missed (R92). -/
def Channel.missDue (c : Channel) (x : Item) : Bool :=
  !x.missed && (match x.due with
    | some d => decide (d < c.tide)
    | none => false)

/-- The miss is marked, traced, counted, reported and charged; the item runs on at the urgent level. -/
def Channel.miss (c : Channel) (ch : Chan) (x : Item) : Channel :=
  let y := { x with missed := true }
  let c := (c.setItem y).trace y 6 0xFF 0 0 0 x.exempt
  let c := c.mapSched (fun r => { r with missCount := satBv r.missCount 1 })
  let c := c.event ch 0x00 (c.now - 4096 * (x.due.getD 0 + 1))
  let h := c.health
  let c := if x.exempt then c else { c with health := { h with deduct := h.deduct + 8 } }
  if x.skim || x.urgent || x.phase == .finished then c else c.promote y

/-! ### The completion collector (R94, R95) -/

/-- A twin writer. -/
def Item.writer (x : Item) : Bool := !x.halved && (x.op.writes x.fn x.p).isSome

/-- The writer is past its commit point: its change is visible to a later reader. -/
def Channel.committed (c : Channel) (x : Item) : Bool :=
  x.writer
  && ((x.phase == .finished && c.sched.produced.any (fun r => r.item == some x.id && r.record.code == .ok))
      || ((guardOf x.op x.fn x.p).isSome && x.read && (x.stage != 0 || x.phase == .engine || x.phase == .finished)))

/-- What a channel remembers of a command that completes: a committed writer (R347), and the assay note of a twin command
(R317). -/
def Channel.remember (c : Channel) (x : Item) : Channel :=
  let c := if c.committed x then { c with writersDone := c.writersDone ++ [(x.fn, x.pkt.intakeNo)] } else c
  let n : AssayNote := { intakeNo := x.pkt.intakeNo, writer := x.writer, tide := x.admitTide, binds := x.binds }
  if x.halved then c else { c with journal := { c.journal with notes := c.journal.notes ++ [n] } }

/-- A completion is granted: its record enters the buffer and its item is complete. What a command of the lanes completes with
counts only now, since until then it can still be stopped (R201, R204). -/
def Channel.grant (c : Channel) (r : Produced) : Channel :=
  let c := match r.item.bind c.item? with
    | some x => (if x.phase == Phase.lane then c.noteResult x (.fail r.record.code r.record.detail) else c).remember x
    | none => c
  let c := c.onSched (fun d => { d with produced := d.produced.filter (fun y => !(y == r)) })
  let lo := BitVec.ofNat 32 c.tide
  match r.item.bind c.item? with
  | none => c.onSched (fun d => { d with buffer := d.buffer ++ [{ r.record with tideLo := lo }] })
  | some x =>
    let cycles := match x.startTide, x.admitAt with
      | some _, some a => c.now - a
      | _, _ => 0
    let rec' := { r.record with tideLo := lo, missed := x.missed, cycles := cycles }
    let c := c.trace x 4 (unitOf r.producer) r.record.code.num 0 cycles
    let now := c.now
    let c := c.onSched (fun d => { d with
      buffer := d.buffer ++ [rec'],
      cores := d.cores.map (fun (k : Core) => if k.item == some x.id then { k with item := none, since := now } else k) })
    c.retireItem x.id

/-- The first completion that a producer can hand over. -/
def Channel.offered (c : Channel) (k : Nat) : Option Produced :=
  c.sched.produced.find? (fun p => p.producer == k && decide (p.readyAt ≤ c.now))

/-- The collector looks at `n` producers from `k`, with `left` grants to give (R95). -/
def Channel.collect (c : Channel) (k left : Nat) : Nat → Channel
  | 0 => c
  | n + 1 =>
    if left == 0 || 512 ≤ c.sched.buffer.length then c
    else match c.offered (k % 80) with
      | none => c.collect (k + 1) left n
      | some r =>
        ((c.grant r).onSched (fun d => { d with pointer := (k + 1) % 80 })).collect (k + 1) (left - 1) n

end Sys2Proof.Machine
end

