-- ==== Sys2Proof/Machine/Tamper.lean ====
section
/-! DEFINITION. Tamper sources, responses and WAKE_N (R357 to R382): what a detection does at each level, the orders
between the channels, the built-in tests, and the islands. -/

namespace Sys2Proof.Machine

/-! ### Sets of sources (R357, R369) -/

/-- The sources of a set, in order. -/
def sourcesOf (s : BitVec 23) : List Nat := (List.range 23).filter s.getLsbD

/-- One source. -/
def sourceBit (n : Nat) : BitVec 23 := BitVec.ofNat 23 (2 ^ n)

/-- The highest level among sources (R369). -/
def Tamper.union (t : Tamper) (s : BitVec 23) : Nat := ((sourcesOf s).map t.level).foldl max 0

/-! ### The actions of a response (R364) -/

/-- A pending bit of an evidence class is set (R381). -/
def Island.pend (i : Island) (cls : Nat) : Island := { i with pending := i.pending ||| BitVec.ofNat 16 (2 ^ cls) }

/-- The brine key is erased; RETAIN stands (R375), and so does BRINE_VALID, which tells of the last arming (R384). -/
def Island.erase (i : Island) : Island := { i with brine := zeros 32, check := 0#64, erased := true }

/-- The item holds a key-read handle in an operation that a response of L2 stops: every one that has made its key read
and has a key, past its commit point excepted (R116, R364); a vault command's key is its basin's (R168). -/
def Item.holdsKey (x : Item) : Bool :=
  x.read && (!(keyReqs x.op x.p).isEmpty || x.op == .vaultTokenise || x.op == .vaultDetokenise || x.op == .vaultDelete)
  && x.phase != .finished

/-- A stream whose command is in service (R201). -/
def Channel.streamBusy (c : Channel) (n : Nat) : Bool :=
  c.sched.items.any (fun x => (x.op == .streamOpen || x.op == .streamUpdate || x.op == .streamFinal) && streamIx x == n
    && (match x.phase with | .running _ | .engine => true | _ => false))

/-- The item runs on a public-key engine, or is a stream command in service. -/
def Channel.inUnit (c : Channel) (x : Item) : Bool :=
  c.pks.engines.any (fun e => e.job.any (·.item == x.id))
  || ((x.op == .streamUpdate || x.op == .streamFinal) && (match x.phase with | .running _ | .engine => true | _ => false))

/-- Every engine's operand memory is wiped (R244, R364). -/
def Pks.wipeAll (k : Pks) (now : Nat) : Pks :=
  { k with engines := k.engines.map (fun e =>
      if e.job.isSome then e else { e with wiping := true, wipingUntil := now + 256, owned := false }) }

/-- L2: operations that hold a handle end with TAMPER_ABORT, as every running public-key job does (R244), streams in
service are killed, and the key cache is purged. -/
def Channel.respondL2 (c : Channel) (n : Nat) : Channel :=
  let hit := c.sched.items.filter (fun x => x.holdsKey || c.inUnit x)
  let opens := c.sched.items.filter (fun x => x.op == .streamOpen && c.inLanes x)
  let c := opens.foldl (fun c x => c.killStream x.pkt.intakeNo (streamIx x)) c
  let c := c.killStreams n (fun i _ => c.streamBusy i)
  let c := hit.foldl (fun c x => c.abort x (.fail .tamperAbort)) c
  ({ c with keys := { c.keys with cache := [], purgedAt := some c.now }, pks := c.pks.wipeAll c.now }).clearHealth 11

/-- L3's erasures: VR, the generator's state, streams and component sessions, engine operand memories (R305, R364). -/
def Channel.eraseVolatile (c : Channel) (n : Nat) : Channel :=
  let c := c.killStreams n (fun _ _ => true)
  let c := c.keys.sessions.foldl (fun c x => c.endSession n x.slot) c
  let g := c.rng
  { c with
    keys := { c.keys with vr := none }
    rng := { g with drbgKey := [], drbgV := [], pool := [], epochs := [], seed0 := none, reseedDue := true
                    renewal := g.renewal.map (fun r => { r with own := none, peer := none, formed := none, target := none }) }
    pks := c.pks.wipeAll c.now }

/-- L3 adds a fault report (R366). -/
def Channel.respondL3 (c : Channel) (n : Nat) : Channel :=
  let c := c.eraseVolatile n
  { c with faults := c.faults ++ [.tamper] }

/-- The boot is not over: the channel has not reached service (R379); one in recovery is still starting (R433). -/
def StartStep.booting : StartStep → Bool
  | .fuseLoad | .image | .training | .memoryTest | .selfTest | .sluice | .join | .recovery => true
  | _ => false

/-- The channel boots: it is in a step of its start, or a trip holds it at the end of step 1 (R379, R457). -/
def Channel.booting (c : Channel) : Bool := c.start.step.booting || (c.start.step == .tripped && c.start.held)

/-- L4: the channel is reset; during boot the restart is counted, and the eighth halts the channel (R379). -/
def Channel.respondL4 (c : Channel) : Channel :=
  if !c.booting then { c with resetOrder := true }
  else
    let n := min 8 (c.tamper.restarts.toNat + 1)
    let c := { c with tamper := { c.tamper with restarts := BitVec.ofNat 4 n } }
    if n == 8 then { c with start := { c.start with step := .halted }, island := c.island.pend 15 }
    else { c with resetOrder := true }

/-- The actions of L2 to L4 that a level includes and the response under way, of level `done`, has not done (R369). -/
def Channel.respondUpTo (c : Channel) (n done level : Nat) : Channel :=
  let c := if done < 2 && 2 ≤ level then c.respondL2 n else c
  let c := if done < 3 && 3 ≤ level then c.respondL3 n else c
  if done < 4 && 4 ≤ level then c.respondL4 else c

/-- The cycles a response of a level lasts: to the signals of L1, or to the last set of the key cache zeroed (R365). -/
def responseCycles (level : Nat) : Nat := if level < 2 then 64 else 524290

/-- The union of the sources that the response under way answers, none when none is (R369). -/
def Channel.answering (c : Channel) : BitVec 23 := if c.responding == 0 then 0#23 else c.tamper.answering

/-- A response of a level to a union of sources begins, or escalates to it (R369). -/
def Channel.beginResponse (c : Channel) (level : Nat) (union : BitVec 23) : Channel :=
  { c with tamper := { c.tamper with active := BitVec.ofNat 3 level, activeUntil := c.now + responseCycles level
                                     lasts := responseCycles level, answering := union } }

/-- A response is counted and captured (R383). -/
def Tamper.note (t : Tamper) (s : BitVec 23) (level tide : Nat) : Tamper :=
  let t := match level with
    | 1 => { t with l1 := satBv t.l1 1 }
    | 2 => { t with l2 := satBv t.l2 1 }
    | 3 => { t with l3 := satBv t.l3 1 }
    | _ => t
  if level == 0 then t else { t with lastSources := s, lastLevel := BitVec.ofNat 3 level, lastTide := BitVec.ofNat 32 tide }

/-- The sources at L4 or above set their evidence classes (R381). -/
def Channel.setEvidence (c : Channel) (s : BitVec 23) : Channel :=
  ((sourcesOf s).filter (fun n => 4 ≤ c.tamper.level n)).foldl
    (fun c n => { c with island := c.island.pend (tamperClasses.getD n 0) }) c

/-- Sources detected: they are latched, and while the responder is armed the union's response runs, or the one under way
continues or escalates to it (R364, R369, R378). -/
def State.respond (s : State) (ch : Chan) (src : BitVec 23) : State :=
  let c := s.chan ch
  let i := c.island
  let c := { c with island := { i with alarm := i.alarm ||| src }, tamper := { c.tamper with seen := c.tamper.seen ||| src } }
  if (s.chan ch).start.step == .off || (s.chan ch).start.step == .halted then s
  else if src == 0#23 || !c.tamper.armed then s.setChan ch c
  else
    let done := c.responding
    let level := c.tamper.union src
    let c := (sourcesOf src).foldl (fun c n => c.event ch (0xA0 + n) level) c
    let c := if max done level == 0 then c
             else { c with island := { c.island with drivers := c.island.drivers ||| src } }
    let c := if 4 ≤ level then c.setEvidence src else c
    let union := c.answering ||| src
    if level ≤ done then s.setChan ch c
    else
      let c := ({ c with tamper := c.tamper.note union level c.tide }.beginResponse level union).respondUpTo s.port.lastIntake done level
      let c := if level == 5 then { c with island := c.island.erase.pend 13 } else c
      let s := s.setChan ch c
      let s := if done == 0 then s.raiseError 0 else s
      let s := if level < 2 || 2 ≤ done then s
               else (s.drain).updPort (fun p => { p with recorder := p.recorder.flush 1 })
      if level == 5 then s.updPort (fun p => { p with l5From := p.l5From ++ [ch] }) else s

/-- A detection: that of a source under test is not answered before 16 cycles after its window (R362). -/
def State.tamper (s : State) (ch : Chan) (src : BitVec 23) : State :=
  s.respond ch (src &&& ~~~ (s.chan ch).underTest)

/-- One source is raised. -/
def State.tamperOne (s : State) (ch : Chan) (n : Nat) : State := s.tamper ch (sourceBit n)

/-- Source numbers of the integrity checks (R357). -/
def srcBus : Nat := 18
def srcLogic : Nat := 19

/-! ### The commands of chapter 14 -/

/-- The channel's monitors run: the power state is Run and the channel has main power (R370). -/
def State.monitored (s : State) : Bool := s.port.start.power == .run

/-- Sources that detect now; those that did not detect before are answered (R364), but for one under test, which is
answered if it outlasts its test (R362). -/
def State.detected (s : State) (ch : Chan) (sources : BitVec 23) : State :=
  let old := (s.chan ch).tamper.detecting
  let held := sources &&& (s.chan ch).underTest &&& ~~~ old
  let seen := sources &&& ~~~ held
  (s.upd ch (fun c => { c with tamper := { c.tamper with detecting := seen, outlast := held } })).respond ch (seen &&& ~~~ old)

/-- Every source that detects now, one under test included. -/
def Tamper.present (t : Tamper) : BitVec 23 := t.detecting ||| t.outlast

/-- A detection that has lasted until 16 cycles after the test window is a real one, raised in that cycle (R362). -/
def State.outlasted (s : State) (ch : Chan) : State :=
  let c := s.chan ch
  let o := c.tamper.outlast
  if !c.aligned || o == 0#23 || decide (c.now < c.tamper.bistUntil) then s
  else s.finish ((s.upd ch (fun c => { c with tamper :=
    { c.tamper with detecting := c.tamper.present, outlast := 0#23 } })).respond ch o)

/-- The TMP_IN pins of a channel have these levels (R383). -/
def State.setPins (s : State) (ch : Chan) (pins : BitVec 4) : State :=
  s.upd ch (fun c => { c with tamper := { c.tamper with tmpIn := pins } })

/-- R364: TAMPER_SOURCE_DETECTED, with the TMP_IN pins that sources 14 to 17 are the levels of. -/
def execTamperSourceDetected (ch : Chan) (sources : BitVec 23) (s : State) : Out :=
  .next (s.finish (if s.monitored then (s.setPins ch (BitVec.ofNat 4 (sources.toNat / 2 ^ 14))).detected ch sources else s))

/-- The erase line of the island of the channel that an L5 signal is not from (R368). -/
def Channel.peerErase (c : Channel) : Channel := { c with island := c.island.erase.pend 13 }

/-- The alert of a response to the peer's order, which no source of the channel's own has begun: it bears the lowest source
of the ordering channel's union and level 4, and no record (R368, R413; DESIGN CHOICE, log 180). -/
def State.orderAlert (s : State) (from_ : Chan) : State :=
  let n := ((sourcesOf (s.chan from_).tamper.answering).head?).getD 0
  s.updPort (fun p => { p with mgmt := p.mgmt.alert (eventBase from_.peer + 0xA0 + n) 4 p.recorder.stamp })

/-- The L5 order of a channel reaches the other: its island is erased, and it performs L4, or escalates to L5 where it is
responding (R368, R369). Before arming only the erase acts (R378). -/
def State.peerL5 (s : State) (from_ : Chan) : State :=
  if !s.port.l5From.contains from_ then s
  else
    let s := s.updPort (fun p => { p with l5From := p.l5From.erase from_ })
    let s := s.upd from_.peer (fun c => { c.peerErase with tamper := { c.tamper with peerL5 := true } })
    let c := s.chan from_.peer
    if c.start.step == .off || c.start.step == .halted || !c.tamper.armed then s
    else
      let done := c.responding
      let level := if done == 0 then 4 else 5
      let union := c.answering
      let c := { c with tamper := if done < level then c.tamper.note union level c.tide else c.tamper }
      let s := s.setChan from_.peer ((c.beginResponse level union).respondUpTo s.port.lastIntake done 4)
      let s := if done == 0 then (s.raiseError 0).orderAlert from_ else s
      if done < 2 then (s.drain).updPort (fun p => { p with recorder := p.recorder.flush 1 }) else s

/-- R368: PEER_L5_ORDER. -/
def execPeerL5Order (from_ : Chan) (s : State) : Out := .next (s.finish (s.peerL5 from_))

/-- The next monitor test is due: 4,096 tides after the one before, from offset 2,048 of its tide (R362). -/
def Channel.testDue (c : Channel) : Bool :=
  decide (2048 ≤ c.offset) && (c.tamper.bistUntil == 0 || decide ((c.tamper.bistUntil - 80) / 4096 + 4096 ≤ c.tide))

/-- The monitor test that runs next opens its window, with its outcome (R362, R363): a second failure in succession raises the source. -/
def State.monitorTest (s : State) (ch : Chan) (source : Nat) (pass : Bool) : State :=
  let t := (s.chan ch).tamper
  if !s.monitored || !t.armed || source != t.bistNext.toNat || !(s.chan ch).testDue then s
  else
    let b := sourceBit source
    let next := BitVec.ofNat 5 ((source + 1) % 20)
    let t1 := { t with bistNext := next, outlast := 0#23, bistRuns := satBv t.bistRuns 1, bistUntil := (s.chan ch).now + 80 }
    if pass then s.upd ch (fun c => { c with tamper := { t1 with failedOnce := t.failedOnce &&& ~~~ b } })
    else
      let s1 := s.upd ch (fun c => ({ c with tamper :=
        { t1 with bistFail := t.bistFail ||| b, failedOnce := t.failedOnce ||| b } }).event ch 0xC0 source)
      if t.failedOnce.getLsbD source then s1.respond ch b else s1

/-- R362: MONITOR_TEST. -/
def execMonitorTest (ch : Chan) (source : BitVec 5) (pass : Bool) (s : State) : Out :=
  .next (s.finish (s.monitorTest ch source.toNat pass))

/-- A TMP_IN pin has been high for 2,048 cycles: its source detects (R360). -/
def State.tmpIn (s : State) (ch : Chan) (pin : Nat) : State :=
  if !s.monitored then s
  else (s.setPins ch ((s.chan ch).tamper.tmpIn ||| BitVec.ofNat 4 (2 ^ pin))).detected ch
    ((s.chan ch).tamper.present ||| sourceBit (14 + pin))

/-- R360: TMP_IN_ASSERT. -/
def execTmpInAssert (ch : Chan) (pin : BitVec 2) (s : State) : Out := .next (s.finish (s.tmpIn ch pin.toNat))

/-- No REFCLK edge for 50 ns: both channels detect source 8 (R357). -/
def State.refclkLost (s : State) : State :=
  if !s.monitored then s
  else
    let s := s.updPort (fun p => { p with start := { p.start with refclk := false } })
    let one (s : State) (ch : Chan) : State := s.detected ch ((s.chan ch).tamper.present ||| sourceBit 8)
    one (one s .a) .b

/-- R357: REFCLK_LOSS. -/
def execRefclkLoss (s : State) : Out := .next (s.finish s.refclkLost)

/-- The decision of an island's timer at its limit: the brine key is overwritten, ERASED and class 0 set; in Run source 22
detects (R375). -/
def State.wakeTamper (s : State) (ch : Chan) : State :=
  let s := s.upd ch (fun c => { c with island := { (c.island.erase.pend 0) with wakeClass := 3#2 },
                                       tamper := { c.tamper with wakeHigh := false } })
  if s.monitored then s.tamperOne ch 22 else s

/-- R375: WAKE_TAMPER_DECISION. -/
def execWakeTamperDecision (ch : Chan) (s : State) : Out := .next (s.finish (s.wakeTamper ch))

/-- The island's supply falls below 2.2 V: RETAIN clears. Whether the island then loses power entirely, and with it every
bit, is a free value (R377). -/
def State.brownOut (s : State) (ch : Chan) : State :=
  let lost := Config.freeNat s.free % 2 == 1
  (s.upd ch (fun c => { c with island := if lost then Island.unpowered else { c.island with retain := false } })).drawn

/-- R377: ISLAND_BROWN_OUT. -/
def execIslandBrownOut (ch : Chan) (s : State) : Out := .next (s.finish (s.brownOut ch))

end Sys2Proof.Machine
end

