-- ==== Sys2Proof/Machine/Serve.lean ====
section
/-! DEFINITION. The firmware path of a channel (R89 to R91, R178, R179, R206 to R210, R234, R258, R262): the service of a
work item on a core, the jobs it issues, and its completion. -/

namespace Sys2Proof.Machine

/-! ### Engine work of an operation -/

/-- The unit that does an operation's engine work. -/
inductive Engine where
  | none | rake | digest | pk
  deriving DecidableEq, Repr

/-- The unit of an operation: HMAC and digests on a digest engine, key operations and component signatures on a
public-key engine, cipher work on the rakes. -/
def engineOf (o : Op) : Engine :=
  match o with
  | .digest | .macHmacSha256 | .macHmacSha2 => .digest
  | .pkSign | .pkVerify | .pkKeygen | .pkAgree | .pkEncap | .pkDecap | .pkPubkeyExport | .pkPubkeyImport
  | .transportImport | .transportExport | .componentAdd => .pk
  | .getRandom | .reseed | .echo | .componentBegin | .componentAbandon | .keyAttributes | .keyGenerate | .keyRestrict
  | .keyDestroy | .streamAbandon => .none
  | _ => .rake

/-- An operation of range 0x0700, which its engine completes (R94, R236). -/
def isPk (o : Op) : Bool := o.code / 256 == 7

/-- Derivation of a DUKPT data key (R152, R154): for a TDES BDK with the one-way step of the data variant. -/
def dukptDataRuns (alg h : Nat) : List Run :=
  if alg ≤ 2 then blockRuns alg 2 ++ desRuns (2 * h) ++ blockRuns alg 2
  else blockRuns alg (if alg = 3 then h + 2 else 2 * h + 4)

/-- Key-block work: both derivations, the cipher over `data` bytes and the MAC over header and data (R185). -/
def keyBlockRuns (alg head data : Nat) : List Run :=
  let b := algBlock alg
  blockRuns alg (2 * ceilDiv (algLen alg) b + ceilDiv data b + max 1 (ceilDiv (head + data) b))

/-- Blocks that `len` more bytes begin after `done` bytes of a stream. -/
def segBlocks (done len : Nat) : Nat := ceilDiv (done + len) 16 - ceilDiv done 16

/-- The steps of a segment (R197): a decrypting step is one block of the stream key and one AES-256 block. -/
def segRuns (s : Stream) (len : Nat) : List Run :=
  let n := segBlocks s.received len
  if s.decrypt then [{ count := n, cycles := blockCycles s.alg + blockCycles 5, blocks := 2 }] else blockRuns s.alg n

/-- Blocks of an ISO/IEC 9797-1 message of `l` bytes under a padding method (R158). The further zero block of method 3 runs under
algorithm 1 too: 2,044 at 16,336 bytes, where R159 gives 2,043 and names no method (DESIGN CHOICE, log 278). -/
def isoBlocks (pad l : Nat) : Nat :=
  if pad == 1 then max 1 (ceilDiv l 8) else if pad == 2 then l / 8 + 1 else l / 8 + 2

/-- The lane work of a key wrap of `n` semiblocks (R185): 6 blocks for each, and 1 more where KWP pads a single one. -/
def wrapRuns (alg n : Nat) : List Run := blockRuns alg (if n ≤ 1 then 7 else 6 * n)

/-- The steps of an operation's lane work on the firmware path (R137, R140, R153, R158, R159, R171, R179, R181, R185, R196
to R199); of vault work, for which no rule gives the blocks, an amount that bounds nothing but time (R89). -/
def Channel.laneRuns (c : Channel) (x : Item) (ks : List Loaded) : List Run :=
  let p := x.p
  let a0 := krAlg (leAt p 0 4)
  let a1 := krAlg (leAt p 4 4)
  let b := algBlock a0
  let gcm (aad : Nat) : List Run := blockRuns a0 2 ++ restRuns (ceilDiv aad 16) 16
  match x.op with
  | .cipherEncrypt | .cipherDecrypt =>
    let l := leAt p 8 2
    if u8 p 4 == 3 then gcm (leAt p 10 2) ++ blockRuns a0 (ceilDiv l 16) ++ restRuns 1 16
    else blockRuns a0 (if u8 p 4 == 1 && u8 p 5 == 2 then l / b + 1 else ceilDiv l b)
  | .streamOpen => gcm (leAt p 16 2)
  | .streamUpdate => segRuns (c.stream (streamIx x)) (leAt p 4 2)
  | .streamFinal => segRuns (c.stream (streamIx x)) (leAt p 4 2) ++ restRuns 1 17
  | .macCmacLong => blockRuns a0 (max 1 (ceilDiv (leAt p 8 2) 16))
  | .macIso9797Long =>
    let n := isoBlocks (u8 p 6) (leAt p 8 2)
    if u8 p 7 == 3 then desRuns (n - 1) ++ blockRuns a0 1 else blockRuns a0 n
  | .dukptData =>
    let l := leAt p 10 2
    dukptDataRuns a0 (setBits (dukptCounter a0 (slice p 12 12))).length ++ blockRuns a0 (l / b)
    ++ (if u8 p 8 == 1 then blockRuns a1 (l / algBlock a1) else [])
  | .dukptTranslateLongKey => dukptIn a0 (setBits (dukptCounter a0 (slice p 24 12))).length ++ pinOut a1
  | .pinChange => pinIn a0 ++ pinIn a0 ++ blockRuns a1 (if u8 p 10 == 0 then 1 else 2) ++ restRuns 2 4
  | .arqcVerifyLongPan => arqcRuns a0 p
  | .keyWrap =>
    let n := (keyAt ks 1).material.length
    wrapRuns a0 (ceilDiv n 8)
  | .keyUnwrap => wrapRuns a0 (leAt p 10 2 / 8 - 1)
  | .keyblockImport => match parseKeyBlock (p.drop 16) with
    | some k => keyBlockRuns a0 k.head.length k.data.length
    | none => []
  | .keyblockExport =>
    let d := kbDataLen (byte (u8 p 8)) (keyAt ks 1).material.length
    keyBlockRuns a0 ((runKbExport p ks []).bytes.length - 2 * d - 2 * b) d
  | .tokenFf1 => blockRuns a0 11
  | .vaultTokenise | .vaultDetokenise | .vaultDelete => blockRuns 5 44
  | o => skimRuns o p

/-- Blocks of a digest job and cycles of a block (R205, R210, R215). -/
def digestWork (o : Op) (p : Bytes) : Nat × Nat :=
  let algo := digestAlgo o p
  let (blk, cyc) := digestBlock algo
  match o with
  | .digest =>
    let l := leAt p 4 2
    (if 5 ≤ algo then l / blk + 1 else ceilDiv (l + 1 + (if blk == 64 then 8 else 16)) blk, cyc)
  | .macHmacSha256 => (ceilDiv (leAt p 8 2 + 73) 64 + 2, cyc)
  | _ => (ceilDiv (leAt p 8 2 + 145) 128 + 2, cyc)

/-- The bytes of a digest job's fragments: its message and the padding that makes whole blocks (R208, R210). -/
def digestTotal (o : Op) (p : Bytes) : Nat :=
  let (blk, _) := digestBlock (digestAlgo o p)
  match o with
  | .digest => (digestWork o p).1 * blk
  | _ => ((digestWork o p).1 - 3) * blk

/-- Message bytes a digest job hashes. -/
def digestBytes (o : Op) (p : Bytes) : Nat := if o == .digest then leAt p 4 2 else leAt p 8 2

/-! ### Random draws on the firmware path (R127, R144, R162, R192, R196, R227, R298) -/

/-- Lengths an item draws under indices 0, 1, …; 0 draws nothing. -/
def drawLens (x : Item) (ks : List Loaded) : List Nat :=
  let p := x.p
  if !x.op.draws p then []
  else match x.op with
  | .getRandom => [leAt p 0 2]
  | .pinTranslate | .dukptTranslate | .dukptTranslateLongKey | .componentBegin => [16]
  | .keyblockExport => [kbPadLen (byte (u8 p 8)) (keyAt ks 1).material.length]
  | .cipherEncrypt => [if u8 p 4 == 1 then algBlock (krAlg (leAt p 0 4)) else 12]
  | .streamOpen => [if u8 p 5 == 1 then 32 else 12]
  | .keyGenerate => [if u8 p 4 == 6 then u8 p 5 else algLen (u8 p 4)]
  | .transportExport =>
    let m := u8 p 12
    let signer := (keyAt ks 1).alg
    [kbPadLen 0x44#8 (keyAt ks (exportSource p)).material.length, transportDraw m (keyAt ks 0).alg]
    ++ (if leAt p 4 4 == noRef then [] else [pkDrawLen .pkSign signer 48])
  | o => [pkDrawLen o (u8 p 4) (leAt p 6 2)]

/-- Cycles until draws of these lengths are whole: a block enters an AES core each cycle and leaves it 16 cycles on (R290). -/
def drawCycles (l : List Nat) : Nat := 16 + ((l.map (fun n => ceilDiv n 16)).sum - 1)

/-- The item's draws are made; a request that waits leaves the item as it is, one that fails marks it (R299, R303). -/
def Channel.drawFor (c : Channel) (x : Item) (ks : List Loaded) : Channel × Item × Bool :=
  let l := drawLens x ks
  if l.all (· == 0) || !x.drawn.isEmpty then (c, x, true)
  else match c.rng.drawAll x.pkt.hdr x.admitTide 0 l with
    | (some d, _, g) => ({ c with rng := g }, { x with drawn := d, drawnAt := c.now + drawCycles l }, true)
    | (none, true, g) => ({ c with rng := g }, { x with rngFailed := true }, true)
    | (none, false, g) => ({ c with rng := g }, x, false)

/-- The blinding material of a public-key operation, always from the channel's CTR_DRBG (R227, R290): it waits for a
reseed, and fails with the generator. -/
def Channel.blind (c : Channel) (x : Item) : Channel × Item × Bool :=
  if !x.op.blinds then (c, x, true)
  else if c.rng.state != .ready then (c, { x with rngFailed := true }, true)
  else if c.rng.reseedDue then (c, x, false)
  else ({ c with rng := (c.rng.generate [] (Config.blindingLen x.op.code (u8 x.p 4) % 4097)).2 },
    { x with drawnAt := max x.drawnAt (c.now + 16) }, true)

/-! ### Keys of an item in service -/

/-- The keys an item holds handles on: loaded again under their bindings, or as a function reset has kept them for a writer
that it carries to its flip (R347). -/
def Channel.held (c : Channel) (x : Item) : List Loaded :=
  if x.kept.isEmpty then
    (keyReqs x.op x.p).filterMap (fun r => match c.keys.loadReq x r with
      | (.loaded h t m chk, gen) =>
        some { idx := r.idx, slot := r.slot, gen := gen, hdr := h, tally := t, material := m, check := chk }
      | _ => none)
  else x.kept

/-- A function with an assigned selective IDE stream in its secure state (R169, R345). -/
def PortDie.ideOn (p : PortDie) (f : Nat) : Bool :=
  (p.secureIde f).isSome

/-- The key read of an item on a core: its keys, with the tallies of R187 added once. -/
def Channel.readKeys (c : Channel) (p : PortDie) (x : Item) : Channel × Item × Except Res (List Loaded) :=
  if x.read then (c, x, .ok (c.held x))
  else
    let hit := c.countHits x
    match c.keyRead x (p.ideOn x.fn) (keyReqs x.op x.p) with
    | .fail code d => (hit, x, .error (.fail code d))
    | .ok ks => (hit.addTally x ks, c.withTable { x with read := true }, .ok ks)

/-! ### Yielding and finishing -/

/-- The item yields its core: it is saved in 192 cycles (R89). -/
def Channel.yieldCore (c : Channel) (x : Item) (k : Nat) (ph : Phase) : Channel :=
  let now := c.now
  (c.setItem { x with phase := ph, saved := true, savedAt := now + 192 }).onSched (·.mapCore k (fun z => { z with item := none, since := now + 192 }))

/-- Shadow entries a result needs: one and the new key's extension records (R258). -/
def Channel.shadowNeed (c : Channel) (x : Item) : Nat :=
  match targetOf x.op x.p with
  | some (_, slot) => 1 + (c.keys.header slot).extCount.toNat
  | none => 0

/-- Shadow entries that a writer which installs a key takes as its service begins: one and the new key's extension records,
which its payload or the length of its source tells; where only the opened key will tell, one, and the rest at its flip (R258;
DESIGN CHOICE, log 276). -/
def Item.shadowFirst (x : Item) : Nat :=
  match x.op with
  | .pkKeygen => 1 + pkExt (u8 x.p 4) true
  | .pkPubkeyImport => 1 + pkExt (u8 x.p 4) false
  | .pkAgree | .pkEncap | .pkDecap | .keyGenerate | .keyUnwrap | .keyRestrict | .keyblockImport | .transportImport => 1
  | _ => 0

/-- A writer takes its first shadow entries, if so many are free (R258). -/
def Channel.takeShadow (c : Channel) (x : Item) : Option Item :=
  let n := x.shadowFirst
  if n ≤ x.shadow then some x
  else if writerShadow < c.keys.retainedUsed + (c.sched.heldShadow - x.shadow) + n then none
  else some { x with shadow := n }

/-- A writer's result is taken when the shadow area has room for the records it installs, or when it has taken entries enough
before; else it waits (R258). `go` is
the channel with its result. -/
def Channel.install? (c : Channel) (x : Item) (go : Channel × Res) : Option Nat :=
  if go.1.keys.flips == c.keys.flips || go.2.code != .ok then none
  else
    let n := go.1.shadowNeed x
    let held := c.sched.heldShadow
    if n ≤ x.shadow then none else if writerShadow < c.keys.retainedUsed + (held - x.shadow) + n then some n else none

/-- A SLOT_CORRUPT that no fill found goes to the event recorder too (R175): a target's, a vault key's as the fill that read
it, a vault entry's with the slot of its basin's key (DEDUCED, log 233). -/
def Channel.reportCorrupt (c : Channel) (x : Item) (r : Res) : Channel :=
  if r.code != .slotCorrupt then c
  else
    let vault (b : Basin) : Channel := match c.keys.loadNow b.vaultSlot with
      | .corrupt => c.noteFill c.side b.vaultSlot .corrupt
      | _ => c.event c.side 0x60 b.vaultSlot
    match x.op with
    | .vaultTokenise | .vaultDetokenise | .vaultDelete => (SMap.find? c.keys.basins (leAt x.p 0 2)).elim c vault
    | _ => match targetOf x.op x.p with
      | some t => c.event c.side 0x60 t.2
      | none => c

/-- An item on core `k` completes with what its operation computes. -/
def Channel.finishOn (c : Channel) (x : Item) (k : Nat) (ks : List Loaded) : Channel :=
  let go := c.run x ks
  match c.install? x go with
  | some n => c.yieldCore { x with shadow := n } k .shadowWait
  | none => (((c.noting x.pkt.intakeNo go.1).reportCorrupt x go.2).noteResult x go.2).corePort x k go.2

/-- A result of item `x` on core `k`. -/
def Channel.endOn (c : Channel) (x : Item) (k : Nat) (r : Res) : Channel := (c.noteResult x r).corePort x k r

/-! ### Issuing jobs (R179, R209, R234) -/

/-- The fragment list firmware builds for a digest (R207, R208): the message, where it has one, and in channel store the
padding; where both lie is Config's. -/
def Channel.fragments (c : Channel) (x : Item) : List Fragment :=
  let l := digestBytes x.op x.p
  let at' := Config.message c.side x.id
  let pad : Fragment := { addr := at'.2.2, len := BitVec.ofNat 24 (digestTotal x.op x.p - l), hbm := false, last := true, reserved := 0#38 }
  let msg : Fragment := { addr := at'.1, len := BitVec.ofNat 24 l, hbm := at'.2.1, last := pad.len == 0#24, reserved := 0#38 }
  (if l == 0 then [] else [msg]) ++ (if pad.len == 0#24 then [] else [pad])

/-- The regions of core `k` (R349). -/
def Channel.regionsOf (c : Channel) (k : Nat) : List Region := (c.sched.cores[k]?).elim [] (·.regions)

/-- The jobs of a queue that a unit can take now: those whose saves have ended (R178, R179, R209). -/
def Channel.landed (c : Channel) (l : List Job) : List Job := l.filter (fun j => decide (j.readyAt ≤ c.now))

/-- A job joins its queue: one that left a skim pair at the head of its level, any other at the tail. One that is still being
saved stands behind those that arrive before its save has ended (R178, R179, R209). -/
def queueJob (l : List Job) (j : Job) : List Job :=
  if j.front then j :: l
  else l.filter (fun k => decide (k.readyAt ≤ j.readyAt) || k.front) ++ [j] ++ l.filter (fun k => decide (j.readyAt < k.readyAt) && !k.front)

/-- The item's rake or digest job joins its queue, with a copy of the region set of its core (R349). -/
def Channel.issue (c : Channel) (x : Item) (k : Nat) (ks : List Loaded) : Channel :=
  let regions := c.regionsOf k
  let c := c.yieldCore x k .engine
  match engineOf x.op with
  | .digest =>
    let (n, cyc) := digestWork x.op x.p
    let j : Job := { item := x.id, level := x.level, urgent := x.urgent, runs := [{ count := n, cycles := cyc, blocks := 1 }],
                     frags := c.fragments x, regions := regions, saved := false, readyAt := c.now, front := false
                     message := digestBytes x.op x.p, block := (digestBlock (digestAlgo x.op x.p)).1
                     lead := if x.op == .digest then 0 else 1, hashed := 0 }
    { c with digests := { c.digests with jobs := queueJob c.digests.jobs j } }
  | .pk =>
    let s := pkStep x ks
    let j : PkJob := { item := x.id, algo := s.algo, op := BitVec.ofNat 3 s.op, function := x.fn, cycles := s.cycles,
                       valid := pkValid x ks, level := x.level, urgent := x.urgent, halved := x.halved, regions := regions }
    let c := c.setItem { x with phase := .engine, saved := true, savedAt := c.now + 192, remaining := max 1 (ceilDiv s.cycles 3584) }
    { c with pks := if x.halved then { c.pks with queueHalved := c.pks.queueHalved ++ [j] }
                    else { c.pks with queueTwin := c.pks.queueTwin ++ [j] } }
  | _ =>
    let j : Job := { item := x.id, level := x.level, urgent := x.urgent, runs := c.laneRuns x ks, frags := [],
                     regions := regions, saved := false, readyAt := c.now, front := false, message := 0, block := 0, lead := 0,
                     hashed := 0 }
    { c with rakes := { c.rakes with jobs := queueJob c.rakes.jobs j } }

/-! ### Service (R89, R463) -/

/-- A KEY_DESTROY on a core (R262): it ends at once where it may not act, acts where the slot has no users, and else waits
for them off its core, its deadline not running. -/
def Channel.serveDestroy (c : Channel) (x : Item) (k : Nat) : Channel :=
  let slot := leAt x.p 0 4
  match destroyDenied c x slot with
  | some r => c.endOn x k r
  | none =>
    let c := c.withdrawUsers x
    if c.slotUsers slot x.id then
      c.yieldCore { x with startTide := none, due := none, urgent := false, stage := 1 } k .draining
    else c.finishOn x k []

/-- The result of a RESEED (R301). -/
def reseedResult (e : Option Epoch) : Res :=
  match e with
  | some e => .good (leBytes 8 e.number ++ leBytes 4 (e.since % 2 ^ 32) ++ [0#8])
  | none => .good (zeros 12 ++ [1#8])

/-- A RESEED on a core: it waits for its renewal, or starts its reseed and waits for it (R301). -/
def Channel.serveReseed (c : Channel) (x : Item) (k : Nat) : Channel :=
  if x.halved then
    if c.rng.state != .ready then c.endOn x k (.fail .rngFailed)
    else ({ c with rng := { c.rng with reseedDue := true } } : Channel).yieldCore x k .epochWait
  else match c.rng.effectAfter x.admitTide with
    | some e => c.endOn x k (reseedResult (some e))
    | none => c.yieldCore x k .epochWait

/-- The DUKPT guard of a guarded command (R155): the record as it leaves it, or DENIED. -/
def Channel.guard (c : Channel) (x : Item) : Channel × Option Res :=
  match guardOf x.op x.fn x.p with
  | none => (c, none)
  | some (n, keyId, counter) =>
    let (r, ok) := (SMap.get DukptRec.unbound c.keys.dukpt n).guard keyId counter
    let c : Channel := { c with keys := { c.keys with dukpt := SMap.set DukptRec.unbound c.keys.dukpt n r } }
    (c.journalWrite x.pkt.intakeNo n (.dukpt n r), if ok then none else some (.fail .denied denState))

/-- What an operation decides in its first slice, after its key read and before engine work. -/
def Channel.early (c : Channel) (x : Item) (ks : List Loaded) : Channel × Option Res :=
  match x.op with
  | .transportImport => (c, transportEarly c x ks)
  | .transportExport => (c, exportEarly x ks)
  | .componentAdd => componentEarly c x
  | .streamOpen => (c, if (c.stream (streamIx x)).state == .free then none else some (.fail .denied denState))
  | .streamUpdate | .streamFinal => streamEarly c x
  | .dukptTranslate | .dukptTranslateLongKey | .dukptData => c.guard x
  | _ => (c, if isPk x.op then pkEarly c x else none)

/-- The same, with the before-image of what it changes (R317). -/
def Channel.earlyNoted (c : Channel) (x : Item) (ks : List Loaded) : Channel × Option Res :=
  let r := c.early x ks
  (c.noting x.pkt.intakeNo r.1, r.2)

/-- A STREAM_OPEN on a context that is not free, which ends before it draws (R196). -/
def Channel.openDenied (c : Channel) (x : Item) : Bool := x.op == .streamOpen && (c.stream (streamIx x)).state != .free

/-- An item goes on after what it decides at once: a writer takes its shadow entries, or waits for them off its core (R258),
and its engine work begins, or its result stands. -/
def Channel.serveOn (c : Channel) (x : Item) (k : Nat) (ks : List Loaded) : Channel :=
  match c.takeShadow x with
  | none => c.yieldCore { x with shadow := x.shadowFirst } k .shadowWait
  | some x => if engineOf x.op == .none then c.finishOn x k ks else c.issue x k ks

/-- The service of an item on core `k`, from its first slice: the fills of its keys, the key read, its draws, what it
decides at once, and its engine work or its result. -/
def Channel.serveFirst (c : Channel) (p : PortDie) (x : Item) (k : Nat) : Channel :=
  if !x.fills.isEmpty then c
  else
    let y := if x.read then x else c.lookUp x
    if !y.fills.isEmpty then c.setItem y
    else
      match c.readKeys p x with
      | (c, x, .error r) => c.endOn x k r
      | (c, x, .ok ks) =>
        let (c, x, ready) := if isPk x.op || c.openDenied x then (c, x, true) else c.drawFor x ks
        if !ready || (!x.rngFailed && decide (c.now < x.drawnAt)) then c.setItem x
        else if x.rngFailed then c.endOn x k (.fail .rngFailed)
        else if x.op == .keyDestroy then c.serveDestroy x k
        else if x.op == .reseed then c.serveReseed x k
        else match c.earlyNoted x ks with
          | (c, some r) => (c.reportCorrupt x r).endOn x k r
          | (c, none) => c.serveOn x k ks

/-- The item that core `k` runs and has begun. -/
def Channel.onCore (c : Channel) (id : Nat) : Option (Item × Nat) :=
  match c.item? id with
  | some x => match x.phase with
    | .running k => if x.sliceStart ≤ c.now then some (x, k) else none
    | _ => none
  | none => none

/-- The item's service goes on after engine work, or after the wait it yielded for: it ends where its generator has failed or
the signature of an import has, begins its next engine operation, or completes (R167, R258, R303). -/
def Channel.serveAgain (c : Channel) (x : Item) (k : Nat) : Channel :=
  let ks := c.held x
  if x.rngFailed then c.endOn x k (.fail .rngFailed)
  else if engineOf x.op == .pk && pkLeft x ks then
    match (if x.op == .transportImport then importSigned x.p ks else none) with
    | some r => c.endOn x k r
    | none => c.issue x k ks
  else c.finishOn x k ks

/-- The core of a work item has a configuration fault: it stalls (R350). -/
def Channel.coreStalled (c : Channel) (k : Nat) : Bool := (c.sched.cores[k]?).any (·.cfgFault)

/-- The service of a work item of operation `o` (R89). After its engine work, or the wait it yielded for, it completes. -/
def Channel.serve (c : Channel) (p : PortDie) (o : Op) (id : Nat) : Channel :=
  match c.onCore id with
  | none => c
  | some (x, k) =>
    if x.op != o || c.resetHolds x || c.coreStalled k then c
    else if x.stage == 0 then c.serveFirst p x k else c.serveAgain x k

/-- An operation whose service can end with FAULT_DETECTED, detail MEMORY, on a core: GET_RANDOM for its result buffer
(R302), and what reads back the records it writes (R258, R272). -/
def Item.memoryFaults (x : Item) : Bool :=
  x.op == .getRandom || x.op.code / 256 == 8 || (match x.op.writes x.fn x.p with | some (k, _) => k == .keySlot | none => false)

/-- A fault in the service of a work item of operation `o` on its core: the item completes with FAULT_DETECTED, an uncorrectable
error clears the health bit of the memory it lies in (R311), and where a buffered write of the core was refused the item runs on
on a core that leaves service (R258, R302, R351). -/
def Channel.serveFault (c : Channel) (o : Op) (id : Nat) (how : ServeFault) : Channel :=
  match c.onCore id with
  | none => c
  | some (x, k) =>
    if x.op != o || c.resetHolds x || c.coreStalled k then c
    else match how with
    | .memory h => if x.memoryFaults then (c.clearHealth (if h then 9 else 8)).endOn x k (.fail .faultDetected fltMemory) else c
    | .read h a =>
      if permits (c.regionsOf k) h false a.toNat then c
      else (c.event c.side 0x61 (a.toNat % 2 ^ 32)).endOn x k (.fail .faultDetected fltEngine)
    | .write h a =>
      if permits (c.regionsOf k) h true a.toNat then c
      else ((c.onSched (·.mapCore k (fun z => { z with out := true }))).clearHealth 6).event c.side 0x62 (a.toNat % 2 ^ 32)

/-! ### Cores (R89, R91) -/

/-- The item at the head of the highest level that has one. -/
def Sched.next (d : Sched) : Option Nat :=
  match d.urgentList with
  | i :: _ => some i
  | [] => d.ready.findSome? (·.head?)

/-- An idle core takes the next item (R89): 24 cycles of dispatch, 192 more of restore. Firmware loads its access control unit
for the item (R349); one that cannot enable stalls its core (R350). -/
def Channel.dispatch (c : Channel) (k : Nat) : Channel :=
  match c.sched.cores[k]?, c.sched.next.bind c.item? with
  | some z, some x =>
    if z.item.isSome || z.out || c.now < z.since then c
    else
      let now := c.now
      let y := { x with phase := .running k, saved := false, sliceStart := now + 24 + (if x.saved then 192 else 0) }
      let regions := loadRegions z.regions (Config.regions c.side x.id now)
      let bad := (List.range 16).any (regionBad regions)
      let c := (c.setItem y).onSched (fun d => (d.delist x.id).mapCore k (fun z =>
        { z with item := some x.id, since := now, regions := regions, cfgFault := bad }))
      c.trace y 2 k
  | _, _ => c

/-- The slice timer of a core: after 3,584 cycles its item is saved, and then goes to the tail of its level (R89). -/
def Channel.sliceTimer (c : Channel) (k : Nat) : Channel :=
  match (c.sched.cores[k]?.bind (·.item)).bind c.item? with
  | none => c
  | some x => match x.phase with
    | .running _ =>
      if c.now < x.sliceStart + 3584 then c
      else
        let y := c.bounded x (x.remaining - 1)
        (c.trace y 8 k).yieldCore y k (.saving false)
    | _ => c

/-! ### Jobs on their units -/

/-- The order of jobs: urgent first, then by level (R179, R209). -/
def Job.rank (j : Job) : Nat := if j.urgent then 0 else j.level.toNat + 1

/-- The job at the head of a queue: the first of the highest level. -/
def headJob (l : List Job) : Option Job :=
  l.foldl (fun (b : Option Job) j => match b with
    | none => some j
    | some k => if j.rank < k.rank then some j else some k) none

/-- Firmware-path lane pairs (R178). -/
def Channel.firmwarePair (c : Channel) (n : Nat) : Bool := decide (c.skimPairs ≤ n) && decide (n < 64)

/-- A pair runs nothing now. -/
def Channel.pairIdle (c : Channel) (n : Nat) : Bool := (c.lanePair n).job.isNone && decide ((c.lanePair n).busyUntil ≤ c.now)

/-- A firmware-path pair may take work: it runs nothing, and has finished the skim queue it had (R116). -/
def Channel.pairFree (c : Channel) (n : Nat) : Bool := c.firmwarePair n && c.pairIdle n && (c.lanePair n).queue.isEmpty

/-- Cycles left for a slice on a skim pair: it and its save end by the first cycle of the next tide (R178). -/
def Channel.gapRoom (c : Channel) (j : Job) : Nat := (4096 - c.offset) - 24 - (if j.saved then 24 else 0)

/-- A skim pair may take a firmware-path slice (R178). -/
def Channel.gapOpen (c : Channel) (j : Job) (n : Nat) : Bool :=
  decide (n < c.skimPairs) && c.pairIdle n && (c.lanePair n).queue.isEmpty && decide ((c.lanePair n).booked ≤ c.now)
  && (j.runs.isEmpty || !(splitRuns j.runs (min 3584 (c.gapRoom j))).1.isEmpty)

/-- A slice of a job runs on a pair: whole steps within 3,584 cycles, and within the gap of a skim pair. -/
def Channel.laneSlice (c : Channel) (n : Nat) (j : Job) : Channel :=
  let cut := splitRuns j.runs (if c.firmwarePair n then 3584 else min 3584 (c.gapRoom j))
  let start := c.now + (if j.saved then 24 else 0)
  let w : Work := { item := j.item, start := start, runs := cut.1, counted := 0 }
  let c := c.sync.mapPair n (fun p => { p with job := some { j with runs := cut.2, saved := false }, work := p.work ++ [w],
                                               busyUntil := start + runsCycles cut.1 })
  if c.firmwarePair n then c
  else { c with rakes := { c.rakes with gapSlices := satBv c.rakes.gapSlices 1 } }

/-- A free lane pair takes the job at the head of the rake queue (R178, R179): a firmware-path pair, or, when none of
those is free, the lowest-numbered skim pair that may. A job draws its masks at its first slice, and waits for a
reseed that is due (R289, R290). -/
def Channel.rakeStart (c : Channel) (n : Nat) : Channel :=
  match headJob (c.landed c.rakes.jobs) with
  | none => c
  | some j =>
    let free := (List.range 64).any c.pairFree
    let ok := if c.firmwarePair n then c.pairFree n
      else !free && c.gapOpen j n && !(List.range n).any (c.gapOpen j)
    if !ok || (!j.saved && (c.item? j.item).any (fun x => c.maskWaits x.op)) then c
    else
      let c := match c.item? j.item with
        | some x => if j.saved then c else let r := c.maskDraw x; r.1.setItem r.2
        | none => c
      ({ c with rakes := { c.rakes with jobs := c.rakes.jobs.erase j } } : Channel).laneSlice n j

/-- A lane slice ends with steps left (R178, R179): a job that leaves its pair is saved in 24 cycles, and no pair restores it
before. -/
def Channel.rakeSliceEnd (c : Channel) (n : Nat) : Channel :=
  match (c.lanePair n).job with
  | none => c
  | some j =>
    if j.runs.isEmpty || c.now < (c.lanePair n).busyUntil then c
    else
      let now := c.now
      let leave (c : Channel) : Channel := c.mapPair n (fun p => { p with job := none, busyUntil := now + 24 })
      let save (front : Bool) (c : Channel) : Channel :=
        leave { c with rakes := { c.rakes with jobs := queueJob c.rakes.jobs { j with saved := true, readyAt := now + 24, front := front } } }
      if !c.firmwarePair n then save true c
      else if (c.landed c.rakes.jobs).any (fun k => k.rank ≤ j.rank) then
        (save false c).mapRake (n / 8)
          (fun r => { r with yields := satBv r.yields 1 })
      else c.laneSlice n j

/-- An item's engine work is done: it rejoins its level (R89). -/
def Channel.rejoin (c : Channel) (id : Nat) : Channel :=
  match c.item? id with
  | some x => c.enterSaved { x with stage := x.stage + 1, saved := true }
  | none => c

end Sys2Proof.Machine
end

