-- ==== Sys2Proof/Machine/RakeEvents.lean ====
section
/-! DEFINITION. The commands of the cipher rakes' own events (R178 to R184, R201): a job's start, the end of a slice, the
end of lane work, and the self-tests of the lane pairs. -/

namespace Sys2Proof.Machine

/-! ### Faults of lane work (R182, R183, R201) -/

/-- DETAIL of the completion a fault gives (R73). -/
def faultDetail (w : WorkEnd) : BitVec 4 :=
  match w with
  | .laneCompare => fltLane
  | .busCode => fltBus
  | .memory _ => fltMemory
  | _ => fltEngine

/-- RAKE_FAULT_LOG captures the first fault since it was read (R204). -/
def Rakes.log (r : Rakes) (pair kind tide : Nat) : Rakes :=
  if r.logKind != 0#2 then { r with logMore := true }
  else { r with logPair := BitVec.ofNat 3 pair, logRake := BitVec.ofNat 3 (pair / 8), logKind := BitVec.ofNat 2 kind,
                faultTide := BitVec.ofNat 32 tide }

/-- The item whose lane work a pair does now: its firmware-path job, else the first skim command in its lanes. -/
def Channel.laneWork (c : Channel) (n : Nat) : Option Item :=
  match (c.lanePair n).job with
  | some j => c.item? j.item
  | none =>
    let mine (x : Item) : Bool := x.pair == some n && !c.past x && (match x.phase with | .lane => true | _ => false)
    c.sched.produced.findSome? (fun r => match r.item.bind c.item? with
      | some x => if mine x then some x else none
      | none => none)

/-- The command completes with FAULT_DETECTED, and the stream it works on is killed. -/
def Channel.faultItem (c : Channel) (x : Item) (w : WorkEnd) : Channel :=
  let r := Res.fail .faultDetected (faultDetail w)
  let c := match x.op with
    | .streamOpen | .streamUpdate | .streamFinal => c.killStream x.pkt.intakeNo (streamIx x)
    | _ => c
  (c.noteResult x r).abort x r

/-- True and inverted outputs of pair `n` disagree (R182). -/
def Channel.laneCompareFault (c : Channel) (ch : Chan) (n : Nat) (x : Item) : Channel :=
  let c := c.mapPair n (fun p => { p with faultCompare := true })
  let c := c.mapRake (n / 8) (fun r => { r with faultCount := satBv r.faultCount 1 })
  let c := { c with rakes := c.rakes.log n 1 c.tide }
  let c := if x.skim then c.mapSkim (fun r => { r with faultCompare := satBv r.faultCompare 1 }) else c
  (c.event ch 0x20 n).faultItem x .laneCompare

/-- A check code error on the key bus (`lane` 0) or a lane bus (1) of pair `n` (R183). -/
def Channel.laneBusFault (c : Channel) (ch : Chan) (n lane : Nat) (x : Item) : Channel :=
  let c := c.mapPair n (fun p => { p with faultBus := true })
  let c := c.mapRake (n / 8) (fun r => { r with faultCount := satBv r.faultCount 1 })
  let c := { c with rakes := c.rakes.log n (2 + lane) c.tide, health := { c.health with busTide := some c.tide } }
  (c.event ch 0x21 lane).faultItem x .busCode

/-! ### The end of lane work -/

/-- A firmware-path job has run its last step: the command rejoins its level (R89, R179). -/
def Channel.rakeGood (c : Channel) (n : Nat) : Channel :=
  match (c.lanePair n).job with
  | none => c
  | some j =>
    if !j.runs.isEmpty || c.now < (c.lanePair n).busyUntil then c
    else (c.mapPair n (fun p => { p with job := none })).rejoin j.item

/-- The address of a piece that a job's region set refuses is reported: precisely for a read, without its issuer for a buffered
write (R351). -/
def Channel.reportRefused (c : Channel) (write : Bool) (a : Nat) : Channel :=
  c.event c.side (if write then 0x62 else 0x61) (a % 2 ^ 32)

/-- A piece of a firmware-path job that its region set refuses ends the job (R349, R351). -/
def Channel.rakeRefused (c : Channel) (n : Nat) (hbm write : Bool) (a : Nat) : Channel :=
  match (c.lanePair n).job with
  | none => c
  | some j => match c.item? j.item with
    | none => c
    | some x => if permits j.regions hbm write a then c else (c.reportRefused write a).faultItem x .engineFault

/-- The lane work of a pair ends (R182, R183, R201). A context or held buffer with an uncorrectable error lies in channel store,
whose health bit it clears (R193, R195, R311). Which bus an error shows on is a free value. -/
def State.rakeDone (s : State) (ch : Chan) (n : Nat) (w : WorkEnd) : State :=
  let c := s.chan ch
  match w with
  | .good => s.setChan ch (c.rakeGood n)
  | .laneCompare => match c.laneWork n with
    | some x => (s.setChan ch (c.laneCompareFault ch n x)).tamperOne ch srcLogic
    | none => s
  | .busCode => match c.laneWork n with
    | some x => ((s.setChan ch (c.laneBusFault ch n (Config.freeNat s.free % 2) x)).drawn).tamperOne ch srcBus
    | none => s
  | .memory h => match c.laneWork n with
    | some x => s.setChan ch ((c.clearHealth 8).faultItem x (.memory h))
    | none => s
  | .readRefused h a => s.setChan ch (c.rakeRefused n h false a.toNat)
  | .writeRefused h a => s.setChan ch (c.rakeRefused n h true a.toNat)
  | .engineFault | .closingCheck => s

/-! ### Self-test (R107, R184) -/

/-- A pair may test: it is idle, its booking is reached, and it has not tested in this tide. -/
def Channel.testOpen (c : Channel) (n : Nat) : Bool :=
  let p := c.lanePair n
  c.pairIdle n && decide (p.booked ≤ c.now) && p.testedTide != some c.tide
  && (if c.firmwarePair n then c.rakes.jobs.isEmpty else p.queue.isEmpty)

/-- A self-test of a lane pair runs. A pair that fails stays in service. The DES block of an odd tide's test adds nothing to
RAKE_n_BLOCKS (DESIGN CHOICE, log 280). -/
def State.laneTest (s : State) (ch : Chan) (n : Nat) (pass : Bool) : State :=
  let c := s.chan ch
  if !c.testOpen n then s
  else
    let now := c.now
    let c := c.mapPair n (fun p => { p with testedTide := some c.tide, busyUntil := now + 136,
                                            testFail := p.testFail || !pass })
    if pass then s.setChan ch c
    else (s.setChan ch ((c.clearHealth 3).event ch 0x22 (0x40 + n / 8))).tamperOne ch srcLogic

/-! ### The commands -/

/-- R179: RAKE_JOB_START. -/
def execRakeJobStart (ch : Chan) (pair : BitVec 6) (s : State) : Out :=
  .next (s.upd ch (fun c => c.rakeStart pair.toNat))

/-- R179: RAKE_SLICE_END. -/
def execRakeSliceEnd (ch : Chan) (pair : BitVec 6) (s : State) : Out :=
  .next (s.upd ch (fun c => c.rakeSliceEnd pair.toNat))

/-- R179: RAKE_JOB_DONE. -/
def execRakeJobDone (ch : Chan) (pair : BitVec 6) (how : WorkEnd) (s : State) : Out :=
  .next (s.finish (s.rakeDone ch pair.toNat how))

/-- R184: LANE_SELF_TEST. -/
def execLaneSelfTest (ch : Chan) (pair : BitVec 6) (pass : Bool) (s : State) : Out :=
  .next (s.finish (s.laneTest ch pair.toNat pass))

end Sys2Proof.Machine
end

