-- ==== Sys2Proof/Machine/DigestEvents.lean ====
section
/-! DEFINITION. The commands of the digest engines' own events (R206 to R218) and of their register mode (R211 to R213,
R221). -/

namespace Sys2Proof.Machine

/-! ### Jobs (R206, R209) -/

/-- Digest engine `n`. -/
def Channel.digestEngine (c : Channel) (n : Nat) : DigestEngine := c.digests.engines.getD n DigestEngine.reset

/-- The channel with digest engine `n` changed. -/
def Channel.mapDigest (c : Channel) (n : Nat) (f : DigestEngine → DigestEngine) : Channel :=
  { c with digests := c.digests.mapEngine n f }

/-- The engine can take a job or a test: in service, with nothing to do, and not in register mode. -/
def Channel.digestFree (c : Channel) (n : Nat) : Bool :=
  let e := c.digestEngine n
  e.job.isNone && !e.outOfService && !e.regMode && decide (e.busyUntil ≤ c.now)

/-- A fragment list an engine takes (R207, R208): 1 to 1,024 descriptors, each with a length and no reserved bit set, the
last alone marked LAST, and in all a whole number of blocks. -/
def listOk (blk : Nat) (l : List Fragment) : Bool :=
  !l.isEmpty && decide (l.length ≤ 1024) && l.all (fun f => f.len != 0#24 && f.reserved == 0#38)
  && (l.mapIdx (fun i f => f.last == (i + 1 == l.length))).all id
  && (l.map (·.len.toNat)).sum % blk == 0

/-- Cycles until the first fragment arrives (R206). -/
def firstLatency (l : List Fragment) : Nat := if l.head?.any (·.hbm) then 420 else 12

/-- The first byte of a piece of a job's reads that its region set refuses (R207, R350). -/
def Job.refused (j : Job) : Option Nat :=
  j.frags.findSome? (fun f => (dmaPieces f.addr.toNat f.len.toNat).find? (fun a => !permits j.regions f.hbm false a))

/-- A slice of a job runs on an engine from cycle `start` on: whole blocks within 3,584 cycles. -/
def Channel.digestSlice (c : Channel) (n : Nat) (j : Job) (start : Nat) : Channel :=
  let cut := splitRuns j.runs 3584
  let w : Work := { item := j.item, start := start, runs := cut.1, counted := 0 }
  c.sync.mapDigest n (fun e => { e with job := some { j with runs := cut.2, saved := false },
                                        work := e.work ++ [w], busyUntil := start + runsCycles cut.1 })

/-- DIGEST_FAULT_LOG captures the first fault since it was read (R220). -/
def Digests.log (d : Digests) (n kind tide : Nat) : Digests :=
  if d.logKind != 0#3 then { d with logMore := true }
  else { d with logEngine := BitVec.ofNat 2 n, logKind := BitVec.ofNat 3 kind, faultTide := BitVec.ofNat 32 tide }

/-- A job ends with a fault: the engine stops and clears, and the command completes with FAULT_DETECTED (R218). -/
def Channel.digestFault (c : Channel) (n kind : Nat) (detail : BitVec 4) : Channel :=
  match (c.digestEngine n).job.bind (fun j => c.item? j.item) with
  | none => c
  | some x =>
    let r := Res.fail .faultDetected detail
    let c := c.stop x
    let c := c.mapDigest n (fun e =>
      { e with faultBus := e.faultBus || kind == 1, faultMemory := e.faultMemory || kind == 2,
               faultPair := e.faultPair || kind == 3, faultList := e.faultList || kind == 4,
               faultCount := satBv e.faultCount 1 })
    let c := { c with digests := c.digests.log n kind c.tide }
    (c.noteResult x r).produce x (28 + n) (c.now + 18) r

/-- A free engine takes the job at the head of the queue: with 24 fixed cycles and its first fragment's latency, or the
restore of 24. It checks the list before it compresses a block; an invalid one is a fault (R206 to R208, R218). An engine whose
completion stalls takes none (R95). -/
def Channel.digestStart (c : Channel) (n : Nat) : Channel :=
  match headJob (c.landed c.digests.jobs) with
  | none => c
  | some j =>
    if !c.digestFree n || c.stalls (28 + n) then c
    else
      let c : Channel := { c with digests := { c.digests with jobs := c.digests.jobs.erase j } }
      match c.item? j.item with
      | none => c
      | some x =>
        if j.saved then c.digestSlice n j (c.now + 24)
        else if listOk (digestBlock (digestAlgo x.op x.p)).1 j.frags then c.digestSlice n j (c.now + 24 + firstLatency j.frags)
        else (c.mapDigest n (fun e => { e with job := some j })).digestFault n 4 fltEngine

/-- A digest slice ends with blocks left: the job yields to one of its level or above, or goes on (R209). -/
def Channel.digestSliceEnd (c : Channel) (n : Nat) : Channel :=
  let c := c.sync
  match (c.digestEngine n).job with
  | none => c
  | some j =>
    if j.runs.isEmpty || c.now < (c.digestEngine n).busyUntil then c
    else
      let c := match c.item? j.item with
        | some x => c.trace x 8 (0x80 + n)
        | none => c
      if (c.landed c.digests.jobs).any (fun k => k.rank ≤ j.rank) then
        let now := c.now
        let c := c.mapDigest n (fun e => { e with job := none, busyUntil := now + 24, yields := satBv e.yields 1 })
        let j : Job := { j with saved := true, readyAt := now + 24, front := false }
        { c with digests := { c.digests with jobs := queueJob c.digests.jobs j } }
      else c.digestSlice n j c.now

/-! ### The end of a job (R213, R218) -/

/-- The compare of a verifying HMAC is counted by its outcome. -/
def Digests.countCompare (d : Digests) (x : Item) (r : Res) : Digests :=
  let verifies := (x.op == .macHmacSha256 || x.op == .macHmacSha2) && u8 x.p 4 == 1
  if !verifies then d
  else if r.code == .ok then { d with compareMatches := satBv d.compareMatches 1 }
  else { d with compareMismatches := satBv d.compareMismatches 1 }

/-- A job has run its last block: its command completes from the engine (R94). -/
def Channel.digestGood (c : Channel) (n : Nat) : Channel :=
  let c := c.sync
  match (c.digestEngine n).job with
  | none => c
  | some j =>
    if !j.runs.isEmpty || c.now < (c.digestEngine n).busyUntil then c
    else
      let c := c.mapDigest n (fun e => { e with job := none })
      match c.item? j.item with
      | none => c
      | some x =>
        let r := (c.run x (c.held x)).2
        (({ c with digests := c.digests.countCompare x r } : Channel).noteResult x r).produce x (28 + n) (c.now + 18) r

/-- A read of an engine's job that its region set refuses ends the job and is reported (R218, R351). -/
def Channel.digestRefused (c : Channel) (n : Nat) : Channel :=
  match (c.digestEngine n).job.bind (·.refused) with
  | some a => (c.digestFault n 4 fltEngine).event c.side 0x61 (a % 2 ^ 32)
  | none => c

/-- Another piece of an engine's job that its region set refuses. -/
def Channel.digestPiece (c : Channel) (n : Nat) (hbm write : Bool) (a : Nat) : Channel :=
  match (c.digestEngine n).job with
  | none => c
  | some j => if permits j.regions hbm write a then c else (c.digestFault n 4 fltEngine).reportRefused write a

/-- A digest job ends (R213, R218): well where its region set permits every read. An uncorrectable error clears the health bit of
the memory it lies in, HBM only where a fragment does (R207, R311). Which bus an error shows on is a free value. -/
def State.digestDone (s : State) (ch : Chan) (n : Nat) (w : WorkEnd) : State :=
  let c := s.chan ch
  if (c.digestEngine n).job.isNone then s
  else match w with
  | .good => if ((c.digestEngine n).job.bind (·.refused)).isSome then s else s.setChan ch (c.digestGood n)
  | .busCode =>
    let c := (c.digestFault n 1 fltBus).event ch 0x21 (Config.freeNat s.free % 2)
    ((s.setChan ch { c with health := { c.health with busTide := some c.tide } }).drawn).tamperOne ch srcBus
  | .memory h =>
    if (c.digestEngine n).job.any (fun j => h && !j.frags.any (·.hbm)) then s
    else s.setChan ch ((c.digestFault n 2 fltMemory).clearHealth (if h then 9 else 8))
  | .engineFault => s.setChan ch (c.digestRefused n)
  | .readRefused h a => s.setChan ch (c.digestPiece n h false a.toNat)
  | .writeRefused h a => s.setChan ch (c.digestPiece n h true a.toNat)
  | .laneCompare | .closingCheck => (s.setChan ch (c.digestFault n 3 fltEngine)).tamperOne ch srcLogic

/-! ### Known-answer test (R217) -/

/-- An idle engine tests while the digest queue is empty, once a tide; one that fails leaves service. The log takes a failed test
as KIND 5, and DIGEST_n_FAULT, which R220 gives no bit for it, counts nothing (DESIGN CHOICE, log 283). -/
def State.digestTest (s : State) (ch : Chan) (n : Nat) (pass : Bool) : State :=
  let c := s.chan ch
  let e := c.digestEngine n
  if !c.digestFree n || !c.digests.jobs.isEmpty || e.testedTide == some c.tide then s
  else
    let until' := c.now + (if c.tide % 2 == 0 then 68 else 28)
    let c := c.mapDigest n (fun e => { e with testedTide := some c.tide, busyUntil := until', testFail := e.testFail || !pass,
                                              outOfService := e.outOfService || !pass })
    let c := { c with digests := { c.digests with katRuns := satBv c.digests.katRuns 1 } }
    if pass then s.setChan ch c
    else
      let c := { c with digests := c.digests.log n 5 c.tide }
      (s.setChan ch ((c.clearHealth 4).event ch 0x22 (0x80 + n))).tamperOne ch srcLogic

/-! ### Register mode (R211 to R213, R221) -/

/-- What the private registers read (R221); reading MODE clears its FAULT. -/
def DigestEngine.modeWord (e : DigestEngine) : Word :=
  word [(0, e.algo.toNat), (3, e.regMode.toNat), (4, e.done.toNat), (5, e.modeFault.toNat)]
def DigestEngine.modeReads (e : DigestEngine) : DigestEngine := { e with modeRead := e.modeWord, modeFault := false }
def DigestEngine.cmpWord (e : DigestEngine) : Word := word [(8, e.isMatch.toNat), (9, e.isMatchN.toNat)]
def DigestEngine.resultWindow (e : DigestEngine) : Bytes := if e.done then e.result else zeros 64

/-- A write of DIGEST_n_MODE: ALGO, and REG, which is ignored while register mode is locked. -/
def Digests.modeWrite (d : Digests) (n : Nat) (v : Word) : Digests :=
  let algo := BitVec.ofNat 3 v.toNat
  d.mapEngine n (fun e =>
    if !v.getLsbD 3 then { e with algo := algo, regMode := false }
    else if d.locked then { e with algo := algo }
    else { e with algo := algo, regMode := true, message := [], lastWord := 0#64, lastCount := none, done := false,
                  result := zeros 64 })

/-- An access to DIGEST_n_MODE: a write, or a read. -/
def Digests.modeAccess (d : Digests) (n : Nat) (v : Option Word) : Digests :=
  match v with
  | some v => d.modeWrite n v
  | none => d.mapEngine n (·.modeReads)

/-- The finisher registers take no write while register mode is locked (R212). -/
def Digests.finisher (d : Digests) (n : Nat) (f : DigestEngine → DigestEngine) : Digests :=
  if d.locked then d else d.mapEngine n (fun e => if e.regMode then f e else e)

/-- A write of DIGEST_n_DATA: the next 8 bytes, or FAULT once finishing has begun. A message longer than 2^40 − 1 bytes is taken
whole: what the 40-bit counter does beyond is not stated (DESIGN CHOICE, log 282). -/
def DigestEngine.data (e : DigestEngine) (v : DWord) : DigestEngine :=
  if e.lastCount.isSome then { e with modeFault := true } else { e with message := e.message ++ beBytes 8 v.toNat }

/-- Bytes of a block of the engine's algorithm, and the whole blocks of its message so far. -/
def DigestEngine.blockLen (e : DigestEngine) : Nat := (digestBlock e.algo.toNat).1
def DigestEngine.whole (e : DigestEngine) : Nat := e.message.length / e.blockLen

/-- A block that a DATA write fills is compressed, and counts with its bytes (R220). -/
def Digests.dataWrite (d : Digests) (n : Nat) (v : DWord) : Digests :=
  let e := d.engines.getD n DigestEngine.reset
  let f := e.data v
  let k := f.whole - e.whole
  if !e.regMode || d.locked then d
  else { (d.mapEngine n (fun _ => { f with blocks := satBv e.blocks k })) with bytes := d.bytes + BitVec.ofNat 64 (k * e.blockLen) }

/-- A write of DIGEST_n_LAST_COUNT: finishing starts; above 8 it faults. A LAST_WORD written between it and the finish still
counts, and a second LAST_COUNT changes nothing and does not fault (DESIGN CHOICE, log 281). -/
def DigestEngine.finishAt (e : DigestEngine) (v : Word) : DigestEngine :=
  let k := BitVec.ofNat 4 v.toNat
  if 8 < k.toNat then { e with modeFault := true } else { e with lastCount := some (e.lastCount.getD k) }

/-- Blocks of a padded message (R205, R211). -/
def paddedBlocks (algo len : Nat) : Nat :=
  let blk := (digestBlock algo).1
  if 5 ≤ algo then len / blk + 1 else ceilDiv (len + 1 + (if blk == 64 then 8 else 16)) blk

/-- Finishing ends: RESULT holds the digest and DONE rises. `other` is what an ALGO of no algorithm leaves. -/
def Digests.finishDone (d : Digests) (n : Nat) (other : Bytes) : Digests :=
  let e := d.engines.getD n DigestEngine.reset
  match e.lastCount with
  | none => d
  | some k =>
    if !e.regMode || e.done then d
    else
      let m := e.message ++ (beBytes 8 e.lastWord.toNat).take k.toNat
      let algo := e.algo.toNat
      let valid := decide (1 ≤ algo) && decide (algo ≤ 6)
      let out := if valid then digestOf algo m else other
      let d := d.mapEngine n (fun e => { e with message := m, result := fitR 64 out, done := true,
                                                blocks := satBv e.blocks (paddedBlocks algo m.length - e.whole) })
      { d with bytes := d.bytes + BitVec.ofNat 64 (m.length - e.whole * e.blockLen) }

/-- A write of DIGEST_n_CMP with GO: the leftmost LEN bytes of RESULT against EXPECT. A LEN outside 1 to 64 leaves a
verdict the spec does not state: `pick`. -/
def DigestEngine.compare (e : DigestEngine) (v : Word) (pick : Nat) : DigestEngine :=
  let len := v.toNat % 128
  if !v.getLsbD 7 then e
  else if 1 ≤ len && len ≤ 64 then
    let same := (e.resultWindow.take len) == (fitR 64 e.expect).take len
    { e with isMatch := same, isMatchN := !same }
  else { e with isMatch := pick % 2 == 1, isMatchN := pick / 2 % 2 == 1 }

/-- DIGEST_n_EXPECT takes `expect`, then DIGEST_n_CMP takes `v`; a compare is counted by its pattern (R220). -/
def Digests.compareWrite (d : Digests) (n : Nat) (expect : Option Bytes) (v : Word) (pick : Nat) : Digests :=
  let d := d.mapEngine n (fun e => ({ e with expect := expect.getD e.expect } : DigestEngine).compare v pick)
  let e := d.engines.getD n DigestEngine.reset
  if !v.getLsbD 7 then d
  else if e.isMatch && !e.isMatchN then { d with compareMatches := satBv d.compareMatches 1 }
  else if !e.isMatch && e.isMatchN then { d with compareMismatches := satBv d.compareMismatches 1 }
  else d

/-! ### The commands -/

/-- The digest engines of a channel changed. -/
def State.onDigests (s : State) (ch : Chan) (f : Digests → Digests) : State :=
  s.upd ch (fun c => { c with digests := f c.digests })

/-- R209: DIGEST_JOB_START. -/
def execDigestJobStart (ch : Chan) (engine : BitVec 2) (s : State) : Out :=
  .next (s.upd ch (fun c => c.digestStart engine.toNat))

/-- R209: DIGEST_SLICE_END. -/
def execDigestSliceEnd (ch : Chan) (engine : BitVec 2) (s : State) : Out :=
  .next (s.upd ch (fun c => c.digestSliceEnd engine.toNat))

/-- R206: DIGEST_JOB_DONE. -/
def execDigestJobDone (ch : Chan) (engine : BitVec 2) (how : WorkEnd) (s : State) : Out :=
  .next (s.finish (s.digestDone ch engine.toNat how))

/-- R217: DIGEST_KNOWN_ANSWER_TEST. -/
def execDigestKnownAnswerTest (ch : Chan) (engine : BitVec 2) (pass : Bool) (s : State) : Out :=
  .next (s.finish (s.digestTest ch engine.toNat pass))

/-- R221: DIGEST_MODE; without a value the register is read. -/
def execDigestMode (ch : Chan) (engine : BitVec 2) (value : Option Word) (s : State) : Out :=
  .next (s.onDigests ch (·.modeAccess engine.toNat value))

/-- R211: DIGEST_DATA. -/
def execDigestData (ch : Chan) (engine : BitVec 2) (value : DWord) (s : State) : Out :=
  .next (s.onDigests ch (·.dataWrite engine.toNat value))

/-- R211: DIGEST_LAST_WORD. -/
def execDigestLastWord (ch : Chan) (engine : BitVec 2) (value : DWord) (s : State) : Out :=
  .next (s.onDigests ch (·.finisher engine.toNat (fun e => { e with lastWord := value })))

/-- R211: DIGEST_LAST_COUNT. -/
def execDigestLastCount (ch : Chan) (engine : BitVec 2) (value : Word) (s : State) : Out :=
  .next (s.onDigests ch (·.finisher engine.toNat (·.finishAt value)))

/-- R211: DIGEST_FINISH_DONE. -/
def execDigestFinishDone (ch : Chan) (engine : BitVec 2) (s : State) : Out :=
  .next ((s.onDigests ch (·.finishDone engine.toNat (Config.freeBytes s.free))).drawn)

/-- R213: DIGEST_CMP. `expect` is what was written to DIGEST_n_EXPECT before. -/
def execDigestCmp (ch : Chan) (engine : BitVec 2) (expect : Option Bytes) (value : Word) (s : State) : Out :=
  .next ((s.onDigests ch (·.compareWrite engine.toNat expect value (Config.freeNat s.free))).drawn)

end Sys2Proof.Machine
end

