-- ==== Sys2Proof/Machine/PkEvents.lean ====
section
/-! DEFINITION. The commands of the public-key engines' own events (R234 to R242). -/

namespace Sys2Proof.Machine

/-- Public-key engine `n`. -/
def Channel.pkEngine (c : Channel) (n : Nat) : PkEngine := c.pks.engines.getD n PkEngine.reset

/-- The channel with public-key engine `n` changed. -/
def Channel.mapPk (c : Channel) (n : Nat) (f : PkEngine → PkEngine) : Channel := { c with pks := c.pks.mapEngine n f }

/-! ### Start (R233, R234, R241) -/

/-- The order of public-key jobs: urgent first, then by level. -/
def PkJob.rank (j : PkJob) : Nat := if j.urgent then 0 else j.level.toNat + 1

/-- The job at the head of a queue. -/
def headPk (l : List PkJob) : Option PkJob :=
  l.foldl (fun (b : Option PkJob) j => match b with
    | none => some j
    | some k => if j.rank < k.rank then some j else some k) none

/-- The engine serves halved commands under the split in force (R233). -/
def Pks.halvedEngine (k : Pks) (n : Nat) : Bool := decide (k.twinEngines ≤ n)

/-- A kind's queue without a job. -/
def Pks.take (k : Pks) (j : PkJob) : Pks :=
  { k with queueTwin := k.queueTwin.erase j, queueHalved := k.queueHalved.erase j }

/-- An engine takes a job and fills its working region from the command's buffer (R222). One that another function owns
wipes first (R241). -/
def Channel.pkRun (c : Channel) (n : Nat) (j : PkJob) (x : Item) : Channel :=
  let now := c.now
  let e := c.pkEngine n
  let wipe := e.owned && e.owner.toNat != j.function
  let start := if wipe then now + 256 else now
  let pks := c.pks.take j
  let pks := if wipe then { pks with wipesOwner := satBv pks.wipesOwner 1 } else pks
  ({ c with pks := pks } : Channel).mapPk n (fun e =>
    { e with job := some j, startedAt := start, validated := false, slicesReported := 0, owned := true,
             owner := BitVec.ofNat 8 j.function, wiping := wipe, wipingUntil := if wipe then start else e.wipingUntil,
             secret := [], working := x.p })

/-- The engine can take a job: it has none, runs no wipe, no background test and no verification of the management plane (R241,
R314, R400), and holds no completion that stalls (R95). -/
def Channel.pkFree (c : Channel) (n : Nat) : Bool :=
  let e := c.pkEngine n
  e.job.isNone && !e.wiping && decide (e.busyUntil ≤ c.now) && !c.stalls (12 + n)

/-- A free engine of the kind takes the job at the head of the queue. A command of range 0x0700 draws its material here,
blinding included (R298): one that waits for a reseed leaves its job queued, one whose draw fails completes with RNG_FAILED. -/
def Channel.pkStart (c : Channel) (n : Nat) : Channel :=
  match headPk (if c.pks.halvedEngine n then c.pks.queueHalved else c.pks.queueTwin) with
  | none => c
  | some j =>
    if !c.pkFree n then c
    else match c.item? j.item with
      | none => { c with pks := c.pks.take j }
      | some x =>
        if !isPk x.op then c.pkRun n j x
        else match c.drawFor x (c.held x) with
          | (c, _, false) => c
          | (c, x, true) =>
            match (if x.rngFailed then (c, x, true) else c.blind x) with
            | (c, x, false) => c.setItem x
            | (c, x, true) =>
              if x.rngFailed then
                let r := Res.fail .rngFailed
                (({ c with pks := c.pks.take j } : Channel).noteResult x r).produce x (12 + n) (c.now + 18) r
              else (c.setItem x).pkRun n j x

/-! ### Ends (R236, R238, R241, R242) -/

/-- PK_FAULT_LOG captures the first fault since it was read (R246). -/
def Pks.log (k : Pks) (n kind tide : Nat) : Pks :=
  if k.logKind != 0#3 then { k with logMore := true }
  else { k with logEngine := BitVec.ofNat 4 n, logKind := BitVec.ofNat 3 kind, faultTide := BitVec.ofNat 32 tide }

/-- The engine's operation is aborted and its memory wiped (R241), and its command completes with `r`. -/
def Channel.pkAbort (c : Channel) (n : Nat) (x : Item) (r : Res) : Channel :=
  let now := c.now
  let c := (c.noteResult x r).mapPk n (fun e => e.abort now)
  let c := ({ c with pks := { c.pks with wipesAbort := satBv c.pks.wipesAbort 1 } } : Channel).stop x
  c.produce x (12 + n) (c.now + 18) r

/-- The item whose job an engine runs. -/
def Channel.pkItem (c : Channel) (n : Nat) : Option Item := (c.pkEngine n).job.bind (fun j => c.item? j.item)

/-- The validation stage ends: its outcomes act together at its last cycle (R236), and the secret operands enter after it. -/
def Channel.pkValidate (c : Channel) (n : Nat) : Channel :=
  let e := c.pkEngine n
  match e.job, c.pkItem n with
  | some j, some x =>
    if e.validated || c.now < e.startedAt + j.valid then c
    else match c.pkRefuses x (c.held x) with
      | some d =>
        let c := { c with pks := { c.pks with rejInput := satBv c.pks.rejInput 1 } }
        c.pkAbort n x (.fail .inputRejected d)
      | none =>
        let secret := pkSecret x (c.held x)
        c.mapPk n (fun e => { e with validated := true, secret := secret })
  | _, _ => c

/-- The engine reports its remaining slices, its slice end (R234). -/
def Channel.pkReport (c : Channel) (n : Nat) : Channel :=
  let e := c.pkEngine n
  match e.job, c.pkItem n with
  | some j, some x =>
    let k := e.slicesReported + 1
    if c.now < e.startedAt + 3584 * k then c
    else
      let c := c.setItem { x with remaining := max 1 (ceilDiv j.cycles 3584 - k) }
      (c.mapPk n (fun e => { e with slicesReported := k })).trace x 8 (0x60 + n)
  | _, _ => c

/-- A failed closing check (R238). -/
def Channel.pkInvariant (c : Channel) (ch : Chan) (n : Nat) (x : Item) : Channel :=
  let k := c.pks
  let c := { c with pks := ({ k with rejInvariant := satBv k.rejInvariant 1 } : Pks).log n 4 c.tide }
  (c.event ch 0x40 n).pkAbort n x (.fail .invariantFail)

/-- A faulted operation. -/
def Channel.pkFault (c : Channel) (n kind : Nat) (detail : BitVec 4) (x : Item) : Channel :=
  ({ c with pks := c.pks.log n kind c.tide } : Channel).pkAbort n x (.fail .faultDetected detail)

/-- A piece of an engine's job that its region set refuses ends the job (R349, R351). -/
def Channel.pkPiece (c : Channel) (n : Nat) (j : PkJob) (x : Item) (hbm write : Bool) (a : Nat) : Channel :=
  if permits j.regions hbm write a then c else (c.reportRefused write a).pkAbort n x (.fail .faultDetected fltEngine)

/-- The engine is done with its job: the fixed tail has cleared the secret region, and the result stands in the working
region (R222, R240). -/
def PkEngine.leave (e : PkEngine) (result : Bytes) : PkEngine :=
  { e with job := none, ops := satBv e.ops 1, secret := [], working := if result.isEmpty then e.working else result }

/-- A result leaves the engine: range 0x0700 completes from it. -/
def Channel.pkLeave (c c' : Channel) (n : Nat) (x : Item) (r : Res) : Channel :=
  match c.install? x (c', r) with
  | some need => (c.mapPk n (·.leave r.bytes)).setItem { x with phase := .shadowWait, shadow := need, stage := x.stage + 1 }
  | none =>
    let c' := (c.noting x.pkt.intakeNo c').mapPk n (·.leave r.bytes)
    (c'.noteResult x r).produce x (12 + n) (c'.now + 18) r

/-- The operation in an engine has run its cycles (R230, R239), and its item is not held by a reset. -/
def Channel.pkRanOut (c : Channel) (n : Nat) (x : Item) : Bool :=
  let e := c.pkEngine n
  e.validated && decide (e.startedAt + pkTime x (c.held x) ≤ c.now) && !c.resetHolds x

/-- What stops an operation at its end: a closing check that fails, or the cap of R239, of the item's last operation, or of the
key operation of an export that signs after it. -/
def pkStops (x : Item) (ks : List Loaded) (r : Res) : Option Res :=
  if !pkLeft { x with stage := x.stage + 1 } ks then
    if r.code == .invariantFail || r.code == .faultDetected then some r else none
  else if x.op == .transportExport && (pkStep x ks).op != 3 && (exportMade x ks).isNone then some (.fail .invariantFail)
  else none

/-- An operation ends well: the result of R229, unless a closing check or the cap of R239 stops it; other ranges rejoin
their core. -/
def State.pkGood (s : State) (ch : Chan) (n : Nat) (x : Item) : State :=
  let c := s.chan ch
  if !c.pkRanOut n x then s
  else
    let ks := c.held x
    let c := c.noteSigning x ks
    let (c', r) := c.run x ks
    match pkStops x ks r with
    | some f =>
      if f.code == .invariantFail then (s.setChan ch (c.pkInvariant ch n x)).tamperOne ch srcLogic
      else s.setChan ch (((c.event ch 0x40 n).clearHealth 5).pkFault n 5 fltEngine x)
    | none =>
      if !isPk x.op then s.setChan ch ((c.mapPk n (·.leave [])).rejoin x.id)
      else s.setChan ch (c.pkLeave c' n x r)

/-- An operation ends (R238, R239, R242). A closing check fails, and a verdict's pair disagrees, only where the operation has
one, at its end. -/
def State.pkDone (s : State) (ch : Chan) (n : Nat) (w : WorkEnd) : State :=
  let c := s.chan ch
  match (c.pkEngine n).job, c.pkItem n with
  | some j, some x =>
    let step := pkStep x (c.held x)
    match w with
    | .good => s.pkGood ch n x
    | .closingCheck =>
      if step.closes && c.pkRanOut n x then
        (s.setChan ch ((c.noteSigning x (c.held x)).pkInvariant ch n x)).tamperOne ch srcLogic
      else s
    | .busCode =>
      let c := (c.event ch 0x21 0).pkFault n 1 fltBus x
      (s.setChan ch { c with health := { c.health with busTide := some c.tide } }).tamperOne ch srcBus
    | .memory _ => s.setChan ch (c.pkFault n 2 fltMemory x)
    | .readRefused h a => s.setChan ch (c.pkPiece n j x h false a.toNat)
    | .writeRefused h a => s.setChan ch (c.pkPiece n j x h true a.toNat)
    | .laneCompare | .engineFault =>
      if step.hasVerdict && c.pkRanOut n x then (s.setChan ch (c.pkFault n 3 fltEngine x)).tamperOne ch srcLogic else s
  | _, _ => s

/-- A wipe has run its 256 cycles: both regions read as zero (R241), but for what the job that waited for it brings. -/
def PkEngine.wiped (e : PkEngine) (now : Nat) : PkEngine :=
  if e.wiping && decide (e.wipingUntil ≤ now) then
    { e with wiping := false, secret := [], working := if e.job.isSome then e.working else [] }
  else e

/-- R241 for engine `n`. -/
def Channel.pkWiped (c : Channel) (n : Nat) : Channel :=
  let now := c.now
  c.mapPk n (fun e => e.wiped now)

/-! ### The commands -/

/-- R234: PK_JOB_START. -/
def execPkJobStart (ch : Chan) (engine : BitVec 4) (s : State) : Out := .next (s.upd ch (fun c => c.pkStart engine.toNat))

/-- R236: PK_VALIDATION_END. -/
def execPkValidationEnd (ch : Chan) (engine : BitVec 4) (s : State) : Out :=
  .next (s.upd ch (fun c => c.pkValidate engine.toNat))

/-- R234: PK_SLICE_REPORT. -/
def execPkSliceReport (ch : Chan) (engine : BitVec 4) (s : State) : Out :=
  .next (s.upd ch (fun c => c.pkReport engine.toNat))

/-- R238: PK_OPERATION_DONE. -/
def execPkOperationDone (ch : Chan) (engine : BitVec 4) (how : WorkEnd) (s : State) : Out :=
  .next (s.finish (s.pkDone ch engine.toNat how))

/-- R241: PK_WIPE_DONE. -/
def execPkWipeDone (ch : Chan) (engine : BitVec 4) (s : State) : Out :=
  .next (s.upd ch (fun c => c.pkWiped engine.toNat))

end Sys2Proof.Machine
end

