-- ==== Sys2Proof/Machine/Opcodes.lean ====
section
/-! DEFINITION. The commands of the Erwen operations (R47): each acts on its channel at one step. `decode` is the
operation's packet at the head of fan-out going through the checks of its payload, its refusals, admission and, where
nothing holds it, its start (R54, R55, R78 to R86, R103 to R110); `serve` is the work of its item on a core (R89), with
what `Channel.run` computes for the operation; `fault` is a fault in that service (R258, R302, R351). -/

namespace Sys2Proof.Machine

/-- An operation's command at one step. -/
def State.operate (s : State) (o : Op) (ch : Chan) (step : OpStep) : State :=
  match step with
  | .decode => s.upd ch (fun c => c.decodeHead s.port (fun k => k == some o))
  | .serve id => s.upd ch (fun c => c.serve s.port o id)
  | .fault id how => s.upd ch (fun c => c.serveFault o id how)

/-- R301: GET_RANDOM. -/
def execGetRandom (ch : Chan) (step : OpStep) (s : State) : Out := .next (s.finish (s.operate .getRandom ch step))

/-- R301: RESEED. -/
def execReseed (ch : Chan) (step : OpStep) (s : State) : Out := .next (s.finish (s.operate .reseed ch step))

/-- R301: ECHO. -/
def execEcho (ch : Chan) (step : OpStep) (s : State) : Out := .next (s.finish (s.operate .echo ch step))

/-- R130: PIN_TRANSLATE. -/
def execPinTranslate (ch : Chan) (step : OpStep) (s : State) : Out := .next (s.finish (s.operate .pinTranslate ch step))

/-- R134: PIN_VERIFY_OFFSET. -/
def execPinVerifyOffset (ch : Chan) (step : OpStep) (s : State) : Out := .next (s.finish (s.operate .pinVerifyOffset ch step))

/-- R136: PIN_VERIFY_PVV. -/
def execPinVerifyPvv (ch : Chan) (step : OpStep) (s : State) : Out := .next (s.finish (s.operate .pinVerifyPvv ch step))

/-- R137: PIN_CHANGE. -/
def execPinChange (ch : Chan) (step : OpStep) (s : State) : Out := .next (s.finish (s.operate .pinChange ch step))

/-- R138: CVC_GENERATE. -/
def execCvcGenerate (ch : Chan) (step : OpStep) (s : State) : Out := .next (s.finish (s.operate .cvcGenerate ch step))

/-- R138: CVC_VERIFY. -/
def execCvcVerify (ch : Chan) (step : OpStep) (s : State) : Out := .next (s.finish (s.operate .cvcVerify ch step))

/-- R141: ARQC_VERIFY. -/
def execArqcVerify (ch : Chan) (step : OpStep) (s : State) : Out := .next (s.finish (s.operate .arqcVerify ch step))

/-- R140: ARQC_VERIFY_LONG_PAN. -/
def execArqcVerifyLongPan (ch : Chan) (step : OpStep) (s : State) : Out := .next (s.finish (s.operate .arqcVerifyLongPan ch step))

/-- R152: DUKPT_TRANSLATE. -/
def execDukptTranslate (ch : Chan) (step : OpStep) (s : State) : Out := .next (s.finish (s.operate .dukptTranslate ch step))

/-- R153: DUKPT_TRANSLATE_LONG_KEY. -/
def execDukptTranslateLongKey (ch : Chan) (step : OpStep) (s : State) : Out := .next (s.finish (s.operate .dukptTranslateLongKey ch step))

/-- R154: DUKPT_DATA. -/
def execDukptData (ch : Chan) (step : OpStep) (s : State) : Out := .next (s.finish (s.operate .dukptData ch step))

/-- R157: MAC_CMAC. -/
def execMacCmac (ch : Chan) (step : OpStep) (s : State) : Out := .next (s.finish (s.operate .macCmac ch step))

/-- R158: MAC_ISO9797_3. -/
def execMacIso97973 (ch : Chan) (step : OpStep) (s : State) : Out := .next (s.finish (s.operate .macIso97973 ch step))

/-- R159: MAC_CMAC_LONG. -/
def execMacCmacLong (ch : Chan) (step : OpStep) (s : State) : Out := .next (s.finish (s.operate .macCmacLong ch step))

/-- R159: MAC_ISO9797_LONG. -/
def execMacIso9797Long (ch : Chan) (step : OpStep) (s : State) : Out := .next (s.finish (s.operate .macIso9797Long ch step))

/-- R159: MAC_HMAC_SHA256. -/
def execMacHmacSha256 (ch : Chan) (step : OpStep) (s : State) : Out := .next (s.finish (s.operate .macHmacSha256 ch step))

/-- R161: KEYBLOCK_IMPORT. -/
def execKeyblockImport (ch : Chan) (step : OpStep) (s : State) : Out := .next (s.finish (s.operate .keyblockImport ch step))

/-- R162: KEYBLOCK_EXPORT. -/
def execKeyblockExport (ch : Chan) (step : OpStep) (s : State) : Out := .next (s.finish (s.operate .keyblockExport ch step))

/-- R163: KEY_WRAP. -/
def execKeyWrap (ch : Chan) (step : OpStep) (s : State) : Out := .next (s.finish (s.operate .keyWrap ch step))

/-- R163: KEY_UNWRAP. -/
def execKeyUnwrap (ch : Chan) (step : OpStep) (s : State) : Out := .next (s.finish (s.operate .keyUnwrap ch step))

/-- R167: TRANSPORT_IMPORT. -/
def execTransportImport (ch : Chan) (step : OpStep) (s : State) : Out := .next (s.finish (s.operate .transportImport ch step))

/-- R168: TRANSPORT_EXPORT. -/
def execTransportExport (ch : Chan) (step : OpStep) (s : State) : Out := .next (s.finish (s.operate .transportExport ch step))

/-- R170: COMPONENT_BEGIN. -/
def execComponentBegin (ch : Chan) (step : OpStep) (s : State) : Out := .next (s.finish (s.operate .componentBegin ch step))

/-- R170: COMPONENT_ADD. -/
def execComponentAdd (ch : Chan) (step : OpStep) (s : State) : Out := .next (s.finish (s.operate .componentAdd ch step))

/-- R170: COMPONENT_ABANDON. -/
def execComponentAbandon (ch : Chan) (step : OpStep) (s : State) : Out := .next (s.finish (s.operate .componentAbandon ch step))

/-- R171: TOKEN_FF1. -/
def execTokenFf1 (ch : Chan) (step : OpStep) (s : State) : Out := .next (s.finish (s.operate .tokenFf1 ch step))

/-- R174: VAULT_TOKENISE. -/
def execVaultTokenise (ch : Chan) (step : OpStep) (s : State) : Out := .next (s.finish (s.operate .vaultTokenise ch step))

/-- R174: VAULT_DETOKENISE. -/
def execVaultDetokenise (ch : Chan) (step : OpStep) (s : State) : Out := .next (s.finish (s.operate .vaultDetokenise ch step))

/-- R174: VAULT_DELETE. -/
def execVaultDelete (ch : Chan) (step : OpStep) (s : State) : Out := .next (s.finish (s.operate .vaultDelete ch step))

/-- R192: CIPHER_ENCRYPT. -/
def execCipherEncrypt (ch : Chan) (step : OpStep) (s : State) : Out := .next (s.finish (s.operate .cipherEncrypt ch step))

/-- R193: CIPHER_DECRYPT. -/
def execCipherDecrypt (ch : Chan) (step : OpStep) (s : State) : Out := .next (s.finish (s.operate .cipherDecrypt ch step))

/-- R196: STREAM_OPEN. -/
def execStreamOpen (ch : Chan) (step : OpStep) (s : State) : Out := .next (s.finish (s.operate .streamOpen ch step))

/-- R197: STREAM_UPDATE. -/
def execStreamUpdate (ch : Chan) (step : OpStep) (s : State) : Out := .next (s.finish (s.operate .streamUpdate ch step))

/-- R199: STREAM_FINAL. -/
def execStreamFinal (ch : Chan) (step : OpStep) (s : State) : Out := .next (s.finish (s.operate .streamFinal ch step))

/-- R200: STREAM_ABANDON. -/
def execStreamAbandon (ch : Chan) (step : OpStep) (s : State) : Out := .next (s.finish (s.operate .streamAbandon ch step))

/-- R215: DIGEST. -/
def execDigest (ch : Chan) (step : OpStep) (s : State) : Out := .next (s.finish (s.operate .digest ch step))

/-- R215: MAC_HMAC_SHA2. -/
def execMacHmacSha2 (ch : Chan) (step : OpStep) (s : State) : Out := .next (s.finish (s.operate .macHmacSha2 ch step))

/-- R229: PK_SIGN. -/
def execPkSign (ch : Chan) (step : OpStep) (s : State) : Out := .next (s.finish (s.operate .pkSign ch step))

/-- R229: PK_VERIFY. -/
def execPkVerify (ch : Chan) (step : OpStep) (s : State) : Out := .next (s.finish (s.operate .pkVerify ch step))

/-- R229: PK_KEYGEN. -/
def execPkKeygen (ch : Chan) (step : OpStep) (s : State) : Out := .next (s.finish (s.operate .pkKeygen ch step))

/-- R228: PK_AGREE. -/
def execPkAgree (ch : Chan) (step : OpStep) (s : State) : Out := .next (s.finish (s.operate .pkAgree ch step))

/-- R228: PK_ENCAP. -/
def execPkEncap (ch : Chan) (step : OpStep) (s : State) : Out := .next (s.finish (s.operate .pkEncap ch step))

/-- R228: PK_DECAP. -/
def execPkDecap (ch : Chan) (step : OpStep) (s : State) : Out := .next (s.finish (s.operate .pkDecap ch step))

/-- R229: PK_PUBKEY_EXPORT. -/
def execPkPubkeyExport (ch : Chan) (step : OpStep) (s : State) : Out := .next (s.finish (s.operate .pkPubkeyExport ch step))

/-- R226: PK_PUBKEY_IMPORT. -/
def execPkPubkeyImport (ch : Chan) (step : OpStep) (s : State) : Out := .next (s.finish (s.operate .pkPubkeyImport ch step))

/-- R267: KEY_CHECK_VALUE. -/
def execKeyCheckValue (ch : Chan) (step : OpStep) (s : State) : Out := .next (s.finish (s.operate .keyCheckValue ch step))

/-- R268: KEY_ATTRIBUTES. -/
def execKeyAttributes (ch : Chan) (step : OpStep) (s : State) : Out := .next (s.finish (s.operate .keyAttributes ch step))

/-- R269: KEY_GENERATE. -/
def execKeyGenerate (ch : Chan) (step : OpStep) (s : State) : Out := .next (s.finish (s.operate .keyGenerate ch step))

/-- R270: KEY_RESTRICT. -/
def execKeyRestrict (ch : Chan) (step : OpStep) (s : State) : Out := .next (s.finish (s.operate .keyRestrict ch step))

/-- R262: KEY_DESTROY. -/
def execKeyDestroy (ch : Chan) (step : OpStep) (s : State) : Out := .next (s.finish (s.operate .keyDestroy ch step))

/-- R47: UNASSIGNED_OPCODE. -/
def execUnassignedOpcode (ch : Chan) (s : State) : Out :=
  .next (s.finish (s.upd ch (fun c => c.decodeHead s.port Option.isNone)))

end Sys2Proof.Machine
end

