-- ==== Sys2Proof/Machine/SchedEvents.lean ====
section
/-! DEFINITION. The commands of the scheduler's own events (R81, R82, R87 to R89, R92, R95, R258, R262), of the key cache's
fills (R110, R111, R256, R265) and of exhaustion (R188). -/

namespace Sys2Proof.Machine

/-! ### Decode (R81) -/

/-- R81: DECODE_RESUME. A stalled decode goes on with the packet at the head of fan-out. -/
def execDecodeResume (ch : Chan) (s : State) : Out :=
  .next (s.finish (s.upd ch (fun c => c.decodeHead s.port (fun _ => true))))

/-- A packet not decoded within 16 tides of its intake tide is a channel fault (R81, R315). -/
def Channel.decodeLate (c : Channel) (ch : Chan) : Channel :=
  match c.sched.fanout with
  | [] => c
  | k :: _ =>
    if c.tide < k.intakeTide + 16 then c
    else
      let c := ((c.mapSched (fun r => { r with decodeLate := true })).clearHealth 1).event ch 0x02 (c.tide - k.intakeTide)
      { c with faults := c.faults ++ [.decodeLate] }

/-- R81: DECODE_LATE_FAULT. -/
def execDecodeLateFault (ch : Chan) (s : State) : Out := .next (s.finish (s.upd ch (fun c => c.decodeLate ch)))

/-! ### Release, start and dispatch -/

/-- R82: DELAY_RELEASE. -/
def execDelayRelease (ch : Chan) (s : State) : Out := .next (s.finish (s.upd ch (fun c => c.releaseDue s.port)))

/-- An item whose waits have ended starts, or its lane pair takes it (R88, R110). -/
def Channel.startOne (c : Channel) (id : Nat) : Channel :=
  match c.item? id with
  | none => c
  | some x => match x.phase with
    | .waiting => c.tryStart id true
    | .laneQueue => c.laneTake x
    | _ => c

/-- R88: COMMAND_START. -/
def execCommandStart (ch : Chan) (id : Nat) (s : State) : Out := .next (s.finish (s.upd ch (fun c => c.startOne id)))

/-- R89: CORE_DISPATCH. -/
def execCoreDispatch (ch : Chan) (core : BitVec 6) (s : State) : Out :=
  .next (s.upd ch (fun c => c.dispatch core.toNat))

/-- R89: CORE_SLICE_TIMER. -/
def execCoreSliceTimer (ch : Chan) (core : BitVec 6) (s : State) : Out :=
  .next (s.upd ch (fun c => c.sliceTimer core.toNat))

/-! ### Waits in service (R258, R262) -/

/-- Shadow entries are free for a writer that waits for them. -/
def Channel.shadowAcquire (c : Channel) (id : Nat) : Channel :=
  match c.item? id with
  | none => c
  | some x => match x.phase with
    | .shadowWait =>
      if writerShadow < c.keys.retainedUsed + c.sched.heldShadow + x.shadow then c else c.enter { x with saved := true }
    | _ => c

/-- R258: SHADOW_ENTRY_ACQUIRE. -/
def execShadowEntryAcquire (ch : Chan) (id : Nat) (s : State) : Out :=
  .next (s.finish (s.upd ch (fun c => c.shadowAcquire id)))

/-- The last user of a slot has completed: the destroy that waited acts, and its deadline runs (R93, R262). -/
def Channel.usersDrained (c : Channel) (id : Nat) : Channel :=
  match c.item? id with
  | none => c
  | some x => match x.phase with
    | .draining => if c.slotUsers (leAt x.p 0 4) id || x.expiryPending then c else c.enter (c.begin x)
    | _ => c

/-- R262: DESTROY_USERS_DRAINED. -/
def execDestroyUsersDrained (ch : Chan) (id : Nat) (s : State) : Out :=
  .next (s.finish (s.upd ch (fun c => c.usersDrained id)))

/-! ### Completions and deadlines -/

/-- R95: COMPLETION_ACCEPT. In a cycle the collector looks at its 80 producers from the pointer and takes at most four. -/
def execCompletionAccept (ch : Chan) (s : State) : Out :=
  .next (s.finish (s.upd ch (fun c => c.collect c.sched.pointer 4 80)))

/-- R92: DEADLINE_MISS. -/
def execDeadlineMiss (ch : Chan) (id : Nat) (s : State) : Out :=
  .next (s.finish (s.upd ch (fun c => match c.item? id with
    | some x => if c.missDue x then c.miss ch x else c
    | none => c)))

/-! ### Wait limits (R87) -/

/-- A channel's report in a vote. -/
def WaitVote.report (v : WaitVote) (ch : Chan) (waiting : Bool) : WaitVote :=
  match ch with
  | .a => { v with waitingA := some waiting }
  | .b => { v with waitingB := some waiting }

/-- The port die takes a channel's report on a twin command whose limit falls due at tide `e`. -/
def PortDie.waitReport (p : PortDie) (ch : Chan) (n e : Nat) (waiting : Bool) : PortDie :=
  if p.waits.any (fun v => v.intakeNo == n) then
    { p with waits := p.waits.map (fun v => if v.intakeNo == n && v.expire.isNone then v.report ch waiting else v) }
  else
    let v : WaitVote := { intakeNo := n, e := e, waitingA := none, waitingB := none, expire := none }
    { p with waits := p.waits ++ [v.report ch waiting] }

/-- A twin command is held in expiry-pending: it does not start (R87). -/
def Channel.holdExpiry (c : Channel) (x : Item) : Channel := c.setItem { x with expiryPending := true }

/-- A wait limit falls due: a halved command still waiting ends at once, a twin command is reported, and held when it is
still waiting. -/
def State.waitExpiry (s : State) (ch : Chan) (id : Nat) : State :=
  let c := s.chan ch
  match c.item? id with
  | none => s
  | some x => match x.limit with
    | none => s
    | some e =>
      if c.tide < e || x.expiryPending then s
      else if x.halved then (if x.waits then s.setChan ch (c.timeOut x) else s)
      else
        let s := s.updPort (fun p => p.waitReport ch x.pkt.intakeNo e x.waits)
        if x.waits then s.setChan ch (c.holdExpiry x) else s

/-- R87: WAIT_LIMIT_EXPIRY. -/
def execWaitLimitExpiry (ch : Chan) (id : Nat) (s : State) : Out := .next (s.finish (s.waitExpiry ch id))

/-- The verdict: "expire" when every joined channel reported "waiting". -/
def PortDie.waitVerdict (p : PortDie) (n : Nat) : PortDie :=
  let vote (v : WaitVote) : WaitVote :=
    if v.intakeNo != n || v.expire.isSome then v
    else
      let held (ch : Chan) : Bool := (p.findOut n).all (·.need ch)
      { v with expire := some ((p.joinedChans.filter held).all (fun ch => (match ch with
      | .a => v.waitingA
      | .b => v.waitingB) == some true)) }
  { p with waits := p.waits.map vote }

/-- R87: WAIT_VERDICT. -/
def execWaitVerdict (intakeNo : Nat) (s : State) : Out := .next (s.updPort (fun p => p.waitVerdict intakeNo))

/-- A channel acts on a verdict. -/
def Channel.applyVerdict (c : Channel) (n : Nat) (expire : Bool) : Channel :=
  match c.sched.items.find? (fun x => x.pkt.intakeNo == n && x.expiryPending) with
  | none => c
  | some x =>
    if expire then c.timeOut x
    else
      let c := c.setItem { x with expiryPending := false, noLimit := true }
      match x.phase with
      | .draining => c.usersDrained x.id
      | _ => c.tryStart x.id true

/-- A verdict takes effect at the boundary opening tide E + 2. -/
def State.applyWait (s : State) (n : Nat) : State :=
  match s.port.waits.find? (fun v => v.intakeNo == n) with
  | none => s
  | some v => match v.expire with
    | none => s
    | some x =>
      if s.port.tide < v.e + 2 then s
      else
        let s := s.updPort (fun p => { p with waits := p.waits.filter (fun v => v.intakeNo != n) })
        (s.upd .a (fun c => c.applyVerdict n x)).upd .b (fun c => c.applyVerdict n x)

/-- R87: WAIT_VERDICT_APPLY. -/
def execWaitVerdictApply (intakeNo : Nat) (s : State) : Out := .next (s.finish (s.applyWait intakeNo))

/-! ### Key cache fills (R110, R111, R265) -/

/-- The function whose item waits for a fill. -/
def Channel.fillFn (c : Channel) (slot : Nat) (gen : BitVec 16) : BitVec 8 :=
  match c.sched.items.find? (fun x => x.fills.contains (slot, gen)) with
  | some x => x.pkt.hdr.function
  | none => 0#8

/-- A fill of a slot that items wait for takes a free fill port, or waits for a way of a fully pinned set (R265). -/
def Channel.fillStart (c : Channel) (slot : Nat) : Channel :=
  let k := c.keys
  let now := c.now
  match k.fills.find? (fun f => f.slot == slot && f.waitsForWay) with
  | some f =>
    if !c.setOpen slot f.generation || 2 ≤ k.filling then c
    else { c with keys := { k with
      misses := satBv k.misses 1, fills := k.fills.map (fun y => if y == f then { f with startedAt := now, waitsForWay := false } else y) } }
  | none =>
    let wanted := (c.sched.items.flatMap (·.fills)).find? (fun w =>
      w.1 == slot && !k.fills.any (fun f => f.slot == slot && f.generation == w.2))
    match wanted with
    | none => c
    | some (_, g) =>
      if 2 ≤ k.filling then c
      else
        let blocked := !c.setOpen slot g
        let f : FillJob := { slot := slot, generation := g, function := c.fillFn slot g, startedAt := now, waitsForWay := blocked }
        { c with keys := { k with misses := satBv k.misses (if blocked then 0 else 1), fills := k.fills ++ [f] } }

/-- R265: KEY_CACHE_FILL_START. -/
def execKeyCacheFillStart (ch : Chan) (slot : BitVec 28) (s : State) : Out :=
  .next (s.upd ch (fun c => c.fillStart slot.toNat))

/-- An item whose fills have all ended goes on: a skim command whose other waits have ended too joins its lane pair's queue, or
completes; a firmware-path command goes on in its service. -/
def Channel.filled (c : Channel) (x : Item) : Channel :=
  let c := c.setItem x
  match x.phase with
  | .filling => c.laneJoin x
  | _ => c

/-- A fill ends: the key is placed in the cache, or the slot is empty or corrupt (R256). One that finds a set of its records
fully pinned waits (R265). -/
def Channel.fillDone (c : Channel) (ch : Chan) (slot : Nat) : Channel :=
  match c.keys.fills.find? (fun f => f.slot == slot && !f.waitsForWay && decide (f.startedAt + 1500 ≤ c.now)) with
  | none => c
  | some f =>
    let out := c.keys.load slot f.generation
    let full := match out with | .loaded .. => !c.setOpen slot f.generation | _ => false
    if full then c else
    let c := { c with keys := { c.keys with fills := c.keys.fills.filter (fun y => !(y == f)) } }
    let waits := c.sched.items.filter (fun x => x.fills.contains (slot, f.generation))
    let c := match out with
      | .loaded h t m chk => c.placeKey slot f.generation f.function h t m chk
      | other =>
        let c := c.noteFill ch slot other
        match other with
        | .corrupt => if waits.any (·.skim) then c.mapSkim (fun r => { r with faultCorrupt := satBv r.faultCorrupt 1 }) else c
        | _ => c
    waits.foldl (fun c x => match c.item? x.id with
      | some y =>
        let y := { y with fills := y.fills.filter (· != (slot, f.generation)) }
        if y.fills.isEmpty then c.filled y else c.setItem y
      | none => c) c

/-- R256: KEY_CACHE_FILL_DONE. -/
def execKeyCacheFillDone (ch : Chan) (slot : BitVec 28) (s : State) : Out :=
  .next (s.finish (s.upd ch (fun c => c.fillDone ch slot.toNat)))

/-! ### Exhaustion (R188) -/

/-- The port die fixes the target X of a generation on its first report and sends it to both channels. -/
def State.exhaustReport (s : State) (ch : Chan) (slot : Nat) : State :=
  match (s.chan ch).keys.reported.find? (fun r => r.1 == slot) with
  | none => s
  | some (_, g) =>
    let s := s.upd ch (fun c => { c with
      keys := { c.keys with reported := c.keys.reported.filter (fun r => !(r.1 == slot && r.2 == g)) } })
    if s.port.exhaust.any (fun t => t.slot == slot && t.generation == g) then s
    else
      let x := s.port.tide + 2
      let send (c : Channel) : Channel := { c with keys := { c.keys with exhaustAt := c.keys.exhaustAt ++ [(slot, g, x)] } }
      let s := s.updPort (fun p => { p with exhaust := p.exhaust ++ [{ slot := slot, generation := g, x := x }] })
      (s.upd .a send).upd .b send

/-- R188: EXHAUSTION_REPORT. -/
def execExhaustionReport (ch : Chan) (slot : BitVec 28) (s : State) : Out :=
  .next (s.exhaustReport ch slot.toNat)

/-- At the boundary opening tide X a channel marks the generation, once, and journals the mark. -/
def Channel.exhaustMark (c : Channel) (intakeNo slot : Nat) : Channel :=
  match c.keys.exhaustAt.find? (fun t => t.1 == slot && decide (t.2.2 ≤ c.tide)
      && (match c.keys.load slot t.2.1 with | .loaded _ y _ _ => !y.exhausted | _ => false)) with
  | none => c
  | some (_, g, x) =>
    let k := c.keys.rewrite slot g id (fun t => { t with exhausted := true, exhaustedFrom := x })
    ({ c with keys := k } : Channel).journalWrite intakeNo slot (.exhaustion slot g x)

/-- R188: EXHAUSTION_MARK. -/
def execExhaustionMark (ch : Chan) (slot : BitVec 28) (s : State) : Out :=
  .next (s.upd ch (fun c => c.exhaustMark s.port.lastIntake slot.toNat))

end Sys2Proof.Machine
end

