-- ==== Sys2Proof/Machine/RngEvents.lean ====
section
/-! DEFINITION. The commands of the random bit generator's own events (R285 to R305): start-up, failure, reseeds, the
cores' ports and the renewal of twin epochs. -/

namespace Sys2Proof.Machine

/-- The channel with its generator changed. -/
def Channel.mapRng (c : Channel) (f : Rng → Rng) : Channel := { c with rng := f c.rng }

/-- The bytes of the pool unit that is drawn next, and the pool without it (R285). -/
def Rng.unitBytes (g : Rng) : Bytes := (g.pool.take 16).flatMap (fun w => beBytes 8 w.toNat)
def Rng.useUnit (g : Rng) : Rng := { g with pool := g.pool.drop 16 }

/-! ### Noise (R284 to R286) -/

/-- A sample enters a source's tests, in disjoint windows of 1,024. -/
def NoiseTest.see (t : NoiseTest) (b : Bool) : NoiseTest :=
  let run := if t.run != 0 && b == t.last then t.run + 1 else 1
  let fresh := t.seen == 0 || decide (1024 ≤ t.seen)
  { last := b, run := run, first := if fresh then b else t.first, seen := if fresh then 1 else t.seen + 1,
    count := if fresh then 1 else if b == t.first then t.count + 1 else t.count }

/-- The cause of a failed test: 1 repetition count, 2 adaptive proportion. -/
def NoiseTest.cause (t : NoiseTest) : Nat := if 161 ≤ t.run then 1 else if 980 ≤ t.count then 2 else 0

/-- A sample of each source, bit i of `v` source i's: the tests run, and the first that fails is held. -/
def Rng.sample (g : Rng) (v : Byte) : Rng :=
  let tests := g.tests.mapIdx (fun i t => t.see (v.getLsbD i))
  let bad := tests.findIdx? (fun t => t.cause != 0)
  { g with
    tests := tests
    repMax := BitVec.ofNat 16 ((tests.map (·.run)).foldl max g.repMax.toNat)
    aptMax := BitVec.ofNat 16 ((tests.map (·.count)).foldl max g.aptMax.toNat)
    failing := g.failing.or (bad.map (fun i => (BitVec.ofNat 3 ((tests[i]?).elim 0 NoiseTest.cause), BitVec.ofNat 3 i))) }

/-- The conditioner takes a raw bit, XORed into the feedback of x^64 + x^4 + x^3 + x + 1 (taps as numbered; DEDUCED, log
229). -/
def lfsrStep (x : DWord) (raw : Bool) : DWord :=
  (x <<< 1) ||| BitVec.ofNat 64 (((x.getLsbD 63 ^^ x.getLsbD 3) ^^ (x.getLsbD 2 ^^ x.getLsbD 0)) ^^ raw).toNat

/-- A word is read out of the conditioner: it is compared with the one before, and joins a pool that takes words. -/
def Rng.readOut (g : Rng) : Rng :=
  let takes := (g.state == .seeding || g.state == .ready) && decide (g.pool.length < 32)
  { g with rawBits := 0, lastWord := some g.lfsr, pool := if takes then g.pool ++ [g.lfsr] else g.pool
           failing := g.failing.or (if g.lastWord == some g.lfsr then some (3#3, 0#3) else none) }

/-- A raw bit enters the conditioner; every 256 give a word. -/
def Rng.rawBit (g : Rng) (raw : Bool) : Rng :=
  let g := { g with lfsr := lfsrStep g.lfsr raw, rawBits := g.rawBits + 1 }
  if g.rawBits == 256 then g.readOut else g

/-- Eight samples of each source: they are tested, folded by XOR, and the eight raw bits enter from source 0 to source 7. -/
def Rng.fold (g : Rng) (l : Bytes) : Rng :=
  let g := l.foldl Rng.sample g
  let raw := l.foldl (· ^^^ ·) 0#8
  (List.range 8).foldl (fun g i => g.rawBit (raw.getLsbD i)) g

/-- The samples of a tide reach a running generator: 128 of each source. -/
def Rng.hear (g : Rng) (noise : Bytes) : Rng :=
  if g.state == .off || g.state == .failed then g else (chunks 8 (fitR 128 noise)).foldl Rng.fold g

/-! ### Failure (R303) -/

/-- The item's draws are not whole when the generator fails: it has no material, and where its completion is built it
becomes RNG_FAILED in its place (R303). -/
def Channel.drawsEnd (c : Channel) (x : Item) : Channel :=
  let y := { x with drawn := [], rngFailed := true }
  let c := c.setItem y
  let r := y.record (.fail .rngFailed)
  let c := c.onSched (fun d => { d with produced := d.produced.map (fun q => if q.item == some x.id then { q with record := r } else q) })
  match c.pks.engines.findIdx? (fun e => e.job.any (·.item == x.id)) with
  | none => c
  | some n =>
    let c := { c with pks := c.pks.mapEngine n (fun e => { e with job := none }) }
    (c.noteResult y (.fail .rngFailed)).produce y (12 + n) (c.now + 18) (.fail .rngFailed)

/-- The generator fails: everything it holds is cleared, requests end, and a fault report goes to the port die. The test
that failed has seen its cut-off (R286, R306). -/
def Channel.rngFail (c : Channel) (ch : Chan) (cause source : BitVec 3) : Channel :=
  let g := c.rng
  if g.state == .failed || g.state == .off then c
  else
    let ended (q : RngPort) : RngPort :=
      if q.data.isEmpty && q.waiting.isNone then q else { q with data := [], waiting := none, failed := true }
    let c := c.mapRng (fun g => { g with
      state := .failed, cause := cause, source := source, atStartup := g.state == .startTest, pool := [], drbgKey := [],
      drbgV := [], epochs := [], seed0 := none, renewal := none, failing := none, ports := g.ports.map (fun p => (p.1, ended p.2))
      repMax := if cause == 1#3 && g.repMax.toNat < 161 then 161#16 else g.repMax
      aptMax := if cause == 2#3 && g.aptMax.toNat < 980 then 980#16 else g.aptMax })
    let c : Channel := { (c.clearHealth 2) with faults := c.faults ++ [.generator] }
    let c := c.event ch 0x80 cause.toNat
    let c := (c.sched.items.filter (fun x => decide (c.now < x.drawnAt))).foldl (fun c x => c.drawsEnd x) c
    (c.sched.items.filter (fun x => x.op == .reseed && x.halved && x.phase == .epochWait)).foldl
      (fun c x => (c.noteResult x (.fail .rngFailed)).schedPort x (.fail .rngFailed)) c

/-! ### Start-up and reseeds (R288, R289) -/

/-- The start test ends; which test of which source failed is a free value. -/
def State.rngTestEnd (s : State) (ch : Chan) (pass : Bool) : State :=
  if (s.chan ch).rng.state != .startTest then s
  else if pass then s.upd ch (·.mapRng (fun g => { g with state := .seeding }))
  else
    let n := Config.freeNat s.free
    (s.upd ch (fun c => c.rngFail ch (BitVec.ofNat 3 (1 + n % 3)) (BitVec.ofNat 3 (n / 3)))).drawn

/-- R288: RNG_START_TEST_END. -/
def execRngStartTestEnd (ch : Chan) (pass : Bool) (s : State) : Out := .next (s.finish (s.rngTestEnd ch pass))

/-- The pool unit a seeding draws (R285). The model hears samples tide by tide; of a channel whose tide does not run, the
unit conditioned by now is the command's operand (DESIGN CHOICE, log 230). -/
def Channel.unitOf (c : Channel) (noise : Bytes) : Option Bytes :=
  if c.rng.unit then some c.rng.unitBytes else if c.aligned then none else some (fitR 128 noise)

/-- The first pool unit instantiates the CTR_DRBG. -/
def Channel.rngSeed (c : Channel) (ch : Chan) (noise : Bytes) : Channel :=
  match c.unitOf noise with
  | none => c
  | some u =>
    if c.rng.state != .seeding then c
    else c.mapRng (fun g => { ((g.instantiate ch c.tide c.fuses.identity u).useUnit) with state := .ready })

/-- R288: RNG_SEED_READY. -/
def execRngSeedReady (ch : Chan) (noise : Bytes) (s : State) : Out := .next (s.upd ch (fun c => c.rngSeed ch noise))

/-- R303: RNG_HEALTH_FAIL, within a tide whose samples the model does not hear one by one. The source of the failed test is
a free value; a cause that is no test of R286 fails nothing. -/
def execRngHealthFail (ch : Chan) (cause : BitVec 3) (s : State) : Out :=
  .next (s.finish (if cause == 0#3 || 3 < cause.toNat then s
    else (s.upd ch (fun c => c.rngFail ch cause (BitVec.ofNat 3 (Config.freeNat s.free)))).drawn))

/-- A test that failed on the samples of the tide fails the generator (R287, R303). -/
def Channel.heardFailure (c : Channel) (ch : Chan) : Channel :=
  match c.rng.failing with
  | some (cause, source) => c.rngFail ch cause source
  | none => c

/-- 65,536 requests, or 50,000 tides since the last seed, make a reseed due. -/
def Channel.drbgDue (c : Channel) : Channel :=
  let g := c.rng
  if g.state == .ready && (decide (65536 ≤ g.drbgRequests) || decide (g.drbgSeedTide + 50000 ≤ c.tide)) then
    c.mapRng (fun g => { g with reseedDue := true })
  else c

/-- R289: DRBG_RESEED_DUE. -/
def execDrbgReseedDue (ch : Chan) (s : State) : Out := .next (s.upd ch (·.drbgDue))

/-- A reseed that is due takes a pool unit; after L3 the DRBG is instantiated anew (R305). It answers the halved RESEEDs
that wait (R301). -/
def Channel.drbgReseed (c : Channel) (ch : Chan) (noise : Bytes) : Channel :=
  match c.unitOf noise with
  | none => c
  | some u =>
    if c.rng.state != .ready || !c.rng.reseedDue then c
    else
      let c := c.mapRng (fun g =>
        let g' := if g.drbgKey.isEmpty then g.instantiate ch c.tide c.fuses.identity u else g.reseed c.tide u
        g'.useUnit)
      (c.sched.items.filter (fun x => x.op == .reseed && x.halved && x.phase == .epochWait)).foldl
        (fun c x => c.schedPort x (reseedResult none)) c

/-- R289: DRBG_RESEED_DONE. -/
def execDrbgReseedDone (ch : Chan) (noise : Bytes) (s : State) : Out :=
  .next (s.finish (s.upd ch (fun c => c.drbgReseed ch noise)))

/-! ### The cores' ports (R299) -/

/-- Port of core `k`. -/
def Rng.port (g : Rng) (k : Nat) : RngPort := SMap.get RngPort.reset g.ports k

/-- The generator with the port of core `k` replaced. -/
def Rng.setPort (g : Rng) (k : Nat) (q : RngPort) : Rng := { g with ports := SMap.set RngPort.reset g.ports k q }

/-- What RNG_PORT_STAT reads (R299): READY, FAILED, and the bytes of the request not yet read. -/
def RngPort.stat (q : RngPort) : Word :=
  let left := match q.waiting with
    | some v => v.toNat / 256 % 8192
    | none => q.data.length
  Machine.word [(0, (q.waiting.isNone && !q.data.isEmpty).toNat), (1, q.failed.toNat), (2, left)]

/-- A request of a core's port, for the item in its mailbox. A LENGTH outside 1 to 4,096 is answered with `other`, which
the spec does not state. -/
def Channel.portServe (c : Channel) (k : Nat) (v : Word) (other : Bytes) : Channel :=
  let len := v.toNat / 256 % 8192
  let index := v.toNat % 256
  let g := c.rng
  let put (g : Rng) (q : RngPort) : Channel := { c with rng := g.setPort k q }
  let got (b : Bytes) : RngPort := { RngPort.reset with word := (g.port k).word, data := b }
  let wait : RngPort := { RngPort.reset with word := (g.port k).word, waiting := some v }
  let failed : RngPort := { RngPort.reset with failed := true }
  if g.state != .ready then put g failed
  else if len == 0 || 4096 < len then put g (got other)
  else if v.getLsbD 21 then
    if g.reseedDue then put g wait else let (b, g') := g.generate [] len; put g' (got b)
  else match (c.sched.cores[k]?.bind (·.item)).bind c.item? with
    | none => c
    | some x => match g.draw x.pkt.hdr x.admitTide index len with
      | (.got b, g') => put g' (got b)
      | (.wait, g') => put g' wait
      | (.failed, g') => put g' failed

/-- R299: RNG_PORT_REQ. -/
def execRngPortReq (ch : Chan) (core : BitVec 6) (value : Word) (s : State) : Out :=
  .next ((s.upd ch (fun c => c.portServe core.toNat value (Config.freeBytes s.free))).drawn)

/-- A read of a port's data: the next 8 bytes, big-endian; a request that waits is tried again, and stalls while it
waits; after a failure the word is 0. -/
def Channel.portRead (c : Channel) (k : Nat) (other : Bytes) : Channel :=
  let c := match (c.rng.port k).waiting with
    | some v => c.portServe k v other
    | none => c
  let q := c.rng.port k
  if q.waiting.isSome then c
  else { c with rng := c.rng.setPort k { q with data := q.data.drop 8, word := BitVec.ofNat 64 (beNat (fitR 8 (q.data.take 8))) } }

/-- R299: RNG_PORT_DATA. -/
def execRngPortData (ch : Chan) (core : BitVec 6) (s : State) : Out :=
  .next ((s.upd ch (fun c => c.portRead core.toNat (Config.freeBytes s.free))).drawn)

/-! ### Renewal (R295, R296) -/

/-- A channel that takes part in forming an epoch: a joined one, or before the first join one past step 8 (R437). -/
def State.forms (s : State) (ch : Chan) : Bool :=
  s.port.joined ch
  || (s.port.joinedChans.isEmpty && ((s.chan ch).start.step == .sluice || (s.chan ch).start.step == .join))

/-- 500,000 tides after an epoch took effect a renewal is triggered. -/
def Channel.renewalDue (c : Channel) : Channel :=
  if c.rng.epochTide == 0 || c.tide < c.rng.epochTide + 500000 then c else c.mapRng (·.trigger)

/-- R295: EPOCH_RENEWAL_TRIGGER. -/
def execEpochRenewalTrigger (s : State) : Out :=
  .next (s.port.joinedChans.foldl (fun s ch => s.upd ch (·.renewalDue)) s)

/-- Step 2's conditions for a contribution, but for the pool unit. -/
def Channel.mayContribute (c : Channel) : Bool :=
  let g := c.rng
  g.state == .ready && g.epochRoom c.tide && g.renewal.any (fun r => r.own.isNone && r.formed.isNone)

/-- The channel takes a pool unit and sends it to its peer. -/
def Channel.contribute (c : Channel) (noise : Bytes) : Channel :=
  match c.unitOf noise with
  | none => c
  | some u =>
    if !c.mayContribute then c
    else c.mapRng (fun g => { g.useUnit with
      renewal := g.renewal.map (fun r => { r with own := some u, askedAt := c.tide }) })

/-- R295: ENTROPY_CONTRIBUTION. -/
def execEntropyContribution (ch : Chan) (noise : Bytes) (s : State) : Out :=
  .next (if s.forms ch then s.upd ch (·.contribute noise) else s)

/-- The number of the next epoch (R291): 0 until one has taken effect, at a tide that is never 0. -/
def Rng.nextEpoch (g : Rng) : Nat := if g.epochTide == 0 then 0 else g.current + 1

/-- ES of the next epoch from two contributions (R291). -/
def Channel.epochSeed (c : Channel) (ch : Chan) (own peer : Bytes) : Bytes :=
  let both := match ch with
    | .a => own ++ peer
    | .b => peer ++ own
  sha512 (both ++ beBytes 8 c.rng.nextEpoch ++ c.fuses.identity)

/-- The channel forms the next epoch from its contribution and its peer's; one whose peer is gone forms anew while no
target is fixed (R296, R305). -/
def Channel.formWith (c : Channel) (ch : Chan) (peer : Bytes) (anew : Bool) : Channel :=
  match c.rng.renewal with
  | none => c
  | some r => match r.own with
    | none => c
    | some own =>
      if r.formed.isSome && (!anew || r.target.isSome) then c
      else c.mapRng (fun g => { g with renewal := some { r with peer := some peer, formed := some (c.epochSeed ch own peer) } })

/-- The peer's contribution arrives over the sluice link, and with both in hand the channel forms the epoch. -/
def State.contribution (s : State) (ch : Chan) : State :=
  let peer := (s.chan ch.peer).rng.renewal.bind (·.own)
  if !s.forms ch || !s.forms ch.peer || !s.sluiceUp then s
  else match peer with
    | some b => (s.sluiceMsg ch.peer (.contribution b)).upd ch (fun c => c.formWith ch b false)
    | none => s

/-- R295: CONTRIBUTION_RECEIVED. -/
def execContributionReceived (ch : Chan) (s : State) : Out := .next (s.contribution ch)

/-- The peer is retired or refills, or 64 tides have passed since it was asked and it has not started (R296). -/
def State.peerSilent (s : State) (ch : Chan) : Bool :=
  match s.port.assay.st ch.peer with
  | .off | .starting => (s.chan ch).rng.renewal.any (fun r => decide (r.askedAt + 64 ≤ (s.chan ch).tide))
  | .refilling | .ready | .joined | .retired | .draining => true

/-- A channel forms the epoch alone, with zeros for its peer's contribution: it is the one joined channel and its peer is
silent, or before the first join it has left step 9 undone and its peer comes to no contribution (R291, R296, R437). -/
def State.formAlone (s : State) (ch : Chan) : State :=
  let c := s.chan ch
  let alone := c.start.step == .join && (s.chan ch.peer).start.step != .join
  let peerFailed := (s.chan ch.peer).rng.state == .failed
  if !s.forms ch || (s.port.joined ch.peer && !peerFailed) then s
  else if (s.port.joined ch && (peerFailed || s.peerSilent ch)) || alone then s.setChan ch (c.formWith ch (zeros 128) true)
  else s

/-- R296: EPOCH_FORM_ALONE. -/
def execEpochFormAlone (ch : Chan) (s : State) : Out := .next (s.formAlone ch)

/-- The check of a seed (R295). -/
def epochCheck (seed : Bytes) : Bytes := (sha256 (ascii "LX96-EPOCH" ++ seed)).take 16

/-- A renewal starts again from step 2. -/
def Rng.repeatRenewal (g : Rng) : Rng := if g.renewal.isSome then { g with renewal := some Renewal.fresh } else g

/-- Channels whose checks the port die awaits: the joined ones whose generators stand, or those that come to the first join
together (R305). -/
def State.checking (s : State) : List Chan :=
  if s.port.joinedChans.isEmpty then chans.filter (fun ch => (s.chan ch).start.step == .join)
  else s.port.joinedChans.filter (fun ch => (s.chan ch).rng.state != .failed)

/-- The seed a channel has formed. -/
def Channel.formed (c : Channel) : Option Bytes := c.rng.renewal.bind (·.formed)

/-- The port die holds equal checks: it fixes the target (R295 step 4), which carries the P_f then known (R297, R305), and
before the first join J0 (R437). -/
def State.fixEpoch (s : State) : State :=
  let t := s.port.tide + 2
  let first := s.port.joinedChans.isEmpty
  let fix (c : Channel) : Channel := c.mapRng (fun g =>
    { g with renewal := g.renewal.map (fun r => { r with target := some t, person := g.personNext }) })
  let s := s.checking.foldl (fun s ch => s.upd ch fix) s
  s.updPort (fun p => { p with epoch := { p.epoch with target := some t, mismatches := 0 },
                               j0 := if first then some t else p.j0 })

/-- Differing checks: the renewal is repeated, and after a second time it stays pending and is tried again 64 tides later. -/
def State.epochMismatch (s : State) : State :=
  let e := s.port.epoch
  let again (s : State) : State := s.checking.foldl (fun s ch => s.upd ch (·.mapRng Rng.repeatRenewal)) s
  let cleared : EpochVote := { e with checkA := none, checkB := none }
  if e.mismatches == 0 then again (s.updPort (fun p => { p with epoch := { cleared with mismatches := 1 } }))
  else
    let number := (s.chan .a).rng.nextEpoch
    let t := s.port.tide + 64
    let s := s.checking.foldl (fun s ch => s.upd ch (·.mapRng (fun g => { g.repeatRenewal with retryAt := some t }))) s
    s.updPort (fun p =>
      ({ p with epoch := { cleared with mismatches := 0, retryAt := some (p.tide + 64) } } : PortDie).record 0x018
        (number % 2 ^ 32))

/-- The port die receives the checks of the channels that have formed the next epoch, and decides when it holds one from
every channel it awaits. -/
def State.epochChecks (s : State) : State :=
  let e := s.port.epoch
  let now := s.checking
  let read (ch : Chan) (old : Option Bytes) : Option Bytes :=
    if now.contains ch then ((s.chan ch).formed.map epochCheck) else old
  let e := { e with checkA := read .a e.checkA, checkB := read .b e.checkB }
  if e.target.isSome || now.isEmpty then s
  else
    let s := s.updPort (fun p => { p with epoch := e })
    let l := now.map (fun ch => match ch with | .a => e.checkA | .b => e.checkB)
    if !l.all (·.isSome) then s
    else if l.all (fun x => x == l.headD none) then s.fixEpoch
    else s.epochMismatch

/-- R295: EPOCH_CHECK_RECEIVED. -/
def execEpochCheckReceived (s : State) : Out := .next (s.finish s.epochChecks)

/-- VR of a channel from an epoch's seed (R261). -/
def Channel.volRoot (c : Channel) (seed : Bytes) : Bytes := hmacSha256 (c.derive c.keys.rung "VOL-ROOT") seed

/-- A channel whose storage root can be formed and that holds no VR derives it from the epoch that takes effect: epoch 0 at
the first join, or the first after a response of L3, which it journals (R261, R367). -/
def Channel.giveVr (c : Channel) (intake number : Nat) (seed : Bytes) : Channel :=
  if c.keys.vr.isSome || !c.island.passes then c
  else
    let v := c.volRoot seed
    let c : Channel := { c with keys := { c.keys with vr := some v } }
    if number == 0 then c else c.journalWrite intake 0 (.volatileRoot v)

/-- The epoch a channel has formed takes effect in its tide, and answers the twin RESEEDs that wait (R295, R301). -/
def Channel.epochEffect (c : Channel) (intake : Nat) : Channel :=
  match c.rng.renewal with
  | none => c
  | some r => match r.formed, r.target with
    | some seed, some t =>
      if c.tide < t then c
      else
        let n := c.rng.nextEpoch
        let c := c.mapRng (fun g => { g with
          epochs := g.epochs ++ [{ number := n, seed := seed, since := t, person := r.person }]
          seed0 := if n == 0 then some seed else g.seed0, current := n, epochTide := t,
          uses := 0, renewal := none, person := r.person, epochCount := satBv g.epochCount 1 })
        let c := (c.giveVr intake n seed).releaseEpochs
        (c.sched.items.filter (fun x => x.op == .reseed && !x.halved && x.phase == .epochWait)).foldl
          (fun c x => match c.rng.effectAfter x.admitTide with
            | some e => c.schedPort x (reseedResult (some e))
            | none => c) c
    | _, _ => c

/-- The port die's record of an agreement ends when no channel it holds has it to apply. -/
def State.epochClear (s : State) : State :=
  let open' (ch : Chan) : Bool := (s.chan ch).rng.renewal.any (fun r => r.target.isSome)
  if s.port.epoch.target.isNone || chans.any open' then s
  else s.updPort (fun p => { p with epoch := { p.epoch with checkA := none, checkB := none, target := none } })

/-- R295: EPOCH_EFFECT. -/
def execEpochEffect (ch : Chan) (s : State) : Out :=
  .next (s.finish (if s.port.joined ch then (s.upd ch (·.epochEffect s.port.lastIntake)).epochClear else s))

/-- 64 tides after a second mismatch the renewal is tried again. -/
def State.epochRetry (s : State) : State :=
  match s.port.epoch.retryAt with
  | none => s
  | some t =>
    if s.port.tide < t then s
    else
      let s := s.updPort (fun p => { p with epoch := { p.epoch with retryAt := none } })
      (if s.port.joinedChans.isEmpty then s.checking else s.port.joinedChans).foldl
        (fun s ch => s.upd ch (·.mapRng (fun g => ({ g with retryAt := none } : Rng).trigger))) s

/-- R295: EPOCH_RETRY_TIMER. -/
def execEpochRetryTimer (s : State) : Out := .next s.epochRetry

end Sys2Proof.Machine
end

