-- ==== Sys2Proof/Machine/Changes.lean ====
section
/-! DEFINITION. Management changes as they take effect in a channel and on the port die (R155, R170 to R173, R248, R262,
R297, R343, R359, R382, R398 to R405, R409 to R413, R435), and the store image of R281. -/

namespace Sys2Proof.Machine

/-! ### Records (R398, R400, R435) -/

/-- A key listed with a value, or no longer listed. -/
def SMap.put {α : Type} (m : SMap α) (k : Nat) (v : Option α) : SMap α :=
  match v with
  | none => SMap.erase m k
  | some v => SMap.insert (SMap.erase m k) k v

/-- The management records changed, in service and in flash (R435). -/
def Channel.mapRecords (c : Channel) (f : Records → Records) : Channel :=
  let r := f c.records
  { c with records := r, flash := { c.flash with records := r } }

/-- The flash configuration area changed. -/
def Channel.mapFlash (c : Channel) (f : Flash → Flash) : Channel := { c with flash := f c.flash }

/-- A function's custodians, replaced. -/
def Records.setCustodians (r : Records) (fn : Nat) (l : List (Nat × Officer)) : Records :=
  let kept := r.custodians.filter (fun p => p.1 / 16 != fn)
  { r with custodians := l.foldl (fun m o => SMap.insert m (16 * fn + o.1) o.2) kept }

/-- Alarm bits of sources no longer detecting are cleared (R382). -/
def Channel.clearAlarm (c : Channel) (mask : BitVec 23) : Channel :=
  let keep := ~~~ (mask &&& ~~~ c.tamper.detecting)
  { c with island := { c.island with alarm := c.island.alarm &&& keep, drivers := c.island.drivers &&& keep } }

/-! ### The persistent regions and the image (R281, R405) -/

/-- The regions of a channel as they stand. -/
def Keys.regions (k : Keys) : Regions :=
  { slots := k.slots, dukpt := k.dukpt, basins := k.basins, entries := k.entries, index := k.index, sessions := k.sessions }

/-- A list of pairs as a map over a default. -/
def SMap.ofList {α : Type} [DecidableEq α] (d : α) (l : List (Nat × α)) : SMap α :=
  l.foldl (fun m p => SMap.set d m p.1 p.2) []

/-- The key store with the regions replaced. -/
def Keys.setRegions (k : Keys) (r : Regions) : Keys :=
  { k with slots := SMap.ofList (zeros 128) r.slots, dukpt := SMap.ofList DukptRec.unbound r.dukpt,
           basins := r.basins.foldl (fun m p => SMap.insert m p.1 p.2) [], entries := SMap.ofList 0 r.entries,
           index := SMap.ofList 0 r.index, sessions := r.sessions }

/-- The use ledger's counts written into the headers of the slots their functions own (R281). -/
def Keys.ledgerBack (k : Keys) : Keys :=
  (k.ledger.filter (·.live)).foldl (fun k e =>
    let h := k.header e.slot
    if h.owner.toNat != e.function then k
    else k.rewrite e.slot h.generation (fun h => { h with limited := true, useCount := BitVec.ofNat 32 e.left }) id) k

/-- Regions with every volatile record empty, extension records included, and the use ledger written back (R281). -/
def Keys.imageRegions (k : Keys) : Regions :=
  let k := k.ledgerBack
  let ended := (k.slots.filter (fun p => !isExtSlot p.1 && (KeyHeader.ofBytes p.2).isVolatile
    && (KeyHeader.ofBytes p.2).state == 1#2)).flatMap (fun p => keySlotsOf p.1 (KeyHeader.ofBytes p.2))
  let empty (p : Nat × Bytes) : Nat × Bytes :=
    if ended.contains p.1 then (p.1, emptyRecord k.sealKeys p.1 (KeyHeader.ofBytes p.2).generation) else p
  { k.regions with slots := k.slots.map empty }

/-- The sealed store image of a channel, under KD(t, "IMAGE-SEAL"). -/
def Channel.storeImage (c : Channel) : Bytes := Config.imageSeal (c.derive c.keys.rung "IMAGE-SEAL") c.keys.imageRegions

/-- Every record of an image opens as R256 demands (R405). -/
def Keys.imageWhole (k : Keys) (r : Regions) : Bool :=
  r.slots.all (fun p => isExtSlot p.1 || (match (k.setRegions r).target p.1 with
    | .corrupt => false
    | .empty | .held _ => true))

/-- What an image opens to in a channel. -/
def Channel.openImage (c : Channel) (image : Bytes) : Option Regions :=
  Config.imageOpen (c.derive c.keys.rung "IMAGE-SEAL") image

/-! ### Keys installed by management (R402, R403, R161, R262) -/

/-- A key is installed with MGMT set, and the result of R161 formed. -/
def Channel.putMgmt (c : Channel) (n fn slot : Nat) (a : Attr) (cls : BitVec 2) (alg : Nat) (key : Bytes) :
    Channel × Nat × Bytes :=
  let c := c.install n slot { (a.header fn cls alg key.length) with mgmt := true }  key
  (c, 0, c.importResult slot)

/-- A management writer may write a slot of the function: empty, or held by it with REPLACE. -/
def Keys.mgmtTarget (k : Keys) (fn slot : Nat) (replace : Bool) : Bool :=
  match k.target slot with
  | .empty => true
  | .corrupt => false
  | .held h => h.owner.toNat == fn && replace

/-- REFUSED with the channel as it stands. -/
def Channel.refusedChange (c : Channel) : Channel × Nat × Bytes := (c, 8, [])

/-- The last component of a ceremony combines the key (R170, R403). -/
def Channel.combineCeremony (c : Channel) (n : Nat) (s : Session) (parts : List Bytes) : Channel × Nat × Bytes :=
  let len := (parts.headD []).length
  let x := (parts.foldl xorB (zeros len)).take len
  let key := if s.attr.getD 7 0#8 == 0x54#8 then oddParity x else x
  let fail : Channel × Nat × Bytes := (c.endSession n s.slot).refusedChange
  if !parts.all (fun p => p.length == len) || (componentCheck s.attr key).take s.kcv.length != s.kcv then fail
  else match kbAlg (s.attr.getD 7 0#8) key.length with
    | none => fail
    | some (cls, alg) =>
      if usageFits (ofPair16 (slice s.attr 5 2)) cls alg && c.keys.mgmtTarget s.function s.slot s.replace then
        c.putMgmt n s.function s.slot (Attr.ofHeader s.attr) cls alg key
      else fail

/-- A component of a ceremony whose signature has verified. -/
def Channel.addComponent (c : Channel) (n slot index officer : Nat) (kcv part : Bytes) : Channel × Nat × Bytes :=
  match c.keys.sessions.find? (fun s => s.slot == slot && s.ceremony) with
  | none => (c, 3, [])
  | some s =>
    if index != s.received.length then (c, 3, [])
    else if (componentCheck s.attr part).take kcv.length != kcv || (componentCheck s.attr part).isEmpty then
      (c.endSession n slot).refusedChange
    else
      let parts := s.received ++ [part]
      if parts.length < s.count then
        (c.holdSession n { s with received := parts, contributors := s.contributors ++ [officer] }, 0, zeros 40)
      else c.combineCeremony n s parts

/-- The KEYBLOCK_IMPORT whose key read and unwrap a management import runs: its payload in the layout of R161. -/
def mgmtImportItem (n tide fn kbpk target : Nat) (replace : Bool) (block : Bytes) : Item :=
  let h := Header.parse ([0#8, byte fn] ++ zeros 30)
  Item.new 0 .keyblockImport
    { hdr := { h with function := byte fn }, intakeTide := tide, intakeNo := n,
      payload := leBytes 4 kbpk ++ leBytes 4 target ++ [byte replace.toNat] ++ zeros 7 ++ block }

/-- MGMT_KEYBLOCK_IMPORT: KEYBLOCK_IMPORT with MGMT set, whose target may itself carry MGMT (R161, R394). -/
def Channel.importBlock (c : Channel) (n fn kbpk target : Nat) (replace : Bool) (block : Bytes) : Channel × Nat × Bytes :=
  let x := mgmtImportItem n c.tide fn kbpk target replace block
  match c.keyRead x false (keyReqs x.op x.p), parseKeyBlock block with
  | .ok ks, some b =>
    let k := keyAt ks 0
    if !c.keys.mgmtTarget fn target replace || !c.kbPolicy fn target b then c.refusedChange
    else match kbReceive k.alg k.material k.check (keyStrength k.hdr) b with
      | .error _ => c.refusedChange
      | .ok (cls, a, key) => c.putMgmt n fn target (Attr.ofHeader b.head) cls a key
  | _, _ => c.refusedChange

/-! ### A change in a channel -/

/-- What a change does in a channel: the channel, RESULT, and the response's data. `n` is the message's intake number. -/
def Channel.change (c : Channel) (n : Nat) (x : Change) : Channel × Nat × Bytes :=
  let ok (c : Channel) : Channel × Nat × Bytes := (c, 0, [])
  match x with
  | .officer id o => ok (c.mapRecords (fun r => { r with officers := SMap.put r.officers id o }))
  | .provision _ => ok c
  | .levels l => ok { (c.mapRecords (fun r => { r with levels := l })) with tamper := { c.tamper with levels := l } }
  | .clearAlarm m => ok (c.clearAlarm m)
  | .grant f i first count =>
    ok (c.mapRecords (fun r => { r with grants := SMap.put r.grants (16 * f + i) (if count == 0 then none else some (first, count)) }))
  | .policy f p => ok (c.mapRecords (fun r => { r with policies := SMap.put r.policies f (some p) }))
  | .dectab f i t => ok (c.mapRecords (fun r => { r with dectabs := SMap.put r.dectabs (16 * f + i) (some t) }))
  | .custodians f l => ok (c.mapRecords (fun r => r.setCustodians f l))
  | .openSession s => (c.holdSession n s, 0, s.nonce ++ leBytes 4 s.expiry)
  | .component slot i o kcv part => c.addComponent n slot i o kcv part
  | .abandon slot => ok (c.endSession n slot)
  | .keyBlock f k t r b => c.importBlock n f k t r b
  | .destroy slot =>
    let gen := (c.keys.header slot).generation
    (c.destroySlot n slot, 0, leBytes 4 slot ++ pair16 gen ++ zeros 2)
  | .budget f h b =>
    ok (c.mapFlash (fun z =>
      let old := SMap.get (Budget.reset, Budget.reset) z.budgets f
      { z with budgets := SMap.insert z.budgets f (if h then (old.1, b) else (b, old.2)) }))
  | .basin i b =>
    let next := ((SMap.find? c.keys.basins i).map (·.next)).getD 0
    let c := c.mapFlash (fun z => { z with basins := SMap.insert z.basins i b })
    ok { c with keys := { c.keys with basins := SMap.insert c.keys.basins i { b with next := next } } }
  | .basinClear i =>
    let k := c.keys
    ok { c with keys := { k with
      basins := k.basins.map (fun p => if p.1 == i then (i, { p.2 with next := 0 }) else p)
      entries := k.entries.filter (fun p => p.1 / basinEntries != i)
      index := k.index.filter (fun p => p.1 / basinIndex != i) } }
  | .unbind i => ok { c with keys := { c.keys with dukpt := SMap.erase c.keys.dukpt i } }
  | .personalise f p =>
    let c := c.mapFlash (fun z => { z with person := SMap.set (zeros 32) z.person f p })
    ok { c with rng := { c.rng with personNext := SMap.set (zeros 32) c.rng.personNext f p } }
  | .image r => ok { c with keys := { (c.keys.setRegions r) with cache := [], retained := [], fills := [] } }
  | .limits l => ok (c.mapFlash (fun z => { z with limits := l.foldl (fun m p => SMap.insert m p.1 p.2) z.limits }))
  | .freeze _ | .flush | .route .. => ok c

/-- Changes of management records and of the flash configuration area: a refill makes them again from their kind 20 deltas.
The others reach it by the deltas of their objects' own kinds (R323), or leave nothing in a channel. -/
def Change.isRecord : Change → Bool
  | .officer .. | .levels _ | .grant .. | .policy .. | .dectab .. | .custodians .. | .budget .. | .basin ..
  | .basinClear _ | .personalise .. | .image _ | .limits _ => true
  | _ => false

/-- A change takes effect in a channel, and is journaled as a kind 20 delta (R397), beside a delta of its object's own kind
(DEDUCED, log 203). One that is refused changes nothing and is not journaled. -/
def Channel.takeChange (c : Channel) (n : Nat) (x : Change) : Channel × Nat × Bytes :=
  let r := c.change n x
  let d := match x with
    | .unbind i => r.1.journalWrite n i (.dukpt i DukptRec.unbound)
    | _ => r.1
  (if r.2.1 == 0 then d.journalWrite n 0 (.management x) else d, r.2)

/-! ### First provisioning (R274, R278, R404, R439) -/

/-- K_REC's check value over a root copy's rung, sequence number and wrapped key (R278). -/
def rootCheck (sdk : Bytes) (rung seq : Nat) (wrapped : Bytes) : Bytes :=
  (aesCmac (kdfCtrCmac sdk (ascii "REC") 32) ([byte rung] ++ leBytes 4 seq ++ wrapped))

/-- A copy of the root record under rung `t` (R278). -/
def Channel.rootCopy (c : Channel) (sdk : Bytes) (t seq : Nat) : RootCopy :=
  let w := kwWrap (c.derive t "SDK-WRAP") sdk
  { rung := t, seq := seq, wrapped := w, check := rootCheck sdk t seq w }

/-- PROVISION in a channel with the brine key drawn: SDK, cleared slot arrays and officers. Its root records are written last
(R439). -/
def Channel.provision (c : Channel) (n : Nat) (bk : Bytes) (officers : List (Nat × Officer)) : Channel :=
  let i : Island := { c.island with brine := bk, check := Config.brineCheck bk, erased := false, retain := true }
  let c := { c with island := i }
  let seed := ((c.rng.epochs.find? (fun e => e.number == c.rng.current)).map (·.seed)).getD []
  let sdk := hmacSha256 (hmacSha256 c.keys.fuseRoot (ascii "LX96-SR" ++ bk)) (ascii "LX96-SDK" ++ seed)
  let r := { Records.blank with officers := officers.foldl (fun m o => SMap.insert m o.1 o.2) [] }
  let vr := c.rng.seed0
  let k := { c.keys with slots := [], retained := [], cache := [], fills := [], sessions := [], basins := [],
                         sdk := some sdk, rung := c.keys.svnRun }
  let c := { c with keys := k, records := r,
                    flash := { c.flash with records := r, budgets := [], basins := [], person := [], limits := [] },
                    rng := { c.rng with person := [], personNext := [] } }
  let k := c.keys
  ({ c with keys := { k with vr := (vr.map c.volRoot), rootCopies := [], firstRoot := true } } : Channel).journalWrite n 0
    (.management (.provision officers))

/-- A provisioned channel's root records are written, at the running version's rung, and class 14 is pending (R439). -/
def Channel.firstRootWritten (c : Channel) : Channel :=
  let k := c.keys
  match k.sdk with
  | some sdk =>
    { c with island := c.island.pend 14
             keys := { k with firstRoot := false, rootCopies := [c.rootCopy sdk k.svnRun 1, c.rootCopy sdk k.svnRun 2] } }
  | none => c

/-- PROVISION takes effect in both channels: channel A draws the brine key from its CTR_DRBG and shares it (R274). -/
def State.provision (s : State) (n : Nat) (officers : List (Nat × Officer)) : State :=
  let (bk, g) := s.a.rng.generate [] 32
  let s := s.upd .a (fun c => { c with rng := g })
  let s := ((s.sluiceMsg .a (.brineKey bk)).upd .a (fun c => c.provision n bk officers)).upd .b (fun c => c.provision n bk officers)
  s.updPort (fun p => { p with fns := p.fns.map (fun x => (x.1, { x.2 with twin := Budget.reset, halved := Budget.reset })) })

/-! ### A change on the port die -/

/-- What a change does on the port die (R344, R409 to R413). -/
def PortDie.change (p : PortDie) (x : Change) : PortDie :=
  match x with
  | .budget f h b =>
    let y := p.fn f
    p.setFn f (if h then { y with halved := b } else { y with twin := b })
  | .freeze true =>
    if p.recorder.frozenAt.isSome then p else { p with recorder := { p.recorder with frozenAt := some p.tide } }
  | .freeze false => { p with recorder := p.recorder.unfreeze }
  | .flush => { p with recorder := p.recorder.flush 5 }
  | .limits l => { p with recorder := l.foldl (fun r e => r.modify e.1 (fun y => { y with limit := some e.2 })) p.recorder }
  | .route b eid => { p with mgmt := { p.mgmt with route := b, routeEid := eid } }
  | _ => p

end Sys2Proof.Machine
end

