-- ==== Sys2Proof/Machine/KerralBody.lean ====
section
/-! DEFINITION. Kerral messages as bytes (R392 to R396, R400, R407, R408): the header, authorisation blocks, the layout of
each request's body, the change a body asks for, and recorder records as they are read. -/

namespace Sys2Proof

/-- The header of a request as it arrived (R392). -/
def Kerral.header (m : Kerral) (code : Nat) : Bytes :=
  [m.version, byte code] ++ leBytes 2 m.reqId.toNat ++ leBytes 2 m.bodyLen.toNat ++ [m.authCount, m.flags]
  ++ leBytes 4 m.nonceId.toNat ++ leBytes 4 m.reserved.toNat

/-- The body, and the bytes after it. -/
def Kerral.body (m : Kerral) : Bytes := m.rest.take m.bodyLen.toNat
def Kerral.blocks (m : Kerral) : Bytes := m.rest.drop m.bodyLen.toNat

end Sys2Proof

namespace Sys2Proof.Machine

/-- Bytes `off` to `off + len` of a body are 0. -/
def zeroAt (b : Bytes) (off len : Nat) : Bool := (slice b off len).all (· == 0#8)

/-- An authorisation block (R392): officer, algorithm, signature. -/
structure Auth where
  officer : Nat
  alg : Nat
  sig : Bytes
  deriving DecidableEq, Repr

/-- Signature and public-key lengths of an officer's algorithm (R392, R395). -/
def authSigLen (alg : Nat) : Nat := if alg == 1 then 96 else 3309
def authKeyLen (alg : Nat) : Nat := if alg == 1 then 97 else 1952

/-- `n` authorisation blocks and nothing more. -/
def parseAuths : Nat → Bytes → Option (List Auth)
  | 0, b => if b.isEmpty then some [] else none
  | n + 1, b =>
    let alg := u8 b 1
    if b.length < 4 || 15 < u8 b 0 || !(alg == 1 || alg == 2) || leAt b 2 2 != authSigLen alg || b.length < 4 + authSigLen alg
    then none
    else (parseAuths n (b.drop (4 + authSigLen alg))).map (fun l => { officer := u8 b 0, alg := alg, sig := slice b 4 (authSigLen alg) } :: l)

/-- An officer record of a body: OFFICER, OP, ROLES, ALG, KEY_LEN, key (R395, code 0x10). -/
def officerLen (b : Bytes) : Nat := 8 + leAt b 4 2
def officerOk (b : Bytes) : Bool :=
  decide (8 ≤ b.length) && decide (u8 b 0 ≤ 15) && decide (u8 b 1 ≤ 1) && decide (u8 b 2 < 16) && zeroAt b 6 2
  && decide (officerLen b ≤ b.length)
  && (if u8 b 1 == 0 then (u8 b 3 == 1 || u8 b 3 == 2) && leAt b 4 2 == authKeyLen (u8 b 3)
      else u8 b 3 == 0 && leAt b 4 2 == 0)

/-- The record itself; none for a removal. -/
def officerOf (b : Bytes) : Nat × Option Officer :=
  (u8 b 0, if u8 b 1 == 0 then some { alg := u8 b 3, key := slice b 8 (leAt b 4 2), roles := BitVec.ofNat 4 (u8 b 2) } else none)

/-- `n` officer records with OP 0 and nothing more (R395, code 0x11). -/
def parseOfficers : Nat → Bytes → Option (List (Nat × Officer))
  | 0, b => if b.isEmpty then some [] else none
  | n + 1, b =>
    if !officerOk b then none
    else match officerOf b with
      | (i, some o) => (parseOfficers n (b.drop (officerLen b))).map (fun l => (i, o) :: l)
      | _ => none

/-- `n` custodian records and nothing more (R395, code 0x33). -/
def parseCustodians : Nat → Bytes → Option (List (Nat × Officer))
  | 0, b => if b.isEmpty then some [] else none
  | n + 1, b =>
    let len := leAt b 2 2
    if b.length < 4 + len || 7 < u8 b 0 || !(u8 b 1 == 1 || u8 b 1 == 2) || len != authKeyLen (u8 b 1) then none
    else (parseCustodians n (b.drop (4 + len))).map (fun l => (u8 b 0, { alg := u8 b 1, key := slice b 4 len, roles := 0#4 }) :: l)

/-- The budget record of bytes 4 to 19 of BUDGET_SET (R344), and whether its reserved bits are 0 and its fields in range. -/
def budgetOf (b : Bytes) : Budget :=
  { skimFloor := BitVec.ofNat 8 (u8 b 4), skimCeil := BitVec.ofNat 8 (u8 b 5), coreFloor := BitVec.ofNat 6 (u8 b 6),
    coreCeil := BitVec.ofNat 6 (u8 b 7), pkFloor := BitVec.ofNat 9 (leAt b 8 2), pkCeil := BitVec.ofNat 9 (leAt b 10 2),
    hbmFloor := BitVec.ofNat 16 (leAt b 12 2), hbmCeil := BitVec.ofNat 16 (leAt b 14 2) }
def budgetOk (b : Bytes) : Bool :=
  [(u8 b 4, 128), (u8 b 5, 128), (u8 b 6, 48), (u8 b 7, 48), (leAt b 8 2, 256), (leAt b 10 2, 256), (leAt b 12 2, 0x8000),
   (leAt b 14 2, 0x8000)].all (fun p => decide (p.1 ≤ p.2)) && zeroAt b 16 4

/-- Basins of a part (chapter 06). -/
def basinCount (part : BitVec 4) : Nat := if part == 1#4 then 1024 else 512

/-- A slot number of a body: bits [31:28] are 0 (R247). -/
def slotAt (b : Bytes) (off : Nat) : Bool := asymOk (leAt b off 4)

/-- The body of a request has the layout of R395, in which a KEYREF names the algorithm of a key-block protection key
(R145, R160) and ATTR has the layout of R163. -/
def bodyOk (part : BitVec 4) (code : Nat) (b : Bytes) : Bool :=
  let len (n : Nat) : Bool := b.length == n
  let inr (n i lo hi : Nat) : Bool := decide (lo ≤ leAt b i n) && decide (leAt b i n ≤ hi)
  match code with
  | 0x01 | 0x02 | 0x22 | 0x62 => len 0
  | 0x10 => officerOk b && len (officerLen b)
  | 0x11 => decide (4 ≤ b.length) && inr 1 0 2 16 && zeroAt b 1 3 && (parseOfficers (u8 b 0) (b.drop 4)).isSome
  | 0x20 => len 24 && (b.take 23).all (fun x => decide (x.toNat ≤ 7)) && zeroAt b 23 1
  | 0x21 => len 4 && inr 4 0 0 (2 ^ 23 - 1)
  | 0x30 => len 12 && inr 1 1 0 15 && zeroAt b 2 2 && decide (leAt b 4 4 + leAt b 8 4 ≤ extBase)
  | 0x31 => len 20 && zeroAt b 1 3 && inr 4 4 0 255 && (u8 b 8 == 0 || inr 1 8 24 48) && zeroAt b 9 3 && inr 8 12 0 (2 ^ 23 - 1)
  | 0x32 => len 12 && inr 1 1 0 15 && zeroAt b 2 2 && (nibbles (b.drop 4)).all (fun d => decide (d ≤ 9))
  | 0x33 => decide (4 ≤ b.length) && inr 1 1 0 8 && zeroAt b 2 2 && (parseCustodians (u8 b 1) (b.drop 4)).isSome
  | 0x34 => len 40 && inr 1 1 2 3 && inr 1 2 3 8 && inr 1 3 0 1 && inr 2 8 1 3600 && zeroAt b 10 6
            && slotAt b 4 && attrOk (slice b 16 16) && zeroAt b (32 + u8 b 2) (8 - u8 b 2)
  | 0x35 => len 48 && slotAt b 0 && inr 1 5 3 8 && inr 1 6 16 32 && zeroAt b 7 1 && zeroAt b (8 + u8 b 5) (8 - u8 b 5)
            && zeroAt b (16 + u8 b 6) (32 - u8 b 6)
  | 0x36 | 0x38 => len 4 && slotAt b 0
  | 0x37 => decide (16 ≤ b.length) && inr 1 1 0 1 && inr 2 2 16 9999 && decide (1 ≤ krAlg (leAt b 4 4)) && decide (krAlg (leAt b 4 4) ≤ 5)
            && slotAt b 8 && zeroAt b 12 4 && len (16 + leAt b 2 2)
            && (parseKeyBlock (b.drop 16)).isSome
  | 0x40 => len 20 && inr 1 1 0 1 && zeroAt b 2 2 && budgetOk b
  | 0x41 => len 12 && decide (leAt b 0 2 < basinCount part) && inr 1 3 0 3 && inr 1 4 0 8 && inr 1 5 0 4 && zeroAt b 6 2 && slotAt b 8
  | 0x42 => len 4 && decide (leAt b 0 2 < basinCount part) && zeroAt b 2 2
  | 0x43 => len 4 && zeroAt b 1 1
  | 0x44 => len 36 && zeroAt b 1 3
  | 0x50 => len 4 && (u8 b 0 == 0x41 || u8 b 0 == 0x42) && zeroAt b 1 3
  | 0x51 => len 4 && zeroAt b 1 3
  | 0x52 | 0x53 => len 16
  | 0x60 => len 4 && inr 1 2 1 32 && zeroAt b 3 1 && decide (leAt b 0 2 + u8 b 2 ≤ 1024)
  | 0x61 => len 4 && inr 1 0 0 1 && zeroAt b 1 3
  | 0x63 => decide (4 ≤ b.length) && inr 1 0 1 64 && zeroAt b 1 3 && len (4 + 4 * u8 b 0)
            && (List.range (u8 b 0)).all (fun i => inr 2 (4 + 4 * i) 0 1023 && inr 2 (6 + 4 * i) 1 65535)
  | 0x64 => len 4 && inr 1 0 0 2 && zeroAt b 2 2
  | _ => true

/-- Authorisations a message needs, and the role bit its signers hold (R394, R398); none for an unassigned code. -/
def kerralRow (code : Nat) : Option (Nat × Nat) :=
  match code with
  | 0x01 | 0x02 | 0x60 | 0x61 | 0x62 => some (0, 0)
  | 0x10 | 0x11 | 0x20 | 0x51 => some (2, 0)
  | 0x21 | 0x22 => some (1, 0)
  | 0x30 | 0x31 | 0x32 | 0x33 | 0x34 | 0x37 | 0x38 | 0x53 => some (2, 1)
  | 0x35 | 0x36 => some (1, 1)
  | 0x41 | 0x42 => some (2, 2)
  | 0x40 | 0x43 | 0x44 => some (1, 2)
  | 0x50 | 0x52 | 0x63 | 0x64 => some (1, 3)
  | _ => none

/-- Recorder limits of a body (R395, code 0x63). -/
def limitsOf (b : Bytes) : List (Nat × Nat) := (List.range (u8 b 0)).map (fun i => (leAt b (4 + 4 * i) 2, leAt b (6 + 4 * i) 2))

/-- The change that a body asks for, where the body alone says it (R394, R395). -/
def bodyChange (code : Nat) (b : Bytes) : Option Change :=
  match code with
  | 0x10 => some (.officer (officerOf b).1 (officerOf b).2)
  | 0x11 => some (.provision ((parseOfficers (u8 b 0) (b.drop 4)).getD []))
  | 0x20 => some (.levels ((b.take 23).map (fun x => BitVec.ofNat 3 x.toNat)))
  | 0x21 => some (.clearAlarm (BitVec.ofNat 23 (leAt b 0 4)))
  | 0x30 => some (.grant (u8 b 0) (u8 b 1) (leAt b 4 4) (leAt b 8 4))
  | 0x31 => some (.policy (u8 b 0) { grants := byte (u8 b 4), aesLimit := u8 b 8, usages := BitVec.ofNat 64 (leAt b 12 8) })
  | 0x32 => some (.dectab (u8 b 0) (u8 b 1) ((nibbles (b.drop 4)).map byte))
  | 0x33 => some (.custodians (u8 b 0) ((parseCustodians (u8 b 1) (b.drop 4)).getD []))
  | 0x36 => some (.abandon (leAt b 0 4))
  | 0x37 => some (.keyBlock (u8 b 0) (leAt b 4 4) (leAt b 8 4) (u8 b 1 == 1) (b.drop 16))
  | 0x38 => some (.destroy (leAt b 0 4))
  | 0x40 => some (.budget (u8 b 0) (u8 b 1 == 1) (budgetOf b))
  | 0x41 => some (.basin (leAt b 0 2)
      { owner := if u8 b 3 % 2 == 1 then u8 b 2 else 256, vaultSlot := leAt b 8 4, keepLead := u8 b 4, keepTrail := u8 b 5,
        detokGrant := u8 b 3 / 2 == 1, next := 0 })
  | 0x42 => some (.basinClear (leAt b 0 2))
  | 0x43 => some (.unbind (65536 * u8 b 0 + leAt b 2 2))
  | 0x44 => some (.personalise (u8 b 0) (b.drop 4))
  | 0x61 => some (.freeze (u8 b 0 == 1))
  | 0x62 => some .flush
  | 0x63 => some (.limits (limitsOf b))
  | 0x64 => some (.route (if u8 b 0 == 1 then some .pcie else if u8 b 0 == 2 then some .i3c else none) (byte (u8 b 1)))
  | _ => none

/-- The function of a fenced change (R401). -/
def fencedFn (code : Nat) (b : Bytes) : Option Nat := if 0x30 ≤ code && code ≤ 0x33 then some (u8 b 0) else none

/-- A recorder record as it is read (R408). -/
def EventRec.bytes (e : EventRec) (code : Nat) : Bytes :=
  leBytes 2 (code + 2 ^ 10 * eventSeverity code + 2 ^ 12 * e.approx.toNat + 2 ^ 13 * e.limited.toNat)
  ++ leBytes 2 (e.limit.getD (resetLimit (eventSeverity code))) ++ leBytes 4 e.count ++ leBytes 4 e.suppressed
  ++ leBytes 4 e.min ++ leBytes 4 e.max ++ leBytes 8 e.first ++ leBytes 8 e.last ++ e.bins.flatMap (leBytes 4)
  ++ zeros 28

/-- The data of RECORDER_READ (R396, R412). -/
def Recorder.read (r : Recorder) (first count : Nat) : Bytes :=
  [byte r.frozenAt.isSome.toNat] ++ zeros 3 ++ leBytes 8 r.stamp
  ++ (List.range count).flatMap (fun i => (SMap.get EventRec.empty r.records (first + i)).bytes (first + i))

end Sys2Proof.Machine
end

