-- ==== Sys2Proof/Machine/Kerral.lean ====
section
/-! DEFINITION. The Kerral messages (R393 to R405, R438): intake, the checks in their order, what each message does, its
change at the target tide, fenced changes, and the response. -/

namespace Sys2Proof.Machine

/-! ### Messages outstanding (R397) -/

/-- The management port changed. -/
def State.onMgmt (s : State) (f : Mgmt → Mgmt) : State := s.updPort (fun p => { p with mgmt := f p.mgmt })

/-- An outstanding message changed. -/
def State.updMsg (s : State) (counter : Nat) (f : KerralMsg → KerralMsg) : State :=
  s.onMgmt (fun m => { m with messages := m.messages.map (fun x => if x.counter == counter then f x else x) })

/-- A message completes: its result is held for the response, and its effect or refusal is recorded (R406). Only a message
that changed something names an effect tide. -/
def State.complete (s : State) (m : KerralMsg) (result effect : Nat) (data : Bytes) : State :=
  let s := s.updMsg m.counter (fun x => { x with
    result := some { result := result, effect := if result == 0 then effect else 0, data := if result == 0 then data else [] } })
  if result != 0 then s.updPort (fun p => p.record 0x302 (256 * result + m.code))
  else if m.code == 1 || m.code == 2 || m.code == 0x60 then s
  else s.updPort (fun p => p.record 0x301 m.code)

/-- The management port answers on a binding: MCTP is not answered on either while the port die starts or the link trains
(R385, R438). -/
def PortDie.mgmtUp (p : PortDie) (_ : Binding) : Bool := p.start.up && p.start.power == .run && p.start.linkUp

/-- A session of a message is one in force. -/
def Mgmt.inSession (m : Mgmt) (v : Via) : Bool :=
  match v.session with
  | none => false
  | some i => m.spdm.sessions.any (fun z => z.id == i && z.established)

/-! ### Nonces and management draws (R399) -/

/-- A live nonce (R399). -/
def PortDie.nonce (p : PortDie) (id : Word) : Option Nonce :=
  p.mgmt.nonces.find? (fun n => n.id == id && decide (p.tide < n.tide + 300000000))

/-- The header whose function, queue and sequence number label a management draw. -/
def mgmtHeader (counter : Nat) : Header :=
  { (Header.parse (zeros 32)) with function := 0#8, queue := 0xFFFF#16, seq := BitVec.ofNat 32 counter }

/-- A management draw from the current twin epoch of a joined channel. -/
def State.mgmtDraw (s : State) (counter index len : Nat) : Option Bytes :=
  match s.port.joinedChans with
  | [] => none
  | ch :: _ =>
    let g := (s.chan ch).rng
    if g.state != .ready then none
    else (g.epochAt (s.chan ch).tide).map (fun e =>
      expand e.seed (SMap.get (zeros 32) e.person 0) (drawLabel (mgmtHeader counter) index) len)

/-- The expander blocks of a management draw are counted in every joined channel (R306). -/
def State.countMgmtDraw (s : State) (len : Nat) : State :=
  s.port.joinedChans.foldl (fun s ch => s.upd ch (·.mapRng (fun g => { g with draws := satBv g.draws (ceilDiv len 16) }))) s

/-! ### The checks (R393, R400) -/

/-- An open ceremony of a slot. -/
def Channel.ceremony (c : Channel) (slot : Nat) : Option Session :=
  c.keys.sessions.find? (fun x => x.slot == slot && x.ceremony)

/-- A header and blocks that keep the layout of R392 and R395: MALFORMED otherwise. -/
def State.kerralLayout (s : State) (code : Nat) (m : Kerral) : Bool :=
  m.version == 1#8 && m.flags == 0#8 && m.reserved == 0#32 && decide (m.authCount.toNat ≤ 2)
  && (m.authCount != 0#8 || m.nonceId == 0#32) && decide (m.bodyLen.toNat ≤ m.rest.length)
  && (parseAuths m.authCount.toNat m.blocks).isSome && ((kerralRow code).isNone || bodyOk s.a.fuses.part code m.body)

/-- Messages that the port die answers while no channel is joined (R438). -/
def answeredAlone (code : Nat) : Bool := code == 2 || (0x60 ≤ code && code ≤ 0x63)

/-- The device state forbids the message, whose intake tide judges a ceremony's expiry (R170, R394, R399, R404, R405, R414,
R438). -/
def State.kerralState (s : State) (c : Channel) (code tide : Nat) (b : Bytes) : Bool :=
  let p := s.port
  (p.joinedChans.isEmpty && !answeredAlone code)
  || (s.blank && 0x10 ≤ code && code ≤ 0x5F && code != 0x11)
  || (code == 0x11 && !(s.a.island.erased && s.b.island.erased && p.bothJoined))
  || (code == 0x50 && !p.bothJoined)
  || (code == 0x53 && !p.joinedChans.all (fun ch => (s.chan ch).keys.empty))
  || (code == 0x35 && (c.ceremony (leAt b 0 4)).all (fun x => x.expiry < tide || u8 b 4 != x.received.length))
  || (code == 0x36 && (c.ceremony (leAt b 0 4)).all (fun x => x.expiry < tide))

/-- The officers who may sign a message: PROVISION's are those of its body (R404). -/
def Channel.signers (c : Channel) (code : Nat) (b : Bytes) : SMap Officer :=
  if code == 0x11 then (parseOfficers (u8 b 0) (b.drop 4)).getD [] else c.records.officers

/-- An officer is absent, repeated, or lacks the role (R393, R403). -/
def Channel.roleBad (c : Channel) (code role : Nat) (b : Bytes) (l : List Auth) : Bool :=
  let who := l.map (·.officer)
  !(who.eraseDups == who)
  || l.any (fun a => match SMap.find? (c.signers code b) a.officer with
      | none => true
      | some o => !o.roles.getLsbD role)
  || (code == 0x35 && (c.ceremony (leAt b 0 4)).any (fun x => who.any x.contributors.contains))

/-- The value an authorisation signs (R400); a ceremony's own nonce stands in a component (R403). -/
def Channel.signedValue (c : Channel) (code : Nat) (m : Kerral) (nonce : Bytes) : Bytes :=
  let n := if code == 0x35 then ((c.ceremony (leAt m.body 0 4)).map (·.nonce)).getD [] else nonce
  sha384 (ascii "LX96-KERRAL" ++ c.fuses.identity ++ n ++ m.header code ++ m.body)

/-- The first officer whose signature does not verify. -/
def Channel.badSigner (c : Channel) (code : Nat) (m : Kerral) (nonce : Bytes) (l : List Auth) : Option Nat :=
  let v := c.signedValue code m nonce
  let good (a : Auth) : Bool := match SMap.find? (c.signers code m.body) a.officer with
    | none => false
    | some o => o.alg == a.alg && (signatureRes (sigAlgOf a.alg) o.key v a.sig).isNone
  (l.find? (fun a => !good a)).map (·.officer)

/-- Officers that hold a role. -/
def rolesHeld (m : SMap Officer) (bit : Nat) : Nat := (m.filter (fun o => o.2.roles.getLsbD bit)).length

/-- A PF0 DMA window with a permission holds the whole range, and PF0's DMA unit is on (R353, R405). -/
def PortDie.imageWindow (p : PortDie) (write : Bool) (addr len : Nat) : Bool :=
  let f := p.fn 0
  f.acuEnabled && !f.acuDraining && decide (0 < len)
  && f.windows.any (fun w => w.2.on && (if write then w.2.write else w.2.read) && w.2.holds addr && w.2.holds (addr + len - 1))

/-- A floor exceeds its ceiling, or the floors of the kind their pool (R343). -/
def State.budgetRefused (s : State) (f : Nat) (h : Bool) (b : Budget) : Bool :=
  let p := s.port.change (.budget f h b)
  let pick (x : Fn) : Budget := if h then x.halved else x.twin
  let twin := min 128 p.kept.twinSkim.toNat
  let eng := min 16 p.kept.split.toNat
  decide (b.skimCeil.toNat < b.skimFloor.toNat) || decide (b.coreCeil.toNat < b.coreFloor.toNat)
  || decide (b.pkCeil.toNat < b.pkFloor.toNat) || decide (b.hbmCeil.toNat < b.hbmFloor.toNat)
  || decide ((if h then 128 - twin else twin) < p.floors (fun x => (pick x).skimFloor.toNat))
  || decide (p.tenant.corePool h < p.floors (fun x => (pick x).coreFloor.toNat))
  || decide (16 * (if h then 16 - eng else eng) < p.floors (fun x => (pick x).pkFloor.toNat))
  || decide (p.tenant.hbmPool h < p.floors (fun x => (pick x).hbmFloor.toNat))

/-- CEREMONY_BEGIN breaks a rule of R169, R170, R248, R259 or R402. -/
def Channel.ceremonyRefused (c : Channel) (b : Bytes) (tide : Nat) : Bool :=
  let slot := leAt b 4 4
  let attr := slice b 16 16
  !c.granted (u8 b 0) slot || !(Attr.ofHeader attr).accepted || !(ascii "TAH").contains (attr.getD 7 0#8) || !slotFits slot 0#2
  || !c.keys.mgmtTarget (u8 b 0) slot (u8 b 3 == 1) || c.keys.sessions.any (fun x => x.slot == slot && tide ≤ x.expiry)
  || 16 ≤ c.keys.openSessions (u8 b 0)

/-- The change breaks a rule that the message's row names (REFUSED), as far as it is decided before the change. -/
def State.kerralRefused (s : State) (c : Channel) (x : KerralMsg) : Bool :=
  let p := s.port
  let b := x.msg.body
  match x.code with
  | 0x10 =>
    let o := officerOf b
    let m := SMap.put c.records.officers o.1 o.2
    decide (rolesHeld m 0 < 2) || decide (rolesHeld m 1 < 2)
    || ((parseAuths x.msg.authCount.toNat x.msg.blocks).getD []).any (fun a => a.officer == o.1)
  | 0x22 => p.assay.refillActive || p.svnTarget.isSome || !p.resets.isEmpty
  | 0x30 =>
    let first := leAt b 4 4
    let count := leAt b 8 4
    let key := 16 * u8 b 0 + u8 b 1
    count != 0 && c.records.grants.any (fun g => g.1 != key && decide (first < g.2.1 + g.2.2) && decide (g.2.1 < first + count))
  | 0x32 => !(List.range 10).all (fun d => (nibbles (b.drop 4)).contains d)
  | 0x34 => c.ceremonyRefused b x.intakeTide
  | 0x38 => match c.keys.target (leAt b 0 4) with
    | .empty => true
    | .held h => !h.mgmt
    | .corrupt => false
  | 0x40 => s.budgetRefused (u8 b 0) (u8 b 1 == 1) (budgetOf b)
  | 0x51 => p.svnTarget.isSome || !p.bothJoined || s.a.keys.svnRun != u8 b 0 || s.b.keys.svnRun != u8 b 0 || u8 b 0 ≤ c.keys.rung
  | 0x52 => !p.imageWindow true (leAt b 0 8) (leAt b 8 8) || leAt b 8 8 < c.storeImage.length
  | 0x53 => !p.imageWindow false (leAt b 0 8) (leAt b 8 8) || !(c.openImage x.image).any (fun r => c.keys.imageWhole r)
  | 0x63 => (limitsOf b).any (fun e => 2 ≤ eventSeverity e.1 && e.2 < 256)
  | _ => false

/-- The RESULT that the checks of R393 give in a channel, in their order; 0 where all pass. A message that must arrive in a
secured session is checked for it last (DEDUCED from the order of R393's table). -/
def State.kerralVerdict (s : State) (c : Channel) (x : KerralMsg) : Nat :=
  let m := x.msg
  let b := m.body
  if !s.kerralLayout x.code m then 1
  else match kerralRow x.code with
    | none => 2
    | some (need, role) =>
      let l := (parseAuths m.authCount.toNat m.blocks).getD []
      let nonce := s.port.nonce m.nonceId
      if s.kerralState c x.code x.intakeTide b then 3
      else if x.code != 0x35 && m.authCount != 0#8 && nonce.isNone then 4
      else if m.authCount.toNat < need then 5
      else if 0 < need && c.roleBad x.code role b l then 6
      else if 0 < need && (c.badSigner x.code m ((nonce.map (·.value)).getD []) l).isSome then 7
      else if s.kerralRefused c x then 8
      else if (x.code == 0x11 || x.code == 0x35) && !s.port.mgmt.inSession m.via then 10
      else 0

/-! ### Discords of management results (R397) -/

/-- The channels' results differ: step 1 of R316, or else channel B is retired and the discord stands unresolved. -/
def State.mgmtDiscord (s : State) : State :=
  match s.port.healthVerdict with
  | some x => s.retire x 0
  | none => (s.updPort (fun p => p.record 0x011 0xFFFF)).retire .b 2

/-- A result of each joined channel, agreed: after a discord the survivor's stands. -/
def State.agreed {α : Type} [BEq α] (s : State) (f : Channel → α) : State × α :=
  match s.port.joinedChans with
  | [.a, .b] =>
    if f s.a == f s.b then (s, f s.a)
    else
      let t := s.mgmtDiscord
      (t, f (s.chan (t.port.joinedChans.headD .a)))
  | l => (s, f (s.chan (l.headD .a)))

/-! ### What each message does -/

/-- The data of GET_STATUS (R396). -/
def State.statusData (s : State) : Bytes :=
  let p := s.port
  let of (ch : Chan) (f : Channel → Nat) : Byte := if p.joined ch then byte (f (s.chan ch)) else 0#8
  [byte s.devState, byte (p.assay.st .a).num, byte (p.assay.st .b).num, of .a (·.keys.svnRun), of .b (·.keys.svnRun),
   of .a (·.keys.fuseFloor), of .b (·.keys.fuseFloor), byte (s.chan (p.joinedChans.headD .a)).keys.rung]
  ++ leBytes 8 p.recorder.stamp ++ fitR 16 s.a.fuses.identity ++ zeros 4

/-- GET_NONCE: 8 bytes of the counter and 24 drawn; the oldest of 17 live nonces goes (R399). -/
def State.giveNonce (s : State) (m : KerralMsg) : State :=
  match s.mgmtDraw m.counter 0xFF 24 with
  | none => s.complete m 11 0 []
  | some d =>
    let v := beBytes 8 m.counter ++ d
    let n : Nonce := { id := BitVec.ofNat 32 m.counter, value := v, tide := s.port.tide }
    let keep (l : List Nonce) : List Nonce := l.drop (l.length - 16)
    ((s.countMgmtDraw 24).onMgmt (fun y => { y with nonces := keep (y.nonces ++ [n]) })).complete m 0 0
      (leBytes 4 (m.counter % 2 ^ 32) ++ v)

/-- CEREMONY_BEGIN: the session to be opened, with its nonce drawn (R402). -/
def State.openCeremony (s : State) (m : KerralMsg) : State :=
  let b := m.msg.body
  match s.mgmtDraw m.counter 0xFE 16 with
  | none => s.complete m 11 0 []
  | some d =>
    let x : Session := { slot := leAt b 4 4, function := u8 b 0, ceremony := true, count := u8 b 1, replace := u8 b 3 == 1,
                         attr := slice b 16 16, kcv := slice b 32 (u8 b 2), nonce := d,
                         expiry := m.intakeTide + 500000 * leAt b 8 2, received := [], contributors := [] }
    let t := s.port.tide + 2
    (s.countMgmtDraw 16).updMsg m.counter (fun y => { y with change := some (.openSession x), target := some t })

/-- Bytes of a function written to host memory, line by line. -/
def State.hostBytes (s : State) (f addr : Nat) (bs : Bytes) : State :=
  let first := addr / 64
  let n := if bs.isEmpty then 0 else (addr + bs.length - 1) / 64 - first + 1
  let padded := zeros (addr % 64) ++ bs
  (List.range n).foldl (fun s i => s.hostLine f (64 * (first + i)) (fitR 64 (slice padded (64 * i) 64))) s

/-- The work of a message whose checks have passed begins (R397). -/
def State.perform (s : State) (m : KerralMsg) : State :=
  let b := m.msg.body
  let t := s.port.tide + 2
  let c := s.chan (s.port.joinedChans.headD .a)
  let later (x : Change) : State := s.updMsg m.counter (fun y => { y with change := some x, target := some t })
  match m.code with
  | 0x01 => s.giveNonce m
  | 0x02 => s.complete m 0 0 s.statusData
  | 0x22 => (s.onMgmt (fun y => { y with slack := some t })).complete m 0 t []
  | 0x34 => s.openCeremony m
  | 0x35 =>
    let who := ((parseAuths m.msg.authCount.toNat m.msg.blocks).getD []).map (·.officer)
    later (.component (leAt b 0 4) (u8 b 4) (who.headD 0) (slice b 8 (u8 b 5)) (slice b 16 (u8 b 6)))
  | 0x50 =>
    let ch := if u8 b 0 == 0x41 then Chan.a else Chan.b
    s.updPort (fun p => { p with assay := { p.assay with planned := some (ch, t) },
                                 mgmt := { p.mgmt with activation := some (m.counter, ch) } })
  | 0x51 => s.updPort (fun p => { p with svnTarget := some (u8 b 0, t) })
  | 0x52 =>
    let r := s.agreed (·.storeImage)
    (r.1.hostBytes 0 (leAt b 0 8) r.2).complete m 0 0 (leBytes 8 r.2.length ++ sha384 r.2)
  | 0x53 => match c.openImage m.image with
    | some r => later (.image r)
    | none => s.complete m 8 0 []
  | 0x60 => s.complete m 0 0 (s.port.recorder.read (leAt b 0 2) (u8 b 2))
  | _ => match bodyChange m.code b with
    | none => s.complete m 2 0 []
    | some x =>
      if (fencedFn m.code b).isSome then s.updMsg m.counter (fun y => { y with change := some x, hold := some t })
      else later x

/-- A nonce dies when a message naming it has passed the nonce check (R399). -/
def State.spendNonce (s : State) (m : KerralMsg) (v : Nat) : State :=
  if m.code == 0x35 || m.msg.authCount == 0#8 || (1 ≤ v && v ≤ 4) then s
  else s.onMgmt (fun y => { y with nonces := y.nonces.filter (fun n => n.id != m.msg.nonceId) })

/-- A ceremony ends at a component whose signature does not verify (R403); one found expired is discarded (R170). -/
def State.dropCeremony (s : State) (m : KerralMsg) (v : Nat) : State :=
  let slot := leAt m.msg.body 0 4
  let gone (c : Channel) : Bool := (c.ceremony slot).any (fun x => (v == 7 && m.code == 0x35) || (v == 3 && x.expiry < m.intakeTide))
  if m.code != 0x35 && m.code != 0x36 then s
  else s.port.joinedChans.foldl (fun s ch => s.upd ch (fun c => if gone c then c.endSession m.intakeNo slot else c)) s

/-- A signature verification of the management plane runs on the lowest-numbered free public-key engine for the time of R230, or,
with none free, on engine 0 after what it does (R400; DESIGN CHOICE, log 265). -/
def Channel.verifyOn (c : Channel) (alg : Nat) : Channel :=
  let now := c.now
  c.mapPk (((List.range 16).find? c.pkFree).getD 0)
    (fun e => { e with busyUntil := max now e.busyUntil + (PkStep.verify (sigAlgOf alg)).cycles, ops := satBv e.ops 1 })

/-- The verifications that a message's checks have come to run in each joined channel, by the RESULT they give. -/
def State.verifies (s : State) (m : KerralMsg) (v : Nat) : State :=
  let l := (parseAuths m.msg.authCount.toNat m.msg.blocks).getD []
  if !(v == 0 || 7 ≤ v) || (kerralRow m.code).all (fun r => r.1 == 0) then s
  else s.port.joinedChans.foldl (fun s ch => s.upd ch (fun c => l.foldl (fun c a => c.verifyOn a.alg) c)) s

/-- A message is executed: its checks in both joined channels, and its work. -/
def State.startMsg (s : State) (m : KerralMsg) : State :=
  let s := s.updMsg m.counter (fun x => { x with started := true })
  let (s, v) := s.agreed (fun c => s.kerralVerdict c m)
  let c := s.chan (s.port.joinedChans.headD .a)
  let nonce := ((s.port.nonce m.msg.nonceId).map (·.value)).getD []
  let s0 := ((s.spendNonce m v).dropCeremony m v).verifies m v
  if v == 0 then s0.perform m
  else
    let s := if v == 7 then
        match c.badSigner m.code m.msg nonce ((parseAuths m.msg.authCount.toNat m.msg.blocks).getD []) with
        | some o => s0.updPort (fun p => p.record 0x303 o)
        | none => s0
      else s0
    s.complete m v 0 []

/-- Messages that run alongside a changing one (R397). -/
def runsAlongside (code : Nat) : Bool := code == 1 || code == 2 || code == 0x60

/-- Changing messages are executed one at a time in arrival order: the first unfinished one begins when none is under way
(R397). -/
def State.pump (s : State) : Nat → State
  | 0 => s
  | n + 1 => match s.port.mgmt.messages.find? (fun x => x.result.isNone) with
    | none => s
    | some m => if m.started then s else State.pump (s.startMsg m) n

/-- A Kerral message arrives (R385, R397, R399). -/
def State.kerralIn (s : State) (code : Nat) (m : Kerral) (image : Bytes := []) : State :=
  if !s.port.mgmtUp m.via.binding then s
  else if 16384 < 19 + m.rest.length then s.updPort (fun p => p.record 0x300 0x7E)
  else
    let p := s.port
    let open' := (p.mgmt.messages.filter (fun x => !x.result.any (fun r => r.result == 9))).length
    let x : KerralMsg := { counter := p.mgmt.counter + 1, intakeNo := p.nextIntake, intakeTide := p.tide, code := code, msg := m, image := image,
                           started := false, change := none, hold := none, target := none, noneA := false, noneB := false,
                           result := none }
    let s := s.updPort (fun p => { p with nextIntake := p.nextIntake + 1,
                                          mgmt := { p.mgmt with counter := x.counter, messages := p.mgmt.messages ++ [x] } })
    if 8 ≤ open' then s.complete x 9 0 []
    else if runsAlongside code then s.startMsg x
    else s.pump 9

/-! ### Changes at their tide (R36, R397) -/

/-- A finished change lets the next message begin. -/
def State.completeChange (s : State) (m : KerralMsg) (r : Nat × Bytes) (effect : Nat) : State :=
  (s.complete m r.1 effect r.2).pump 9

/-- A change takes effect in every joined channel and on the port die, and its message completes. -/
def State.applyChange (s : State) (m : KerralMsg) (x : Change) : State :=
  let t := s.port.tide
  match x with
  | .provision l =>
    if s.a.rng.state != .ready then s.completeChange m (11, []) 0
    else (s.provision m.intakeNo l).updMsg m.counter (fun y => { y with change := none })
  | x =>
    let (s1, r) := s.agreed (fun c => (c.takeChange m.intakeNo x).2)
    let s2 := s1.port.joinedChans.foldl (fun s ch => s.upd ch (fun c => (c.takeChange m.intakeNo x).1)) s1
    let s2 := match x with
      | .destroy slot => s2.port.joinedChans.foldl (fun (s : State) ch => s.upd ch (·.dropWriter slot)) s2
      | _ => s2
    let s3 := if r.1 == 0 then s2.updPort (fun p => p.change x) else s2
    s3.completeChange m r t

/-- A destroy waits until it heads its slot's flow and no joined channel has a user of the slot (R262); PROVISION waits for the session that its brine-key
share needs (R22, R23), and its draw for a reseed that is due (R289). -/
def State.changeWaits (s : State) (x : Change) : Bool :=
  match x with
  | .destroy slot => s.port.joinedChans.any (fun ch =>
      let d := (s.chan ch).sched
      (s.chan ch).slotUsers slot (mgmtWriter slot)
      || d.flows.any (fun e => e.members.any (fun m => m.1 == mgmtWriter slot) && !(e.ahead (mgmtWriter slot)).isEmpty))
  | .provision _ => s.a.rng.state == .ready && (!s.sluiceUp || s.a.rng.reseedDue)
  | _ => false

/-- A destroy takes its place as a writer in the slot's flow of every joined channel, so that readers delivered later wait
behind it (R262, R271). -/
def State.queueDestroy (s : State) (x : Change) : State :=
  match x with
  | .destroy slot => s.port.joinedChans.foldl (fun (s : State) ch => s.upd ch (·.queueWriter slot)) s
  | _ => s

/-- PROVISION has taken effect and every joined channel has written its root records: the message completes (R439). -/
def State.provisionDone (s : State) : State :=
  match s.port.mgmt.messages.find? (fun m => m.code == 0x11 && m.started && m.result.isNone && m.change.isNone) with
  | none => s
  | some m =>
    if s.port.joinedChans.isEmpty || s.port.joinedChans.any (fun ch => (s.chan ch).keys.firstRoot) then s
    else s.completeChange m (0, []) (m.target.getD 0)

/-- The change whose target tide has come, fenced ones apart, takes effect (step 2 of R35). -/
def State.kerralBoundary (s : State) : State :=
  let s := s.provisionDone
  match s.port.mgmt.messages.find? (fun x => x.started && x.result.isNone) with
  | none => s
  | some m => match m.change, m.target, m.hold with
    | some x, some t, none =>
      if s.port.tide < t then s
      else
        let s := s.queueDestroy x
        if s.changeWaits x then s else s.applyChange m x
    | _, _, _ => s

/-! ### Fenced changes (R401) -/

/-- The fenced message under way. -/
def State.fencing (s : State) : Option KerralMsg :=
  s.port.mgmt.messages.find? (fun x => x.started && x.result.isNone && x.hold.isSome)

/-- From boundary H a channel holds the function's commands. -/
def State.fenceHold (s : State) (ch : Chan) : State :=
  match s.fencing with
  | none => s
  | some m => match m.hold, fencedFn m.code m.msg.body with
    | some h, some f =>
      if m.target.isSome || !s.port.joined ch || (s.chan ch).tide < h then s
      else s.upd ch (fun c => { c with fence := some (f, h) })
    | _, _ => s

/-- The channel has a command of the function, taken in before H, that has not passed its key read or binding. -/
def Channel.beforeFence (c : Channel) (f h : Nat) : Bool :=
  c.sched.items.any (fun x => x.fn == f && decide (x.pkt.intakeTide < h) && readsKeys x.op && !x.read && x.phase != .finished)
  || c.sched.fanout.any (fun k => k.hdr.function.toNat == f && decide (k.intakeTide < h))

/-- A channel's report of none; when every joined channel has reported, X is fixed. -/
def State.fenceReport (s : State) (ch : Chan) : State :=
  match s.fencing, (s.chan ch).fence with
  | some m, some (f, h) =>
    if m.target.isSome || !s.port.joined ch || (s.chan ch).beforeFence f h then s
    else
      let m' : KerralMsg := match ch with
        | .a => { m with noneA := true }
        | .b => { m with noneB := true }
      let all := s.port.joinedChans.all (fun c => match c with | .a => m'.noneA | .b => m'.noneB)
      let t := s.port.tide + 2
      s.updMsg m.counter (fun _ => { m' with target := if all then some t else none })
  | _, _ => s

/-- The held commands of a channel are released. -/
def Channel.liftFence (c : Channel) : Channel :=
  let c := ({ c with fence := none } : Channel).settle
  c.sched.items.foldl (fun c x => c.tryStart x.id true) c

/-- At boundary X the change applies in a channel and its held commands are released. -/
def State.fenceApply (s : State) (ch : Chan) : State :=
  match s.fencing with
  | none => s
  | some m => match m.change, m.target with
    | some x, some t =>
      if (s.chan ch).tide < t || (s.chan ch).fence.isNone then s
      else
        let s := s.upd ch (fun c => ((c.takeChange m.intakeNo x).1).liftFence)
        if s.port.joinedChans.any (fun c => (s.chan c).fence.isSome) then s
        else s.completeChange m (0, []) t
    | _, _ => s

/-- R401: FENCE_HOLD. -/
def execFenceHold (ch : Chan) (s : State) : Out := .next (s.fenceHold ch)

/-- R401: FENCE_REPORT. -/
def execFenceReport (ch : Chan) (s : State) : Out := .next (s.fenceReport ch)

/-- R401: FENCE_APPLY. -/
def execFenceApply (ch : Chan) (s : State) : Out := .next (s.finish (s.fenceApply ch))

/-! ### The response (R393, R396) -/

/-- The response of a completed message. -/
def KerralMsg.response (m : KerralMsg) (r : KerralResult) : MgmtOut :=
  { binding := m.msg.via.binding, eid := none, session := m.msg.via.session, type := 0x7E#7,
    body := kerralHeader m.code m.msg.reqId.toNat (12 + r.data.length) 1 ++ leBytes 2 r.result ++ zeros 2
            ++ leBytes 8 r.effect ++ r.data }

/-- The first completed message's response is sent. -/
def State.kerralRespond (s : State) : State :=
  match s.port.mgmt.messages.find? (fun x => x.result.isSome) with
  | none => s
  | some m => match m.result with
    | none => s
    | some r => s.onMgmt (fun y => { y with out := y.out ++ [m.response r],
                                            messages := y.messages.filter (fun x => x.counter != m.counter) })

/-- R397: KERRAL_RESPONSE. -/
def execKerralResponse (s : State) : Out := .next s.kerralRespond

/-- 600 s after its issue a nonce dies (R399). -/
def Mgmt.expireNonces (m : Mgmt) (tide : Nat) : Mgmt :=
  { m with nonces := m.nonces.filter (fun n => decide (tide < n.tide + 300000000)) }

/-- R399: NONCE_EXPIRY. -/
def execNonceExpiry (s : State) : Out := .next (s.onMgmt (fun m => m.expireNonces s.port.tide))

/-! ### The messages (R394) -/

/-- A message's arrival as a command. -/
def kerral (code : Nat) (m : Kerral) (s : State) : Out := .next (s.finish (s.kerralIn code m))

/-- R399: GET_NONCE. -/
def execGetNonce (m : Kerral) (s : State) : Out := kerral 0x01 m s
/-- R394: GET_STATUS. -/
def execGetStatus (m : Kerral) (s : State) : Out := kerral 0x02 m s
/-- R398: OFFICER_SET. -/
def execOfficerSet (m : Kerral) (s : State) : Out := kerral 0x10 m s
/-- R404: PROVISION. -/
def execProvision (m : Kerral) (s : State) : Out := kerral 0x11 m s
/-- R358: TAMPER_LEVELS. -/
def execTamperLevels (m : Kerral) (s : State) : Out := kerral 0x20 m s
/-- R382: TAMPER_CLEAR. -/
def execTamperClear (m : Kerral) (s : State) : Out := kerral 0x21 m s
/-- R371: SLACK. -/
def execSlack (m : Kerral) (s : State) : Out := kerral 0x22 m s
/-- R248: SLOT_GRANT. -/
def execSlotGrant (m : Kerral) (s : State) : Out := kerral 0x30 m s
/-- R400: POLICY_SET. -/
def execPolicySet (m : Kerral) (s : State) : Out := kerral 0x31 m s
/-- R132: DECTAB_SET. -/
def execDectabSet (m : Kerral) (s : State) : Out := kerral 0x32 m s
/-- R169: CUSTODIANS_SET. -/
def execCustodiansSet (m : Kerral) (s : State) : Out := kerral 0x33 m s
/-- R402: CEREMONY_BEGIN. -/
def execCeremonyBegin (m : Kerral) (s : State) : Out := kerral 0x34 m s
/-- R403: CEREMONY_COMPONENT. -/
def execCeremonyComponent (m : Kerral) (s : State) : Out := kerral 0x35 m s
/-- R394: CEREMONY_ABANDON. -/
def execCeremonyAbandon (m : Kerral) (s : State) : Out := kerral 0x36 m s
/-- R161: MGMT_KEYBLOCK_IMPORT. -/
def execMgmtKeyblockImport (m : Kerral) (s : State) : Out := kerral 0x37 m s
/-- R262: MGMT_KEY_DESTROY. -/
def execMgmtKeyDestroy (m : Kerral) (s : State) : Out := kerral 0x38 m s
/-- R344: BUDGET_SET. -/
def execBudgetSet (m : Kerral) (s : State) : Out := kerral 0x40 m s
/-- R172: BASIN_ASSIGN. -/
def execBasinAssign (m : Kerral) (s : State) : Out := kerral 0x41 m s
/-- R173: BASIN_CLEAR. -/
def execBasinClear (m : Kerral) (s : State) : Out := kerral 0x42 m s
/-- R155: DUKPT_UNBIND. -/
def execDukptUnbind (m : Kerral) (s : State) : Out := kerral 0x43 m s
/-- R297: PERSONALISE. -/
def execPersonalise (m : Kerral) (s : State) : Out := kerral 0x44 m s
/-- R330: UPDATE_ACTIVATE. -/
def execUpdateActivate (m : Kerral) (s : State) : Out := kerral 0x50 m s
/-- R280: SVN_COMMIT. -/
def execSvnCommit (m : Kerral) (s : State) : Out := kerral 0x51 m s
/-- R405: IMAGE_EXPORT. -/
def execImageExport (m : Kerral) (s : State) : Out := kerral 0x52 m s
/-- R405: IMAGE_IMPORT. `image` is what the window it names holds. -/
def execImageImport (m : Kerral) (image : Bytes) (s : State) : Out := .next (s.finish (s.kerralIn 0x53 m image))
/-- R412: RECORDER_READ. -/
def execRecorderRead (m : Kerral) (s : State) : Out := kerral 0x60 m s
/-- R411: RECORDER_FREEZE. -/
def execRecorderFreeze (m : Kerral) (s : State) : Out := kerral 0x61 m s
/-- R410: RECORDER_FLUSH. -/
def execRecorderFlush (m : Kerral) (s : State) : Out := kerral 0x62 m s
/-- R409: RECORDER_LIMITS. -/
def execRecorderLimits (m : Kerral) (s : State) : Out := kerral 0x63 m s
/-- R413: ALERT_ROUTE. -/
def execAlertRoute (m : Kerral) (s : State) : Out := kerral 0x64 m s
/-- R394: KERRAL_UNKNOWN_CODE. A code of the table stands for its own message. -/
def execKerralUnknownCode (code : Byte) (m : Kerral) (s : State) : Out := kerral code.toNat m s

end Sys2Proof.Machine
end

