-- ==== Sys2Proof/Machine/Attest.lean ====
section
/-! DEFINITION. The management port beside Kerral (R385 to R391), and the recorder's own events (R407, R410, R411): MCTP
addresses, attestation, IDE keys, firmware transfer, sensors, flushes and the end of a freeze. -/

namespace Sys2Proof.Machine

/-! ### Transports (R385, R386) -/

/-- R385: ENDPOINT_ID_ASSIGNMENT, an MCTP control message of the bus owner, which R438 leaves unanswered before the link is
up. -/
def execEndpointIdAssignment (binding : Binding) (eid : Byte) (s : State) : Out :=
  .next (if !s.port.mgmtUp binding then s
    else s.onMgmt (fun m => match binding with
      | .pcie => { m with eidPcie := eid }
      | .i3c => { m with eidI3c := eid }))

/-- R385: DYNAMIC_ADDRESS_ASSIGNMENT, of the I3C bus and no MCTP message: a started port die takes it. -/
def execDynamicAddressAssignment (address : BitVec 7) (s : State) : Out :=
  .next (if s.port.start.up && s.port.start.power == .run then s.onMgmt (fun m => { m with i3cAddress := address }) else s)

/-- MCTP message types the LX96 accepts (R386). -/
def mctpTypes : List Nat := [0x05, 0x06, 0x01, 0x7E]

/-- R386: MCTP_UNSUPPORTED_MESSAGE. A message of another type, or one too long to be reassembled, is dropped and
counted. -/
def execMctpUnsupportedMessage (type : BitVec 7) (length : Nat) (s : State) : Out :=
  .next (s.finish (
    if !s.port.mgmtUp .i3c || (mctpTypes.contains type.toNat && length ≤ 16384) then s
    else s.updPort (fun p => p.record 0x300 type.toNat)))

/-! ### Attestation (R387, R388) -/

/-- The SPDM responder: channel A while it is joined, else channel B; none while neither is (R387, R438). -/
def PortDie.responder (p : PortDie) : Option Chan :=
  if p.joined .a then some .a else if p.joined .b then some .b else none

/-- A message the device sends on the port it was asked on. -/
def State.answer (s : State) (v : Via) (type : BitVec 7) (kind : Nat) (content : Bytes) : State :=
  s.onMgmt (fun m => { m with out := m.out ++ [{ binding := v.binding, eid := none, session := v.session, type := type,
                                                 body := Config.standardMessage kind content }] })

/-- The SPDM state changed. -/
def State.onSpdm (s : State) (f : Spdm → Spdm) : State := s.onMgmt (fun m => { m with spdm := f m.spdm })

/-- Request codes of DSP0274; 0x7F is its ERROR. -/
def spdmError : Nat := 0x7F

/-- MCTP type of an SPDM message: in clear, or inside a secured session (R386). -/
def Via.spdmType (v : Via) : BitVec 7 := if v.session.isSome then 0x06#7 else 0x05#7

/-- A message too long to be reassembled is dropped unanswered and counted (R385, R406). -/
def State.dropLong (s : State) (type : BitVec 7) : State := s.updPort (fun p => p.record 0x300 type.toNat)

/-- An SPDM request, its MCTP type and header before `body`, reaches a responder; `f` answers it (R385). -/
def State.spdm (s : State) (v : Via) (body : Bytes) (f : Chan → State → State) : State :=
  if !s.port.mgmtUp v.binding then s
  else if 16384 < 5 + body.length then s.dropLong (Via.spdmType v)
  else match s.port.responder with
    | none => s
    | some ch => f ch s

/-- An SPDM request answered with content where `ok` holds, with ERROR otherwise. -/
def State.spdmAnswer (s : State) (v : Via) (ok : Bool) (kind : Nat) (content : Bytes) : State :=
  if ok then s.answer v (Via.spdmType v) kind content else s.answer v (Via.spdmType v) spdmError []

/-- The connection is negotiated (DSP0274's order; PRESUMED). -/
def Spdm.ready (z : Spdm) : Bool := z.version && z.capabilities && z.algorithms

/-- The version and the algorithms that the responder offers (R387): ECDSA P-384 with SHA-384, secp384r1, AES-256-GCM. -/
def spdmVersion : Bytes := [0x13#8]
def spdmAlgorithms : Bytes := ascii "ECDSA-P384/SHA-384/secp384r1/AES-256-GCM"

/-- A signature of the identity key, which each channel's key ladder derives from FR, over what an answer signs, with a free
nonce (R387). -/
def Channel.identitySign (c : Channel) (content : Bytes) (nonce : Nat) : Bytes :=
  curveP384.sign (Config.identityKey c.keys.fuseRoot) nonce (sha384 (Config.signedMessage content))

/-- R387: GET_VERSION. The connection starts afresh. -/
def execGetVersion (via : Via) (body : Bytes) (s : State) : Out :=
  .next (s.finish (s.spdm via body (fun _ s =>
    (s.onSpdm (fun z => { z with version := true, capabilities := false, algorithms := false })).spdmAnswer via true 0x84
      (body ++ spdmVersion))))

/-- R387: GET_CAPABILITIES. -/
def execGetCapabilities (via : Via) (body : Bytes) (s : State) : Out :=
  .next (s.finish (s.spdm via body (fun _ s =>
    let ok := s.port.mgmt.spdm.version
    (if ok then s.onSpdm (fun z => { z with capabilities := true }) else s).spdmAnswer via ok 0xE1 body)))

/-- R387: NEGOTIATE_ALGORITHMS. -/
def execNegotiateAlgorithms (via : Via) (body : Bytes) (s : State) : Out :=
  .next (s.finish (s.spdm via body (fun _ s =>
    let ok := s.port.mgmt.spdm.version && s.port.mgmt.spdm.capabilities
    (if ok then s.onSpdm (fun z => { z with algorithms := true }) else s).spdmAnswer via ok 0xE3 (body ++ spdmAlgorithms))))

/-- The certificate chain of slot 0 (R387). -/
def Channel.chain (c : Channel) : Bytes := Config.certChain c.keys.fuseRoot c.fuses.identity

/-- R387: GET_DIGESTS. -/
def execGetDigests (via : Via) (body : Bytes) (s : State) : Out :=
  .next (s.finish (s.spdm via body (fun ch s => s.spdmAnswer via s.port.mgmt.spdm.ready 0x81 (body ++ sha384 (s.chan ch).chain))))

/-- R387: GET_CERTIFICATE. -/
def execGetCertificate (via : Via) (body : Bytes) (s : State) : Out :=
  .next (s.finish (s.spdm via body (fun ch s => s.spdmAnswer via s.port.mgmt.spdm.ready 0x82 (body ++ (s.chan ch).chain))))

/-- R387: CHALLENGE. The answer carries a free nonce and is signed with the identity key. -/
def execChallenge (via : Via) (body : Bytes) (s : State) : Out :=
  .next (s.finish (s.spdm via body (fun ch s =>
    let content := body ++ Config.freeBytes s.free
    s.spdmAnswer via s.port.mgmt.spdm.ready 0x83
      (content ++ (s.chan ch).identitySign content (Config.freeNat s.free))))
    |>.drawn)

/-- The active firmware image of a channel (R390). -/
def Flash.image (f : Flash) (i : Nat) : Bytes := f.images.getD i []

/-- The measurement blocks 1 to 6 as channel `ch` returns them (R388). -/
def State.measurements (s : State) (ch : Chan) : List Bytes :=
  let r := s.chan ch
  let both (f : Channel → Nat) : List Nat := [f s.a, f s.b]
  let image (c : Channel) : Bytes := c.flash.image c.flash.active
  [Config.measured 1 [] Config.bootRomHash, image s.a, image s.b,
   Config.measured 4 (both (·.keys.svnRun) ++ both (·.keys.fuseFloor) ++ [r.keys.rung]) [],
   Config.measured 5 [r.fuses.cfgLock.toNat] [],
   Config.measured 6 ((s.a.fuses.evidence ++ s.b.fuses.evidence).map (·.toNat)) []].map sha384

/-- R388: GET_MEASUREMENTS. -/
def execGetMeasurements (via : Via) (body : Bytes) (s : State) : Out :=
  .next (s.finish (s.spdm via body (fun ch s =>
    s.spdmAnswer via s.port.mgmt.spdm.ready 0xE0 (body ++ (s.measurements ch).flatten))))

/-- R387: KEY_EXCHANGE. A session is opened with the responder; its keys are free, and the answer is signed with the identity
key. -/
def execKeyExchange (via : Via) (body : Bytes) (s : State) : Out :=
  .next (s.finish (s.spdm via body (fun ch s =>
    let z := s.port.mgmt.spdm
    let n : SpdmSession := { id := z.nextSession, responder := ch, established := false, updates := 0 }
    let content := body ++ Config.freeBytes s.free
    (if z.ready then s.onSpdm (fun z => { z with sessions := z.sessions ++ [n], nextSession := z.nextSession + 1 }) else s).spdmAnswer
      via z.ready 0xE4 (content ++ (s.chan ch).identitySign content (Config.freeNat s.free))))
    |>.drawn)

/-- A session of the SPDM responder changed. -/
def Spdm.onSession (z : Spdm) (id : Nat) (f : SpdmSession → SpdmSession) : Spdm :=
  { z with sessions := z.sessions.map (fun n => if n.id == id then f n else n) }

/-- A request inside a session of the responder, established or not. -/
def State.spdmIn (s : State) (v : Via) (ok : SpdmSession → Bool) (kind : Nat) (body : Bytes) (f : Spdm → Nat → Spdm) : State :=
  s.spdm v body (fun ch s =>
    match v.session with
    | none => s.spdmAnswer v false kind []
    | some i =>
      if s.port.mgmt.spdm.sessions.any (fun n => n.id == i && n.responder == ch && ok n) then
        (s.spdmAnswer v true kind body).onSpdm (fun z => f z i)
      else s.spdmAnswer v false kind [])

/-- R387: FINISH. -/
def execFinish (via : Via) (body : Bytes) (s : State) : Out :=
  .next (s.finish
    (s.spdmIn via (fun n => !n.established) 0xE5 body (fun z i => z.onSession i (fun n => { n with established := true }))))

/-- R387: HEARTBEAT. -/
def execHeartbeat (via : Via) (body : Bytes) (s : State) : Out :=
  .next (s.finish (s.spdmIn via (·.established) 0xE8 body (fun z _ => z)))

/-- R387: KEY_UPDATE. -/
def execKeyUpdate (via : Via) (body : Bytes) (s : State) : Out :=
  .next (s.finish
    (s.spdmIn via (·.established) 0xE9 body (fun z i => z.onSession i (fun n => { n with updates := n.updates + 1 }))))

/-- R387: END_SESSION. -/
def execEndSession (via : Via) (body : Bytes) (s : State) : Out :=
  .next (s.finish
    (s.spdmIn via (·.established) 0xEC body (fun z i => { z with sessions := z.sessions.filter (fun n => n.id != i) })))

/-- R389: IDE_KM. Only inside a secured session are the keys of a selective stream, or of link IDE, programmed. -/
def execIdeKm (via : Via) (stream : Option (BitVec 6)) (keys : Bytes) (secure : Bool) (s : State) : Out :=
  .next (if s.port.mgmtUp via.binding && s.port.mgmt.inSession via then
      s.updPort (fun p => match stream with
        | some x => { p with ide := SMap.insert p.ide x.toNat { keys := keys, secure := secure } }
        | none => { p with linkIde := { keys := keys, secure := secure } })
    else s)

/-! ### Firmware transfer and sensors (R330, R390, R391, R433) -/

/-- An image passes the checks of R330 step 1 and R433 in a channel: its signature and its SVN. -/
def Channel.imageOk (c : Channel) (image : Bytes) : Bool := Config.imageSigned image && decide (c.keys.fuseFloor ≤ (Config.imageSvn image).toNat)

/-- The image goes into the inactive of a channel's two flash images. -/
def Flash.writeInactive (f : Flash) (image : Bytes) : Flash :=
  { f with images := if f.active == 0 then [f.image 0, image] else [image, f.image 1] }

/-- A channel in recovery writes a good image into both flash images and restarts from step 1 (R433). -/
def Channel.recover (c : Channel) (image : Bytes) : Channel :=
  if c.imageOk image then
    { c with flash := { c.flash with images := [image, image] }, resetOrder := true }
  else c

/-- A firmware image is transferred: each channel that is joined, or in recovery, verifies and writes it. -/
def State.update (s : State) (image : Bytes) : State :=
  let one (s : State) (ch : Chan) : State :=
    let c := s.chan ch
    if c.start.step == .recovery then s.setChan ch (c.recover image)
    else if !s.port.joined ch || !c.imageOk image then s
    else (s.setChan ch (c.mapFlash (·.writeInactive image))).onMgmt (fun m => match ch with
      | .a => { m with updateA := true }
      | .b => { m with updateB := true })
  one (one (s.onMgmt (fun m => { m with updateA := false, updateB := false })) .a) .b

/-- R390: REQUEST_UPDATE. ApplyComplete follows when every joined channel has written the image. -/
def execRequestUpdate (via : Via) (image : Bytes) (s : State) : Out :=
  .next (if !s.port.mgmtUp via.binding then s
    else
      let t := s.update image
      let wrote (ch : Chan) : Bool := match ch with | .a => t.port.mgmt.updateA | .b => t.port.mgmt.updateB
      t.answer via 0x01#7 0x10 [byte (s.port.joinedChans.all wrote).toNat])

/-- R390: ACTIVATE_FIRMWARE. Answered with ERROR_UNSUPPORTED_PLDM_CMD. -/
def execActivateFirmware (via : Via) (s : State) : Out :=
  .next (if s.port.mgmtUp via.binding then s.answer via 0x01#7 0x1A [0x05#8] else s)

/-- The reading of a sensor (R391): those of the rails and the input power are free. -/
def State.sensor (s : State) (n : Nat) : Option Int :=
  match n with
  | 1 => some s.a.thermal.reading
  | 2 => some s.b.thermal.reading
  | 20 => some s.devState
  | 21 => some (s.port.assay.st .a).num
  | 22 => some (s.port.assay.st .b).num
  | 23 => some s.ebb.toNat
  | _ => if 3 ≤ n && n ≤ 11 then some (Config.freeNat s.free) else none

/-- R391: GET_SENSOR_READING. -/
def execGetSensorReading (via : Via) (sensor : Nat) (s : State) : Out :=
  .next ((if !s.port.mgmtUp via.binding then s
    else match s.sensor sensor with
      | some v => s.answer via 0x01#7 0x11 (leBytes 4 sensor ++ leBytes 4 (BitVec.ofInt 32 v).toNat)
      | none => s.answer via 0x01#7 0x11 (leBytes 4 sensor)).drawn)

/-! ### The recorder's own events (R410, R411) -/

/-- R411: RECORDER_FREEZE_TIMEOUT. After 15,000,000 tides a freeze ends. -/
def execRecorderFreezeTimeout (s : State) : Out :=
  .next (match s.port.recorder.frozenAt with
    | some t => if t + 15000000 ≤ s.port.tide then s.updPort (fun p => { p with recorder := p.recorder.unfreeze }) else s
    | none => s)

/-- OPTIME has reached a multiple of 4,096: a flush starts (R410). -/
def Recorder.periodic (r : Recorder) : Recorder :=
  if r.optime % 4096 == 0 && r.optime != r.opFlushed then ({ r with opFlushed := r.optime } : Recorder).flush 4 else r

/-- R410: RECORDER_PERIODIC_FLUSH. -/
def execRecorderPeriodicFlush (s : State) : Out := .next (s.updPort (fun p => { p with recorder := p.recorder.periodic }))

/-- R410: RECORDER_FLUSH_DONE. -/
def execRecorderFlushDone (s : State) : Out := .next (s.updPort (fun p => { p with recorder := p.recorder.flushDone }))

end Sys2Proof.Machine
end

