-- ==== Sys2Proof/Machine/FnReset.lean ====
section
/-! DEFINITION. Function resets (R77, R346 to R348, R356): the request, boundary R, the verdict, boundary V. -/

namespace Sys2Proof.Machine

/-! ### Requests (R346) -/

/-- Functions with a record or work, and every function of a set (R336): the 256 functions. -/
def vfs : List Nat := allFns.drop 1

/-- A Function Level Reset of PF0 resets every function, of a VF that VF. -/
def State.flr (s : State) (f : Nat) : State :=
  if f == 0 then s.requestReset allFns true false else s.requestReset [f] false false

/-- R346: FUNCTION_LEVEL_RESET. -/
def execFunctionLevelReset (fn : BitVec 8) (s : State) : Out :=
  .next (s.finish (if s.port.start.linkUp then s.flr fn.toNat else s))

/-- R346: VF_ENABLE_CLEAR. PF0 clears VF Enable, which the configuration that made it VFs had set. -/
def execVfEnableClear (s : State) : Out :=
  .next (s.finish (if !s.port.start.linkUp then s
    else (s.updPort (fun p => { p with sriov := { p.sriov with vfEnable := false } })).requestReset vfs true false))

/-! ### Boundary R -/

/-- A command of the functions, with an intake number at or below N. -/
def resetTakes (fns : List Nat) (n : Nat) (k : Packet) : Bool := fns.contains k.hdr.function.toNat && decide (k.intakeNo ≤ n)

/-- A packet not yet decoded would write an object. -/
def Packet.writes (k : Packet) : Bool :=
  match Op.ofCode k.hdr.opcode.toNat with
  | some o => !k.hdr.halved && (o.writes k.hdr.function.toNat k.payload).isSome
  | none => false

/-- The keys that a function's items hold handles on stay with them, so that a writer which has flipped in one channel is carried
to its flip in the other (R282, R347). -/
def Channel.keepKeys (c : Channel) (f : Nat) : Channel :=
  c.onSched (fun d => { d with items := d.items.map (fun (x : Item) => if x.fn == f && x.read then { x with kept := c.held x } else x) })

/-- What of a function goes at boundary R: its volatile count rises, and cache entries, streams and sessions go (R348). -/
def Channel.wipeFn (c : Channel) (f intakeNo : Nat) : Channel :=
  let c := c.keepKeys f
  let k := c.keys
  let n := (SMap.get 0 k.vc f + 1) % 2 ^ 32
  let mine := c.rakes.streams.filter (fun x => x.1 / 64 == f)
  let r := c.rakes.countCrust (mine.map (·.2))
  let c : Channel := { c with
    keys := { k with vc := SMap.set 0 k.vc f n
                     cache := k.cache.filter (fun e => e.function.toNat != f)
                     sessions := k.sessions.filter (fun x => x.function != f) }
    rakes := { r with streams := r.streams.filter (fun x => x.1 / 64 != f) } }
  let c := mine.foldl (fun c x => c.journalWrite intakeNo x.1 (.stream x.1 Stream.free)) c
  c.journalWrite intakeNo f (.volatileCount f n)

/-- A stream command whose job has begun is stopped: its lane is wiped with its context, and it holds again before its commit
point (R201, R203, R347). -/
def Channel.holdStream (c : Channel) (x : Item) : Channel :=
  let stream := x.op == .streamOpen || x.op == .streamUpdate || x.op == .streamFinal
  match x.phase with
  | .engine => if stream then (c.stop x).enter { x with stage := 0, saved := true } else c
  | _ => c

/-- Boundary R in a channel: halved commands and those that write nothing are removed, committed writers listed, the others
held. -/
def Channel.resetR (c : Channel) (fns : List Nat) (n : Nat) : Channel :=
  let gone := c.sched.items.filter (fun x => resetTakes fns n x.pkt && !x.writer)
  let c := c.onSched (fun d => { d with fanout := d.fanout.filter (fun k => !resetTakes fns n k || k.writes) })
  let c := gone.foldl (fun c x => match c.item? x.id with
    | some y => c.removeItem y
    | none => c) c
  let held := c.sched.items.filter (fun x => resetTakes fns n x.pkt && !c.committed x)
  let c := held.foldl (fun c x => match c.item? x.id with
    | some y => c.holdStream y
    | none => c) c
  let c := fns.foldl (fun c f => c.wipeFn f n) c
  let list := (c.writersDone.filter (fun w => fns.contains w.1 && decide (w.2 ≤ n))).map (·.2)
    ++ (c.sched.items.filter (fun x => resetTakes fns n x.pkt && c.committed x)).map (·.pkt.intakeNo)
  { c with resetList := some (c.resetList.getD [] ++ list), resetting := c.resetting ++ [(fns, n)] }

/-- Boundary R: every reset whose R has come, in each channel that serves; with no channel joined no list is awaited. -/
def State.resetBoundaryR (s : State) : State :=
  (s.port.resets.foldl (fun s r =>
    chans.foldl (fun s ch =>
      let c := s.chan ch
      if !s.port.serving ch || c.tide < r.r || r.v.isSome || c.resetting.contains (r.fns, r.n) then s
      else s.setChan ch (c.resetR r.fns r.n)) s) s).updPort (·.resetVerdicts)

/-- R347: FUNCTION_RESET_BOUNDARY_R. -/
def execFunctionResetBoundaryR (s : State) : Out := .next (s.finish s.resetBoundaryR)

/-! ### Verdict -/

/-- A channel's list reaches the port die. -/
def State.resetListIn (s : State) (ch : Chan) : State :=
  let c := s.chan ch
  match c.resetList with
  | none => s
  | some l =>
    let take (r : FnReset) : FnReset :=
      if (r.list ch).isNone && c.resetting.contains (r.fns, r.n) then r.setList ch l else r
    (s.setChan ch { c with resetList := none }).updPort (fun p => ({ p with resets := p.resets.map take } : PortDie).resetVerdicts)

/-- R347: RESET_LIST_RECEIVED. -/
def execResetListReceived (ch : Chan) (s : State) : Out := .next (s.resetListIn ch)

/-- Channels whose list has not come by the end of tide R + 15 are retired, and the verdict is formed without them. -/
def State.resetLate (s : State) : State :=
  let late (ch : Chan) : Bool :=
    s.port.resets.any (fun r => r.v.isNone && decide (r.r + 15 < s.port.tide) && (r.list ch).isNone)
  let s := (s.port.joinedChans.filter late).foldl (fun s ch => s.retire ch 4) s
  s.updPort (·.resetVerdicts)

/-- R347: RESET_LIST_TIMEOUT. -/
def execResetListTimeout (s : State) : Out := .next (s.finish s.resetLate)

/-! ### Boundary V -/

/-- A channel acts on the verdict: writers of the union run on, every other writer of the functions is discarded. -/
def Channel.resetV (c : Channel) (fns : List Nat) (n : Nat) (union : List Nat) : Channel :=
  let out (k : Packet) : Bool := resetTakes fns n k && !union.contains k.intakeNo
  let gone := c.sched.items.filter (fun x => out x.pkt)
  let c := c.onSched (fun d => { d with fanout := d.fanout.filter (fun k => !out k) })
  let c := gone.foldl (fun c x => match c.item? x.id with
    | some y => c.removeItem y
    | none => c) c
  ({ c with resetting := c.resetting.erase (fns, n) } : Channel).settle

/-- A queue context after a function reset: pointers, PHASE, OVERRUN and interrupt state go, the SH fields stay (R77). -/
def QCtx.fnReset (x : QCtx) : QCtx :=
  { QCtx.reset with shadow := x.shadow, conf := x.conf, cfgErr := x.cfgErr }

/-- A function's own registers after its reset: INTAKE_ERR, FN_ERR and FN_QSEL are cleared (R347, R418). -/
def Fn.fnReset (x : Fn) : Fn :=
  { x with intakeCause := 0#4, intakeMore := false, intakeQueue := 0#16, intakeExpected := 0#32, errIntake := false,
           errDmaRead := false, errDmaWrite := false, errVector := false, errIde := false, qsel := 0#16 }

/-- The port die's part of boundary V. -/
def PortDie.resetDone (p : PortDie) (r : FnReset) : PortDie :=
  let p := (p.queuesOf r.fns).foldl (fun p q => p.setQueue q (p.queue q).fnReset) p
  let p := { p with fns := p.fns.map (fun (x : Nat × Fn) => if r.fns.contains x.1 then (x.1, x.2.fnReset) else x) }
  { p with resets := p.resets.erase r }

/-- Boundary V of every reset whose V has come. With no channel joined, the channels' part waits for their join (R440). -/
def State.resetBoundaryV (s : State) : State :=
  (s.port.resets.filter (fun r => r.v.any (fun v => decide (v ≤ s.port.tide)))).foldl (fun s r =>
    let s := chans.foldl (fun s ch =>
      if (s.chan ch).resetting.contains (r.fns, r.n) then s.upd ch (fun c => c.resetV r.fns r.n r.union) else s) s
    let none_ := !s.port.serving .a && !s.port.serving .b
    { s with host := s.host.dropPba r.fns }.updPort (fun p => { (p.resetDone r) with wipes := if none_ then (p.wipes ++ r.fns).eraseDups else p.wipes })) s

/-- R347: FUNCTION_RESET_BOUNDARY_V. -/
def execFunctionResetBoundaryV (s : State) : Out := .next (s.finish s.resetBoundaryV)

end Sys2Proof.Machine
end

