-- ==== Sys2Proof/Machine/Refill.lean ====
section
/-! DEFINITION. The sluice session, refill and join (R21, R22, R109, R326 to R330, R436), checkpoints (R325), planned
retirement (R330) and the channel reset (R429). -/

namespace Sys2Proof.Machine

/-! ### After-images (R323) -/

/-- Keys and their records listed. -/
def SMap.setAll {α : Type} [DecidableEq α] (d : α) (m : SMap α) (l : List (Nat × α)) : SMap α :=
  l.foldl (fun m p => SMap.set d m p.1 p.2) m

/-- Records written by a flip, a destroy or a change in place: a session of a slot whose generation goes ends with it. -/
def Channel.applySlot (c : Channel) (recs : List (Nat × Bytes)) : Channel :=
  let home := (recs.headD (0, [])).1
  let old := c.keys.header home
  let k := c.keys.writeRecords recs
  let new := k.header home
  if new.generation == old.generation && new.state == 1#2 then { c with keys := k }
  else { c with keys := { (k.dropSession home) with cache := k.cache.filter (fun e => !recs.any (fun r => r.1 == e.slot)) } }

/-- A use ledger entry, or its removal. -/
def Keys.applyLedger (k : Keys) (e : LedgerEntry) : Keys :=
  if !e.live then k.ledgerDrop e.function e.slot
  else match k.ledgerOf e.function e.slot with
    | some y => { k with ledger := k.ledger.map (fun z => if z.id == y.id then { z with left := e.left } else z) }
    | none => k.ledgerSet e.function e.slot e.left

/-- An after-image is applied. -/
def Channel.applyImage (c : Channel) (i : Image) : Channel :=
  let k := c.keys
  match i with
  | .slot recs => c.applySlot recs
  | .basin n b entry index =>
    { c with keys := { k with basins := SMap.insert k.basins n b, entries := SMap.setAll 0 k.entries entry,
                              index := SMap.setAll 0 k.index index } }
  | .dukpt n r => { c with keys := { k with dukpt := SMap.set DukptRec.unbound k.dukpt n r } }
  | .stream n x => { c with rakes := { c.rakes with streams := SMap.set Stream.free c.rakes.streams n x } }
  | .ledger e => { c with keys := k.applyLedger e }
  | .exhaustion slot g t =>
    let k := k.rewrite slot g id (fun y => { y with exhausted := true, exhaustedFrom := t })
    { c with keys := { k with exhaustAt := if k.exhaustAt.contains (slot, g, t) then k.exhaustAt else k.exhaustAt ++ [(slot, g, t)] } }
  | .management x => if x.isRecord then (c.change 0 x).1 else c
  | .session slot x => { c with keys := { (k.dropSession slot) with sessions := (k.dropSession slot).sessions ++ x.toList } }
  | .volatileRoot v => { c with keys := { k with vr := some v } }
  | .volatileCount f n =>
    { c with keys := { k with vc := SMap.set 0 k.vc f n, sessions := k.sessions.filter (fun x => x.function != f) }
             rakes := { c.rakes with streams := c.rakes.streams.filter (fun x => x.1 / 64 != f) } }

/-! ### The sluice session (R21, R22) -/

/-- A copy of the root record opens in a channel: its rung can be reached and its check value holds (R278). -/
def Channel.openCopy (c : Channel) (r : RootCopy) : Option Bytes :=
  if c.keys.svnRun < r.rung then none
  else match kwUnwrap (c.derive r.rung "SDK-WRAP") r.wrapped with
    | some sdk => if rootCheck sdk r.rung r.seq r.wrapped == r.check then some sdk else none
    | none => none

/-- The copy with the highest sequence number that opens (R278). -/
def Channel.topCopy (c : Channel) : Option RootCopy :=
  (c.keys.rootCopies.filter (fun r => (c.openCopy r).isSome)).foldl (fun b r => match b with
    | none => some r
    | some y => if y.seq < r.seq then some r else some y) none

/-- The channel makes the copy of a rung its only one, and its floor is raised to it (R280 step 4). -/
def Channel.settleRung (c : Channel) (r : RootCopy) : Channel :=
  { c with keys := { c.keys with rootCopies := [r], rung := r.rung, fuseFloor := max c.keys.fuseFloor r.rung, commit := none } }

/-- The channel keeps its copy `x` and writes one of its peer's `y`. -/
def Channel.copyPeer (c : Channel) (x y : RootCopy) : Channel :=
  { c with keys := { c.keys with rootCopies := [x, c.rootCopy (c.keys.sdk.getD []) y.rung y.seq], rung := y.rung } }

/-- The channel holds a copy of an older rung beside `r`. -/
def Channel.olderCopy (c : Channel) (r : RootCopy) : Bool := c.keys.rootCopies.any (fun z => decide (z.rung < r.rung))

/-- The commit's message completes, with its effect tide X. -/
def State.endSvn (s : State) (result : Nat) : State :=
  match s.port.svnTarget with
  | none => s
  | some (_, x) =>
    let s := s.updPort (fun p => { p with svnTarget := none })
    match s.port.mgmt.messages.find? (fun m => m.code == 0x51 && m.started && m.result.isNone) with
    | none => s
    | some m => s.completeChange m (result, []) (if result == 0 then x else 0)

/-- Both channels have raised their floors. -/
def State.svnDone (s : State) : State :=
  match s.port.svnTarget with
  | none => s
  | some (t, _) =>
    if s.a.keys.rung == t && s.b.keys.rung == t && s.a.keys.commit.isNone && s.b.keys.commit.isNone then s.endSvn 0 else s

/-- Copies of equal sequence numbers: where their check values match, a channel that still holds the older rung raises its
floor and erases it; a mismatch leaves the commit pending in such a channel and is recorded (R280). -/
def State.matchRungs (s : State) (x y : RootCopy) : State :=
  let one (s : State) (ch : Chan) (r : RootCopy) : State := s.upd ch (fun c =>
    if !c.olderCopy r then c
    else if x.check == y.check then c.settleRung r
    else { c with keys := { c.keys with commit := some { target := r.rung, since := c.tide, written := true } } })
  let t := one (one s .a x) .b y
  if x.check != y.check && (s.a.olderCopy x || s.b.olderCopy y) then t.updPort (fun p => p.record 0x019 x.rung) else t

/-- The root records of the two channels after an SVN commit that did not end (R280's table): the channel with the lower
sequence number writes a copy of its peer's rung, and both new copies are then complete. -/
def State.repairRungs (s : State) : State :=
  match s.a.topCopy, s.b.topCopy with
  | some x, some y =>
    let s := if x.seq < y.seq then s.upd .a (·.copyPeer x y) else if y.seq < x.seq then s.upd .b (·.copyPeer y x) else s
    match s.a.topCopy, s.b.topCopy with
    | some x, some y => (s.matchRungs x y).svnDone
    | _, _ => s
  | _, _ => s

/-- The session ends: both channels hold none, an exchange of entropy starts again, and a channel that was ready to join
catches up again. -/
def State.endSluice (s : State) : State :=
  let t := s.port.tide
  let off (c : Channel) : Channel :=
    { c with sluice := false, sluiceRetry := false, link := { Link.none with session := c.link.session }
             health := { c.health with noSluiceFrom := some (c.health.noSluiceFrom.getD t) }
             rng := { c.rng with renewal := c.rng.renewal.map (fun r => if r.target.isSome then r else Renewal.fresh) } }
  let back (y : Assay) : Assay :=
    { (chans.foldl (fun y ch => if y.st ch == .ready then y.setSt ch .refilling else y) y) with joinAt := none }
  ((s.upd .a off).upd .b off).updPort (fun p => { p with assay := back p.assay })

/-- A message that `sender` sent fails its tag: it is sent again once; a second failure ends the session. -/
def State.sluiceTag (s : State) (sender : Chan) : State :=
  if !s.sluiceUp then s
  else
    let again := (s.chan sender).sluiceRetry
    let s := s.updPort (fun p => p.record 0x008 sender.idx)
    if again then (s.endSluice).updPort (fun p => p.record 0x009 0)
    else s.upd sender (fun c => { c with sluiceRetry := true, link := c.link.spend none })

/-- R22: SLUICE_TAG_FAIL. -/
def execSluiceTagFail (sender : Chan) (s : State) : Out := .next (s.finish (s.sluiceTag sender))

/-- The channel can take part in an agreement: step 9, or past it. -/
def Channel.agrees (c : Channel) : Bool := c.start.step == .sluice || c.start.step == .join || c.start.step == .service

/-- The fuse root check value that a channel presents (R273). -/
def Channel.rootShown (c : Channel) : Bytes := (sha256 (ascii "LX96-FR-CHECK" ++ c.keys.fuseRoot)).take 16

/-- The fuse root check values agree. Equal roots give equal values. -/
def State.rootsMatch (s : State) : Bool := s.a.keys.fuseRoot == s.b.keys.fuseRoot || s.a.rootShown == s.b.rootShown

/-- What a channel draws for an agreement: its ephemeral ECDH P-384 scalar, the seed of the ML-KEM-768 key it is sent an
encapsulation to, the material of the encapsulation it sends, and the nonces of its two signatures. -/
structure Ephemeral where
  scalar : Nat
  seed : Bytes
  m : Bytes
  nonce : Nat
  rnd : Bytes

/-- A channel's ephemeral values, which are free. -/
def Ephemeral.free (n : Nat) : Ephemeral :=
  { scalar := (curveOf 0x12).scalar (Config.freeBytes n), seed := fitR 64 (Config.freeBytes (n + 1)),
    m := fitR 32 (Config.freeBytes (n + 2)), nonce := Config.freeNat (n + 3), rnd := fitR 32 (Config.freeBytes (n + 4)) }

/-- What a channel presents (R21): its share and encapsulation signed by its identity keys, ECDSA P-384 and ML-DSA-65. -/
def Channel.hello (c : Channel) (measured : List Bytes) (own peer : Ephemeral) : Hello :=
  let share := curveP384.encode (curveP384.base own.scalar)
  let enc := (mlkemEncap 0x32 (mlkemPublic 0x32 peer.seed) own.m).1
  { identity := c.fuses.identity, rootCheck := c.rootShown, signer := Config.imageSigner (c.flash.image c.flash.active),
    svn := c.keys.svnRun, measurements := measured, share := share, kemKey := mlkemPublic 0x32 own.seed, encapsulation := enc,
    ecdsa := curveP384.sign (Config.identityKey c.keys.fuseRoot) own.nonce (sha384 (share ++ enc)),
    mldsa := (mldsaSign 0x42 (Config.identitySeed c.keys.fuseRoot) (share ++ enc) own.rnd).1 }

/-- Both signatures of a peer verify under the identity keys of the channel's own device. -/
def Channel.trusts (c : Channel) (h : Hello) : Bool :=
  let signed := h.share ++ h.encapsulation
  curveP384.verify (curveP384.encode (curveP384.base (Config.identityKey c.keys.fuseRoot))) (sha384 signed) h.ecdsa
  && mldsaVerify 0x42 (mldsaPublic 0x42 (Config.identitySeed c.keys.fuseRoot)) signed h.mldsa

/-- What channel `ch` presents in the agreement under way. -/
def State.helloOf (s : State) (ch : Chan) : Hello :=
  let x := Ephemeral.free s.free
  let y := Ephemeral.free (s.free + 5)
  match ch with
  | .a => s.a.hello (s.measurements .a) x y
  | .b => s.b.hello (s.measurements .b) y x

/-- Each channel trusts what its peer presents. Under one fuse root both hold the same identity keys, whose own signatures
verify. -/
def State.trusted (s : State) : Bool :=
  s.a.keys.fuseRoot == s.b.keys.fuseRoot || s.a.trusts (s.helloOf .b) && s.b.trusts (s.helloOf .a)

/-- Each channel presents itself; the values drawn are used up. -/
def State.present (s : State) : State :=
  let x := s.helloOf .a
  let y := s.helloOf .b
  { ((s.upd .a (fun c => { c with link := { c.link with hello := some x } })).upd .b
      (fun c => { c with link := { c.link with hello := some y } })) with free := s.free + 10 }

/-- The keys of a session from both shared secrets: that of the ECDH shares, and those that the two encapsulations carry,
channel A's first. -/
def sessionKeys (a b : Ephemeral) : Bytes × Bytes :=
  let c := curveOf 0x12
  let z := (c.agree a.scalar (c.encode (c.base b.scalar))).getD []
  let kem (x y : Ephemeral) : Bytes := (mlkemEncap 0x32 (mlkemPublic 0x32 y.seed) x.m).2
  Config.sluiceKeys z (kem a b ++ kem b a)

/-- A session stands: its keys are fresh, from the values that both drew, counter `n` on, and its counters start again. -/
def State.openSluice (s : State) (n : Nat) : State :=
  let k := sessionKeys (Ephemeral.free n) (Ephemeral.free (n + 5))
  let number := max s.a.link.session s.b.link.session + 1
  let on (send recv : Bytes) (c : Channel) : Channel :=
    { c with sluice := true, sluiceRetry := false, health := { c.health with noSluiceFrom := none }
             link := { Link.none with session := number, sendKey := send, recvKey := recv, hello := c.link.hello } }
  (s.upd .a (on k.1 k.2)).upd .b (on k.2 k.1)

/-- The device identities, fuse root check values, signers, versions and signatures allow a session (R21). -/
def State.mayAgree (s : State) : Bool :=
  let a := s.a
  let b := s.b
  let staged := s.port.mgmt.updateA || s.port.mgmt.updateB
  a.fuses.identity == b.fuses.identity && s.rootsMatch && s.trusted
  && Config.imageSigner (a.flash.image a.flash.active) == Config.imageSigner (b.flash.image b.flash.active)
  && (staged || a.keys.svnRun == b.keys.svnRun) && a.rng.state != .failed && b.rng.state != .failed

/-! ### Reconciliation and checkpoints (R325, R436) -/

/-- The bytes of a checkpoint record that its CMAC covers: the spec gives its fields and no layout (DESIGN CHOICE, log 234). -/
def Checkpoint.bytes (k : Checkpoint) : Bytes :=
  leBytes 8 k.lowWater ++ leBytes 8 k.fromJseq ++ leBytes 8 k.nextJseq ++ leBytes 8 k.tide ++ leBytes 16 k.rung

/-- A checkpoint record sealed under the channel's K_REC. -/
def Channel.sealCheck (c : Channel) (k : Checkpoint) : Checkpoint := { k with mac := aesCmac c.keys.sealKeys.mac k.bytes }

/-- A checkpoint record opens. -/
def Channel.checkOpens (c : Channel) (k : Checkpoint) : Bool := (c.sealCheck k).mac == k.mac

/-- A checkpoint record is written into the older of the two places. -/
def Channel.writeCheckpoint (c : Channel) (low : Nat) : Channel :=
  let j := c.journal
  let from_ := ((j.ring.filter (fun d => low < d.intake)).map (·.jseq)).foldl min j.nextJseq
  let k : Checkpoint := { lowWater := low, fromJseq := from_, nextJseq := j.nextJseq, tide := c.tide,
                          rung := c.keys.journalRung, mac := [] }
  let k := c.sealCheck k
  { c with journal := if j.newerB then { j with checkA := some k, newerB := false }
                      else { j with checkB := some k, newerB := true } }

/-- The start checkpoint of R436. -/
def Channel.startCheckpoint (c : Channel) : Channel :=
  let j := c.journal
  let k : Checkpoint := { lowWater := 0, fromJseq := j.nextJseq, nextJseq := j.nextJseq, tide := c.tide,
                          rung := c.keys.journalRung, mac := [] }
  let k := c.sealCheck k
  { c with journal := { j with checkA := some k, checkB := none, newerB := false, lowWater := 0 }
           start := { c.start with unchecked := false } }

/-- Every 4,096 tides each channel in service writes a checkpoint. -/
def Channel.checkpointDue (c : Channel) : Channel :=
  let last := max ((c.journal.checkA.map (·.tide)).getD 0) ((c.journal.checkB.map (·.tide)).getD 0)
  if c.start.step == .service && decide (last + 4096 ≤ c.tide) then c.writeCheckpoint c.journal.lowWater else c

/-- R325: CHECKPOINT_TIMER. -/
def execCheckpointTimer (ch : Chan) (s : State) : Out := .next (s.upd ch (·.checkpointDue))

/-- The persistent regions and management records of `src` in a channel (R328, R436). -/
def Channel.copyFrom (c src : Channel) : Channel :=
  let k := c.keys.setRegions src.keys.regions
  { c with refill := { c.refill with partialCopy := false }, keys := { k with retained := [], cache := [] }, records := src.records
           tamper := if c.tamper.boot then c.tamper else { c.tamper with levels := src.records.levels }
           flash := { src.flash with images := c.flash.images, active := c.flash.active, board := c.flash.board } }

/-- The channel holds a whole state of its own: HBM kept it, and no refill that ended early left it partial (R460). -/
def Channel.hasState (c : Channel) : Bool := c.start.hbmKept && !c.refill.partialCopy

/-- The channel whose state stands at a first start that kept HBM: channel A when both completed step 8 within 25,000
tides, else the first; a channel that lost its content, or holds part of a refill, is no source (R436, R460). -/
def State.source (s : State) : Chan :=
  match s.a.hasState, s.b.hasState with
  | true, false => .a
  | false, true => .b
  | _, _ => match s.a.start.step8At, s.b.start.step8At with
    | some x, some y => if y + 25000 < x then .b else .a
    | none, some _ => .b
    | _, _ => .a

/-- Both channels reconcile before either joins (R436). -/
def State.reconcile (s : State) : State :=
  let s := if s.a.start.hbmKept || s.b.start.hbmKept then
      let x := s.source
      s.upd x.peer (fun c => c.copyFrom (s.chan x))
    else s
  (s.upd .a (·.startCheckpoint)).upd .b (·.startCheckpoint)

/-! ### The choice of a refill (R326) -/

/-- The newer checkpoint record of those that open. -/
def Channel.newerCheck (c : Channel) : Option Checkpoint :=
  let j := c.journal
  let l := (if j.newerB then [j.checkB, j.checkA] else [j.checkA, j.checkB]).filterMap id
  l.find? c.checkOpens

/-- The JSEQ from which a survivor sends for low-water `low`: that of its latest checkpoint at or below it, or of the first
delta above it; none when its ring no longer reaches there. -/
def Journal.sendFrom (j : Journal) (low : Nat) : Option Nat :=
  let fit := ([j.checkA, j.checkB].filterMap id).filter (fun k => k.lowWater ≤ low)
  let latest := fit.foldl (fun (b : Option Checkpoint) k => match b with
    | none => some k
    | some y => if y.tide < k.tide then some k else some y) none
  let oldest := (j.ring.head?.map (·.jseq)).getD j.nextJseq
  match latest with
  | some k => if oldest ≤ k.fromJseq then some k.fromJseq else none
  | none =>
    if oldest == 0 || j.ring.head?.any (fun d => d.intake ≤ low) then
      some (((j.ring.filter (fun d => low < d.intake)).map (·.jseq)).foldl min j.nextJseq)
    else none

/-- The refill of channel `x` begins: a journal refill where R326 allows it, a full copy otherwise. -/
def State.beginRefill (s : State) (x : Chan) : State :=
  let c := s.chan x
  let j := (s.chan x.peer).journal
  let plan := match c.newerCheck with
    | none => none
    | some k => if c.start.hbmKept && !c.start.unchecked && !c.refill.persistentLost then (j.sendFrom k.lowWater).map (fun n => (k.lowWater, n)) else none
  let r : Refill := match plan with
    | some (low, n) => { Refill.reset with step := .repairList, low := low, nextSend := n }
    | none => { Refill.reset with step := .regions, nextSend := j.nextJseq }
  let s := s.upd x (fun c => { c with refill := { r with partialCopy := c.refill.partialCopy } })
  s.updPort (fun p => { p with assay := { (p.assay.setSt x .refilling) with
    refillActive := true, refillB := x == .b, refillFull := plan.isNone } })

/-- The channel at a step of its start. -/
def Channel.toStep (c : Channel) (v : StartStep) : Channel := { c with start := { c.start with step := v } }

/-- The channel stays out of service, in state 1 (R433, R434, R437). -/
def State.staysOut (s : State) (ch : Chan) (v : StartStep) : State :=
  (s.upd ch (·.toStep v)).updPort (fun p => { p with assay := p.assay.setSt ch .starting })

/-- The agreement is complete: a session stands, and what waited for it goes on: the first join, or the refill of a channel
whose peer is joined. A refused channel never joins; at a first start channel A joins alone (R437). One that completes when
a channel has left its wait and J0 is still to come lets the other refill after J0 (R440). -/
def State.agreement (s : State) : State :=
  if !s.a.agrees || !s.b.agrees || s.sluiceUp then s
  else
    let m := s.rootsMatch
    let n := s.free
    let may := s.mayAgree
    let s := s.present
    let s := (s.upd .a (fun c => { c with fuses := { c.fuses with peerMatch := m } })).upd .b
      (fun c => { c with fuses := { c.fuses with peerMatch := m } })
    let first := !s.port.serving .a && !s.port.serving .b
    if !may then
      if first then
        let s := ((s.upd .a (·.toStep .join)).staysOut .b .failed).upd .a (·.mapRng (·.trigger))
        s.updPort (fun p => p.record 0x015 1)
      else chans.foldl (fun s ch => if (s.chan ch).start.step == .sluice then s.upd ch (·.toStep .failed) else s) s
    else
      let s := (s.openSluice n).repairRungs
      if first then
        if s.a.start.step == .sluice && s.b.start.step == .sluice then
          let ready (c : Channel) : Channel := (c.toStep .join).mapRng (·.trigger)
          ((s.reconcile).upd .a ready).upd .b ready
        else s
      else chans.foldl (fun s ch =>
        if (s.chan ch).start.step == .sluice then (s.upd ch (·.toStep .join)).beginRefill ch else s) s

/-- R21: SLUICE_AGREEMENT_DONE. -/
def execSluiceAgreementDone (s : State) : Out := .next (s.finish s.agreement)

/-! ### The refill's messages (R327, R328) -/

/-- The channel that refills. -/
def State.refilling (s : State) : Option Chan := if s.port.assay.refillActive then some (homeChan s.port.assay.refillB) else none

/-- The refill's exchange at one of its steps, while a session stands. -/
def State.refillAt (s : State) (ok : RefillStep → Bool) (f : Chan → State) : State :=
  match s.refilling with
  | none => s
  | some x => if s.sluiceUp && ok (s.chan x).refill.step then f x else s

/-- The channel's refill goes to a step. -/
def Channel.refillStep (c : Channel) (v : RefillStep) : Channel := { c with refill := { c.refill with step := v } }

/-- The image is of a halved stream's context, which no other channel shares (R194, R203). -/
def Image.halvedStream (i : Image) : Bool :=
  match i with
  | .stream n _ => decide (32 ≤ n % 64)
  | _ => false

/-- The current image of every object that X changed above its L is written and journaled in X. -/
def State.repair (s : State) (x : Chan) : State :=
  let src := s.chan x.peer
  let s := (s.sluiceMsg x .repairList).sluiceMsg x.peer .repairImage
  s.upd x (fun c =>
    let from_ : Nat := match c.newerCheck with
      | some k => k.fromJseq
      | none => 0
    let mine := c.journal.ring.filter (fun d => decide (from_ ≤ d.jseq) && (d.intake == 0 || decide (c.refill.low < d.intake))
      && !d.image.halvedStream)
    let c := mine.foldl (fun (c : Channel) d =>
      let i := src.currentImage d.image
      (c.applyImage i).journalWrite 0 d.object i) c
    let c := if mine.any (fun d => d.kind == 20) then
        { c with records := src.records, flash := { src.flash with images := c.flash.images, active := c.flash.active, board := c.flash.board } }
      else c
    c.refillStep .replay)

/-- R327: REPAIR_LIST_RECEIVED. -/
def execRepairListReceived (s : State) : Out := .next (s.refillAt (· == .repairList) s.repair)

/-- A delta is applied and journaled in X, and the next one is awaited. One of a halved stream changes nothing: X has that
context free (R203, R323). -/
def Channel.takeDelta (c : Channel) (d : Delta) : Channel :=
  let c := if d.image.halvedStream then c else (c.applyImage d.image).journalWrite d.intake d.object d.image
  { c with refill := { c.refill with nextSend := d.jseq + 1 } }

/-- The survivor's ring has been overwritten past the point X needs (R326). -/
def State.overwritten (s : State) (x : Chan) : Bool :=
  let j := (s.chan x.peer).journal
  decide ((s.chan x).refill.nextSend < (j.ring.head?.map (·.jseq)).getD j.nextJseq)

/-- The refill switches to a full copy. -/
def State.switchFull (s : State) (x : Chan) : State :=
  let n := (s.chan x.peer).journal.nextJseq
  let s := s.upd x (fun c => { c with refill := { Refill.reset with step := .regions, nextSend := n } })
  s.updPort (fun p => { p with assay := { p.assay with refillFull := true } })

/-- The next delta before the join. -/
def State.nextDelta (s : State) (x : Chan) : State :=
  if s.overwritten x then s.switchFull x
  else match (s.toSend x).head? with
    | some d => (s.sluiceMsg x.peer (.delta d)).upd x (·.takeDelta d)
    | none => s

/-- The regions arrive in a full copy: X's journal starts afresh. -/
def State.regionImage (s : State) (x : Chan) : State :=
  (s.sluiceMsg x.peer .regionImage).upd x (fun c => ({ (c.copyFrom (s.chan x.peer)) with journal := { c.journal with ring := [], checkA := none, checkB := none } }
    : Channel).refillStep .snapshots)

/-- R328: REGION_IMAGE_RECEIVED. -/
def execRegionImageReceived (s : State) : Out := .next (s.refillAt (· == .regions) s.regionImage)

/-- The retained epochs of the survivor and the P_f in force. -/
def Channel.takeRetained (c src : Channel) : Channel :=
  let g := src.rng
  { c with rng := { c.rng with epochs := g.epochs, seed0 := g.seed0, current := g.current, epochTide := g.epochTide,
                               person := g.person, personNext := g.personNext } }

/-- The twin epochs and P_f of the survivor, and a renewal whose target is fixed (R296). -/
def Channel.takeEpochs (c src : Channel) : Channel :=
  let g := src.rng
  let c := c.takeRetained src
  { c with rng := { c.rng with uses := g.uses, renewal := g.renewal.filter (fun r => r.target.isSome) } }

/-- An epoch that the survivor formed or released after the snapshot reaches the channel that catches up (R296). -/
def State.shareEpochs (s : State) : State :=
  match s.refilling with
  | none => s
  | some x =>
    if (s.chan x).refill.step != .catchUp || s.port.assay.st x == .joined || !s.port.joined x.peer || !s.sluiceUp then s
    else s.upd x (fun c => c.takeRetained (s.chan x.peer))

/-- Twin stream contexts (R194). -/
def twinStreams (m : SMap Stream) : SMap Stream := m.filter (fun x => x.1 % 64 < 32)

/-- The snapshots: generator state, VR and every VC_f, the use ledger, twin streams (R327 step 3). -/
def Channel.takeSnapshot (c src : Channel) : Channel :=
  let k := c.keys
  let y := src.keys
  let c := c.takeEpochs src
  { c with keys := { k with vr := y.vr, vc := y.vc, ledger := y.ledger, nextLedger := y.nextLedger, exhaustAt := y.exhaustAt }
           rakes := { c.rakes with streams := twinStreams src.rakes.streams } }

/-- R327: STATE_SNAPSHOT_RECEIVED. In a journal refill it follows the last delta of the replay. -/
def execStateSnapshotReceived (s : State) : Out :=
  .next (s.refillAt (fun v => v == .replay || v == .snapshots) (fun x =>
    if (s.chan x).refill.step == .replay && !(s.toSend x).isEmpty then s
    else (s.sluiceMsg x.peer .snapshot).upd x (fun c => (c.takeSnapshot (s.chan x.peer)).refillStep .catchUp)))

/-! ### The join (R109, R329) -/

/-- The tide is tide J − 1 of a join, and the channel the survivor: it caps its twin bookings (R109). -/
def State.capsIn (s : State) (ch : Chan) : Bool :=
  s.refilling == some ch.peer && s.port.assay.joinAt == some (s.port.tide + 1)

/-- In tide J − 1 the survivor caps its twin bookings. -/
def State.joinCapTide (s : State) : State :=
  let cap (s : State) (ch : Chan) : State :=
    if s.capsIn ch then s.upd ch (fun c => { c with skim := { c.skim with joinCap := true } }) else s
  cap (cap s .a) .b

/-- At a boundary the cap ends with tide J − 1, and begins with it. -/
def State.joinCapStep (s : State) : State :=
  let off (c : Channel) : Channel := { c with skim := { c.skim with joinCap := false } }
  ((s.upd .a off).upd .b off).joinCapTide

/-- R109: JOIN_CAP_TIDE. -/
def execJoinCapTide (s : State) : Out := .next s.joinCapTide

/-- The SH values in force are loaded into a channel before it joins (R420), with the lower ebb threshold and share of the
two channels (R453). -/
def Channel.loadKept (c : Channel) (k : Kept) : Channel :=
  let c := c.mapSched (fun r => { r with twinSkimShadow := k.twinSkim, twinSkim := k.twinSkim, maskShadow := k.mask, mask := k.mask })
  let c := c.mapSkim (fun r => { r with rakesShadow := k.rakes, rakes := k.rakes })
  { c with pks := { c.pks with splitShadow := k.split, split := k.split } }

/-- The lower EBB_TJ and the lower EBB_SHARE of the two channels go to both, once both have read their records (R453). -/
def State.shareEbb (s : State) : State :=
  if s.a.start.step8At.isNone || s.b.start.step8At.isNone then s
  else
  let t := min s.a.thermal.threshold s.b.thermal.threshold
  let h := min s.a.thermal.share s.b.thermal.share
  let set (c : Channel) : Channel := { c with thermal := { c.thermal with threshold := t, share := h } }
  (s.upd .a set).upd .b set

/-- The lag reads 0 at a boundary: the channel is ready, J is fixed, and both channels have the lower ebb values before
it. -/
def State.ready (s : State) (x : Chan) : State :=
  if !(s.toSend x).isEmpty || s.port.assay.st x != .refilling || s.port.offset != 0 then s
  else (s.shareEbb).updPort (fun p => { p with assay := { (p.assay.setSt x .ready) with joinAt := some (p.tide + 2) } })

/-- R329: JOIN_READY. -/
def execJoinReady (s : State) : Out := .next (s.finish (s.refillAt (· == .catchUp) s.ready))

/-- The values in force in a channel's blocks. -/
def Channel.inForce (c : Channel) : Kept :=
  { twinSkim := c.sched.regs.twinSkim, mask := c.sched.regs.mask, rakes := c.skim.regs.rakes, split := c.pks.split }

/-- The item number of the placeholder of a writer that X does not hold. -/
def placeholderId (intakeNo : Nat) : Nat := 2 ^ 40 + intakeNo

/-- The twin writers of a survivor that still have to change an object, with the object's place; delayed ones travel with
the handover. -/
def Channel.openWriters (c : Channel) : List (Nat × Place) :=
  let held (x : Item) : Bool := x.halved || x.phase == .finished || (match x.phase with | .delayed _ => true | _ => false)
  let items := (c.sched.items.filter (fun x => !held x)).flatMap (fun x =>
    ((c.places x).filter (fun p => p.role == .writer)).map (fun p => (x.pkt.intakeNo, p)))
  let waiting := (c.sched.fanout.filter (fun k => !k.hdr.halved && !k.hdr.notBefore)).flatMap (fun k =>
    match Op.ofCode k.hdr.opcode.toNat with
    | some o => ((c.places (Item.new 0 o k)).filter (fun p => p.role == .writer)).map (fun p => (k.intakeNo, p))
    | none => [])
  items ++ waiting

/-- Placeholder writers take their places in X's flows. -/
def Channel.placePlaceholders (c : Channel) (l : List (Nat × Place)) : Channel :=
  let d := l.foldl (fun (d : Sched) p => (d.joinOne (placeholderId p.1) false p.2).getD d) c.sched
  { c with sched := d, refill := { c.refill with placeholders := l.map (fun p => (p.1, p.2.kind, p.2.number)) } }

/-- Function resets between their boundaries in the survivor find no work in X. -/
def PortDie.shareResets (p : PortDie) (x : Chan) (under : List (List Nat × Nat)) : PortDie :=
  { p with resets := p.resets.map (fun r => if under.contains (r.fns, r.n) && r.v.isNone then r.setList x [] else r) }

/-- The rest of the deltas before the join. -/
def State.sendAll (s : State) (x : Chan) : State := (s.toSend x).foldl (fun s d => (s.sluiceMsg x.peer (.delta d)).upd x (·.takeDelta d)) s

/-- Channel `x` joins at J (R329): it holds what the survivor holds, placeholders stand for the writers it never received,
and it awaits the handover; a renewal is triggered and the lateness runs restart. -/
def State.joinNow (s : State) (x : Chan) (j : Nat) : State :=
  let s := (s.sendAll x).sluiceMsg x.peer .snapshot
  let last := s.port.nextIntake - 1
  let src := s.chan x.peer
  let writers := src.openWriters
  let kept := src.inForce
  let fixed := src.rng.renewal.any (fun r => r.target.isSome)
  let s := s.upd x (fun c =>
    let c := ((c.takeEpochs src).loadKept kept).placePlaceholders writers
    let t := { c.thermal with ebbTwin := src.thermal.ebbTwin, nextTwin := src.thermal.nextTwin, ebbHalved := c.thermal.nextHalved }
    let r := { c.refill with step := .catchUp, low := last, nextSend := src.journal.nextJseq, awaitHandover := true, persistentLost := false, partialCopy := false }
    let c : Channel := { c with
      thermal := t, refill := r, fence := src.fence, resetting := src.resetting
      start := { c.start with step := .service, unchecked := false }, tamper := { c.tamper with restarts := 0#4 }
      health := { c.health with score := 255 }, keys := { c.keys with exhaustAt := src.keys.exhaustAt } }
    c.mapRng (·.trigger))
  let s := s.upd x.peer (fun c =>
    let g := if fixed then c.rng else { c.rng with renewal := some Renewal.fresh }
    { c with rng := g, refill := { c.refill with sending := some last, sent := none }, skim := { c.skim with joinCap := false } })
  s.updPort (fun p =>
    let y := { (p.assay.joins x j) with joinAt := none, joinTide := BitVec.ofNat 32 j, refillActive := false, runA := 0#5, runB := 0#5 }
    let e := if fixed then p.epoch else { p.epoch with checkA := none, checkB := none }
    ({ p with assay := y, epoch := e } : PortDie).shareResets x src.resetting |>.record 0x014 x.idx)

/-- The channel in state ready joins when J has come (step 7 of R35). -/
def State.joinTide (s : State) : State :=
  match s.port.assay.joinAt, s.refilling with
  | some j, some x => if s.port.tide < j || !s.port.joined x.peer || !s.sluiceUp || (s.chan x).rng.state != .ready then s
    else s.joinNow x j
  | _, _ => s

/-- R329: JOIN_TIDE. -/
def execJoinTide (s : State) : Out := .next (s.finish s.joinTide)

/-! ### After the join -/

/-- One delayed command of the handover enters X's work-item table and delay list. -/
def Channel.takeDelayed (c : Channel) (ids : List Nat) (base : Nat) (x : Item) : Channel :=
  let new (i : Nat) : Option Nat := (ids.findIdx? (· == i)).map (base + ·)
  let y := { x with id := (new x.id).getD base, deps := x.deps.filterMap new }
  let y := { y with ledgerSeen := ((y.keys.map (·.2)).eraseDups).filterMap (fun s => (c.keys.ledgerOf y.fn s).map (fun e => (s, e.id))) }
  let d := (c.sched.join y.id false (c.places y)).getD c.sched
  ({ c with sched := { d with delayTwin := d.delayTwin ++ [y.id] } } : Channel).addItem y

/-- X takes the handover: the counters of the survivor's tides, with their ledgers, from which those of the tides since follow. -/
def Channel.takeHandover (c : Channel) (p : PortDie) (h : Handover) : Channel :=
  let c : Channel := { c with
    rng := if c.rng.current == h.epoch then { c.rng with uses := h.uses } else c.rng
    sched := { c.sched with delivered := h.delivered, useTwin := h.use.foldl keepUse c.sched.useTwin }
    skim := { c.skim with rotTwin := h.rotTwin }
    refill := { c.refill with awaitHandover := false } }
  let c := { c with pks := { c.pks with drainedTwin := (c.tideUse p false c.tide).ledger } }
  let base := c.sched.nextItem
  h.delayed.foldl (fun c x => c.takeDelayed (h.delayed.map (·.id)) base x) c

/-- The delta of a writer, or of a reader, that the join found under way (R329). Uses it took are taken in X. -/
def Channel.takeLate (c : Channel) (d : Delta) : Channel :=
  match d.image with
  | .ledger e => if e.live then
      match c.keys.ledgerOf e.function e.slot with
      | some y => ({ c with keys := { c.keys with ledger := c.keys.ledger.map (fun z => if z.id == y.id then { z with left := z.left - 1 } else z) } }
          : Channel)
      | none => c
    else c
  | _ => c.takeDelta d

/-- The object of a delta, as a flow names it. -/
def Image.object (i : Image) : Option FlowKind :=
  match i with
  | .slot _ => some .keySlot
  | .basin .. => some .vault
  | .dukpt .. => some .dukpt
  | .stream .. => some .stream
  | _ => none

/-- Placeholders that `gone` selects complete. -/
def Channel.dropPlaceholders (c : Channel) (gone : Nat × FlowKind × Nat → Bool) : Channel :=
  let out := c.refill.placeholders.filter gone
  let c := { c with refill := { c.refill with placeholders := c.refill.placeholders.filter (fun p => !gone p) } }
  let c := out.foldl (fun (c : Channel) p => c.leaveFlows (placeholderId p.1)) c
  c.settle

/-- The survivor's deltas of commands delivered before the join, sent after it. -/
def State.lateDeltas (s : State) (x : Chan) : List Delta :=
  let r := (s.chan x).refill
  (s.chan x.peer).journal.ring.filter (fun d => decide (r.nextSend ≤ d.jseq) && d.intake != 0 && decide (d.intake ≤ r.low))

/-- The survivor still has a command delivered before the join. -/
def State.earlierLeft (s : State) (x : Chan) : Bool :=
  let n := (s.chan x).refill.low
  let d := (s.chan x.peer).sched
  d.items.any (fun y => decide (y.pkt.intakeNo ≤ n) && y.phase != .finished) || d.fanout.any (fun k => decide (k.intakeNo ≤ n))

/-- Writer-end reports: a placeholder whose writer has ended in the survivor completes; with none left the join is over. -/
def State.endWriters (s : State) (x : Chan) : State :=
  let d := (s.chan x.peer).sched
  let alive (n : Nat) : Bool := d.items.any (fun y => y.pkt.intakeNo == n && y.phase != .finished) || d.fanout.any (·.intakeNo == n)
  let late := (s.lateDeltas x).map (·.intake)
  let s := s.upd x (fun c => c.dropPlaceholders (fun p => !alive p.1 && !late.contains p.1))
  if (s.chan x).refill.awaitHandover || s.earlierLeft x || !late.isEmpty then s
  else
    let s := s.upd x (fun c => { c with refill := Refill.reset })
    s.upd x.peer (fun c => { c with refill := { c.refill with sending := none, sent := none } })

/-- A delta after the join: of the next command of those the join found under way. -/
def State.lateDelta (s : State) (x : Chan) : State :=
  let s := match (s.lateDeltas x).head? with
    | none => s
    | some d => (s.sluiceMsg x.peer (.delta d)).upd x (fun c =>
      let c := c.takeLate d
      let c := { c with refill := { c.refill with nextSend := d.jseq + 1 } }
      c.dropPlaceholders (fun p => p.1 == d.intake && d.image.object == some p.2.1))
  s.endWriters x

/-- The channel that has joined and still receives what the survivor had under way. -/
def State.joining (s : State) : Option Chan :=
  chans.find? (fun x => s.port.joined x && s.port.joined x.peer && (s.chan x).refill.step == .catchUp)

/-- R327: JOURNAL_DELTA_RECEIVED. -/
def execJournalDeltaReceived (s : State) : Out :=
  .next (match s.joining with
    | some x => if s.sluiceUp then s.lateDelta x else s
    | none => s.refillAt (fun v => v == .replay || v == .catchUp) s.nextDelta)

/-- The handover reaches the channel. Its delayed commands run in both channels; as commands from before J they complete
from the survivor alone (R329). -/
def State.handover (s : State) (x : Chan) : State :=
  let s := s.upd x.peer (·.formHandover)
  match (s.chan x.peer).refill.sent with
  | none => s
  | some h =>
    if !(s.chan x).refill.awaitHandover then s else ((s.sluiceMsg x.peer .handover).upd x (fun c => c.takeHandover s.port h)).endWriters x

/-- R329: JOIN_HANDOVER_RECEIVED. -/
def execJoinHandoverReceived (s : State) : Out :=
  .next (match s.joining with
    | some x => if s.sluiceUp then s.handover x else s
    | none => s)

/-! ### Planned retirement (R330) -/

/-- At P the named channel begins to drain and writes a checkpoint. -/
def State.plannedStart (s : State) : State :=
  match s.port.assay.planned with
  | none => s
  | some (x, p) =>
    if s.port.tide < p || !s.port.joined x || !s.port.joined x.peer then s
    else
      let s := s.upd x (fun c => { (c.writeCheckpoint c.journal.lowWater) with draining := true })
      s.updPort (fun p => { p with assay := { (p.assay.setSt x .draining) with runA := 0#5, runB := 0#5 } })

/-- R330: PLANNED_RETIREMENT_START. -/
def execPlannedRetirementStart (s : State) : Out := .next (s.finish s.plannedStart)

/-- The channel holds no work. -/
def Channel.empty (c : Channel) : Bool :=
  c.sched.items.isEmpty && c.sched.fanout.isEmpty && c.sched.produced.isEmpty && c.sched.buffer.isEmpty

/-- The drain ends when the channel's work is done, or after 500,000 tides: it is retired, and starts from its other
image. -/
def State.drainEnd (s : State) : State :=
  match s.port.assay.planned with
  | none => s
  | some (x, p) =>
    if s.port.assay.st x != .draining || !((s.chan x).empty || decide (p + 500000 ≤ s.port.tide)) then s
    else
      let s := s.upd x (fun c => (c.writeCheckpoint c.journal.lowWater).mapFlash (fun f => { f with active := 1 - f.active }))
      s.retire x 6

/-- R330: PLANNED_DRAIN_END. -/
def execPlannedDrainEnd (s : State) : Out := .next (s.finish s.drainEnd)

/-! ### The channel reset (R429) -/

/-- A refill has not come to its join. -/
def Channel.refillPartial (c : Channel) : Bool :=
  c.refill.partialCopy || (c.start.step == .join && c.refill.step != .none)

/-- A channel that starts again: what its islands, fuses, flash and HBM hold stays, everything else takes its reset value.
`kept` tells whether HBM kept its content. -/
def Channel.restart (c : Channel) (kept : Bool) : Channel :=
  let k := c.keys
  let stays : Keys := { Keys.reset with fuseRoot := k.fuseRoot, fuseFloor := k.fuseFloor, rootCopies := k.rootCopies }
  let keys : Keys := if kept then { stays with
    slots := k.slots, dukpt := k.dukpt, basins := k.basins, entries := k.entries, index := k.index, sessions := k.sessions } else stays
  let j := c.journal
  let lost := c.refill.persistentLost || c.health.cleared &&& 0x500#16 != 0#16
  { Channel.reset with
    side := c.side, tide := c.tide, offset := c.offset, flash := c.flash, island := c.island, keys := keys
    fuses := { c.fuses with loaded := false }
    tamper := { Tamper.reset with seen := if c.tamper.armed then 0#23 else c.tamper.seen, restarts := c.tamper.restarts, tmpIn := c.tamper.tmpIn, wakeHigh := c.tamper.wakeHigh }
    thermal := { Thermal.reset with reading := c.thermal.reading, overTemp := c.thermal.overTemp
                                    ebbTwin := c.thermal.ebbTwin, nextTwin := c.thermal.ebbTwin }
    journal := if kept then { Journal.reset with ring := j.ring, nextJseq := j.nextJseq, checkA := j.checkA, checkB := j.checkB,
                                                 newerB := j.newerB }
      else { Journal.reset with nextJseq := j.nextJseq }
    refill := { Refill.reset with persistentLost := kept && lost, partialCopy := kept && c.refillPartial }
    sched := { Sched.reset with traceRing := if kept then c.sched.traceRing else [] }
    faults := c.faults, events := c.events
    start := { Start.reset with step := .fuseLoad, hbmKept := kept, held := c.start.held, unchecked := c.start.unchecked } }

/-- A command that a stopped service leaves without result: its queue holds none outstanding (R322). -/
def PortDie.dropAll (p : PortDie) : PortDie :=
  let p := p.outst.foldl (fun (p : PortDie) o => p.setQueue o.queue.toNat { (p.queue o.queue.toNat) with outstanding := 0#17 }) p
  { p with outst := [], waits := [], exhaust := [] }

/-- The last joined channel stops: the device leaves READY, and a refill under way ends; its channel starts its agreement
again, for a first join or a full copy (R322). -/
def State.serviceEnds (s : State) (x : Chan) : State :=
  let y := x.peer
  let back (c : Channel) : Channel :=
    if c.start.step != .join then c
    else
      let c := c.mapRng (fun g => { g with epochs := [], seed0 := none, current := 0, epochTide := 0, uses := 0, renewal := none })
      { c with start := { c.start with step := .sluice }, refill := { Refill.reset with persistentLost := true, partialCopy := c.refillPartial } }
  let s := s.upd y back
  let s := if s.port.assay.st y == .refilling || s.port.assay.st y == .ready then
      s.updPort (fun p => { p with assay := p.assay.setSt y .starting }) else s
  s.updPort (fun p =>
    let e : EpochVote := { checkA := none, checkB := none, target := none, mismatches := 0, retryAt := none }
    ({ p with assay := { p.assay with resolve := none, refillActive := false, joinAt := none, planned := none }, epoch := e,
              j0 := none, l5From := p.l5From } : PortDie).dropAll)

/-- An activation whose planned retirement did not come to its end completes with FAULT. -/
def State.failActivation (s : State) (x : Chan) : State :=
  match s.port.mgmt.activation with
  | none => s
  | some (n, ch) =>
    if ch != x || (s.chan x).draining then s
    else match s.port.mgmt.messages.find? (fun m => m.counter == n) with
      | none => s
      | some m => ((s.onMgmt (fun y => { y with activation := none })).completeChange m (11, []) 0)

/-- A channel whose peer restarts waits on for it until its own wait ends (R437, R440). -/
def Channel.waitOn (c : Channel) : Channel :=
  if c.start.step == .join && !c.start.step8At.any (fun t => decide (t + 25000 ≤ c.tide)) then
    (c.toStep .sluice).mapRng (fun g => { g with renewal := none })
  else c

/-- The channel reset that was ordered is performed: a channel still serving is retired first, or is the last one, whose
service ends, with SOLO_FAULT set if its fault report is on its way (R322). A retired channel shows as retired until its
refill (R319). A boot restart keeps the tide's alignment, and the peer's wait for it runs on (R379, R440). A channel that
tripped is held at the end of step 1 (R457); one that failed its start stays as it is (R434). -/
def State.resetChannel (s : State) (x : Chan) : State :=
  if !(s.chan x).resetOrder || (s.chan x).start.step == .halted then s
  else
    let s := if s.port.serving x && s.port.serving x.peer then s.retire x 4 else s
    let s := s.failActivation x
    let last := s.port.serving x
    let s := if last then (if (s.chan x).faults.isEmpty then s else s.soloFault x).serviceEnds x else s
    let s := if s.refilling == some x then
        s.updPort (fun p => { p with assay := { p.assay with refillActive := false, joinAt := none } }) else s
    let boot := (s.chan x).booting
    let first := !s.port.serving .a && !s.port.serving .b
    let s := if s.sluiceUp then s.endSluice else s
    let s := s.upd x (fun c =>
      let r := c.restart (c.start.hbmKept || !boot && c.start.step8At.isSome)
      let r := if boot then { r with aligned := c.aligned, alignAt := c.alignAt
                                     start := { r.start with unchecked := r.start.unchecked || first } } else r
      if c.start.step == .failed then
        { r with start := { r.start with step := .failed }, tamper := { r.tamper with armed := true, boot := true }, fuses := c.fuses }
      else { r with start := { r.start with held := r.start.held || c.start.step == .tripped } })
    let s := if boot && first && s.port.j0.isNone then s.upd x.peer (·.waitOn) else s
    let s := s.upd x.peer (fun c => if c.start.step == .service then
      { (c.dropPlaceholders (fun _ => true)) with refill := Refill.reset } else c)
    s.updPort (fun p =>
      let q := match x with
        | .a => { p.start with lockA := p.start.lockA && boot }
        | .b => { p.start with lockB := p.start.lockB && boot }
      { p with assay := if p.assay.st x == .retired then p.assay else p.assay.setSt x .starting, start := q })

/-- R429: CHANNEL_RESET. -/
def execChannelReset (ch : Chan) (s : State) : Out := .next (s.finish (s.resetChannel ch))

end Sys2Proof.Machine
end

