-- ==== Sys2Proof/Machine/Start.lean ====
section
/-! DEFINITION. Power states, resets and pins (R370 to R374, R429, R430, R449), the start of a channel (R377, R378, R381,
R432 to R435, R439, R453), the alignment of tides (R26 to R28, R431), the first join (R437) and the SVN commit (R280). -/

namespace Sys2Proof.Machine

/-! ### Device resets (R281, R407, R410, R429) -/

/-- A channel held in reset by a device reset. `kept`: HBM kept its content, with the sessions and checkpoints in it (R429). -/
def Channel.hold (c : Channel) (kept : Bool) : Channel :=
  let r := c.restart kept
  { r with
    tide := 0, offset := 0, faults := [], events := []
    rng := Rng.reset, start := { r.start with step := .off, held := false, unchecked := true }
    tamper := { r.tamper with restarts := 0#4, seen := 0#23 }
    thermal := { r.thermal with ebbTwin := false, nextTwin := false }
    fuses := { r.fuses with rowsAgree := false, peerMatch := false, loadTide := 0#32 } }

/-- The recorder as it stands after a port-die reset: MRAM and the counts (R407, R410), with the limits MRAM holds. -/
def Recorder.restart (r : Recorder) : Recorder :=
  let limits := r.records.filterMap (fun e => e.2.limit.map (fun l => (e.1, { EventRec.empty with limit := some l })))
  { Recorder.reset with records := limits, image0 := r.image0, image1 := r.image1, seq := max (imageSeq r.image0) (imageSeq r.image1),
                        optime := r.optime, cycles := r.cycles, opfrac := r.opfrac, opFlushed := r.opFlushed }

/-- The management port after a device reset: MRAM keeps the counter and the alert route (R399, R410). -/
def Mgmt.restart (m : Mgmt) : Mgmt := { Mgmt.reset with counter := m.counter, route := m.route, routeEid := m.routeEid, out := m.out }

/-- The device is put in reset: an L5 signal on its way has driven the other island's erase line (R368). `kept` tells whether
HBM keeps its content, `cold` whether main power has been lost. A channel halted under
R379 stays halted unless the reset is PORST_N's or a power cycle's (`wakes`). -/
def State.deviceReset (s : State) (kept cold wakes : Bool) : State :=
  let hold (c : Channel) : Channel :=
    if c.start.step == .halted && !wakes then { c with start := { c.start with hbmKept := kept } } else c.hold kept
  let s := s.port.l5From.foldl (fun s ch => s.upd ch.peer (·.peerErase)) s
  let p := s.port
  let port := { PortDie.reset with
    start := { p.start with up := false, linkUp := false, coldStart := p.start.coldStart || cold, aligned := false,
                            lockA := false, lockB := false }
    assay := Assay.reset, recorder := p.recorder.restart, mgmt := p.mgmt.restart }
  { s with port := port, a := hold s.a, b := hold s.b, host := { s.host with table := [], pba := [] } }

/-- A channel released from reset: it starts at step 1 and its generator enters START_TEST (R432). -/
def Channel.release (c : Channel) : Channel :=
  if c.start.step != .off then c else { c with start := { c.start with step := .fuseLoad }, rng := { c.rng with state := .startTest } }

/-- The port die leaves reset and releases both channels (R430). A start that has begun goes on. -/
def State.beginStart (s : State) : State :=
  let begin_ (y : Assay) (ch : Chan) : Assay := if y.st ch == .off then y.setSt ch .starting else y
  ((s.upd .a (·.release)).upd .b (·.release)).updPort (fun p => { p with assay := begin_ (begin_ p.assay .a) .b })

/-- The power state and the pins changed. -/
def State.mapStart (s : State) (f : PortStart → PortStart) : State := s.updPort (fun p => { p with start := f p.start })

/-- R429: PORST_N_ASSERT. -/
def execPorstNAssert (s : State) : Out :=
  .next (match s.port.start.power with
    | .backup => s.mapStart (fun t => { t with porst := true })
    | _ => (s.deviceReset true false true).mapStart (fun t => { t with porst := true, power := .run }))

/-- R430: PORST_N_RELEASE, with REFCLK present. -/
def execPorstNRelease (s : State) : Out :=
  .next (if !s.port.start.porst then s
    else
      let s := s.mapStart (fun t => { t with porst := false, refclk := true })
      if s.port.start.power == .run then s.beginStart else s)

/-- R429: PERST_N_ASSERT. Ignored in Sleep and Backup-only; while PORST_N is asserted it adds nothing. -/
def execPerstNAssert (s : State) : Out :=
  .next (
    let t := s.mapStart (fun t => { t with perst := true })
    if s.port.start.power != .run || s.port.start.porst || s.port.start.perst then t else t.deviceReset true false false)

/-- R430: PERST_N_RELEASE. A start that waits for it begins. -/
def execPerstNRelease (s : State) : Out :=
  .next (
    let t := s.mapStart (fun t => { t with perst := false })
    if s.port.start.power == .run && !s.port.start.porst then t.beginStart else t)

/-- R429: POWER_ON. PORST_N is asserted while the rails come up. -/
def execPowerOn (s : State) : Out :=
  .next (if s.port.start.power != .backup then s
    else
      let on (c : Channel) : Channel := { c with island := { c.island with onVbat := false } }
      ((s.upd .a on).upd .b on).mapStart (fun t => { t with power := .run, porst := true, coldStart := true }))

/-- R370: MAIN_POWER_LOSS. HBM is lost, and the islands run from VBAT. -/
def execMainPowerLoss (s : State) : Out :=
  .next (if s.port.start.power == .backup then s
    else
      let s := s.deviceReset false true true
      let off (c : Channel) : Channel := { c with island := { c.island with onVbat := true } }
      ((s.upd .a off).upd .b off).mapStart (fun t => { t with power := .backup }))

/-- The newer of the recorder's images. -/
def Recorder.newest (r : Recorder) : Option RecImage :=
  match r.image0, r.image1 with
  | some x, some y => if x.seq < y.seq then some y else some x
  | some x, none => some x
  | none, y => y

/-- The records of an image are loaded; their limits are MRAM's (R410). At a power-up the counts come from it (R407). -/
def Recorder.load (r : Recorder) (cold : Bool) : Recorder :=
  match r.newest with
  | none => r
  | some i =>
    let limit (code : Nat) : Option Nat := (SMap.get EventRec.empty r.records code).limit
    let l := i.records.map (fun e => (e.1, { e.2 with limit := limit e.1 }))
    let rest := r.records.filter (fun e => !i.records.any (fun x => x.1 == e.1))
    let r := { r with records := SMap.ofList EventRec.empty (l ++ rest) }
    if cold then { r with optime := i.stamp % 2 ^ 32, cycles := i.stamp / 2 ^ 32 % 2 ^ 24, opfrac := 0 } else r

/-- The end of the port die's start: the newer recorder image is loaded, and at a power-on the power-cycle count rises, the
wakes of Backup-only are recorded, and the recorder flushes under a trigger the spec does not number (R373, R407, R410,
R430). -/
def State.portUp (s : State) : State :=
  let t := s.port.start
  if t.power != .run || t.porst || t.up || (s.a.start.step == .off && s.b.start.step == .off) then s
  else
    let cold := t.coldStart
    let s := s.updPort (fun p => { p with start := { t with up := true, coldStart := false }, recorder := p.recorder.load cold })
    if !cold then s
    else
      let none' := s.port.recorder.newest.isNone
      let s := s.updPort (fun p => { p with recorder := { p.recorder with cycles := (p.recorder.cycles + 1) % 2 ^ 24 } })
      let s := s.updPort (fun p => p.record 0x020 p.recorder.cycles)
      let s := if none' then s.updPort (fun p => p.record 0x022 0) else s
      let s := chans.foldl (fun s ch =>
        let n := (s.chan ch).island.backupWakes.toNat
        let s := if n == 0 then s else s.updPort (fun p => p.record 0x024 n)
        s.upd ch (fun c => { c with island := { c.island with backupWakes := 0#8 } })) s
      let n := Config.freeNat s.free
      (s.updPort (fun p => { p with recorder := p.recorder.flush n })).drawn

/-- R430: PORT_DIE_START_DONE. -/
def execPortDieStartDone (s : State) : Out := .next (s.finish s.portUp)

/-- R430: LINK_TRAINING_DONE. -/
def execLinkTrainingDone (s : State) : Out :=
  .next (
    let t := s.port.start
    if t.up && !t.perst && !t.porst && t.power == .run && t.refclk then (s.mapStart (fun t => { t with linkUp := true })).updPort (fun p => { p with credits := true }) else s)

/-- R429: LINK_RESET. Configuration spaces go to their defaults, and every function is reset as by an FLR of PF0. -/
def execLinkReset (s : State) : Out :=
  .next (s.finish (if !s.port.start.linkUp then s
    else
      let s := s.flr 0
      s.updPort (fun p => { p with sriov := { p.sriov with vfEnable := false }, start := { p.start with linkUp := false } })))

/-- R410: PWR_FAIL_N_ASSERT. -/
def execPwrFailNAssert (s : State) : Out :=
  .next (s.finish (if s.port.start.power != .run || s.port.start.porst then s
    else s.updPort (fun p => let p := p.record 0x021 0; { p with recorder := p.recorder.flush 3 })))

/-- Every queue has nothing outstanding and every completion is written (R371 step 2). -/
def PortDie.quiet (p : PortDie) : Bool :=
  p.outst.isEmpty && p.passing.isEmpty && p.held.isEmpty && p.waiting.isEmpty
  && p.queues.all (fun q => q.2.outstanding == 0#17)

/-- The device enters Sleep: flush, checkpoint and the erasures of L3 without a fault report; the flush's trigger is not
numbered by the spec (R371). -/
def State.sleep (s : State) : State :=
  match s.port.mgmt.slack with
  | none => s
  | some t =>
    if s.port.tide < t || !s.port.quiet then s
    else
      let n := Config.freeNat s.free
      let s := (s.drain).updPort (fun p => { p with recorder := (p.recorder.flush n).flushDone.flushDone })
      let rest (c : Channel) : Channel :=
        let c := (c.writeCheckpoint c.journal.lowWater).eraseVolatile s.port.lastIntake
        { c with start := { c.start with step := if c.start.step == .halted then .halted else .off }, aligned := false, sluice := false,
                 tamper := { c.tamper with armed := false } }
      let s := ((s.upd .a rest).upd .b rest).drawn
      s.updPort (fun p => { p with
        start := { p.start with power := .sleep, up := false, linkUp := false, aligned := false, lockA := false, lockB := false }
        assay := { p.assay with stateA := .off, stateB := .off }, mgmt := { p.mgmt with slack := none } })

/-- R371: SLEEP_DRAIN_DONE. -/
def execSleepDrainDone (s : State) : Out := .next s.sleep

/-- How an island classifies a low of WAKE_N, in half microseconds: 1 noise, 2 wake, 3 tamper; between the bands `free`
decides (R374). -/
def wakeClassOf (half free : Nat) : Nat :=
  if half ≤ 3 then 1
  else if half == 4 then 1 + free % 2
  else if half ≤ 38 then 2
  else if half ≤ 41 then 2 + free % 2
  else 3

/-- A low of WAKE_N ends. One that the island has decided to be a tamper stays so; a wake ends Sleep, and in Backup-only is
counted (R372 to R374). -/
def State.wakeRelease (s : State) (ch : Chan) (half : Nat) : State :=
  let decided := !(s.chan ch).tamper.wakeHigh
  let k := if decided then 3 else wakeClassOf half (Config.freeNat s.free)
  let s := (if k == 3 && !decided then s.wakeTamper ch else s).drawn
  let s := s.upd ch (fun c => { c with
    tamper := { c.tamper with wakeHigh := true }
    island := { c.island with wakeDuration := BitVec.ofNat 16 (min 0xFFFF half), wakeClass := BitVec.ofNat 2 k } })
  match s.port.start.power with
  | .run => s
  | .sleep => if k != 2 then s else ((s.deviceReset true false false).mapStart (fun t => { t with power := .run })).beginStart
  | .backup =>
    if k != 2 then s else s.upd ch (fun c => { c with island := { c.island with backupWakes := satBv c.island.backupWakes 1 } })

/-- R374: WAKE_N_RELEASE. -/
def execWakeNRelease (ch : Chan) (halfMicros : Nat) (s : State) : Out := .next (s.finish (s.wakeRelease ch halfMicros))

/-! ### Alignment of tides (R26 to R28, R431) -/

/-- A channel's count is loaded at the marker. -/
def Channel.align (c : Channel) (tide offset : Nat) : Channel :=
  { c with tide := tide, offset := offset, aligned := true, alignAt := none
           tamper := { c.tamper with activeUntil := 4096 * tide + offset + c.tamper.lasts } }

/-- A channel reports CCLK lock; the report shows that REFCLK runs. After the first alignment the channel is aligned by R27:
when its synthesiser has settled for 20,480 PCLK cycles, 10 tides, it takes the count of two tides on (R26). -/
def State.lockReport (s : State) (ch : Chan) : State :=
  let c := s.chan ch
  let s := s.mapStart (fun t => { t with refclk := true })
  if c.aligned || c.start.step == .off || c.start.step == .halted then s
  else
    let s := s.mapStart (fun t => match ch with
      | .a => { t with lockA := true }
      | .b => { t with lockB := true })
    if s.port.start.aligned then s.upd ch (fun c => { c with alignAt := some (s.port.tide + 12) }) else s

/-- R431: CCLK_LOCK_REPORT. -/
def execCclkLockReport (ch : Chan) (s : State) : Out := .next (s.lockReport ch)

/-- The first marker: tide 0 begins on the port die and in the channels that have reported lock. -/
def State.tideZero (s : State) : State :=
  let t := s.port.start
  let s := if t.lockA then s.upd .a (fun c => c.align 0 0) else s
  let s := if t.lockB then s.upd .b (fun c => c.align 0 0) else s
  s.updPort (fun p => { p with tide := 0, offset := 0, start := { p.start with aligned := true } })

/-- A later channel takes the port die's count at the boundary fixed for it. -/
def State.alignLater (s : State) : State :=
  let one (c : Channel) : Channel :=
    if c.alignAt.any (fun t => decide (t ≤ s.port.tide)) && !c.aligned then c.align s.port.tide s.port.offset else c
  (s.upd .a one).upd .b one

/-- R26: TIDE_ALIGN. -/
def execTideAlign (s : State) : Out :=
  .next (
    let t := s.port.start
    if t.aligned then s.alignLater else if t.lockA && t.lockB then s.tideZero else s)

/-- R431: CCLK_LOCK_TIMEOUT. -/
def execCclkLockTimeout (s : State) : Out :=
  .next (
    let t := s.port.start
    if !t.aligned && t.lockA != t.lockB then s.tideZero else s)

/-- A channel's pulse and count differ from the port die's (R28). `count` is the low 16 bits; none: no pulse. -/
def PortDie.tideDiffers (p : PortDie) (count : Option (BitVec 16)) (skew : Nat) : Bool :=
  decide (8 < skew) || count != some (BitVec.ofNat 16 p.tide)

/-- The count a report of low bits names, nearest to the port die's. -/
def nearCount (tide : Nat) (low : BitVec 16) : Nat :=
  let d := (low.toNat + 65536 - tide % 65536) % 65536
  if d < 32768 then tide + d else tide + d - 65536

/-- A tide fault of a channel: recorded, and its TIDE bit cleared (R28, R311). -/
def State.tideFault (s : State) (ch : Chan) : State :=
  let s := (s.upd ch (·.clearHealth 0)).updPort (fun p => p.record 0x003 ch.idx)
  s.updPort (fun p => { p with tides := match ch with
    | .a => { p.tides with faultA := true }
    | .b => { p.tides with faultB := true } })

/-- Both channels are at fault: channel B is retired, and channel A holds the service; the last joined channel stays
(R28, R322). -/
def State.tideBoth (s : State) : State :=
  let s := (s.tideFault .a).tideFault .b
  (s.retire .b 4).retire .a 4

/-- The tide reports of the two channels are compared (R28). The channels agree with each other when their counts are
equal, wherever their pulses lie (DESIGN CHOICE, log 239). -/
def State.tideReport (s : State) (a : Option (BitVec 16)) (ka : Nat) (b : Option (BitVec 16)) (kb : Nat) : State :=
  let p := s.port
  let da := s.a.aligned && p.tideDiffers a ka
  let db := s.b.aligned && p.tideDiffers b kb
  let skew := max (if s.a.aligned then ka else 0) (if s.b.aligned then kb else 0)
  let s := s.updPort (fun p => { p with tides := { p.tides with maxSkew := BitVec.ofNat 8 (max p.tides.maxSkew.toNat (min 255 skew)) } })
  if da && db then
    match a, b with
    | some x, some y =>
      if x == y then s.updPort (fun p =>
        ({ p with tides := { p.tides with adopted := true, adoptTo := some (nearCount p.tide x) } } : PortDie).record 0x002
          p.tides.maxSkew.toNat)
      else s.tideBoth
    | _, _ => s.tideBoth
  else if da then (s.tideFault .a).retire .a 4
  else if db then (s.tideFault .b).retire .b 4
  else s

/-- R28: TIDE_REPORT. -/
def execTideReport (countA : Option (BitVec 16)) (skewA : Nat) (countB : Option (BitVec 16)) (skewB : Nat) (s : State) : Out :=
  .next (s.finish (if s.port.start.aligned then s.tideReport countA skewA countB skewB else s))

end Sys2Proof.Machine
end

