-- ==== Sys2Proof/Machine/ChannelStart.lean ====
section
/-! DEFINITION. The steps of a channel's start (R377, R378, R381, R432 to R435, R439, R453), the first join (R437), the SVN
commit (R280) and the background tests (R314). -/

namespace Sys2Proof.Machine

/-! ### Step 1 and 2: fuses, island, arming, evidence (R273, R377, R378, R381) -/

/-- The island of a channel that was never provisioned reads 0 in every bit, with class 14 at 0. -/
def Channel.neverProvisioned (c : Channel) : Bool :=
  c.island == { Island.unpowered with onVbat := c.island.onVbat, backupWakes := c.island.backupWakes }
  && c.fuses.evidence.getD 14 0#6 == 0#6

/-- The island check of R377: the channel after it, and the source it detects. RETAIN is set again after every
check (DEDUCED, log 266). -/
def Channel.checkIsland (c : Channel) : Channel × Option Nat :=
  let i := c.island
  let put (i : Island) : Channel := { c with island := { i with retain := true } }
  let j := { i with valid := i.passes && !i.erased }
  if i.erased then (put j, none)
  else match i.retain, i.passes with
    | true, true => (put j, none)
    | true, false => (put j, some 21)
    | false, true => (put (j.pend 12), some 5)
    | false, false =>
      let e := { j with erased := true }
      (put (if c.neverProvisioned then e else e.pend 11), none)

/-- One bit is programmed for each pending class; a class at 63 stays, and the overflow is recorded. -/
def Channel.programEvidence (c : Channel) (ch : Chan) : Channel :=
  let pend := (List.range 16).filter c.island.pending.getLsbD
  let c := pend.foldl (fun (c : Channel) k =>
    let n := c.fuses.evidence.getD k 0#6
    if n == 63#6 then c.event ch 0xD0 k
    else { c with fuses := { c.fuses with evidence := c.fuses.evidence.mapIdx (fun i x => if i == k then x + 1#6 else x) } }) c
  { c with island := { c.island with pending := 0#16 } }

/-- Fuse load completes: rows compared, island checked, the responder armed with every source latched since the reset. A
channel that tripped is held there (R457). -/
def State.fuseLoad (s : State) (ch : Chan) (rows : Bool) : State :=
  if (s.chan ch).start.step != .fuseLoad || (s.chan ch).resetOrder then s
  else
    let s := s.upd ch (fun c =>
      let t := if s.port.start.aligned then BitVec.ofNat 32 s.port.tide else 0#32
      let row := if rows then c.keys.fuseRoot else Config.freeBytes s.free
      let lock := if c.fuses.lockFuse == 0xC3#8 then 0xC3#8 else 0x3C#8
      let c : Channel := { c with fuses := { c.fuses with loaded := true, rowsAgree := rows, rootRow := row, cfgLock := lock, loadTide := t }
                                  tamper := { c.tamper with armed := true, boot := true } }
      if rows then c else c.clearHealth 14)
    let r := (s.chan ch).checkIsland
    let s := s.setChan ch r.1
    let found := (if rows then 0#23 else sourceBit 20) ||| (match r.2 with | some n => sourceBit n | none => 0#23)
    let s := s.tamper ch ((s.chan ch).tamper.seen ||| found)
    if (s.chan ch).resetOrder || (s.chan ch).start.step != .fuseLoad then s
    else s.upd ch (fun c => if c.start.held then c.toStep .tripped else (c.programEvidence ch).toStep .image)

/-- R378: FUSE_LOAD_DONE. -/
def execFuseLoadDone (ch : Chan) (rowsAgree : Bool) (s : State) : Out := .next (s.finish (s.fuseLoad ch rowsAgree))

/-! ### Steps 3 and 4: the image (R433) -/

/-- The activation of R330 in the channel ends with an outcome: 0 activated, 1 the new image was refused. -/
def State.activated (s : State) (ch : Chan) (outcome : Nat) : State :=
  match s.port.mgmt.activation with
  | none => s
  | some (n, x) =>
    if x != ch then s
    else
      let s := s.onMgmt (fun y => { y with activation := none })
      match s.port.mgmt.messages.find? (fun m => m.counter == n) with
      | none => s
      | some m => s.completeChange m (0, [byte outcome, 0#8, 0#8, 0#8]) (if outcome == 0 then s.port.tide else 0)

/-- The boot ROM's checks: a refused image falls back to the other, once; then the channel enters recovery. -/
def State.imageHash (s : State) (ch : Chan) (m mn : Bool) : State :=
  let c := s.chan ch
  if c.start.step != .image || c.resetOrder then s
  else
    let image := c.flash.image c.flash.active
    let t := if m == mn then s.tamperOne ch srcLogic else s
    if c.imageOk image && m && !mn then
      let s := t.upd ch (fun c => ({ c with keys := { c.keys with svnRun := (Config.imageSvn image).toNat }
                                            digests := { c.digests with locked := true } } : Channel).toStep .training)
      s.activated ch c.start.triedOther.toNat
    else
      let t := t.updPort (fun p => p.record (listedEvent Config.imageRefusalEvent.1) Config.imageRefusalEvent.2)
      if c.start.triedOther then (t.staysOut ch .recovery).activated ch 1
      else t.upd ch (fun c => { (c.mapFlash (fun f => { f with active := 1 - f.active })) with
                                start := { c.start with triedOther := true } })

/-- R433: IMAGE_HASH_DONE. -/
def execImageHashDone (ch : Chan) (isMatch isMatchN : Bool) (s : State) : Out :=
  .next (s.finish (s.imageHash ch isMatch isMatchN))

/-! ### Steps 5 to 8 (R278, R281, R434, R435, R439, R453) -/

/-- HBM training ends; a failure is tried once more, and a second leaves the channel out of service. -/
def State.training (s : State) (ch : Chan) (ok : Bool) : State :=
  let c := s.chan ch
  if c.start.step != .training || c.resetOrder then s
  else if ok then s.setChan ch (c.toStep .memoryTest)
  else if c.start.trainingFailures == 0 then s.setChan ch { c with start := { c.start with trainingFailures := 1 } }
  else (s.staysOut ch .failed).updPort (fun p =>
    p.record (listedEvent Config.trainingFaultEvent.1) Config.trainingFaultEvent.2)

/-- R434: HBM_TRAINING_DONE. -/
def execHbmTrainingDone (ch : Chan) (ok : Bool) (s : State) : Out := .next (s.finish (s.training ch ok))

/-- A start test fails: the spec states no effect but the event of a self-test failure, whose unit is open; the channel does
not go on. -/
def State.startTestFails (s : State) (ch : Chan) : State :=
  ((s.upd ch (·.event ch 0x22 (Config.freeNat s.free))).staysOut ch .failed).drawn

/-- The memory test finds an error. In the persistent regions it leaves the channel to a full copy (R326), elsewhere it fails
the start; which is a free value. -/
def State.memoryFails (s : State) (ch : Chan) : State :=
  if Config.freeNat s.free % 2 == 0 then (s.startTestFails ch)
  else (s.upd ch (fun c => ({ c with refill := { c.refill with persistentLost := true } } : Channel).toStep .selfTest)).drawn

/-- R432: MEMORY_TEST_DONE. -/
def execMemoryTestDone (ch : Chan) (ok : Bool) (s : State) : Out :=
  .next (s.finish (
    let c := s.chan ch
    if c.start.step != .memoryTest || c.resetOrder then s
    else if ok then s.setChan ch (c.toStep .selfTest) else s.memoryFails ch))

/-- The board record: EBB_TJ and EBB_SHARE, 100 and 8 when it is invalid (R453). -/
def boardEbb (b : Bytes) : Int × Nat :=
  let tj := u8 b 5
  let share := u8 b 6
  let ok := decide (24 ≤ b.length) && b.take 4 == ascii "LXBD" && u8 b 4 == 1 && decide (90 ≤ tj) && decide (tj ≤ 105)
    && decide (4 ≤ share) && decide (share ≤ 15) && (slice b 7 9).all (· == 0#8)
    && slice b 16 8 == leBytes 8 (crc64 (b.take 16)).toNat
  if ok then ((tj : Int), share) else (100, 8)

/-- Step 8: the root record is opened and the management records are loaded. A brine key without a root record that opens
is erased. -/
def Channel.openRoot (c : Channel) : Channel :=
  let ebb := boardEbb c.flash.board
  let c : Channel := { c with thermal := { c.thermal with threshold := ebb.1, share := ebb.2 } }
  if c.island.erased || !c.island.passes then c
  else match c.topCopy with
    | none => { c with island := c.island.erase }
    | some r =>
      let k := c.keys
      let f := c.flash
      let basins := f.basins.foldl (fun m b => match SMap.find? m b.1 with
        | some _ => m
        | none => SMap.insert m b.1 b.2) k.basins
      { c with keys := { k with sdk := c.openCopy r, rung := r.rung, basins := basins }, records := f.records
               rng := { c.rng with person := f.person, personNext := f.person } }

/-- Budgets from the flash area govern the functions (R344, R435). -/
def PortDie.loadBudgets (p : PortDie) (l : SMap (Budget × Budget)) : PortDie :=
  l.foldl (fun p e => p.setFn e.1 { (p.fn e.1) with twin := e.2.1, halved := e.2.2 }) p

/-- Step 7 ends well and step 8 is done: the channel waits for its peer at step 9. -/
def State.selfTest (s : State) (ch : Chan) : State :=
  let s := s.upd ch (fun c => let c := c.openRoot; { (c.toStep .sluice) with start := { c.start with step := .sluice, step8At := some c.tide } })
  if s.port.joinedChans.isEmpty && (s.chan ch).island.passes then s.updPort (fun p => p.loadBudgets (s.chan ch).flash.budgets) else s

/-- R432: SELF_TEST_DONE. A generator that is not READY by step 7 fails it (R288). -/
def execSelfTestDone (ch : Chan) (ok : Bool) (s : State) : Out :=
  .next (s.finish (
    if (s.chan ch).start.step != .selfTest || (s.chan ch).resetOrder then s
    else if ok && (s.chan ch).rng.state == .ready then s.selfTest ch else s.startTestFails ch))

/-- The programmed levels take effect at the first boundary after step 8 (R378, R435). -/
def Channel.programLevels (c : Channel) : Channel :=
  if c.tamper.boot && c.start.step8At.any (fun t => decide (t < c.tide)) then
    { c with tamper := { c.tamper with boot := false, levels := c.records.levels } }
  else c

/-! ### The first join (R437) -/

/-- The wait for the peer ends: the channel leaves step 9 undone, or the peer's contribution, and forms epoch 0 alone. A
channel that holds part of a refill joins alone only when its peer will not start (R460; DESIGN CHOICE, log 271). -/
def State.joinWaitEnds (s : State) (ch : Chan) : State :=
  let c := s.chan ch
  let past := c.start.step8At.any (fun t => decide (t + 25000 ≤ c.tide))
  let go (s : State) : State := s.upd ch (fun c =>
    let c := (c.toStep .join).mapRng (·.trigger)
    { c with health := { c.health with noSluiceFrom := some (c.health.noSluiceFrom.getD c.tide) } })
  let whole := !c.refill.partialCopy || (s.chan ch.peer).start.step == .failed || (s.chan ch.peer).start.step == .halted
  if !past || !whole || !s.port.joinedChans.isEmpty || s.port.j0.isSome then s
  else if c.start.step == .sluice && (s.chan ch.peer).start.step != .join then go s
  else if c.start.step == .join && (s.chan ch.peer).start.step == .join && (s.chan ch.peer).rng.renewal.all (·.own.isNone) then
    go ((s.endSluice).upd ch.peer (fun c =>
      { (c.toStep .sluice) with start := { c.start with step := .sluice, unchecked := true } }))
  else s

/-- R437: FIRST_JOIN_WAIT_EXPIRY. -/
def execFirstJoinWaitExpiry (ch : Chan) (s : State) : Out := .next (s.finish (s.joinWaitEnds ch))

/-- A channel joins at J0: epoch 0 becomes current, the SH values in force are loaded (R420, R437), its own ebb state takes
effect (R454), and it applies its part of function resets (R440). -/
def Channel.joinFirst (c : Channel) (k : Kept) (wipes : List Nat) : Channel :=
  let c := wipes.foldl (fun c f => c.wipeFn f 0) ((c.epochEffect 0).loadKept k)
  let c := if c.start.unchecked then c.startCheckpoint else c
  { (c.toStep .service) with tamper := { c.tamper with restarts := 0#4 }
                             thermal := { c.thermal with ebbHalved := c.thermal.nextHalved }
                             refill := { c.refill with persistentLost := false, partialCopy := false } }

/-- J0 has come: the channels that formed epoch 0 join. A peer with a session then refills (R437, R440). -/
def State.firstJoin (s : State) : State :=
  match s.port.j0 with
  | none => s
  | some j =>
    if s.port.tide < j || !s.port.joinedChans.isEmpty then s
    else
      let who := chans.filter (fun ch => (s.chan ch).start.step == .join && (s.chan ch).rng.renewal.any (fun r => r.target.isSome))
      let s := (s.shareEbb).updPort (fun p => { p with j0 := none })
      let s := who.foldl (fun s ch =>
        let e := s.ebb
        let s := s.upd ch (fun c => (c.joinFirst s.port.kept s.port.wipes).withEbb e)
        s.updPort (fun p => ({ p with assay := p.assay.joins ch s.port.tide } : PortDie).record 0x014 ch.idx)) s
      let s := (s.updPort (fun p => { p with wipes := if who.isEmpty then p.wipes else [] })).epochClear
      chans.foldl (fun s ch =>
        if (s.chan ch).start.step == .sluice && s.sluiceUp && s.port.joined ch.peer then (s.upd ch (·.toStep .join)).beginRefill ch
        else s) s

/-- R437: FIRST_JOIN. -/
def execFirstJoin (s : State) : Out := .next (s.finish s.firstJoin)

/-! ### The SVN commit (R280) -/

/-- The copy of a rung that a channel holds. -/
def Keys.copyOf (k : Keys) (t : Nat) : Option RootCopy := k.rootCopies.find? (fun r => r.rung == t)

/-- At X a channel seals its journal under the new rung, and begins to write its root record. -/
def State.svnStart (s : State) (ch : Chan) : State :=
  let c := s.chan ch
  match s.port.svnTarget with
  | none => s
  | some (t, x) =>
    if c.tide < x || !s.port.joined ch || c.keys.commit.any (·.since == x) || c.keys.rung == t then s
    else
      let m : SvnCommit := { target := t, since := x, written := false }
      s.setChan ch { c with keys := { c.keys with commit := some m } }

/-- R280: SVN_COMMIT_TARGET. -/
def execSvnCommitTarget (ch : Chan) (s : State) : Out := .next (s.svnStart ch)

/-- The new copy is written over the older one, with the sequence number increased by 1. -/
def Channel.rootWritten (c : Channel) : Channel :=
  match c.keys.commit, c.keys.sdk, c.topCopy with
  | some m, some sdk, some top =>
    if m.written then c
    else { c with keys := { c.keys with rootCopies := [top, c.rootCopy sdk m.target (top.seq + 1)],
                                        commit := some { m with written := true } } }
  | _, _, _ => c

/-- R280: ROOT_RECORD_WRITE_DONE, of an SVN commit's copy or of a provisioned channel's records (R439). -/
def execRootRecordWriteDone (ch : Chan) (s : State) : Out :=
  .next (s.finish (if (s.chan ch).keys.firstRoot then (s.upd ch (·.firstRootWritten)).provisionDone else s.upd ch (·.rootWritten)))

/-- A channel receives its peer's commit message: with its own new copy and a matching check it raises its floor and erases
the older copy; a mismatch leaves the commit pending and is recorded. -/
def State.svnMessage (s : State) (ch : Chan) : State :=
  let c := s.chan ch
  match c.keys.commit with
  | none => s
  | some m =>
    let peer := s.chan ch.peer
    let sent := peer.keys.commit.any (·.written) || peer.keys.rung == m.target
    match peer.keys.copyOf m.target, c.keys.copyOf m.target with
    | some y, some x =>
      let s := if sent && m.written && s.sluiceUp then s.sluiceMsg ch.peer (.svnCommit m.target) else s
      let c := s.chan ch
      if !sent || !m.written || !s.sluiceUp then s
      else if x.check == y.check then (s.setChan ch (c.settleRung x)).svnDone
      else
        (s.updPort (fun p => p.record 0x019 m.target)).endSvn 11
    | _, _ => s

/-- R280: SVN_COMMIT_MESSAGE. -/
def execSvnCommitMessage (ch : Chan) (s : State) : Out := .next (s.finish (s.svnMessage ch))

/-! ### Background tests (R311, R314) -/

/-- A corrected memory error costs the score 1 (R312). -/
def Channel.corrected (c : Channel) : Channel := { c with health := { c.health with deduct := c.health.deduct + 1 } }

/-- An error of a memory or buffer: corrected, or uncorrectable with its health bit. -/
def Channel.memoryError (c : Channel) (bit : Nat) (r : TestEnd) : Channel :=
  match r with
  | .pass => c
  | .corrected => c.corrected
  | .fail => c.clearHealth bit

/-- The tide of the last whole pass of a scrub after one more, which is due `every` so many tides (R314). -/
def scrubbed (last : Option Nat) (every tide : Nat) : Option Nat :=
  if last.all (fun t => decide (t + every ≤ tide)) then some tide else last

/-- The scrub of channel store, or of HBM: an error it finds acts at once, and a pass ends in its tide. -/
def Channel.scrub (c : Channel) (hbm : Bool) (r : TestEnd) : Channel :=
  let h := c.health
  if r != .pass then c.memoryError (if hbm then 9 else 8) r
  else if hbm then { c with health := { h with scrubHbm := scrubbed h.scrubHbm (2 ^ 27) c.tide } }
  else { c with health := { h with scrubStore := scrubbed h.scrubStore 65536 c.tide } }

/-- A background test is due: 4,096 tides have passed since the unit's last (R314). -/
def restDue (last : Option Nat) (tide : Nat) : Bool := last.all (fun t => decide (t + 4096 ≤ tide))

/-- A core's test runs on an idle core for 2,048 cycles; one that fails leaves service. -/
def Channel.coreTest (c : Channel) (ch : Chan) (n : Nat) (r : TestEnd) : Channel :=
  match c.sched.cores[n]? with
  | none => c
  | some k =>
    if k.item.isSome || k.out || c.now < k.since || !restDue k.testedTide c.tide then c
    else
      let t := c.now + 2048
      let c := c.onSched (fun d => d.mapCore n (fun k => { k with since := t, testedTide := some c.tide, out := r == .fail }))
      if r == .fail then (c.clearHealth 6).event ch 0x22 n else c

/-- A public-key engine's test runs on an idle engine for 512 cycles. -/
def Channel.pkTest (c : Channel) (ch : Chan) (n : Nat) (r : TestEnd) : Channel :=
  if !c.pkFree n || !restDue (c.pkEngine n).testedTide c.tide then c
  else
    let t := c.now + 512
    let c := c.mapPk n (fun e => { e with busyUntil := t, testedTide := some c.tide })
    if r == .fail then c.event ch 0x22 (0x60 + n) else c

/-- A background test or scrub of a unit ends. Which bus an error shows on is a free value. -/
def State.background (s : State) (ch : Chan) (u : TestUnit) (r : TestEnd) : State :=
  if (s.chan ch).start.step != .service then s
  else match u with
    | .lanePair n => s.laneTest ch n.toNat (r != .fail)
    | .digestEngine n => s.digestTest ch n.toNat (r != .fail)
    | .pkEngine n => s.upd ch (fun c => c.pkTest ch n.toNat r)
    | .core n => s.upd ch (fun c => c.coreTest ch n.toNat r)
    | .channelStore => s.upd ch (fun c => c.scrub false r)
    | .hbm => s.upd ch (fun c => c.scrub true r)
    | .collector => s.upd ch (fun c => c.memoryError 15 r)
    | .journal =>
      if r != .fail then s
      else s.upd ch (fun c => (c.clearHealth 10).event ch 0xE0 ((c.journal.nextJseq - 1) % 2 ^ 32))
    | .bus =>
      if r != .fail then s
      else ((s.upd ch (fun c => ({ c with health := { c.health with busTide := some c.tide } } : Channel).event ch 0x21
        (Config.freeNat s.free % 2))).drawn).tamperOne ch srcBus

/-- R314: BACKGROUND_SELF_TEST. -/
def execBackgroundSelfTest (ch : Chan) (unit : TestUnit) (result : TestEnd) (s : State) : Out :=
  .next (s.finish (s.background ch unit result))

end Sys2Proof.Machine
end

