-- ==== Sys2Proof/Machine/Probe.lean ====
section
/-! DEFINITION. The probes of a discord (R316, R317): the run of a probe in a channel, and the two commands of the assay
unit that end probes. -/

namespace Sys2Proof.Machine

/-- The assay note of a command; of one that bound nothing, what its packet gives. -/
def Channel.noteOf (c : Channel) (o : Outst) : AssayNote :=
  (c.journal.notes.find? (fun n => n.intakeNo == o.intakeNo)).getD
    { intakeNo := o.intakeNo, writer := false, tide := o.pkt.intakeTide, binds := [] }

/-- The channel as a writer's probe sees it: with the before-images of its note, the last written put back first. -/
def Channel.asBefore (c : Channel) (n : AssayNote) : Channel :=
  if n.writer then (c.journal.before.filter (fun b => b.1 == n.intakeNo)).foldr (fun b c => c.applyImage b.2) c else c

/-- The work item of a probe: the original packet at priority 0, with the generations current at the probe. -/
def Channel.probeItem (c : Channel) (o : Op) (k : Packet) (n : AssayNote) : Item :=
  let now := fun (b : Bind) => { b with generation := (c.keys.header b.slot).generation }
  { Item.new 0 o k with level := 0#3, admitAt := some c.now, admitTide := n.tide, binds := n.binds.map now, read := true }

/-- What the operation decides and computes with its keys and draws, without an effect on the channel. -/
def Channel.probeOutcome (c : Channel) (x : Item) (ks : List Loaded) : Res :=
  let lens := drawLens x ks
  let drawn := if lens.all (· == 0) then some [] else (c.rng.drawAll x.pkt.hdr x.admitTide 0 lens).1
  match drawn with
  | none => .fail .rngFailed
  | some d =>
    let x := c.withTable { x with drawn := d }
    if x.op == .reseed then reseedResult (c.rng.effectAfter x.admitTide)
    else match c.early x ks, (if isPk x.op then pkRejected x ks else none) with
      | (_, some r), _ => r
      | _, some d => .fail .inputRejected d
      | (c, none), none => (c.run x ks).2

/-- What decode refuses a probe with: checks 13 to 16 of R54, and of the refusals of R55 those that no count decides. -/
def Channel.probeRefusal (c : Channel) (x : Item) : Option Res :=
  match (decodeChecks x.op x.pkt.hdr x.p).or (if c.tagFieldOk x then none else some malField) with
  | some d => some (.fail .malformed d)
  | none =>
    if x.op.code / 256 == 3 && c.grants x.fn 7 then some (.fail .denied denPolicy)
    else if x.halved && x.op.writesShared x.fn x.p then some (.fail .denied denPolicy)
    else none

/-- A probe of a command in a channel, through decode: it takes no budget and no booking, applies no change and journals
nothing. Its outcome stands when its completion is taken; its fan-out, its priority and its path change no outcome (DESIGN CHOICE,
log 133). -/
def Channel.probe (c : Channel) (p : PortDie) (o : Outst) : CompRec :=
  let n := c.noteOf o
  let c := c.asBefore n
  match Op.ofCode o.pkt.hdr.opcode.toNat with
  | none => (c.probeItem .echo o.pkt n).record (.fail .malformed malOpcode)
  | some op =>
    let x := c.probeItem op o.pkt n
    match c.probeRefusal x with
    | some r => x.record r
    | none =>
      let (c, x) := c.ledgerAt x
      match c.keyRead x (p.ideOn x.fn) (keyReqs x.op x.p) with
      | .fail code d => x.record (.fail code d)
      | .ok ks => x.record (c.probeOutcome x ks)

/-- A probe of a reader is stale when a generation it binds differs from the one in the command's note. -/
def Channel.probeStale (c : Channel) (intakeNo : Nat) : Bool :=
  match c.journal.notes.find? (fun n => n.intakeNo == intakeNo) with
  | none => false
  | some n => !n.writer && n.binds.any (fun b => (c.keys.header b.slot).generation != b.generation)

/-- The assay unit takes a channel's probe. -/
def Resolve.take (r : Resolve) (ch : Chan) (check : DWord) (stale : Bool) : Resolve :=
  match ch with
  | .a => { r with probeA := some check, stale := r.stale || stale }
  | .b => { r with probeB := some check, stale := r.stale || stale }

/-- A channel's probe of the discord under resolution reaches the assay unit by its late tide: with the check code of its
completion, or with `wrong`, which a channel with a hardware fault gives in its place. -/
def State.probeIn (s : State) (ch : Chan) (wrong : Option DWord) : State :=
  match s.port.assay.resolve with
  | none => s
  | some r => match s.port.findOut r.intakeNo with
    | none => s.tryProbe
    | some o =>
      if r.lateTide < s.port.tide then s
      else
        let stale := (s.chan ch).probeStale r.intakeNo
        let check := wrong.getD ((s.chan ch).probe s.port o).check
        (s.updPort (fun p => { p with assay := { p.assay with
          resolve := some (r.take ch check stale)
          probesStale := if stale then satBv p.assay.probesStale 1 else p.assay.probesStale } })).tryProbe

/-- R316: PROBE_COMPLETION. -/
def execProbeCompletion (ch : Chan) (wrong : Option DWord) (s : State) : Out := .next (s.finish (s.probeIn ch wrong))

/-- R317: PROBE_TIMEOUT. Past the class deadline plus 2 tides a probe that has not come counts as not reproducing. -/
def execProbeTimeout (s : State) : Out :=
  .next (s.finish (match s.port.assay.resolve with
    | none => s
    | some r =>
      if s.port.tide ≤ r.lateTide then s
      else match s.port.findOut r.intakeNo with
        | none => s
        | some o =>
          let n := (if r.probeA.isNone then 1 else 0) + (if r.probeB.isNone then 1 else 0)
          (s.updPort (fun p => { p with assay := { p.assay with
            probesStale := satBv p.assay.probesStale n } })).probeVerdict r o))

end Sys2Proof.Machine
end

