-- ==== Sys2Proof/Machine/Tide.lean ====
section
/-! DEFINITION. The tide boundary (R35, R36) and what each tide does (R30, R91, R92, R233, R285, R311, R312, R325, R341,
R342, R409, R455), and the thermal rules (R452, R454, R456, R457). -/

namespace Sys2Proof.Machine

/-! ### The channel's steps (R35) -/

/-- A producer that stalls holds up an item that waits for it: the rake of its lane pair, the engines that its job is queued for,
the cores. -/
def Channel.producerStalls (c : Channel) (x : Item) : Bool :=
  let some_ (first n : Nat) : Bool := (List.range n).any (fun i => c.stalls (first + i))
  let queued (l : List PkJob) : Bool := l.any (fun j => j.item == x.id)
  match x.phase with
  | .laneQueue => x.pair.any (fun j => c.stalls (4 + j / 8))
  | .ready => some_ 32 48
  | .engine => ((queued c.pks.queueTwin || queued c.pks.queueHalved) && some_ 12 16)
      || (c.digests.jobs.any (fun j => j.item == x.id) && some_ 28 4)
  | _ => false

/-- The collector stalls the item's completion, or a producer that it waits for, because its buffer is full and the port die's
passing area cannot drain to the link (R69, R92, R95). -/
def Channel.egressStalls (c : Channel) (p : PortDie) (x : Item) : Bool :=
  decide (512 ≤ c.sched.buffer.length) && p.passingFull
  && (c.sched.produced.any (fun q => q.item == some x.id && decide (q.readyAt ≤ c.now)) || c.producerStalls x)

/-- The item waits in a cycle for what exempts its miss (R92): a firmware-path lane pair while the skim path has all eight
rakes, a stalled collector, or a key cache fill of a fully pinned set. -/
def Channel.waitsExempt (c : Channel) (p : PortDie) (x : Item) : Bool :=
  (c.skim.rakes == 8 && c.rakes.jobs.any (fun j => j.item == x.id))
  || c.egressStalls p x
  || c.keys.fills.any (fun f => c.fillBlocked f && x.fills.contains (f.slot, f.generation))

/-- What a passing cycle does to the items that wait: between its start and its deadline an item may become exempt (R92). -/
def Channel.noteWaits (c : Channel) (p : PortDie) : Channel :=
  c.onSched (fun d => { d with items := d.items.map (fun (x : Item) =>
    if x.due.any (fun t => decide (c.tide ≤ t)) && c.waitsExempt p x then { x with exempt := true } else x) })

/-- What the scheduler does in a cycle: the trace buffer hands a record to the ring, and items whose saves end enter their
levels (R89, R96). The rate of one record a cycle is the model's (DESIGN CHOICE, log 223). -/
def Channel.schedCycle (c : Channel) : Channel := (c.onSched (·.writeTrace)).landSaves

/-- One cycle passes (R30): what waits is noted, the offsets rise, and the schedulers do what the cycle brings. A
generator whose samples failed a test fails (R303), and a detection that has outlasted its monitor test is raised
(R362). -/
def State.idle (s : State) : State :=
  let on (f : Channel → Channel) (c : Channel) : Channel := if c.aligned then f c else c
  let t := ((s.upd .a (on (·.noteWaits s.port))).upd .b (on (·.noteWaits s.port))).tick
  let t := (t.upd .a (on (fun c => (c.schedCycle).heardFailure .a))).upd .b (on (fun c => (c.schedCycle).heardFailure .b))
  (t.outlasted .a).outlasted .b

/-- Step 1: what fell due is missed, and what must run now is promoted (R91, R92). -/
def Channel.sweep (c : Channel) (ch : Chan) : Channel :=
  let c := c.sched.items.foldl (fun c x => match c.item? x.id with
    | some y => if c.missDue y then c.miss ch y else c
    | none => c) c
  c.sched.items.foldl (fun c x => match c.item? x.id with
    | some y => if c.urgentDue y then c.promote y else c
    | none => c) c

/-- Step 4: the ebb states computed in the tide come into force (R454). -/
def Channel.takeEbb (c : Channel) : Channel :=
  { c with thermal := { c.thermal with ebbTwin := c.thermal.nextTwin, ebbHalved := c.thermal.nextHalved } }

/-- Step 5: the ledgers drain and the tide's budgets open (R233, R340 to R342, R455); the bookings' reach is noted (R118). -/
def Channel.reload (c : Channel) (p : PortDie) : Channel :=
  let c := c.openTide p
  let ahead := ((c.skim.pairs.take c.skimPairs).map (fun q => q.booked - 4096 * c.tide)).foldl max 0
  c.mapSkim (fun r => { r with maxAhead := BitVec.ofNat 14 (min 0x3FFF ahead) })

/-- Exhaustion targets that the tide reaches (R188). -/
def Channel.exhaustDue (c : Channel) (p : PortDie) : Channel :=
  c.keys.exhaustAt.foldl (fun c t => c.exhaustMark p.lastIntake t.1) c

/-- The channel's steps up to its delay list, which follow the changes that the port die initiates. -/
def Channel.boundary (c : Channel) (p : PortDie) : Channel :=
  if c.start.step != .service then c else (((c.takeEbb).reload p).exhaustDue p).releaseDue p

/-! ### Health (R311, R312) -/

/-- The health word of a channel. -/
def Channel.healthWord (c : Channel) : Word :=
  let h := c.health
  let low (k : Nat) : Bool :=
    h.cleared.getLsbD k
    || (match k with
        | 2 => c.rng.state == .failed
        | 4 => c.digests.engines.any (·.outOfService)
        | 7 => h.busTide.any (fun t => decide (c.tide ≤ t + 4096))
        | 12 => c.thermal.overTemp
        | 13 => !c.sluice && h.noSluiceFrom.any (fun t => decide (t + 64 ≤ c.tide))
        | _ => false)
  BitVec.ofNat 32 ((List.range 16).map (fun k => if low k then 0 else 2 ^ k)).sum

/-- The advisory bits of the word (R311). -/
def advisoryBits : List Nat := [3, 4, 5, 6, 7, 9, 11, 12, 13]

/-- The score at a boundary (R312). -/
def scoreAt (word : Word) (old deduct tide : Nat) : Nat :=
  let cap := 255 - 48 * (advisoryBits.filter (fun k => !word.getLsbD k)).length
  min cap (old + if tide % 256 == 0 then 1 else 0) - min 255 deduct

/-- The word and the score are computed, and sent. -/
def Channel.report (c : Channel) : Channel :=
  if c.start.step != .service && c.start.step != .join && c.start.step != .sluice then c
  else
    let w := c.healthWord
    let k := scoreAt w c.health.score c.health.deduct c.tide
    { c with health := { c.health with score := k, deduct := 0, report := some (w, byte k) } }

/-! ### The boundary -/

/-- The samples of the tide, which are free, reach the generator of an aligned channel (R284). -/
def State.hearNoise (s : State) (ch : Chan) : State :=
  if !(s.chan ch).aligned then s
  else (s.upd ch (·.mapRng (·.hear (Config.freeBytes s.free)))).drawn

/-- Each core's pre-emptions count afresh in a tide (R90). -/
def Channel.clearPreempts (c : Channel) : Channel :=
  c.onSched (fun d => { d with cores := d.cores.map (fun k => { k with preempts := 0 }) })

/-- A channel enters the tide. -/
def Channel.enterTide (c : Channel) (tide : Nat) : Channel := { c with tide := tide, offset := 0 }

/-- The assay low-water A (R325). -/
def PortDie.lowWater (p : PortDie) : Nat :=
  ((p.outst.filter (fun o => !o.halved)).map (fun o => o.intakeNo - 1)).foldl min (p.nextIntake - 1)

/-- A tide ends at the recorder: its limits start afresh, and OPTIME advances by the tide's cycles (R407, R409). -/
def Recorder.advance (r : Recorder) : Recorder := ({ r.cycle with tideUse := [] } : Recorder).elapse 4096

/-- The port die enters the tide: its own count, or the one it adopts (R28). -/
def PortDie.enterTide (p : PortDie) : PortDie :=
  let t := p.tides.adoptTo.getD p.tide + 1
  { p with tide := t, offset := 0, tides := { p.tides with adoptTo := none }, recorder := p.recorder.advance
           mgmt := { (p.mgmt.expireNonces t) with alertsSent := 0 } }

/-- Step 2 and the other changes that the port die fixes for the boundary (R36): commits, management changes, fences,
function resets, wait verdicts, planned retirement and SVN targets. -/
def State.portSteps (s : State) : State :=
  let s := (s.applyCommits).kerralBoundary
  let s := ((s.fenceHold .a).fenceHold .b)
  let s := ((s.fenceApply .a).fenceApply .b)
  let s := ((s.resetBoundaryR).resetBoundaryV)
  let s := s.port.waits.foldl (fun s v => s.applyWait v.intakeNo) s
  ((s.plannedStart).svnStart .a).svnStart .b

/-- Step 3: twin epochs take effect in the joined channels, and a channel that catches up learns of them (R296). -/
def State.epochSteps (s : State) : State :=
  ((s.port.joinedChans.foldl (fun s ch => s.upd ch (fun c => (c.epochEffect s.port.lastIntake).renewalDue)) s).epochClear).shareEpochs

/-- What the port die sends and writes at the boundary: the low-water, and the CHANNEL_LOST that is due (R320, R325). A
channel keeps its completed writers until the low-water of the tide before has passed them, so that a reset requested in
that tide finds them (R347), and frees the assay notes of commands whose verdict is final (R317). -/
def State.portEnds (s : State) : State :=
  let a := s.port.lowWater
  let low (c : Channel) : Channel := { c with
    writersDone := c.writersDone.filter (fun w => decide (c.journal.lowWater < w.2))
    journal := { c.journal with
      lowWater := a, notes := c.journal.notes.filter (fun n => s.port.outst.any (fun o => o.intakeNo == n.intakeNo))
      before := c.journal.before.filter (fun n => s.port.outst.any (fun o => o.intakeNo == n.1)) } }
  let s := s.port.joinedChans.foldl (fun s ch => s.upd ch low) s
  let s := s.releaseWaiting
  let s := if s.port.lostIsDue .a then s.writeLost .a else s
  if s.port.lostIsDue .b then s.writeLost .b else s

/-- The boundary that opens the next tide, as one step (R35). -/
def State.tideBoundary (s : State) : State :=
  if !s.port.start.aligned || !s.port.start.refclk then s
  else
    let s := s.updPort (·.enterTide)
    let t := s.port.tide
    let enter (ch : Chan) (c : Channel) : Channel :=
      if !c.aligned then c
      else
        let c := ((((c.noteWaits s.port).enterTide t).clearPreempts).schedCycle).programLevels
        if c.start.step == .service then c.sweep ch else c
    let s := (((s.upd .a (enter .a)).upd .b (enter .b)).hearNoise .a).hearNoise .b
    let s := (s.alignLater).portSteps.epochSteps.joinCapStep
    let s := (s.upd .a (fun c => c.boundary s.port)).upd .b (fun c => c.boundary s.port)
    let s := (s.joinTide).firstJoin.portEnds.drawCredits
    let s := (s.outlasted .a).outlasted .b
    let report (c : Channel) : Channel := if c.aligned then c.report else c
    (s.upd .a report).upd .b report

/-- R35: TIDE_BOUNDARY. -/
def execTideBoundary (s : State) : Out := .next (s.finish s.tideBoundary)

/-! ### Temperature (R452 to R457) -/

/-- Ebb with its hysteresis of 3 °C (R454). -/
def ebbNext (now : Bool) (readings : List Int) (threshold : Int) : Bool :=
  if readings.any (fun r => decide (threshold ≤ r)) then true
  else if readings.all (fun r => decide (r < threshold - 3)) then false
  else now

/-- A channel's hottest reading of the tide: its THERMAL bit, its halved ebb, and how long it has been hot or cool. -/
def Channel.temperature (c : Channel) (r : Int) : Channel :=
  let t := c.thermal
  { c with thermal := { t with
    reading := r
    overTemp := if 110 ≤ r then true else if r < 107 then false else t.overTemp
    nextHalved := ebbNext t.nextHalved [r] t.threshold
    hotTides := if 115 ≤ r then t.hotTides + 1 else 0
    coolTides := if r < 95 then t.coolTides + 1 else 0 } }

/-- Source 10 detects while a reading is below −20 °C or above 125 °C (R357, R460). -/
def State.tempSource (s : State) (ch : Chan) (r : Int) : State :=
  let old := (s.chan ch).tamper.present
  if !s.monitored then s
  else s.detected ch (if 125 < r || r < -20 then old ||| sourceBit 10 else old &&& ~~~ sourceBit 10)

/-- A reading is taken and reaches the port die. -/
def State.temperature (s : State) (ch : Chan) (r : Int) : State :=
  if (s.chan ch).start.step == .off then s
  else ((s.upd ch (fun c => c.temperature r)).updPort (fun p => match ch with
    | .a => { p with readA := some r }
    | .b => { p with readB := some r })).tempSource ch r

/-- R452: TEMPERATURE_READING. -/
def execTemperatureReading (ch : Chan) (celsius : Int) (s : State) : Out := .next (s.finish (s.temperature ch celsius))

/-- The reading the port die holds for the tide. -/
def PortDie.reading (p : PortDie) : Chan → Option Int
  | .a => p.readA
  | .b => p.readB

/-- The channel has tripped and not recovered. -/
def Channel.trips (c : Channel) : Bool := c.start.step == .tripped || c.start.held

/-- The channel is the second one (R457). -/
def State.isSecond (s : State) (ch : Chan) : Bool :=
  !s.port.joined ch.peer || (s.chan ch.peer).trips
  || (match s.port.reading ch, s.port.reading ch.peer with
      | some r, some q => decide (115 ≤ r) && decide (115 ≤ q) && (decide (r < q) || (r == q && ch == .a))
      | _, _ => false)

/-- The role of a channel for the tide: it trips as the first, or as the second; a halted one has none (DESIGN CHOICE, log
268). -/
def State.tripRole (s : State) (ch : Chan) : State :=
  match s.port.reading ch with
  | none => s
  | some r =>
    let second := s.isSecond ch
    s.upd ch (fun c =>
      if c.trips || c.start.step == .halted then c
      else { c with thermal := { c.thermal with
        tripFirst := !second && decide (115 ≤ r)
        tripSecond := second && (decide (120 ≤ r) || (decide (115 ≤ r) && decide (2000000 ≤ c.thermal.hotTides))) } })

/-- The port die decides the twin ebb state and the roles of the tide. Ebb does not end while a joined channel's reading is
missing (DEDUCED, log 267). -/
def State.thermalDecision (s : State) : State :=
  let readings := s.port.joinedChans.filterMap s.port.reading
  let whole := readings.length == s.port.joinedChans.length
  let next (s : State) (ch : Chan) : State := s.upd ch (fun c =>
    { c with thermal := { c.thermal with
      nextTwin := ebbNext c.thermal.nextTwin readings c.thermal.threshold || (c.thermal.nextTwin && !whole) } })
  let s := if readings.isEmpty then s else s.port.joinedChans.foldl next s
  let t := (s.tripRole .a)
  let r := { t with b := (s.tripRole .b).b }
  r.updPort (fun p => { p with readA := none, readB := none })

/-- R457: THERMAL_DECISION. -/
def execThermalDecision (s : State) : Out := .next (s.finish s.thermalDecision)

/-- A channel trips: its fault report is sent, and it is held at the end of step 1 after the reset that follows. -/
def Channel.trip (c : Channel) : Channel :=
  { (c.toStep .tripped) with faults := c.faults ++ [.thermal], resetOrder := true
                             thermal := { c.thermal with tripFirst := false, tripSecond := false } }

/-- R457: CHANNEL_TRIP. -/
def execChannelTrip (ch : Chan) (s : State) : Out :=
  .next (s.finish (if (s.chan ch).thermal.tripFirst then s.upd ch (·.trip) else s))

/-- R457: SECOND_CHANNEL_TRIP. -/
def execSecondChannelTrip (ch : Chan) (s : State) : Out :=
  .next (s.finish (if (s.chan ch).thermal.tripSecond then s.upd ch (·.trip) else s))

/-- Below 95 °C for 500,000 tides, a tripped channel starts again from step 2. -/
def Channel.tripRecover (c : Channel) (ch : Chan) : Channel :=
  if c.start.step != .tripped || c.resetOrder || c.thermal.coolTides < 500000 then c
  else ({ c with start := { c.start with held := false } }.programEvidence ch).toStep .image

/-- R457: TRIP_RECOVERY. -/
def execTripRecovery (ch : Chan) (s : State) : Out := .next (s.finish (s.upd ch (fun c => c.tripRecover ch)))

end Sys2Proof.Machine
end

