-- ==== Sys2Proof/Machine/Dispatch.lean ====
section
/-! DEFINITION. The dispatch of a command to its meaning: one arm per row of the opcode table. -/

namespace Sys2Proof.Machine

def exec (i : Instr) (s : State) : Host.Outcome State Fault Refusal :=
  match i with
  | .inlineDoorbell t window offset data => Sys2Proof.Machine.execInlineDoorbell t window offset data s
  | .ringTail t value => Sys2Proof.Machine.execRingTail t value s
  | .ringFetchDone queue ide entry payload => Sys2Proof.Machine.execRingFetchDone queue ide entry payload s
  | .intakeResume => Sys2Proof.Machine.execIntakeResume s
  | .cqHead t value => Sys2Proof.Machine.execCqHead t value s
  | .commit t value => Sys2Proof.Machine.execCommit t value s
  | .commitApply => Sys2Proof.Machine.execCommitApply s
  | .indAddrLo t value => Sys2Proof.Machine.execIndAddrLo t value s
  | .indAddrHi t value => Sys2Proof.Machine.execIndAddrHi t value s
  | .indData t write => Sys2Proof.Machine.execIndData t write s
  | .fnAcuEnable t fn => Sys2Proof.Machine.execFnAcuEnable t fn s
  | .fnAcuDisable t fn => Sys2Proof.Machine.execFnAcuDisable t fn s
  | .acuDrainDone fn => Sys2Proof.Machine.execAcuDrainDone fn s
  | .registerWrite t bar offset data enables => Sys2Proof.Machine.execRegisterWrite t bar offset data enables s
  | .getRandom ch step => Sys2Proof.Machine.execGetRandom ch step s
  | .reseed ch step => Sys2Proof.Machine.execReseed ch step s
  | .echo ch step => Sys2Proof.Machine.execEcho ch step s
  | .pinTranslate ch step => Sys2Proof.Machine.execPinTranslate ch step s
  | .pinVerifyOffset ch step => Sys2Proof.Machine.execPinVerifyOffset ch step s
  | .pinVerifyPvv ch step => Sys2Proof.Machine.execPinVerifyPvv ch step s
  | .pinChange ch step => Sys2Proof.Machine.execPinChange ch step s
  | .cvcGenerate ch step => Sys2Proof.Machine.execCvcGenerate ch step s
  | .cvcVerify ch step => Sys2Proof.Machine.execCvcVerify ch step s
  | .arqcVerify ch step => Sys2Proof.Machine.execArqcVerify ch step s
  | .arqcVerifyLongPan ch step => Sys2Proof.Machine.execArqcVerifyLongPan ch step s
  | .dukptTranslate ch step => Sys2Proof.Machine.execDukptTranslate ch step s
  | .dukptTranslateLongKey ch step => Sys2Proof.Machine.execDukptTranslateLongKey ch step s
  | .dukptData ch step => Sys2Proof.Machine.execDukptData ch step s
  | .macCmac ch step => Sys2Proof.Machine.execMacCmac ch step s
  | .macIso97973 ch step => Sys2Proof.Machine.execMacIso97973 ch step s
  | .macCmacLong ch step => Sys2Proof.Machine.execMacCmacLong ch step s
  | .macIso9797Long ch step => Sys2Proof.Machine.execMacIso9797Long ch step s
  | .macHmacSha256 ch step => Sys2Proof.Machine.execMacHmacSha256 ch step s
  | .keyblockImport ch step => Sys2Proof.Machine.execKeyblockImport ch step s
  | .keyblockExport ch step => Sys2Proof.Machine.execKeyblockExport ch step s
  | .keyWrap ch step => Sys2Proof.Machine.execKeyWrap ch step s
  | .keyUnwrap ch step => Sys2Proof.Machine.execKeyUnwrap ch step s
  | .transportImport ch step => Sys2Proof.Machine.execTransportImport ch step s
  | .transportExport ch step => Sys2Proof.Machine.execTransportExport ch step s
  | .componentBegin ch step => Sys2Proof.Machine.execComponentBegin ch step s
  | .componentAdd ch step => Sys2Proof.Machine.execComponentAdd ch step s
  | .componentAbandon ch step => Sys2Proof.Machine.execComponentAbandon ch step s
  | .tokenFf1 ch step => Sys2Proof.Machine.execTokenFf1 ch step s
  | .vaultTokenise ch step => Sys2Proof.Machine.execVaultTokenise ch step s
  | .vaultDetokenise ch step => Sys2Proof.Machine.execVaultDetokenise ch step s
  | .vaultDelete ch step => Sys2Proof.Machine.execVaultDelete ch step s
  | .cipherEncrypt ch step => Sys2Proof.Machine.execCipherEncrypt ch step s
  | .cipherDecrypt ch step => Sys2Proof.Machine.execCipherDecrypt ch step s
  | .streamOpen ch step => Sys2Proof.Machine.execStreamOpen ch step s
  | .streamUpdate ch step => Sys2Proof.Machine.execStreamUpdate ch step s
  | .streamFinal ch step => Sys2Proof.Machine.execStreamFinal ch step s
  | .streamAbandon ch step => Sys2Proof.Machine.execStreamAbandon ch step s
  | .digest ch step => Sys2Proof.Machine.execDigest ch step s
  | .macHmacSha2 ch step => Sys2Proof.Machine.execMacHmacSha2 ch step s
  | .pkSign ch step => Sys2Proof.Machine.execPkSign ch step s
  | .pkVerify ch step => Sys2Proof.Machine.execPkVerify ch step s
  | .pkKeygen ch step => Sys2Proof.Machine.execPkKeygen ch step s
  | .pkAgree ch step => Sys2Proof.Machine.execPkAgree ch step s
  | .pkEncap ch step => Sys2Proof.Machine.execPkEncap ch step s
  | .pkDecap ch step => Sys2Proof.Machine.execPkDecap ch step s
  | .pkPubkeyExport ch step => Sys2Proof.Machine.execPkPubkeyExport ch step s
  | .pkPubkeyImport ch step => Sys2Proof.Machine.execPkPubkeyImport ch step s
  | .keyCheckValue ch step => Sys2Proof.Machine.execKeyCheckValue ch step s
  | .keyAttributes ch step => Sys2Proof.Machine.execKeyAttributes ch step s
  | .keyGenerate ch step => Sys2Proof.Machine.execKeyGenerate ch step s
  | .keyRestrict ch step => Sys2Proof.Machine.execKeyRestrict ch step s
  | .keyDestroy ch step => Sys2Proof.Machine.execKeyDestroy ch step s
  | .destroyUsersDrained ch id => Sys2Proof.Machine.execDestroyUsersDrained ch id s
  | .decodeResume ch => Sys2Proof.Machine.execDecodeResume ch s
  | .decodeLateFault ch => Sys2Proof.Machine.execDecodeLateFault ch s
  | .delayRelease ch => Sys2Proof.Machine.execDelayRelease ch s
  | .commandStart ch id => Sys2Proof.Machine.execCommandStart ch id s
  | .coreDispatch ch core => Sys2Proof.Machine.execCoreDispatch ch core s
  | .coreSliceTimer ch core => Sys2Proof.Machine.execCoreSliceTimer ch core s
  | .rakeJobStart ch pair => Sys2Proof.Machine.execRakeJobStart ch pair s
  | .rakeSliceEnd ch pair => Sys2Proof.Machine.execRakeSliceEnd ch pair s
  | .rakeJobDone ch pair how => Sys2Proof.Machine.execRakeJobDone ch pair how s
  | .laneSelfTest ch pair pass => Sys2Proof.Machine.execLaneSelfTest ch pair pass s
  | .digestJobStart ch engine => Sys2Proof.Machine.execDigestJobStart ch engine s
  | .digestSliceEnd ch engine => Sys2Proof.Machine.execDigestSliceEnd ch engine s
  | .digestJobDone ch engine how => Sys2Proof.Machine.execDigestJobDone ch engine how s
  | .digestKnownAnswerTest ch engine pass => Sys2Proof.Machine.execDigestKnownAnswerTest ch engine pass s
  | .digestMode ch engine value => Sys2Proof.Machine.execDigestMode ch engine value s
  | .digestData ch engine value => Sys2Proof.Machine.execDigestData ch engine value s
  | .digestLastWord ch engine value => Sys2Proof.Machine.execDigestLastWord ch engine value s
  | .digestLastCount ch engine value => Sys2Proof.Machine.execDigestLastCount ch engine value s
  | .digestFinishDone ch engine => Sys2Proof.Machine.execDigestFinishDone ch engine s
  | .digestCmp ch engine expect value => Sys2Proof.Machine.execDigestCmp ch engine expect value s
  | .pkJobStart ch engine => Sys2Proof.Machine.execPkJobStart ch engine s
  | .pkValidationEnd ch engine => Sys2Proof.Machine.execPkValidationEnd ch engine s
  | .pkSliceReport ch engine => Sys2Proof.Machine.execPkSliceReport ch engine s
  | .pkOperationDone ch engine how => Sys2Proof.Machine.execPkOperationDone ch engine how s
  | .pkWipeDone ch engine => Sys2Proof.Machine.execPkWipeDone ch engine s
  | .keyCacheFillStart ch slot => Sys2Proof.Machine.execKeyCacheFillStart ch slot s
  | .keyCacheFillDone ch slot => Sys2Proof.Machine.execKeyCacheFillDone ch slot s
  | .shadowEntryAcquire ch id => Sys2Proof.Machine.execShadowEntryAcquire ch id s
  | .completionAccept ch => Sys2Proof.Machine.execCompletionAccept ch s
  | .completionArrival who => Sys2Proof.Machine.execCompletionArrival who s
  | .moderationTimer queue => Sys2Proof.Machine.execModerationTimer queue s
  | .assayWindowExpiry intakeNo => Sys2Proof.Machine.execAssayWindowExpiry intakeNo s
  | .probeCompletion ch wrong => Sys2Proof.Machine.execProbeCompletion ch wrong s
  | .probeTimeout => Sys2Proof.Machine.execProbeTimeout s
  | .tideBoundary => Sys2Proof.Machine.execTideBoundary s
  | .deadlineMiss ch id => Sys2Proof.Machine.execDeadlineMiss ch id s
  | .waitLimitExpiry ch id => Sys2Proof.Machine.execWaitLimitExpiry ch id s
  | .waitVerdict intakeNo => Sys2Proof.Machine.execWaitVerdict intakeNo s
  | .waitVerdictApply intakeNo => Sys2Proof.Machine.execWaitVerdictApply intakeNo s
  | .tideAlign => Sys2Proof.Machine.execTideAlign s
  | .cclkLockReport ch => Sys2Proof.Machine.execCclkLockReport ch s
  | .cclkLockTimeout => Sys2Proof.Machine.execCclkLockTimeout s
  | .tideReport countA skewA countB skewB => Sys2Proof.Machine.execTideReport countA skewA countB skewB s
  | .healthReport a b => Sys2Proof.Machine.execHealthReport a b s
  | .healthReportMissing ch => Sys2Proof.Machine.execHealthReportMissing ch s
  | .channelFaultReport a b => Sys2Proof.Machine.execChannelFaultReport a b s
  | .channelLostTimeout ch => Sys2Proof.Machine.execChannelLostTimeout ch s
  | .channelReset ch => Sys2Proof.Machine.execChannelReset ch s
  | .checkpointTimer ch => Sys2Proof.Machine.execCheckpointTimer ch s
  | .exhaustionReport ch slot => Sys2Proof.Machine.execExhaustionReport ch slot s
  | .exhaustionMark ch slot => Sys2Proof.Machine.execExhaustionMark ch slot s
  | .sluiceTagFail sender => Sys2Proof.Machine.execSluiceTagFail sender s
  | .sluiceAgreementDone => Sys2Proof.Machine.execSluiceAgreementDone s
  | .repairListReceived => Sys2Proof.Machine.execRepairListReceived s
  | .journalDeltaReceived => Sys2Proof.Machine.execJournalDeltaReceived s
  | .regionImageReceived => Sys2Proof.Machine.execRegionImageReceived s
  | .stateSnapshotReceived => Sys2Proof.Machine.execStateSnapshotReceived s
  | .joinReady => Sys2Proof.Machine.execJoinReady s
  | .joinCapTide => Sys2Proof.Machine.execJoinCapTide s
  | .joinTide => Sys2Proof.Machine.execJoinTide s
  | .joinHandoverReceived => Sys2Proof.Machine.execJoinHandoverReceived s
  | .plannedRetirementStart => Sys2Proof.Machine.execPlannedRetirementStart s
  | .plannedDrainEnd => Sys2Proof.Machine.execPlannedDrainEnd s
  | .functionLevelReset fn => Sys2Proof.Machine.execFunctionLevelReset fn s
  | .vfEnableClear => Sys2Proof.Machine.execVfEnableClear s
  | .functionResetBoundaryR => Sys2Proof.Machine.execFunctionResetBoundaryR s
  | .resetListReceived ch => Sys2Proof.Machine.execResetListReceived ch s
  | .resetListTimeout => Sys2Proof.Machine.execResetListTimeout s
  | .functionResetBoundaryV => Sys2Proof.Machine.execFunctionResetBoundaryV s
  | .linkReset => Sys2Proof.Machine.execLinkReset s
  | .rngStartTestEnd ch pass => Sys2Proof.Machine.execRngStartTestEnd ch pass s
  | .rngSeedReady ch noise => Sys2Proof.Machine.execRngSeedReady ch noise s
  | .rngHealthFail ch cause => Sys2Proof.Machine.execRngHealthFail ch cause s
  | .drbgReseedDue ch => Sys2Proof.Machine.execDrbgReseedDue ch s
  | .drbgReseedDone ch noise => Sys2Proof.Machine.execDrbgReseedDone ch noise s
  | .rngPortReq ch core value => Sys2Proof.Machine.execRngPortReq ch core value s
  | .rngPortData ch core => Sys2Proof.Machine.execRngPortData ch core s
  | .epochRenewalTrigger => Sys2Proof.Machine.execEpochRenewalTrigger s
  | .entropyContribution ch noise => Sys2Proof.Machine.execEntropyContribution ch noise s
  | .contributionReceived ch => Sys2Proof.Machine.execContributionReceived ch s
  | .epochCheckReceived => Sys2Proof.Machine.execEpochCheckReceived s
  | .epochEffect ch => Sys2Proof.Machine.execEpochEffect ch s
  | .epochRetryTimer => Sys2Proof.Machine.execEpochRetryTimer s
  | .epochFormAlone ch => Sys2Proof.Machine.execEpochFormAlone ch s
  | .tamperSourceDetected ch sources => Sys2Proof.Machine.execTamperSourceDetected ch sources s
  | .peerL5Order from_ => Sys2Proof.Machine.execPeerL5Order from_ s
  | .monitorTest ch source pass => Sys2Proof.Machine.execMonitorTest ch source pass s
  | .tmpInAssert ch pin => Sys2Proof.Machine.execTmpInAssert ch pin s
  | .refclkLoss => Sys2Proof.Machine.execRefclkLoss s
  | .wakeNRelease ch halfMicros => Sys2Proof.Machine.execWakeNRelease ch halfMicros s
  | .wakeTamperDecision ch => Sys2Proof.Machine.execWakeTamperDecision ch s
  | .islandBrownOut ch => Sys2Proof.Machine.execIslandBrownOut ch s
  | .powerOn => Sys2Proof.Machine.execPowerOn s
  | .mainPowerLoss => Sys2Proof.Machine.execMainPowerLoss s
  | .porstNAssert => Sys2Proof.Machine.execPorstNAssert s
  | .porstNRelease => Sys2Proof.Machine.execPorstNRelease s
  | .portDieStartDone => Sys2Proof.Machine.execPortDieStartDone s
  | .perstNAssert => Sys2Proof.Machine.execPerstNAssert s
  | .perstNRelease => Sys2Proof.Machine.execPerstNRelease s
  | .pwrFailNAssert => Sys2Proof.Machine.execPwrFailNAssert s
  | .fuseLoadDone ch rowsAgree => Sys2Proof.Machine.execFuseLoadDone ch rowsAgree s
  | .imageHashDone ch isMatch isMatchN => Sys2Proof.Machine.execImageHashDone ch isMatch isMatchN s
  | .hbmTrainingDone ch ok => Sys2Proof.Machine.execHbmTrainingDone ch ok s
  | .memoryTestDone ch ok => Sys2Proof.Machine.execMemoryTestDone ch ok s
  | .selfTestDone ch ok => Sys2Proof.Machine.execSelfTestDone ch ok s
  | .firstJoinWaitExpiry ch => Sys2Proof.Machine.execFirstJoinWaitExpiry ch s
  | .firstJoin => Sys2Proof.Machine.execFirstJoin s
  | .svnCommitTarget ch => Sys2Proof.Machine.execSvnCommitTarget ch s
  | .rootRecordWriteDone ch => Sys2Proof.Machine.execRootRecordWriteDone ch s
  | .svnCommitMessage ch => Sys2Proof.Machine.execSvnCommitMessage ch s
  | .temperatureReading ch celsius => Sys2Proof.Machine.execTemperatureReading ch celsius s
  | .thermalDecision => Sys2Proof.Machine.execThermalDecision s
  | .channelTrip ch => Sys2Proof.Machine.execChannelTrip ch s
  | .secondChannelTrip ch => Sys2Proof.Machine.execSecondChannelTrip ch s
  | .tripRecovery ch => Sys2Proof.Machine.execTripRecovery ch s
  | .backgroundSelfTest ch unit result => Sys2Proof.Machine.execBackgroundSelfTest ch unit result s
  | .getNonce m => Sys2Proof.Machine.execGetNonce m s
  | .getStatus m => Sys2Proof.Machine.execGetStatus m s
  | .officerSet m => Sys2Proof.Machine.execOfficerSet m s
  | .provision m => Sys2Proof.Machine.execProvision m s
  | .tamperLevels m => Sys2Proof.Machine.execTamperLevels m s
  | .tamperClear m => Sys2Proof.Machine.execTamperClear m s
  | .slack m => Sys2Proof.Machine.execSlack m s
  | .sleepDrainDone => Sys2Proof.Machine.execSleepDrainDone s
  | .slotGrant m => Sys2Proof.Machine.execSlotGrant m s
  | .policySet m => Sys2Proof.Machine.execPolicySet m s
  | .dectabSet m => Sys2Proof.Machine.execDectabSet m s
  | .custodiansSet m => Sys2Proof.Machine.execCustodiansSet m s
  | .fenceHold ch => Sys2Proof.Machine.execFenceHold ch s
  | .fenceReport ch => Sys2Proof.Machine.execFenceReport ch s
  | .fenceApply ch => Sys2Proof.Machine.execFenceApply ch s
  | .ceremonyBegin m => Sys2Proof.Machine.execCeremonyBegin m s
  | .ceremonyComponent m => Sys2Proof.Machine.execCeremonyComponent m s
  | .ceremonyAbandon m => Sys2Proof.Machine.execCeremonyAbandon m s
  | .mgmtKeyblockImport m => Sys2Proof.Machine.execMgmtKeyblockImport m s
  | .mgmtKeyDestroy m => Sys2Proof.Machine.execMgmtKeyDestroy m s
  | .budgetSet m => Sys2Proof.Machine.execBudgetSet m s
  | .basinAssign m => Sys2Proof.Machine.execBasinAssign m s
  | .basinClear m => Sys2Proof.Machine.execBasinClear m s
  | .dukptUnbind m => Sys2Proof.Machine.execDukptUnbind m s
  | .personalise m => Sys2Proof.Machine.execPersonalise m s
  | .updateActivate m => Sys2Proof.Machine.execUpdateActivate m s
  | .svnCommit m => Sys2Proof.Machine.execSvnCommit m s
  | .imageExport m => Sys2Proof.Machine.execImageExport m s
  | .imageImport m image => Sys2Proof.Machine.execImageImport m image s
  | .recorderRead m => Sys2Proof.Machine.execRecorderRead m s
  | .recorderFreeze m => Sys2Proof.Machine.execRecorderFreeze m s
  | .recorderFreezeTimeout => Sys2Proof.Machine.execRecorderFreezeTimeout s
  | .recorderFlush m => Sys2Proof.Machine.execRecorderFlush m s
  | .recorderPeriodicFlush => Sys2Proof.Machine.execRecorderPeriodicFlush s
  | .recorderFlushDone => Sys2Proof.Machine.execRecorderFlushDone s
  | .recorderLimits m => Sys2Proof.Machine.execRecorderLimits m s
  | .alertRoute m => Sys2Proof.Machine.execAlertRoute m s
  | .nonceExpiry => Sys2Proof.Machine.execNonceExpiry s
  | .mctpUnsupportedMessage type length => Sys2Proof.Machine.execMctpUnsupportedMessage type length s
  | .kerralUnknownCode code m => Sys2Proof.Machine.execKerralUnknownCode code m s
  | .getVersion via body => Sys2Proof.Machine.execGetVersion via body s
  | .getCapabilities via body => Sys2Proof.Machine.execGetCapabilities via body s
  | .negotiateAlgorithms via body => Sys2Proof.Machine.execNegotiateAlgorithms via body s
  | .getDigests via body => Sys2Proof.Machine.execGetDigests via body s
  | .getCertificate via body => Sys2Proof.Machine.execGetCertificate via body s
  | .challenge via body => Sys2Proof.Machine.execChallenge via body s
  | .getMeasurements via body => Sys2Proof.Machine.execGetMeasurements via body s
  | .keyExchange via body => Sys2Proof.Machine.execKeyExchange via body s
  | .finish via body => Sys2Proof.Machine.execFinish via body s
  | .heartbeat via body => Sys2Proof.Machine.execHeartbeat via body s
  | .keyUpdate via body => Sys2Proof.Machine.execKeyUpdate via body s
  | .endSession via body => Sys2Proof.Machine.execEndSession via body s
  | .ideKm via stream keys secure => Sys2Proof.Machine.execIdeKm via stream keys secure s
  | .requestUpdate via image => Sys2Proof.Machine.execRequestUpdate via image s
  | .activateFirmware via => Sys2Proof.Machine.execActivateFirmware via s
  | .getSensorReading via sensor => Sys2Proof.Machine.execGetSensorReading via sensor s
  | .unassignedOpcode ch => Sys2Proof.Machine.execUnassignedOpcode ch s
  | .rcRegisterRead t bar offset span => Sys2Proof.Machine.execRcRegisterRead t bar offset span s
  | .passingAreaDrain count => Sys2Proof.Machine.execPassingAreaDrain count s
  | .linkTrainingDone => Sys2Proof.Machine.execLinkTrainingDone s
  | .kerralResponse => Sys2Proof.Machine.execKerralResponse s
  | .endpointIdAssignment binding eid => Sys2Proof.Machine.execEndpointIdAssignment binding eid s
  | .dynamicAddressAssignment address => Sys2Proof.Machine.execDynamicAddressAssignment address s

end Sys2Proof.Machine
end

