-- ==== Sys2Proof/WellFormed.lean ====
section
/-! DEFINITION. Which commands are well formed: the bytes and numbers that a command carries have the lengths and ranges
that can reach the device. A meaning is total; an ill-formed command stands for nothing the outside world can send. -/

namespace Sys2Proof

/-- A posted write of the host: a memory TLP carries at most 4,096 bytes (R50, R54). -/
def doorbellWf (offset : BitVec 12) (data : Bytes) : Bool :=
  decide (data.length ≤ 4096) && decide (0 < data.length) && decide (offset.toNat + data.length ≤ 4096)

/-- A fetched ring entry has 64 bytes, and a payload at most 16,384 (R51, R52). -/
def ringEntryWf (entry : Bytes) (payload : Option Bytes) : Bool :=
  entry.length == 64 && (match payload with
    | none => true
    | some b => decide (b.length ≤ 16384))

/-- A register access carries 1 to 1,024 DWORDs, in which bytes outside its byte enables may stand (R416, R417). -/
def registerWf (dwords : Nat) : Bool := decide (0 < dwords) && decide (dwords ≤ 1024)

/-- A reading of a temperature sensor (R452). -/
def celsiusWf (c : Int) : Bool := decide (-128 ≤ c) && decide (c ≤ 383)

/-- The command is well formed. -/
def Instr.wf : Instr → Bool
  | .inlineDoorbell _ _ offset data => doorbellWf offset data
  | .ringFetchDone _ _ entry payload => ringEntryWf entry payload
  | .registerWrite _ _ _ data _ => registerWf data.length
  | .rcRegisterRead _ _ _ span => registerWf span.dwords
  | .digestCmp _ _ expect _ => (match expect with
    | none => true
    | some b => b.length == 64)
  | .rngSeedReady _ noise => noise.length == 128
  | .drbgReseedDone _ noise => noise.length == 128
  | .entropyContribution _ noise => noise.length == 128
  | .temperatureReading _ celsius => celsiusWf celsius
  | _ => true

end Sys2Proof
end

