-- ==== Sys2Proof/Safety.lean ====
section
/-! DEFINITION. The terms in which statements speak of runs: a command that completes, the command of an Erwen operation,
what a command of one channel may touch, and the safe run. -/

namespace Sys2Proof.Machine

/-- The command answers a next state, and that state has the property. -/
def Completes (c : Instr) (s : State) (P : State → Prop) : Prop := ∃ t, exec c s = .next t ∧ P t

/-- The command of an Erwen operation on a channel at a step: the row of the opcode table that bears its name. -/
def opRow (o : Op) (ch : Chan) (step : OpStep) : Instr :=
  match o with
  | .getRandom => .getRandom ch step
  | .reseed => .reseed ch step
  | .echo => .echo ch step
  | .pinTranslate => .pinTranslate ch step
  | .pinVerifyOffset => .pinVerifyOffset ch step
  | .pinVerifyPvv => .pinVerifyPvv ch step
  | .pinChange => .pinChange ch step
  | .cvcGenerate => .cvcGenerate ch step
  | .cvcVerify => .cvcVerify ch step
  | .arqcVerify => .arqcVerify ch step
  | .arqcVerifyLongPan => .arqcVerifyLongPan ch step
  | .dukptTranslate => .dukptTranslate ch step
  | .dukptTranslateLongKey => .dukptTranslateLongKey ch step
  | .dukptData => .dukptData ch step
  | .macCmac => .macCmac ch step
  | .macIso97973 => .macIso97973 ch step
  | .macCmacLong => .macCmacLong ch step
  | .macIso9797Long => .macIso9797Long ch step
  | .macHmacSha256 => .macHmacSha256 ch step
  | .keyblockImport => .keyblockImport ch step
  | .keyblockExport => .keyblockExport ch step
  | .keyWrap => .keyWrap ch step
  | .keyUnwrap => .keyUnwrap ch step
  | .transportImport => .transportImport ch step
  | .transportExport => .transportExport ch step
  | .componentBegin => .componentBegin ch step
  | .componentAdd => .componentAdd ch step
  | .componentAbandon => .componentAbandon ch step
  | .tokenFf1 => .tokenFf1 ch step
  | .vaultTokenise => .vaultTokenise ch step
  | .vaultDetokenise => .vaultDetokenise ch step
  | .vaultDelete => .vaultDelete ch step
  | .cipherEncrypt => .cipherEncrypt ch step
  | .cipherDecrypt => .cipherDecrypt ch step
  | .streamOpen => .streamOpen ch step
  | .streamUpdate => .streamUpdate ch step
  | .streamFinal => .streamFinal ch step
  | .streamAbandon => .streamAbandon ch step
  | .digest => .digest ch step
  | .macHmacSha2 => .macHmacSha2 ch step
  | .pkSign => .pkSign ch step
  | .pkVerify => .pkVerify ch step
  | .pkKeygen => .pkKeygen ch step
  | .pkAgree => .pkAgree ch step
  | .pkEncap => .pkEncap ch step
  | .pkDecap => .pkDecap ch step
  | .pkPubkeyExport => .pkPubkeyExport ch step
  | .pkPubkeyImport => .pkPubkeyImport ch step
  | .keyCheckValue => .keyCheckValue ch step
  | .keyAttributes => .keyAttributes ch step
  | .keyGenerate => .keyGenerate ch step
  | .keyRestrict => .keyRestrict ch step
  | .keyDestroy => .keyDestroy ch step

/-- What stands in the port die beside the event recorder, the alerts and the page of device events: what `record`,
`alert` and `devEvent` write. -/
def PortDie.dataPath (p : PortDie) : PortDie :=
  { p with recorder := Recorder.reset, page := Global.reset, mgmt := { p.mgmt with alertsSent := 0, out := [] } }

/-- A channel beside the events it is about to send. -/
def Channel.quiet (c : Channel) : Channel := { c with events := [] }

/-- The host side beside the pending bits and the sent messages of interrupts. -/
def HostSide.memory (h : HostSide) : HostSide := { h with pba := [], sent := [] }

/-- Nothing outside channel `ch` differs but the event recorder, alerts, device events and interrupts. -/
def OnlyChannel (ch : Chan) (s t : State) : Prop :=
  t.pending = s.pending ∧ t.port.dataPath = s.port.dataPath ∧ (t.chan ch.peer).quiet = (s.chan ch.peer).quiet
  ∧ t.host.memory = s.host.memory

/-- Nothing outside the port die and the host side differs, nor the queue. -/
def OnlyPort (s t : State) : Prop := t.pending = s.pending ∧ t.a.quiet = s.a.quiet ∧ t.b.quiet = s.b.quiet

/-- The channel has its units (R17): 48 cores, 8 ready lists (R88), 64 lane pairs of 8 rakes, 4 digest engines, 16
public-key engines, and a level for each of the 23 tamper sources (R357). -/
def Channel.unitsWhole (c : Channel) : Bool :=
  c.sched.cores.length == 48 && c.sched.ready.length == 8 && c.skim.pairs.length == 64 && c.rakes.perRake.length == 8
  && c.digests.engines.length == 4 && c.pks.engines.length == 16 && c.tamper.levels.length == 23

/-- Both channels are twin members: joined. -/
def State.twin (s : State) : Prop := s.port.joined .a = true ∧ s.port.joined .b = true

/-- The Kerral messages of R394 that a body alone carries, by code. -/
def kerralRows : List (Nat × (Kerral → Instr)) :=
  [(0x01, .getNonce), (0x02, .getStatus), (0x10, .officerSet), (0x11, .provision), (0x20, .tamperLevels), (0x21, .tamperClear),
   (0x22, .slack), (0x30, .slotGrant), (0x31, .policySet), (0x32, .dectabSet), (0x33, .custodiansSet), (0x34, .ceremonyBegin),
   (0x35, .ceremonyComponent), (0x36, .ceremonyAbandon), (0x37, .mgmtKeyblockImport), (0x38, .mgmtKeyDestroy), (0x40, .budgetSet), (0x41, .basinAssign),
   (0x42, .basinClear), (0x43, .dukptUnbind), (0x44, .personalise), (0x50, .updateActivate), (0x51, .svnCommit), (0x52, .imageExport),
   (0x60, .recorderRead), (0x61, .recorderFreeze), (0x62, .recorderFlush), (0x63, .recorderLimits), (0x64, .alertRoute)]

/-- A Kerral message as the port die takes it in (R397, R399), begun. -/
def State.takenMsg (s : State) (code : Nat) (m : Kerral) (image : Bytes) : KerralMsg :=
  { counter := s.port.mgmt.counter + 1, intakeNo := s.port.nextIntake, intakeTide := s.port.tide, code := code, msg := m, image := image, started := true,
    change := none, hold := none, target := none, noneA := false, noneB := false, result := none }

/-- The RESULT that the checks of R393 give a message; the channels agree on it where both are joined. -/
def State.verdictOf (s : State) (x : KerralMsg) : Nat := s.kerralVerdict (s.chan (s.port.joinedChans.headD .a)) x

/-- The management port can take one more message, and nothing stands before it (R397). -/
def State.mgmtFree (s : State) (m : Kerral) : Prop :=
  s.port.mgmtUp m.via.binding = true ∧ 19 + m.rest.length ≤ 16384 ∧ s.port.mgmt.messages = []

/-- Where both channels are joined, the checks give the message the same RESULT in both. -/
def State.agreeOn (s : State) (x : KerralMsg) : Prop :=
  s.port.bothJoined = true → s.kerralVerdict s.a x = s.kerralVerdict s.b x

/-- A run of `n` steps is safe: no step of it stops. -/
def SafeRun (n : Nat) (s : State) : Prop := ∃ t, Sys2Proof.core.run n s = .next t

end Sys2Proof.Machine
end

