-- ==== Sys2Proof/Certificates/Slice0/Obligations.lean ====
section
/-! DEFINITION. The statements for the provers. -/

open Sys2Proof Sys2Proof.Machine

/-- A step runs the command at the front of the queue. For every command c and state s, the step of s with c put at the
front of its queue is exec of c on s with the rest of the queue. (spec/INDEX.md) -/
def Obligations.StepRunsTheFrontCommand : Prop :=
  ∀ (c : Instr) (s : State), step { s with pending := c :: s.pending } = exec c s

/-- With no command waiting one cycle passes. The model's own choice (log entry 1): on an empty queue, with no detection
held back by a monitor test (MonitorsAndIslands says what such a one does), the step answers a next state in which
one cycle has passed. With REFCLK present each of the port die and the two channels whose tide runs has its cycle
offset raised by one, held at 4,095, and the recorder takes an event from its input queue in every second cycle;
without REFCLK no offset changes. Where no tide runs and the port die has main power, OPTIME counts the cycle.
Nothing else of the port die, no line of host memory and no waiting command differs; a channel whose tide does not
run is unchanged but for its offset's rule and the time a held alarm lasts, and one whose tide runs and whose
generator has heard no failing sample changes beyond its offset in its scheduler alone; a generator that has heard
one is failed. (R25, R26, R29, R303, R407, R409) -/
def Obligations.EmptyQueueIdlesOneCycle : Prop :=
  (∀ (s : State),
    s.pending = [] →
    (∀ ch, (s.chan ch).tamper.outlast = 0#23) →
    ∃ t, step s = .next t ∧ t.host = s.host ∧ t.pending = []
      ∧ t.port = { s.port with offset := (if s.port.start.aligned && s.port.start.refclk then min 4095 (s.port.offset + 1) else s.port.offset), recorder := (let r := if s.port.start.refclk then s.port.recorder.cycle else s.port.recorder; if s.port.start.power = .backup ∨ (s.port.start.aligned = true ∧ s.port.start.refclk = true) then r else r.elapse 1) }
      ∧ ∀ ch, (t.chan ch).tide = (s.chan ch).tide
          ∧ (t.chan ch).offset = (if (s.chan ch).aligned && s.port.start.refclk then min 4095 ((s.chan ch).offset + 1) else (s.chan ch).offset)
          ∧ ((s.chan ch).aligned = false → t.chan ch = { s.chan ch with offset := (t.chan ch).offset, tamper := { (s.chan ch).tamper with lasts := (t.chan ch).tamper.lasts } })
          ∧ ((s.chan ch).rng.failing = none → t.chan ch = { s.chan ch with offset := (t.chan ch).offset, sched := (t.chan ch).sched })
          ∧ (∀ x, (s.chan ch).aligned = true → (s.chan ch).rng.failing = some x → (s.chan ch).rng.state ≠ .off → (t.chan ch).rng.state = .failed))

/-- No command changes the queue of waiting commands. The queue of waiting commands is the model's own choice (log entry
7). For every command of the opcode table and every state: where exec answers a next state, the queue is what it
was, so commands leave it only by running. (spec/INDEX.md) -/
def Obligations.NoCommandTouchesTheQueue : Prop :=
  ∀ (c : Instr) (s t : State), exec c s = .next t → t.pending = s.pending

/-- No command stops the machine. The model's own choice (log entry 5: a command that is not due leaves the state as it
was). For every command of the opcode table and every state, exec answers a next state: no command faults and none
is refused. (spec/INDEX.md) -/
def Obligations.EveryCommandAnswersANextState : Prop :=
  ∀ (c : Instr) (s : State), ∃ t, exec c s = .next t

/-- Host memory holds whole 64-byte lines, each listed once: every step keeps this. If every line that the device has
put into host memory has 64 bytes and the lines are listed in strictly rising address order, then after any step
that answers a next state the same holds: every entry the device writes, first or continuation, is 64 bytes. (R59,
R60, R405) -/
def Obligations.HostLinesStayWhole : Prop :=
  (∀ (s t : State),
    (SMap.sorted s.host.lines = true ∧ ∀ w ∈ s.host.lines, w.2.length = 64) →
    step s = .next t →
    SMap.sorted t.host.lines = true ∧ ∀ w ∈ t.host.lines, w.2.length = 64)

/-- At reset the invariant of the host lines holds. In State.reset the lines of host memory rise strictly by address and
each has 64 bytes, and the queue of commands is empty. (R59, R429) -/
def Obligations.ResetHostLinesWhole : Prop :=
  SMap.sorted State.reset.host.lines = true ∧ (∀ w ∈ State.reset.host.lines, w.2.length = 64) ∧ State.reset.pending = []

/-- Registers whose reset value the spec gives hold it at reset. At reset: TIDE_COUNT, the tide offset and every field
of TIDE_SKEW are 0; HEALTH_FLOOR 0x20 with DISCORD_IRQ 1; TWIN_SKIM 0x80, the trace mask 0x1FF, RAKES 7 and the twin
engine split 16 in both channels; a function has 0x40 vectors, error vector 0 enabled, floors 0 and ceilings at
their maxima; a queue is disabled, twin, inline, with ring sizes 2^6 and 2^10. (R29, R74, R75, R98, R118, R334,
R344, R353, R422) -/
def Obligations.RegistersAtReset : Prop :=
  let p := State.reset.port
  p.tide = 0 ∧ p.offset = 0 ∧ p.tides.maxSkew = 0#8 ∧ p.tides.faultA = false ∧ p.tides.faultB = false
  ∧ p.tides.adopted = false ∧ p.assay.floor = 0x20#8 ∧ p.assay.irq = true ∧ p.assay.refillActive = false
  ∧ (∀ ch, (State.reset.chan ch).sched.regs.twinSkim = 0x80#8 ∧ (State.reset.chan ch).sched.regs.mask = 0x1FF#9
      ∧ (State.reset.chan ch).skim.regs.rakes = 7#4 ∧ (State.reset.chan ch).pks.split = 16#5)
  ∧ (∀ f, (p.fn f).cfg.vectors = 0x40#12 ∧ (p.fn f).cfg.errVector = 0#11 ∧ (p.fn f).cfg.errEn = true
      ∧ (p.fn f).twin = Budget.reset ∧ (p.fn f).intakeCause = 0#4)
  ∧ (∀ q, (p.queue q).conf.enable = false ∧ (p.queue q).conf.halved = false ∧ (p.queue q).conf.ring = false
      ∧ (p.queue q).conf.sqLog2 = 6#5 ∧ (p.queue q).conf.cqLog2 = 10#5 ∧ (p.queue q).expected = 0#32)

/-- The 32 bytes of a header decode to the header, field by field. For every header with four tokens, at every value of
every field, the bytes laid out by R44 are 32 in number and parse to that same header, whatever bytes follow them.
(R44, R45) -/
def Obligations.HeaderBytesRoundTrip : Prop :=
  (∀ (h : Header) (rest : Bytes),
    h.tokens.length = 4 →
    h.bytes.length = 32 ∧ Header.parse (h.bytes ++ rest) = h)

/-- The entries of a completion have the layout of R59 and R60, the last filled with zeros (the model's choice). For
every completion record, tag, witness flag and phase: each entry is 64 bytes; the first carries SEQ at 0, QUEUE at
4, STATUS at 6, CHECK at 8, TIDE_LO at 16, CYCLES held at 0xFFFFFF at 20, and TAG, EXT and PHASE at 23; a result of
at most 40 bytes is inline from 24 with EXT 0, filled with zeros; a longer one puts RESULT_LEN at 24 and 38 bytes
from 26; continuation entry k holds the next 63 bytes around its FLAGS byte at 23, which carries TAG 0 and PHASE,
the last one filled with zeros (log entry 240); and the number of entries is 1, or 1 + ceil((L - 38) / 63). (R59,
R60) -/
def Obligations.CompletionEntryLayout : Prop :=
  ∀ (r : CompRec) (tag : BitVec 2) (single phase : Bool), r.result.length < 65536 →
    let e := r.first tag single phase
    let long := decide (40 < r.result.length)
    e.length = 64 ∧ leAt e 0 4 = r.seq.toNat ∧ leAt e 4 2 = r.queue.toNat
    ∧ leAt e 6 2 = statusWord r.code r.detail r.missed single ∧ leAt e 8 8 = r.check.toNat ∧ leAt e 16 4 = r.tideLo.toNat
    ∧ leAt e 20 3 = min 0xFFFFFF r.cycles ∧ u8 e 23 = tag.toNat + 4 * long.toNat + 8 * phase.toNat
    ∧ (long = false → slice e 24 40 = fitR 40 r.result)
    ∧ (long = true → leAt e 24 2 = r.result.length ∧ slice e 26 38 = r.result.take 38)
    ∧ (∀ k, 0 < k → (r.continuation k phase).length = 64 ∧ u8 (r.continuation k phase) 23 = 8 * phase.toNat
        ∧ slice (r.continuation k phase) 0 23 ++ slice (r.continuation k phase) 24 40 = slice r.result (38 + 63 * (k - 1)) 63)
    ∧ r.entries = if r.result.length ≤ 40 then 1 else 1 + (r.result.length - 38 + 62) / 63

/-- A doorbell that passes checks 1 to 12 is stamped, numbered and fanned out to every joined channel. For a doorbell at
offset 0 whose header passes checks 1 to 6 and 7 to 11, on a twin queue with replay log space free and no packet
waiting: the expected sequence number and the intake number rise by 1, and each joined channel is delivered the
packet with its header, its payload without padding, the present tide and the intake number. (R44, R50, R54, R309,
R461) -/
def Obligations.DoorbellPassesTheChecks : Prop :=
  (∀ (s : State) (x : Tlp) (w : BitVec 4) (data : Bytes) (h : Header),
    s.hostReaches = true →
    s.port.ideOk x.function.toNat x.ide = true →
    s.port.underReset x.function.toNat = false →
    32 ≤ data.length →
    h = Header.parse data →
    s.dropCause x.function.toNat h none = none →
    headerChecks h (s.port.queue h.queue.toNat).conf true (doorbellSizeOk h data.length) = none →
    h.halved = false →
    s.port.waiting = [] →
    s.port.logRoom { hdr := h, payload := slice data 32 h.payloadLen.toNat, intakeTide := s.port.tide, intakeNo := 0 } = true →
    Completes (.inlineDoorbell x w 0#12 data) s (fun t =>
      (t.port.queue h.queue.toNat).expected = (s.port.queue h.queue.toNat).expected + 1#32
      ∧ t.port.nextIntake = s.port.nextIntake + 1
      ∧ ∀ ch, s.port.joined ch = true → ∃ k, (t.chan ch).sched.fanout = (s.chan ch).sched.fanout ++ [k] ∧ k.hdr = h
          ∧ k.payload = slice data 32 h.payloadLen.toNat ∧ k.intakeTide = s.port.tide ∧ k.intakeNo = s.port.nextIntake))

/-- A doorbell that fails checks 1 to 6 is dropped and recorded, and its sequence number is not consumed. A doorbell
dropped by check 2 to 6 with CAUSE c answers a next state in which FN_ERR.INTAKE of the function is set; INTAKE_ERR
holds c and the QUEUE where none was recorded and MORE is set otherwise; no queue context changes, no packet waits
or is fanned out, and nothing is written to host memory. (R56) -/
def Obligations.DroppedDoorbellIsRecorded : Prop :=
  (∀ (s : State) (x : Tlp) (w : BitVec 4) (data : Bytes) (h : Header) (c : Nat),
    s.hostReaches = true →
    s.port.ideOk x.function.toNat x.ide = true →
    s.port.underReset x.function.toNat = false →
    32 ≤ data.length →
    h = Header.parse data →
    s.dropCause x.function.toNat h none = some c →
    Completes (.inlineDoorbell x w 0#12 data) s (fun t =>
      (t.port.fn x.function.toNat).errIntake = true ∧ t.port.queues = s.port.queues ∧ t.port.waiting = s.port.waiting
      ∧ t.host.lines = s.host.lines ∧ (∀ ch, (t.chan ch).sched.fanout = (s.chan ch).sched.fanout)
      ∧ (if (s.port.fn x.function.toNat).intakeCause = 0#4 then
          (t.port.fn x.function.toNat).intakeCause = BitVec.ofNat 4 c ∧ (t.port.fn x.function.toNat).intakeQueue = h.queue
            ∧ (t.port.fn x.function.toNat).intakeExpected
              = (if s.port.owns x.function.toNat h.queue.toNat && c != 2 then (s.port.queue h.queue.toNat).expected else 0#32)
        else (t.port.fn x.function.toNat).intakeMore = true ∧ (t.port.fn x.function.toNat).intakeCause = (s.port.fn x.function.toNat).intakeCause)))

/-- RING_TAIL, fetched entries, CQ_HEAD, intake resumption, egress and moderation take effect. RING_TAIL on a ring queue
of the function sets TAIL modulo the ring size; a fetched entry that passes the checks, with its payload inline,
moves the head and the expected sequence number and is fanned out; CQ_HEAD sets HEAD modulo the ring size; a waiting
packet with replay log space leaves the waiting list; PASSING_AREA_DRAIN grants posted credits, and the link takes
completions from the passing area in order; and a due moderation timer signals the queue. (R52, R54, R68, R69, R74,
R310, R338) -/
def Obligations.RingsAndReturnedEntries : Prop :=
  (∀ (s : State) (x : Tlp) (value : Word) (q : Nat),
    s.hostReaches = true →
    s.port.ideOk x.function.toNat x.ide = true →
    s.port.underReset x.function.toNat = false →
    q = value.toNat / 2 ^ 16 →
    s.port.owns x.function.toNat q = true →
    (s.port.queue q).conf.ring = true →
    Completes (.ringTail x value) s (fun t =>
      (t.port.queue q).sqTail = BitVec.ofNat 16 (value.toNat % 2 ^ 16 % (s.port.queue q).sqSize) ∧ (t.port.queue q).fetchHalt = false))
  ∧
  (∀ (s : State) (q : BitVec 16) (ide : Option (BitVec 6)) (data : Bytes) (h : Header) (payload : Option Bytes),
    s.hostReaches = true →
    s.port.fetches q.toNat = true →
    data.length = 64 →
    s.port.ideOk (s.port.queueFn q.toNat) ide = true →
    (s.port.fn (s.port.queueFn q.toNat)).dmaOk false (4096 * (s.port.queue q.toNat).conf.sqBase.toNat + 64 * (s.port.queue q.toNat).sqHead.toNat) = true →
    h = Header.parse data →
    s.dropCause (s.port.queueFn q.toNat) h (some q) = none →
    headerChecks h (s.port.queue q.toNat).conf (entryPadZero h data) true = none →
    h.payloadLen.toNat ≤ 32 →
    h.halved = false →
    s.port.logRoom { hdr := h, payload := slice data 32 h.payloadLen.toNat, intakeTide := s.port.tide, intakeNo := 0 } = true →
    Completes (.ringFetchDone q ide data payload) s (fun t =>
      (t.port.queue q.toNat).sqHead = BitVec.ofNat 16 (((s.port.queue q.toNat).sqHead.toNat + 1) % (s.port.queue q.toNat).sqSize)
      ∧ (t.port.queue h.queue.toNat).expected = (s.port.queue h.queue.toNat).expected + 1#32
      ∧ t.port.nextIntake = s.port.nextIntake + 1
      ∧ ∀ ch, s.port.joined ch = true → ∃ k, (t.chan ch).sched.fanout = (s.chan ch).sched.fanout ++ [k] ∧ k.hdr = h
          ∧ k.payload = slice data 32 h.payloadLen.toNat ∧ k.intakeTide = s.port.tide ∧ k.intakeNo = s.port.nextIntake))
  ∧
  (∀ (s : State) (x : Tlp) (value : Word) (q : Nat),
    s.hostReaches = true →
    s.port.ideOk x.function.toNat x.ide = true →
    s.port.underReset x.function.toNat = false →
    q = value.toNat / 2 ^ 16 →
    s.port.owns x.function.toNat q = true →
    Completes (.cqHead x value) s (fun t =>
      (t.port.queue q).cqHead = BitVec.ofNat 16 (value.toNat % 2 ^ 16 % (s.port.queue q).cqSize)))
  ∧
  (∀ (s : State) (k : Packet) (l : List Packet),
    s.port.waiting = k :: l →
    (k.hdr.halved = true ∨ s.port.logRoom k = true) →
    Completes (.intakeResume) s (fun t =>
      t.port.waiting.length < s.port.waiting.length))
  ∧
  (∀ (s : State) (n : Nat),
    s.port.start.linkUp = true →
    Completes (.passingAreaDrain n) s (fun t =>
      t.port.credits = true ∧ t.port.passing = s.port.passing.drop n))
  ∧
  (∀ (s : State) (q : BitVec 16),
    modDue s.port q.toNat = true →
    (s.port.queue q.toNat).conf.vector.toNat < (s.port.fn (s.port.queueFn q.toNat)).cfg.vectors.toNat →
    Completes (.moderationTimer q) s (fun t =>
      (t.port.queue q.toNat).unsignalled = 0#8))

/-- What one function writes to its intake and rings leaves the queues of every other function as they were. For
doorbells, RING_TAIL and CQ_HEAD writes of a function f, where exec answers a next state: the context of every queue
of another function is unchanged, both channels keep everything but what fan-out delivers to them, and RING_TAIL and
CQ_HEAD deliver nothing. (R74, R335, R336) -/
def Obligations.FunctionsQueuesStandApart : Prop :=
  (∀ (s t : State) (x : Tlp) (w : BitVec 4) (o : BitVec 12) (data : Bytes) (q : Nat), s.port.queueFn q ≠ x.function.toNat →
    exec (.inlineDoorbell x w o data) s = .next t → t.port.queue q = s.port.queue q)
  ∧ (∀ (s t : State) (x : Tlp) (value : Word) (q : Nat), s.port.queueFn q ≠ x.function.toNat →
    (exec (.ringTail x value) s = .next t ∨ exec (.cqHead x value) s = .next t) →
    t.port.queue q = s.port.queue q ∧ OnlyPort s t)

/-- A COMMIT is queued for the tide after next, overflows at four, and applies its block. A COMMIT with a mask, while
fewer than four are pending, is appended with the present tide plus 2 as target and counted; with four pending it
sets OVERFLOW and is not queued; and a pending commit of the assay block whose target has come sets HEALTH_FLOOR and
DISCORD_IRQ from their shadows, leaves no commit pending and shows its target in COMMIT_DONE. (R12, R423, R424) -/
def Obligations.CommitsAreIssuedAndApplied : Prop :=
  (∀ (s : State) (x : Tlp) (v : Word),
    s.hostReaches = true →
    s.port.ideOk 0 x.ide = true →
    x.function = 0#8 →
    BitVec.ofNat 7 v.toNat ≠ 0#7 →
    s.port.commits.length < 4 →
    Completes (.commit x v) s (fun t =>
      t.port.commits = s.port.commits ++ [{ target := s.port.tide + 2, mask := BitVec.ofNat 7 v.toNat }]
      ∧ t.port.page.issued = s.port.page.issued + 1#8))
  ∧
  (∀ (s : State) (x : Tlp) (v : Word),
    s.hostReaches = true →
    s.port.ideOk 0 x.ide = true →
    x.function = 0#8 →
    BitVec.ofNat 7 v.toNat ≠ 0#7 →
    4 ≤ s.port.commits.length →
    Completes (.commit x v) s (fun t =>
      t.port.commits = s.port.commits ∧ t.port.page.overflow = true ∧ t.port.page.ecCommitErr = true))
  ∧
  (∀ (s : State) (c : Commit),
    s.port.commits = [c] →
    c.target ≤ s.port.tide →
    c.mask = 0x20#7 →
    Completes (.commitApply) s (fun t =>
      t.port.assay.floor = s.port.assay.floorShadow ∧ t.port.assay.irq = s.port.assay.irqShadow ∧ t.port.commits = []
      ∧ t.port.page.commitDone = BitVec.ofNat 32 c.target ∧ t.port.page.doneCount = s.port.page.doneCount + 1#8))

/-- Direct and indirect register accesses and the enables of DMA units take effect. IND_ADDR_HI stages the high address
and sets INC; IND_ADDR_LO loads the whole address; an IND_DATA write to a word of a queue context lands in its
shadow alone and the address advances by 4 where INC is 1; a read of a function page word returns it and then clears
its RC fields, whatever the byte enables, ACCESS being set where they name less than the DWORD; a read of TIDE_SKEW
clears it; a write of SCRATCH holds; and the enable, disable and drained end of a DMA unit set its ENABLED and
DRAINING bits. (R12, R13, R29, R352, R355, R415, R416, R426) -/
def Obligations.RegisterAccessesTakeEffect : Prop :=
  (∀ (s : State) (x : Tlp) (v : Word),
    s.hostReaches = true →
    s.port.ideOk 0 x.ide = true →
    x.function = 0#8 →
    Completes (.indAddrHi x v) s (fun t =>
      t.port.page.stagedHi = bits v 0 16 ∧ t.port.page.indInc = v.getLsbD 31 ∧ t.port.page.indAddr = s.port.page.indAddr))
  ∧
  (∀ (s : State) (x : Tlp) (v : Word),
    s.hostReaches = true →
    s.port.ideOk 0 x.ide = true →
    x.function = 0#8 →
    Completes (.indAddrLo x v) s (fun t =>
      t.port.page.indAddr = BitVec.ofNat 48 (s.port.page.stagedHi.toNat * 2 ^ 32 + v.toNat / 4 * 4)))
  ∧
  (∀ (s : State) (x : Tlp) (v : Word) (q k : Nat) (h : QConf),
    s.hostReaches = true →
    s.port.ideOk 0 x.ide = true →
    x.function = 0#8 →
    indWord s.port.page.indAddr.toNat = some (.queue q k) →
    s.indReach (.queue q k) = true →
    (s.port.queue q).shadow.write k v = some h →
    s.port.locked 0 = false →
    Completes (.indData x (some v)) s (fun t =>
      (t.port.queue q).shadow = h ∧ (t.port.queue q).conf = (s.port.queue q).conf
      ∧ t.port.page.indAddr = (if s.port.page.indInc then s.port.page.indAddr + 4#48 else s.port.page.indAddr)))
  ∧
  (∀ (s : State) (x : Tlp) (o k : Nat) (full : Bool),
    s.hostReaches = true →
    s.port.ideOk x.function.toNat x.ide = true →
    fnPageWord o = some k →
    o % 4 = 0 →
    Completes (.rcRegisterRead x .bar0 o { dwords := 1, enables := full }) s (fun t =>
      t.host.readData = [s.fnWord x.function.toNat k] ∧ t.port.fn x.function.toNat = (s.port.fn x.function.toNat).clear k
      ∧ (full = false → t.port.page.ecAccess = true)))
  ∧
  (∀ (s : State) (x : Tlp) (o : Nat),
    s.hostReaches = true →
    s.port.ideOk 0 x.ide = true →
    x.function = 0#8 →
    devReg o = some (.global 11) →
    o % 4 = 0 →
    Completes (.rcRegisterRead x .bar2 o { dwords := 1, enables := true }) s (fun t =>
      t.host.readData = [s.globalWord 11] ∧ t.port.tides.maxSkew = 0#8 ∧ t.port.tides.faultA = false ∧ t.port.tides.faultB = false
      ∧ t.port.tides.adopted = false ∧ t.port.tides.adoptTo = s.port.tides.adoptTo))
  ∧
  (∀ (s : State) (x : Tlp) (o : Nat) (v : Word),
    s.hostReaches = true →
    s.port.ideOk 0 x.ide = true →
    x.function = 0#8 →
    devReg o = some (.global 7) →
    o % 4 = 0 →
    Completes (.registerWrite x .bar2 o [v] true) s (fun t =>
      t.port.page.scratch = v))
  ∧
  (∀ (s : State) (x : Tlp) (f : BitVec 8),
    s.hostReaches = true →
    s.port.ideOk 0 x.ide = true →
    x.function = 0#8 →
    (s.port.fn f.toNat).badWindows = [] →
    Completes (.fnAcuEnable x f) s (fun t =>
      (t.port.fn f.toNat).acuEnabled = true ∧ (t.port.fn f.toNat).acuDraining = false))
  ∧
  (∀ (s : State) (x : Tlp) (f : BitVec 8),
    s.hostReaches = true →
    s.port.ideOk 0 x.ide = true →
    x.function = 0#8 →
    Completes (.fnAcuDisable x f) s (fun t =>
      (t.port.fn f.toNat).acuEnabled = false
      ∧ (t.port.fn f.toNat).acuDraining = ((s.port.fn f.toNat).acuEnabled || (s.port.fn f.toNat).acuDraining)))
  ∧
  (∀ (s : State) (f : BitVec 8),
    Completes (.acuDrainDone f) s (fun t =>
      (t.port.fn f.toNat).acuDraining = false ∧ (t.port.fn f.toNat).acuEnabled = (s.port.fn f.toNat).acuEnabled))

/-- Completions that reach the port die are compared, written and end their command; a window that expires counts as
late. The record at the head of a channel's collector buffer leaves it; a halved command's completion ends it at the
port die, but one that fails with its channel's generator is held while a fault report can retire the channel; a
TAMPER_ABORT whose response's fault report still waits comes after it, so that the channel is retired first; a twin
command's second completion that agrees with the first ends it; records of both channels that arrive in one cycle
both leave their buffers, and of two that agree channel B's is the second; and 8,192 cycles after the first without
the second the window is over and, with both channels joined and no completion held for a generator's failure, the
late channel's count rises by one, held at 0xFFFF. (R64, R65, R66, R304, R307, R308, R366) -/
def Obligations.TwinCompletionsArrive : Prop :=
  (∀ (s : State) (r q : CompRec) (l m : List CompRec),
    s.port.passingFull = false →
    (s.arrive .a).port.passingFull = false →
    s.a.sched.buffer = r :: l →
    s.b.sched.buffer = q :: m →
    Completes (.completionArrival .both) s (fun t =>
      t.a.sched.buffer = l ∧ t.b.sched.buffer = m))
  ∧
  (∀ (s : State) (r q : CompRec) (l m : List CompRec) (o : Outst),
    s.port.passingFull = false →
    (s.arrive .a).port.passingFull = false →
    s.a.sched.buffer = r :: l →
    s.b.sched.buffer = q :: m →
    s.port.serving .a = true →
    s.port.serving .b = true →
    q.intakeNo = r.intakeNo →
    s.port.findOut r.intakeNo = some o →
    o.halved = false →
    o.needA = true →
    o.needB = true →
    o.gotA = none →
    o.gotB = none →
    o.verdict ≠ .discord →
    r.check = q.check →
    r.code ≠ .tamperAbort →
    q.code ≠ .tamperAbort →
    Completes (.completionArrival .both) s (fun t =>
      t.port.findOut r.intakeNo = none))
  ∧
  (∀ (s : State) (ch : Chan) (r : CompRec) (l : List CompRec),
    s.port.passingFull = false →
    (s.chan ch).sched.buffer = r :: l →
    Completes (.completionArrival (.one ch)) s (fun t =>
      (t.chan ch).sched.buffer = l))
  ∧
  (∀ (s : State) (ch : Chan) (r : CompRec) (l : List CompRec) (o : Outst),
    s.port.passingFull = false →
    (s.chan ch).sched.buffer = r :: l →
    s.port.serving ch = true →
    s.port.findOut r.intakeNo = some o →
    o.halved = true →
    o.need ch = true →
    o.got ch = none →
    o.verdict ≠ .discord →
    r.code ≠ .tamperAbort →
    s.holdsAlone ch r = false →
    Completes (.completionArrival (.one ch)) s (fun t =>
      t.port.findOut r.intakeNo = none))
  ∧
  (∀ (s : State) (ch : Chan) (r f : CompRec) (l : List CompRec) (o : Outst),
    s.port.passingFull = false →
    (s.chan ch).sched.buffer = r :: l →
    s.port.serving ch = true →
    s.port.findOut r.intakeNo = some o →
    o.halved = false →
    o.need ch = true →
    o.got ch = none →
    o.verdict ≠ .discord →
    o.got ch.peer = some f →
    f.check = r.check →
    r.code ≠ .tamperAbort →
    Completes (.completionArrival (.one ch)) s (fun t =>
      t.port.findOut r.intakeNo = none))
  ∧
  (∀ (s : State) (ch : Chan) (r : CompRec) (l : List CompRec) (o : Outst),
    s.port.passingFull = false →
    (s.chan ch).sched.buffer = r :: l →
    s.port.serving ch = true →
    s.port.findOut r.intakeNo = some o →
    o.halved = true →
    o.need ch = true →
    o.got ch = none →
    o.verdict ≠ .discord →
    s.holdsAlone ch r = true →
    Completes (.completionArrival (.one ch)) s (fun t =>
      t.port.findOut r.intakeNo = some (o.setGot ch (some r)) ∧ t.host.lines = s.host.lines))
  ∧
  (∀ (s : State) (ch : Chan) (r : CompRec) (l : List CompRec),
    s.port.passingFull = false →
    (s.chan ch).sched.buffer = r :: l →
    s.port.joined ch = true →
    s.port.joined ch.peer = true →
    r.code = .tamperAbort →
    (s.chan ch).faults.contains .tamper = true →
    Completes (.completionArrival (.one ch)) s (fun t =>
      t.port.assay.st ch = .retired ∧ (t.chan ch).faults = [] ∧ (t.chan ch).sched.buffer = l))
  ∧
  (∀ (s : State) (n : Nat) (o : Outst) (r : CompRec) (k : Nat),
    s.port.findOut n = some o →
    o.halved = false →
    o.windowOver = false →
    o.verdict ≠ .discord →
    o.firstAt = some k →
    k + 8192 ≤ s.port.now →
    o.gotA = some r →
    o.gotB = none →
    o.needB = true →
    s.port.bothJoined = true →
    s.holdsRng .a r = false →
    Completes (.assayWindowExpiry n) s (fun t =>
      (t.port.findOut n).all (·.windowOver) = true ∧ t.port.assay.lateB = satBv s.port.assay.lateB 1))

/-- Health reports, missing reports, fault reports and probes are judged, and a lost channel is written off. A health
report that arrives is held as word, score and tide; a channel whose report is missing for 4 tides, or that sends a
fault report, is retired while its peer is joined and not bad itself, and of two that are bad together the one with
the lower score is retired and the other kept with SOLO_FAULT; a first probe is kept, given or computed from the
replayed packet, and one that comes past its late tide is discarded; past its late tide a probe that has not come
counts against its channel, which is retired when the other reproduced; and CHANNEL_LOST leaves no halved command
homed on the lost channel outstanding. (R312, R313, R315, R316, R317, R319, R320) -/
def Obligations.ReportsFaultsAndProbesRetire : Prop :=
  (∀ (s : State) (w : Word) (k : Byte),
    s.a.health.report = some (w, k) →
    Completes (.healthReport true false) s (fun t =>
      t.port.assay.healthA = w ∧ t.port.assay.scoreA = k ∧ t.port.assay.reportA = some s.port.tide ∧ t.a.health.report = none))
  ∧
  (∀ (s : State) (ch : Chan),
    s.port.joined ch = true →
    s.port.joined ch.peer = true →
    s.port.reportMissing ch = true →
    s.port.reportBad ch.peer = false →
    Completes (.healthReportMissing ch) s (fun t =>
      t.port.assay.st ch = .retired ∧ (t.chan ch).resetOrder = true))
  ∧
  (∀ (s : State) (ch : Chan),
    s.port.joined ch = true →
    s.port.joined ch.peer = true →
    s.port.reportMissing ch = true →
    s.port.reportBad ch.peer = true →
    Completes (.healthReportMissing ch) s (fun t =>
      t.port.assay.st s.port.lowerScore = .retired ∧ t.port.joined s.port.lowerScore.peer = true ∧ t.port.assay.soloFault = true))
  ∧
  (∀ (s : State) (f : FaultCause) (l : List FaultCause),
    s.port.serving .a = true →
    s.port.joined .b = true →
    s.a.faults = f :: l →
    Completes (.channelFaultReport true false) s (fun t =>
      t.port.assay.stateA = .retired ∧ t.a.faults = l))
  ∧
  (∀ (s : State) (check : DWord) (r : Resolve) (o : Outst),
    s.port.assay.resolve = some r →
    s.port.findOut r.intakeNo = some o →
    r.probeB = none →
    s.port.tide ≤ r.lateTide →
    Completes (.probeCompletion .a (some check)) s (fun t =>
      t.port.assay.resolve = some { r with probeA := some check, stale := r.stale || s.a.probeStale r.intakeNo }))
  ∧
  (∀ (s : State) (ch : Chan) (r : Resolve) (o : Outst),
    s.port.assay.resolve = some r →
    s.port.findOut r.intakeNo = some o →
    r.probeA = none →
    r.probeB = none →
    s.port.tide ≤ r.lateTide →
    Completes (.probeCompletion ch none) s (fun t =>
      t.port.assay.resolve = some (r.take ch ((s.chan ch).probe s.port o).check ((s.chan ch).probeStale r.intakeNo))))
  ∧
  (∀ (s : State) (ch : Chan) (w : Option DWord) (r : Resolve) (o : Outst),
    s.port.assay.resolve = some r →
    s.port.findOut r.intakeNo = some o →
    r.lateTide < s.port.tide →
    Completes (.probeCompletion ch w) s (fun t =>
      t.port.assay = s.port.assay))
  ∧
  (∀ (s : State) (r : Resolve) (o : Outst) (k : CompRec),
    s.port.assay.resolve = some r →
    s.port.findOut r.intakeNo = some o →
    r.lateTide < s.port.tide →
    r.stale = false →
    r.probeA = some k.check →
    o.got .a = some k →
    r.probeB = none →
    s.port.joined .a = true →
    s.port.serving .b = true →
    Completes (.probeTimeout) s (fun t =>
      t.port.assay.stateB = .retired ∧ t.port.assay.resolve = none))
  ∧
  (∀ (s : State) (ch : Chan),
    s.port.lostIsDue ch = true →
    Completes (.channelLostTimeout ch) s (fun t =>
      ∀ o ∈ t.port.outst, ¬(o.halved = true ∧ homeChan o.homeB = ch)))

/-- A fault of the last joined channel does not retire it. A channel that is joined while its peer is not, and whose
health report is missing or that sends a fault report, stays joined, and SOLO_FAULT is set. (R322) -/
def Obligations.LastJoinedChannelIsKept : Prop :=
  (∀ (s : State) (ch : Chan),
    s.port.joined ch = true →
    s.port.joined ch.peer = false →
    s.port.reportMissing ch = true →
    Completes (.healthReportMissing ch) s (fun t =>
      t.port.joined ch = true ∧ t.port.assay.soloFault = true))
  ∧
  (∀ (s : State) (f : FaultCause) (l : List FaultCause),
    s.port.joined .a = true →
    s.port.joined .b = false →
    s.a.faults = f :: l →
    Completes (.channelFaultReport true false) s (fun t =>
      t.port.joined .a = true ∧ t.port.assay.soloFault = true))

/-- The tide reports of the two channels are compared by the table of R28. While the port die's tide runs and both
channels are aligned and serve: where only one channel's report differs, by its count or by a pulse more than 8
cycles away, that channel is retired and its tide fault is set; where both differ and agree with each other, the
port die takes their count at the next boundary, PORT_ADOPTED is set and no channel is retired; where both differ
and disagree, both tide faults are set, channel B is retired and channel A stays joined. A major event is recorded
in the second case. (R28) -/
def Obligations.TideReportsAreCompared : Prop :=
  (∀ (s : State) (a b : BitVec 16) (ka kb : Nat),
    s.port.start.aligned = true →
    s.a.aligned = true →
    s.b.aligned = true →
    s.twin →
    s.port.tideDiffers (some a) ka = true →
    s.port.tideDiffers (some b) kb = false →
    Completes (.tideReport (some a) ka (some b) kb) s (fun t =>
      t.port.assay.stateA = .retired ∧ t.port.tides.faultA = true ∧ t.port.joined .b = true))
  ∧
  (∀ (s : State) (a b : BitVec 16) (ka kb : Nat),
    s.port.start.aligned = true →
    s.a.aligned = true →
    s.b.aligned = true →
    s.twin →
    s.port.tideDiffers (some a) ka = false →
    s.port.tideDiffers (some b) kb = true →
    Completes (.tideReport (some a) ka (some b) kb) s (fun t =>
      t.port.assay.stateB = .retired ∧ t.port.tides.faultB = true ∧ t.port.joined .a = true))
  ∧
  (∀ (s : State) (a : BitVec 16) (ka kb : Nat),
    s.port.start.aligned = true →
    s.a.aligned = true →
    s.b.aligned = true →
    s.twin →
    s.port.tideDiffers (some a) ka = true →
    s.port.tideDiffers (some a) kb = true →
    Completes (.tideReport (some a) ka (some a) kb) s (fun t =>
      t.port.tides.adopted = true ∧ t.port.tides.adoptTo = some (nearCount s.port.tide a) ∧ t.port.joined .a = true ∧ t.port.joined .b = true
      ∧ (s.port.recorder.limitOf 0x002 = 65535 → s.port.recorder.frozenAt = none → s.port.recorder.input < 4096 → s.a.events = [] → s.b.events = [] → SMap.get 0 s.port.recorder.tideUse 0x002 = 0 →
          s.port.recorder.flushing = none → (SMap.get EventRec.empty t.port.recorder.records 0x002).count
            = sat32 ((SMap.get EventRec.empty s.port.recorder.records 0x002).count + 1))))
  ∧
  (∀ (s : State) (a b : BitVec 16) (ka kb : Nat),
    s.port.start.aligned = true →
    s.a.aligned = true →
    s.b.aligned = true →
    s.twin →
    s.port.tideDiffers (some a) ka = true →
    s.port.tideDiffers (some b) kb = true →
    a ≠ b →
    Completes (.tideReport (some a) ka (some b) kb) s (fun t =>
      t.port.tides.faultA = true ∧ t.port.tides.faultB = true ∧ t.port.assay.stateB = .retired ∧ t.port.joined .a = true))

/-- CCLK lock reports, tide 0 and the lock timeout align the port die and the channels. Before tide 0 a lock report of a
channel that has started is noted; with both noted, the marker sets the counts and offsets of the port die and of
both channels to 0 and every tide runs; after the timeout with one channel noted the tide runs in the port die and
in that channel alone; and a channel that reports lock once the tide runs takes the count 12 tides on: 10 for its
synthesiser to settle (R26) and the 2 of R27 (log entry 237). (R26, R27, R431) -/
def Obligations.TideIsAligned : Prop :=
  (∀ (s : State) (ch : Chan),
    s.port.start.aligned = false →
    (s.chan ch).aligned = false →
    (s.chan ch).start.step ≠ .off →
    (s.chan ch).start.step ≠ .halted →
    Completes (.cclkLockReport ch) s (fun t =>
      (match ch with | .a => t.port.start.lockA | .b => t.port.start.lockB) = true))
  ∧
  (∀ (s : State),
    s.port.start.aligned = false →
    s.port.start.lockA = true →
    s.port.start.lockB = true →
    Completes (.tideAlign) s (fun t =>
      t.port.start.aligned = true ∧ t.port.tide = 0 ∧ t.port.offset = 0
      ∧ ∀ ch, (t.chan ch).aligned = true ∧ (t.chan ch).tide = 0 ∧ (t.chan ch).offset = 0))
  ∧
  (∀ (s : State),
    s.port.start.aligned = false →
    s.port.start.lockA = true →
    s.port.start.lockB = false →
    Completes (.cclkLockTimeout) s (fun t =>
      t.port.start.aligned = true ∧ t.a.aligned = true ∧ t.b = s.b))
  ∧
  (∀ (s : State) (ch : Chan),
    s.port.start.aligned = true →
    (s.chan ch).aligned = false →
    (s.chan ch).start.step ≠ .off →
    (s.chan ch).start.step ≠ .halted →
    Completes (.cclkLockReport ch) s (fun t =>
      (t.chan ch).alignAt = some (s.port.tide + 12)))

/-- The tide boundary opens the next tide in the port die and in every aligned channel. With the tide running and REFCLK
present, the boundary sets the port die's count to one more than the count in force, or than the one it adopts, and
its offset to 0, and gives every aligned channel that count with offset 0. (R26, R28, R35) -/
def Obligations.BoundaryOpensTheNextTide : Prop :=
  (∀ (s : State),
    s.port.start.aligned = true →
    s.port.start.refclk = true →
    Completes (.tideBoundary) s (fun t =>
      t.port.tide = s.port.tides.adoptTo.getD s.port.tide + 1 ∧ t.port.offset = 0
      ∧ ∀ ch, (s.chan ch).aligned = true → (t.chan ch).tide = t.port.tide ∧ (t.chan ch).offset = 0))

/-- Readings are taken, the roles of the tide decided, and a hot channel trips and recovers. A reading of a channel that
is not held off is kept in it and at the port die; a first channel at 115 degrees or more is told to trip; a channel
told to trip, as the first or the second, is tripped with a fault report sent and its reset ordered; and a tripped
channel below 95 degrees for 500,000 tides, its reset performed, starts again from the image check. (R452, R454,
R456, R457) -/
def Obligations.TemperatureAndTrips : Prop :=
  (∀ (s : State) (ch : Chan) (c : Int),
    (s.chan ch).start.step ≠ .off →
    Completes (.temperatureReading ch c) s (fun t =>
      (t.chan ch).thermal.reading = c ∧ t.port.reading ch = some c))
  ∧
  (∀ (s : State) (r : Int),
    s.port.reading .a = some r →
    115 ≤ r →
    s.isSecond .a = false →
    s.a.trips = false →
    s.a.start.step ≠ .halted →
    Completes (.thermalDecision) s (fun t =>
      t.a.thermal.tripFirst = true ∧ t.port.readA = none ∧ t.port.readB = none))
  ∧
  (∀ (s : State) (ch : Chan),
    (s.chan ch).thermal.tripFirst = true →
    Completes (.channelTrip ch) s (fun t =>
      (t.chan ch).start.step = .tripped ∧ (t.chan ch).resetOrder = true ∧ .thermal ∈ (t.chan ch).faults))
  ∧
  (∀ (s : State) (ch : Chan),
    (s.chan ch).thermal.tripSecond = true →
    Completes (.secondChannelTrip ch) s (fun t =>
      (t.chan ch).start.step = .tripped ∧ (t.chan ch).resetOrder = true ∧ .thermal ∈ (t.chan ch).faults))
  ∧
  (∀ (s : State) (ch : Chan),
    (s.chan ch).start.step = .tripped →
    (s.chan ch).resetOrder = false →
    500000 ≤ (s.chan ch).thermal.coolTides →
    Completes (.tripRecovery ch) s (fun t =>
      (t.chan ch).start.step = .image))

/-- The generator passes its start test, is seeded, falls due for reseeds, and fails. A start test that passes in
START_TEST leads to SEEDING, and one that fails to FAILED with AT_STARTUP set, a fault report and no key, V or epoch
kept; a first seed in SEEDING takes a pool unit of 1,024 bits, or before the tide of the channel runs the unit the
command gives (log entry 230), and makes the generator READY with the key and V of the SP 800-90A instantiation over
it, no request counted and the seed tide now; a health failure of cause 1 to 3 in any state that runs does the same
as a failed start test, with its cause; a reseed falls due after 65,536 requests or 50,000 tides; and one that is
due takes a pool unit and starts the counts again. (R288, R289, R303) -/
def Obligations.RngStartSeedAndFailure : Prop :=
  (∀ (s : State) (ch : Chan),
    (s.chan ch).rng.state = .startTest →
    Completes (.rngStartTestEnd ch true) s (fun t =>
      (t.chan ch).rng.state = .seeding))
  ∧
  (∀ (s : State) (ch : Chan),
    (s.chan ch).rng.state = .startTest →
    Completes (.rngStartTestEnd ch false) s (fun t =>
      (t.chan ch).rng.state = .failed ∧ (t.chan ch).rng.atStartup = true ∧ (t.chan ch).rng.drbgKey = [] ∧ (t.chan ch).rng.epochs = []
      ∧ .generator ∈ (t.chan ch).faults))
  ∧
  (∀ (s : State) (ch : Chan) (noise : Bytes),
    (s.chan ch).rng.state = .seeding →
    (s.chan ch).rng.unit = true →
    Completes (.rngSeedReady ch noise) s (fun t =>
      (t.chan ch).rng.state = .ready ∧ (t.chan ch).rng.drbgRequests = 0 ∧ (t.chan ch).rng.drbgSeedTide = (s.chan ch).tide ∧ (t.chan ch).rng.reseedDue = false
      ∧ ((t.chan ch).rng.drbgKey, (t.chan ch).rng.drbgV) = drbgInstantiate (fitR 128 ((s.chan ch).rng.unitBytes)) (beBytes 8 (s.chan ch).tide ++ [ch.letter])
          ((s.chan ch).fuses.identity ++ [ch.letter]) ∧ (t.chan ch).rng.pool = (s.chan ch).rng.pool.drop 16))
  ∧
  (∀ (s : State) (ch : Chan) (noise : Bytes),
    (s.chan ch).rng.state = .seeding →
    (s.chan ch).rng.unit = false →
    (s.chan ch).aligned = false →
    Completes (.rngSeedReady ch noise) s (fun t =>
      (t.chan ch).rng.state = .ready ∧ (t.chan ch).rng.drbgRequests = 0 ∧ (t.chan ch).rng.drbgSeedTide = (s.chan ch).tide ∧ (t.chan ch).rng.reseedDue = false
      ∧ ((t.chan ch).rng.drbgKey, (t.chan ch).rng.drbgV) = drbgInstantiate (fitR 128 (noise)) (beBytes 8 (s.chan ch).tide ++ [ch.letter])
          ((s.chan ch).fuses.identity ++ [ch.letter])))
  ∧
  (∀ (s : State) (ch : Chan) (cause : BitVec 3),
    (s.chan ch).rng.state ≠ .failed →
    (s.chan ch).rng.state ≠ .off →
    cause ≠ 0#3 →
    cause.toNat ≤ 3 →
    Completes (.rngHealthFail ch cause) s (fun t =>
      (t.chan ch).rng.state = .failed ∧ (t.chan ch).rng.cause = cause ∧ (t.chan ch).rng.atStartup = ((s.chan ch).rng.state == .startTest) ∧ (t.chan ch).rng.pool = []
      ∧ (t.chan ch).rng.drbgKey = [] ∧ (t.chan ch).rng.drbgV = [] ∧ (t.chan ch).rng.epochs = [] ∧ .generator ∈ (t.chan ch).faults
      ∧ (t.chan ch).health.cleared.getLsbD 2 = true))
  ∧
  (∀ (s : State) (ch : Chan),
    (s.chan ch).rng.state = .ready →
    (65536 ≤ (s.chan ch).rng.drbgRequests ∨ (s.chan ch).rng.drbgSeedTide + 50000 ≤ (s.chan ch).tide) →
    Completes (.drbgReseedDue ch) s (fun t =>
      (t.chan ch).rng.reseedDue = true))
  ∧
  (∀ (s : State) (ch : Chan) (noise : Bytes),
    (s.chan ch).rng.state = .ready →
    (s.chan ch).rng.reseedDue = true →
    (s.chan ch).rng.unit = true →
    Completes (.drbgReseedDone ch noise) s (fun t =>
      (t.chan ch).rng.reseedDue = false ∧ (t.chan ch).rng.drbgRequests = 0 ∧ (t.chan ch).rng.drbgSeedTide = (s.chan ch).tide ∧ (t.chan ch).rng.pool = (s.chan ch).rng.pool.drop 16))

/-- A core reads its random bytes through its port, eight at a time. A local request of 1 to 4,096 bytes while the
generator is READY and no reseed is due leaves in the port what the generator generates; and a read of a port that
waits for nothing returns its next 8 bytes, big-endian and filled with zeros, and drops them. (R299) -/
def Obligations.RngPortDeliversWords : Prop :=
  (∀ (s : State) (ch : Chan) (core : BitVec 6) (value : Word),
    (s.chan ch).rng.state = .ready →
    (s.chan ch).rng.reseedDue = false →
    value.getLsbD 21 = true →
    value.toNat / 256 % 8192 ≠ 0 →
    value.toNat / 256 % 8192 ≤ 4096 →
    Completes (.rngPortReq ch core value) s (fun t =>
      ((t.chan ch).rng.port core.toNat).data = ((s.chan ch).rng.generate [] (value.toNat / 256 % 8192)).1
      ∧ ((t.chan ch).rng.port core.toNat).waiting = none ∧ ((t.chan ch).rng.port core.toNat).failed = false))
  ∧
  (∀ (s : State) (ch : Chan) (core : BitVec 6),
    ((s.chan ch).rng.port core.toNat).waiting = none →
    Completes (.rngPortData ch core) s (fun t =>
      ((t.chan ch).rng.port core.toNat).word = BitVec.ofNat 64 (beNat (fitR 8 (((s.chan ch).rng.port core.toNat).data.take 8)))
      ∧ ((t.chan ch).rng.port core.toNat).data = ((s.chan ch).rng.port core.toNat).data.drop 8))

/-- A twin epoch is renewed by trigger, contribution, formation, agreement and effect. The trigger opens a renewal
500,000 tides after the epoch took effect; a channel that may contribute takes a pool unit for its contribution;
with both contributions the channel forms ES as SHA-512 of A, B, the number and the identity; equal checks of every
channel awaited fix the target two tides on; at the target the seed takes effect with its count at 0; a retry due
triggers a renewal; and the one joined channel forms alone, with zeros for its peer. (R295, R296, R291) -/
def Obligations.TwinEpochIsRenewed : Prop :=
  (∀ (s : State) (ch : Chan),
    s.port.joined ch = true →
    (s.chan ch).rng.epochTide ≠ 0 →
    (s.chan ch).rng.epochTide + 500000 ≤ (s.chan ch).tide →
    Completes (.epochRenewalTrigger) s (fun t =>
      (t.chan ch).rng.renewal.isSome = true))
  ∧
  (∀ (s : State) (ch : Chan) (noise : Bytes),
    s.forms ch = true →
    (s.chan ch).mayContribute = true →
    (s.chan ch).rng.unit = true →
    Completes (.entropyContribution ch noise) s (fun t =>
      (t.chan ch).rng.pool = (s.chan ch).rng.pool.drop 16 ∧ (t.chan ch).rng.renewal.bind (·.own) = some (s.chan ch).rng.unitBytes))
  ∧
  (∀ (s : State) (ch : Chan) (noise : Bytes),
    s.forms ch = true →
    (s.chan ch).mayContribute = true →
    (s.chan ch).rng.unit = false →
    (s.chan ch).aligned = false →
    Completes (.entropyContribution ch noise) s (fun t =>
      (t.chan ch).rng.renewal.bind (·.own) = some (fitR 128 noise)))
  ∧
  (∀ (s : State) (ch : Chan) (r : Renewal) (own peer : Bytes),
    s.forms ch = true →
    s.forms ch.peer = true →
    s.a.sluice = true →
    s.b.sluice = true →
    (s.chan ch).rng.renewal = some r →
    r.own = some own →
    r.formed = none →
    (s.chan ch.peer).rng.renewal.bind (·.own) = some peer →
    Completes (.contributionReceived ch) s (fun t =>
      (t.chan ch).rng.renewal.bind (·.formed) = some (sha512 ((match ch with | .a => own ++ peer | .b => peer ++ own)
        ++ beBytes 8 (s.chan ch).rng.nextEpoch ++ (s.chan ch).fuses.identity))))
  ∧
  (∀ (s : State) (k : Bytes),
    s.port.epoch.target = none →
    s.checking ≠ [] →
    (∀ ch ∈ s.checking, (s.chan ch).formed.map epochCheck = some k) →
    Completes (.epochCheckReceived) s (fun t =>
      t.port.epoch.target = some (s.port.tide + 2)))
  ∧
  (∀ (s : State) (ch : Chan) (r : Renewal) (seed : Bytes) (n : Nat),
    s.port.joined ch = true →
    (s.chan ch).rng.renewal = some r →
    r.formed = some seed →
    r.target = some n →
    n ≤ (s.chan ch).tide →
    Completes (.epochEffect ch) s (fun t =>
      (t.chan ch).rng.current = (s.chan ch).rng.nextEpoch ∧ (t.chan ch).rng.uses = 0 ∧ (t.chan ch).rng.epochTide = n ∧ (t.chan ch).rng.renewal = none))
  ∧
  (∀ (s : State) (ch : Chan) (n : Nat),
    s.port.epoch.retryAt = some n →
    n ≤ s.port.tide →
    s.port.joined ch = true →
    Completes (.epochRetryTimer) s (fun t =>
      t.port.epoch.retryAt = none ∧ (t.chan ch).rng.renewal.isSome = true))
  ∧
  (∀ (s : State) (ch : Chan) (r : Renewal) (own : Bytes),
    s.port.joined ch = true →
    s.port.joined ch.peer = false →
    (s.chan ch).rng.renewal = some r →
    r.own = some own →
    r.formed = none →
    (s.port.assay.st ch.peer = .retired ∨ r.askedAt + 64 ≤ (s.chan ch).tide) →
    Completes (.epochFormAlone ch) s (fun t =>
      (t.chan ch).rng.renewal.bind (·.formed) = some (sha512 ((match ch with | .a => own ++ zeros 128 | .b => zeros 128 ++ own)
        ++ beBytes 8 (s.chan ch).rng.nextEpoch ++ (s.chan ch).fuses.identity))))

/-- Each channel keeps its 48 cores, 64 lane pairs, 8 rakes, 4 digest engines and 16 public-key engines through every
step. If each channel has 48 cores, 8 ready lists, 64 lane pairs, 8 rakes, 4 digest engines, 16 public-key engines
and 23 tamper levels, then after any step that answers a next state it has the same numbers of them: no command adds
or loses a unit. (R17, R88, R357) -/
def Obligations.UnitCountsStay : Prop :=
  (∀ (s t : State),
    (∀ ch, (s.chan ch).unitsWhole = true) →
    step s = .next t →
    ∀ ch, (t.chan ch).unitsWhole = true)

/-- At reset each channel has its units. In State.reset each channel has 48 cores, 8 ready lists, 64 lane pairs, 8
rakes, 4 digest engines, 16 public-key engines and 23 tamper levels. (R17, R429) -/
def Obligations.ResetUnitsWhole : Prop :=
  ∀ ch, (State.reset.chan ch).unitsWhole = true

/-- The command of every Erwen operation takes its packet from the head of fan-out. For every operation of R47, on
either channel: where the packet at the head of fan-out bears its opcode, the work-item table is not full, no
handover is awaited and the item's scheduler port holds no completion that stalls it, the decode step answers a next
state in which the packet has left fan-out, the queue's last delivered sequence number is the packet's and one more
work item has been numbered; and so does a resumed decode, and, for an opcode that is assigned to no operation, the
command of unassigned opcodes. (R47, R54, R78, R81, R83) -/
def Obligations.OperationsAreDecoded : Prop :=
  (∀ (s : State) (ch : Chan) (o : Op) (k : Packet) (l : List Packet),
    (s.chan ch).sched.fanout = k :: l →
    Op.ofCode k.hdr.opcode.toNat = some o →
    (s.chan ch).tableFull = false →
    (s.chan ch).refill.awaitHandover = false →
    (s.chan ch).stalls ((s.chan ch).sched.nextItem % 4) = false →
    Completes (opRow o ch .decode) s (fun t =>
      (t.chan ch).sched.fanout = l ∧ (t.chan ch).sched.nextItem = (s.chan ch).sched.nextItem + 1
      ∧ SMap.find? (t.chan ch).sched.delivered k.hdr.queue.toNat = some k.hdr.seq.toNat))
  ∧
  (∀ (s : State) (ch : Chan) (k : Packet) (l : List Packet),
    (s.chan ch).sched.fanout = k :: l →
    (s.chan ch).tableFull = false →
    (s.chan ch).refill.awaitHandover = false →
    (s.chan ch).stalls ((s.chan ch).sched.nextItem % 4) = false →
    Completes (.decodeResume ch) s (fun t =>
      (t.chan ch).sched.fanout = l ∧ (t.chan ch).sched.nextItem = (s.chan ch).sched.nextItem + 1))
  ∧
  (∀ (s : State) (ch : Chan) (k : Packet) (l : List Packet),
    (s.chan ch).sched.fanout = k :: l →
    Op.ofCode k.hdr.opcode.toNat = none →
    (s.chan ch).tableFull = false →
    (s.chan ch).refill.awaitHandover = false →
    (s.chan ch).stalls ((s.chan ch).sched.nextItem % 4) = false →
    Completes (.unassignedOpcode ch) s (fun t =>
      (t.chan ch).sched.fanout = l ∧ ∃ r ∈ (t.chan ch).sched.produced, r.record.code = .malformed ∧ r.record.detail = malOpcode ∧ r.record.seq = k.hdr.seq
        ∧ r.record.queue = k.hdr.queue ∧ r.record.result = []))

/-- The service of every Erwen operation hands its result to the completion port of its core. For every operation of
R47: where its work item is in service on core k after its engine work, its generator draws made, no function reset
holds it, its core has no configuration fault, no engine operation is left and the result needs no shadow entry that
is not free, the serve step answers a next state in which the core's completion port holds, 18 cycles from now, the
item's completion with the status, detail and result that the operation computes from its payload, keys and random
material; where its generator has failed it, its completion with RNG_FAILED; and where a result buffer has an
uncorrectable memory error, which clears the health bit of its memory, or the core reads where its region set does
not permit it, the fault step answers a next state in which that port holds the item's completion with
FAULT_DETECTED. (R33, R61, R89, R94) -/
def Obligations.OperationsComplete : Prop :=
  (∀ (s : State) (ch : Chan) (o : Op) (id k : Nat) (x : Item) (r : Channel × Res),
    (s.chan ch).onCore id = some (x, k) →
    x.op = o →
    x.stage ≠ 0 →
    (s.chan ch).resetHolds x = false →
    (s.chan ch).coreStalled k = false →
    x.rngFailed = false →
    (engineOf x.op == .pk && pkLeft x ((s.chan ch).held x)) = false →
    r = (s.chan ch).run x ((s.chan ch).held x) →
    (s.chan ch).install? x r = none →
    Completes (opRow o ch (.serve id)) s (fun t =>
      ∃ y ∈ (t.chan ch).sched.produced, y.producer = 32 + k ∧ y.readyAt = r.1.now + 18 ∧ y.item = some x.id
        ∧ y.record.seq = x.pkt.hdr.seq ∧ y.record.queue = x.pkt.hdr.queue ∧ y.record.code = r.2.code
        ∧ y.record.detail = r.2.detail ∧ y.record.result = r.2.bytes))
  ∧
  (∀ (s : State) (ch : Chan) (o : Op) (id k : Nat) (x : Item),
    (s.chan ch).onCore id = some (x, k) →
    x.op = o →
    x.stage ≠ 0 →
    (s.chan ch).resetHolds x = false →
    (s.chan ch).coreStalled k = false →
    x.rngFailed = true →
    Completes (opRow o ch (.serve id)) s (fun t =>
      ∃ y ∈ (t.chan ch).sched.produced, y.producer = 32 + k ∧ y.item = some x.id ∧ y.record.seq = x.pkt.hdr.seq ∧ y.record.queue = x.pkt.hdr.queue
        ∧ y.record.code = .rngFailed ∧ y.record.result = []))
  ∧
  (∀ (s : State) (ch : Chan) (o : Op) (id k : Nat) (x : Item) (h : Bool),
    (s.chan ch).onCore id = some (x, k) →
    x.op = o →
    (s.chan ch).resetHolds x = false →
    (s.chan ch).coreStalled k = false →
    x.memoryFaults = true →
    Completes (opRow o ch (.fault id (.memory h))) s (fun t =>
      ∃ y ∈ (t.chan ch).sched.produced, y.producer = 32 + k ∧ y.item = some x.id ∧ y.record.seq = x.pkt.hdr.seq ∧ y.record.queue = x.pkt.hdr.queue
        ∧ y.record.code = .faultDetected ∧ y.record.detail = fltMemory ∧ y.record.result = [] ∧ (t.chan ch).health.cleared.getLsbD (if h then 9 else 8) = true))
  ∧
  (∀ (s : State) (ch : Chan) (o : Op) (id k : Nat) (x : Item) (h : Bool) (a : BitVec 64),
    (s.chan ch).onCore id = some (x, k) →
    x.op = o →
    (s.chan ch).resetHolds x = false →
    (s.chan ch).coreStalled k = false →
    permits ((s.chan ch).regionsOf k) h false a.toNat = false →
    Completes (opRow o ch (.fault id (.read h a))) s (fun t =>
      ∃ y ∈ (t.chan ch).sched.produced, y.producer = 32 + k ∧ y.item = some x.id ∧ y.record.seq = x.pkt.hdr.seq ∧ y.record.queue = x.pkt.hdr.queue
        ∧ y.record.code = .faultDetected ∧ y.record.detail = fltEngine ∧ y.record.result = []))

/-- Commands of one channel's data plane leave the other channel, the port die's data path and host memory as they were.
For the commands of the 53 operations at either step and the scheduler, lane, digest, public-key, key cache and
generator events named, on a channel: where exec answers a next state, the other channel is unchanged but for events
on their way to the recorder, the port die but for the recorder, alerts and the page of device events, and host
memory, the MSI-X table and the last register read are unchanged. (R16, R18, R19) -/
def Obligations.OneChannelCommandsStayThere : Prop :=
  ∀ (s t : State) (ch : Chan),
    ((∃ o st, exec (opRow o ch st) s = .next t) ∨ exec (.decodeResume ch) s = .next t ∨ exec (.decodeLateFault ch) s = .next t
      ∨ exec (.delayRelease ch) s = .next t ∨ (∃ id, exec (.commandStart ch id) s = .next t)
      ∨ (∃ k, exec (.coreDispatch ch k) s = .next t) ∨ (∃ k, exec (.coreSliceTimer ch k) s = .next t)
      ∨ (∃ id, exec (.shadowEntryAcquire ch id) s = .next t) ∨ (∃ id, exec (.destroyUsersDrained ch id) s = .next t)
      ∨ exec (.completionAccept ch) s = .next t ∨ (∃ id, exec (.deadlineMiss ch id) s = .next t)
      ∨ (∃ k, exec (.keyCacheFillStart ch k) s = .next t) ∨ (∃ k, exec (.keyCacheFillDone ch k) s = .next t)
      ∨ (∃ k, exec (.exhaustionMark ch k) s = .next t) ∨ (∃ n, exec (.rakeJobStart ch n) s = .next t)
      ∨ (∃ n, exec (.rakeSliceEnd ch n) s = .next t) ∨ (∃ n, exec (.digestJobStart ch n) s = .next t)
      ∨ (∃ n, exec (.digestSliceEnd ch n) s = .next t) ∨ (∃ n v, exec (.digestMode ch n v) s = .next t)
      ∨ (∃ n v, exec (.digestData ch n v) s = .next t) ∨ (∃ n, exec (.digestFinishDone ch n) s = .next t)
      ∨ (∃ n, exec (.pkJobStart ch n) s = .next t) ∨ (∃ n, exec (.pkValidationEnd ch n) s = .next t)
      ∨ (∃ n, exec (.pkSliceReport ch n) s = .next t) ∨ (∃ n, exec (.pkWipeDone ch n) s = .next t)
      ∨ (∃ b, exec (.rngSeedReady ch b) s = .next t) ∨ (∃ b, exec (.drbgReseedDone ch b) s = .next t)
      ∨ (∃ k v, exec (.rngPortReq ch k v) s = .next t) ∨ (∃ k, exec (.rngPortData ch k) s = .next t)) →
    OnlyChannel ch s t

/-- Late decode, release, start, dispatch, the slice timer, completion and missed deadlines take effect. A packet 16
tides old at the head of fan-out is a decode fault; the oldest work item, delayed and due, leaves the delay lists; a
waiting firmware-path item that nothing holds starts in the present tide; a free core takes the next ready item, its
slice starting 24 cycles on, or 216 after a save; a core whose slice has run 3,584 cycles is left free; the
collector takes the completion offered at its pointer; and an item past its deadline is marked missed and counted.
(R81, R82, R88, R89, R92, R94, R95) -/
def Obligations.SchedulerEventsAct : Prop :=
  (∀ (s : State) (ch : Chan) (k : Packet) (l : List Packet),
    (s.chan ch).sched.fanout = k :: l →
    k.intakeTide + 16 ≤ (s.chan ch).tide →
    Completes (.decodeLateFault ch) s (fun t =>
      (t.chan ch).sched.regs.decodeLate = true ∧ .decodeLate ∈ (t.chan ch).faults ∧ (t.chan ch).health.cleared.getLsbD 1 = true))
  ∧
  (∀ (s : State) (ch : Chan) (x : Item) (l : List Item) (n : Nat),
    (s.chan ch).sched.items = x :: l →
    x.phase = .delayed n →
    n ≤ (s.chan ch).tide →
    Completes (.delayRelease ch) s (fun t =>
      x.id ∉ (t.chan ch).sched.delayTwin ∧ x.id ∉ (t.chan ch).sched.delayHalved))
  ∧
  (∀ (s : State) (ch : Chan) (id : Nat) (x : Item),
    (s.chan ch).item? id = some x →
    x.phase = .waiting →
    x.startTide = none →
    (s.chan ch).startable x = true →
    x.skim = false →
    (∀ z ∈ (s.chan ch).sched.cores, z.item ≠ some id) →
    Completes (.commandStart ch id) s (fun t =>
      ∃ y ∈ (t.chan ch).sched.items, y.id = id ∧ (y.startTide = some (s.chan ch).tide ∨ x.op = .keyDestroy ∧ y.phase = .draining)))
  ∧
  (∀ (s : State) (ch : Chan) (k : BitVec 6) (z : Core) (x : Item),
    (s.chan ch).sched.cores[k.toNat]? = some z →
    z.item = none →
    z.out = false →
    z.since ≤ (s.chan ch).now →
    (s.chan ch).sched.next.bind (s.chan ch).item? = some x →
    Completes (.coreDispatch ch k) s (fun t =>
      ((t.chan ch).sched.cores[k.toNat]?).bind (·.item) = some x.id ∧ ∃ y, (t.chan ch).item? x.id = some y ∧ y.phase = .running k.toNat
        ∧ y.sliceStart = (s.chan ch).now + 24 + (if x.saved then 192 else 0)))
  ∧
  (∀ (s : State) (ch : Chan) (k : BitVec 6) (x : Item) (j : Nat),
    ((s.chan ch).sched.cores[k.toNat]?.bind (·.item)).bind (s.chan ch).item? = some x →
    x.phase = .running j →
    x.sliceStart + 3584 ≤ (s.chan ch).now →
    Completes (.coreSliceTimer ch k) s (fun t =>
      ((t.chan ch).sched.cores[k.toNat]?).bind (·.item) = none))
  ∧
  (∀ (s : State) (ch : Chan) (r : Produced),
    (s.chan ch).sched.buffer.length < 512 →
    (s.chan ch).offered ((s.chan ch).sched.pointer % 80) = some r →
    Completes (.completionAccept ch) s (fun t =>
      (s.chan ch).sched.buffer.length < (t.chan ch).sched.buffer.length
      ∧ ∀ id, r.item = some id → (s.chan ch).item? id ≠ none → (t.chan ch).item? id = none))
  ∧
  (∀ (s : State) (ch : Chan) (id : Nat) (x : Item),
    (s.chan ch).item? id = some x →
    (s.chan ch).missDue x = true →
    (∀ z ∈ (s.chan ch).sched.cores, z.item ≠ some id) →
    Completes (.deadlineMiss ch id) s (fun t =>
      (t.chan ch).sched.regs.missCount = satBv (s.chan ch).sched.regs.missCount 1
      ∧ ∃ y ∈ (t.chan ch).sched.items, y.id = id ∧ y.missed = true))

/-- Wait limits, their verdicts, drained users, shadow entries, cache fills and exhaustion take effect. A halved item
whose wait limit has come completes with WAIT_TIMEOUT, and a twin one is reported and held; the verdict fixes every
open vote of its command, and at its tide each channel ends the held command with WAIT_TIMEOUT where it expires; a
destroy whose slot has no users left goes on with its deadline running, and a writer whose shadow entries are free
is ready at the stage it reached; a fill that is wanted starts and one whose 1,500 cycles have run ends; an
exhaustion report fixes its target two tides on, sent to both channels; and at the target the mark is journaled.
(R87, R188, R256, R258, R262, R265) -/
def Obligations.WaitsEndOrGoOn : Prop :=
  (∀ (s : State) (ch : Chan) (id e : Nat) (x : Item),
    (s.chan ch).item? id = some x →
    x.limit = some e →
    e ≤ (s.chan ch).tide →
    x.expiryPending = false →
    x.halved = true →
    x.waits = true →
    Completes (.waitLimitExpiry ch id) s (fun t =>
      ∃ r ∈ (t.chan ch).sched.produced, r.item = some x.id ∧ r.record.code = .waitTimeout))
  ∧
  (∀ (s : State) (ch : Chan) (id e : Nat) (x : Item),
    (s.chan ch).item? id = some x →
    x.limit = some e →
    e ≤ (s.chan ch).tide →
    x.expiryPending = false →
    x.halved = false →
    x.waits = true →
    Completes (.waitLimitExpiry ch id) s (fun t =>
      (∃ y ∈ (t.chan ch).sched.items, y.id = x.id ∧ y.expiryPending = true) ∧ ∃ v ∈ t.port.waits, v.intakeNo = x.pkt.intakeNo))
  ∧
  (∀ (s : State) (n : Nat),
    Completes (.waitVerdict n) s (fun t =>
      ∀ v ∈ t.port.waits, v.intakeNo = n → v.expire.isSome = true))
  ∧
  (∀ (s : State) (n : Nat) (v : WaitVote),
    s.port.waits.find? (fun v => v.intakeNo == n) = some v →
    v.expire = some true →
    v.e + 2 ≤ s.port.tide →
    Completes (.waitVerdictApply n) s (fun t =>
      (∀ v ∈ t.port.waits, v.intakeNo ≠ n)
      ∧ ∀ ch x, (s.chan ch).sched.items.find? (fun x => x.pkt.intakeNo == n && x.expiryPending) = some x →
          ∃ r ∈ (t.chan ch).sched.produced, r.item = some x.id ∧ r.record.code = .waitTimeout))
  ∧
  (∀ (s : State) (ch : Chan) (id : Nat) (x : Item),
    (s.chan ch).item? id = some x →
    x.phase = .draining →
    (s.chan ch).slotUsers (leAt x.p 0 4) id = false →
    x.expiryPending = false →
    x.startTide = none →
    (∀ z ∈ (s.chan ch).sched.cores, z.item ≠ some id) →
    Completes (.destroyUsersDrained ch id) s (fun t =>
      ∃ y ∈ (t.chan ch).sched.items, y.id = id ∧ y.startTide = some (s.chan ch).tide))
  ∧
  (∀ (s : State) (ch : Chan) (id : Nat) (x : Item),
    (s.chan ch).item? id = some x →
    x.phase = .shadowWait →
    (s.chan ch).keys.retainedUsed + (s.chan ch).sched.heldShadow + x.shadow ≤ writerShadow →
    (∀ z ∈ (s.chan ch).sched.cores, z.item ≠ some id) →
    Completes (.shadowEntryAcquire ch id) s (fun t =>
      ∃ y ∈ (t.chan ch).sched.items, y.id = id ∧ y.stage = x.stage ∧ y.phase = .ready))
  ∧
  (∀ (s : State) (ch : Chan) (slot : BitVec 28) (g : BitVec 16),
    (s.chan ch).keys.fills.find? (fun f => f.slot == slot.toNat && f.waitsForWay) = none →
    ((s.chan ch).sched.items.flatMap (·.fills)).find? (fun w => w.1 == slot.toNat && !(s.chan ch).keys.fills.any (fun f => f.slot == slot.toNat && f.generation == w.2)) = some (slot.toNat, g) →
    (s.chan ch).keys.filling < 2 →
    Completes (.keyCacheFillStart ch slot) s (fun t =>
      ∃ f ∈ (t.chan ch).keys.fills, f.slot = slot.toNat ∧ f.generation = g ∧ f.startedAt = (s.chan ch).now ∧ f.waitsForWay = !(s.chan ch).setOpen slot.toNat g))
  ∧
  (∀ (s : State) (ch : Chan) (slot : BitVec 28) (f : FillJob),
    (s.chan ch).keys.fills.find? (fun f => f.slot == slot.toNat && !f.waitsForWay && decide (f.startedAt + 1500 ≤ (s.chan ch).now)) = some f →
    (match (s.chan ch).keys.load slot.toNat f.generation with | .loaded .. => !(s.chan ch).setOpen slot.toNat f.generation | _ => false) = false →
    Completes (.keyCacheFillDone ch slot) s (fun t =>
      f ∉ (t.chan ch).keys.fills))
  ∧
  (∀ (s : State) (ch : Chan) (slot : BitVec 28) (g : BitVec 16),
    (s.chan ch).keys.reported.find? (fun r => r.1 == slot.toNat) = some (slot.toNat, g) →
    s.port.exhaust.any (fun t => t.slot == slot.toNat && t.generation == g) = false →
    Completes (.exhaustionReport ch slot) s (fun t =>
      t.port.exhaust = s.port.exhaust ++ [{ slot := slot.toNat, generation := g, x := s.port.tide + 2 }]
      ∧ ∀ d, (t.chan d).keys.exhaustAt = (s.chan d).keys.exhaustAt ++ [(slot.toNat, g, s.port.tide + 2)]))
  ∧
  (∀ (s : State) (ch : Chan) (slot : BitVec 28) (g : BitVec 16) (n : Nat),
    (s.chan ch).keys.exhaustAt.find? (fun t => t.1 == slot.toNat && decide (t.2.2 ≤ (s.chan ch).tide) && (match (s.chan ch).keys.load slot.toNat t.2.1 with | .loaded _ y _ _ => !y.exhausted | _ => false)) = some (slot.toNat, g, n) →
    Completes (.exhaustionMark ch slot) s (fun t =>
      (t.chan ch).journal.nextJseq = (s.chan ch).journal.nextJseq + 1 ∧ ∃ d ∈ (t.chan ch).journal.ring, d.jseq = (s.chan ch).journal.nextJseq ∧ d.image = .exhaustion slot.toNat g n))

/-- A firmware lane pair takes, yields and ends jobs; a lane compare fault completes FAULT_DETECTED; a self-test books
the pair. A free firmware-path pair takes the job at the head of the rake queue, which leaves the queue; a slice's
end with a job of its level waiting sends the job back, saved in 24 cycles and not restored before; a job with no
step left leaves the pair; true and inverted outputs that disagree set the pair's flag and complete the command with
FAULT_DETECTED; a self-test that passes takes 136 cycles and is noted, and the pair is tested once in the tide.
(R178, R179, R182, R184, R204) -/
def Obligations.LanePairsRunJobs : Prop :=
  (∀ (s : State) (ch : Chan) (n : BitVec 6) (j : Job),
    (s.chan ch).unitsWhole = true →
    headJob ((s.chan ch).landed (s.chan ch).rakes.jobs) = some j →
    (s.chan ch).firmwarePair n.toNat = true →
    (s.chan ch).pairIdle n.toNat = true →
    ((s.chan ch).lanePair n.toNat).queue = [] →
    (!j.saved && ((s.chan ch).item? j.item).any (fun x => (s.chan ch).maskWaits x.op)) = false →
    Completes (.rakeJobStart ch n) s (fun t =>
      (t.chan ch).rakes.jobs = (s.chan ch).rakes.jobs.erase j ∧ ((t.chan ch).lanePair n.toNat).job.map (·.item) = some j.item))
  ∧
  (∀ (s : State) (ch : Chan) (n : BitVec 6) (j : Job),
    (s.chan ch).unitsWhole = true →
    ((s.chan ch).lanePair n.toNat).job = some j →
    j.runs ≠ [] →
    ((s.chan ch).lanePair n.toNat).busyUntil ≤ (s.chan ch).now →
    (s.chan ch).firmwarePair n.toNat = true →
    ((s.chan ch).landed (s.chan ch).rakes.jobs).any (fun k => k.rank ≤ j.rank) = true →
    Completes (.rakeSliceEnd ch n) s (fun t =>
      ((t.chan ch).lanePair n.toNat).job = none ∧ (t.chan ch).rakes.jobs = queueJob (s.chan ch).rakes.jobs { j with saved := true, readyAt := (s.chan ch).now + 24, front := false }))
  ∧
  (∀ (s : State) (ch : Chan) (n : BitVec 6) (j : Job),
    (s.chan ch).unitsWhole = true →
    ((s.chan ch).lanePair n.toNat).job = some j →
    j.runs = [] →
    ((s.chan ch).lanePair n.toNat).busyUntil ≤ (s.chan ch).now →
    Completes (.rakeJobDone ch n .good) s (fun t =>
      ((t.chan ch).lanePair n.toNat).job = none))
  ∧
  (∀ (s : State) (ch : Chan) (n : BitVec 6) (x : Item),
    (s.chan ch).unitsWhole = true →
    (s.chan ch).laneWork n.toNat = some x →
    x.skim = false →
    x.op = .cipherEncrypt →
    (s.chan ch).past x = false →
    Completes (.rakeJobDone ch n .laneCompare) s (fun t =>
      ((t.chan ch).lanePair n.toNat).faultCompare = true ∧ ∃ y ∈ (t.chan ch).sched.produced, y.item = some x.id ∧ y.record.code = .faultDetected ∧ y.record.detail = fltLane))
  ∧
  (∀ (s : State) (ch : Chan) (n : BitVec 6) (j : Job) (x : Item) (h : Bool) (a : BitVec 64),
    (s.chan ch).unitsWhole = true →
    ((s.chan ch).lanePair n.toNat).job = some j →
    (s.chan ch).item? j.item = some x →
    permits j.regions h false a.toNat = false →
    (s.chan ch).past x = false →
    x.pair = none →
    Completes (.rakeJobDone ch n (.readRefused h a)) s (fun t =>
      ∃ y ∈ (t.chan ch).sched.produced, y.item = some x.id ∧ y.record.code = .faultDetected ∧ y.record.detail = fltEngine))
  ∧
  (∀ (s : State) (ch : Chan) (n : BitVec 6),
    (s.chan ch).unitsWhole = true →
    (s.chan ch).testOpen n.toNat = true →
    Completes (.laneSelfTest ch n true) s (fun t =>
      ((t.chan ch).lanePair n.toNat).testedTide = some (s.chan ch).tide ∧ ((t.chan ch).lanePair n.toNat).busyUntil = (s.chan ch).now + 136))

/-- A free digest engine takes, yields and completes jobs, tests itself once a tide, and reports its faults. A free
engine takes the job at the head of the digest queue; a slice's end with a job of its level waiting sends the job
back, saved, and counts the yield; a job with no block left completes, 18 cycles on, with what its operation
computes, from the engine's completion port; a memory fault completes it with FAULT_DETECTED, sets the engine's flag
and clears the health bit of its memory; and the known-answer test of an idle engine is counted and noted, leaving
the engine in service when it passes and taking it out when it fails. (R206, R209, R211, R213, R217, R218) -/
def Obligations.DigestEnginesRunJobs : Prop :=
  (∀ (s : State) (ch : Chan) (n : BitVec 2) (j : Job) (x : Item),
    (s.chan ch).unitsWhole = true →
    headJob ((s.chan ch).landed (s.chan ch).digests.jobs) = some j →
    (s.chan ch).digestFree n.toNat = true →
    (s.chan ch).stalls (28 + n.toNat) = false →
    (s.chan ch).item? j.item = some x →
    (j.saved || listOk (digestBlock (digestAlgo x.op x.p)).1 j.frags) = true →
    Completes (.digestJobStart ch n) s (fun t =>
      (t.chan ch).digests.jobs = (s.chan ch).digests.jobs.erase j ∧ ((t.chan ch).digestEngine n.toNat).job.map (·.item) = some j.item))
  ∧
  (∀ (s : State) (ch : Chan) (n : BitVec 2) (j : Job) (x : Item),
    (s.chan ch).unitsWhole = true →
    headJob ((s.chan ch).landed (s.chan ch).digests.jobs) = some j →
    (s.chan ch).digestFree n.toNat = true →
    (s.chan ch).stalls (28 + n.toNat) = false →
    (s.chan ch).item? j.item = some x →
    j.saved = false →
    listOk (digestBlock (digestAlgo x.op x.p)).1 j.frags = false →
    Completes (.digestJobStart ch n) s (fun t =>
      ((t.chan ch).digestEngine n.toNat).faultList = true ∧ ∃ y ∈ (t.chan ch).sched.produced, y.producer = 28 + n.toNat ∧ y.item = some x.id ∧ y.record.code = .faultDetected ∧ y.record.detail = fltEngine))
  ∧
  (∀ (s : State) (ch : Chan) (n : BitVec 2) (j : Job),
    (s.chan ch).unitsWhole = true →
    ((s.chan ch).digestEngine n.toNat).job = some j →
    j.runs ≠ [] →
    ((s.chan ch).digestEngine n.toNat).busyUntil ≤ (s.chan ch).now →
    ((s.chan ch).landed (s.chan ch).digests.jobs).any (fun k => k.rank ≤ j.rank) = true →
    Completes (.digestSliceEnd ch n) s (fun t =>
      ((t.chan ch).digestEngine n.toNat).job = none ∧ ((t.chan ch).digestEngine n.toNat).yields = satBv ((s.chan ch).digestEngine n.toNat).yields 1 ∧ (t.chan ch).digests.jobs = queueJob (s.chan ch).digests.jobs { j with saved := true, readyAt := (s.chan ch).now + 24, front := false }))
  ∧
  (∀ (s : State) (ch : Chan) (n : BitVec 2) (j : Job) (x : Item) (r : Res),
    (s.chan ch).unitsWhole = true →
    ((s.chan ch).digestEngine n.toNat).job = some j →
    j.runs = [] →
    ((s.chan ch).digestEngine n.toNat).busyUntil ≤ (s.chan ch).now →
    (s.chan ch).item? j.item = some x →
    j.refused = none →
    r = (((s.chan ch).sync.mapDigest n.toNat (fun e => { e with job := none })).run x (((s.chan ch).sync.mapDigest n.toNat (fun e => { e with job := none })).held x)).2 →
    Completes (.digestJobDone ch n .good) s (fun t =>
      ((t.chan ch).digestEngine n.toNat).job = none ∧ ∃ y ∈ (t.chan ch).sched.produced, y.producer = 28 + n.toNat ∧ y.readyAt = (s.chan ch).now + 18 ∧ y.item = some x.id
        ∧ y.record.code = r.code ∧ y.record.detail = r.detail ∧ y.record.result = r.bytes))
  ∧
  (∀ (s : State) (ch : Chan) (n : BitVec 2) (j : Job) (x : Item) (h : Bool),
    (s.chan ch).unitsWhole = true →
    ((s.chan ch).digestEngine n.toNat).job = some j →
    (s.chan ch).item? j.item = some x →
    (h && !j.frags.any (·.hbm)) = false →
    Completes (.digestJobDone ch n (.memory h)) s (fun t =>
      ((t.chan ch).digestEngine n.toNat).faultMemory = true ∧ ∃ y ∈ (t.chan ch).sched.produced, y.producer = 28 + n.toNat ∧ y.item = some x.id ∧ y.record.code = .faultDetected ∧ y.record.detail = fltMemory ∧ (t.chan ch).health.cleared.getLsbD (if h then 9 else 8) = true))
  ∧
  (∀ (s : State) (ch : Chan) (n : BitVec 2) (j : Job) (x : Item) (h : Bool) (a : BitVec 64),
    (s.chan ch).unitsWhole = true →
    ((s.chan ch).digestEngine n.toNat).job = some j →
    (s.chan ch).item? j.item = some x →
    permits j.regions h false a.toNat = false →
    Completes (.digestJobDone ch n (.readRefused h a)) s (fun t =>
      ((t.chan ch).digestEngine n.toNat).faultList = true ∧ ∃ y ∈ (t.chan ch).sched.produced, y.producer = 28 + n.toNat ∧ y.item = some x.id ∧ y.record.code = .faultDetected ∧ y.record.detail = fltEngine))
  ∧
  (∀ (s : State) (ch : Chan) (n : BitVec 2) (pass : Bool),
    (s.chan ch).unitsWhole = true →
    (s.chan ch).digestFree n.toNat = true →
    (s.chan ch).digests.jobs = [] →
    ((s.chan ch).digestEngine n.toNat).testedTide ≠ some (s.chan ch).tide →
    Completes (.digestKnownAnswerTest ch n pass) s (fun t =>
      ((t.chan ch).digestEngine n.toNat).testedTide = some (s.chan ch).tide ∧ (t.chan ch).digests.katRuns = satBv (s.chan ch).digests.katRuns 1 ∧ ((t.chan ch).digestEngine n.toNat).outOfService = !pass))

/-- The register mode of a digest engine hashes what is written to it and compares its result. DIGEST_MODE with REG set,
unlocked, opens register mode with the algorithm and an empty message; DIGEST_DATA joins 8 bytes; DIGEST_LAST_WORD
holds the last word; DIGEST_LAST_COUNT up to 8 starts finishing and above 8 faults; when finishing ends RESULT is
the digest of the message with the counted bytes of the last word, and DONE rises; DIGEST_CMP with GO and a length
of 1 to 64 sets MATCH when the leftmost bytes are equal and MATCH_N otherwise. While register mode is locked the
finisher registers take no write. (R205, R211, R212, R213, R221) -/
def Obligations.DigestRegisterMode : Prop :=
  (∀ (s : State) (ch : Chan) (n : BitVec 2) (v : Word),
    (s.chan ch).unitsWhole = true →
    v.getLsbD 3 = true →
    (s.chan ch).digests.locked = false →
    Completes (.digestMode ch n (some v)) s (fun t =>
      ((t.chan ch).digestEngine n.toNat).regMode = true ∧ ((t.chan ch).digestEngine n.toNat).algo = v.setWidth 3 ∧ ((t.chan ch).digestEngine n.toNat).message = [] ∧ ((t.chan ch).digestEngine n.toNat).done = false ∧ ((t.chan ch).digestEngine n.toNat).result = zeros 64))
  ∧
  (∀ (s : State) (ch : Chan) (n : BitVec 2),
    (s.chan ch).unitsWhole = true →
    Completes (.digestMode ch n none) s (fun t =>
      ((t.chan ch).digestEngine n.toNat).modeRead = ((s.chan ch).digestEngine n.toNat).modeWord ∧ ((t.chan ch).digestEngine n.toNat).modeFault = false))
  ∧
  (∀ (s : State) (ch : Chan) (n : BitVec 2) (v : DWord),
    (s.chan ch).unitsWhole = true →
    ((s.chan ch).digestEngine n.toNat).regMode = true →
    (s.chan ch).digests.locked = false →
    ((s.chan ch).digestEngine n.toNat).lastCount = none →
    Completes (.digestData ch n v) s (fun t =>
      ((t.chan ch).digestEngine n.toNat).message = ((s.chan ch).digestEngine n.toNat).message ++ beBytes 8 v.toNat))
  ∧
  (∀ (s : State) (ch : Chan) (n : BitVec 2) (v : DWord),
    (s.chan ch).unitsWhole = true →
    ((s.chan ch).digestEngine n.toNat).regMode = true →
    (s.chan ch).digests.locked = false →
    Completes (.digestLastWord ch n v) s (fun t =>
      ((t.chan ch).digestEngine n.toNat).lastWord = v))
  ∧
  (∀ (s : State) (ch : Chan) (n : BitVec 2) (v : Word),
    (s.chan ch).unitsWhole = true →
    ((s.chan ch).digestEngine n.toNat).regMode = true →
    (s.chan ch).digests.locked = false →
    ((s.chan ch).digestEngine n.toNat).lastCount = none →
    Completes (.digestLastCount ch n v) s (fun t =>
      if v.toNat % 16 ≤ 8 then ((t.chan ch).digestEngine n.toNat).lastCount = some (v.setWidth 4) else ((t.chan ch).digestEngine n.toNat).modeFault = true ∧ ((t.chan ch).digestEngine n.toNat).lastCount = none))
  ∧
  (∀ (s : State) (ch : Chan) (n : BitVec 2) (k : BitVec 4),
    (s.chan ch).unitsWhole = true →
    ((s.chan ch).digestEngine n.toNat).regMode = true →
    ((s.chan ch).digestEngine n.toNat).done = false →
    ((s.chan ch).digestEngine n.toNat).lastCount = some k →
    1 ≤ ((s.chan ch).digestEngine n.toNat).algo.toNat →
    ((s.chan ch).digestEngine n.toNat).algo.toNat ≤ 6 →
    Completes (.digestFinishDone ch n) s (fun t =>
      ((t.chan ch).digestEngine n.toNat).done = true
      ∧ ((t.chan ch).digestEngine n.toNat).result = fitR 64 (digestOf ((s.chan ch).digestEngine n.toNat).algo.toNat (((s.chan ch).digestEngine n.toNat).message ++ (beBytes 8 ((s.chan ch).digestEngine n.toNat).lastWord.toNat).take k.toNat))))
  ∧
  (∀ (s : State) (ch : Chan) (n : BitVec 2) (e : Bytes) (v : Word),
    (s.chan ch).unitsWhole = true →
    v.getLsbD 7 = true →
    1 ≤ v.toNat % 128 →
    v.toNat % 128 ≤ 64 →
    ((s.chan ch).digestEngine n.toNat).done = true →
    e.length = 64 →
    Completes (.digestCmp ch n (some e) v) s (fun t =>
      (((t.chan ch).digestEngine n.toNat).isMatch = true ↔ ((s.chan ch).digestEngine n.toNat).result.take (v.toNat % 128) = e.take (v.toNat % 128)) ∧ ((t.chan ch).digestEngine n.toNat).isMatchN = !((t.chan ch).digestEngine n.toNat).isMatch))
  ∧
  (∀ (s : State) (ch : Chan) (n : BitVec 2) (v : DWord) (w : Word),
    (s.chan ch).digests.locked = true →
    exec (.digestData ch n v) s = .next s ∧ exec (.digestLastWord ch n v) s = .next s ∧ exec (.digestLastCount ch n w) s = .next s)

/-- A public-key engine takes a job, validates its inputs, reports slices, completes with the result of the operation,
and wipes. A free engine owned by no other function takes the job at the head of its kind's queue; the end of
validation refuses an input with INPUT_REJECTED and its detail, or marks the job validated; a slice's end reports
the remaining slices; an operation that ends well completes, 18 cycles on, with what the operation computes; a
failed closing check completes with INVARIANT_FAIL; and a wipe is over when its 256 cycles have run. (R229, R233,
R234, R236, R238, R241) -/
def Obligations.PublicKeyEnginesRunJobs : Prop :=
  (∀ (s : State) (ch : Chan) (n : BitVec 4) (j : PkJob) (x : Item),
    (s.chan ch).unitsWhole = true →
    headPk (if (s.chan ch).pks.halvedEngine n.toNat then (s.chan ch).pks.queueHalved else (s.chan ch).pks.queueTwin) = some j →
    (s.chan ch).pkFree n.toNat = true →
    (((s.chan ch).pkEngine n.toNat).owned = true → ((s.chan ch).pkEngine n.toNat).owner.toNat = j.function) →
    (s.chan ch).item? j.item = some x →
    (isPk x.op = false ∨ ∃ c₁ y c₂ z, (s.chan ch).drawFor x ((s.chan ch).held x) = (c₁, y, true) ∧ y.rngFailed = false ∧ c₁.blind y = (c₂, z, true) ∧ z.rngFailed = false) →
    Completes (.pkJobStart ch n) s (fun t =>
      ((t.chan ch).pkEngine n.toNat).job = some j ∧ ((t.chan ch).pkEngine n.toNat).startedAt = (s.chan ch).now ∧ ((t.chan ch).pkEngine n.toNat).validated = false ∧ ((t.chan ch).pkEngine n.toNat).owned = true ∧ ((t.chan ch).pkEngine n.toNat).owner.toNat = j.function % 256
      ∧ (t.chan ch).pks.queueTwin = (s.chan ch).pks.queueTwin.erase j ∧ (t.chan ch).pks.queueHalved = (s.chan ch).pks.queueHalved.erase j))
  ∧
  (∀ (s : State) (ch : Chan) (n : BitVec 4) (j : PkJob) (x : Item) (d : BitVec 4),
    (s.chan ch).unitsWhole = true →
    ((s.chan ch).pkEngine n.toNat).job = some j →
    ((s.chan ch).pkEngine n.toNat).validated = false →
    ((s.chan ch).pkEngine n.toNat).startedAt + j.valid ≤ (s.chan ch).now →
    (s.chan ch).item? j.item = some x →
    (s.chan ch).pkRefuses x ((s.chan ch).held x) = some d →
    Completes (.pkValidationEnd ch n) s (fun t =>
      ((t.chan ch).pkEngine n.toNat).job = none ∧ (t.chan ch).pks.rejInput = satBv (s.chan ch).pks.rejInput 1
      ∧ ∃ y ∈ (t.chan ch).sched.produced, y.item = some x.id ∧ y.record.code = .inputRejected ∧ y.record.detail = d))
  ∧
  (∀ (s : State) (ch : Chan) (n : BitVec 4) (j : PkJob) (x : Item),
    (s.chan ch).unitsWhole = true →
    ((s.chan ch).pkEngine n.toNat).job = some j →
    ((s.chan ch).pkEngine n.toNat).startedAt + j.valid ≤ (s.chan ch).now →
    (s.chan ch).item? j.item = some x →
    (s.chan ch).pkRefuses x ((s.chan ch).held x) = none →
    Completes (.pkValidationEnd ch n) s (fun t =>
      ((t.chan ch).pkEngine n.toNat).job = some j ∧ ((t.chan ch).pkEngine n.toNat).validated = true))
  ∧
  (∀ (s : State) (ch : Chan) (n : BitVec 4) (j : PkJob) (x : Item),
    (s.chan ch).unitsWhole = true →
    ((s.chan ch).pkEngine n.toNat).job = some j →
    (s.chan ch).item? j.item = some x →
    ((s.chan ch).pkEngine n.toNat).startedAt + 3584 * (((s.chan ch).pkEngine n.toNat).slicesReported + 1) ≤ (s.chan ch).now →
    Completes (.pkSliceReport ch n) s (fun t =>
      ((t.chan ch).pkEngine n.toNat).slicesReported = ((s.chan ch).pkEngine n.toNat).slicesReported + 1 ∧ ∃ y ∈ (t.chan ch).sched.items, y.id = x.id ∧ y.remaining = max 1 (ceilDiv j.cycles 3584 - (((s.chan ch).pkEngine n.toNat).slicesReported + 1))))
  ∧
  (∀ (s : State) (ch : Chan) (n : BitVec 4) (j : PkJob) (x : Item) (r : Channel × Res),
    (s.chan ch).unitsWhole = true →
    ((s.chan ch).pkEngine n.toNat).job = some j →
    (s.chan ch).item? j.item = some x →
    (s.chan ch).pkRanOut n.toNat x = true →
    isPk x.op = true →
    r = ((s.chan ch).noteSigning x ((s.chan ch).held x)).run x ((s.chan ch).held x) →
    r.2.code ≠ .invariantFail →
    r.2.code ≠ .faultDetected →
    ((s.chan ch).noteSigning x ((s.chan ch).held x)).install? x r = none →
    Completes (.pkOperationDone ch n .good) s (fun t =>
      ∃ y ∈ (t.chan ch).sched.produced, y.producer = 12 + n.toNat ∧ y.readyAt = r.1.now + 18 ∧ y.item = some x.id ∧ y.record.code = r.2.code
        ∧ y.record.detail = r.2.detail ∧ y.record.result = r.2.bytes))
  ∧
  (∀ (s : State) (ch : Chan) (n : BitVec 4) (j : PkJob) (x : Item),
    (s.chan ch).unitsWhole = true →
    ((s.chan ch).pkEngine n.toNat).job = some j →
    (s.chan ch).item? j.item = some x →
    (pkStep x ((s.chan ch).held x)).closes = true →
    (s.chan ch).pkRanOut n.toNat x = true →
    Completes (.pkOperationDone ch n .closingCheck) s (fun t =>
      ((t.chan ch).pkEngine n.toNat).job = none ∧ (t.chan ch).pks.rejInvariant = satBv (s.chan ch).pks.rejInvariant 1
      ∧ ∃ y ∈ (t.chan ch).sched.produced, y.producer = 12 + n.toNat ∧ y.item = some x.id ∧ y.record.code = .invariantFail))
  ∧
  (∀ (s : State) (ch : Chan) (n : BitVec 4) (j : PkJob) (x : Item) (h : Bool) (a : BitVec 64),
    (s.chan ch).unitsWhole = true →
    ((s.chan ch).pkEngine n.toNat).job = some j →
    (s.chan ch).item? j.item = some x →
    permits j.regions h false a.toNat = false →
    Completes (.pkOperationDone ch n (.readRefused h a)) s (fun t =>
      ((t.chan ch).pkEngine n.toNat).job = none ∧ ∃ y ∈ (t.chan ch).sched.produced, y.producer = 12 + n.toNat ∧ y.item = some x.id ∧ y.record.code = .faultDetected ∧ y.record.detail = fltEngine))
  ∧
  (∀ (s : State) (ch : Chan) (n : BitVec 4),
    (s.chan ch).unitsWhole = true →
    ((s.chan ch).pkEngine n.toNat).wiping = true →
    ((s.chan ch).pkEngine n.toNat).wipingUntil ≤ (s.chan ch).now →
    Completes (.pkWipeDone ch n) s (fun t =>
      ((t.chan ch).pkEngine n.toNat).wiping = false ∧ ((t.chan ch).pkEngine n.toNat).secret = [] ∧ (((s.chan ch).pkEngine n.toNat).job = none → ((t.chan ch).pkEngine n.toNat).working = [])))

/-- A sluice agreement sets up a session and lets both channels join; a tag failure is retried once and then ends the
session. Where both channels wait for their agreement at a first start and their identities, fuse roots, signers,
versions and signatures allow it, the agreement leaves both with what each presented, with a session under whose
keys each opens what the other seals, at the join step, each with a start checkpoint; where they do not, channel A
alone goes on to join. Content sealed under a key of 32 bytes opens under that key. A first tag failure marks the
sender, whose message is sent again; a second ends the session in both channels. Each message of a refill and the
handover spends one counter value of its sender, crosses the port die sealed under its key, is opened by its
receiver, and clears the mark of a retransmission. (R21, R22, R436, R437) -/
def Obligations.SluiceSessions : Prop :=
  (∀ (s : State),
    s.a.start.step = .sluice →
    s.b.start.step = .sluice →
    (s.a.sluice && s.b.sluice) = false →
    s.port.serving .a = false →
    s.port.serving .b = false →
    s.mayAgree = true →
    Completes (.sluiceAgreementDone) s (fun t =>
      t.sluiceUp = true ∧ t.a.start.step = .join ∧ t.b.start.step = .join ∧ t.a.link.hello = some (s.helloOf .a) ∧ t.b.link.hello = some (s.helloOf .b) ∧ t.a.link.sendKey = t.b.link.recvKey ∧ t.a.link.recvKey = t.b.link.sendKey ∧ t.a.journal.lowWater = 0
      ∧ t.a.journal.checkA.map (·.fromJseq) = some t.a.journal.nextJseq ∧ t.b.journal.checkA.map (·.fromJseq) = some t.b.journal.nextJseq))
  ∧
  (∀ (s : State),
    s.a.start.step = .sluice →
    s.b.start.step = .sluice →
    (s.a.sluice && s.b.sluice) = false →
    s.port.serving .a = false →
    s.port.serving .b = false →
    s.mayAgree = false →
    Completes (.sluiceAgreementDone) s (fun t =>
      t.sluiceUp = false ∧ t.a.start.step = .join ∧ t.b.start.step = .failed ∧ t.a.link.hello = some (s.helloOf .a) ∧ t.b.link.hello = some (s.helloOf .b)))
  ∧
  (∀ (l m : Link) (ch : Chan) (content : Bytes),
    l.sendKey.length = 32 →
    m.recvKey = l.sendKey →
    m.opens (l.seal ch content) = some content)
  ∧
  (∀ (s : State) (x : Chan),
    s.sluiceUp = true →
    (s.chan x).sluiceRetry = false →
    Completes (.sluiceTagFail x) s (fun t =>
      (t.chan x).sluiceRetry = true ∧ t.sluiceUp = true))
  ∧
  (∀ (s : State) (x : Chan),
    s.sluiceUp = true →
    (s.chan x).sluiceRetry = true →
    Completes (.sluiceTagFail x) s (fun t =>
      t.a.sluice = false ∧ t.b.sluice = false))
  ∧
  (∀ (s : State) (x : Chan),
    s.refilling = some x →
    s.sluiceUp = true →
    (s.chan x).refill.step = .repairList →
    Completes (.repairListReceived) s (fun t =>
      (t.chan x).link.sent = (s.chan x).link.sent + 1 ∧ (t.chan x).link.wire = some ((s.chan x).sealed .repairList) ∧ (t.chan x.peer).link.received = (s.chan x.peer).link.opens ((s.chan x).sealed .repairList)
      ∧ (t.chan x.peer).link.sent = (s.chan x.peer).link.sent + 1 ∧ (t.chan x).sluiceRetry = false ∧ (t.chan x.peer).sluiceRetry = false))
  ∧
  (∀ (s : State) (x : Chan) (d : Delta) (l : List Delta),
    s.joining = none →
    s.refilling = some x →
    s.sluiceUp = true →
    ((s.chan x).refill.step = .replay ∨ (s.chan x).refill.step = .catchUp) →
    s.overwritten x = false →
    s.toSend x = d :: l →
    Completes (.journalDeltaReceived) s (fun t =>
      (t.chan x.peer).link.sent = (s.chan x.peer).link.sent + 1 ∧ (t.chan x.peer).sluiceRetry = false ∧ (t.chan x.peer).link.wire = some (((s.chan x.peer)).sealed (.delta d))
      ∧ (t.chan x).link = { (s.chan x).link with received := (s.chan x).link.opens (((s.chan x.peer)).sealed (.delta d)) }))
  ∧
  (∀ (s : State) (x : Chan),
    s.refilling = some x →
    s.sluiceUp = true →
    (s.chan x).refill.step = .regions →
    Completes (.regionImageReceived) s (fun t =>
      (t.chan x.peer).link.sent = (s.chan x.peer).link.sent + 1 ∧ (t.chan x.peer).sluiceRetry = false ∧ (t.chan x.peer).link.wire = some (((s.chan x.peer)).sealed .regionImage)
      ∧ (t.chan x).link = { (s.chan x).link with received := (s.chan x).link.opens (((s.chan x.peer)).sealed .regionImage) }))
  ∧
  (∀ (s : State) (x : Chan),
    s.refilling = some x →
    s.sluiceUp = true →
    ((s.chan x).refill.step = .snapshots ∨ (s.chan x).refill.step = .replay ∧ s.toSend x = []) →
    Completes (.stateSnapshotReceived) s (fun t =>
      (t.chan x.peer).link.sent = (s.chan x.peer).link.sent + 1 ∧ (t.chan x.peer).sluiceRetry = false ∧ (t.chan x.peer).link.wire = some (((s.chan x.peer)).sealed .snapshot)
      ∧ (t.chan x).link = { (s.chan x).link with received := (s.chan x).link.opens (((s.chan x.peer)).sealed .snapshot) }))
  ∧
  (∀ (s : State) (x : Chan) (h : Handover),
    s.joining = some x →
    s.sluiceUp = true →
    (s.chan x).refill.awaitHandover = true →
    ((s.chan x.peer).formHandover).refill.sent = some h →
    Completes (.joinHandoverReceived) s (fun t =>
      (t.chan x.peer).link.sent = (s.chan x.peer).link.sent + 1 ∧ (t.chan x.peer).sluiceRetry = false ∧ (t.chan x.peer).link.wire = some (((s.chan x.peer).formHandover).sealed .handover)
      ∧ (t.chan x).link = { (s.chan x).link with received := (s.chan x).link.opens (((s.chan x.peer).formHandover).sealed .handover) }))

/-- The messages of a refill bring the survivor's state into the refilling channel and change nothing in the survivor
but its count of messages. While a session stands, for the refilling channel X and its survivor S: the repair list
sets X to replay; the next delta to send is applied, journaled and counted (a delta that reaches X after its join
moves the refill on past it), or, where the ring no longer reaches it, the refill switches to a full copy; the
regions of a full copy bring S's slots, DUKPT records, sessions and management records; the snapshots bring S's
epochs, VR, every VC_f, the use ledger and the twin streams; and S itself is as it was, but for the count of the
messages it sent. (R326, R327, R328) -/
def Obligations.RefillTakesTheSurvivorsState : Prop :=
  (∀ (s : State) (x : Chan),
    s.refilling = some x →
    s.sluiceUp = true →
    (s.chan x).refill.step = .repairList →
    Completes (.repairListReceived) s (fun t =>
      (t.chan x).refill.step = .replay ∧ (t.chan x.peer) = ((s.chan x.peer).sluiceTaken ((s.chan x).sealed .repairList)).sluiceSent .repairImage))
  ∧
  (∀ (s : State) (x : Chan) (d : Delta) (l : List Delta),
    s.joining = none →
    s.refilling = some x →
    s.sluiceUp = true →
    ((s.chan x).refill.step = .replay ∨ (s.chan x).refill.step = .catchUp) →
    s.overwritten x = false →
    s.toSend x = d :: l →
    Completes (.journalDeltaReceived) s (fun t =>
      (t.chan x).refill.nextSend = d.jseq + 1 ∧ (t.chan x) = ((s.chan x).sluiceTaken ((s.chan x.peer).sealed (.delta d))).takeDelta d
      ∧ ((s.chan x.peer).journal.ring.Pairwise (fun y z => y.jseq < z.jseq) → t.toSend x = l) ∧ (t.chan x.peer) = (s.chan x.peer).sluiceSent (.delta d)))
  ∧
  (∀ (s : State) (x : Chan) (d : Delta) (l : List Delta),
    s.joining = some x →
    s.sluiceUp = true →
    (s.chan x).refill.awaitHandover = true →
    s.lateDeltas x = d :: l →
    Completes (.journalDeltaReceived) s (fun t =>
      (t.chan x).refill.nextSend = d.jseq + 1 ∧ (t.chan x).refill.awaitHandover = true))
  ∧
  (∀ (s : State) (x : Chan),
    s.joining = none →
    s.refilling = some x →
    s.sluiceUp = true →
    ((s.chan x).refill.step = .replay ∨ (s.chan x).refill.step = .catchUp) →
    s.overwritten x = true →
    Completes (.journalDeltaReceived) s (fun t =>
      (t.chan x).refill.step = .regions ∧ t.port.assay.refillFull = true ∧ (t.chan x.peer) = (s.chan x.peer)))
  ∧
  (∀ (s : State) (x : Chan),
    s.refilling = some x →
    s.sluiceUp = true →
    (s.chan x).refill.step = .regions →
    Completes (.regionImageReceived) s (fun t =>
      (t.chan x).refill.step = .snapshots ∧ (t.chan x).keys.slots = SMap.ofList (zeros 128) (s.chan x.peer).keys.slots ∧ (t.chan x).keys.dukpt = SMap.ofList DukptRec.unbound (s.chan x.peer).keys.dukpt
      ∧ (t.chan x).keys.sessions = (s.chan x.peer).keys.sessions ∧ (t.chan x).records = (s.chan x.peer).records ∧ (t.chan x).journal.ring = [] ∧ (t.chan x.peer) = (s.chan x.peer).sluiceSent .regionImage))
  ∧
  (∀ (s : State) (x : Chan),
    s.refilling = some x →
    s.sluiceUp = true →
    ((s.chan x).refill.step = .snapshots ∨ (s.chan x).refill.step = .replay ∧ s.toSend x = []) →
    Completes (.stateSnapshotReceived) s (fun t =>
      (t.chan x).refill.step = .catchUp ∧ (t.chan x).keys.vr = (s.chan x.peer).keys.vr ∧ (t.chan x).keys.vc = (s.chan x.peer).keys.vc ∧ (t.chan x).keys.ledger = (s.chan x.peer).keys.ledger
      ∧ (t.chan x).rng.epochs = (s.chan x.peer).rng.epochs ∧ (t.chan x).rng.current = (s.chan x.peer).rng.current ∧ (t.chan x).rakes.streams = twinStreams (s.chan x.peer).rakes.streams ∧ (t.chan x.peer) = (s.chan x.peer).sluiceSent .snapshot))

/-- A refilled channel announces ready, joins at J and takes the handover; a planned retirement drains and ends;
checkpoints are written. A channel whose lag reads 0 becomes ready, and J is two tides on; in tide J − 1 the
survivor caps its twin bookings; from J the channel is joined, its refill over, its handover awaited; the handover,
once formed, ends the wait and gives the sequence numbers delivered; at P the named channel drains; when its work is
done it is retired and starts from its other image; a channel in service writes its 4,096-tide checkpoint. (R109,
R325, R329, R330) -/
def Obligations.JoinsAndPlannedRetirement : Prop :=
  (∀ (s : State) (x : Chan),
    s.refilling = some x →
    s.sluiceUp = true →
    (s.chan x).refill.step = .catchUp →
    s.toSend x = [] →
    s.port.assay.st x = .refilling →
    s.port.offset = 0 →
    Completes (.joinReady) s (fun t =>
      t.port.assay.st x = .ready ∧ t.port.assay.joinAt = some (s.port.tide + 2)))
  ∧
  (∀ (s : State) (x : Chan) (j : Nat),
    s.refilling = some x →
    s.port.assay.joinAt = some j →
    j = s.port.tide + 1 →
    Completes (.joinCapTide) s (fun t =>
      (t.chan x.peer).skim.joinCap = true ∧ (t.chan x) = (s.chan x)))
  ∧
  (∀ (s : State) (x : Chan) (j : Nat),
    s.refilling = some x →
    s.port.assay.joinAt = some j →
    j ≤ s.port.tide →
    s.port.joined x.peer = true →
    s.sluiceUp = true →
    (s.chan x).rng.state = .ready →
    Completes (.joinTide) s (fun t =>
      t.port.joined x = true ∧ t.port.assay.refillActive = false ∧ t.port.assay.joinTide = BitVec.ofNat 32 j ∧ t.port.assay.joinAt = none
      ∧ (t.chan x).refill.awaitHandover = true ∧ (t.chan x).start.step = .service ∧ (t.chan x.peer).skim.joinCap = false))
  ∧
  (∀ (s : State) (x : Chan) (h : Handover),
    s.joining = some x →
    s.sluiceUp = true →
    (s.chan x).refill.awaitHandover = true →
    ((s.chan x.peer).formHandover).refill.sent = some h →
    Completes (.joinHandoverReceived) s (fun t =>
      (t.chan x).refill.awaitHandover = false ∧ (t.chan x).sched.delivered = h.delivered))
  ∧
  (∀ (s : State) (x : Chan) (p : Nat),
    s.port.assay.planned = some (x, p) →
    p ≤ s.port.tide →
    s.port.joined .a = true →
    s.port.joined .b = true →
    Completes (.plannedRetirementStart) s (fun t =>
      t.port.assay.st x = .draining ∧ (t.chan x).draining = true ∧ (t.chan x.peer).draining = (s.chan x.peer).draining))
  ∧
  (∀ (s : State) (x : Chan) (p : Nat),
    s.port.assay.planned = some (x, p) →
    s.port.assay.st x = .draining →
    s.port.joined x.peer = true →
    ((s.chan x).empty = true ∨ p + 500000 ≤ s.port.tide) →
    Completes (.plannedDrainEnd) s (fun t =>
      t.port.assay.st x = .retired ∧ (t.chan x).resetOrder = true ∧ (t.chan x).flash.active = 1 - (s.chan x).flash.active))
  ∧
  (∀ (s : State) (x : Chan),
    (s.chan x).start.step = .service →
    max (((s.chan x).journal.checkA.map (·.tide)).getD 0) (((s.chan x).journal.checkB.map (·.tide)).getD 0) + 4096 ≤ (s.chan x).tide →
    Completes (.checkpointTimer x) s (fun t =>
      ∃ k, (t.chan x).newerCheck = some k ∧ k.lowWater = (s.chan x).journal.lowWater ∧ k.tide = (s.chan x).tide ∧ k.nextJseq = (s.chan x).journal.nextJseq))

/-- A channel reset keeps flash, island, fuse root and HBM content; the steps of a join and of a planned retirement keep
the stores. For a channel in service whose reset is ordered: the channel is at fuse load, shown as retired if it was
retired and as starting if it was not and its peer does not serve, its scheduler and key cache empty, and its slots,
DUKPT records, vault, component sessions, journal ring, brine key and fuse root are as they were. A channel for
which no reset is ordered is left as it was. Where their conditions hold, the announcement of ready, the cap of tide
J − 1, the start and the end of a planned retirement and the checkpoint timer leave both channels their slots, DUKPT
records, vault entries, brine key and fuse root; and the join itself leaves the survivor its key store, both
channels their islands, and gives the joining channel the exhaustion tides of the survivor. (R322, R325, R329, R330,
R429, R436) -/
def Obligations.ChannelResetKeepsWhatEndures : Prop :=
  (∀ (s : State) (x : Chan),
    s.port.mgmt.activation = none →
    (s.chan x).resetOrder = true →
    (s.chan x).start.step = .service →
    Completes (.channelReset x) s (fun t =>
      (s.port.assay.st x = .retired → t.port.assay.st x = .retired)
      ∧ (s.port.assay.st x ≠ .retired → s.port.serving x.peer = false → t.port.assay.st x = .starting) ∧ (t.chan x).start.step = .fuseLoad ∧ (t.chan x).resetOrder = false ∧ (t.chan x).sched.items = [] ∧ (t.chan x).keys.cache = []
      ∧ (t.chan x).keys.slots = (s.chan x).keys.slots ∧ (t.chan x).keys.dukpt = (s.chan x).keys.dukpt ∧ (t.chan x).keys.entries = (s.chan x).keys.entries
      ∧ (t.chan x).keys.sessions = (s.chan x).keys.sessions ∧ (t.chan x).journal.ring = (s.chan x).journal.ring ∧ (t.chan x).island.brine = (s.chan x).island.brine
      ∧ (t.chan x).keys.fuseRoot = (s.chan x).keys.fuseRoot ∧ (t.chan x).flash.images = (s.chan x).flash.images ∧ (t.chan x).journal.nextJseq = (s.chan x).journal.nextJseq))
  ∧
  (∀ (s : State) (x : Chan),
    (s.chan x).resetOrder = false →
    Completes (.channelReset x) s (fun t =>
      (t.chan x).start = (s.chan x).start ∧ (t.chan x).keys = (s.chan x).keys ∧ t.port.assay = s.port.assay))
  ∧
  (∀ (s : State) (x : Chan),
    s.refilling = some x →
    s.sluiceUp = true →
    (s.chan x).refill.step = .catchUp →
    s.toSend x = [] →
    s.port.assay.st x = .refilling →
    s.port.offset = 0 →
    Completes (.joinReady) s (fun t =>
      (∀ ch, (t.chan ch).keys.slots = (s.chan ch).keys.slots ∧ (t.chan ch).keys.dukpt = (s.chan ch).keys.dukpt ∧ (t.chan ch).keys.entries = (s.chan ch).keys.entries ∧ (t.chan ch).island.brine = (s.chan ch).island.brine ∧ (t.chan ch).keys.fuseRoot = (s.chan ch).keys.fuseRoot)))
  ∧
  (∀ (s : State) (x : Chan) (j : Nat),
    s.refilling = some x →
    s.port.assay.joinAt = some j →
    j = s.port.tide + 1 →
    Completes (.joinCapTide) s (fun t =>
      (∀ ch, (t.chan ch).keys.slots = (s.chan ch).keys.slots ∧ (t.chan ch).keys.dukpt = (s.chan ch).keys.dukpt ∧ (t.chan ch).keys.entries = (s.chan ch).keys.entries ∧ (t.chan ch).island.brine = (s.chan ch).island.brine ∧ (t.chan ch).keys.fuseRoot = (s.chan ch).keys.fuseRoot)))
  ∧
  (∀ (s : State) (x : Chan) (j : Nat),
    s.refilling = some x →
    s.port.assay.joinAt = some j →
    j ≤ s.port.tide →
    s.port.joined x.peer = true →
    s.sluiceUp = true →
    (s.chan x).rng.state = .ready →
    Completes (.joinTide) s (fun t =>
      (t.chan x.peer).keys = (s.chan x.peer).keys ∧ (t.chan x.peer).island = (s.chan x.peer).island ∧ (t.chan x).island = (s.chan x).island ∧ (t.chan x).keys.fuseRoot = (s.chan x).keys.fuseRoot ∧ (t.chan x).keys.exhaustAt = (s.chan x.peer).keys.exhaustAt))
  ∧
  (∀ (s : State) (x : Chan) (p : Nat),
    s.port.assay.planned = some (x, p) →
    p ≤ s.port.tide →
    s.port.joined .a = true →
    s.port.joined .b = true →
    Completes (.plannedRetirementStart) s (fun t =>
      (∀ ch, (t.chan ch).keys.slots = (s.chan ch).keys.slots ∧ (t.chan ch).keys.dukpt = (s.chan ch).keys.dukpt ∧ (t.chan ch).keys.entries = (s.chan ch).keys.entries ∧ (t.chan ch).island.brine = (s.chan ch).island.brine ∧ (t.chan ch).keys.fuseRoot = (s.chan ch).keys.fuseRoot)))
  ∧
  (∀ (s : State) (x : Chan) (p : Nat),
    s.port.assay.planned = some (x, p) →
    s.port.assay.st x = .draining →
    s.port.joined x.peer = true →
    ((s.chan x).empty = true ∨ p + 500000 ≤ s.port.tide) →
    Completes (.plannedDrainEnd) s (fun t =>
      (∀ ch, (t.chan ch).keys.slots = (s.chan ch).keys.slots ∧ (t.chan ch).keys.dukpt = (s.chan ch).keys.dukpt ∧ (t.chan ch).keys.entries = (s.chan ch).keys.entries ∧ (t.chan ch).island.brine = (s.chan ch).island.brine ∧ (t.chan ch).keys.fuseRoot = (s.chan ch).keys.fuseRoot)))
  ∧
  (∀ (s : State) (x : Chan),
    (s.chan x).start.step = .service →
    max (((s.chan x).journal.checkA.map (·.tide)).getD 0) (((s.chan x).journal.checkB.map (·.tide)).getD 0) + 4096 ≤ (s.chan x).tide →
    Completes (.checkpointTimer x) s (fun t =>
      (∀ ch, (t.chan ch).keys.slots = (s.chan ch).keys.slots ∧ (t.chan ch).keys.dukpt = (s.chan ch).keys.dukpt ∧ (t.chan ch).keys.entries = (s.chan ch).keys.entries ∧ (t.chan ch).island.brine = (s.chan ch).island.brine ∧ (t.chan ch).keys.fuseRoot = (s.chan ch).keys.fuseRoot) ∧ (t.chan x).journal.ring = (s.chan x).journal.ring))

/-- A function reset is requested, reaches boundary R, gathers its lists, and ends at boundary V; a link reset resets
every function. A Function Level Reset of a VF with the link up fixes R two tides on for its commands up to the last
intake number, and its outstanding commands will never be written; clearing VF Enable puts every VF under reset; at
R a serving channel raises VC_f and drops the function's streams and component sessions and sends its list; a list
that arrives is held; a channel whose list has not come by the end of R + 15 is retired, and V is fixed; at V the
reset is over and INTAKE_ERR of its functions is clear; and a link reset takes the link down with every function
under reset. (R70, R346, R347, R348, R356) -/
def Obligations.FunctionResets : Prop :=
  (∀ (s : State) (f : BitVec 8),
    s.port.start.linkUp = true →
    f ≠ 0#8 →
    s.port.underReset f.toNat = false →
    Completes (.functionLevelReset f) s (fun t =>
      (∃ r ∈ t.port.resets, r.fns = [f.toNat] ∧ r.r = s.port.tide + 2 ∧ r.n = s.port.nextIntake - 1 ∧ r.v = none)
      ∧ ∀ o ∈ t.port.outst, o.function = f → o.written = true))
  ∧
  (∀ (s : State),
    s.port.start.linkUp = true →
    s.port.sriov.vfEnable = true →
    Completes (.vfEnableClear) s (fun t =>
      t.port.sriov.vfEnable = false ∧ ∀ f, 1 ≤ f → f < 256 → t.port.underReset f = true))
  ∧
  (∀ (s : State) (ch : Chan) (r : FnReset) (f : Nat),
    s.port.resets = [r] →
    r.fns = [f] →
    s.port.serving ch = true →
    r.r ≤ (s.chan ch).tide →
    r.v = none →
    (s.chan ch).resetting.contains (r.fns, r.n) = false →
    Completes (.functionResetBoundaryR) s (fun t =>
      (t.chan ch).resetting = (s.chan ch).resetting ++ [(r.fns, r.n)] ∧ (t.chan ch).resetList.isSome = true
      ∧ (t.chan ch).keys.vc = SMap.set 0 (s.chan ch).keys.vc f ((SMap.get 0 (s.chan ch).keys.vc f + 1) % 2 ^ 32)
      ∧ (∀ y ∈ (t.chan ch).keys.sessions, y.function ≠ f) ∧ ∀ y ∈ (t.chan ch).rakes.streams, y.1 / 64 ≠ f))
  ∧
  (∀ (s : State) (ch : Chan) (r : FnReset) (l : List Nat),
    (s.chan ch).resetList = some l →
    r ∈ s.port.resets →
    r.list ch = none →
    (s.chan ch).resetting.contains (r.fns, r.n) = true →
    Completes (.resetListReceived ch) s (fun t =>
      (t.chan ch).resetList = none ∧ ∃ y ∈ t.port.resets, y.fns = r.fns ∧ y.n = r.n ∧ y.list ch = some l))
  ∧
  (∀ (s : State) (r : FnReset),
    s.port.resets = [r] →
    r.v = none →
    r.r + 15 < s.port.tide →
    s.port.joined .a = true →
    s.port.joined .b = true →
    r.listA.isSome = true →
    r.listB = none →
    Completes (.resetListTimeout) s (fun t =>
      t.port.assay.stateB = .retired ∧ ∃ y ∈ t.port.resets, y.fns = r.fns ∧ y.v = some (s.port.tide + 2)))
  ∧
  (∀ (s : State) (r : FnReset) (v : Nat),
    s.port.resets = [r] →
    r.v = some v →
    v ≤ s.port.tide →
    Completes (.functionResetBoundaryV) s (fun t =>
      t.port.resets = [] ∧ ∀ f ∈ r.fns, (t.port.fn f).intakeCause = 0#4))
  ∧
  (∀ (s : State),
    s.port.start.linkUp = true →
    Completes (.linkReset) s (fun t =>
      t.port.start.linkUp = false ∧ t.port.sriov.vfEnable = false ∧ ∀ f < 256, t.port.underReset f = true))

/-- A tamper detection latches its sources and, armed, performs the response of the highest of their levels, whatever
the state. In Run, for a channel that has started and no source of which is under test: sources that detect and did
not before are latched in the alarm register. If the responder is armed and no response runs, with L the highest of
their levels: at L2 and above the key cache is purged, at L3 and above VR is erased and a tamper fault report is
sent, at L4 and above a reset is ordered or the channel halts, and at L5 the brine key is overwritten with zeros,
ERASED is set and the peer is ordered. While a response of the same or a higher level runs, they are latched and
nothing is repeated. If it is not armed nothing else follows. A peer's L5 order erases the brine key of the channel
it reaches. (R357, R364, R366, R368, R369, R378, R381) -/
def Obligations.TamperResponses : Prop :=
  (∀ (s : State) (ch : Chan) (v n : BitVec 23) (l : Nat),
    s.port.start.power = .run →
    (s.chan ch).start.step ≠ .off →
    (s.chan ch).start.step ≠ .halted →
    (s.chan ch).tamper.armed = true →
    (s.chan ch).responding = 0 →
    (s.chan ch).underTest = 0#23 →
    n = v &&& ~~~ (s.chan ch).tamper.detecting →
    l = (s.chan ch).tamper.union n →
    Completes (.tamperSourceDetected ch v) s (fun t =>
      (t.chan ch).tamper.detecting = v ∧ (t.chan ch).island.alarm = (s.chan ch).island.alarm ||| n
      ∧ (2 ≤ l → (t.chan ch).keys.cache = []) ∧ (3 ≤ l → (t.chan ch).keys.vr = none ∧ .tamper ∈ (t.chan ch).faults)
      ∧ (4 ≤ l → (t.chan ch).resetOrder = true ∨ (t.chan ch).start.step = .halted)
      ∧ (l = 5 → (t.chan ch).island.brine = zeros 32 ∧ (t.chan ch).island.erased = true ∧ ch ∈ t.port.l5From)))
  ∧
  (∀ (s : State) (ch : Chan) (v n : BitVec 23),
    s.port.start.power = .run →
    (s.chan ch).start.step ≠ .off →
    (s.chan ch).start.step ≠ .halted →
    (s.chan ch).tamper.armed = false →
    (s.chan ch).underTest = 0#23 →
    n = v &&& ~~~ (s.chan ch).tamper.detecting →
    Completes (.tamperSourceDetected ch v) s (fun t =>
      (t.chan ch).tamper.detecting = v ∧ (t.chan ch).island.alarm = (s.chan ch).island.alarm ||| n ∧ (t.chan ch).keys = (s.chan ch).keys ∧ (t.chan ch).rng = (s.chan ch).rng))
  ∧
  (∀ (s : State) (ch : Chan) (v n : BitVec 23) (l : Nat),
    s.port.start.power = .run →
    (s.chan ch).start.step ≠ .off →
    (s.chan ch).start.step ≠ .halted →
    (s.chan ch).tamper.armed = true →
    (s.chan ch).underTest = 0#23 →
    n = v &&& ~~~ (s.chan ch).tamper.detecting →
    l = (s.chan ch).tamper.union n →
    l ≤ (s.chan ch).responding →
    Completes (.tamperSourceDetected ch v) s (fun t =>
      (t.chan ch).tamper.detecting = v ∧ (t.chan ch).island.alarm = (s.chan ch).island.alarm ||| n ∧ (t.chan ch).keys = (s.chan ch).keys ∧ (t.chan ch).rng = (s.chan ch).rng
      ∧ (t.chan ch).resetOrder = (s.chan ch).resetOrder ∧ (t.chan ch).faults = (s.chan ch).faults ∧ (t.chan ch).tamper.active = (s.chan ch).tamper.active ∧ t.port.l5From = s.port.l5From))
  ∧
  (∀ (s : State) (x : Chan),
    x ∈ s.port.l5From →
    Completes (.peerL5Order x) s (fun t =>
      (t.chan x.peer).island.brine = zeros 32 ∧ (t.chan x.peer).island.erased = true ∧ (t.chan x.peer).tamper.peerL5 = true ∧ t.port.l5From = s.port.l5From.erase x))

/-- Monitor tests, TMP_IN pins, the loss of REFCLK and the islands' own decisions take effect. A monitor test that
passes moves on to the next source and is counted, and a first failure is kept; a detection of the source under test
alone goes unanswered and is held back, and one held back when the test is over is latched in that cycle; outside a
test a TMP_IN pin sets its source detecting; a loss of REFCLK sets source 8 detecting in both channels; a tamper
decision on WAKE_N overwrites the brine key, sets ERASED and class 3; and a brown-out clears RETAIN. (R357, R360,
R362, R375, R377) -/
def Obligations.MonitorsAndIslands : Prop :=
  (∀ (s : State) (ch : Chan) (n : BitVec 5) (pass : Bool),
    s.port.start.power = .run →
    (s.chan ch).tamper.armed = true →
    n = (s.chan ch).tamper.bistNext →
    (s.chan ch).testDue = true →
    (pass = true ∨ (s.chan ch).tamper.failedOnce.getLsbD n.toNat = false) →
    Completes (.monitorTest ch n pass) s (fun t =>
      (t.chan ch).tamper.bistNext = BitVec.ofNat 5 ((n.toNat + 1) % 20) ∧ (t.chan ch).tamper.bistRuns = satBv (s.chan ch).tamper.bistRuns 1
      ∧ (pass = false → (t.chan ch).tamper.bistFail = (s.chan ch).tamper.bistFail ||| sourceBit n.toNat) ∧ (t.chan ch).island = (s.chan ch).island ∧ (t.chan ch).tamper.bistUntil = (s.chan ch).now + 80))
  ∧
  (∀ (s : State) (ch : Chan) (v : BitVec 23),
    s.port.start.power = .run →
    v = (s.chan ch).underTest →
    v &&& (s.chan ch).tamper.detecting = 0#23 →
    Completes (.tamperSourceDetected ch v) s (fun t =>
      (t.chan ch).island = (s.chan ch).island ∧ (t.chan ch).keys = (s.chan ch).keys ∧ (t.chan ch).tamper.detecting = 0#23 ∧ (t.chan ch).tamper.outlast = v ∧ (t.chan ch).resetOrder = (s.chan ch).resetOrder))
  ∧
  (∀ (s : State) (ch : Chan) (v : BitVec 23),
    s.pending = [] →
    s.port.start.refclk = true →
    (s.chan ch).aligned = true →
    (s.chan ch).offset < 4095 →
    v = (s.chan ch).tamper.outlast →
    v ≠ 0#23 →
    (s.chan ch).tamper.bistUntil ≤ (s.chan ch).now + 1 →
    (s.chan ch).start.step ≠ .off →
    (s.chan ch).start.step ≠ .halted →
    ∃ t, step s = .next t ∧ (t.chan ch).tamper.outlast = 0#23 ∧ (t.chan ch).tamper.detecting = (s.chan ch).tamper.detecting ||| v ∧ (t.chan ch).island.alarm &&& v = v)
  ∧
  (∀ (s : State) (ch : Chan) (pin : BitVec 2),
    s.port.start.power = .run →
    (s.chan ch).underTest = 0#23 →
    Completes (.tmpInAssert ch pin) s (fun t =>
      (t.chan ch).tamper.tmpIn = (s.chan ch).tamper.tmpIn ||| BitVec.ofNat 4 (2 ^ pin.toNat) ∧ (t.chan ch).tamper.detecting = (s.chan ch).tamper.present ||| sourceBit (14 + pin.toNat)))
  ∧
  (∀ (s : State),
    s.port.start.power = .run →
    (∀ ch, (s.chan ch).underTest = 0#23) →
    Completes (.refclkLoss) s (fun t =>
      t.port.start.refclk = false ∧ ∀ ch, (t.chan ch).tamper.detecting = (s.chan ch).tamper.present ||| sourceBit 8))
  ∧
  (∀ (s : State) (ch : Chan),
    Completes (.wakeTamperDecision ch) s (fun t =>
      (t.chan ch).island.brine = zeros 32 ∧ (t.chan ch).island.erased = true ∧ (t.chan ch).island.wakeClass = 3#2))
  ∧
  (∀ (s : State) (ch : Chan),
    Completes (.islandBrownOut ch) s (fun t =>
      (t.chan ch).island.retain = false))

/-- Power, PORST_N and PERST_N reset the device and release its starts as the table of resets states. Power applied
brings the device to Run with PORST_N low and a cold start to come; main power lost clears both channels' slots and
leaves the islands on VBAT; PORST_N asserted in Run, or PERST_N asserted in Run with PORST_N high, holds both
channels and clears the outstanding commands, keeping slots and, where no L5 order of the peer is on its way, brine
keys; PERST_N asserted in Sleep or Backup-only, or while PORST_N is low, changes no channel; and the releases start
the channels at fuse load with their generators in START_TEST. (R281, R429, R430, R440, R449) -/
def Obligations.DeviceResets : Prop :=
  (∀ (s : State),
    s.port.start.power = .backup →
    Completes (.powerOn) s (fun t =>
      t.port.start.power = .run ∧ t.port.start.porst = true ∧ t.port.start.coldStart = true ∧ ∀ ch, (t.chan ch).island.onVbat = false))
  ∧
  (∀ (s : State),
    s.port.start.power ≠ .backup →
    Completes (.mainPowerLoss) s (fun t =>
      t.port.start.power = .backup ∧ t.port.outst = []
      ∧ ∀ ch, (t.chan ch).keys.slots = [] ∧ (t.chan ch).keys.vr = none ∧ (t.chan ch).start.step = .off ∧ (t.chan ch).island.onVbat = true ∧ (t.chan ch).island.brine = (if ch.peer ∈ s.port.l5From then zeros 32 else (s.chan ch).island.brine) ∧ (t.chan ch).keys.fuseRoot = (s.chan ch).keys.fuseRoot))
  ∧
  (∀ (s : State),
    s.port.start.power ≠ .backup →
    Completes (.porstNAssert) s (fun t =>
      t.port.start.porst = true ∧ t.port.start.power = .run ∧ t.port.outst = [] ∧ t.port.assay = Assay.reset
      ∧ ∀ ch, (t.chan ch).start.step = .off ∧ (t.chan ch).rng = Rng.reset ∧ (t.chan ch).keys.slots = (s.chan ch).keys.slots ∧ (t.chan ch).island.brine = (if ch.peer ∈ s.port.l5From then zeros 32 else (s.chan ch).island.brine)))
  ∧
  (∀ (s : State),
    s.port.start.porst = true →
    s.port.start.power = .run →
    Completes (.porstNRelease) s (fun t =>
      t.port.start.porst = false
      ∧ ∀ ch, (s.chan ch).start.step = .off → (t.chan ch).start.step = .fuseLoad ∧ (t.chan ch).rng.state = .startTest ∧ (s.port.assay.st ch = .off → t.port.assay.st ch = .starting)))
  ∧
  (∀ (s : State),
    s.port.start.power = .run →
    s.port.start.porst = false →
    s.port.start.perst = false →
    Completes (.perstNAssert) s (fun t =>
      t.port.start.perst = true ∧ t.port.outst = []
      ∧ (∀ ch, (s.chan ch).start.step ≠ .halted → (t.chan ch).start.step = .off ∧ (t.chan ch).sched.items = [] ∧ (t.chan ch).rng = Rng.reset)
      ∧ (∀ ch, (s.chan ch).start.step ≠ .halted → (t.chan ch).keys.slots = (s.chan ch).keys.slots ∧ (t.chan ch).island.brine = (if ch.peer ∈ s.port.l5From then zeros 32 else (s.chan ch).island.brine))))
  ∧
  (∀ (s : State),
    (s.port.start.power ≠ .run ∨ s.port.start.porst = true) →
    Completes (.perstNAssert) s (fun t =>
      t = s.mapStart (fun p => { p with perst := true })))
  ∧
  (∀ (s : State),
    s.port.start.power = .run →
    s.port.start.porst = false →
    Completes (.perstNRelease) s (fun t =>
      t.port.start.perst = false
      ∧ ∀ ch, (s.chan ch).start.step = .off → (t.chan ch).start.step = .fuseLoad ∧ (t.chan ch).rng.state = .startTest))

/-- The port die's start and link training end, PWR_FAIL_N flushes the recorder, and Sleep is entered and left. The end
of the port die's start brings it up and ends the cold start; the link comes up when the port die is up, PERST_N
high and REFCLK present; PWR_FAIL_N starts a flush; a device asked for Sleep that is quiet at its slack tide enters
Sleep with VR erased and both channels off; a low of WAKE_N of 2.5 to 19 microseconds is a wake: it ends Sleep, and
in Backup-only it is counted; one of at most 1.5 microseconds is noise and changes no power state. (R371, R372,
R373, R374, R410, R430) -/
def Obligations.PowerStatesAndTheLink : Prop :=
  (∀ (s : State),
    s.port.start.power = .run →
    s.port.start.porst = false →
    s.port.start.up = false →
    (s.a.start.step ≠ .off ∨ s.b.start.step ≠ .off) →
    Completes (.portDieStartDone) s (fun t =>
      t.port.start.up = true ∧ t.port.start.coldStart = false))
  ∧
  (∀ (s : State),
    s.port.start.power = .run →
    s.port.start.porst = false →
    s.port.start.perst = false →
    s.port.start.up = true →
    s.port.start.refclk = true →
    Completes (.linkTrainingDone) s (fun t =>
      t.port.start.linkUp = true))
  ∧
  (∀ (s : State),
    s.port.start.power = .run →
    s.port.start.porst = false →
    Completes (.pwrFailNAssert) s (fun t =>
      t.port.recorder.flushing.isSome = true ∧ t.port.start = s.port.start))
  ∧
  (∀ (s : State) (n : Nat),
    s.port.mgmt.slack = some n →
    n ≤ s.port.tide →
    s.port.quiet = true →
    Completes (.sleepDrainDone) s (fun t =>
      t.port.start.power = .sleep ∧ t.port.start.linkUp = false ∧ t.port.mgmt.slack = none
      ∧ ∀ ch, ((s.chan ch).start.step ≠ .halted → (t.chan ch).start.step = .off) ∧ (t.chan ch).keys.vr = none ∧ (t.chan ch).tamper.armed = false ∧ (t.chan ch).keys.slots = (s.chan ch).keys.slots))
  ∧
  (∀ (s : State) (ch : Chan) (n : Nat),
    s.port.start.power = .sleep →
    (s.chan ch).tamper.wakeHigh = true →
    5 ≤ n →
    n ≤ 38 →
    Completes (.wakeNRelease ch n) s (fun t =>
      t.port.start.power = .run ∧ (t.chan ch).island.wakeClass = 2#2 ∧ (t.chan ch).island.wakeDuration = BitVec.ofNat 16 n
      ∧ ∀ d, (s.chan d).start.step ≠ .halted → (t.chan d).start.step = .fuseLoad))
  ∧
  (∀ (s : State) (ch : Chan) (n : Nat),
    s.port.start.power = .backup →
    (s.chan ch).tamper.wakeHigh = true →
    5 ≤ n →
    n ≤ 38 →
    Completes (.wakeNRelease ch n) s (fun t =>
      (t.chan ch).island.backupWakes = satBv (s.chan ch).island.backupWakes 1 ∧ t.port.start.power = .backup))
  ∧
  (∀ (s : State) (ch : Chan) (n : Nat),
    (s.chan ch).tamper.wakeHigh = true →
    n ≤ 3 →
    Completes (.wakeNRelease ch n) s (fun t =>
      (t.chan ch).island.wakeClass = 1#2 ∧ t.port.start.power = s.port.start.power ∧ (t.chan ch).island.brine = (s.chan ch).island.brine))

/-- The steps of a channel's start follow one another, and a background test that fails takes its effect. Fuse load with
agreeing rows and an island whose key is valid and retained arms the responder, leaves no pending evidence and goes
on to the image; the boot ROM's checks hand over to firmware when image and digest pattern hold, try the other image
once and else enter recovery; HBM training, memory test and self-test lead to the next step, a first training
failure is tried again and a second fails the channel; and in service a core that fails its test leaves service, and
an uncorrectable error of channel store clears health bit 8. (R314, R377, R378, R381, R432, R433, R434) -/
def Obligations.ChannelStartSteps : Prop :=
  (∀ (s : State) (ch : Chan),
    (s.chan ch).start.step = .fuseLoad →
    (s.chan ch).resetOrder = false →
    (s.chan ch).start.held = false →
    (s.chan ch).tamper.seen = 0#23 →
    (s.chan ch).island.passes = true →
    (s.chan ch).island.retain = true →
    (s.chan ch).island.erased = false →
    Completes (.fuseLoadDone ch true) s (fun t =>
      (t.chan ch).start.step = .image ∧ (t.chan ch).tamper.armed = true ∧ (t.chan ch).fuses.loaded = true ∧ (t.chan ch).fuses.rowsAgree = true ∧ (t.chan ch).island.pending = 0#16 ∧ (t.chan ch).island.alarm = (s.chan ch).island.alarm))
  ∧
  (∀ (s : State) (ch : Chan),
    (s.chan ch).start.step = .fuseLoad →
    (s.chan ch).resetOrder = false →
    (s.chan ch).underTest.getLsbD 20 = false →
    Completes (.fuseLoadDone ch false) s (fun t =>
      (t.chan ch).island.alarm.getLsbD 20 = true ∧ (t.chan ch).health.cleared.getLsbD 14 = true ∧ (t.chan ch).tamper.armed = true))
  ∧
  (∀ (s : State) (ch : Chan),
    (s.chan ch).start.step = .image →
    (s.chan ch).resetOrder = false →
    s.port.mgmt.activation = none →
    Completes (.imageHashDone ch true false) s (fun t =>
      if (s.chan ch).imageOk ((s.chan ch).flash.image (s.chan ch).flash.active) = true then (t.chan ch).start.step = .training ∧ (t.chan ch).digests.locked = true ∧ (t.chan ch).keys.svnRun = (Config.imageSvn ((s.chan ch).flash.image (s.chan ch).flash.active)).toNat
      else if (s.chan ch).start.triedOther = true then (t.chan ch).start.step = .recovery
      else (t.chan ch).start.step = .image ∧ (t.chan ch).start.triedOther = true ∧ (t.chan ch).flash.active = 1 - (s.chan ch).flash.active))
  ∧
  (∀ (s : State) (ch : Chan) (ok : Bool),
    (s.chan ch).start.step = .training →
    (s.chan ch).resetOrder = false →
    Completes (.hbmTrainingDone ch ok) s (fun t =>
      if ok = true then (t.chan ch).start.step = .memoryTest else if (s.chan ch).start.trainingFailures = 0 then (t.chan ch).start.step = .training ∧ (t.chan ch).start.trainingFailures = 1 else (t.chan ch).start.step = .failed))
  ∧
  (∀ (s : State) (ch : Chan),
    (s.chan ch).start.step = .memoryTest →
    (s.chan ch).resetOrder = false →
    Completes (.memoryTestDone ch true) s (fun t =>
      (t.chan ch).start.step = .selfTest))
  ∧
  (∀ (s : State) (ch : Chan),
    (s.chan ch).start.step = .selfTest →
    (s.chan ch).resetOrder = false →
    (s.chan ch).rng.state = .ready →
    Completes (.selfTestDone ch true) s (fun t =>
      (t.chan ch).start.step = .sluice ∧ (t.chan ch).start.step8At = some (s.chan ch).tide))
  ∧
  (∀ (s : State) (ch : Chan) (n : BitVec 6) (z : Core),
    (s.chan ch).start.step = .service →
    (s.chan ch).sched.cores[n.toNat]? = some z →
    z.item = none →
    z.out = false →
    z.since ≤ (s.chan ch).now →
    restDue z.testedTide (s.chan ch).tide = true →
    Completes (.backgroundSelfTest ch (.core n) .fail) s (fun t =>
      ((t.chan ch).sched.cores[n.toNat]?).map (·.out) = some true ∧ (t.chan ch).health.cleared.getLsbD 6 = true))
  ∧
  (∀ (s : State) (ch : Chan),
    (s.chan ch).start.step = .service →
    Completes (.backgroundSelfTest ch .channelStore .fail) s (fun t =>
      (t.chan ch).health.cleared.getLsbD 8 = true))

/-- The first join takes both channels into service, alone after the wait of 25,000 tides; an SVN commit writes,
compares and settles. A channel whose wait of 25,000 tides has ended with its peer not ready goes on to join alone
and begins its epoch; at J0 the channels that formed epoch 0 are joined and in service; at its target a joined
channel begins an SVN commit; the new root copy, of the next sequence number, takes the place of the older one, and
a provisioned channel writes two; and a channel that holds its own new copy and its peer's matching check keeps only
that copy, at the new rung. (R280, R296, R437) -/
def Obligations.FirstJoinAndSvnCommit : Prop :=
  (∀ (s : State) (ch : Chan) (n : Nat),
    (s.chan ch).start.step = .sluice →
    (s.chan ch).start.step8At = some n →
    n + 25000 ≤ (s.chan ch).tide →
    s.port.joinedChans = [] →
    s.port.j0 = none →
    (s.chan ch.peer).start.step ≠ .join →
    (s.chan ch).refill.partialCopy = false →
    Completes (.firstJoinWaitExpiry ch) s (fun t =>
      (t.chan ch).start.step = .join ∧ (t.chan ch).rng.renewal.isSome = true))
  ∧
  (∀ (s : State) (j : Nat),
    s.port.j0 = some j →
    j ≤ s.port.tide →
    s.port.joinedChans = [] →
    s.a.start.step = .join →
    s.b.start.step = .join →
    s.a.rng.renewal.any (fun r => r.target.isSome) = true →
    s.b.rng.renewal.any (fun r => r.target.isSome) = true →
    Completes (.firstJoin) s (fun t =>
      t.port.joined .a = true ∧ t.port.joined .b = true ∧ t.a.start.step = .service ∧ t.b.start.step = .service ∧ t.port.j0 = none))
  ∧
  (∀ (s : State) (ch : Chan) (n x : Nat),
    s.port.svnTarget = some (n, x) →
    x ≤ (s.chan ch).tide →
    s.port.joined ch = true →
    (s.chan ch).keys.commit = none →
    (s.chan ch).keys.rung ≠ n →
    Completes (.svnCommitTarget ch) s (fun t =>
      (t.chan ch).keys.commit = some { target := n, since := x, written := false }))
  ∧
  (∀ (s : State) (ch : Chan) (m : SvnCommit) (k : Bytes),
    (s.chan ch).keys.firstRoot = false →
    (s.chan ch).keys.commit = some m →
    m.written = false →
    (s.chan ch).keys.sdk = some k →
    Completes (.rootRecordWriteDone ch) s (fun t =>
      (∀ r, (s.chan ch).topCopy = some r → (t.chan ch).keys.rootCopies = [r, (s.chan ch).rootCopy k m.target (r.seq + 1)] ∧ (t.chan ch).keys.commit = some { m with written := true })
      ∧ ((s.chan ch).topCopy = none → (t.chan ch).keys = (s.chan ch).keys)))
  ∧
  (∀ (s : State) (ch : Chan) (k : Bytes),
    (s.chan ch).keys.firstRoot = true →
    (s.chan ch).keys.sdk = some k →
    s.port.joined ch.peer = true →
    (s.chan ch.peer).keys.firstRoot = true →
    Completes (.rootRecordWriteDone ch) s (fun t =>
      (t.chan ch).keys.rootCopies = [(s.chan ch).rootCopy k (s.chan ch).keys.svnRun 1, (s.chan ch).rootCopy k (s.chan ch).keys.svnRun 2] ∧ (t.chan ch).keys.firstRoot = false ∧ (t.chan ch).island = (s.chan ch).island.pend 14))
  ∧
  (∀ (s : State) (ch : Chan) (m : SvnCommit) (x y : RootCopy),
    s.sluiceUp = true →
    (s.chan ch).keys.commit = some m →
    m.written = true →
    (s.chan ch.peer).keys.commit.any (·.written) = true →
    (s.chan ch).keys.copyOf m.target = some x →
    (s.chan ch.peer).keys.copyOf m.target = some y →
    x.check = y.check →
    Completes (.svnCommitMessage ch) s (fun t =>
      (t.chan ch).keys.rootCopies = [x] ∧ (t.chan ch).keys.rung = m.target ∧ (t.chan ch).keys.commit = none ∧ (t.chan ch.peer).keys = (s.chan ch.peer).keys))

/-- Every Kerral message takes the next counter value and completes with the RESULT of the first check that fails. For
every message of R394, the image import and an unknown code among them, arriving with the port up and nothing before
it: the counter and the intake number rise by 1 and the message is outstanding, begun; where a check fails in both
joined channels, its result is that of the first failing check in R393's order and no effect tide is named; a ninth
outstanding message is answered with BUSY. (R393, R394, R397, R399, R400) -/
def Obligations.KerralMessagesAreChecked : Prop :=
  (∀ (s : State) (code : Nat) (f : Kerral → Instr) (m : Kerral),
    (code, f) ∈ kerralRows →
    s.mgmtFree m →
    s.agreeOn (s.takenMsg code m []) →
    Completes (f m) s (fun t =>
      t.port.mgmt.counter = s.port.mgmt.counter + 1 ∧ t.port.nextIntake = s.port.nextIntake + 1
      ∧ ∃ x ∈ t.port.mgmt.messages, x.counter = s.port.mgmt.counter + 1 ∧ x.code = code ∧ x.msg = m ∧ x.started = true
      ∧ (s.verdictOf (s.takenMsg code m []) ≠ 0 → x.result = some { result := s.verdictOf (s.takenMsg code m []), effect := 0, data := [] })))
  ∧
  (∀ (s : State) (m : Kerral) (image : Bytes),
    s.mgmtFree m →
    s.agreeOn (s.takenMsg 0x53 m image) →
    Completes (.imageImport m image) s (fun t =>
      t.port.mgmt.counter = s.port.mgmt.counter + 1 ∧ t.port.nextIntake = s.port.nextIntake + 1
      ∧ ∃ x ∈ t.port.mgmt.messages, x.counter = s.port.mgmt.counter + 1 ∧ x.code = 0x53 ∧ x.image = image
      ∧ (if s.verdictOf (s.takenMsg 0x53 m image) = 0 then
           (∃ r, (s.chan (s.port.joinedChans.headD .a)).openImage image = some r ∧ x.change = some (.image r)) ∧ x.target = some (s.port.tide + 2)
         else x.result = some { result := s.verdictOf (s.takenMsg 0x53 m image), effect := 0, data := [] })))
  ∧
  (∀ (s : State) (code : Byte) (m : Kerral),
    s.mgmtFree m →
    kerralRow code.toNat = none →
    s.kerralLayout code.toNat m = true →
    Completes (.kerralUnknownCode code m) s (fun t =>
      ∃ x ∈ t.port.mgmt.messages, x.counter = s.port.mgmt.counter + 1 ∧ x.code = code.toNat ∧ x.result = some { result := 2, effect := 0, data := [] }))
  ∧
  (∀ (s : State) (code : Nat) (f : Kerral → Instr) (m : Kerral),
    (code, f) ∈ kerralRows →
    s.port.mgmtUp m.via.binding = true →
    19 + m.rest.length ≤ 16384 →
    8 ≤ (s.port.mgmt.messages.filter (fun x => !x.result.any (fun r => r.result == 9))).length →
    Completes (f m) s (fun t =>
      t.port.mgmt.counter = s.port.mgmt.counter + 1 ∧ ∃ x ∈ t.port.mgmt.messages, x.counter = s.port.mgmt.counter + 1 ∧ x.result = some { result := 9, effect := 0, data := [] }))

/-- A changing Kerral message that passes its checks fixes its change for a target tide two tides on. For every changing
message whose body alone says its change, where every check passes: the message holds the change of its body and the
target tide two tides on, with no result yet; a fenced one (slot grants, policies, decimalisation tables, custodian
lists) holds the change and the hold tide H two tides on. (R36, R395, R397, R401) -/
def Obligations.KerralChangesAreFixedForTheirTide : Prop :=
  (∀ (s : State) (code : Nat) (f : Kerral → Instr) (m : Kerral),
    (code, f) ∈ kerralRows →
    code ∈ [0x10, 0x11, 0x20, 0x21, 0x36, 0x37, 0x38, 0x40, 0x41, 0x42, 0x43, 0x44, 0x61, 0x62, 0x63, 0x64] →
    s.mgmtFree m →
    s.agreeOn (s.takenMsg code m []) →
    s.verdictOf (s.takenMsg code m []) = 0 →
    Completes (f m) s (fun t =>
      ∃ x ∈ t.port.mgmt.messages, x.counter = s.port.mgmt.counter + 1 ∧ x.change = bodyChange code m.body ∧ x.change.isSome = true ∧ x.target = some (s.port.tide + 2) ∧ x.hold = none ∧ x.result = none))
  ∧
  (∀ (s : State) (code : Nat) (f : Kerral → Instr) (m : Kerral) (v : Nat),
    (code, f) ∈ kerralRows →
    code ∈ [0x30, 0x31, 0x32, 0x33] →
    s.mgmtFree m →
    s.agreeOn (s.takenMsg code m []) →
    v = s.verdictOf (s.takenMsg code m []) →
    Completes (f m) s (fun t =>
      ∃ x ∈ t.port.mgmt.messages, x.counter = s.port.mgmt.counter + 1 ∧ if v = 0 then x.change = bodyChange code m.body ∧ x.change.isSome = true ∧ x.hold = some (s.port.tide + 2) ∧ x.target = none ∧ x.result = none
        else x.result = some { result := v, effect := 0, data := [] }))

/-- GET_NONCE, GET_STATUS, RECORDER_READ, SLACK, ceremonies, activation, SVN commit and export do what their rows say.
Where every check passes: GET_STATUS and RECORDER_READ return their data; GET_NONCE returns the counter value, its
nonce and keeps it live, or FAULT where no epoch gives material; SLACK fixes Sleep two tides on; CEREMONY_BEGIN
fixes a session with a drawn nonce; CEREMONY_COMPONENT fixes its component; UPDATE_ACTIVATE plans the retirement of
the channel it names; SVN_COMMIT fixes the commit; IMAGE_EXPORT, where the channels' images agree, returns the
length and digest of the sealed image. Where a check fails the result is that check's. (R371, R396, R399, R402,
R403, R405, R412) -/
def Obligations.KerralQueriesAndOrders : Prop :=
  (∀ (s : State) (m : Kerral),
    s.mgmtFree m →
    s.agreeOn (s.takenMsg 2 m []) →
    s.verdictOf (s.takenMsg 2 m []) = 0 →
    Completes (.getStatus m) s (fun t =>
      ∃ x ∈ t.port.mgmt.messages, x.counter = s.port.mgmt.counter + 1 ∧ x.result = some { result := 0, effect := 0, data := s.statusData }))
  ∧
  (∀ (s : State) (m : Kerral),
    s.mgmtFree m →
    s.agreeOn (s.takenMsg 0x60 m []) →
    s.verdictOf (s.takenMsg 0x60 m []) = 0 →
    Completes (.recorderRead m) s (fun t =>
      ∃ x ∈ t.port.mgmt.messages, x.counter = s.port.mgmt.counter + 1 ∧ x.result = some { result := 0, effect := 0, data := s.port.recorder.read (leAt m.body 0 2) (u8 m.body 2) }))
  ∧
  (∀ (s : State) (m : Kerral) (n : Nat),
    s.mgmtFree m →
    s.agreeOn (s.takenMsg 1 m []) →
    s.verdictOf (s.takenMsg 1 m []) = 0 →
    n = s.port.mgmt.counter + 1 →
    Completes (.getNonce m) s (fun t =>
      ∃ x ∈ t.port.mgmt.messages, x.counter = s.port.mgmt.counter + 1 ∧ (match s.mgmtDraw n 0xFF 24 with
        | none => x.result = some { result := 11, effect := 0, data := [] }
        | some d => x.result = some { result := 0, effect := 0, data := leBytes 4 (n % 2 ^ 32) ++ (beBytes 8 n ++ d) }
            ∧ { id := BitVec.ofNat 32 n, value := beBytes 8 n ++ d, tide := s.port.tide } ∈ t.port.mgmt.nonces)))
  ∧
  (∀ (s : State) (m : Kerral) (v : Nat),
    s.mgmtFree m →
    s.agreeOn (s.takenMsg 0x22 m []) →
    v = s.verdictOf (s.takenMsg 0x22 m []) →
    Completes (.slack m) s (fun t =>
      ∃ x ∈ t.port.mgmt.messages, x.counter = s.port.mgmt.counter + 1 ∧ if v = 0 then t.port.mgmt.slack = some (s.port.tide + 2) ∧ x.result = some { result := 0, effect := s.port.tide + 2, data := [] }
        else x.result = some { result := v, effect := 0, data := [] }))
  ∧
  (∀ (s : State) (m : Kerral) (v : Nat),
    s.mgmtFree m →
    s.agreeOn (s.takenMsg 0x34 m []) →
    v = s.verdictOf (s.takenMsg 0x34 m []) →
    Completes (.ceremonyBegin m) s (fun t =>
      ∃ x ∈ t.port.mgmt.messages, x.counter = s.port.mgmt.counter + 1 ∧ if v = 0 then match s.mgmtDraw (s.port.mgmt.counter + 1) 0xFE 16 with
          | none => x.result = some { result := 11, effect := 0, data := [] }
          | some d => x.target = some (s.port.tide + 2) ∧ ∃ y, x.change = some (.openSession y) ∧ y.slot = leAt m.body 4 4 ∧ y.function = u8 m.body 0 ∧ y.nonce = d ∧ y.received = []
              ∧ y.count = u8 m.body 1 ∧ y.expiry = s.port.tide + 500000 * leAt m.body 8 2
        else x.result = some { result := v, effect := 0, data := [] }))
  ∧
  (∀ (s : State) (m : Kerral) (v : Nat),
    s.mgmtFree m →
    s.agreeOn (s.takenMsg 0x35 m []) →
    v = s.verdictOf (s.takenMsg 0x35 m []) →
    Completes (.ceremonyComponent m) s (fun t =>
      ∃ x ∈ t.port.mgmt.messages, x.counter = s.port.mgmt.counter + 1 ∧ if v = 0 then x.target = some (s.port.tide + 2) ∧ ∃ o, x.change = some (.component (leAt m.body 0 4) (u8 m.body 4) o (slice m.body 8 (u8 m.body 5)) (slice m.body 16 (u8 m.body 6)))
        else x.result = some { result := v, effect := 0, data := [] }))
  ∧
  (∀ (s : State) (m : Kerral) (v : Nat),
    s.mgmtFree m →
    s.agreeOn (s.takenMsg 0x50 m []) →
    v = s.verdictOf (s.takenMsg 0x50 m []) →
    Completes (.updateActivate m) s (fun t =>
      ∃ x ∈ t.port.mgmt.messages, x.counter = s.port.mgmt.counter + 1 ∧ if v = 0 then t.port.assay.planned = some (if u8 m.body 0 = 0x41 then Chan.a else Chan.b, s.port.tide + 2) ∧ x.result = none
          ∧ t.port.mgmt.activation = some (s.port.mgmt.counter + 1, if u8 m.body 0 = 0x41 then Chan.a else Chan.b)
        else x.result = some { result := v, effect := 0, data := [] }))
  ∧
  (∀ (s : State) (m : Kerral) (v : Nat),
    s.mgmtFree m →
    s.agreeOn (s.takenMsg 0x51 m []) →
    v = s.verdictOf (s.takenMsg 0x51 m []) →
    Completes (.svnCommit m) s (fun t =>
      ∃ x ∈ t.port.mgmt.messages, x.counter = s.port.mgmt.counter + 1 ∧ if v = 0 then t.port.svnTarget = some (u8 m.body 0, s.port.tide + 2) ∧ x.result = none
        else x.result = some { result := v, effect := 0, data := [] }))
  ∧
  (∀ (s : State) (m : Kerral) (v : Nat),
    s.mgmtFree m →
    s.agreeOn (s.takenMsg 0x52 m []) →
    v = s.verdictOf (s.takenMsg 0x52 m []) →
    (s.port.bothJoined = true → s.a.storeImage = s.b.storeImage) →
    Completes (.imageExport m) s (fun t =>
      ∃ x ∈ t.port.mgmt.messages, x.counter = s.port.mgmt.counter + 1 ∧ if v = 0 then x.result = some { result := 0, effect := 0, data := leBytes 8 (s.chan (s.port.joinedChans.headD .a)).storeImage.length ++ sha384 (s.chan (s.port.joinedChans.headD .a)).storeImage }
        else x.result = some { result := v, effect := 0, data := [] }))

/-- Fenced changes hold, gather reports and apply; responses are sent and nonces die. From H a joined channel holds the
function's commands; its report of none is noted, and with every joined channel's report X is two tides on; at X the
change applies, a slot grant standing in the records, the hold ends, and once no joined channel holds, the message
completes with effect tide X; a completed message's response is sent and the message forgotten; 600 s after its
issue a nonce is dead. (R397, R399, R401) -/
def Obligations.FencedChangesAndResponses : Prop :=
  (∀ (s : State) (ch : Chan) (m : KerralMsg) (h f : Nat),
    s.fencing = some m →
    m.hold = some h →
    fencedFn m.code m.msg.body = some f →
    m.target = none →
    s.port.joined ch = true →
    h ≤ (s.chan ch).tide →
    Completes (.fenceHold ch) s (fun t =>
      (t.chan ch).fence = some (f, h)))
  ∧
  (∀ (s : State) (ch : Chan) (m : KerralMsg) (h f : Nat),
    s.fencing = some m →
    (s.chan ch).fence = some (f, h) →
    m.target = none →
    s.port.joined ch = true →
    (s.chan ch).beforeFence f h = false →
    Completes (.fenceReport ch) s (fun t =>
      ∃ y ∈ t.port.mgmt.messages, y.counter = m.counter ∧ (match ch with | .a => y.noneA | .b => y.noneB) = true
      ∧ (s.port.joinedChans.all (fun d => d == ch || (match d with | .a => m.noneA | .b => m.noneB)) = true → y.target = some (s.port.tide + 2))))
  ∧
  (∀ (s : State) (ch : Chan) (m : KerralMsg) (x : Change) (n : Nat),
    s.fencing = some m →
    m.change = some x →
    m.target = some n →
    n ≤ (s.chan ch).tide →
    (s.chan ch).fence.isSome = true →
    (∀ d, d ≠ ch → s.port.joined d = true → (s.chan d).fence = none) →
    Completes (.fenceApply ch) s (fun t =>
      (t.chan ch).fence = none ∧ (∃ y ∈ t.port.mgmt.messages, y.counter = m.counter ∧ y.result = some { result := 0, effect := n, data := [] })
      ∧ ∀ f i a k, x = .grant f i a k → (t.chan ch).records.grants = SMap.put (s.chan ch).records.grants (16 * f + i) (if k == 0 then none else some (a, k))))
  ∧
  (∀ (s : State) (m : KerralMsg) (r : KerralResult),
    s.port.mgmt.messages.find? (fun x => x.result.isSome) = some m →
    m.result = some r →
    Completes (.kerralResponse) s (fun t =>
      t.port.mgmt.out = s.port.mgmt.out ++ [m.response r] ∧ t.port.mgmt.messages = s.port.mgmt.messages.filter (fun x => x.counter != m.counter)))
  ∧
  (∀ (s : State),
    Completes (.nonceExpiry) s (fun t =>
      ∀ n, n ∈ t.port.mgmt.nonces ↔ n ∈ s.port.mgmt.nonces ∧ s.port.tide < n.tide + 300000000))

/-- The joined responder answers SPDM requests in their order, and its sessions open, are confirmed, renew and end. With
a channel joined and the binding up: a request of at most 16,384 bytes is answered: GET_VERSION starts the
connection afresh and answers the version; GET_CAPABILITIES and NEGOTIATE_ALGORITHMS, which answers the algorithms,
follow it; with the connection negotiated GET_DIGESTS answers the digest of the identity's chain, GET_CERTIFICATE
the chain, CHALLENGE a nonce signed with the responder's identity key, GET_MEASUREMENTS the six blocks as SHA-384
digests as the responder has them, and KEY_EXCHANGE, signed so, opens a session with the responder; FINISH confirms
an open session; HEARTBEAT, KEY_UPDATE and END_SESSION of a confirmed one are answered, END_SESSION removing it. The
order of requests is the model's (PRESUMED from DSP0274, assumption 170). (R386, R387, R388) -/
def Obligations.AttestationAnswers : Prop :=
  (∀ (s : State) (ch : Chan) (v : Via) (b : Bytes),
    s.port.responder = some ch →
    s.port.mgmtUp v.binding = true →
    5 + b.length ≤ 16384 →
    Completes (.getVersion v b) s (fun t =>
      t.port.mgmt.spdm.version = true ∧ t.port.mgmt.spdm.capabilities = false ∧ t.port.mgmt.spdm.algorithms = false ∧ (s.port.mgmt.out ++ [{ binding := v.binding, eid := none, session := v.session, type := Via.spdmType v, body := Config.standardMessage 0x84 (b ++ spdmVersion) }]) <+: t.port.mgmt.out))
  ∧
  (∀ (s : State) (ch : Chan) (v : Via) (b : Bytes),
    s.port.responder = some ch →
    s.port.mgmtUp v.binding = true →
    5 + b.length ≤ 16384 →
    s.port.mgmt.spdm.version = true →
    Completes (.getCapabilities v b) s (fun t =>
      t.port.mgmt.spdm.capabilities = true ∧ (s.port.mgmt.out ++ [{ binding := v.binding, eid := none, session := v.session, type := Via.spdmType v, body := Config.standardMessage 0xE1 (b) }]) <+: t.port.mgmt.out))
  ∧
  (∀ (s : State) (ch : Chan) (v : Via) (b : Bytes),
    s.port.responder = some ch →
    s.port.mgmtUp v.binding = true →
    5 + b.length ≤ 16384 →
    s.port.mgmt.spdm.version = true →
    s.port.mgmt.spdm.capabilities = true →
    Completes (.negotiateAlgorithms v b) s (fun t =>
      t.port.mgmt.spdm.algorithms = true ∧ (s.port.mgmt.out ++ [{ binding := v.binding, eid := none, session := v.session, type := Via.spdmType v, body := Config.standardMessage 0xE3 (b ++ spdmAlgorithms) }]) <+: t.port.mgmt.out))
  ∧
  (∀ (s : State) (ch : Chan) (v : Via) (b : Bytes),
    s.port.responder = some ch →
    s.port.mgmtUp v.binding = true →
    5 + b.length ≤ 16384 →
    s.port.mgmt.spdm.ready = true →
    Completes (.getDigests v b) s (fun t =>
      (s.port.mgmt.out ++ [{ binding := v.binding, eid := none, session := v.session, type := Via.spdmType v, body := Config.standardMessage 0x81 (b ++ sha384 (Config.certChain (s.chan ch).keys.fuseRoot (s.chan ch).fuses.identity)) }]) <+: t.port.mgmt.out))
  ∧
  (∀ (s : State) (ch : Chan) (v : Via) (b : Bytes),
    s.port.responder = some ch →
    s.port.mgmtUp v.binding = true →
    5 + b.length ≤ 16384 →
    s.port.mgmt.spdm.ready = true →
    Completes (.getCertificate v b) s (fun t =>
      (s.port.mgmt.out ++ [{ binding := v.binding, eid := none, session := v.session, type := Via.spdmType v, body := Config.standardMessage 0x82 (b ++ Config.certChain (s.chan ch).keys.fuseRoot (s.chan ch).fuses.identity) }]) <+: t.port.mgmt.out))
  ∧
  (∀ (s : State) (ch : Chan) (v : Via) (b : Bytes),
    s.port.responder = some ch →
    s.port.mgmtUp v.binding = true →
    5 + b.length ≤ 16384 →
    s.port.mgmt.spdm.ready = true →
    Completes (.challenge v b) s (fun t =>
      (s.port.mgmt.out ++ [{ binding := v.binding, eid := none, session := v.session, type := Via.spdmType v, body := Config.standardMessage 0x83 (b ++ Config.freeBytes s.free ++ (s.chan ch).identitySign (b ++ Config.freeBytes s.free) (Config.freeNat s.free)) }]) <+: t.port.mgmt.out))
  ∧
  (∀ (s : State) (ch : Chan) (v : Via) (b : Bytes),
    s.port.responder = some ch →
    s.port.mgmtUp v.binding = true →
    5 + b.length ≤ 16384 →
    s.port.mgmt.spdm.ready = true →
    Completes (.getMeasurements v b) s (fun t =>
      (s.port.mgmt.out ++ [{ binding := v.binding, eid := none, session := v.session, type := Via.spdmType v, body := Config.standardMessage 0xE0 (b ++ (s.measurements ch).flatten) }]) <+: t.port.mgmt.out ∧ (s.measurements ch).length = 6))
  ∧
  (∀ (s : State) (ch : Chan) (v : Via) (b : Bytes),
    s.port.responder = some ch →
    s.port.mgmtUp v.binding = true →
    5 + b.length ≤ 16384 →
    s.port.mgmt.spdm.ready = true →
    Completes (.keyExchange v b) s (fun t =>
      (∃ n ∈ t.port.mgmt.spdm.sessions, n.id = s.port.mgmt.spdm.nextSession ∧ n.responder = ch ∧ n.established = false)
      ∧ (s.port.mgmt.out ++ [{ binding := v.binding, eid := none, session := v.session, type := Via.spdmType v, body := Config.standardMessage 0xE4 (b ++ Config.freeBytes s.free ++ (s.chan ch).identitySign (b ++ Config.freeBytes s.free) (Config.freeNat s.free)) }]) <+: t.port.mgmt.out))
  ∧
  (∀ (s : State) (v : Via) (b : Bytes) (i : Nat) (n : SpdmSession),
    s.port.mgmtUp v.binding = true →
    5 + b.length ≤ 16384 →
    v.session = some i →
    n ∈ s.port.mgmt.spdm.sessions →
    n.id = i →
    s.port.responder = some n.responder →
    n.established = false →
    Completes (.finish v b) s (fun t =>
      { n with established := true } ∈ t.port.mgmt.spdm.sessions ∧ s.port.mgmt.out.length < t.port.mgmt.out.length))
  ∧
  (∀ (s : State) (v : Via) (b : Bytes) (i : Nat) (n : SpdmSession),
    s.port.mgmtUp v.binding = true →
    5 + b.length ≤ 16384 →
    v.session = some i →
    n ∈ s.port.mgmt.spdm.sessions →
    n.id = i →
    s.port.responder = some n.responder →
    n.established = true →
    Completes (.heartbeat v b) s (fun t =>
      t.port.mgmt.spdm.sessions = s.port.mgmt.spdm.sessions ∧ s.port.mgmt.out.length < t.port.mgmt.out.length))
  ∧
  (∀ (s : State) (v : Via) (b : Bytes) (i : Nat) (n : SpdmSession),
    s.port.mgmtUp v.binding = true →
    5 + b.length ≤ 16384 →
    v.session = some i →
    n ∈ s.port.mgmt.spdm.sessions →
    n.id = i →
    s.port.responder = some n.responder →
    n.established = true →
    Completes (.keyUpdate v b) s (fun t =>
      { n with updates := n.updates + 1 } ∈ t.port.mgmt.spdm.sessions ∧ s.port.mgmt.out.length < t.port.mgmt.out.length))
  ∧
  (∀ (s : State) (v : Via) (b : Bytes) (i : Nat) (n : SpdmSession),
    s.port.mgmtUp v.binding = true →
    5 + b.length ≤ 16384 →
    v.session = some i →
    n ∈ s.port.mgmt.spdm.sessions →
    n.id = i →
    s.port.responder = some n.responder →
    n.established = true →
    Completes (.endSession v b) s (fun t =>
      ∀ y ∈ t.port.mgmt.spdm.sessions, y.id ≠ i ∧ s.port.mgmt.out.length < t.port.mgmt.out.length))

/-- Addresses, dropped messages, IDE keys, firmware transfer, sensors and the recorder's own events take effect.
Endpoint IDs and the dynamic address are kept; an MCTP message of an unsupported type, or too long, is counted under
code 0x300; IDE_KM inside a confirmed session programs its stream's keys or those of link IDE, and outside one
programs nothing; REQUEST_UPDATE writes an image that passes into the inactive image of each joined channel and
answers whether every one was written; ACTIVATE_FIRMWARE is answered with ERROR_UNSUPPORTED_PLDM_CMD (0x05); a
sensor's reading is answered; a freeze ends after 15,000,000 tides; OPTIME at a new multiple of 4,096 starts a
flush; and a flush that ends is whole in the image it writes. (R385, R386, R389, R390, R391, R410, R411) -/
def Obligations.ManagementPortEvents : Prop :=
  (∀ (s : State) (b : Binding) (e : Byte),
    s.port.mgmtUp b = true →
    Completes (.endpointIdAssignment b e) s (fun t =>
      (match b with | .pcie => t.port.mgmt.eidPcie | .i3c => t.port.mgmt.eidI3c) = e))
  ∧
  (∀ (s : State) (x : BitVec 7),
    s.port.start.up = true →
    s.port.start.power = .run →
    Completes (.dynamicAddressAssignment x) s (fun t =>
      t.port.mgmt.i3cAddress = x))
  ∧
  (∀ (s : State) (x : BitVec 7) (n : Nat),
    s.a.events = [] →
    s.b.events = [] →
    s.port.mgmtUp .i3c = true →
    (x.toNat ∉ mctpTypes ∨ 16384 < n) →
    Completes (.mctpUnsupportedMessage x n) s (fun t =>
      t.port.recorder = s.port.recorder.event 0x300 x.toNat))
  ∧
  (∀ (s : State) (v : Via) (x : BitVec 6) (k : Bytes) (h : Bool),
    s.port.mgmtUp v.binding = true →
    s.port.mgmt.inSession v = true →
    Completes (.ideKm v (some x) k h) s (fun t =>
      t.port.ide = SMap.insert s.port.ide x.toNat { keys := k, secure := h }))
  ∧
  (∀ (s : State) (v : Via) (k : Bytes) (h : Bool),
    s.port.mgmtUp v.binding = true →
    s.port.mgmt.inSession v = true →
    Completes (.ideKm v none k h) s (fun t =>
      t.port.linkIde = { keys := k, secure := h } ∧ t.port.ide = s.port.ide))
  ∧
  (∀ (s : State) (v : Via) (x : BitVec 6) (k : Bytes) (h : Bool),
    s.port.mgmt.inSession v = false →
    exec (.ideKm v (some x) k h) s = .next s ∧ exec (.ideKm v none k h) s = .next s)
  ∧
  (∀ (s : State) (v : Via) (b : Bytes),
    s.port.mgmtUp v.binding = true →
    s.port.joined .a = true →
    s.port.joined .b = true →
    s.a.start.step = .service →
    s.b.start.step = .service →
    Completes (.requestUpdate v b) s (fun t =>
      (∀ ch, (s.chan ch).imageOk b = true → (t.chan ch).flash = (s.chan ch).flash.writeInactive b) ∧ (∀ ch, (s.chan ch).imageOk b = false → (t.chan ch).flash = (s.chan ch).flash)
      ∧ t.port.mgmt.out = s.port.mgmt.out ++ [{ binding := v.binding, eid := none, session := v.session, type := 0x01#7, body := Config.standardMessage 0x10 ([byte (s.a.imageOk b && s.b.imageOk b).toNat]) }]))
  ∧
  (∀ (s : State) (v : Via),
    s.port.mgmtUp v.binding = true →
    Completes (.activateFirmware v) s (fun t =>
      t.port.mgmt.out = s.port.mgmt.out ++ [{ binding := v.binding, eid := none, session := v.session, type := 0x01#7, body := Config.standardMessage 0x1A ([0x05#8]) }]))
  ∧
  (∀ (s : State) (v : Via) (n : Nat) (i : Int),
    s.port.mgmtUp v.binding = true →
    s.sensor n = some i →
    Completes (.getSensorReading v n) s (fun t =>
      t.port.mgmt.out = s.port.mgmt.out ++ [{ binding := v.binding, eid := none, session := v.session, type := 0x01#7, body := Config.standardMessage 0x11 (leBytes 4 n ++ leBytes 4 (BitVec.ofInt 32 i).toNat) }]))
  ∧
  (∀ (s : State) (n : Nat),
    s.port.recorder.frozenAt = some n →
    n + 15000000 ≤ s.port.tide →
    Completes (.recorderFreezeTimeout) s (fun t =>
      t.port.recorder.frozenAt = none ∧ t.port.recorder.deltas = []))
  ∧
  (∀ (s : State),
    s.port.recorder.optime % 4096 = 0 →
    s.port.recorder.optime ≠ s.port.recorder.opFlushed →
    Completes (.recorderPeriodicFlush) s (fun t =>
      t.port.recorder.flushing.isSome = true ∧ t.port.recorder.opFlushed = s.port.recorder.optime))
  ∧
  (∀ (s : State) (o : Bool) (i : RecImage),
    s.port.recorder.flushing = some (o, i) →
    s.port.recorder.queued = none →
    Completes (.recorderFlushDone) s (fun t =>
      t.port.recorder.flushing = none ∧ (if o then t.port.recorder.image1 else t.port.recorder.image0) = some i))

/-- A sealed home record opens to the header, tally, material and check value that were sealed, and no volatile key
loads without VR. For every slot, every header in use that a record may hold (state 1, a class and an exportability
that are not reserved), every tally within its fields, material of the sealed length and check value of 16 bytes,
under keys of 32 bytes, a volatile record under its function's volatile pair: opening the sealed record gives them
back, the tally where the header has one. In a key store without VR, a slot that loads loads a key that is not
volatile. (R249, R250, R251, R252, R256, R367) -/
def Obligations.SealedRecordsOpen : Prop :=
  (∀ (k vol : SealKeys) (slot : Nat) (h : KeyHeader) (y : Tally) (m chk : Bytes),
    h.state = 1#2 →
    h.cls ≠ 3#2 →
    h.exportability ≠ 3#2 →
    k.enc.length = 32 →
    k.siv.length = 32 →
    k.mac.length = 32 →
    vol.enc.length = 32 →
    vol.siv.length = 32 →
    m.length = h.sealLen →
    chk.length = 16 →
    (y.tdesBlocks < 2 ^ 48 ∧ y.gcmEncryptions < 2 ^ 48 ∧ y.aesBlocks < 2 ^ 64 ∧ y.exhaustedFrom < 2 ^ 64) →
    openRecord k vol slot (sealRecord { (if h.isVolatile then vol else k) with mac := k.mac } slot h y m chk)
      = .loaded h (if h.hasTally then y else {}) m chk)
  ∧
  (∀ (k : Keys) (slot : Nat) (g : BitVec 16) (h : KeyHeader) (y : Tally) (m chk : Bytes),
    k.vr = none →
    k.load slot g = .loaded h y m chk →
    h.isVolatile = false)

/-- A PIN field built in format 0, 1, 3 or 4 passes its field check and reads back the PIN. For every PIN of 4 to 12
decimal digits and every fill material: the field built in the format has 8 bytes, 16 in format 4, passes the field
check of its format, and its digits are the PIN. (R126, R127) -/
def Obligations.PinFieldsReadBack : Prop :=
  (∀ (fmt : Nat) (digits : List Nat) (fill : Bytes),
    fmt ∈ [0, 1, 3, 4] →
    4 ≤ digits.length →
    digits.length ≤ 12 →
    (∀ d ∈ digits, d < 10) →
    (pinBuild fmt digits fill).length = (if fmt = 4 then 16 else 8) ∧ pinFieldOk fmt (pinBuild fmt digits fill) = true
      ∧ pinDigits (pinBuild fmt digits fill) = digits)

/-- GCM decryption gives back what GCM encryption made, and counter mode undoes itself. For every AES key of 16, 24 or
32 bytes, every 12-byte IV, additional data and plaintext: decrypting the ciphertext with its tag gives the
plaintext, the ciphertext has its length, and a tag that differs is refused; and counter mode applied twice gives
the data again. (R112, R191) -/
def Obligations.CounterModesInvert : Prop :=
  (∀ (key iv aad pt tag : Bytes),
    (key.length = 16 ∨ key.length = 24 ∨ key.length = 32) →
    iv.length = 12 →
    gcmDec key iv aad (gcmEnc key iv aad pt).1 (gcmEnc key iv aad pt).2 = some pt ∧ (gcmEnc key iv aad pt).1.length = pt.length
      ∧ (tag ≠ (gcmEnc key iv aad pt).2 → gcmDec key iv aad (gcmEnc key iv aad pt).1 tag = none)
      ∧ ∀ b, ctrRun (aesCipher key) ctr32 b (ctrRun (aesCipher key) ctr32 b pt) = pt)

/-- FF1 decryption of an FF1 token gives back the digits, and a token has the digits' length. For every key, tweak and
string of decimal digits: the token has as many decimal digits, and decrypting it under the same key and tweak gives
the string; and encrypting a decrypted string gives that string. (R171) -/
def Obligations.Ff1TokensInvert : Prop :=
  (∀ (key tweak : Bytes) (ds : List Nat),
    (∀ d ∈ ds, d < 10) →
    (ff1Enc key tweak ds).length = ds.length ∧ (∀ d ∈ ff1Enc key tweak ds, d < 10)
      ∧ ff1Dec key tweak (ff1Enc key tweak ds) = ds ∧ ff1Enc key tweak (ff1Dec key tweak ds) = ds)

/-- The slot array, the DUKPT records and the vault of each channel keep their canonical form through every step. If in
each channel the slots, DUKPT records, vault entries and vault index are listed in strictly rising order with no
entry equal to an empty one, then after any step that answers a next state they still are. (R155, R174, R254) -/
def Obligations.StoreRegionsStayCanonical : Prop :=
  (∀ (s t : State),
    (∀ ch, SMap.wf (zeros 128) (s.chan ch).keys.slots = true ∧ SMap.wf DukptRec.unbound (s.chan ch).keys.dukpt = true
        ∧ SMap.wf 0 (s.chan ch).keys.entries = true ∧ SMap.wf 0 (s.chan ch).keys.index = true) →
    step s = .next t →
    ∀ ch, SMap.wf (zeros 128) (t.chan ch).keys.slots = true ∧ SMap.wf DukptRec.unbound (t.chan ch).keys.dukpt = true
        ∧ SMap.wf 0 (t.chan ch).keys.entries = true ∧ SMap.wf 0 (t.chan ch).keys.index = true)

/-- Attestation, addressing, recorder, response and link commands leave both channels and host memory as they were. For
the commands of MCTP addressing, SPDM, IDE keys, firmware activation, sensors, the recorder's own events, responses,
nonces, link training, PWR_FAIL_N and wait verdicts: where exec answers a next state, both channels are unchanged
but for events on their way to the recorder, and so are the queue of commands, the lines of host memory, the
functions' registers and the queues. (R36, R385, R387, R397, R410) -/
def Obligations.PortCommandsLeaveTheChannels : Prop :=
  ∀ (s t : State),
    ((∃ b e, exec (.endpointIdAssignment b e) s = .next t)
      ∨ (∃ x, exec (.dynamicAddressAssignment x) s = .next t)
      ∨ (∃ x n, exec (.mctpUnsupportedMessage x n) s = .next t)
      ∨ (∃ v b, exec (.getVersion v b) s = .next t)
      ∨ (∃ v b, exec (.getCapabilities v b) s = .next t)
      ∨ (∃ v b, exec (.negotiateAlgorithms v b) s = .next t)
      ∨ (∃ v b, exec (.getDigests v b) s = .next t)
      ∨ (∃ v b, exec (.getCertificate v b) s = .next t)
      ∨ (∃ v b, exec (.challenge v b) s = .next t)
      ∨ (∃ v b, exec (.getMeasurements v b) s = .next t)
      ∨ (∃ v b, exec (.keyExchange v b) s = .next t)
      ∨ (∃ v b, exec (.finish v b) s = .next t)
      ∨ (∃ v b, exec (.heartbeat v b) s = .next t)
      ∨ (∃ v b, exec (.keyUpdate v b) s = .next t)
      ∨ (∃ v b, exec (.endSession v b) s = .next t)
      ∨ (∃ v, ∃ x : Option (BitVec 6), ∃ k h, exec (.ideKm v x k h) s = .next t)
      ∨ (∃ v, exec (.activateFirmware v) s = .next t)
      ∨ (∃ v n, exec (.getSensorReading v n) s = .next t)
      ∨ exec (.recorderFreezeTimeout) s = .next t
      ∨ exec (.recorderPeriodicFlush) s = .next t
      ∨ exec (.recorderFlushDone) s = .next t
      ∨ exec (.kerralResponse) s = .next t
      ∨ exec (.nonceExpiry) s = .next t
      ∨ exec (.linkTrainingDone) s = .next t
      ∨ exec (.pwrFailNAssert) s = .next t
      ∨ (∃ n, exec (.waitVerdict n) s = .next t)) →
    OnlyPort s t ∧ t.host.lines = s.host.lines ∧ t.port.fns = s.port.fns ∧ t.port.queues = s.port.queues

/-- Tamper, test, engine and start events of one channel leave the other channel, the queues and host memory as they
were. For the tamper and monitor events, self-tests, engine ends, start steps 1, 5 and 6, checkpoints and root
record writes (not the first of a provisioning) of one channel: where exec answers a next state, the other channel
is unchanged but for events on their way to the recorder, and so are the functions' registers, the queues and their
outstanding commands, the channels' assay states (but the channel's own, which a failed start test sets to 1), the
lines of host memory and the queue of commands. (R16, R19, R314, R364) -/
def Obligations.ChannelEventsStayThere : Prop :=
  ∀ (s t : State) (ch : Chan),
    ((∃ v, exec (.tamperSourceDetected ch v) s = .next t)
      ∨ (∃ n p, exec (.monitorTest ch n p) s = .next t)
      ∨ (∃ n, exec (.tmpInAssert ch n) s = .next t)
      ∨ exec (.islandBrownOut ch) s = .next t
      ∨ exec (.wakeTamperDecision ch) s = .next t
      ∨ (∃ n p, exec (.laneSelfTest ch n p) s = .next t)
      ∨ (∃ n w, exec (.rakeJobDone ch n w) s = .next t)
      ∨ (∃ n w, exec (.digestJobDone ch n w) s = .next t)
      ∨ (∃ n p, exec (.digestKnownAnswerTest ch n p) s = .next t)
      ∨ (∃ n e v, exec (.digestCmp ch n e v) s = .next t)
      ∨ (∃ n w, exec (.pkOperationDone ch n w) s = .next t)
      ∨ (∃ u r, exec (.backgroundSelfTest ch u r) s = .next t)
      ∨ (∃ b, exec (.fuseLoadDone ch b) s = .next t)
      ∨ (∃ b, exec (.hbmTrainingDone ch b) s = .next t)
      ∨ (∃ b, exec (.memoryTestDone ch b) s = .next t)
      ∨ exec (.checkpointTimer ch) s = .next t
      ∨ ((s.chan ch).keys.firstRoot = false ∧ exec (.rootRecordWriteDone ch) s = .next t)
      ∨ exec (.svnCommitTarget ch) s = .next t) →
    (t.chan ch.peer).quiet = (s.chan ch.peer).quiet ∧ t.port.fns = s.port.fns ∧ t.port.queues = s.port.queues
    ∧ t.port.outst = s.port.outst ∧ (t.port.assay = s.port.assay ∨ t.port.assay = s.port.assay.setSt ch .starting) ∧ t.host.lines = s.host.lines ∧ t.pending = s.pending
end

