-- ==== Sys2Proof/Laws/Channel.lean ====
section
/-! SUPPORT. What the shared updates of a channel leave as it was: an event, a change of the scheduler or of a work item, and
a change of the generator. -/

namespace Sys2Proof.Machine

/-! ### Events -/

@[simp] theorem Channel.event_side (c : Channel) (ch : Chan) (k v : Nat) : (c.event ch k v).side = c.side := rfl
@[simp] theorem Channel.event_tide (c : Channel) (ch : Chan) (k v : Nat) : (c.event ch k v).tide = c.tide := rfl
@[simp] theorem Channel.event_offset (c : Channel) (ch : Chan) (k v : Nat) : (c.event ch k v).offset = c.offset := rfl
@[simp] theorem Channel.event_aligned (c : Channel) (ch : Chan) (k v : Nat) : (c.event ch k v).aligned = c.aligned := rfl
@[simp] theorem Channel.event_alignAt (c : Channel) (ch : Chan) (k v : Nat) : (c.event ch k v).alignAt = c.alignAt := rfl
@[simp] theorem Channel.event_start (c : Channel) (ch : Chan) (k v : Nat) : (c.event ch k v).start = c.start := rfl
@[simp] theorem Channel.event_flash (c : Channel) (ch : Chan) (k v : Nat) : (c.event ch k v).flash = c.flash := rfl
@[simp] theorem Channel.event_fuses (c : Channel) (ch : Chan) (k v : Nat) : (c.event ch k v).fuses = c.fuses := rfl
@[simp] theorem Channel.event_island (c : Channel) (ch : Chan) (k v : Nat) : (c.event ch k v).island = c.island := rfl
@[simp] theorem Channel.event_tamper (c : Channel) (ch : Chan) (k v : Nat) : (c.event ch k v).tamper = c.tamper := rfl
@[simp] theorem Channel.event_thermal (c : Channel) (ch : Chan) (k v : Nat) : (c.event ch k v).thermal = c.thermal := rfl
@[simp] theorem Channel.event_health (c : Channel) (ch : Chan) (k v : Nat) : (c.event ch k v).health = c.health := rfl
@[simp] theorem Channel.event_records (c : Channel) (ch : Chan) (k v : Nat) : (c.event ch k v).records = c.records := rfl
@[simp] theorem Channel.event_journal (c : Channel) (ch : Chan) (k v : Nat) : (c.event ch k v).journal = c.journal := rfl
@[simp] theorem Channel.event_refill (c : Channel) (ch : Chan) (k v : Nat) : (c.event ch k v).refill = c.refill := rfl
@[simp] theorem Channel.event_sluice (c : Channel) (ch : Chan) (k v : Nat) : (c.event ch k v).sluice = c.sluice := rfl
@[simp] theorem Channel.event_sluiceRetry (c : Channel) (ch : Chan) (k v : Nat) : (c.event ch k v).sluiceRetry = c.sluiceRetry := rfl
@[simp] theorem Channel.event_link (c : Channel) (ch : Chan) (k v : Nat) : (c.event ch k v).link = c.link := rfl
@[simp] theorem Channel.event_sched (c : Channel) (ch : Chan) (k v : Nat) : (c.event ch k v).sched = c.sched := rfl
@[simp] theorem Channel.event_skim (c : Channel) (ch : Chan) (k v : Nat) : (c.event ch k v).skim = c.skim := rfl
@[simp] theorem Channel.event_rakes (c : Channel) (ch : Chan) (k v : Nat) : (c.event ch k v).rakes = c.rakes := rfl
@[simp] theorem Channel.event_digests (c : Channel) (ch : Chan) (k v : Nat) : (c.event ch k v).digests = c.digests := rfl
@[simp] theorem Channel.event_pks (c : Channel) (ch : Chan) (k v : Nat) : (c.event ch k v).pks = c.pks := rfl
@[simp] theorem Channel.event_keys (c : Channel) (ch : Chan) (k v : Nat) : (c.event ch k v).keys = c.keys := rfl
@[simp] theorem Channel.event_rng (c : Channel) (ch : Chan) (k v : Nat) : (c.event ch k v).rng = c.rng := rfl
@[simp] theorem Channel.event_faults (c : Channel) (ch : Chan) (k v : Nat) : (c.event ch k v).faults = c.faults := rfl
@[simp] theorem Channel.event_writersDone (c : Channel) (ch : Chan) (k v : Nat) : (c.event ch k v).writersDone = c.writersDone := rfl
@[simp] theorem Channel.event_resetList (c : Channel) (ch : Chan) (k v : Nat) : (c.event ch k v).resetList = c.resetList := rfl
@[simp] theorem Channel.event_resetting (c : Channel) (ch : Chan) (k v : Nat) : (c.event ch k v).resetting = c.resetting := rfl
@[simp] theorem Channel.event_fence (c : Channel) (ch : Chan) (k v : Nat) : (c.event ch k v).fence = c.fence := rfl
@[simp] theorem Channel.event_draining (c : Channel) (ch : Chan) (k v : Nat) : (c.event ch k v).draining = c.draining := rfl
@[simp] theorem Channel.event_resetOrder (c : Channel) (ch : Chan) (k v : Nat) : (c.event ch k v).resetOrder = c.resetOrder := rfl

/-! ### The scheduler -/

@[simp] theorem Channel.onSched_sched (c : Channel) (f : Sched → Sched) : (c.onSched f).sched = f c.sched := rfl
@[simp] theorem Channel.onSched_side (c : Channel) (f : Sched → Sched) : (c.onSched f).side = c.side := rfl
@[simp] theorem Channel.onSched_tide (c : Channel) (f : Sched → Sched) : (c.onSched f).tide = c.tide := rfl
@[simp] theorem Channel.onSched_offset (c : Channel) (f : Sched → Sched) : (c.onSched f).offset = c.offset := rfl
@[simp] theorem Channel.onSched_aligned (c : Channel) (f : Sched → Sched) : (c.onSched f).aligned = c.aligned := rfl
@[simp] theorem Channel.onSched_alignAt (c : Channel) (f : Sched → Sched) : (c.onSched f).alignAt = c.alignAt := rfl
@[simp] theorem Channel.onSched_start (c : Channel) (f : Sched → Sched) : (c.onSched f).start = c.start := rfl
@[simp] theorem Channel.onSched_flash (c : Channel) (f : Sched → Sched) : (c.onSched f).flash = c.flash := rfl
@[simp] theorem Channel.onSched_fuses (c : Channel) (f : Sched → Sched) : (c.onSched f).fuses = c.fuses := rfl
@[simp] theorem Channel.onSched_island (c : Channel) (f : Sched → Sched) : (c.onSched f).island = c.island := rfl
@[simp] theorem Channel.onSched_tamper (c : Channel) (f : Sched → Sched) : (c.onSched f).tamper = c.tamper := rfl
@[simp] theorem Channel.onSched_thermal (c : Channel) (f : Sched → Sched) : (c.onSched f).thermal = c.thermal := rfl
@[simp] theorem Channel.onSched_health (c : Channel) (f : Sched → Sched) : (c.onSched f).health = c.health := rfl
@[simp] theorem Channel.onSched_records (c : Channel) (f : Sched → Sched) : (c.onSched f).records = c.records := rfl
@[simp] theorem Channel.onSched_journal (c : Channel) (f : Sched → Sched) : (c.onSched f).journal = c.journal := rfl
@[simp] theorem Channel.onSched_refill (c : Channel) (f : Sched → Sched) : (c.onSched f).refill = c.refill := rfl
@[simp] theorem Channel.onSched_sluice (c : Channel) (f : Sched → Sched) : (c.onSched f).sluice = c.sluice := rfl
@[simp] theorem Channel.onSched_sluiceRetry (c : Channel) (f : Sched → Sched) : (c.onSched f).sluiceRetry = c.sluiceRetry := rfl
@[simp] theorem Channel.onSched_link (c : Channel) (f : Sched → Sched) : (c.onSched f).link = c.link := rfl
@[simp] theorem Channel.onSched_skim (c : Channel) (f : Sched → Sched) : (c.onSched f).skim = c.skim := rfl
@[simp] theorem Channel.onSched_rakes (c : Channel) (f : Sched → Sched) : (c.onSched f).rakes = c.rakes := rfl
@[simp] theorem Channel.onSched_digests (c : Channel) (f : Sched → Sched) : (c.onSched f).digests = c.digests := rfl
@[simp] theorem Channel.onSched_pks (c : Channel) (f : Sched → Sched) : (c.onSched f).pks = c.pks := rfl
@[simp] theorem Channel.onSched_keys (c : Channel) (f : Sched → Sched) : (c.onSched f).keys = c.keys := rfl
@[simp] theorem Channel.onSched_rng (c : Channel) (f : Sched → Sched) : (c.onSched f).rng = c.rng := rfl
@[simp] theorem Channel.onSched_faults (c : Channel) (f : Sched → Sched) : (c.onSched f).faults = c.faults := rfl
@[simp] theorem Channel.onSched_events (c : Channel) (f : Sched → Sched) : (c.onSched f).events = c.events := rfl
@[simp] theorem Channel.onSched_writersDone (c : Channel) (f : Sched → Sched) : (c.onSched f).writersDone = c.writersDone := rfl
@[simp] theorem Channel.onSched_resetList (c : Channel) (f : Sched → Sched) : (c.onSched f).resetList = c.resetList := rfl
@[simp] theorem Channel.onSched_resetting (c : Channel) (f : Sched → Sched) : (c.onSched f).resetting = c.resetting := rfl
@[simp] theorem Channel.onSched_fence (c : Channel) (f : Sched → Sched) : (c.onSched f).fence = c.fence := rfl
@[simp] theorem Channel.onSched_draining (c : Channel) (f : Sched → Sched) : (c.onSched f).draining = c.draining := rfl
@[simp] theorem Channel.onSched_resetOrder (c : Channel) (f : Sched → Sched) : (c.onSched f).resetOrder = c.resetOrder := rfl

/-! ### A work item -/

@[simp] theorem Channel.setItem_side (c : Channel) (x : Item) : (c.setItem x).side = c.side := rfl
@[simp] theorem Channel.setItem_tide (c : Channel) (x : Item) : (c.setItem x).tide = c.tide := rfl
@[simp] theorem Channel.setItem_offset (c : Channel) (x : Item) : (c.setItem x).offset = c.offset := rfl
@[simp] theorem Channel.setItem_aligned (c : Channel) (x : Item) : (c.setItem x).aligned = c.aligned := rfl
@[simp] theorem Channel.setItem_alignAt (c : Channel) (x : Item) : (c.setItem x).alignAt = c.alignAt := rfl
@[simp] theorem Channel.setItem_start (c : Channel) (x : Item) : (c.setItem x).start = c.start := rfl
@[simp] theorem Channel.setItem_flash (c : Channel) (x : Item) : (c.setItem x).flash = c.flash := rfl
@[simp] theorem Channel.setItem_fuses (c : Channel) (x : Item) : (c.setItem x).fuses = c.fuses := rfl
@[simp] theorem Channel.setItem_island (c : Channel) (x : Item) : (c.setItem x).island = c.island := rfl
@[simp] theorem Channel.setItem_tamper (c : Channel) (x : Item) : (c.setItem x).tamper = c.tamper := rfl
@[simp] theorem Channel.setItem_thermal (c : Channel) (x : Item) : (c.setItem x).thermal = c.thermal := rfl
@[simp] theorem Channel.setItem_health (c : Channel) (x : Item) : (c.setItem x).health = c.health := rfl
@[simp] theorem Channel.setItem_records (c : Channel) (x : Item) : (c.setItem x).records = c.records := rfl
@[simp] theorem Channel.setItem_journal (c : Channel) (x : Item) : (c.setItem x).journal = c.journal := rfl
@[simp] theorem Channel.setItem_refill (c : Channel) (x : Item) : (c.setItem x).refill = c.refill := rfl
@[simp] theorem Channel.setItem_sluice (c : Channel) (x : Item) : (c.setItem x).sluice = c.sluice := rfl
@[simp] theorem Channel.setItem_sluiceRetry (c : Channel) (x : Item) : (c.setItem x).sluiceRetry = c.sluiceRetry := rfl
@[simp] theorem Channel.setItem_link (c : Channel) (x : Item) : (c.setItem x).link = c.link := rfl
@[simp] theorem Channel.setItem_skim (c : Channel) (x : Item) : (c.setItem x).skim = c.skim := rfl
@[simp] theorem Channel.setItem_rakes (c : Channel) (x : Item) : (c.setItem x).rakes = c.rakes := rfl
@[simp] theorem Channel.setItem_digests (c : Channel) (x : Item) : (c.setItem x).digests = c.digests := rfl
@[simp] theorem Channel.setItem_pks (c : Channel) (x : Item) : (c.setItem x).pks = c.pks := rfl
@[simp] theorem Channel.setItem_keys (c : Channel) (x : Item) : (c.setItem x).keys = c.keys := rfl
@[simp] theorem Channel.setItem_rng (c : Channel) (x : Item) : (c.setItem x).rng = c.rng := rfl
@[simp] theorem Channel.setItem_faults (c : Channel) (x : Item) : (c.setItem x).faults = c.faults := rfl
@[simp] theorem Channel.setItem_events (c : Channel) (x : Item) : (c.setItem x).events = c.events := rfl
@[simp] theorem Channel.setItem_writersDone (c : Channel) (x : Item) : (c.setItem x).writersDone = c.writersDone := rfl
@[simp] theorem Channel.setItem_resetList (c : Channel) (x : Item) : (c.setItem x).resetList = c.resetList := rfl
@[simp] theorem Channel.setItem_resetting (c : Channel) (x : Item) : (c.setItem x).resetting = c.resetting := rfl
@[simp] theorem Channel.setItem_fence (c : Channel) (x : Item) : (c.setItem x).fence = c.fence := rfl
@[simp] theorem Channel.setItem_draining (c : Channel) (x : Item) : (c.setItem x).draining = c.draining := rfl
@[simp] theorem Channel.setItem_resetOrder (c : Channel) (x : Item) : (c.setItem x).resetOrder = c.resetOrder := rfl

/-! ### The generator -/

@[simp] theorem Channel.mapRng_rng (c : Channel) (f : Rng → Rng) : (c.mapRng f).rng = f c.rng := rfl
@[simp] theorem Channel.mapRng_side (c : Channel) (f : Rng → Rng) : (c.mapRng f).side = c.side := rfl
@[simp] theorem Channel.mapRng_tide (c : Channel) (f : Rng → Rng) : (c.mapRng f).tide = c.tide := rfl
@[simp] theorem Channel.mapRng_offset (c : Channel) (f : Rng → Rng) : (c.mapRng f).offset = c.offset := rfl
@[simp] theorem Channel.mapRng_aligned (c : Channel) (f : Rng → Rng) : (c.mapRng f).aligned = c.aligned := rfl
@[simp] theorem Channel.mapRng_alignAt (c : Channel) (f : Rng → Rng) : (c.mapRng f).alignAt = c.alignAt := rfl
@[simp] theorem Channel.mapRng_start (c : Channel) (f : Rng → Rng) : (c.mapRng f).start = c.start := rfl
@[simp] theorem Channel.mapRng_flash (c : Channel) (f : Rng → Rng) : (c.mapRng f).flash = c.flash := rfl
@[simp] theorem Channel.mapRng_fuses (c : Channel) (f : Rng → Rng) : (c.mapRng f).fuses = c.fuses := rfl
@[simp] theorem Channel.mapRng_island (c : Channel) (f : Rng → Rng) : (c.mapRng f).island = c.island := rfl
@[simp] theorem Channel.mapRng_tamper (c : Channel) (f : Rng → Rng) : (c.mapRng f).tamper = c.tamper := rfl
@[simp] theorem Channel.mapRng_thermal (c : Channel) (f : Rng → Rng) : (c.mapRng f).thermal = c.thermal := rfl
@[simp] theorem Channel.mapRng_health (c : Channel) (f : Rng → Rng) : (c.mapRng f).health = c.health := rfl
@[simp] theorem Channel.mapRng_records (c : Channel) (f : Rng → Rng) : (c.mapRng f).records = c.records := rfl
@[simp] theorem Channel.mapRng_journal (c : Channel) (f : Rng → Rng) : (c.mapRng f).journal = c.journal := rfl
@[simp] theorem Channel.mapRng_refill (c : Channel) (f : Rng → Rng) : (c.mapRng f).refill = c.refill := rfl
@[simp] theorem Channel.mapRng_sluice (c : Channel) (f : Rng → Rng) : (c.mapRng f).sluice = c.sluice := rfl
@[simp] theorem Channel.mapRng_sluiceRetry (c : Channel) (f : Rng → Rng) : (c.mapRng f).sluiceRetry = c.sluiceRetry := rfl
@[simp] theorem Channel.mapRng_link (c : Channel) (f : Rng → Rng) : (c.mapRng f).link = c.link := rfl
@[simp] theorem Channel.mapRng_sched (c : Channel) (f : Rng → Rng) : (c.mapRng f).sched = c.sched := rfl
@[simp] theorem Channel.mapRng_skim (c : Channel) (f : Rng → Rng) : (c.mapRng f).skim = c.skim := rfl
@[simp] theorem Channel.mapRng_rakes (c : Channel) (f : Rng → Rng) : (c.mapRng f).rakes = c.rakes := rfl
@[simp] theorem Channel.mapRng_digests (c : Channel) (f : Rng → Rng) : (c.mapRng f).digests = c.digests := rfl
@[simp] theorem Channel.mapRng_pks (c : Channel) (f : Rng → Rng) : (c.mapRng f).pks = c.pks := rfl
@[simp] theorem Channel.mapRng_keys (c : Channel) (f : Rng → Rng) : (c.mapRng f).keys = c.keys := rfl
@[simp] theorem Channel.mapRng_faults (c : Channel) (f : Rng → Rng) : (c.mapRng f).faults = c.faults := rfl
@[simp] theorem Channel.mapRng_events (c : Channel) (f : Rng → Rng) : (c.mapRng f).events = c.events := rfl
@[simp] theorem Channel.mapRng_writersDone (c : Channel) (f : Rng → Rng) : (c.mapRng f).writersDone = c.writersDone := rfl
@[simp] theorem Channel.mapRng_resetList (c : Channel) (f : Rng → Rng) : (c.mapRng f).resetList = c.resetList := rfl
@[simp] theorem Channel.mapRng_resetting (c : Channel) (f : Rng → Rng) : (c.mapRng f).resetting = c.resetting := rfl
@[simp] theorem Channel.mapRng_fence (c : Channel) (f : Rng → Rng) : (c.mapRng f).fence = c.fence := rfl
@[simp] theorem Channel.mapRng_draining (c : Channel) (f : Rng → Rng) : (c.mapRng f).draining = c.draining := rfl
@[simp] theorem Channel.mapRng_resetOrder (c : Channel) (f : Rng → Rng) : (c.mapRng f).resetOrder = c.resetOrder := rfl

end Sys2Proof.Machine
end

