-- ==== Sys2Proof/Laws/Maps.lean ====
section
/-! SUPPORT. The laws of sparse maps: what a write changes, and that every operation keeps the canonical form. -/

namespace Sys2Proof

variable {α : Type}

theorem SMap.erase_nil (k : Nat) : SMap.erase ([] : SMap α) k = [] := rfl

theorem SMap.erase_cons (k j : Nat) (v : α) (m : SMap α) :
    SMap.erase ((j, v) :: m) k = if j = k then SMap.erase m k else (j, v) :: SMap.erase m k := by
  by_cases h : j = k <;> simp [SMap.erase, h]

/-- An erased key reads as the default. -/
theorem SMap.get_erase_same (d : α) (m : SMap α) (k : Nat) : SMap.get d (SMap.erase m k) k = d := by
  induction m with
  | nil => rfl
  | cons p m ih => obtain ⟨j, v⟩ := p; rw [SMap.erase_cons]; split <;> simp_all [SMap.get]

/-- Erasing one key leaves every other as it was. -/
theorem SMap.get_erase_other (d : α) (m : SMap α) {k i : Nat} (h : i ≠ k) :
    SMap.get d (SMap.erase m k) i = SMap.get d m i := by
  induction m with
  | nil => rfl
  | cons p m ih =>
    obtain ⟨j, v⟩ := p
    rw [SMap.erase_cons]
    by_cases hj : j = k
    · rw [if_pos hj, ih, SMap.get, if_neg (by omega)]
    · rw [if_neg hj]; simp only [SMap.get, ih]

/-- An inserted key reads as what was inserted, where it was not listed before. -/
theorem SMap.get_insert_same (d : α) (m : SMap α) (k : Nat) (v : α) :
    SMap.get d (SMap.insert (SMap.erase m k) k v) k = v := by
  have : ∀ m : SMap α, (∀ p ∈ m, p.1 ≠ k) → SMap.get d (SMap.insert m k v) k = v := by
    intro m
    induction m with
    | nil => intro _; simp [SMap.insert, SMap.get]
    | cons p m ih =>
      obtain ⟨j, w⟩ := p
      intro h
      have hj : j ≠ k := h (j, w) (by simp)
      have := ih (fun q hq => h q (by simp [hq]))
      simp only [SMap.insert]
      split
      · simp [SMap.get]
      · rw [if_neg (by omega), SMap.get, if_neg hj, this]
  exact this _ (fun p hp => by simp [SMap.erase] at hp; exact hp.2)

/-- Inserting one key leaves every other as it was. -/
theorem SMap.get_insert_other (d : α) (m : SMap α) {k i : Nat} (v : α) (h : i ≠ k) :
    SMap.get d (SMap.insert m k v) i = SMap.get d m i := by
  induction m with
  | nil => simp [SMap.insert, SMap.get, h.symm]
  | cons p m ih =>
    obtain ⟨j, w⟩ := p
    simp only [SMap.insert]
    split
    · simp [SMap.get, h.symm]
    · split
      · rename_i _ he; subst he; simp [SMap.get, h.symm]
      · simp only [SMap.get, ih]

/-- A read after a write to the same key gives what was written. -/
@[simp] theorem SMap.get_set_same [DecidableEq α] (d : α) (m : SMap α) (k : Nat) (v : α) :
    SMap.get d (SMap.set d m k v) k = v := by
  unfold SMap.set
  split
  · rename_i h; rw [SMap.get_erase_same, h]
  · exact SMap.get_insert_same d m k v

/-- A write leaves every other key as it was. -/
theorem SMap.get_set_other [DecidableEq α] (d : α) (m : SMap α) {k i : Nat} (v : α) (h : i ≠ k) :
    SMap.get d (SMap.set d m k v) i = SMap.get d m i := by
  unfold SMap.set
  split
  · exact SMap.get_erase_other d m h
  · rw [SMap.get_insert_other d _ v h, SMap.get_erase_other d m h]

/-! ### The canonical form -/

theorem SMap.sorted_iff (m : SMap α) : SMap.sorted m = true ↔ m.Pairwise (fun p q => p.1 < q.1) := by
  induction m with
  | nil => simp [SMap.sorted]
  | cons p m ih =>
    obtain ⟨j, v⟩ := p
    cases m with
    | nil => simp [SMap.sorted]
    | cons q m =>
      obtain ⟨k, w⟩ := q
      simp only [SMap.sorted, Bool.and_eq_true, decide_eq_true_eq, ih, List.pairwise_cons, List.mem_cons, forall_eq_or_imp]
      constructor
      · rintro ⟨a, b, c⟩; exact ⟨⟨a, fun r hr => Nat.lt_trans a (b r hr)⟩, b, c⟩
      · rintro ⟨⟨a, _⟩, b, c⟩; exact ⟨a, b, c⟩

/-- The canonical form as a property of the listed pairs. -/
theorem SMap.wf_iff [DecidableEq α] (d : α) (m : SMap α) :
    SMap.wf d m = true ↔ m.Pairwise (fun p q => p.1 < q.1) ∧ ∀ p ∈ m, p.2 ≠ d := by
  simp [SMap.wf, SMap.sorted_iff]

@[simp] theorem SMap.wf_nil [DecidableEq α] (d : α) : SMap.wf d ([] : SMap α) = true := rfl

/-- Dropping listed pairs keeps the canonical form. -/
theorem SMap.wf_filter [DecidableEq α] {d : α} {m : SMap α} (f : Nat × α → Bool) (h : SMap.wf d m = true) :
    SMap.wf d (m.filter f) = true := by
  rw [SMap.wf_iff] at *
  exact ⟨h.1.filter _, fun p hp => h.2 p (List.mem_of_mem_filter hp)⟩

/-- Erasing a key keeps the canonical form. -/
theorem SMap.wf_erase [DecidableEq α] {d : α} {m : SMap α} (k : Nat) (h : SMap.wf d m = true) :
    SMap.wf d (SMap.erase m k) = true := SMap.wf_filter _ h

theorem SMap.mem_insert {m : SMap α} {k : Nat} {v : α} {p : Nat × α} (h : p ∈ SMap.insert m k v) :
    p = (k, v) ∨ p ∈ m := by
  induction m with
  | nil => simpa [SMap.insert] using h
  | cons q m ih =>
    obtain ⟨j, w⟩ := q
    simp only [SMap.insert] at h
    split at h
    · simpa using h
    · split at h
      · simp at h ⊢; tauto
      · simp at h ⊢; rcases h with h | h
        · tauto
        · have := ih h; tauto

/-- Inserting a value that is not the default keeps the canonical form. -/
theorem SMap.wf_insert [DecidableEq α] {d : α} {m : SMap α} {k : Nat} {v : α} (hv : v ≠ d) (h : SMap.wf d m = true) :
    SMap.wf d (SMap.insert m k v) = true := by
  rw [SMap.wf_iff] at *
  refine ⟨?_, fun p hp => ?_⟩
  · obtain ⟨h, -⟩ := h
    induction m with
    | nil => simp [SMap.insert]
    | cons q m ih =>
      obtain ⟨j, w⟩ := q
      rw [List.pairwise_cons] at h
      simp only [SMap.insert]
      split
      · rename_i hlt
        rw [List.pairwise_cons, List.pairwise_cons]
        refine ⟨fun p hp => ?_, h⟩
        rcases List.mem_cons.1 hp with rfl | hp
        · exact hlt
        · exact Nat.lt_trans hlt (h.1 p hp)
      · split
        · rename_i _ he; subst he; rw [List.pairwise_cons]; exact ⟨h.1, h.2⟩
        · rw [List.pairwise_cons]
          refine ⟨fun p hp => ?_, ih h.2⟩
          rcases SMap.mem_insert hp with rfl | hp
          · show j < k; omega
          · exact h.1 p hp
  · rcases SMap.mem_insert hp with rfl | hp
    · exact hv
    · exact h.2 p hp

/-- A write keeps the canonical form. -/
theorem SMap.wf_set [DecidableEq α] {d : α} {m : SMap α} (k : Nat) (v : α) (h : SMap.wf d m = true) :
    SMap.wf d (SMap.set d m k v) = true := by
  unfold SMap.set
  split
  · exact SMap.wf_erase k h
  · rename_i hv; exact SMap.wf_insert hv (SMap.wf_erase k h)

end Sys2Proof
end

