-- ==== Sys2Proof/Laws/Records.lean ====
section
/-! SUPPORT. Lengths of AES blocks, CMACs and counter-mode runs, and the round trip of a sealed data key's record: what
sealRecord seals, openRecord opens (R251, R252, R256). -/

namespace Sys2Proof

theorem xorB_length (a b : Bytes) : (xorB a b).length = min a.length b.length := by simp [xorB]
theorem xorB_xorB (a b : Bytes) (h : a.length ≤ b.length) : xorB (xorB a b) b = a := by
  induction a generalizing b with
  | nil => simp [xorB]
  | cons x a ih => cases b with
    | nil => simp at h
    | cons y b => 
      have := ih b (by simpa using h)
      simp only [xorB, List.zipWith_cons_cons] at *
      rw [this, BitVec.xor_assoc, BitVec.xor_self, BitVec.xor_zero]

theorem aesKeyWord_length (nk i : Nat) (ws : List Bytes) (hp : 0 < nk) (hk : nk ≤ ws.length) (h : ∀ w ∈ ws, w.length = 4) :
    (aesKeyWord nk i ws).length = 4 := by
  have h1 : (ws.headD []).length = 4 := by
    cases ws with
    | nil => simp at hk; omega
    | cons w _ => simpa using h w (by simp)
  have h2 : (ws.getD (nk - 1) []).length = 4 := by
    rw [List.getD_eq_getElem _ _ (by omega)]; exact h _ (List.getElem_mem _)
  unfold aesKeyWord
  dsimp only
  split
  · simp [xorB_length] at *; omega
  · split <;> simp [xorB_length] at * <;> omega

theorem aesExpand_words (nk n i : Nat) (ws : List Bytes) (hp : 0 < nk) (hk : nk ≤ ws.length) (h : ∀ w ∈ ws, w.length = 4) :
    (aesExpand nk n i ws).length = ws.length + n ∧ ∀ w ∈ aesExpand nk n i ws, w.length = 4 := by
  induction n generalizing i ws with
  | zero => exact ⟨rfl, h⟩
  | succ n ih =>
    have := ih (i + 1) (aesKeyWord nk i ws :: ws) (by simp; omega) (by
      intro w hw
      rcases List.mem_cons.1 hw with rfl | hw
      · exact aesKeyWord_length nk i ws hp hk h
      · exact h w hw)
    simpa [aesExpand, Nat.add_assoc, Nat.add_comm, Nat.add_left_comm] using this

theorem chunksAux_exact (n : Nat) (hn : 0 < n) (m f : Nat) (bs : Bytes) (hb : bs.length = n * m) (hf : m ≤ f) :
    (chunksAux n f bs).length = m ∧ ∀ w ∈ chunksAux n f bs, w.length = n := by
  induction m generalizing f bs with
  | zero =>
    have : bs = [] := List.eq_nil_of_length_eq_zero (by simpa using hb)
    subst this
    cases f <;> simp [chunksAux]
  | succ m ih =>
    obtain ⟨f, rfl⟩ : ∃ g, f = g + 1 := ⟨f - 1, by omega⟩
    have hl : bs.length = n + n * m := by rw [hb]; ring
    have he : bs.isEmpty = false := by
      cases bs with
      | nil => simp at hl; omega
      | cons => rfl
    have := ih f (bs.drop n) (by simp [hl]) (by omega)
    simp only [chunksAux, he, Bool.false_eq_true, if_false, List.length_cons, List.mem_cons, this.1, true_and]
    rintro w (rfl | hw)
    · simp [hl]
    · exact this.2 w hw

theorem chunks_exact (n : Nat) (hn : 0 < n) (m : Nat) (bs : Bytes) (hb : bs.length = n * m) :
    (chunks n bs).length = m ∧ ∀ w ∈ chunks n bs, w.length = n :=
  chunksAux_exact n hn m _ bs hb (by rw [hb]; exact Nat.le_mul_of_pos_left m hn)

/-- The round keys of a 32-byte key: 15 of 16 bytes. -/
theorem aesRoundKeys_256 (key : Bytes) (h : key.length = 32) :
    (aesRoundKeys key).length = 15 ∧ ∀ w ∈ aesRoundKeys key, w.length = 16 := by
  have hc := chunks_exact 4 (by omega) 8 key (by omega)
  have he := aesExpand_words 8 52 8 (chunks 4 key).reverse (by omega) (by simp [hc.1]) (by simpa using hc.2)
  have hf : (aesExpand 8 52 8 (chunks 4 key).reverse).reverse.flatten.length = 16 * 15 := by
    rw [List.length_flatten, List.map_reverse, List.sum_reverse]
    rw [List.map_congr_left he.2]
    simp [he.1, hc.1]
  have := chunks_exact 16 (by omega) 15 _ hf
  simpa [aesRoundKeys, h] using this

theorem aesEnc_length (key blk : Bytes) (h : key.length = 32) : (aesEnc key blk).length = 16 := by
  have hr := aesRoundKeys_256 key h
  unfold aesEnc
  split
  · next e => simp [e] at hr
  · next k0 ks e =>
    rw [e] at hr
    have : ks ≠ [] := by rintro rfl; simp at hr
    rw [List.getLastD_eq_getLast? , List.getLast?_eq_some_getLast this]
    have := hr.2 (ks.getLast this) (by simp)
    simp [xorB_length, aesShift, this]

theorem foldl_length {n : Nat} (g : Bytes → Bytes → Bytes) (hg : ∀ a b, (g a b).length = n) (l : List Bytes) (z : Bytes) (hz : z.length = n) :
    (l.foldl g z).length = n := by
  induction l generalizing z with
  | nil => exact hz
  | cons b l ih => exact ih _ (hg z b)

/-- AES-CMAC gives a whole block. -/
theorem aesCmac_length (key msg : Bytes) (h : key.length = 32) : (aesCmac key msg).length = 16 :=
  foldl_length _ (fun _ _ => aesEnc_length key _ h) _ _ (by simp [aesCipher, zeros])

theorem chunks_two (d : Bytes) (h : d.length = 32) : chunks 16 d = [d.take 16, d.drop 16] := by
  have e : ∀ b : Bytes, 0 < b.length → b.isEmpty = false := fun b hb => by cases b <;> simp_all
  have h1 := e d (by omega)
  have h2 := e (d.drop 16) (by simp; omega)
  have h3 : d.drop 32 = [] := by simp [h]
  simp [chunks, h, chunksAux, h1, h2, h3, List.take_of_length_le]

theorem ctrRun_two (c : BlockCipher) (f : Bytes → Nat → Bytes) (b d : Bytes) (hc : c.size = 16) (h : d.length = 32) :
    ctrRun c f b d = xorB (d.take 16) (c.enc (f b 0)) ++ xorB (d.drop 16) (c.enc (f b 1)) := by
  simp [ctrRun, hc, chunks_two d h, List.range_succ]

theorem ctrRun_two_length (c : BlockCipher) (f : Bytes → Nat → Bytes) (b d : Bytes) (hc : c.size = 16) (he : ∀ x, (c.enc x).length = 16)
    (h : d.length = 32) : (ctrRun c f b d).length = 32 := by
  simp [ctrRun_two c f b d hc h, xorB_length, he, h]

/-- Counter mode twice over two blocks gives the data again. -/
theorem ctrRun_ctrRun (c : BlockCipher) (f : Bytes → Nat → Bytes) (b d : Bytes) (hc : c.size = 16) (he : ∀ x, (c.enc x).length = 16)
    (h : d.length = 32) : ctrRun c f b (ctrRun c f b d) = d := by
  rw [ctrRun_two c f b _ hc (ctrRun_two_length c f b d hc he h), ctrRun_two c f b d hc h]
  have l0 : (xorB (d.take 16) (c.enc (f b 0))).length = 16 := by simp [xorB_length, he, h]
  rw [List.take_left' l0, List.drop_left' l0, xorB_xorB, xorB_xorB] <;> simp [he, h]

theorem kdfCtrCmac_length (key l : Bytes) (h : key.length = 32) : (kdfCtrCmac key l 32).length = 32 := by
  simp [kdfCtrCmac, aesCmac_length _ _ h, ceilDiv]

theorem slice_at {a b : Bytes} (x : Bytes) {o k : Nat} (ho : a.length = o) (hk : x.length = k) : slice (a ++ (x ++ b)) o k = x := by
  subst ho; subst hk
  simp [slice, zeros]

/-- A record of a data key, sealed under keys of 32 bytes, opens to what was sealed (R251, R252, R256). -/
theorem openRecord_sealRecord (k vol : SealKeys) (slot : Nat) (h : KeyHeader) (t : Tally) (m chk : Bytes)
    (hd : h.hasTally = true) (hv : h.isVolatile = false) (hs : h.state = 1#2) (hc : h.cls ≠ 3#2) (hx : h.exportability ≠ 3#2)
    (hh : ∀ x, KeyHeader.ofBytes (h.bytes ++ x) = h) (ht : Tally.ofBytes t.bytes = t) (hl : t.bytes.length = 32)
    (ke : k.enc.length = 32) (ki : k.siv.length = 32) (km : k.mac.length = 32) (hm : m.length = 32) (hk : chk.length = 16)
    (hb : ∀ x, recBlank (h.bytes ++ x) = false) :
    openRecord k vol slot (sealRecord k slot h t m chk) = .loaded h t m chk := by
  have hlen : h.bytes.length = 16 := by simp [KeyHeader.bytes, leBytes]
  have sl : h.sealLen = 32 := by simp [KeyHeader.sealLen, hd]
  have fm : fitR 32 m = m := by simp [fitR, zeros, hm]
  generalize hsiv : aesCmac k.siv (slotBytes slot ++ h.bytes ++ m ++ chk) = siv
  have sivl : siv.length = 16 := by rw [← hsiv]; exact aesCmac_length _ _ ki
  generalize hct : ctrRun (aesCipher k.enc) ctr32 siv m = ct
  have he : ∀ x, ((aesCipher k.enc).enc x).length = 16 := fun x => aesEnc_length _ _ ke
  have ctl : ct.length = 32 := by rw [← hct]; exact ctrRun_two_length _ _ _ _ rfl he hm
  have dec : ctrRun (aesCipher k.enc) ctr32 siv ct = m := by rw [← hct]; exact ctrRun_ctrRun _ _ _ _ rfl he hm
  have e : sealRecord k slot h t m chk = h.bytes ++ (ct ++ (t.bytes ++ (chk ++ (siv ++
      aesCmac k.mac (slotBytes slot ++ (h.bytes ++ (ct ++ (t.bytes ++ (chk ++ siv))))))))) := by
    unfold sealRecord
    rw [sl, fm]
    dsimp only
    rw [hsiv, hct]
    simp only [hd, if_true, List.append_assoc]
  generalize hmac : aesCmac k.mac (slotBytes slot ++ (h.bytes ++ (ct ++ (t.bytes ++ (chk ++ siv))))) = mac at e
  have macl : mac.length = 16 := by rw [← hmac]; exact aesCmac_length _ _ km
  have s1 : slice (h.bytes ++ (ct ++ (t.bytes ++ (chk ++ (siv ++ mac))))) 16 32 = ct := slice_at _ hlen ctl
  have s2 : slice (h.bytes ++ (ct ++ (t.bytes ++ (chk ++ (siv ++ mac))))) 48 32 = t.bytes := by
    rw [← List.append_assoc]; exact slice_at _ (by simp [hlen, ctl]) hl
  have s3 : slice (h.bytes ++ (ct ++ (t.bytes ++ (chk ++ (siv ++ mac))))) 80 16 = chk := by
    rw [← List.append_assoc, ← List.append_assoc]; exact slice_at _ (by simp [hlen, ctl, hl]) hk
  have s4 : slice (h.bytes ++ (ct ++ (t.bytes ++ (chk ++ (siv ++ mac))))) 96 16 = siv := by
    rw [← List.append_assoc, ← List.append_assoc, ← List.append_assoc]; exact slice_at _ (by simp [hlen, ctl, hl, hk]) sivl
  have s5 : slice (h.bytes ++ (ct ++ (t.bytes ++ (chk ++ (siv ++ mac))))) 112 16 = mac := by
    have := slice_at (a := h.bytes ++ (ct ++ (t.bytes ++ (chk ++ siv)))) (b := []) mac (o := 112) (k := 16) (by simp [hlen, ctl, hl, hk, sivl]) macl
    simpa [List.append_assoc] using this
  have tk : (h.bytes ++ (ct ++ (t.bytes ++ (chk ++ (siv ++ mac))))).take 16 = h.bytes := by simp [← hlen]
  have tk2 : (h.bytes ++ (ct ++ (t.bytes ++ (chk ++ (siv ++ mac))))).take 112 = h.bytes ++ (ct ++ (t.bytes ++ (chk ++ siv))) := by
    have := List.take_left' (l₁ := h.bytes ++ (ct ++ (t.bytes ++ (chk ++ siv)))) (l₂ := mac) (i := 112) (by simp [hlen, ctl, hl, hk, sivl])
    simpa [List.append_assoc] using this
  have ok : recMacOk k slot (h.bytes ++ (ct ++ (t.bytes ++ (chk ++ (siv ++ mac))))) = true := by simp [recMacOk, tk2, s5, hmac]
  rw [e]
  unfold openRecord
  rw [hb, ok, hh]
  dsimp only
  rw [hs, hv, sl, s1, s2, s3, s4, tk]
  simp only [Bool.false_eq_true, if_false]
  rw [dec, hsiv]
  simp [hc, hx, hd, ht]

end Sys2Proof
end

