-- ==== Sys2Proof/Laws/State.lean ====
section
/-! SUPPORT. What the shared updates of the state leave as it was: the channels, the port die, the host side and the
queue under `setChan`, `upd`, `updPort`, `record`, `raise`, `errCause`, `drain` and `finish`. -/

namespace Sys2Proof.Machine

/-! ### Channels and port die -/

@[simp] theorem State.chan_a (s : State) : s.chan .a = s.a := rfl
@[simp] theorem State.chan_b (s : State) : s.chan .b = s.b := rfl
@[simp] theorem State.chan_setChan (s : State) (ch : Chan) (c : Channel) : (s.setChan ch c).chan ch = c := by cases ch <;> rfl
@[simp] theorem State.chan_setChan_peer (s : State) (ch : Chan) (c : Channel) :
    (s.setChan ch c).chan ch.peer = s.chan ch.peer := by cases ch <;> rfl
@[simp] theorem State.chan_upd (s : State) (ch : Chan) (f : Channel → Channel) : (s.upd ch f).chan ch = f (s.chan ch) := by
  cases ch <;> rfl
@[simp] theorem State.chan_upd_peer (s : State) (ch : Chan) (f : Channel → Channel) :
    (s.upd ch f).chan ch.peer = s.chan ch.peer := by cases ch <;> rfl
@[simp] theorem State.upd_a_a (s : State) (f : Channel → Channel) : (s.upd .a f).a = f s.a := rfl
@[simp] theorem State.upd_a_b (s : State) (f : Channel → Channel) : (s.upd .a f).b = s.b := rfl
@[simp] theorem State.upd_b_a (s : State) (f : Channel → Channel) : (s.upd .b f).a = s.a := rfl
@[simp] theorem State.upd_b_b (s : State) (f : Channel → Channel) : (s.upd .b f).b = f s.b := rfl
@[simp] theorem State.setChan_port (s : State) (ch : Chan) (c : Channel) : (s.setChan ch c).port = s.port := by cases ch <;> rfl
@[simp] theorem State.setChan_host (s : State) (ch : Chan) (c : Channel) : (s.setChan ch c).host = s.host := by cases ch <;> rfl
@[simp] theorem State.setChan_pending (s : State) (ch : Chan) (c : Channel) : (s.setChan ch c).pending = s.pending := by
  cases ch <;> rfl
@[simp] theorem State.setChan_free (s : State) (ch : Chan) (c : Channel) : (s.setChan ch c).free = s.free := by cases ch <;> rfl
@[simp] theorem State.upd_port (s : State) (ch : Chan) (f : Channel → Channel) : (s.upd ch f).port = s.port := by cases ch <;> rfl
@[simp] theorem State.upd_host (s : State) (ch : Chan) (f : Channel → Channel) : (s.upd ch f).host = s.host := by cases ch <;> rfl
@[simp] theorem State.upd_pending (s : State) (ch : Chan) (f : Channel → Channel) : (s.upd ch f).pending = s.pending := by
  cases ch <;> rfl
@[simp] theorem State.upd_free (s : State) (ch : Chan) (f : Channel → Channel) : (s.upd ch f).free = s.free := by cases ch <;> rfl
@[simp] theorem State.updPort_port (s : State) (f : PortDie → PortDie) : (s.updPort f).port = f s.port := rfl
@[simp] theorem State.updPort_a (s : State) (f : PortDie → PortDie) : (s.updPort f).a = s.a := rfl
@[simp] theorem State.updPort_b (s : State) (f : PortDie → PortDie) : (s.updPort f).b = s.b := rfl
@[simp] theorem State.updPort_chan (s : State) (f : PortDie → PortDie) (ch : Chan) : (s.updPort f).chan ch = s.chan ch := by
  cases ch <;> rfl
@[simp] theorem State.updPort_host (s : State) (f : PortDie → PortDie) : (s.updPort f).host = s.host := rfl
@[simp] theorem State.updPort_pending (s : State) (f : PortDie → PortDie) : (s.updPort f).pending = s.pending := rfl
@[simp] theorem State.updPort_free (s : State) (f : PortDie → PortDie) : (s.updPort f).free = s.free := rfl
@[simp] theorem Chan.peer_peer (ch : Chan) : ch.peer.peer = ch := by cases ch <;> rfl
theorem Chan.peer_ne (ch : Chan) : ch.peer ≠ ch := by cases ch <;> decide

/-! ### Functions and queues of the port die -/

/-- The fields of the port die that `setFn` leaves. -/
@[simp] theorem PortDie.setFn_queues (p : PortDie) (f : Nat) (x : Fn) : (p.setFn f x).queues = p.queues := rfl
@[simp] theorem PortDie.setFn_outst (p : PortDie) (f : Nat) (x : Fn) : (p.setFn f x).outst = p.outst := rfl
@[simp] theorem PortDie.setFn_assay (p : PortDie) (f : Nat) (x : Fn) : (p.setFn f x).assay = p.assay := rfl
@[simp] theorem PortDie.setFn_page (p : PortDie) (f : Nat) (x : Fn) : (p.setFn f x).page = p.page := rfl
@[simp] theorem PortDie.setFn_tide (p : PortDie) (f : Nat) (x : Fn) : (p.setFn f x).tide = p.tide := rfl
@[simp] theorem PortDie.setFn_offset (p : PortDie) (f : Nat) (x : Fn) : (p.setFn f x).offset = p.offset := rfl
@[simp] theorem PortDie.setFn_qblocks (p : PortDie) (f : Nat) (x : Fn) : (p.setFn f x).qblocks = p.qblocks := rfl
@[simp] theorem PortDie.setFn_tenant (p : PortDie) (f : Nat) (x : Fn) : (p.setFn f x).tenant = p.tenant := rfl
@[simp] theorem PortDie.setQueue_fns (p : PortDie) (q : Nat) (x : QCtx) : (p.setQueue q x).fns = p.fns := rfl
@[simp] theorem PortDie.setQueue_outst (p : PortDie) (q : Nat) (x : QCtx) : (p.setQueue q x).outst = p.outst := rfl
@[simp] theorem PortDie.setQueue_assay (p : PortDie) (q : Nat) (x : QCtx) : (p.setQueue q x).assay = p.assay := rfl
@[simp] theorem PortDie.setQueue_page (p : PortDie) (q : Nat) (x : QCtx) : (p.setQueue q x).page = p.page := rfl
@[simp] theorem PortDie.setQueue_tide (p : PortDie) (q : Nat) (x : QCtx) : (p.setQueue q x).tide = p.tide := rfl
@[simp] theorem PortDie.setQueue_offset (p : PortDie) (q : Nat) (x : QCtx) : (p.setQueue q x).offset = p.offset := rfl
@[simp] theorem PortDie.setQueue_qblocks (p : PortDie) (q : Nat) (x : QCtx) : (p.setQueue q x).qblocks = p.qblocks := rfl
@[simp] theorem PortDie.setQueue_tenant (p : PortDie) (q : Nat) (x : QCtx) : (p.setQueue q x).tenant = p.tenant := rfl

/-! ### Events -/

/-- Everything `record` can do: it changes the recorder, and of the management port the alerts. -/
theorem PortDie.record_eq (p : PortDie) (code v : Nat) :
    ∃ r n o, p.record code v = { p with recorder := r, mgmt := { p.mgmt with alertsSent := n, out := o } } := by
  unfold PortDie.record Mgmt.alert
  dsimp only
  split <;> split <;> (try split) <;> (try split) <;> exact ⟨_, _, _, rfl⟩

/-- Everything a list of recorded events can do. -/
theorem PortDie.records_eq (p : PortDie) (l : List (Nat × Nat)) :
    ∃ r n o, l.foldl (fun p e => p.record e.1 e.2) p = { p with recorder := r, mgmt := { p.mgmt with alertsSent := n, out := o } } := by
  induction l generalizing p with
  | nil => exact ⟨p.recorder, p.mgmt.alertsSent, p.mgmt.out, rfl⟩
  | cons e l ih =>
    obtain ⟨r, n, o, h⟩ := p.record_eq e.1 e.2
    obtain ⟨r', n', o', h'⟩ := ih (p.record e.1 e.2)
    exact ⟨r', n', o', by rw [List.foldl_cons, h', h]⟩

/-- Everything `drain` does. -/
theorem State.drain_eq (s : State) :
    ∃ r n o, s.drain = { s with
      port := { s.port with recorder := r, mgmt := { s.port.mgmt with alertsSent := n, out := o } }
      a := { s.a with events := [] }, b := { s.b with events := [] } } := by
  obtain ⟨r, n, o, h⟩ := s.port.records_eq s.a.events
  obtain ⟨r', n', o', h'⟩ := (s.a.events.foldl (fun p e => p.record e.1 e.2) s.port).records_eq s.b.events
  have e : s.drain = { s with
      port := s.b.events.foldl (fun p e => p.record e.1 e.2) (s.a.events.foldl (fun p e => p.record e.1 e.2) s.port)
      a := { s.a with events := [] }, b := { s.b with events := [] } } := rfl
  exact ⟨r', n', o', by rw [e, h', h]⟩

/-- Everything `raise` can do: it changes the pending bits and the sent messages. -/
theorem State.raise_eq (s : State) (f v : Nat) : ∃ p l, s.raise f v = { s with host := { s.host with pba := p, sent := l } } := by
  unfold State.raise
  split
  · exact ⟨s.host.pba, s.host.sent, rfl⟩
  · split <;> exact ⟨_, _, rfl⟩

/-- Everything `errCause` can do: it changes the global page, the pending bits and the sent messages. -/
theorem State.errCause_eq (s : State) (e : ErrCause) :
    ∃ g p l, s.errCause e = { s with port := { s.port with page := g }, host := { s.host with pba := p, sent := l } } := by
  unfold State.errCause State.raiseError
  dsimp only
  split
  · exact ⟨_, _, _, rfl⟩
  · split
    · obtain ⟨p, l, h⟩ := State.raise_eq (s.updPort (fun p => { p with page := p.page.setCause e })) 0
        ((s.updPort (fun p => { p with page := p.page.setCause e })).port.fn 0).cfg.errVector.toNat
      exact ⟨_, p, l, h⟩
    · exact ⟨_, _, _, rfl⟩

/-- Everything `devEvent` can do. -/
theorem State.devEvent_eq (s : State) (f : Global → Global) :
    ∃ g p l, s.devEvent f = { s with port := { s.port with page := g }, host := { s.host with pba := p, sent := l } } := by
  obtain ⟨g, p, l, h⟩ := State.errCause_eq (s.updPort (fun p => { p with page := f p.page })) .devEvent
  exact ⟨g, p, l, h⟩

/-- A device event or none. -/
theorem State.devEventIf_eq (s : State) (b : Prop) [Decidable b] (f : Global → Global) :
    ∃ g p l, (if b then s.devEvent f else s)
      = { s with port := { s.port with page := g }, host := { s.host with pba := p, sent := l } } := by
  split
  · exact s.devEvent_eq f
  · exact ⟨_, _, _, rfl⟩

/-- Everything `noteStatus` can do. -/
theorem State.noteStatus_eq (s old : State) :
    ∃ g p l, s.noteStatus old = { s with port := { s.port with page := g }, host := { s.host with pba := p, sent := l } } := by
  unfold State.noteStatus
  dsimp only
  obtain ⟨g1, p1, l1, h1⟩ := s.devEventIf_eq (((s.devState == 1 || s.devState == 2) && old.devState == 0) = true) (fun g => { g with evReadyUp := true })
  rw [h1]
  generalize hs1 : ({ s with port := { s.port with page := g1 }, host := { s.host with pba := p1, sent := l1 } } : State) = s1
  obtain ⟨g2, p2, l2, h2⟩ := s1.devEventIf_eq ((s.devState == 2 && old.devState != 2) = true) (fun g => { g with evTwinUp := true })
  rw [h2]
  generalize hs2 : ({ s1 with port := { s1.port with page := g2 }, host := { s1.host with pba := p2, sent := l2 } } : State) = s2
  obtain ⟨g3, p3, l3, h3⟩ := s2.devEventIf_eq ((old.devState == 2 && s.devState != 2) = true) (fun g => { g with evTwinDown := true })
  rw [h3]
  generalize hs3 : ({ s2 with port := { s2.port with page := g3 }, host := { s2.host with pba := p3, sent := l3 } } : State) = s3
  obtain ⟨g4, p4, l4, h4⟩ := s3.devEventIf_eq (((s.devState == 0 || s.devState == 4) && old.devState != s.devState) = true)
    (fun g => { g with evNotReady := true })
  rw [h4]
  generalize hs4 : ({ s3 with port := { s3.port with page := g4 }, host := { s3.host with pba := p4, sent := l4 } } : State) = s4
  obtain ⟨g5, p5, l5, h5⟩ := s4.devEventIf_eq ((s.devState == 3 && old.devState != 3) = true) (fun g => { g with evBlank := true })
  rw [h5]
  generalize hs5 : ({ s4 with port := { s4.port with page := g5 }, host := { s4.host with pba := p5, sent := l5 } } : State) = s5
  obtain ⟨g6, p6, l6, h6⟩ := s5.devEventIf_eq ((s5.ebb != old.ebb) = true) (fun g => { g with evEbb := true })
  rw [h6]
  subst hs5 hs4 hs3 hs2 hs1
  exact ⟨g6, p6, l6, rfl⟩

/-! ### The end of a meaning -/

/-- Everything `finish` does: the channels' events are gone; of the port die only the recorder, the alerts and the global
page, and of the host side only the pending bits and the sent messages, can differ. -/
theorem State.finish_eq (old s : State) :
    ∃ r n o g p l, old.finish s = { s with
      port := { s.port with recorder := r, page := g, mgmt := { s.port.mgmt with alertsSent := n, out := o } }
      a := { s.a with events := [] }, b := { s.b with events := [] }
      host := { s.host with pba := p, sent := l } } := by
  obtain ⟨r, n, o, h⟩ := s.drain_eq
  obtain ⟨g, p, l, h'⟩ := (s.drain).noteStatus_eq old
  exact ⟨r, n, o, g, p, l, by unfold State.finish; rw [h', h]⟩

@[simp] theorem State.finish_pending (old s : State) : (old.finish s).pending = s.pending := by
  obtain ⟨r, n, o, g, p, l, h⟩ := old.finish_eq s; rw [h]
@[simp] theorem State.finish_free (old s : State) : (old.finish s).free = s.free := by
  obtain ⟨r, n, o, g, p, l, h⟩ := old.finish_eq s; rw [h]
@[simp] theorem State.finish_a (old s : State) : (old.finish s).a = { s.a with events := [] } := by
  obtain ⟨r, n, o, g, p, l, h⟩ := old.finish_eq s; rw [h]
@[simp] theorem State.finish_b (old s : State) : (old.finish s).b = { s.b with events := [] } := by
  obtain ⟨r, n, o, g, p, l, h⟩ := old.finish_eq s; rw [h]
@[simp] theorem State.finish_chan (old s : State) (ch : Chan) :
    (old.finish s).chan ch = { s.chan ch with events := [] } := by
  cases ch <;> simp
@[simp] theorem State.finish_lines (old s : State) : (old.finish s).host.lines = s.host.lines := by
  obtain ⟨r, n, o, g, p, l, h⟩ := old.finish_eq s; rw [h]
@[simp] theorem State.finish_table (old s : State) : (old.finish s).host.table = s.host.table := by
  obtain ⟨r, n, o, g, p, l, h⟩ := old.finish_eq s; rw [h]
@[simp] theorem State.finish_readData (old s : State) : (old.finish s).host.readData = s.host.readData := by
  obtain ⟨r, n, o, g, p, l, h⟩ := old.finish_eq s; rw [h]
@[simp] theorem State.finish_port_start (old s : State) : (old.finish s).port.start = s.port.start := by
  obtain ⟨r, n, o, g, p, l, h⟩ := old.finish_eq s; rw [h]
@[simp] theorem State.finish_port_tide (old s : State) : (old.finish s).port.tide = s.port.tide := by
  obtain ⟨r, n, o, g, p, l, h⟩ := old.finish_eq s; rw [h]
@[simp] theorem State.finish_port_offset (old s : State) : (old.finish s).port.offset = s.port.offset := by
  obtain ⟨r, n, o, g, p, l, h⟩ := old.finish_eq s; rw [h]
@[simp] theorem State.finish_port_tides (old s : State) : (old.finish s).port.tides = s.port.tides := by
  obtain ⟨r, n, o, g, p, l, h⟩ := old.finish_eq s; rw [h]
@[simp] theorem State.finish_port_tenant (old s : State) : (old.finish s).port.tenant = s.port.tenant := by
  obtain ⟨r, n, o, g, p, l, h⟩ := old.finish_eq s; rw [h]
@[simp] theorem State.finish_port_assay (old s : State) : (old.finish s).port.assay = s.port.assay := by
  obtain ⟨r, n, o, g, p, l, h⟩ := old.finish_eq s; rw [h]
@[simp] theorem State.finish_port_fns (old s : State) : (old.finish s).port.fns = s.port.fns := by
  obtain ⟨r, n, o, g, p, l, h⟩ := old.finish_eq s; rw [h]
@[simp] theorem State.finish_port_queues (old s : State) : (old.finish s).port.queues = s.port.queues := by
  obtain ⟨r, n, o, g, p, l, h⟩ := old.finish_eq s; rw [h]
@[simp] theorem State.finish_port_qblocks (old s : State) : (old.finish s).port.qblocks = s.port.qblocks := by
  obtain ⟨r, n, o, g, p, l, h⟩ := old.finish_eq s; rw [h]
@[simp] theorem State.finish_port_commits (old s : State) : (old.finish s).port.commits = s.port.commits := by
  obtain ⟨r, n, o, g, p, l, h⟩ := old.finish_eq s; rw [h]
@[simp] theorem State.finish_port_kept (old s : State) : (old.finish s).port.kept = s.port.kept := by
  obtain ⟨r, n, o, g, p, l, h⟩ := old.finish_eq s; rw [h]
@[simp] theorem State.finish_port_sriov (old s : State) : (old.finish s).port.sriov = s.port.sriov := by
  obtain ⟨r, n, o, g, p, l, h⟩ := old.finish_eq s; rw [h]
@[simp] theorem State.finish_port_linkIde (old s : State) : (old.finish s).port.linkIde = s.port.linkIde := by
  obtain ⟨r, n, o, g, p, l, h⟩ := old.finish_eq s; rw [h]
@[simp] theorem State.finish_port_credits (old s : State) : (old.finish s).port.credits = s.port.credits := by
  obtain ⟨r, n, o, g, p, l, h⟩ := old.finish_eq s; rw [h]
@[simp] theorem State.finish_port_wipes (old s : State) : (old.finish s).port.wipes = s.port.wipes := by
  obtain ⟨r, n, o, g, p, l, h⟩ := old.finish_eq s; rw [h]
@[simp] theorem State.finish_port_ide (old s : State) : (old.finish s).port.ide = s.port.ide := by
  obtain ⟨r, n, o, g, p, l, h⟩ := old.finish_eq s; rw [h]
@[simp] theorem State.finish_port_waiting (old s : State) : (old.finish s).port.waiting = s.port.waiting := by
  obtain ⟨r, n, o, g, p, l, h⟩ := old.finish_eq s; rw [h]
@[simp] theorem State.finish_port_nextIntake (old s : State) : (old.finish s).port.nextIntake = s.port.nextIntake := by
  obtain ⟨r, n, o, g, p, l, h⟩ := old.finish_eq s; rw [h]
@[simp] theorem State.finish_port_outst (old s : State) : (old.finish s).port.outst = s.port.outst := by
  obtain ⟨r, n, o, g, p, l, h⟩ := old.finish_eq s; rw [h]
@[simp] theorem State.finish_port_released (old s : State) : (old.finish s).port.released = s.port.released := by
  obtain ⟨r, n, o, g, p, l, h⟩ := old.finish_eq s; rw [h]
@[simp] theorem State.finish_port_passing (old s : State) : (old.finish s).port.passing = s.port.passing := by
  obtain ⟨r, n, o, g, p, l, h⟩ := old.finish_eq s; rw [h]
@[simp] theorem State.finish_port_held (old s : State) : (old.finish s).port.held = s.port.held := by
  obtain ⟨r, n, o, g, p, l, h⟩ := old.finish_eq s; rw [h]
@[simp] theorem State.finish_port_resets (old s : State) : (old.finish s).port.resets = s.port.resets := by
  obtain ⟨r, n, o, g, p, l, h⟩ := old.finish_eq s; rw [h]
@[simp] theorem State.finish_port_waits (old s : State) : (old.finish s).port.waits = s.port.waits := by
  obtain ⟨r, n, o, g, p, l, h⟩ := old.finish_eq s; rw [h]
@[simp] theorem State.finish_port_exhaust (old s : State) : (old.finish s).port.exhaust = s.port.exhaust := by
  obtain ⟨r, n, o, g, p, l, h⟩ := old.finish_eq s; rw [h]
@[simp] theorem State.finish_port_epoch (old s : State) : (old.finish s).port.epoch = s.port.epoch := by
  obtain ⟨r, n, o, g, p, l, h⟩ := old.finish_eq s; rw [h]
@[simp] theorem State.finish_port_readA (old s : State) : (old.finish s).port.readA = s.port.readA := by
  obtain ⟨r, n, o, g, p, l, h⟩ := old.finish_eq s; rw [h]
@[simp] theorem State.finish_port_readB (old s : State) : (old.finish s).port.readB = s.port.readB := by
  obtain ⟨r, n, o, g, p, l, h⟩ := old.finish_eq s; rw [h]
@[simp] theorem State.finish_port_l5From (old s : State) : (old.finish s).port.l5From = s.port.l5From := by
  obtain ⟨r, n, o, g, p, l, h⟩ := old.finish_eq s; rw [h]
@[simp] theorem State.finish_port_j0 (old s : State) : (old.finish s).port.j0 = s.port.j0 := by
  obtain ⟨r, n, o, g, p, l, h⟩ := old.finish_eq s; rw [h]
@[simp] theorem State.finish_port_svnTarget (old s : State) : (old.finish s).port.svnTarget = s.port.svnTarget := by
  obtain ⟨r, n, o, g, p, l, h⟩ := old.finish_eq s; rw [h]
@[simp] theorem State.finish_mgmt_counter (old s : State) : (old.finish s).port.mgmt.counter = s.port.mgmt.counter := by
  obtain ⟨r, n, o, g, p, l, h⟩ := old.finish_eq s; rw [h]
@[simp] theorem State.finish_mgmt_nonces (old s : State) : (old.finish s).port.mgmt.nonces = s.port.mgmt.nonces := by
  obtain ⟨r, n, o, g, p, l, h⟩ := old.finish_eq s; rw [h]
@[simp] theorem State.finish_mgmt_messages (old s : State) : (old.finish s).port.mgmt.messages = s.port.mgmt.messages := by
  obtain ⟨r, n, o, g, p, l, h⟩ := old.finish_eq s; rw [h]
@[simp] theorem State.finish_mgmt_eidPcie (old s : State) : (old.finish s).port.mgmt.eidPcie = s.port.mgmt.eidPcie := by
  obtain ⟨r, n, o, g, p, l, h⟩ := old.finish_eq s; rw [h]
@[simp] theorem State.finish_mgmt_eidI3c (old s : State) : (old.finish s).port.mgmt.eidI3c = s.port.mgmt.eidI3c := by
  obtain ⟨r, n, o, g, p, l, h⟩ := old.finish_eq s; rw [h]
@[simp] theorem State.finish_mgmt_i3cAddress (old s : State) : (old.finish s).port.mgmt.i3cAddress = s.port.mgmt.i3cAddress := by
  obtain ⟨r, n, o, g, p, l, h⟩ := old.finish_eq s; rw [h]
@[simp] theorem State.finish_mgmt_route (old s : State) : (old.finish s).port.mgmt.route = s.port.mgmt.route := by
  obtain ⟨r, n, o, g, p, l, h⟩ := old.finish_eq s; rw [h]
@[simp] theorem State.finish_mgmt_routeEid (old s : State) : (old.finish s).port.mgmt.routeEid = s.port.mgmt.routeEid := by
  obtain ⟨r, n, o, g, p, l, h⟩ := old.finish_eq s; rw [h]
@[simp] theorem State.finish_mgmt_spdm (old s : State) : (old.finish s).port.mgmt.spdm = s.port.mgmt.spdm := by
  obtain ⟨r, n, o, g, p, l, h⟩ := old.finish_eq s; rw [h]
@[simp] theorem State.finish_mgmt_updateA (old s : State) : (old.finish s).port.mgmt.updateA = s.port.mgmt.updateA := by
  obtain ⟨r, n, o, g, p, l, h⟩ := old.finish_eq s; rw [h]
@[simp] theorem State.finish_mgmt_updateB (old s : State) : (old.finish s).port.mgmt.updateB = s.port.mgmt.updateB := by
  obtain ⟨r, n, o, g, p, l, h⟩ := old.finish_eq s; rw [h]
@[simp] theorem State.finish_mgmt_slack (old s : State) : (old.finish s).port.mgmt.slack = s.port.mgmt.slack := by
  obtain ⟨r, n, o, g, p, l, h⟩ := old.finish_eq s; rw [h]
@[simp] theorem State.finish_mgmt_activation (old s : State) : (old.finish s).port.mgmt.activation = s.port.mgmt.activation := by
  obtain ⟨r, n, o, g, p, l, h⟩ := old.finish_eq s; rw [h]

end Sys2Proof.Machine
end

