-- ==== Sys2Proof/Tests/Slice0.lean ====
section
/-! SUPPORT. Tests: what the spec's examples and tables give, ill-formed commands, and states that meet the hypotheses of the
statements. -/

namespace Sys2Proof.Tests

set_option Elab.async false

open Sys2Proof Sys2Proof.Machine

/-! ### A sealed record -/

/-- The header of a data key of 16 bytes. -/
def sealHdr : KeyHeader := { KeyHeader.ofBytes (zeros 16) with state := 1#2, usage := usageD0, length := 16#7 }

/-- A key store that holds one record, of the data key above, in slot 7. -/
def sealedIn (k : Keys) : Keys := { k with slots := [(7, sealRecord k.sealKeys 7 sealHdr {} (zeros 32) (zeros 16))] }

theorem sealHdr_ofBytes (x : Bytes) : KeyHeader.ofBytes (sealHdr.bytes ++ x) = sealHdr := by
  have e : (sealHdr.bytes ++ x).take 16 = sealHdr.bytes := List.take_left' (by decide)
  have : KeyHeader.ofBytes (sealHdr.bytes ++ x) = KeyHeader.ofBytes sealHdr.bytes := by
    unfold KeyHeader.ofBytes; rw [e, List.take_of_length_le (by decide)]
  rw [this]; decide

/-- The store's record opens to what was sealed. -/
theorem sealedIn_load (k : Keys) (hk : (k.sdk.getD (zeros 32)).length = 32) :
    (sealedIn k).load 7 0#16 = .loaded sealHdr {} (zeros 16) (zeros 16) := by
  have hb : ∀ x, recBlank (sealHdr.bytes ++ x) = false := fun x => by
    have : recBlank sealHdr.bytes = false := by decide
    simp only [recBlank, List.all_append] at *; simp [this]
  have kl : ∀ l, (kdfCtrCmac (k.sdk.getD (zeros 32)) l 32).length = 32 := fun l => kdfCtrCmac_length _ _ hk
  have ks : (sealedIn k).sealKeys = k.sealKeys := by simp only [Keys.sealKeys, sealedIn]
  have r : (sealedIn k).record 7 = sealRecord k.sealKeys 7 sealHdr {} (zeros 32) (zeros 16) := by
    simp [sealedIn, Keys.record, SMap.get]
  have hd : KeyHeader.ofBytes ((sealedIn k).record 7) = sealHdr := by
    rw [r]; unfold sealRecord; simp only [List.append_assoc]; exact sealHdr_ofBytes _
  have hg : (sealedIn k).reader 7 0#16 7 = (sealedIn k).record 7 := by
    unfold Keys.reader Keys.header
    rw [hd, if_pos (by decide)]
  have o := openRecord_sealRecord k.sealKeys ((sealedIn k).volKeys sealHdr.owner.toNat) 7 sealHdr {} (zeros 32) (zeros 16) (by decide)
    (by decide) (by decide) (by decide) (by decide) sealHdr_ofBytes (by decide) (by decide) (by simp only [Keys.sealKeys]; exact kl _)
    (by simp only [Keys.sealKeys]; exact kl _) (by simp only [Keys.sealKeys]; exact kl _) (by decide) (by decide) hb
  rw [← r] at o
  unfold Keys.load fillSlot
  dsimp only
  rw [hg, hd, ks, o]
  simp only [show (sealHdr.cls == 0#2) = true by decide, if_true, show (zeros 32).take sealHdr.length.toNat = zeros 16 by decide,
    show sealHdr.isVolatile = false by decide, Bool.false_and, Bool.false_eq_true, if_false]

/-- A state at fuse load whose retained island passes its check. -/
def islandKept : State :=
  State.reset.upd .a (fun c => { c with start := { c.start with step := .fuseLoad }, island := { c.island with
    brine := [1#8], check := Config.brineCheck [1#8], retain := true, erased := false } })

theorem islandKept_passes : (islandKept.chan .a).island.passes = true := by
  show ((!([1#8] : Bytes).all (· == 0#8)) && (Config.brineCheck [1#8] == Config.brineCheck [1#8])) = true
  rw [beq_self_eq_true]; decide

/-- A state in which that key's exhaustion falls due. -/
def exhaustState : State :=
  State.reset.upd .a (fun c => { c with keys := { sealedIn c.keys with exhaustAt := [(7, 0#16, 0)] } })

theorem due_load (k : Keys) (l : List (Nat × BitVec 16 × Nat)) :
    ({ sealedIn k with exhaustAt := l } : Keys).load 7 0#16 = (sealedIn k).load 7 0#16 := rfl

theorem due_find (k : Keys) (tide : Nat) (hk : (k.sdk.getD (zeros 32)).length = 32) :
    ({ sealedIn k with exhaustAt := [(7, 0#16, 0)] } : Keys).exhaustAt.find? (fun t => t.1 == (7#28).toNat &&
      decide (t.2.2 ≤ tide) && (match ({ sealedIn k with exhaustAt := [(7, 0#16, 0)] } : Keys).load (7#28).toNat t.2.1 with
        | .loaded _ y _ _ => !y.exhausted | _ => false)) = some (7, 0#16, 0) := by
  have h := (due_load k [(7, 0#16, 0)]).trans (sealedIn_load k hk)
  show List.find? _ [(7, 0#16, 0)] = _
  rw [List.find?_cons_of_pos]
  simp only [show (7#28).toNat = 7 from rfl, h]
  simp

theorem exhaustState_due : (exhaustState.chan .a).keys.exhaustAt.find? (fun t => t.1 == (7#28).toNat &&
    decide (t.2.2 ≤ (exhaustState.chan .a).tide) && (match (exhaustState.chan .a).keys.load (7#28).toNat t.2.1 with
      | .loaded _ y _ _ => !y.exhausted | _ => false)) = some (7, 0#16, 0) := by
  have h := due_find State.reset.a.keys (exhaustState.chan .a).tide (by decide)
  exact h


/-! ### Ill-formed commands -/

/-- A TLP of function 0 outside every IDE stream. -/
def someTlp : Tlp := { function := 0, ide := none }

theorem test_wf_doorbell_empty : (Instr.inlineDoorbell someTlp 0 0 []).wf = false := by decide
theorem test_wf_doorbell_past_page : (Instr.inlineDoorbell someTlp 0 4092#12 (zeros 8)).wf = false := by decide
theorem test_wf_doorbell : (Instr.inlineDoorbell someTlp 0 0 (zeros 64)).wf = true := by decide
theorem test_wf_entry_short : (Instr.ringFetchDone 0 none (zeros 63) none).wf = false := by decide
theorem test_wf_entry : (Instr.ringFetchDone 0 none (zeros 64) none).wf = true := by decide
theorem test_wf_write_empty : (Instr.registerWrite someTlp .bar2 0 [] true).wf = false := by decide
theorem test_wf_write_long : (Instr.registerWrite someTlp .bar2 2 (List.replicate 1025 0) true).wf = false := by decide +kernel
theorem test_wf_read_long : (Instr.rcRegisterRead someTlp .bar2 3 { dwords := 1025, enables := true }).wf = false := by decide
theorem test_wf_read_empty : (Instr.rcRegisterRead someTlp .bar2 4 { dwords := 0, enables := true }).wf = false := by decide
theorem test_wf_expect_short : (Instr.digestCmp .a 0 (some (zeros 63)) 0).wf = false := by decide
theorem test_wf_noise_short : (Instr.rngSeedReady .a (zeros 127)).wf = false := by decide +kernel
theorem test_wf_reseed_short : (Instr.drbgReseedDone .a (zeros 127)).wf = false := by decide +kernel
theorem test_wf_contribution_short : (Instr.entropyContribution .a (zeros 129)).wf = false := by decide +kernel
theorem test_wf_celsius_low : (Instr.temperatureReading .a (-129)).wf = false := by decide
theorem test_wf_celsius : (Instr.temperatureReading .a 85).wf = true := by decide

/-! ### What the spec's examples and tables give -/

/-- The example of R10: 0x0001_2A3F lies in memory as 3F 2A 01 00. -/
theorem test_little_endian : leBytes 4 0x12A3F = [0x3F#8, 0x2A#8, 0x01#8, 0x00#8] := by decide

/-- The example of R133: 54310 and the offset 04993 give 58203. -/
theorem test_offset : addDigits [5, 4, 3, 1, 0] [0, 4, 9, 9, 3] = [5, 8, 2, 0, 3] := by decide

/-- The example of R135: ACEF B4DB FEAC 9DBE decimalises to 4902. -/
theorem test_decimalise : decimalise 4 (nibbles [0xAC#8, 0xEF#8, 0xB4#8, 0xDB#8, 0xFE#8, 0xAC#8, 0x9D#8, 0xBE#8]) = [4, 9, 0, 2] := by
  decide

/-- The example of R138: 7F3A 0C96 E251 48BD gives the code 730. -/
theorem test_decimalise_cvc : decimalise 3 (nibbles [0x7F#8, 0x3A#8, 0x0C#8, 0x96#8, 0xE2#8, 0x51#8, 0x48#8, 0xBD#8]) = [7, 3, 0] := by
  decide

/-- The example of R54: 32 + 100 bytes need a 256-byte doorbell (R50). -/
theorem test_doorbell_size : doorbellSize 100 = 256 ∧ doorbellSize 96 = 128 ∧ doorbellSize 32 = 64 := by decide

/-- R60: a result of 16,384 bytes takes 261 entries; the example of R193: 1,028 bytes take 17. -/
theorem test_entries :
    1 + ceilDiv (16384 - 38) 63 = 261 ∧ 1 + ceilDiv (1028 - 38) 63 = 17 := by decide

/-- R44: no bit of a header is dropped, and FUNCTION, OPCODE, QUEUE and SEQ stand at bytes 1, 2, 4 and 8. -/
theorem test_header_round : (Header.parse ((List.range 32).map byte)).bytes = (List.range 32).map byte := by decide

theorem test_header_places : (Header.parse ((List.range 32).map byte)).function = 0x01#8
    ∧ (Header.parse ((List.range 32).map byte)).opcode = 0x0302#16
    ∧ (Header.parse ((List.range 32).map byte)).queue = 0x0504#16
    ∧ (Header.parse ((List.range 32).map byte)).seq = 0x0B0A0908#32 := by decide

/-- R133: the PIN 58203 in format 0 opens from the field it builds. -/
theorem test_pin_field : pinDigits (pinBuild 0 [5, 8, 2, 0, 3] []) = [5, 8, 2, 0, 3]
    ∧ pinFieldOk 0 (pinBuild 0 [5, 8, 2, 0, 3] []) = true := by decide

/-- R357 and R359: the mesh cannot go below level 5, 7 applies as 5, and TAMPER_LEVEL_1 shows the level in force. -/
theorem test_tamper_level : levelOf 12 0 = 5 ∧ levelOf 0 7 = 5
    ∧ nibbleWord { Tamper.reset with levels := List.replicate 23 0#3 }.level 1 = 0x00454333#32 := by decide

/-- The image of a channel does not tell its side. -/
theorem storeImage_side (c : Channel) (x : Chan) : ({ c with side := x } : Channel).storeImage = c.storeImage := rfl

/-- A device in service, its channels as reset leaves them. -/
def mgState : State := ({ { State.reset with port := { State.reset.port with assay := { State.reset.port.assay with stateA := .joined, stateB := .joined } } } with port := { ({ State.reset with port := { State.reset.port with assay := { State.reset.port.assay with stateA := .joined, stateB := .joined } } } : State).port with start := { ({ State.reset with port := { State.reset.port with assay := { State.reset.port.assay with stateA := .joined, stateB := .joined } } } : State).port.start with power := .run, up := true, linkUp := true } } } : State)

theorem mgState_a : mgState.a = Channel.reset := rfl
theorem mgState_b : mgState.b = { Channel.reset with side := .b } := rfl

/-- Its channels have one image. -/
theorem mgState_image : mgState.a.storeImage = mgState.b.storeImage := by
  rw [mgState_a, mgState_b]; exact (storeImage_side _ _).symm

/-- States and operands that meet the hypotheses of EmptyQueueIdlesOneCycle, clause by clause. -/
theorem witness_EmptyQueueIdlesOneCycle :
    (∃ (s : State), (s.pending = []) ∧ ((∀ ch, (s.chan ch).tamper.outlast = 0#23))) :=
  ⟨State.reset, ⟨rfl, fun ch => by cases ch <;> rfl⟩⟩

/-- States and operands that meet the hypotheses of HostLinesStayWhole, clause by clause. -/
theorem witness_HostLinesStayWhole :
    (∃ (s t : State), ((SMap.sorted s.host.lines = true ∧ ∀ w ∈ s.host.lines, w.2.length = 64)) ∧ (step s = .next t)) :=
  ⟨State.reset, State.reset.idle, ⟨⟨rfl, fun _ h => nomatch h⟩, rfl⟩⟩

/-- States and operands that meet the hypotheses of HeaderBytesRoundTrip, clause by clause. -/
theorem witness_HeaderBytesRoundTrip :
    (∃ (h : Header) (rest : Bytes), (h.tokens.length = 4)) :=
  ⟨{ Header.parse (zeros 32) with seq := 0x9C40#32, cls := 5#3, waitScale := true }, [1#8], by decide +kernel⟩

/-- A record that meets the hypothesis of CompletionEntryLayout, with a result that is inline and one that is not. -/
theorem witness_CompletionEntryLayout : (zeros 40).length < 65536 ∧ (zeros 41).length < 65536 := by decide

/-- States and operands that meet the hypotheses of DoorbellPassesTheChecks, clause by clause. -/
theorem witness_DoorbellPassesTheChecks :
    (∃ (s : State) (x : Tlp) (w : BitVec 4) (data : Bytes) (h : Header), (s.hostReaches = true) ∧ (s.port.ideOk x.function.toNat x.ide = true) ∧ (s.port.underReset x.function.toNat = false) ∧ (32 ≤ data.length) ∧ (h = Header.parse data) ∧ (s.dropCause x.function.toNat h none = none) ∧ (headerChecks h (s.port.queue h.queue.toNat).conf true (doorbellSizeOk h data.length) = none) ∧ (h.halved = false) ∧ (s.port.waiting = []) ∧ (s.port.logRoom { hdr := h, payload := slice data 32 h.payloadLen.toNat, intakeTide := s.port.tide, intakeNo := 0 } = true)) :=
  ⟨{ State.reset with port := { State.reset.port with start := { State.reset.port.start with up := true, linkUp := true, aligned := true }, assay := { State.reset.port.assay with stateA := .joined, stateB := .joined }, qblocks := [(0, { QBlock.reset with assigned := true })], queues := [(5, { QCtx.reset with conf := { QConf.reset with enable := true } })], fns := [(0, { Fn.reset with acuEnabled := true, windows := [(0, { Window.reset with read := true, write := true, on := true, pagesM1 := 0xFFFF#24 })] })] } }, { function := 0#8, ide := none }, 3#4, (({ Header.parse (zeros 32) with version := 1#4, queue := 5#16 } : Header).bytes ++ zeros 32), Header.parse (({ Header.parse (zeros 32) with version := 1#4, queue := 5#16 } : Header).bytes ++ zeros 32), by decide +kernel, by decide +kernel, by decide +kernel, by decide +kernel, rfl, by decide +kernel, by decide +kernel, by decide +kernel, rfl, by decide +kernel⟩

/-- States and operands that meet the hypotheses of DroppedDoorbellIsRecorded, clause by clause. -/
theorem witness_DroppedDoorbellIsRecorded :
    (∃ (s : State) (x : Tlp) (w : BitVec 4) (data : Bytes) (h : Header) (c : Nat), (s.hostReaches = true) ∧ (s.port.ideOk x.function.toNat x.ide = true) ∧ (s.port.underReset x.function.toNat = false) ∧ (32 ≤ data.length) ∧ (h = Header.parse data) ∧ (s.dropCause x.function.toNat h none = some c)) :=
  ⟨{ State.reset with port := { State.reset.port with start := { State.reset.port.start with up := true, linkUp := true, aligned := true }, assay := { State.reset.port.assay with stateA := .joined, stateB := .joined }, qblocks := [(0, { QBlock.reset with assigned := true })], queues := [(5, { QCtx.reset with conf := { QConf.reset with enable := true } })], fns := [(0, { Fn.reset with acuEnabled := true, windows := [(0, { Window.reset with read := true, write := true, on := true, pagesM1 := 0xFFFF#24 })] })] } }, { function := 0#8, ide := none }, 3#4, zeros 64, Header.parse (zeros 64), 3, by decide +kernel⟩

/-- States and operands that meet the hypotheses of RingsAndReturnedEntries, clause by clause. -/
theorem witness_RingsAndReturnedEntries :
    (∃ (s : State) (x : Tlp) (value : Word) (q : Nat), (s.hostReaches = true) ∧ (s.port.ideOk x.function.toNat x.ide = true) ∧ (s.port.underReset x.function.toNat = false) ∧ (q = value.toNat / 2 ^ 16) ∧ (s.port.owns x.function.toNat q = true) ∧ ((s.port.queue q).conf.ring = true))
    ∧ (∃ (s : State) (q : BitVec 16) (ide : Option (BitVec 6)) (data : Bytes) (h : Header) (payload : Option Bytes), (s.hostReaches = true) ∧ (s.port.fetches q.toNat = true) ∧ (data.length = 64) ∧ (s.port.ideOk (s.port.queueFn q.toNat) ide = true) ∧ ((s.port.fn (s.port.queueFn q.toNat)).dmaOk false (4096 * (s.port.queue q.toNat).conf.sqBase.toNat + 64 * (s.port.queue q.toNat).sqHead.toNat) = true) ∧ (h = Header.parse data) ∧ (s.dropCause (s.port.queueFn q.toNat) h (some q) = none) ∧ (headerChecks h (s.port.queue q.toNat).conf (entryPadZero h data) true = none) ∧ (h.payloadLen.toNat ≤ 32) ∧ (h.halved = false) ∧ (s.port.logRoom { hdr := h, payload := slice data 32 h.payloadLen.toNat, intakeTide := s.port.tide, intakeNo := 0 } = true))
    ∧ (∃ (s : State) (x : Tlp) (value : Word) (q : Nat), (s.hostReaches = true) ∧ (s.port.ideOk x.function.toNat x.ide = true) ∧ (s.port.underReset x.function.toNat = false) ∧ (q = value.toNat / 2 ^ 16) ∧ (s.port.owns x.function.toNat q = true))
    ∧ (∃ (s : State) (k : Packet) (l : List Packet), (s.port.waiting = k :: l) ∧ ((k.hdr.halved = true ∨ s.port.logRoom k = true)))
    ∧ (∃ (s : State) (n : Nat), (s.port.start.linkUp = true))
    ∧ (∃ (s : State) (q : BitVec 16), (modDue s.port q.toNat = true) ∧ ((s.port.queue q.toNat).conf.vector.toNat < (s.port.fn (s.port.queueFn q.toNat)).cfg.vectors.toNat)) :=
  ⟨⟨{ State.reset with port := { State.reset.port with start := { State.reset.port.start with up := true, linkUp := true, aligned := true }, assay := { State.reset.port.assay with stateA := .joined, stateB := .joined }, qblocks := [(0, { QBlock.reset with assigned := true })], queues := [(5, { QCtx.reset with sqTail := 3#16, conf := { QConf.reset with enable := true, ring := true } })], fns := [(0, { Fn.reset with acuEnabled := true, windows := [(0, { Window.reset with read := true, write := true, on := true, pagesM1 := 0xFFFF#24 })] })] } }, { function := 0#8, ide := none }, 0x50007#32, 5, by decide +kernel⟩, ⟨{ State.reset with port := { State.reset.port with start := { State.reset.port.start with up := true, linkUp := true, aligned := true }, assay := { State.reset.port.assay with stateA := .joined, stateB := .joined }, qblocks := [(0, { QBlock.reset with assigned := true })], queues := [(5, { QCtx.reset with sqTail := 3#16, conf := { QConf.reset with enable := true, ring := true } })], fns := [(0, { Fn.reset with acuEnabled := true, windows := [(0, { Window.reset with read := true, write := true, on := true, pagesM1 := 0xFFFF#24 })] })] } }, 5#16, none, (({ Header.parse (zeros 32) with version := 1#4, queue := 5#16 } : Header).bytes ++ zeros 32), Header.parse (({ Header.parse (zeros 32) with version := 1#4, queue := 5#16 } : Header).bytes ++ zeros 32), none, by decide +kernel, by decide +kernel, by decide +kernel, by decide +kernel, by decide +kernel, rfl, by decide +kernel, by decide +kernel, by decide +kernel, by decide +kernel, by decide +kernel⟩, ⟨{ State.reset with port := { State.reset.port with start := { State.reset.port.start with up := true, linkUp := true, aligned := true }, assay := { State.reset.port.assay with stateA := .joined, stateB := .joined }, qblocks := [(0, { QBlock.reset with assigned := true })], queues := [(5, { QCtx.reset with conf := { QConf.reset with enable := true } })], fns := [(0, { Fn.reset with acuEnabled := true, windows := [(0, { Window.reset with read := true, write := true, on := true, pagesM1 := 0xFFFF#24 })] })] } }, { function := 0#8, ide := none }, 0x50007#32, 5, by decide +kernel⟩, ⟨({ State.reset with port := { State.reset.port with start := { State.reset.port.start with up := true, linkUp := true, aligned := true }, assay := { State.reset.port.assay with stateA := .joined, stateB := .joined }, qblocks := [(0, { QBlock.reset with assigned := true })], queues := [(5, { QCtx.reset with conf := { QConf.reset with enable := true } })], fns := [(0, { Fn.reset with acuEnabled := true, windows := [(0, { Window.reset with read := true, write := true, on := true, pagesM1 := 0xFFFF#24 })] })] } } : State).updPort (fun p => { p with waiting := [{ hdr := ({ Header.parse (zeros 32) with version := 1#4, queue := 5#16 } : Header), payload := [], intakeTide := 0, intakeNo := 0 }] }), { hdr := ({ Header.parse (zeros 32) with version := 1#4, queue := 5#16 } : Header), payload := [], intakeTide := 0, intakeNo := 0 }, [], by decide +kernel⟩, ⟨{ State.reset with port := { State.reset.port with start := { State.reset.port.start with up := true, linkUp := true, aligned := true }, assay := { State.reset.port.assay with stateA := .joined, stateB := .joined }, qblocks := [(0, { QBlock.reset with assigned := true })], queues := [(5, { QCtx.reset with conf := { QConf.reset with enable := true } })], fns := [(0, { Fn.reset with acuEnabled := true, windows := [(0, { Window.reset with read := true, write := true, on := true, pagesM1 := 0xFFFF#24 })] })] } }, 1, by decide +kernel⟩, ⟨({ State.reset with port := { State.reset.port with start := { State.reset.port.start with up := true, linkUp := true, aligned := true }, assay := { State.reset.port.assay with stateA := .joined, stateB := .joined }, qblocks := [(0, { QBlock.reset with assigned := true })], queues := [(5, { QCtx.reset with conf := { QConf.reset with enable := true } })], fns := [(0, { Fn.reset with acuEnabled := true, windows := [(0, { Window.reset with read := true, write := true, on := true, pagesM1 := 0xFFFF#24 })] })] } } : State).updPort (fun p => { p with tide := 3, queues := [(5, { QCtx.reset with unsignalled := 1#8, conf := { QConf.reset with enable := true, irqEn := true, modTides := 2#8 } })] }), 5#16, by decide +kernel⟩⟩

/-- A queue of another function, and commands that meet the hypotheses of FunctionsQueuesStandApart. -/
theorem witness_FunctionsQueuesStandApart : State.reset.port.queueFn 5 ≠ (1#8).toNat
    ∧ (∃ t, exec (.inlineDoorbell { function := 1#8, ide := none } 0#4 0#12 (zeros 64)) State.reset = .next t)
    ∧ (∃ t, exec (.ringTail { function := 1#8, ide := none } 0#32) State.reset = .next t) :=
  ⟨by decide, ⟨_, rfl⟩, ⟨_, rfl⟩⟩

/-- States and operands that meet the hypotheses of CommitsAreIssuedAndApplied, clause by clause. -/
theorem witness_CommitsAreIssuedAndApplied :
    (∃ (s : State) (x : Tlp) (v : Word), (s.hostReaches = true) ∧ (s.port.ideOk 0 x.ide = true) ∧ (x.function = 0#8) ∧ (BitVec.ofNat 7 v.toNat ≠ 0#7) ∧ (s.port.commits.length < 4))
    ∧ (∃ (s : State) (x : Tlp) (v : Word), (s.hostReaches = true) ∧ (s.port.ideOk 0 x.ide = true) ∧ (x.function = 0#8) ∧ (BitVec.ofNat 7 v.toNat ≠ 0#7) ∧ (4 ≤ s.port.commits.length))
    ∧ (∃ (s : State) (c : Commit), (s.port.commits = [c]) ∧ (c.target ≤ s.port.tide) ∧ (c.mask = 0x20#7)) :=
  ⟨⟨{ State.reset with port := { State.reset.port with start := { State.reset.port.start with up := true, linkUp := true, aligned := true }, assay := { State.reset.port.assay with stateA := .joined, stateB := .joined }, qblocks := [(0, { QBlock.reset with assigned := true })], queues := [(5, { QCtx.reset with conf := { QConf.reset with enable := true } })], fns := [(0, { Fn.reset with acuEnabled := true, windows := [(0, { Window.reset with read := true, write := true, on := true, pagesM1 := 0xFFFF#24 })] })] } }, { function := 0#8, ide := none }, 0x20#32, by decide +kernel⟩, ⟨({ State.reset with port := { State.reset.port with start := { State.reset.port.start with up := true, linkUp := true, aligned := true }, assay := { State.reset.port.assay with stateA := .joined, stateB := .joined }, qblocks := [(0, { QBlock.reset with assigned := true })], queues := [(5, { QCtx.reset with conf := { QConf.reset with enable := true } })], fns := [(0, { Fn.reset with acuEnabled := true, windows := [(0, { Window.reset with read := true, write := true, on := true, pagesM1 := 0xFFFF#24 })] })] } } : State).updPort (fun p => { p with commits := List.replicate 4 { target := 9, mask := 1#7 } }), { function := 0#8, ide := none }, 0x20#32, by decide +kernel⟩, ⟨({ State.reset with port := { State.reset.port with start := { State.reset.port.start with up := true, linkUp := true, aligned := true }, assay := { State.reset.port.assay with stateA := .joined, stateB := .joined }, qblocks := [(0, { QBlock.reset with assigned := true })], queues := [(5, { QCtx.reset with conf := { QConf.reset with enable := true } })], fns := [(0, { Fn.reset with acuEnabled := true, windows := [(0, { Window.reset with read := true, write := true, on := true, pagesM1 := 0xFFFF#24 })] })] } } : State).updPort (fun p => { p with tide := 9, commits := [{ target := 9, mask := 0x20#7 }] }), { target := 9, mask := 0x20#7 }, by decide +kernel⟩⟩

/-- States and operands that meet the hypotheses of RegisterAccessesTakeEffect, clause by clause. -/
theorem witness_RegisterAccessesTakeEffect :
    (∃ (s : State) (x : Tlp) (v : Word), (s.hostReaches = true) ∧ (s.port.ideOk 0 x.ide = true) ∧ (x.function = 0#8))
    ∧ (∃ (s : State) (x : Tlp) (v : Word), (s.hostReaches = true) ∧ (s.port.ideOk 0 x.ide = true) ∧ (x.function = 0#8))
    ∧ (∃ (s : State) (x : Tlp) (v : Word) (q k : Nat) (h : QConf), (s.hostReaches = true) ∧ (s.port.ideOk 0 x.ide = true) ∧ (x.function = 0#8) ∧ (indWord s.port.page.indAddr.toNat = some (.queue q k)) ∧ (s.indReach (.queue q k) = true) ∧ ((s.port.queue q).shadow.write k v = some h) ∧ (s.port.locked 0 = false))
    ∧ (∃ (s : State) (x : Tlp) (o k : Nat) (full : Bool), (s.hostReaches = true) ∧ (s.port.ideOk x.function.toNat x.ide = true) ∧ (fnPageWord o = some k) ∧ (o % 4 = 0))
    ∧ (∃ (s : State) (x : Tlp) (o : Nat), (s.hostReaches = true) ∧ (s.port.ideOk 0 x.ide = true) ∧ (x.function = 0#8) ∧ (devReg o = some (.global 11)) ∧ (o % 4 = 0))
    ∧ (∃ (s : State) (x : Tlp) (o : Nat) (v : Word), (s.hostReaches = true) ∧ (s.port.ideOk 0 x.ide = true) ∧ (x.function = 0#8) ∧ (devReg o = some (.global 7)) ∧ (o % 4 = 0))
    ∧ (∃ (s : State) (x : Tlp) (f : BitVec 8), (s.hostReaches = true) ∧ (s.port.ideOk 0 x.ide = true) ∧ (x.function = 0#8) ∧ ((s.port.fn f.toNat).badWindows = []))
    ∧ (∃ (s : State) (x : Tlp) (f : BitVec 8), (s.hostReaches = true) ∧ (s.port.ideOk 0 x.ide = true) ∧ (x.function = 0#8)) :=
  ⟨⟨{ State.reset with port := { State.reset.port with start := { State.reset.port.start with up := true, linkUp := true, aligned := true }, assay := { State.reset.port.assay with stateA := .joined, stateB := .joined }, qblocks := [(0, { QBlock.reset with assigned := true })], queues := [(5, { QCtx.reset with conf := { QConf.reset with enable := true } })], fns := [(0, { Fn.reset with acuEnabled := true, windows := [(0, { Window.reset with read := true, write := true, on := true, pagesM1 := 0xFFFF#24 })] })] } }, { function := 0#8, ide := none }, 7#32, by decide +kernel⟩, ⟨{ State.reset with port := { State.reset.port with start := { State.reset.port.start with up := true, linkUp := true, aligned := true }, assay := { State.reset.port.assay with stateA := .joined, stateB := .joined }, qblocks := [(0, { QBlock.reset with assigned := true })], queues := [(5, { QCtx.reset with conf := { QConf.reset with enable := true } })], fns := [(0, { Fn.reset with acuEnabled := true, windows := [(0, { Window.reset with read := true, write := true, on := true, pagesM1 := 0xFFFF#24 })] })] } }, { function := 0#8, ide := none }, 7#32, by decide +kernel⟩, ⟨({ State.reset with port := { State.reset.port with start := { State.reset.port.start with up := true, linkUp := true, aligned := true }, assay := { State.reset.port.assay with stateA := .joined, stateB := .joined }, qblocks := [(0, { QBlock.reset with assigned := true })], queues := [(5, { QCtx.reset with conf := { QConf.reset with enable := true } })], fns := [(0, { Fn.reset with acuEnabled := true, windows := [(0, { Window.reset with read := true, write := true, on := true, pagesM1 := 0xFFFF#24 })] })] } } : State).updPort (fun p => { p with page := { p.page with indAddr := 0#48 } }), { function := 0#8, ide := none }, 1#32, 0, 0, ((QConf.reset).write 0 1#32).getD QConf.reset, by decide +kernel⟩, ⟨{ State.reset with port := { State.reset.port with start := { State.reset.port.start with up := true, linkUp := true, aligned := true }, assay := { State.reset.port.assay with stateA := .joined, stateB := .joined }, qblocks := [(0, { QBlock.reset with assigned := true })], queues := [(5, { QCtx.reset with conf := { QConf.reset with enable := true } })], fns := [(0, { Fn.reset with acuEnabled := true, windows := [(0, { Window.reset with read := true, write := true, on := true, pagesM1 := 0xFFFF#24 })] })] } }, { function := 0#8, ide := none }, 0x818, 6, false, by decide +kernel⟩, ⟨{ State.reset with port := { State.reset.port with start := { State.reset.port.start with up := true, linkUp := true, aligned := true }, assay := { State.reset.port.assay with stateA := .joined, stateB := .joined }, qblocks := [(0, { QBlock.reset with assigned := true })], queues := [(5, { QCtx.reset with conf := { QConf.reset with enable := true } })], fns := [(0, { Fn.reset with acuEnabled := true, windows := [(0, { Window.reset with read := true, write := true, on := true, pagesM1 := 0xFFFF#24 })] })] } }, { function := 0#8, ide := none }, 0x2C, by decide +kernel⟩, ⟨{ State.reset with port := { State.reset.port with start := { State.reset.port.start with up := true, linkUp := true, aligned := true }, assay := { State.reset.port.assay with stateA := .joined, stateB := .joined }, qblocks := [(0, { QBlock.reset with assigned := true })], queues := [(5, { QCtx.reset with conf := { QConf.reset with enable := true } })], fns := [(0, { Fn.reset with acuEnabled := true, windows := [(0, { Window.reset with read := true, write := true, on := true, pagesM1 := 0xFFFF#24 })] })] } }, { function := 0#8, ide := none }, 0x1C, 5#32, by decide +kernel⟩, ⟨{ State.reset with port := { State.reset.port with start := { State.reset.port.start with up := true, linkUp := true, aligned := true }, assay := { State.reset.port.assay with stateA := .joined, stateB := .joined }, qblocks := [(0, { QBlock.reset with assigned := true })], queues := [(5, { QCtx.reset with conf := { QConf.reset with enable := true } })], fns := [(0, { Fn.reset with acuEnabled := true, windows := [(0, { Window.reset with read := true, write := true, on := true, pagesM1 := 0xFFFF#24 })] })] } }, { function := 0#8, ide := none }, 0#8, by decide +kernel⟩, ⟨{ State.reset with port := { State.reset.port with start := { State.reset.port.start with up := true, linkUp := true, aligned := true }, assay := { State.reset.port.assay with stateA := .joined, stateB := .joined }, qblocks := [(0, { QBlock.reset with assigned := true })], queues := [(5, { QCtx.reset with conf := { QConf.reset with enable := true } })], fns := [(0, { Fn.reset with acuEnabled := true, windows := [(0, { Window.reset with read := true, write := true, on := true, pagesM1 := 0xFFFF#24 })] })] } }, { function := 0#8, ide := none }, 0#8, by decide +kernel⟩⟩

/-- States and operands that meet the hypotheses of TwinCompletionsArrive, clause by clause. -/
theorem witness_TwinCompletionsArrive :
    (∃ (s : State) (r q : CompRec) (l m : List CompRec), (s.port.passingFull = false) ∧ ((s.arrive .a).port.passingFull = false) ∧ (s.a.sched.buffer = r :: l) ∧ (s.b.sched.buffer = q :: m))
    ∧ (∃ (s : State) (r q : CompRec) (l m : List CompRec) (o : Outst), (s.port.passingFull = false) ∧ ((s.arrive .a).port.passingFull = false) ∧ (s.a.sched.buffer = r :: l) ∧ (s.b.sched.buffer = q :: m) ∧ (s.port.serving .a = true) ∧ (s.port.serving .b = true) ∧ (q.intakeNo = r.intakeNo) ∧ (s.port.findOut r.intakeNo = some o) ∧ (o.halved = false) ∧ (o.needA = true) ∧ (o.needB = true) ∧ (o.gotA = none) ∧ (o.gotB = none) ∧ (o.verdict ≠ .discord) ∧ (r.check = q.check) ∧ (r.code ≠ .tamperAbort) ∧ (q.code ≠ .tamperAbort))
    ∧ (∃ (s : State) (ch : Chan) (r : CompRec) (l : List CompRec), (s.port.passingFull = false) ∧ ((s.chan ch).sched.buffer = r :: l))
    ∧ (∃ (s : State) (ch : Chan) (r : CompRec) (l : List CompRec) (o : Outst), (s.port.passingFull = false) ∧ ((s.chan ch).sched.buffer = r :: l) ∧ (s.port.serving ch = true) ∧ (s.port.findOut r.intakeNo = some o) ∧ (o.halved = true) ∧ (o.need ch = true) ∧ (o.got ch = none) ∧ (o.verdict ≠ .discord) ∧ (r.code ≠ .tamperAbort) ∧ (s.holdsAlone ch r = false))
    ∧ (∃ (s : State) (ch : Chan) (r f : CompRec) (l : List CompRec) (o : Outst), (s.port.passingFull = false) ∧ ((s.chan ch).sched.buffer = r :: l) ∧ (s.port.serving ch = true) ∧ (s.port.findOut r.intakeNo = some o) ∧ (o.halved = false) ∧ (o.need ch = true) ∧ (o.got ch = none) ∧ (o.verdict ≠ .discord) ∧ (o.got ch.peer = some f) ∧ (f.check = r.check) ∧ (r.code ≠ .tamperAbort))
    ∧ (∃ (s : State) (ch : Chan) (r : CompRec) (l : List CompRec) (o : Outst), (s.port.passingFull = false) ∧ ((s.chan ch).sched.buffer = r :: l) ∧ (s.port.serving ch = true) ∧ (s.port.findOut r.intakeNo = some o) ∧ (o.halved = true) ∧ (o.need ch = true) ∧ (o.got ch = none) ∧ (o.verdict ≠ .discord) ∧ (s.holdsAlone ch r = true))
    ∧ (∃ (s : State) (ch : Chan) (r : CompRec) (l : List CompRec), (s.port.passingFull = false) ∧ ((s.chan ch).sched.buffer = r :: l) ∧ (s.port.joined ch = true) ∧ (s.port.joined ch.peer = true) ∧ (r.code = .tamperAbort) ∧ ((s.chan ch).faults.contains .tamper = true))
    ∧ (∃ (s : State) (n : Nat) (o : Outst) (r : CompRec) (k : Nat), (s.port.findOut n = some o) ∧ (o.halved = false) ∧ (o.windowOver = false) ∧ (o.verdict ≠ .discord) ∧ (o.firstAt = some k) ∧ (k + 8192 ≤ s.port.now) ∧ (o.gotA = some r) ∧ (o.gotB = none) ∧ (o.needB = true) ∧ (s.port.bothJoined = true) ∧ (s.holdsRng .a r = false)) :=
  ⟨⟨(((({ State.reset with port := { State.reset.port with start := { State.reset.port.start with up := true, linkUp := true, aligned := true }, assay := { State.reset.port.assay with stateA := .joined, stateB := .joined }, qblocks := [(0, { QBlock.reset with assigned := true })], queues := [(5, { QCtx.reset with conf := { QConf.reset with enable := true } })], fns := [(0, { Fn.reset with acuEnabled := true, windows := [(0, { Window.reset with read := true, write := true, on := true, pagesM1 := 0xFFFF#24 })] })] } } : State).updPort (fun p => { p with outst := [({ intakeNo := 1, queue := 5#16, seq := 0#32, function := 0#8, halved := false, assayed := false, homeB := false, cls := 0#3, pkt := ({ hdr := ({ Header.parse (zeros 32) with version := 1#4, queue := 5#16 } : Header), payload := [], intakeTide := 0, intakeNo := 1 } : Packet), heapAt := 0, needA := true, needB := true, gotA := none, gotB := none, firstAt := none, written := false, windowOver := false, held := false, verdict := .open } : Outst)] })).upd .a (fun c => { c with sched := { c.sched with buffer := [({ queue := 5#16, seq := 0#32, function := 0#8, code := .ok, detail := 0#4, missed := false, result := [], tideLo := 0#32, cycles := 0, intakeNo := 1, halved := false, assayed := false } : CompRec)] } }))).upd .b (fun c => { c with sched := { c.sched with buffer := [({ queue := 5#16, seq := 0#32, function := 0#8, code := .ok, detail := 0#4, missed := false, result := [], tideLo := 0#32, cycles := 0, intakeNo := 1, halved := false, assayed := false } : CompRec)] } }), ({ queue := 5#16, seq := 0#32, function := 0#8, code := .ok, detail := 0#4, missed := false, result := [], tideLo := 0#32, cycles := 0, intakeNo := 1, halved := false, assayed := false } : CompRec), ({ queue := 5#16, seq := 0#32, function := 0#8, code := .ok, detail := 0#4, missed := false, result := [], tideLo := 0#32, cycles := 0, intakeNo := 1, halved := false, assayed := false } : CompRec), [], [], by decide +kernel⟩, ⟨(((({ State.reset with port := { State.reset.port with start := { State.reset.port.start with up := true, linkUp := true, aligned := true }, assay := { State.reset.port.assay with stateA := .joined, stateB := .joined }, qblocks := [(0, { QBlock.reset with assigned := true })], queues := [(5, { QCtx.reset with conf := { QConf.reset with enable := true } })], fns := [(0, { Fn.reset with acuEnabled := true, windows := [(0, { Window.reset with read := true, write := true, on := true, pagesM1 := 0xFFFF#24 })] })] } } : State).updPort (fun p => { p with outst := [({ intakeNo := 1, queue := 5#16, seq := 0#32, function := 0#8, halved := false, assayed := false, homeB := false, cls := 0#3, pkt := ({ hdr := ({ Header.parse (zeros 32) with version := 1#4, queue := 5#16 } : Header), payload := [], intakeTide := 0, intakeNo := 1 } : Packet), heapAt := 0, needA := true, needB := true, gotA := none, gotB := none, firstAt := none, written := false, windowOver := false, held := false, verdict := .open } : Outst)] })).upd .a (fun c => { c with sched := { c.sched with buffer := [({ queue := 5#16, seq := 0#32, function := 0#8, code := .ok, detail := 0#4, missed := false, result := [], tideLo := 0#32, cycles := 0, intakeNo := 1, halved := false, assayed := false } : CompRec)] } }))).upd .b (fun c => { c with sched := { c.sched with buffer := [({ queue := 5#16, seq := 0#32, function := 0#8, code := .ok, detail := 0#4, missed := false, result := [], tideLo := 0#32, cycles := 0, intakeNo := 1, halved := false, assayed := false } : CompRec)] } }), ({ queue := 5#16, seq := 0#32, function := 0#8, code := .ok, detail := 0#4, missed := false, result := [], tideLo := 0#32, cycles := 0, intakeNo := 1, halved := false, assayed := false } : CompRec), ({ queue := 5#16, seq := 0#32, function := 0#8, code := .ok, detail := 0#4, missed := false, result := [], tideLo := 0#32, cycles := 0, intakeNo := 1, halved := false, assayed := false } : CompRec), [], [], ({ intakeNo := 1, queue := 5#16, seq := 0#32, function := 0#8, halved := false, assayed := false, homeB := false, cls := 0#3, pkt := ({ hdr := ({ Header.parse (zeros 32) with version := 1#4, queue := 5#16 } : Header), payload := [], intakeTide := 0, intakeNo := 1 } : Packet), heapAt := 0, needA := true, needB := true, gotA := none, gotB := none, firstAt := none, written := false, windowOver := false, held := false, verdict := .open } : Outst), by decide +kernel⟩, ⟨((({ State.reset with port := { State.reset.port with start := { State.reset.port.start with up := true, linkUp := true, aligned := true }, assay := { State.reset.port.assay with stateA := .joined, stateB := .joined }, qblocks := [(0, { QBlock.reset with assigned := true })], queues := [(5, { QCtx.reset with conf := { QConf.reset with enable := true } })], fns := [(0, { Fn.reset with acuEnabled := true, windows := [(0, { Window.reset with read := true, write := true, on := true, pagesM1 := 0xFFFF#24 })] })] } } : State).updPort (fun p => { p with outst := [({ intakeNo := 1, queue := 5#16, seq := 0#32, function := 0#8, halved := false, assayed := false, homeB := false, cls := 0#3, pkt := ({ hdr := ({ Header.parse (zeros 32) with version := 1#4, queue := 5#16 } : Header), payload := [], intakeTide := 0, intakeNo := 1 } : Packet), heapAt := 0, needA := true, needB := true, gotA := none, gotB := none, firstAt := none, written := false, windowOver := false, held := false, verdict := .open } : Outst)] })).upd .a (fun c => { c with sched := { c.sched with buffer := [({ queue := 5#16, seq := 0#32, function := 0#8, code := .ok, detail := 0#4, missed := false, result := [], tideLo := 0#32, cycles := 0, intakeNo := 1, halved := false, assayed := false } : CompRec)] } })), .a, ({ queue := 5#16, seq := 0#32, function := 0#8, code := .ok, detail := 0#4, missed := false, result := [], tideLo := 0#32, cycles := 0, intakeNo := 1, halved := false, assayed := false } : CompRec), [], by decide +kernel⟩, ⟨((({ State.reset with port := { State.reset.port with start := { State.reset.port.start with up := true, linkUp := true, aligned := true }, assay := { State.reset.port.assay with stateA := .joined, stateB := .joined }, qblocks := [(0, { QBlock.reset with assigned := true })], queues := [(5, { QCtx.reset with conf := { QConf.reset with enable := true } })], fns := [(0, { Fn.reset with acuEnabled := true, windows := [(0, { Window.reset with read := true, write := true, on := true, pagesM1 := 0xFFFF#24 })] })] } } : State).updPort (fun p => { p with outst := [({ intakeNo := 1, queue := 5#16, seq := 0#32, function := 0#8, halved := true, assayed := false, homeB := false, cls := 0#3, pkt := ({ hdr := ({ Header.parse (zeros 32) with version := 1#4, queue := 5#16 } : Header), payload := [], intakeTide := 0, intakeNo := 1 } : Packet), heapAt := 0, needA := true, needB := true, gotA := none, gotB := none, firstAt := none, written := false, windowOver := false, held := false, verdict := .open } : Outst)] })).upd .a (fun c => { c with sched := { c.sched with buffer := [({ queue := 5#16, seq := 0#32, function := 0#8, code := .ok, detail := 0#4, missed := false, result := [], tideLo := 0#32, cycles := 0, intakeNo := 1, halved := true, assayed := false } : CompRec)] } })), .a, ({ queue := 5#16, seq := 0#32, function := 0#8, code := .ok, detail := 0#4, missed := false, result := [], tideLo := 0#32, cycles := 0, intakeNo := 1, halved := true, assayed := false } : CompRec), [], ({ intakeNo := 1, queue := 5#16, seq := 0#32, function := 0#8, halved := true, assayed := false, homeB := false, cls := 0#3, pkt := ({ hdr := ({ Header.parse (zeros 32) with version := 1#4, queue := 5#16 } : Header), payload := [], intakeTide := 0, intakeNo := 1 } : Packet), heapAt := 0, needA := true, needB := true, gotA := none, gotB := none, firstAt := none, written := false, windowOver := false, held := false, verdict := .open } : Outst), by decide +kernel⟩, ⟨((({ State.reset with port := { State.reset.port with start := { State.reset.port.start with up := true, linkUp := true, aligned := true }, assay := { State.reset.port.assay with stateA := .joined, stateB := .joined }, qblocks := [(0, { QBlock.reset with assigned := true })], queues := [(5, { QCtx.reset with conf := { QConf.reset with enable := true } })], fns := [(0, { Fn.reset with acuEnabled := true, windows := [(0, { Window.reset with read := true, write := true, on := true, pagesM1 := 0xFFFF#24 })] })] } } : State).updPort (fun p => { p with outst := [({ intakeNo := 1, queue := 5#16, seq := 0#32, function := 0#8, halved := false, assayed := false, homeB := false, cls := 0#3, pkt := ({ hdr := ({ Header.parse (zeros 32) with version := 1#4, queue := 5#16 } : Header), payload := [], intakeTide := 0, intakeNo := 1 } : Packet), heapAt := 0, needA := true, needB := true, gotA := none, gotB := some ({ queue := 5#16, seq := 0#32, function := 0#8, code := .ok, detail := 0#4, missed := false, result := [], tideLo := 0#32, cycles := 0, intakeNo := 1, halved := false, assayed := false } : CompRec), firstAt := some 0, written := false, windowOver := false, held := false, verdict := .open } : Outst)] })).upd .a (fun c => { c with sched := { c.sched with buffer := [({ queue := 5#16, seq := 0#32, function := 0#8, code := .ok, detail := 0#4, missed := false, result := [], tideLo := 0#32, cycles := 0, intakeNo := 1, halved := false, assayed := false } : CompRec)] } })), .a, ({ queue := 5#16, seq := 0#32, function := 0#8, code := .ok, detail := 0#4, missed := false, result := [], tideLo := 0#32, cycles := 0, intakeNo := 1, halved := false, assayed := false } : CompRec), ({ queue := 5#16, seq := 0#32, function := 0#8, code := .ok, detail := 0#4, missed := false, result := [], tideLo := 0#32, cycles := 0, intakeNo := 1, halved := false, assayed := false } : CompRec), [], ({ intakeNo := 1, queue := 5#16, seq := 0#32, function := 0#8, halved := false, assayed := false, homeB := false, cls := 0#3, pkt := ({ hdr := ({ Header.parse (zeros 32) with version := 1#4, queue := 5#16 } : Header), payload := [], intakeTide := 0, intakeNo := 1 } : Packet), heapAt := 0, needA := true, needB := true, gotA := none, gotB := some ({ queue := 5#16, seq := 0#32, function := 0#8, code := .ok, detail := 0#4, missed := false, result := [], tideLo := 0#32, cycles := 0, intakeNo := 1, halved := false, assayed := false } : CompRec), firstAt := some 0, written := false, windowOver := false, held := false, verdict := .open } : Outst), by decide +kernel⟩, ⟨(((({ State.reset with port := { State.reset.port with start := { State.reset.port.start with up := true, linkUp := true, aligned := true }, assay := { State.reset.port.assay with stateA := .joined, stateB := .joined }, qblocks := [(0, { QBlock.reset with assigned := true })], queues := [(5, { QCtx.reset with conf := { QConf.reset with enable := true } })], fns := [(0, { Fn.reset with acuEnabled := true, windows := [(0, { Window.reset with read := true, write := true, on := true, pagesM1 := 0xFFFF#24 })] })] } } : State).updPort (fun p => { p with outst := [({ intakeNo := 1, queue := 5#16, seq := 0#32, function := 0#8, halved := true, assayed := false, homeB := false, cls := 0#3, pkt := ({ hdr := ({ Header.parse (zeros 32) with version := 1#4, queue := 5#16 } : Header), payload := [], intakeTide := 0, intakeNo := 1 } : Packet), heapAt := 0, needA := true, needB := true, gotA := none, gotB := none, firstAt := none, written := false, windowOver := false, held := false, verdict := .open } : Outst)] })).upd .a (fun c => { c with sched := { c.sched with buffer := [({ queue := 5#16, seq := 0#32, function := 0#8, code := .ok, detail := 0#4, missed := false, result := [], tideLo := 0#32, cycles := 0, intakeNo := 1, halved := true, assayed := false } : CompRec)] } }))).updPort (fun p => { p with assay := { p.assay with genFaultA := true } }) |>.upd .a (fun c => { c with sched := { c.sched with buffer := [({ queue := 5#16, seq := 0#32, function := 0#8, code := .rngFailed, detail := 0#4, missed := false, result := [], tideLo := 0#32, cycles := 0, intakeNo := 1, halved := true, assayed := false } : CompRec)] } }), .a, ({ queue := 5#16, seq := 0#32, function := 0#8, code := .rngFailed, detail := 0#4, missed := false, result := [], tideLo := 0#32, cycles := 0, intakeNo := 1, halved := true, assayed := false } : CompRec), [], ({ intakeNo := 1, queue := 5#16, seq := 0#32, function := 0#8, halved := true, assayed := false, homeB := false, cls := 0#3, pkt := ({ hdr := ({ Header.parse (zeros 32) with version := 1#4, queue := 5#16 } : Header), payload := [], intakeTide := 0, intakeNo := 1 } : Packet), heapAt := 0, needA := true, needB := true, gotA := none, gotB := none, firstAt := none, written := false, windowOver := false, held := false, verdict := .open } : Outst), by decide +kernel⟩, ⟨(((({ State.reset with port := { State.reset.port with start := { State.reset.port.start with up := true, linkUp := true, aligned := true }, assay := { State.reset.port.assay with stateA := .joined, stateB := .joined }, qblocks := [(0, { QBlock.reset with assigned := true })], queues := [(5, { QCtx.reset with conf := { QConf.reset with enable := true } })], fns := [(0, { Fn.reset with acuEnabled := true, windows := [(0, { Window.reset with read := true, write := true, on := true, pagesM1 := 0xFFFF#24 })] })] } } : State).updPort (fun p => { p with outst := [({ intakeNo := 1, queue := 5#16, seq := 0#32, function := 0#8, halved := false, assayed := false, homeB := false, cls := 0#3, pkt := ({ hdr := ({ Header.parse (zeros 32) with version := 1#4, queue := 5#16 } : Header), payload := [], intakeTide := 0, intakeNo := 1 } : Packet), heapAt := 0, needA := true, needB := true, gotA := none, gotB := none, firstAt := none, written := false, windowOver := false, held := false, verdict := .open } : Outst)] })).upd .a (fun c => { c with sched := { c.sched with buffer := [({ queue := 5#16, seq := 0#32, function := 0#8, code := .ok, detail := 0#4, missed := false, result := [], tideLo := 0#32, cycles := 0, intakeNo := 1, halved := false, assayed := false } : CompRec)] } }))).upd .a (fun c => { c with faults := [.tamper], sched := { c.sched with buffer := [({ queue := 5#16, seq := 0#32, function := 0#8, code := .tamperAbort, detail := 0#4, missed := false, result := [], tideLo := 0#32, cycles := 0, intakeNo := 1, halved := false, assayed := false } : CompRec)] } }), .a, ({ queue := 5#16, seq := 0#32, function := 0#8, code := .tamperAbort, detail := 0#4, missed := false, result := [], tideLo := 0#32, cycles := 0, intakeNo := 1, halved := false, assayed := false } : CompRec), [], by decide +kernel⟩, ⟨((({ State.reset with port := { State.reset.port with start := { State.reset.port.start with up := true, linkUp := true, aligned := true }, assay := { State.reset.port.assay with stateA := .joined, stateB := .joined }, qblocks := [(0, { QBlock.reset with assigned := true })], queues := [(5, { QCtx.reset with conf := { QConf.reset with enable := true } })], fns := [(0, { Fn.reset with acuEnabled := true, windows := [(0, { Window.reset with read := true, write := true, on := true, pagesM1 := 0xFFFF#24 })] })] } } : State).updPort (fun p => { p with outst := [({ intakeNo := 1, queue := 5#16, seq := 0#32, function := 0#8, halved := false, assayed := false, homeB := false, cls := 0#3, pkt := ({ hdr := ({ Header.parse (zeros 32) with version := 1#4, queue := 5#16 } : Header), payload := [], intakeTide := 0, intakeNo := 1 } : Packet), heapAt := 0, needA := true, needB := true, gotA := some ({ queue := 5#16, seq := 0#32, function := 0#8, code := .ok, detail := 0#4, missed := false, result := [], tideLo := 0#32, cycles := 0, intakeNo := 1, halved := false, assayed := false } : CompRec), gotB := none, firstAt := some 0, written := false, windowOver := false, held := false, verdict := .open } : Outst)], tide := 2 })).upd .a (fun c => { c with sched := { c.sched with buffer := [({ queue := 5#16, seq := 0#32, function := 0#8, code := .ok, detail := 0#4, missed := false, result := [], tideLo := 0#32, cycles := 0, intakeNo := 1, halved := false, assayed := false } : CompRec)] } })), 1, ({ intakeNo := 1, queue := 5#16, seq := 0#32, function := 0#8, halved := false, assayed := false, homeB := false, cls := 0#3, pkt := ({ hdr := ({ Header.parse (zeros 32) with version := 1#4, queue := 5#16 } : Header), payload := [], intakeTide := 0, intakeNo := 1 } : Packet), heapAt := 0, needA := true, needB := true, gotA := some ({ queue := 5#16, seq := 0#32, function := 0#8, code := .ok, detail := 0#4, missed := false, result := [], tideLo := 0#32, cycles := 0, intakeNo := 1, halved := false, assayed := false } : CompRec), gotB := none, firstAt := some 0, written := false, windowOver := false, held := false, verdict := .open } : Outst), ({ queue := 5#16, seq := 0#32, function := 0#8, code := .ok, detail := 0#4, missed := false, result := [], tideLo := 0#32, cycles := 0, intakeNo := 1, halved := false, assayed := false } : CompRec), 0, by decide +kernel⟩⟩

/-- States and operands that meet the hypotheses of ReportsFaultsAndProbesRetire, clause by clause. -/
theorem witness_ReportsFaultsAndProbesRetire :
    (∃ (s : State) (w : Word) (k : Byte), (s.a.health.report = some (w, k)))
    ∧ (∃ (s : State) (ch : Chan), (s.port.joined ch = true) ∧ (s.port.joined ch.peer = true) ∧ (s.port.reportMissing ch = true) ∧ (s.port.reportBad ch.peer = false))
    ∧ (∃ (s : State) (ch : Chan), (s.port.joined ch = true) ∧ (s.port.joined ch.peer = true) ∧ (s.port.reportMissing ch = true) ∧ (s.port.reportBad ch.peer = true))
    ∧ (∃ (s : State) (f : FaultCause) (l : List FaultCause), (s.port.serving .a = true) ∧ (s.port.joined .b = true) ∧ (s.a.faults = f :: l))
    ∧ (∃ (s : State) (check : DWord) (r : Resolve) (o : Outst), (s.port.assay.resolve = some r) ∧ (s.port.findOut r.intakeNo = some o) ∧ (r.probeB = none) ∧ (s.port.tide ≤ r.lateTide))
    ∧ (∃ (s : State) (ch : Chan) (r : Resolve) (o : Outst), (s.port.assay.resolve = some r) ∧ (s.port.findOut r.intakeNo = some o) ∧ (r.probeA = none) ∧ (r.probeB = none) ∧ (s.port.tide ≤ r.lateTide))
    ∧ (∃ (s : State) (ch : Chan) (w : Option DWord) (r : Resolve) (o : Outst), (s.port.assay.resolve = some r) ∧ (s.port.findOut r.intakeNo = some o) ∧ (r.lateTide < s.port.tide))
    ∧ (∃ (s : State) (r : Resolve) (o : Outst) (k : CompRec), (s.port.assay.resolve = some r) ∧ (s.port.findOut r.intakeNo = some o) ∧ (r.lateTide < s.port.tide) ∧ (r.stale = false) ∧ (r.probeA = some k.check) ∧ (o.got .a = some k) ∧ (r.probeB = none) ∧ (s.port.joined .a = true) ∧ (s.port.serving .b = true))
    ∧ (∃ (s : State) (ch : Chan), (s.port.lostIsDue ch = true)) :=
  ⟨⟨State.reset.upd .a (fun c => { c with health := { c.health with report := some (0xFFFF#32, 255#8) } }), 0xFFFF#32, 255#8, by decide +kernel⟩, ⟨({ State.reset with port := { State.reset.port with start := { State.reset.port.start with up := true, linkUp := true, aligned := true }, assay := { State.reset.port.assay with stateA := .joined, stateB := .joined }, qblocks := [(0, { QBlock.reset with assigned := true })], queues := [(5, { QCtx.reset with conf := { QConf.reset with enable := true } })], fns := [(0, { Fn.reset with acuEnabled := true, windows := [(0, { Window.reset with read := true, write := true, on := true, pagesM1 := 0xFFFF#24 })] })] } } : State).updPort (fun p => { p with tide := 10, assay := { p.assay with reportB := some 5, reportA := some 9, healthA := 0xFFFF#32, scoreA := 255#8 } }), .b, by decide +kernel⟩, ⟨({ State.reset with port := { State.reset.port with start := { State.reset.port.start with up := true, linkUp := true, aligned := true }, assay := { State.reset.port.assay with stateA := .joined, stateB := .joined }, qblocks := [(0, { QBlock.reset with assigned := true })], queues := [(5, { QCtx.reset with conf := { QConf.reset with enable := true } })], fns := [(0, { Fn.reset with acuEnabled := true, windows := [(0, { Window.reset with read := true, write := true, on := true, pagesM1 := 0xFFFF#24 })] })] } } : State).updPort (fun p => { p with tide := 10 }), .b, by decide +kernel⟩, ⟨({ State.reset with port := { State.reset.port with start := { State.reset.port.start with up := true, linkUp := true, aligned := true }, assay := { State.reset.port.assay with stateA := .joined, stateB := .joined }, qblocks := [(0, { QBlock.reset with assigned := true })], queues := [(5, { QCtx.reset with conf := { QConf.reset with enable := true } })], fns := [(0, { Fn.reset with acuEnabled := true, windows := [(0, { Window.reset with read := true, write := true, on := true, pagesM1 := 0xFFFF#24 })] })] } } : State).upd .a (fun c => { c with faults := [.tamper] }), .tamper, [], by decide +kernel⟩, ⟨((({ State.reset with port := { State.reset.port with start := { State.reset.port.start with up := true, linkUp := true, aligned := true }, assay := { State.reset.port.assay with stateA := .joined, stateB := .joined }, qblocks := [(0, { QBlock.reset with assigned := true })], queues := [(5, { QCtx.reset with conf := { QConf.reset with enable := true } })], fns := [(0, { Fn.reset with acuEnabled := true, windows := [(0, { Window.reset with read := true, write := true, on := true, pagesM1 := 0xFFFF#24 })] })] } } : State).updPort (fun p => { p with outst := [({ intakeNo := 1, queue := 5#16, seq := 0#32, function := 0#8, halved := false, assayed := false, homeB := false, cls := 0#3, pkt := ({ hdr := ({ Header.parse (zeros 32) with version := 1#4, queue := 5#16 } : Header), payload := [], intakeTide := 0, intakeNo := 1 } : Packet), heapAt := 0, needA := true, needB := true, gotA := none, gotB := none, firstAt := none, written := false, windowOver := false, held := false, verdict := .discord } : Outst)], assay := { p.assay with resolve := some ({ intakeNo := 1, probeA := none, probeB := none, stale := false, lateTide := 3 } : Resolve) } })).upd .a (fun c => { c with sched := { c.sched with buffer := [({ queue := 5#16, seq := 0#32, function := 0#8, code := .ok, detail := 0#4, missed := false, result := [], tideLo := 0#32, cycles := 0, intakeNo := 1, halved := false, assayed := false } : CompRec)] } })), 7#64, ({ intakeNo := 1, probeA := none, probeB := none, stale := false, lateTide := 3 } : Resolve), ({ intakeNo := 1, queue := 5#16, seq := 0#32, function := 0#8, halved := false, assayed := false, homeB := false, cls := 0#3, pkt := ({ hdr := ({ Header.parse (zeros 32) with version := 1#4, queue := 5#16 } : Header), payload := [], intakeTide := 0, intakeNo := 1 } : Packet), heapAt := 0, needA := true, needB := true, gotA := none, gotB := none, firstAt := none, written := false, windowOver := false, held := false, verdict := .discord } : Outst), by decide +kernel⟩, ⟨((({ State.reset with port := { State.reset.port with start := { State.reset.port.start with up := true, linkUp := true, aligned := true }, assay := { State.reset.port.assay with stateA := .joined, stateB := .joined }, qblocks := [(0, { QBlock.reset with assigned := true })], queues := [(5, { QCtx.reset with conf := { QConf.reset with enable := true } })], fns := [(0, { Fn.reset with acuEnabled := true, windows := [(0, { Window.reset with read := true, write := true, on := true, pagesM1 := 0xFFFF#24 })] })] } } : State).updPort (fun p => { p with outst := [({ intakeNo := 1, queue := 5#16, seq := 0#32, function := 0#8, halved := false, assayed := false, homeB := false, cls := 0#3, pkt := ({ hdr := ({ Header.parse (zeros 32) with version := 1#4, queue := 5#16 } : Header), payload := [], intakeTide := 0, intakeNo := 1 } : Packet), heapAt := 0, needA := true, needB := true, gotA := none, gotB := none, firstAt := none, written := false, windowOver := false, held := false, verdict := .discord } : Outst)], assay := { p.assay with resolve := some ({ intakeNo := 1, probeA := none, probeB := none, stale := false, lateTide := 3 } : Resolve) } })).upd .a (fun c => { c with sched := { c.sched with buffer := [({ queue := 5#16, seq := 0#32, function := 0#8, code := .ok, detail := 0#4, missed := false, result := [], tideLo := 0#32, cycles := 0, intakeNo := 1, halved := false, assayed := false } : CompRec)] } })), .b, ({ intakeNo := 1, probeA := none, probeB := none, stale := false, lateTide := 3 } : Resolve), ({ intakeNo := 1, queue := 5#16, seq := 0#32, function := 0#8, halved := false, assayed := false, homeB := false, cls := 0#3, pkt := ({ hdr := ({ Header.parse (zeros 32) with version := 1#4, queue := 5#16 } : Header), payload := [], intakeTide := 0, intakeNo := 1 } : Packet), heapAt := 0, needA := true, needB := true, gotA := none, gotB := none, firstAt := none, written := false, windowOver := false, held := false, verdict := .discord } : Outst), by decide +kernel⟩, ⟨((({ State.reset with port := { State.reset.port with start := { State.reset.port.start with up := true, linkUp := true, aligned := true }, assay := { State.reset.port.assay with stateA := .joined, stateB := .joined }, qblocks := [(0, { QBlock.reset with assigned := true })], queues := [(5, { QCtx.reset with conf := { QConf.reset with enable := true } })], fns := [(0, { Fn.reset with acuEnabled := true, windows := [(0, { Window.reset with read := true, write := true, on := true, pagesM1 := 0xFFFF#24 })] })] } } : State).updPort (fun p => { p with outst := [({ intakeNo := 1, queue := 5#16, seq := 0#32, function := 0#8, halved := false, assayed := false, homeB := false, cls := 0#3, pkt := ({ hdr := ({ Header.parse (zeros 32) with version := 1#4, queue := 5#16 } : Header), payload := [], intakeTide := 0, intakeNo := 1 } : Packet), heapAt := 0, needA := true, needB := true, gotA := none, gotB := none, firstAt := none, written := false, windowOver := false, held := false, verdict := .discord } : Outst)], assay := { p.assay with resolve := some ({ intakeNo := 1, probeA := none, probeB := none, stale := false, lateTide := 3 } : Resolve) }, tide := 9 })).upd .a (fun c => { c with sched := { c.sched with buffer := [({ queue := 5#16, seq := 0#32, function := 0#8, code := .ok, detail := 0#4, missed := false, result := [], tideLo := 0#32, cycles := 0, intakeNo := 1, halved := false, assayed := false } : CompRec)] } })), .b, none, ({ intakeNo := 1, probeA := none, probeB := none, stale := false, lateTide := 3 } : Resolve), ({ intakeNo := 1, queue := 5#16, seq := 0#32, function := 0#8, halved := false, assayed := false, homeB := false, cls := 0#3, pkt := ({ hdr := ({ Header.parse (zeros 32) with version := 1#4, queue := 5#16 } : Header), payload := [], intakeTide := 0, intakeNo := 1 } : Packet), heapAt := 0, needA := true, needB := true, gotA := none, gotB := none, firstAt := none, written := false, windowOver := false, held := false, verdict := .discord } : Outst), by decide +kernel⟩, ⟨((({ State.reset with port := { State.reset.port with start := { State.reset.port.start with up := true, linkUp := true, aligned := true }, assay := { State.reset.port.assay with stateA := .joined, stateB := .joined }, qblocks := [(0, { QBlock.reset with assigned := true })], queues := [(5, { QCtx.reset with conf := { QConf.reset with enable := true } })], fns := [(0, { Fn.reset with acuEnabled := true, windows := [(0, { Window.reset with read := true, write := true, on := true, pagesM1 := 0xFFFF#24 })] })] } } : State).updPort (fun p => { p with outst := [({ intakeNo := 1, queue := 5#16, seq := 0#32, function := 0#8, halved := false, assayed := false, homeB := false, cls := 0#3, pkt := ({ hdr := ({ Header.parse (zeros 32) with version := 1#4, queue := 5#16 } : Header), payload := [], intakeTide := 0, intakeNo := 1 } : Packet), heapAt := 0, needA := true, needB := true, gotA := some ({ queue := 5#16, seq := 0#32, function := 0#8, code := .ok, detail := 0#4, missed := false, result := [], tideLo := 0#32, cycles := 0, intakeNo := 1, halved := false, assayed := false } : CompRec), gotB := none, firstAt := none, written := false, windowOver := false, held := false, verdict := .discord } : Outst)], assay := { p.assay with resolve := some ({ intakeNo := 1, probeA := some (({ queue := 5#16, seq := 0#32, function := 0#8, code := .ok, detail := 0#4, missed := false, result := [], tideLo := 0#32, cycles := 0, intakeNo := 1, halved := false, assayed := false } : CompRec)).check, probeB := none, stale := false, lateTide := 3 } : Resolve) }, tide := 9 })).upd .a (fun c => { c with sched := { c.sched with buffer := [({ queue := 5#16, seq := 0#32, function := 0#8, code := .ok, detail := 0#4, missed := false, result := [], tideLo := 0#32, cycles := 0, intakeNo := 1, halved := false, assayed := false } : CompRec)] } })), ({ intakeNo := 1, probeA := some (({ queue := 5#16, seq := 0#32, function := 0#8, code := .ok, detail := 0#4, missed := false, result := [], tideLo := 0#32, cycles := 0, intakeNo := 1, halved := false, assayed := false } : CompRec)).check, probeB := none, stale := false, lateTide := 3 } : Resolve), ({ intakeNo := 1, queue := 5#16, seq := 0#32, function := 0#8, halved := false, assayed := false, homeB := false, cls := 0#3, pkt := ({ hdr := ({ Header.parse (zeros 32) with version := 1#4, queue := 5#16 } : Header), payload := [], intakeTide := 0, intakeNo := 1 } : Packet), heapAt := 0, needA := true, needB := true, gotA := some ({ queue := 5#16, seq := 0#32, function := 0#8, code := .ok, detail := 0#4, missed := false, result := [], tideLo := 0#32, cycles := 0, intakeNo := 1, halved := false, assayed := false } : CompRec), gotB := none, firstAt := none, written := false, windowOver := false, held := false, verdict := .discord } : Outst), ({ queue := 5#16, seq := 0#32, function := 0#8, code := .ok, detail := 0#4, missed := false, result := [], tideLo := 0#32, cycles := 0, intakeNo := 1, halved := false, assayed := false } : CompRec), by decide +kernel⟩, ⟨({ State.reset with port := { State.reset.port with start := { State.reset.port.start with up := true, linkUp := true, aligned := true }, assay := { State.reset.port.assay with stateA := .joined, stateB := .joined }, qblocks := [(0, { QBlock.reset with assigned := true })], queues := [(5, { QCtx.reset with conf := { QConf.reset with enable := true } })], fns := [(0, { Fn.reset with acuEnabled := true, windows := [(0, { Window.reset with read := true, write := true, on := true, pagesM1 := 0xFFFF#24 })] })] } } : State).updPort (fun p => { p with tide := 9, assay := { p.assay with lostDue := [(true, 9)] } }), .b, by decide +kernel⟩⟩

/-- States and operands that meet the hypotheses of LastJoinedChannelIsKept, clause by clause. -/
theorem witness_LastJoinedChannelIsKept :
    (∃ (s : State) (ch : Chan), (s.port.joined ch = true) ∧ (s.port.joined ch.peer = false) ∧ (s.port.reportMissing ch = true))
    ∧ (∃ (s : State) (f : FaultCause) (l : List FaultCause), (s.port.joined .a = true) ∧ (s.port.joined .b = false) ∧ (s.a.faults = f :: l)) :=
  ⟨⟨({ State.reset with port := { State.reset.port with start := { State.reset.port.start with up := true, linkUp := true, aligned := true }, assay := { State.reset.port.assay with stateA := .joined, stateB := .joined }, qblocks := [(0, { QBlock.reset with assigned := true })], queues := [(5, { QCtx.reset with conf := { QConf.reset with enable := true } })], fns := [(0, { Fn.reset with acuEnabled := true, windows := [(0, { Window.reset with read := true, write := true, on := true, pagesM1 := 0xFFFF#24 })] })] } } : State).updPort (fun p => { p with tide := 9, assay := { p.assay with stateA := .retired, reportB := some 2 } }), .b, by decide +kernel⟩, ⟨(({ State.reset with port := { State.reset.port with start := { State.reset.port.start with up := true, linkUp := true, aligned := true }, assay := { State.reset.port.assay with stateA := .joined, stateB := .joined }, qblocks := [(0, { QBlock.reset with assigned := true })], queues := [(5, { QCtx.reset with conf := { QConf.reset with enable := true } })], fns := [(0, { Fn.reset with acuEnabled := true, windows := [(0, { Window.reset with read := true, write := true, on := true, pagesM1 := 0xFFFF#24 })] })] } } : State).updPort (fun p => { p with assay := { p.assay with stateB := .retired } })).upd .a (fun c => { c with faults := [.tamper] }), .tamper, [], by decide +kernel⟩⟩

/-- States and operands that meet the hypotheses of TideReportsAreCompared, clause by clause. -/
theorem witness_TideReportsAreCompared :
    (∃ (s : State) (a b : BitVec 16) (ka kb : Nat), (s.port.start.aligned = true) ∧ (s.a.aligned = true) ∧ (s.b.aligned = true) ∧ (s.twin) ∧ (s.port.tideDiffers (some a) ka = true) ∧ (s.port.tideDiffers (some b) kb = false))
    ∧ (∃ (s : State) (a b : BitVec 16) (ka kb : Nat), (s.port.start.aligned = true) ∧ (s.a.aligned = true) ∧ (s.b.aligned = true) ∧ (s.twin) ∧ (s.port.tideDiffers (some a) ka = false) ∧ (s.port.tideDiffers (some b) kb = true))
    ∧ (∃ (s : State) (a : BitVec 16) (ka kb : Nat), (s.port.start.aligned = true) ∧ (s.a.aligned = true) ∧ (s.b.aligned = true) ∧ (s.twin) ∧ (s.port.tideDiffers (some a) ka = true) ∧ (s.port.tideDiffers (some a) kb = true))
    ∧ (∃ (s : State) (a b : BitVec 16) (ka kb : Nat), (s.port.start.aligned = true) ∧ (s.a.aligned = true) ∧ (s.b.aligned = true) ∧ (s.twin) ∧ (s.port.tideDiffers (some a) ka = true) ∧ (s.port.tideDiffers (some b) kb = true) ∧ (a ≠ b)) :=
  ⟨⟨(({ State.reset with port := { State.reset.port with start := { State.reset.port.start with up := true, linkUp := true, aligned := true }, assay := { State.reset.port.assay with stateA := .joined, stateB := .joined }, qblocks := [(0, { QBlock.reset with assigned := true })], queues := [(5, { QCtx.reset with conf := { QConf.reset with enable := true } })], fns := [(0, { Fn.reset with acuEnabled := true, windows := [(0, { Window.reset with read := true, write := true, on := true, pagesM1 := 0xFFFF#24 })] })] } } : State).upd .a (fun c => { c with aligned := true })).upd .b (fun c => { c with aligned := true }), 1#16, 0#16, 0, 8, by decide +kernel, by decide +kernel, by decide +kernel, ⟨by decide +kernel, by decide +kernel⟩, by decide +kernel, by decide +kernel⟩, ⟨(({ State.reset with port := { State.reset.port with start := { State.reset.port.start with up := true, linkUp := true, aligned := true }, assay := { State.reset.port.assay with stateA := .joined, stateB := .joined }, qblocks := [(0, { QBlock.reset with assigned := true })], queues := [(5, { QCtx.reset with conf := { QConf.reset with enable := true } })], fns := [(0, { Fn.reset with acuEnabled := true, windows := [(0, { Window.reset with read := true, write := true, on := true, pagesM1 := 0xFFFF#24 })] })] } } : State).upd .a (fun c => { c with aligned := true })).upd .b (fun c => { c with aligned := true }), 0#16, 0#16, 0, 9, by decide +kernel, by decide +kernel, by decide +kernel, ⟨by decide +kernel, by decide +kernel⟩, by decide +kernel, by decide +kernel⟩, ⟨(({ State.reset with port := { State.reset.port with start := { State.reset.port.start with up := true, linkUp := true, aligned := true }, assay := { State.reset.port.assay with stateA := .joined, stateB := .joined }, qblocks := [(0, { QBlock.reset with assigned := true })], queues := [(5, { QCtx.reset with conf := { QConf.reset with enable := true } })], fns := [(0, { Fn.reset with acuEnabled := true, windows := [(0, { Window.reset with read := true, write := true, on := true, pagesM1 := 0xFFFF#24 })] })] } } : State).upd .a (fun c => { c with aligned := true })).upd .b (fun c => { c with aligned := true }), 7#16, 0, 0, by decide +kernel, by decide +kernel, by decide +kernel, ⟨by decide +kernel, by decide +kernel⟩, by decide +kernel, by decide +kernel⟩, ⟨(({ State.reset with port := { State.reset.port with start := { State.reset.port.start with up := true, linkUp := true, aligned := true }, assay := { State.reset.port.assay with stateA := .joined, stateB := .joined }, qblocks := [(0, { QBlock.reset with assigned := true })], queues := [(5, { QCtx.reset with conf := { QConf.reset with enable := true } })], fns := [(0, { Fn.reset with acuEnabled := true, windows := [(0, { Window.reset with read := true, write := true, on := true, pagesM1 := 0xFFFF#24 })] })] } } : State).upd .a (fun c => { c with aligned := true })).upd .b (fun c => { c with aligned := true }), 7#16, 8#16, 0, 0, by decide +kernel, by decide +kernel, by decide +kernel, ⟨by decide +kernel, by decide +kernel⟩, by decide +kernel, by decide +kernel, by decide +kernel⟩⟩

/-- States and operands that meet the hypotheses of TideIsAligned, clause by clause. -/
theorem witness_TideIsAligned :
    (∃ (s : State) (ch : Chan), (s.port.start.aligned = false) ∧ ((s.chan ch).aligned = false) ∧ ((s.chan ch).start.step ≠ .off) ∧ ((s.chan ch).start.step ≠ .halted))
    ∧ (∃ (s : State), (s.port.start.aligned = false) ∧ (s.port.start.lockA = true) ∧ (s.port.start.lockB = true))
    ∧ (∃ (s : State), (s.port.start.aligned = false) ∧ (s.port.start.lockA = true) ∧ (s.port.start.lockB = false))
    ∧ (∃ (s : State) (ch : Chan), (s.port.start.aligned = true) ∧ ((s.chan ch).aligned = false) ∧ ((s.chan ch).start.step ≠ .off) ∧ ((s.chan ch).start.step ≠ .halted)) :=
  ⟨⟨State.reset, .a, by decide +kernel⟩, ⟨State.reset.mapStart (fun t => { t with lockA := true, lockB := true }), by decide +kernel⟩, ⟨State.reset.mapStart (fun t => { t with lockA := true }), by decide +kernel⟩, ⟨State.reset.mapStart (fun t => { t with aligned := true }), .b, by decide +kernel⟩⟩

/-- States and operands that meet the hypotheses of BoundaryOpensTheNextTide, clause by clause. -/
theorem witness_BoundaryOpensTheNextTide :
    (∃ (s : State), (s.port.start.aligned = true) ∧ (s.port.start.refclk = true)) :=
  ⟨{ State.reset with port := { State.reset.port with start := { State.reset.port.start with up := true, linkUp := true, aligned := true }, assay := { State.reset.port.assay with stateA := .joined, stateB := .joined }, qblocks := [(0, { QBlock.reset with assigned := true })], queues := [(5, { QCtx.reset with conf := { QConf.reset with enable := true } })], fns := [(0, { Fn.reset with acuEnabled := true, windows := [(0, { Window.reset with read := true, write := true, on := true, pagesM1 := 0xFFFF#24 })] })] } }, by decide +kernel⟩

/-- States and operands that meet the hypotheses of TemperatureAndTrips, clause by clause. -/
theorem witness_TemperatureAndTrips :
    (∃ (s : State) (ch : Chan) (c : Int), ((s.chan ch).start.step ≠ .off))
    ∧ (∃ (s : State) (r : Int), (s.port.reading .a = some r) ∧ (115 ≤ r) ∧ (s.isSecond .a = false) ∧ (s.a.trips = false) ∧ (s.a.start.step ≠ .halted))
    ∧ (∃ (s : State) (ch : Chan), ((s.chan ch).thermal.tripFirst = true))
    ∧ (∃ (s : State) (ch : Chan), ((s.chan ch).thermal.tripSecond = true))
    ∧ (∃ (s : State) (ch : Chan), ((s.chan ch).start.step = .tripped) ∧ ((s.chan ch).resetOrder = false) ∧ (500000 ≤ (s.chan ch).thermal.coolTides)) :=
  ⟨⟨State.reset, .a, 60, by decide +kernel⟩, ⟨({ State.reset with port := { State.reset.port with start := { State.reset.port.start with up := true, linkUp := true, aligned := true }, assay := { State.reset.port.assay with stateA := .joined, stateB := .joined }, qblocks := [(0, { QBlock.reset with assigned := true })], queues := [(5, { QCtx.reset with conf := { QConf.reset with enable := true } })], fns := [(0, { Fn.reset with acuEnabled := true, windows := [(0, { Window.reset with read := true, write := true, on := true, pagesM1 := 0xFFFF#24 })] })] } } : State).updPort (fun p => { p with readA := some 116, readB := some 60 }), 116, by decide +kernel⟩, ⟨State.reset.upd .b (fun c => { c with thermal := { c.thermal with tripFirst := true } }), .b, by decide +kernel⟩, ⟨State.reset.upd .b (fun c => { c with thermal := { c.thermal with tripSecond := true } }), .b, by decide +kernel⟩, ⟨State.reset.upd .b (fun c => { c with start := { c.start with step := .tripped }, thermal := { c.thermal with coolTides := 500000 } }), .b, by decide +kernel⟩⟩

/-- States and operands that meet the hypotheses of RngStartSeedAndFailure, clause by clause. -/
theorem witness_RngStartSeedAndFailure :
    (∃ (s : State) (ch : Chan), ((s.chan ch).rng.state = .startTest))
    ∧ (∃ (s : State) (ch : Chan), ((s.chan ch).rng.state = .startTest))
    ∧ (∃ (s : State) (ch : Chan) (noise : Bytes), ((s.chan ch).rng.state = .seeding) ∧ ((s.chan ch).rng.unit = true))
    ∧ (∃ (s : State) (ch : Chan) (noise : Bytes), ((s.chan ch).rng.state = .seeding) ∧ ((s.chan ch).rng.unit = false) ∧ ((s.chan ch).aligned = false))
    ∧ (∃ (s : State) (ch : Chan) (cause : BitVec 3), ((s.chan ch).rng.state ≠ .failed) ∧ ((s.chan ch).rng.state ≠ .off) ∧ (cause ≠ 0#3) ∧ (cause.toNat ≤ 3))
    ∧ (∃ (s : State) (ch : Chan), ((s.chan ch).rng.state = .ready) ∧ ((65536 ≤ (s.chan ch).rng.drbgRequests ∨ (s.chan ch).rng.drbgSeedTide + 50000 ≤ (s.chan ch).tide)))
    ∧ (∃ (s : State) (ch : Chan) (noise : Bytes), ((s.chan ch).rng.state = .ready) ∧ ((s.chan ch).rng.reseedDue = true) ∧ ((s.chan ch).rng.unit = true)) :=
  ⟨⟨State.reset, .a, by decide +kernel⟩, ⟨State.reset, .b, by decide +kernel⟩, ⟨State.reset.upd .a (fun c => { c with aligned := true, rng := { c.rng with state := .seeding, pool := List.replicate 16 0#64 } }), .a, zeros 128, by decide +kernel⟩, ⟨State.reset.upd .a (fun c => { c with rng := { c.rng with state := .seeding } }), .a, zeros 128, by decide +kernel⟩, ⟨State.reset, .a, 2#3, by decide +kernel⟩, ⟨State.reset.upd .a (fun c => { c with tide := 50000, rng := { c.rng with state := .ready } }), .a, by decide +kernel⟩, ⟨State.reset.upd .a (fun c => { c with rng := { c.rng with state := .ready, reseedDue := true, pool := List.replicate 16 0#64 } }), .a, zeros 128, by decide +kernel⟩⟩

/-- States and operands that meet the hypotheses of RngPortDeliversWords, clause by clause. -/
theorem witness_RngPortDeliversWords :
    (∃ (s : State) (ch : Chan) (core : BitVec 6) (value : Word), ((s.chan ch).rng.state = .ready) ∧ ((s.chan ch).rng.reseedDue = false) ∧ (value.getLsbD 21 = true) ∧ (value.toNat / 256 % 8192 ≠ 0) ∧ (value.toNat / 256 % 8192 ≤ 4096))
    ∧ (∃ (s : State) (ch : Chan) (core : BitVec 6), (((s.chan ch).rng.port core.toNat).waiting = none)) :=
  ⟨⟨State.reset.upd .a (fun c => { c with rng := { c.rng with state := .ready } }), .a, 0#6, 0x201000#32, by decide +kernel⟩, ⟨State.reset, .a, 0#6, by decide +kernel⟩⟩

/-- States and operands that meet the hypotheses of TwinEpochIsRenewed, clause by clause. -/
theorem witness_TwinEpochIsRenewed :
    (∃ (s : State) (ch : Chan), (s.port.joined ch = true) ∧ ((s.chan ch).rng.epochTide ≠ 0) ∧ ((s.chan ch).rng.epochTide + 500000 ≤ (s.chan ch).tide))
    ∧ (∃ (s : State) (ch : Chan) (noise : Bytes), (s.forms ch = true) ∧ ((s.chan ch).mayContribute = true) ∧ ((s.chan ch).rng.unit = true))
    ∧ (∃ (s : State) (ch : Chan) (noise : Bytes), (s.forms ch = true) ∧ ((s.chan ch).mayContribute = true) ∧ ((s.chan ch).rng.unit = false) ∧ ((s.chan ch).aligned = false))
    ∧ (∃ (s : State) (ch : Chan) (r : Renewal) (own peer : Bytes), (s.forms ch = true) ∧ (s.forms ch.peer = true) ∧ (s.a.sluice = true) ∧ (s.b.sluice = true) ∧ ((s.chan ch).rng.renewal = some r) ∧ (r.own = some own) ∧ (r.formed = none) ∧ ((s.chan ch.peer).rng.renewal.bind (·.own) = some peer))
    ∧ (∃ (s : State) (k : Bytes), (s.port.epoch.target = none) ∧ (s.checking ≠ []) ∧ ((∀ ch ∈ s.checking, (s.chan ch).formed.map epochCheck = some k)))
    ∧ (∃ (s : State) (ch : Chan) (r : Renewal) (seed : Bytes) (n : Nat), (s.port.joined ch = true) ∧ ((s.chan ch).rng.renewal = some r) ∧ (r.formed = some seed) ∧ (r.target = some n) ∧ (n ≤ (s.chan ch).tide))
    ∧ (∃ (s : State) (ch : Chan) (n : Nat), (s.port.epoch.retryAt = some n) ∧ (n ≤ s.port.tide) ∧ (s.port.joined ch = true))
    ∧ (∃ (s : State) (ch : Chan) (r : Renewal) (own : Bytes), (s.port.joined ch = true) ∧ (s.port.joined ch.peer = false) ∧ ((s.chan ch).rng.renewal = some r) ∧ (r.own = some own) ∧ (r.formed = none) ∧ ((s.port.assay.st ch.peer = .retired ∨ r.askedAt + 64 ≤ (s.chan ch).tide))) :=
  ⟨⟨({ ({ State.reset with port := { State.reset.port with assay := { State.reset.port.assay with stateA := .joined, stateB := .joined } } } : State) with a := { ({ State.reset with port := { State.reset.port with assay := { State.reset.port.assay with stateA := .joined, stateB := .joined } } } : State).a with tide := 500002, rng := { ({ State.reset with port := { State.reset.port with assay := { State.reset.port.assay with stateA := .joined, stateB := .joined } } } : State).a.rng with epochTide := 2 } } } : State), .a, by decide +kernel⟩, ⟨(({ State.reset with port := { State.reset.port with assay := { State.reset.port.assay with stateA := .joined, stateB := .joined } } } : State).upd .a (fun c => { c with rng := { c.rng with state := .ready, pool := List.replicate 16 0#64, renewal := some Renewal.fresh } })), .a, zeros 128, by decide +kernel⟩, ⟨(({ State.reset with port := { State.reset.port with assay := { State.reset.port.assay with stateA := .joined, stateB := .joined } } } : State).upd .a (fun c => { c with rng := { c.rng with state := .ready, renewal := some Renewal.fresh } })), .a, zeros 128, by decide +kernel⟩, ⟨(({ State.reset with port := { State.reset.port with assay := { State.reset.port.assay with stateA := .joined, stateB := .joined } } } : State).upd .a (fun c => { c with sluice := true, rng := { c.rng with renewal := some { Renewal.fresh with own := some (zeros 128), formed := none, target := none } } })).upd .b (fun c => { c with sluice := true, rng := { c.rng with renewal := some { Renewal.fresh with own := some (zeros 128), formed := none, target := none } } }), .a, { Renewal.fresh with own := some (zeros 128), formed := none, target := none }, zeros 128, zeros 128, by decide +kernel⟩, ⟨(({ State.reset with port := { State.reset.port with assay := { State.reset.port.assay with stateA := .joined, stateB := .joined } } } : State).upd .a (fun c => { c with rng := { c.rng with renewal := some { Renewal.fresh with own := none, formed := some (zeros 64), target := none } } })).upd .b (fun c => { c with rng := { c.rng with renewal := some { Renewal.fresh with own := none, formed := some (zeros 64), target := none } } }), epochCheck (zeros 64), ⟨rfl, by decide +kernel, fun ch _ => by cases ch <;> rfl⟩⟩, ⟨(({ State.reset with port := { State.reset.port with assay := { State.reset.port.assay with stateA := .joined, stateB := .joined } } } : State).upd .a (fun c => { c with tide := 2, rng := { c.rng with renewal := some { Renewal.fresh with own := none, formed := some (zeros 64), target := some 2 } } })), .a, { Renewal.fresh with own := none, formed := some (zeros 64), target := some 2 }, zeros 64, 2, by decide +kernel⟩, ⟨(({ State.reset with port := { State.reset.port with assay := { State.reset.port.assay with stateA := .joined, stateB := .joined } } } : State).updPort (fun p => { p with epoch := { p.epoch with retryAt := some 0 } })), .a, 0, by decide +kernel⟩, ⟨(({ State.reset with port := { State.reset.port with assay := { State.reset.port.assay with stateA := .joined, stateB := .retired } } } : State).upd .a (fun c => { c with rng := { c.rng with renewal := some { Renewal.fresh with own := some (zeros 128), formed := none, target := none } } })), .a, { Renewal.fresh with own := some (zeros 128), formed := none, target := none }, zeros 128, by decide +kernel⟩⟩

/-- States and operands that meet the hypotheses of UnitCountsStay, clause by clause. -/
theorem witness_UnitCountsStay :
    (∃ (s t : State), ((∀ ch, (s.chan ch).unitsWhole = true)) ∧ (step s = .next t)) :=
  ⟨State.reset, State.reset.idle, ⟨fun ch => by cases ch <;> decide +kernel, rfl⟩⟩

/-- States and operands that meet the hypotheses of OperationsAreDecoded, clause by clause. -/
theorem witness_OperationsAreDecoded :
    (∃ (s : State) (ch : Chan) (o : Op) (k : Packet) (l : List Packet), ((s.chan ch).sched.fanout = k :: l) ∧ (Op.ofCode k.hdr.opcode.toNat = some o) ∧ ((s.chan ch).tableFull = false) ∧ ((s.chan ch).refill.awaitHandover = false) ∧ ((s.chan ch).stalls ((s.chan ch).sched.nextItem % 4) = false))
    ∧ (∃ (s : State) (ch : Chan) (k : Packet) (l : List Packet), ((s.chan ch).sched.fanout = k :: l) ∧ ((s.chan ch).tableFull = false) ∧ ((s.chan ch).refill.awaitHandover = false) ∧ ((s.chan ch).stalls ((s.chan ch).sched.nextItem % 4) = false))
    ∧ (∃ (s : State) (ch : Chan) (k : Packet) (l : List Packet), ((s.chan ch).sched.fanout = k :: l) ∧ (Op.ofCode k.hdr.opcode.toNat = none) ∧ ((s.chan ch).tableFull = false) ∧ ((s.chan ch).refill.awaitHandover = false) ∧ ((s.chan ch).stalls ((s.chan ch).sched.nextItem % 4) = false)) :=
  ⟨⟨(({ State.reset with port := { State.reset.port with start := { State.reset.port.start with up := true, linkUp := true, aligned := true }, assay := { State.reset.port.assay with stateA := .joined, stateB := .joined }, qblocks := [(0, { QBlock.reset with assigned := true })], queues := [(5, { QCtx.reset with conf := { QConf.reset with enable := true } })], fns := [(0, { Fn.reset with acuEnabled := true, windows := [(0, { Window.reset with read := true, write := true, on := true, pagesM1 := 0xFFFF#24 })] })] } } : State).upd .a (fun c => { c with sched := { c.sched with fanout := [{ ({ hdr := ({ Header.parse (zeros 32) with version := 1#4, queue := 5#16 } : Header), payload := zeros 64, intakeTide := 0, intakeNo := 1 } : Packet) with hdr := { ({ Header.parse (zeros 32) with version := 1#4, queue := 5#16 } : Header) with opcode := BitVec.ofNat 16 Op.echo.code } }] } })), .a, .echo, { ({ hdr := ({ Header.parse (zeros 32) with version := 1#4, queue := 5#16 } : Header), payload := zeros 64, intakeTide := 0, intakeNo := 1 } : Packet) with hdr := { ({ Header.parse (zeros 32) with version := 1#4, queue := 5#16 } : Header) with opcode := BitVec.ofNat 16 Op.echo.code } }, [], by decide +kernel⟩, ⟨(({ State.reset with port := { State.reset.port with start := { State.reset.port.start with up := true, linkUp := true, aligned := true }, assay := { State.reset.port.assay with stateA := .joined, stateB := .joined }, qblocks := [(0, { QBlock.reset with assigned := true })], queues := [(5, { QCtx.reset with conf := { QConf.reset with enable := true } })], fns := [(0, { Fn.reset with acuEnabled := true, windows := [(0, { Window.reset with read := true, write := true, on := true, pagesM1 := 0xFFFF#24 })] })] } } : State).upd .a (fun c => { c with sched := { c.sched with fanout := [({ hdr := ({ Header.parse (zeros 32) with version := 1#4, queue := 5#16 } : Header), payload := zeros 64, intakeTide := 0, intakeNo := 1 } : Packet)] } })), .a, ({ hdr := ({ Header.parse (zeros 32) with version := 1#4, queue := 5#16 } : Header), payload := zeros 64, intakeTide := 0, intakeNo := 1 } : Packet), [], by decide +kernel⟩, ⟨(({ State.reset with port := { State.reset.port with start := { State.reset.port.start with up := true, linkUp := true, aligned := true }, assay := { State.reset.port.assay with stateA := .joined, stateB := .joined }, qblocks := [(0, { QBlock.reset with assigned := true })], queues := [(5, { QCtx.reset with conf := { QConf.reset with enable := true } })], fns := [(0, { Fn.reset with acuEnabled := true, windows := [(0, { Window.reset with read := true, write := true, on := true, pagesM1 := 0xFFFF#24 })] })] } } : State).upd .a (fun c => { c with sched := { c.sched with fanout := [({ hdr := ({ Header.parse (zeros 32) with version := 1#4, queue := 5#16 } : Header), payload := zeros 64, intakeTide := 0, intakeNo := 1 } : Packet)] } })), .a, ({ hdr := ({ Header.parse (zeros 32) with version := 1#4, queue := 5#16 } : Header), payload := zeros 64, intakeTide := 0, intakeNo := 1 } : Packet), [], by decide +kernel⟩⟩

/-- States and operands that meet the hypotheses of OperationsComplete, clause by clause. -/
theorem witness_OperationsComplete :
    (∃ (s : State) (ch : Chan) (o : Op) (id k : Nat) (x : Item) (r : Channel × Res), ((s.chan ch).onCore id = some (x, k)) ∧ (x.op = o) ∧ (x.stage ≠ 0) ∧ ((s.chan ch).resetHolds x = false) ∧ ((s.chan ch).coreStalled k = false) ∧ (x.rngFailed = false) ∧ ((engineOf x.op == .pk && pkLeft x ((s.chan ch).held x)) = false) ∧ (r = (s.chan ch).run x ((s.chan ch).held x)) ∧ ((s.chan ch).install? x r = none))
    ∧ (∃ (s : State) (ch : Chan) (o : Op) (id k : Nat) (x : Item), ((s.chan ch).onCore id = some (x, k)) ∧ (x.op = o) ∧ (x.stage ≠ 0) ∧ ((s.chan ch).resetHolds x = false) ∧ ((s.chan ch).coreStalled k = false) ∧ (x.rngFailed = true))
    ∧ (∃ (s : State) (ch : Chan) (o : Op) (id k : Nat) (x : Item) (h : Bool), ((s.chan ch).onCore id = some (x, k)) ∧ (x.op = o) ∧ ((s.chan ch).resetHolds x = false) ∧ ((s.chan ch).coreStalled k = false) ∧ (x.memoryFaults = true))
    ∧ (∃ (s : State) (ch : Chan) (o : Op) (id k : Nat) (x : Item) (h : Bool) (a : BitVec 64), ((s.chan ch).onCore id = some (x, k)) ∧ (x.op = o) ∧ ((s.chan ch).resetHolds x = false) ∧ ((s.chan ch).coreStalled k = false) ∧ (permits ((s.chan ch).regionsOf k) h false a.toNat = false)) :=
  ⟨⟨(({ State.reset with port := { State.reset.port with start := { State.reset.port.start with up := true, linkUp := true, aligned := true }, assay := { State.reset.port.assay with stateA := .joined, stateB := .joined }, qblocks := [(0, { QBlock.reset with assigned := true })], queues := [(5, { QCtx.reset with conf := { QConf.reset with enable := true } })], fns := [(0, { Fn.reset with acuEnabled := true, windows := [(0, { Window.reset with read := true, write := true, on := true, pagesM1 := 0xFFFF#24 })] })] } } : State).upd .a (fun c => { c with sched := { c.sched with items := [({ Item.new 0 .getRandom ({ hdr := ({ Header.parse (zeros 32) with version := 1#4, queue := 5#16 } : Header), payload := zeros 64, intakeTide := 0, intakeNo := 1 } : Packet) with phase := .running 3, stage := 1 } : Item)] } })), .a, .getRandom, 0, 3, ({ Item.new 0 .getRandom ({ hdr := ({ Header.parse (zeros 32) with version := 1#4, queue := 5#16 } : Header), payload := zeros 64, intakeTide := 0, intakeNo := 1 } : Packet) with phase := .running 3, stage := 1 } : Item), (((({ State.reset with port := { State.reset.port with start := { State.reset.port.start with up := true, linkUp := true, aligned := true }, assay := { State.reset.port.assay with stateA := .joined, stateB := .joined }, qblocks := [(0, { QBlock.reset with assigned := true })], queues := [(5, { QCtx.reset with conf := { QConf.reset with enable := true } })], fns := [(0, { Fn.reset with acuEnabled := true, windows := [(0, { Window.reset with read := true, write := true, on := true, pagesM1 := 0xFFFF#24 })] })] } } : State).upd .a (fun c => { c with sched := { c.sched with items := [({ Item.new 0 .getRandom ({ hdr := ({ Header.parse (zeros 32) with version := 1#4, queue := 5#16 } : Header), payload := zeros 64, intakeTide := 0, intakeNo := 1 } : Packet) with phase := .running 3, stage := 1 } : Item)] } })).chan .a), Res.good []), by decide +kernel, by decide +kernel, by decide +kernel, by decide +kernel, by decide +kernel, by decide +kernel, by decide +kernel, rfl, by decide +kernel⟩, ⟨(({ State.reset with port := { State.reset.port with start := { State.reset.port.start with up := true, linkUp := true, aligned := true }, assay := { State.reset.port.assay with stateA := .joined, stateB := .joined }, qblocks := [(0, { QBlock.reset with assigned := true })], queues := [(5, { QCtx.reset with conf := { QConf.reset with enable := true } })], fns := [(0, { Fn.reset with acuEnabled := true, windows := [(0, { Window.reset with read := true, write := true, on := true, pagesM1 := 0xFFFF#24 })] })] } } : State).upd .a (fun c => { c with sched := { c.sched with items := [({ Item.new 0 .getRandom ({ hdr := ({ Header.parse (zeros 32) with version := 1#4, queue := 5#16 } : Header), payload := zeros 64, intakeTide := 0, intakeNo := 1 } : Packet) with phase := .running 3, stage := 1, rngFailed := true } : Item)] } })), .a, .getRandom, 0, 3, ({ Item.new 0 .getRandom ({ hdr := ({ Header.parse (zeros 32) with version := 1#4, queue := 5#16 } : Header), payload := zeros 64, intakeTide := 0, intakeNo := 1 } : Packet) with phase := .running 3, stage := 1, rngFailed := true } : Item), by decide +kernel⟩, ⟨(({ State.reset with port := { State.reset.port with start := { State.reset.port.start with up := true, linkUp := true, aligned := true }, assay := { State.reset.port.assay with stateA := .joined, stateB := .joined }, qblocks := [(0, { QBlock.reset with assigned := true })], queues := [(5, { QCtx.reset with conf := { QConf.reset with enable := true } })], fns := [(0, { Fn.reset with acuEnabled := true, windows := [(0, { Window.reset with read := true, write := true, on := true, pagesM1 := 0xFFFF#24 })] })] } } : State).upd .a (fun c => { c with sched := { c.sched with items := [({ Item.new 0 .getRandom ({ hdr := ({ Header.parse (zeros 32) with version := 1#4, queue := 5#16 } : Header), payload := zeros 64, intakeTide := 0, intakeNo := 1 } : Packet) with phase := .running 3 } : Item)] } })), .a, .getRandom, 0, 3, ({ Item.new 0 .getRandom ({ hdr := ({ Header.parse (zeros 32) with version := 1#4, queue := 5#16 } : Header), payload := zeros 64, intakeTide := 0, intakeNo := 1 } : Packet) with phase := .running 3 } : Item), false, by decide +kernel⟩, ⟨(({ State.reset with port := { State.reset.port with start := { State.reset.port.start with up := true, linkUp := true, aligned := true }, assay := { State.reset.port.assay with stateA := .joined, stateB := .joined }, qblocks := [(0, { QBlock.reset with assigned := true })], queues := [(5, { QCtx.reset with conf := { QConf.reset with enable := true } })], fns := [(0, { Fn.reset with acuEnabled := true, windows := [(0, { Window.reset with read := true, write := true, on := true, pagesM1 := 0xFFFF#24 })] })] } } : State).upd .a (fun c => { c with sched := { c.sched with items := [({ Item.new 0 .getRandom ({ hdr := ({ Header.parse (zeros 32) with version := 1#4, queue := 5#16 } : Header), payload := zeros 64, intakeTide := 0, intakeNo := 1 } : Packet) with phase := .running 3 } : Item)] } })), .a, .getRandom, 0, 3, ({ Item.new 0 .getRandom ({ hdr := ({ Header.parse (zeros 32) with version := 1#4, queue := 5#16 } : Header), payload := zeros 64, intakeTide := 0, intakeNo := 1 } : Packet) with phase := .running 3 } : Item), true, 0#64, by decide +kernel⟩⟩

/-- A state and a command that meet the hypotheses of OneChannelCommandsStayThere. -/
theorem witness_OneChannelCommandsStayThere : ∃ t, exec (opRow .echo .a .decode) State.reset = .next t := ⟨_, rfl⟩

/-- States and operands that meet the hypotheses of SchedulerEventsAct, clause by clause. -/
theorem witness_SchedulerEventsAct :
    (∃ (s : State) (ch : Chan) (k : Packet) (l : List Packet), ((s.chan ch).sched.fanout = k :: l) ∧ (k.intakeTide + 16 ≤ (s.chan ch).tide))
    ∧ (∃ (s : State) (ch : Chan) (x : Item) (l : List Item) (n : Nat), ((s.chan ch).sched.items = x :: l) ∧ (x.phase = .delayed n) ∧ (n ≤ (s.chan ch).tide))
    ∧ (∃ (s : State) (ch : Chan) (id : Nat) (x : Item), ((s.chan ch).item? id = some x) ∧ (x.phase = .waiting) ∧ (x.startTide = none) ∧ ((s.chan ch).startable x = true) ∧ (x.skim = false) ∧ ((∀ z ∈ (s.chan ch).sched.cores, z.item ≠ some id)))
    ∧ (∃ (s : State) (ch : Chan) (k : BitVec 6) (z : Core) (x : Item), ((s.chan ch).sched.cores[k.toNat]? = some z) ∧ (z.item = none) ∧ (z.out = false) ∧ (z.since ≤ (s.chan ch).now) ∧ ((s.chan ch).sched.next.bind (s.chan ch).item? = some x))
    ∧ (∃ (s : State) (ch : Chan) (k : BitVec 6) (x : Item) (j : Nat), (((s.chan ch).sched.cores[k.toNat]?.bind (·.item)).bind (s.chan ch).item? = some x) ∧ (x.phase = .running j) ∧ (x.sliceStart + 3584 ≤ (s.chan ch).now))
    ∧ (∃ (s : State) (ch : Chan) (r : Produced), ((s.chan ch).sched.buffer.length < 512) ∧ ((s.chan ch).offered ((s.chan ch).sched.pointer % 80) = some r))
    ∧ (∃ (s : State) (ch : Chan) (id : Nat) (x : Item), ((s.chan ch).item? id = some x) ∧ ((s.chan ch).missDue x = true) ∧ ((∀ z ∈ (s.chan ch).sched.cores, z.item ≠ some id))) :=
  ⟨⟨(({ State.reset with port := { State.reset.port with start := { State.reset.port.start with up := true, linkUp := true, aligned := true }, assay := { State.reset.port.assay with stateA := .joined, stateB := .joined }, qblocks := [(0, { QBlock.reset with assigned := true })], queues := [(5, { QCtx.reset with conf := { QConf.reset with enable := true } })], fns := [(0, { Fn.reset with acuEnabled := true, windows := [(0, { Window.reset with read := true, write := true, on := true, pagesM1 := 0xFFFF#24 })] })] } } : State).upd .a (fun c => { c with tide := 16, sched := { c.sched with fanout := [({ hdr := ({ Header.parse (zeros 32) with version := 1#4, queue := 5#16 } : Header), payload := zeros 64, intakeTide := 0, intakeNo := 1 } : Packet)] } })), .a, ({ hdr := ({ Header.parse (zeros 32) with version := 1#4, queue := 5#16 } : Header), payload := zeros 64, intakeTide := 0, intakeNo := 1 } : Packet), [], by decide +kernel⟩, ⟨(({ State.reset with port := { State.reset.port with start := { State.reset.port.start with up := true, linkUp := true, aligned := true }, assay := { State.reset.port.assay with stateA := .joined, stateB := .joined }, qblocks := [(0, { QBlock.reset with assigned := true })], queues := [(5, { QCtx.reset with conf := { QConf.reset with enable := true } })], fns := [(0, { Fn.reset with acuEnabled := true, windows := [(0, { Window.reset with read := true, write := true, on := true, pagesM1 := 0xFFFF#24 })] })] } } : State).upd .a (fun c => { c with sched := { c.sched with items := [({ Item.new 0 .echo ({ hdr := ({ Header.parse (zeros 32) with version := 1#4, queue := 5#16 } : Header), payload := zeros 64, intakeTide := 0, intakeNo := 1 } : Packet) with phase := .delayed 0 } : Item)], delayTwin := [0] } })), .a, ({ Item.new 0 .echo ({ hdr := ({ Header.parse (zeros 32) with version := 1#4, queue := 5#16 } : Header), payload := zeros 64, intakeTide := 0, intakeNo := 1 } : Packet) with phase := .delayed 0 } : Item), [], 0, by decide +kernel⟩, ⟨(({ State.reset with port := { State.reset.port with start := { State.reset.port.start with up := true, linkUp := true, aligned := true }, assay := { State.reset.port.assay with stateA := .joined, stateB := .joined }, qblocks := [(0, { QBlock.reset with assigned := true })], queues := [(5, { QCtx.reset with conf := { QConf.reset with enable := true } })], fns := [(0, { Fn.reset with acuEnabled := true, windows := [(0, { Window.reset with read := true, write := true, on := true, pagesM1 := 0xFFFF#24 })] })] } } : State).upd .a (fun c => { c with sched := { c.sched with items := [({ Item.new 0 .getRandom ({ hdr := ({ Header.parse (zeros 32) with version := 1#4, queue := 5#16 } : Header), payload := zeros 64, intakeTide := 0, intakeNo := 1 } : Packet) with phase := .waiting } : Item)] } })), .a, 0, ({ Item.new 0 .getRandom ({ hdr := ({ Header.parse (zeros 32) with version := 1#4, queue := 5#16 } : Header), payload := zeros 64, intakeTide := 0, intakeNo := 1 } : Packet) with phase := .waiting } : Item), by decide +kernel⟩, ⟨(({ State.reset with port := { State.reset.port with start := { State.reset.port.start with up := true, linkUp := true, aligned := true }, assay := { State.reset.port.assay with stateA := .joined, stateB := .joined }, qblocks := [(0, { QBlock.reset with assigned := true })], queues := [(5, { QCtx.reset with conf := { QConf.reset with enable := true } })], fns := [(0, { Fn.reset with acuEnabled := true, windows := [(0, { Window.reset with read := true, write := true, on := true, pagesM1 := 0xFFFF#24 })] })] } } : State).upd .a (fun c => { c with sched := { c.sched with items := [({ Item.new 0 .getRandom ({ hdr := ({ Header.parse (zeros 32) with version := 1#4, queue := 5#16 } : Header), payload := zeros 64, intakeTide := 0, intakeNo := 1 } : Packet) with phase := .ready } : Item)], ready := [[0]] } })), .a, 3#6, Core.idle, ({ Item.new 0 .getRandom ({ hdr := ({ Header.parse (zeros 32) with version := 1#4, queue := 5#16 } : Header), payload := zeros 64, intakeTide := 0, intakeNo := 1 } : Packet) with phase := .ready } : Item), by decide +kernel⟩, ⟨(({ State.reset with port := { State.reset.port with start := { State.reset.port.start with up := true, linkUp := true, aligned := true }, assay := { State.reset.port.assay with stateA := .joined, stateB := .joined }, qblocks := [(0, { QBlock.reset with assigned := true })], queues := [(5, { QCtx.reset with conf := { QConf.reset with enable := true } })], fns := [(0, { Fn.reset with acuEnabled := true, windows := [(0, { Window.reset with read := true, write := true, on := true, pagesM1 := 0xFFFF#24 })] })] } } : State).upd .a (fun c => { c with tide := 1, sched := { c.sched with items := [({ Item.new 0 .getRandom ({ hdr := ({ Header.parse (zeros 32) with version := 1#4, queue := 5#16 } : Header), payload := zeros 64, intakeTide := 0, intakeNo := 1 } : Packet) with phase := .running 0 } : Item)], cores := [{ Core.idle with item := some 0 }] } })), .a, 0#6, ({ Item.new 0 .getRandom ({ hdr := ({ Header.parse (zeros 32) with version := 1#4, queue := 5#16 } : Header), payload := zeros 64, intakeTide := 0, intakeNo := 1 } : Packet) with phase := .running 0 } : Item), 0, by decide +kernel⟩, ⟨(({ State.reset with port := { State.reset.port with start := { State.reset.port.start with up := true, linkUp := true, aligned := true }, assay := { State.reset.port.assay with stateA := .joined, stateB := .joined }, qblocks := [(0, { QBlock.reset with assigned := true })], queues := [(5, { QCtx.reset with conf := { QConf.reset with enable := true } })], fns := [(0, { Fn.reset with acuEnabled := true, windows := [(0, { Window.reset with read := true, write := true, on := true, pagesM1 := 0xFFFF#24 })] })] } } : State).upd .a (fun c => { c with sched := { c.sched with produced := [{ producer := 0, readyAt := 0, item := none, record := (({ Item.new 0 .echo ({ hdr := ({ Header.parse (zeros 32) with version := 1#4, queue := 5#16 } : Header), payload := zeros 64, intakeTide := 0, intakeNo := 1 } : Packet) with phase := .waiting } : Item)).record (.good []) }] } })), .a, { producer := 0, readyAt := 0, item := none, record := (({ Item.new 0 .echo ({ hdr := ({ Header.parse (zeros 32) with version := 1#4, queue := 5#16 } : Header), payload := zeros 64, intakeTide := 0, intakeNo := 1 } : Packet) with phase := .waiting } : Item)).record (.good []) }, by decide +kernel⟩, ⟨(({ State.reset with port := { State.reset.port with start := { State.reset.port.start with up := true, linkUp := true, aligned := true }, assay := { State.reset.port.assay with stateA := .joined, stateB := .joined }, qblocks := [(0, { QBlock.reset with assigned := true })], queues := [(5, { QCtx.reset with conf := { QConf.reset with enable := true } })], fns := [(0, { Fn.reset with acuEnabled := true, windows := [(0, { Window.reset with read := true, write := true, on := true, pagesM1 := 0xFFFF#24 })] })] } } : State).upd .a (fun c => { c with tide := 5, sched := { c.sched with items := [({ Item.new 0 .getRandom ({ hdr := ({ Header.parse (zeros 32) with version := 1#4, queue := 5#16 } : Header), payload := zeros 64, intakeTide := 0, intakeNo := 1 } : Packet) with phase := .ready, due := some 3 } : Item)] } })), .a, 0, ({ Item.new 0 .getRandom ({ hdr := ({ Header.parse (zeros 32) with version := 1#4, queue := 5#16 } : Header), payload := zeros 64, intakeTide := 0, intakeNo := 1 } : Packet) with phase := .ready, due := some 3 } : Item), by decide +kernel⟩⟩

/-- States and operands that meet the hypotheses of WaitsEndOrGoOn, clause by clause. -/
theorem witness_WaitsEndOrGoOn :
    (∃ (s : State) (ch : Chan) (id e : Nat) (x : Item), ((s.chan ch).item? id = some x) ∧ (x.limit = some e) ∧ (e ≤ (s.chan ch).tide) ∧ (x.expiryPending = false) ∧ (x.halved = true) ∧ (x.waits = true))
    ∧ (∃ (s : State) (ch : Chan) (id e : Nat) (x : Item), ((s.chan ch).item? id = some x) ∧ (x.limit = some e) ∧ (e ≤ (s.chan ch).tide) ∧ (x.expiryPending = false) ∧ (x.halved = false) ∧ (x.waits = true))
    ∧ (∃ (s : State) (n : Nat) (v : WaitVote), (s.port.waits.find? (fun v => v.intakeNo == n) = some v) ∧ (v.expire = some true) ∧ (v.e + 2 ≤ s.port.tide))
    ∧ (∃ (s : State) (ch : Chan) (id : Nat) (x : Item), ((s.chan ch).item? id = some x) ∧ (x.phase = .draining) ∧ ((s.chan ch).slotUsers (leAt x.p 0 4) id = false) ∧ (x.expiryPending = false) ∧ (x.startTide = none) ∧ ((∀ z ∈ (s.chan ch).sched.cores, z.item ≠ some id)))
    ∧ (∃ (s : State) (ch : Chan) (id : Nat) (x : Item), ((s.chan ch).item? id = some x) ∧ (x.phase = .shadowWait) ∧ ((s.chan ch).keys.retainedUsed + (s.chan ch).sched.heldShadow + x.shadow ≤ writerShadow) ∧ ((∀ z ∈ (s.chan ch).sched.cores, z.item ≠ some id)))
    ∧ (∃ (s : State) (ch : Chan) (slot : BitVec 28) (g : BitVec 16), ((s.chan ch).keys.fills.find? (fun f => f.slot == slot.toNat && f.waitsForWay) = none) ∧ (((s.chan ch).sched.items.flatMap (·.fills)).find? (fun w => w.1 == slot.toNat && !(s.chan ch).keys.fills.any (fun f => f.slot == slot.toNat && f.generation == w.2)) = some (slot.toNat, g)) ∧ ((s.chan ch).keys.filling < 2))
    ∧ (∃ (s : State) (ch : Chan) (slot : BitVec 28) (f : FillJob), ((s.chan ch).keys.fills.find? (fun f => f.slot == slot.toNat && !f.waitsForWay && decide (f.startedAt + 1500 ≤ (s.chan ch).now)) = some f) ∧ ((match (s.chan ch).keys.load slot.toNat f.generation with | .loaded .. => !(s.chan ch).setOpen slot.toNat f.generation | _ => false) = false))
    ∧ (∃ (s : State) (ch : Chan) (slot : BitVec 28) (g : BitVec 16), ((s.chan ch).keys.reported.find? (fun r => r.1 == slot.toNat) = some (slot.toNat, g)) ∧ (s.port.exhaust.any (fun t => t.slot == slot.toNat && t.generation == g) = false))
    ∧ (∃ (s : State) (ch : Chan) (slot : BitVec 28) (g : BitVec 16) (n : Nat), ((s.chan ch).keys.exhaustAt.find? (fun t => t.1 == slot.toNat && decide (t.2.2 ≤ (s.chan ch).tide) && (match (s.chan ch).keys.load slot.toNat t.2.1 with | .loaded _ y _ _ => !y.exhausted | _ => false)) = some (slot.toNat, g, n))) :=
  ⟨⟨(({ State.reset with port := { State.reset.port with start := { State.reset.port.start with up := true, linkUp := true, aligned := true }, assay := { State.reset.port.assay with stateA := .joined, stateB := .joined }, qblocks := [(0, { QBlock.reset with assigned := true })], queues := [(5, { QCtx.reset with conf := { QConf.reset with enable := true } })], fns := [(0, { Fn.reset with acuEnabled := true, windows := [(0, { Window.reset with read := true, write := true, on := true, pagesM1 := 0xFFFF#24 })] })] } } : State).upd .a (fun c => { c with tide := 5, sched := { c.sched with items := [{ ({ Item.new 0 .getRandom ({ hdr := ({ Header.parse (zeros 32) with version := 1#4, queue := 5#16 } : Header), payload := zeros 64, intakeTide := 0, intakeNo := 1 } : Packet) with phase := .waiting } : Item) with pkt := { ({ hdr := ({ Header.parse (zeros 32) with version := 1#4, queue := 5#16 } : Header), payload := zeros 64, intakeTide := 0, intakeNo := 1 } : Packet) with hdr := { ({ Header.parse (zeros 32) with version := 1#4, queue := 5#16 } : Header) with halved := true, waitValue := 1#15 } }, admitAt := some 0 }] } })), .a, 0, 1, { ({ Item.new 0 .getRandom ({ hdr := ({ Header.parse (zeros 32) with version := 1#4, queue := 5#16 } : Header), payload := zeros 64, intakeTide := 0, intakeNo := 1 } : Packet) with phase := .waiting } : Item) with pkt := { ({ hdr := ({ Header.parse (zeros 32) with version := 1#4, queue := 5#16 } : Header), payload := zeros 64, intakeTide := 0, intakeNo := 1 } : Packet) with hdr := { ({ Header.parse (zeros 32) with version := 1#4, queue := 5#16 } : Header) with halved := true, waitValue := 1#15 } }, admitAt := some 0 }, by decide +kernel⟩, ⟨(({ State.reset with port := { State.reset.port with start := { State.reset.port.start with up := true, linkUp := true, aligned := true }, assay := { State.reset.port.assay with stateA := .joined, stateB := .joined }, qblocks := [(0, { QBlock.reset with assigned := true })], queues := [(5, { QCtx.reset with conf := { QConf.reset with enable := true } })], fns := [(0, { Fn.reset with acuEnabled := true, windows := [(0, { Window.reset with read := true, write := true, on := true, pagesM1 := 0xFFFF#24 })] })] } } : State).upd .a (fun c => { c with tide := 5, sched := { c.sched with items := [{ ({ Item.new 0 .getRandom ({ hdr := ({ Header.parse (zeros 32) with version := 1#4, queue := 5#16 } : Header), payload := zeros 64, intakeTide := 0, intakeNo := 1 } : Packet) with phase := .waiting } : Item) with pkt := { ({ hdr := ({ Header.parse (zeros 32) with version := 1#4, queue := 5#16 } : Header), payload := zeros 64, intakeTide := 0, intakeNo := 1 } : Packet) with hdr := { ({ Header.parse (zeros 32) with version := 1#4, queue := 5#16 } : Header) with waitValue := 1#15 } }, admitAt := some 0 }] } })), .a, 0, 1, { ({ Item.new 0 .getRandom ({ hdr := ({ Header.parse (zeros 32) with version := 1#4, queue := 5#16 } : Header), payload := zeros 64, intakeTide := 0, intakeNo := 1 } : Packet) with phase := .waiting } : Item) with pkt := { ({ hdr := ({ Header.parse (zeros 32) with version := 1#4, queue := 5#16 } : Header), payload := zeros 64, intakeTide := 0, intakeNo := 1 } : Packet) with hdr := { ({ Header.parse (zeros 32) with version := 1#4, queue := 5#16 } : Header) with waitValue := 1#15 } }, admitAt := some 0 }, by decide +kernel⟩, ⟨({ State.reset with port := { State.reset.port with start := { State.reset.port.start with up := true, linkUp := true, aligned := true }, assay := { State.reset.port.assay with stateA := .joined, stateB := .joined }, qblocks := [(0, { QBlock.reset with assigned := true })], queues := [(5, { QCtx.reset with conf := { QConf.reset with enable := true } })], fns := [(0, { Fn.reset with acuEnabled := true, windows := [(0, { Window.reset with read := true, write := true, on := true, pagesM1 := 0xFFFF#24 })] })] } } : State).updPort (fun p => { p with tide := 9, waits := [{ intakeNo := 1, e := 3, waitingA := some true, waitingB := some true, expire := some true }] }), 1, { intakeNo := 1, e := 3, waitingA := some true, waitingB := some true, expire := some true }, by decide +kernel⟩, ⟨(({ State.reset with port := { State.reset.port with start := { State.reset.port.start with up := true, linkUp := true, aligned := true }, assay := { State.reset.port.assay with stateA := .joined, stateB := .joined }, qblocks := [(0, { QBlock.reset with assigned := true })], queues := [(5, { QCtx.reset with conf := { QConf.reset with enable := true } })], fns := [(0, { Fn.reset with acuEnabled := true, windows := [(0, { Window.reset with read := true, write := true, on := true, pagesM1 := 0xFFFF#24 })] })] } } : State).upd .a (fun c => { c with sched := { c.sched with items := [({ Item.new 0 .keyDestroy ({ hdr := ({ Header.parse (zeros 32) with version := 1#4, queue := 5#16 } : Header), payload := zeros 64, intakeTide := 0, intakeNo := 1 } : Packet) with phase := .draining } : Item)] } })), .a, 0, ({ Item.new 0 .keyDestroy ({ hdr := ({ Header.parse (zeros 32) with version := 1#4, queue := 5#16 } : Header), payload := zeros 64, intakeTide := 0, intakeNo := 1 } : Packet) with phase := .draining } : Item), by decide +kernel⟩, ⟨(({ State.reset with port := { State.reset.port with start := { State.reset.port.start with up := true, linkUp := true, aligned := true }, assay := { State.reset.port.assay with stateA := .joined, stateB := .joined }, qblocks := [(0, { QBlock.reset with assigned := true })], queues := [(5, { QCtx.reset with conf := { QConf.reset with enable := true } })], fns := [(0, { Fn.reset with acuEnabled := true, windows := [(0, { Window.reset with read := true, write := true, on := true, pagesM1 := 0xFFFF#24 })] })] } } : State).upd .a (fun c => { c with sched := { c.sched with items := [({ Item.new 0 .keyGenerate ({ hdr := ({ Header.parse (zeros 32) with version := 1#4, queue := 5#16 } : Header), payload := zeros 64, intakeTide := 0, intakeNo := 1 } : Packet) with phase := .shadowWait } : Item)] } })), .a, 0, ({ Item.new 0 .keyGenerate ({ hdr := ({ Header.parse (zeros 32) with version := 1#4, queue := 5#16 } : Header), payload := zeros 64, intakeTide := 0, intakeNo := 1 } : Packet) with phase := .shadowWait } : Item), by decide +kernel⟩, ⟨(({ State.reset with port := { State.reset.port with start := { State.reset.port.start with up := true, linkUp := true, aligned := true }, assay := { State.reset.port.assay with stateA := .joined, stateB := .joined }, qblocks := [(0, { QBlock.reset with assigned := true })], queues := [(5, { QCtx.reset with conf := { QConf.reset with enable := true } })], fns := [(0, { Fn.reset with acuEnabled := true, windows := [(0, { Window.reset with read := true, write := true, on := true, pagesM1 := 0xFFFF#24 })] })] } } : State).upd .a (fun c => { c with sched := { c.sched with items := [({ Item.new 0 .getRandom ({ hdr := ({ Header.parse (zeros 32) with version := 1#4, queue := 5#16 } : Header), payload := zeros 64, intakeTide := 0, intakeNo := 1 } : Packet) with phase := .filling, fills := [(7, 1#16)] } : Item)] } })), .a, 7#28, 1#16, by decide +kernel⟩, ⟨(({ State.reset with port := { State.reset.port with start := { State.reset.port.start with up := true, linkUp := true, aligned := true }, assay := { State.reset.port.assay with stateA := .joined, stateB := .joined }, qblocks := [(0, { QBlock.reset with assigned := true })], queues := [(5, { QCtx.reset with conf := { QConf.reset with enable := true } })], fns := [(0, { Fn.reset with acuEnabled := true, windows := [(0, { Window.reset with read := true, write := true, on := true, pagesM1 := 0xFFFF#24 })] })] } } : State).upd .a (fun c => { c with tide := 1, keys := { c.keys with fills := [{ slot := 7, generation := 1#16, function := 0#8, startedAt := 0, waitsForWay := false }] } })), .a, 7#28, { slot := 7, generation := 1#16, function := 0#8, startedAt := 0, waitsForWay := false }, by decide +kernel⟩, ⟨(({ State.reset with port := { State.reset.port with start := { State.reset.port.start with up := true, linkUp := true, aligned := true }, assay := { State.reset.port.assay with stateA := .joined, stateB := .joined }, qblocks := [(0, { QBlock.reset with assigned := true })], queues := [(5, { QCtx.reset with conf := { QConf.reset with enable := true } })], fns := [(0, { Fn.reset with acuEnabled := true, windows := [(0, { Window.reset with read := true, write := true, on := true, pagesM1 := 0xFFFF#24 })] })] } } : State).upd .a (fun c => { c with keys := { c.keys with reported := [(7, 1#16)] } })), .a, 7#28, 1#16, by decide +kernel⟩, ⟨exhaustState, .a, 7#28, 0#16, 0, exhaustState_due⟩⟩

/-- States and operands that meet the hypotheses of LanePairsRunJobs, clause by clause. -/
theorem witness_LanePairsRunJobs :
    (∃ (s : State) (ch : Chan) (n : BitVec 6) (j : Job), ((s.chan ch).unitsWhole = true) ∧ (headJob ((s.chan ch).landed (s.chan ch).rakes.jobs) = some j) ∧ ((s.chan ch).firmwarePair n.toNat = true) ∧ ((s.chan ch).pairIdle n.toNat = true) ∧ (((s.chan ch).lanePair n.toNat).queue = []) ∧ ((!j.saved && ((s.chan ch).item? j.item).any (fun x => (s.chan ch).maskWaits x.op)) = false))
    ∧ (∃ (s : State) (ch : Chan) (n : BitVec 6) (j : Job), ((s.chan ch).unitsWhole = true) ∧ (((s.chan ch).lanePair n.toNat).job = some j) ∧ (j.runs ≠ []) ∧ (((s.chan ch).lanePair n.toNat).busyUntil ≤ (s.chan ch).now) ∧ ((s.chan ch).firmwarePair n.toNat = true) ∧ (((s.chan ch).landed (s.chan ch).rakes.jobs).any (fun k => k.rank ≤ j.rank) = true))
    ∧ (∃ (s : State) (ch : Chan) (n : BitVec 6) (j : Job), ((s.chan ch).unitsWhole = true) ∧ (((s.chan ch).lanePair n.toNat).job = some j) ∧ (j.runs = []) ∧ (((s.chan ch).lanePair n.toNat).busyUntil ≤ (s.chan ch).now))
    ∧ (∃ (s : State) (ch : Chan) (n : BitVec 6) (x : Item), ((s.chan ch).unitsWhole = true) ∧ ((s.chan ch).laneWork n.toNat = some x) ∧ (x.skim = false) ∧ (x.op = .cipherEncrypt) ∧ ((s.chan ch).past x = false))
    ∧ (∃ (s : State) (ch : Chan) (n : BitVec 6) (j : Job) (x : Item) (h : Bool) (a : BitVec 64), ((s.chan ch).unitsWhole = true) ∧ (((s.chan ch).lanePair n.toNat).job = some j) ∧ ((s.chan ch).item? j.item = some x) ∧ (permits j.regions h false a.toNat = false) ∧ ((s.chan ch).past x = false) ∧ (x.pair = none))
    ∧ (∃ (s : State) (ch : Chan) (n : BitVec 6), ((s.chan ch).unitsWhole = true) ∧ ((s.chan ch).testOpen n.toNat = true)) :=
  ⟨⟨(({ State.reset with port := { State.reset.port with start := { State.reset.port.start with up := true, linkUp := true, aligned := true }, assay := { State.reset.port.assay with stateA := .joined, stateB := .joined }, qblocks := [(0, { QBlock.reset with assigned := true })], queues := [(5, { QCtx.reset with conf := { QConf.reset with enable := true } })], fns := [(0, { Fn.reset with acuEnabled := true, windows := [(0, { Window.reset with read := true, write := true, on := true, pagesM1 := 0xFFFF#24 })] })] } } : State).upd .a (fun c => { c with tide := 3, rakes := { c.rakes with jobs := [({ item := 0, level := 0#3, urgent := false, runs := [{ count := 9, cycles := 34, blocks := 1 }], frags := [], regions := [], saved := false, readyAt := 0, front := false, message := 0, block := 0, lead := 0, hashed := 0 } : Job)] } })), .a, 63#6, ({ item := 0, level := 0#3, urgent := false, runs := [{ count := 9, cycles := 34, blocks := 1 }], frags := [], regions := [], saved := false, readyAt := 0, front := false, message := 0, block := 0, lead := 0, hashed := 0 } : Job), by decide +kernel⟩, ⟨(({ State.reset with port := { State.reset.port with start := { State.reset.port.start with up := true, linkUp := true, aligned := true }, assay := { State.reset.port.assay with stateA := .joined, stateB := .joined }, qblocks := [(0, { QBlock.reset with assigned := true })], queues := [(5, { QCtx.reset with conf := { QConf.reset with enable := true } })], fns := [(0, { Fn.reset with acuEnabled := true, windows := [(0, { Window.reset with read := true, write := true, on := true, pagesM1 := 0xFFFF#24 })] })] } } : State).upd .a (fun c => ({ c with tide := 3, rakes := { c.rakes with jobs := [({ item := 0, level := 0#3, urgent := false, runs := [{ count := 9, cycles := 34, blocks := 1 }], frags := [], regions := [], saved := false, readyAt := 0, front := false, message := 0, block := 0, lead := 0, hashed := 0 } : Job)] } } : Channel).mapPair 63 (fun p => { p with job := some ({ item := 0, level := 0#3, urgent := false, runs := [{ count := 7, cycles := 34, blocks := 1 }], frags := [], regions := [], saved := false, readyAt := 0, front := false, message := 0, block := 0, lead := 0, hashed := 0 } : Job) }))), .a, 63#6, ({ item := 0, level := 0#3, urgent := false, runs := [{ count := 7, cycles := 34, blocks := 1 }], frags := [], regions := [], saved := false, readyAt := 0, front := false, message := 0, block := 0, lead := 0, hashed := 0 } : Job), by decide +kernel⟩, ⟨(({ State.reset with port := { State.reset.port with start := { State.reset.port.start with up := true, linkUp := true, aligned := true }, assay := { State.reset.port.assay with stateA := .joined, stateB := .joined }, qblocks := [(0, { QBlock.reset with assigned := true })], queues := [(5, { QCtx.reset with conf := { QConf.reset with enable := true } })], fns := [(0, { Fn.reset with acuEnabled := true, windows := [(0, { Window.reset with read := true, write := true, on := true, pagesM1 := 0xFFFF#24 })] })] } } : State).upd .a (fun c => ({ c with tide := 3 } : Channel).mapPair 63 (fun p => { p with job := some ({ item := 0, level := 0#3, urgent := false, runs := [], frags := [], regions := [], saved := false, readyAt := 0, front := false, message := 0, block := 0, lead := 0, hashed := 0 } : Job) }))), .a, 63#6, ({ item := 0, level := 0#3, urgent := false, runs := [], frags := [], regions := [], saved := false, readyAt := 0, front := false, message := 0, block := 0, lead := 0, hashed := 0 } : Job), by decide +kernel⟩, ⟨(({ State.reset with port := { State.reset.port with start := { State.reset.port.start with up := true, linkUp := true, aligned := true }, assay := { State.reset.port.assay with stateA := .joined, stateB := .joined }, qblocks := [(0, { QBlock.reset with assigned := true })], queues := [(5, { QCtx.reset with conf := { QConf.reset with enable := true } })], fns := [(0, { Fn.reset with acuEnabled := true, windows := [(0, { Window.reset with read := true, write := true, on := true, pagesM1 := 0xFFFF#24 })] })] } } : State).upd .a (fun c => ({ c with tide := 3, sched := { c.sched with items := [({ Item.new 0 .cipherEncrypt ({ hdr := ({ Header.parse (zeros 32) with version := 1#4, queue := 5#16 } : Header), payload := zeros 64, intakeTide := 0, intakeNo := 1 } : Packet) with phase := .engine } : Item)] } } : Channel).mapPair 63 (fun p => { p with job := some ({ item := 0, level := 0#3, urgent := false, runs := [{ count := 3, cycles := 34, blocks := 1 }], frags := [], regions := [], saved := false, readyAt := 0, front := false, message := 0, block := 0, lead := 0, hashed := 0 } : Job) }))), .a, 63#6, ({ Item.new 0 .cipherEncrypt ({ hdr := ({ Header.parse (zeros 32) with version := 1#4, queue := 5#16 } : Header), payload := zeros 64, intakeTide := 0, intakeNo := 1 } : Packet) with phase := .engine } : Item), by decide +kernel⟩, ⟨(({ State.reset with port := { State.reset.port with start := { State.reset.port.start with up := true, linkUp := true, aligned := true }, assay := { State.reset.port.assay with stateA := .joined, stateB := .joined }, qblocks := [(0, { QBlock.reset with assigned := true })], queues := [(5, { QCtx.reset with conf := { QConf.reset with enable := true } })], fns := [(0, { Fn.reset with acuEnabled := true, windows := [(0, { Window.reset with read := true, write := true, on := true, pagesM1 := 0xFFFF#24 })] })] } } : State).upd .a (fun c => ({ c with tide := 3, sched := { c.sched with items := [({ Item.new 0 .cipherEncrypt ({ hdr := ({ Header.parse (zeros 32) with version := 1#4, queue := 5#16 } : Header), payload := zeros 64, intakeTide := 0, intakeNo := 1 } : Packet) with phase := .engine } : Item)] } } : Channel).mapPair 63 (fun p => { p with job := some ({ item := 0, level := 0#3, urgent := false, runs := [{ count := 3, cycles := 34, blocks := 1 }], frags := [], regions := [], saved := false, readyAt := 0, front := false, message := 0, block := 0, lead := 0, hashed := 0 } : Job) }))), .a, 63#6, ({ item := 0, level := 0#3, urgent := false, runs := [{ count := 3, cycles := 34, blocks := 1 }], frags := [], regions := [], saved := false, readyAt := 0, front := false, message := 0, block := 0, lead := 0, hashed := 0 } : Job), ({ Item.new 0 .cipherEncrypt ({ hdr := ({ Header.parse (zeros 32) with version := 1#4, queue := 5#16 } : Header), payload := zeros 64, intakeTide := 0, intakeNo := 1 } : Packet) with phase := .engine } : Item), false, 0#64, by decide +kernel⟩, ⟨(({ State.reset with port := { State.reset.port with start := { State.reset.port.start with up := true, linkUp := true, aligned := true }, assay := { State.reset.port.assay with stateA := .joined, stateB := .joined }, qblocks := [(0, { QBlock.reset with assigned := true })], queues := [(5, { QCtx.reset with conf := { QConf.reset with enable := true } })], fns := [(0, { Fn.reset with acuEnabled := true, windows := [(0, { Window.reset with read := true, write := true, on := true, pagesM1 := 0xFFFF#24 })] })] } } : State).upd .a (fun c => { c with tide := 3 })), .a, 63#6, by decide +kernel⟩⟩

/-- States and operands that meet the hypotheses of DigestEnginesRunJobs, clause by clause. -/
theorem witness_DigestEnginesRunJobs :
    (∃ (s : State) (ch : Chan) (n : BitVec 2) (j : Job) (x : Item), ((s.chan ch).unitsWhole = true) ∧ (headJob ((s.chan ch).landed (s.chan ch).digests.jobs) = some j) ∧ ((s.chan ch).digestFree n.toNat = true) ∧ ((s.chan ch).stalls (28 + n.toNat) = false) ∧ ((s.chan ch).item? j.item = some x) ∧ ((j.saved || listOk (digestBlock (digestAlgo x.op x.p)).1 j.frags) = true))
    ∧ (∃ (s : State) (ch : Chan) (n : BitVec 2) (j : Job) (x : Item), ((s.chan ch).unitsWhole = true) ∧ (headJob ((s.chan ch).landed (s.chan ch).digests.jobs) = some j) ∧ ((s.chan ch).digestFree n.toNat = true) ∧ ((s.chan ch).stalls (28 + n.toNat) = false) ∧ ((s.chan ch).item? j.item = some x) ∧ (j.saved = false) ∧ (listOk (digestBlock (digestAlgo x.op x.p)).1 j.frags = false))
    ∧ (∃ (s : State) (ch : Chan) (n : BitVec 2) (j : Job), ((s.chan ch).unitsWhole = true) ∧ (((s.chan ch).digestEngine n.toNat).job = some j) ∧ (j.runs ≠ []) ∧ (((s.chan ch).digestEngine n.toNat).busyUntil ≤ (s.chan ch).now) ∧ (((s.chan ch).landed (s.chan ch).digests.jobs).any (fun k => k.rank ≤ j.rank) = true))
    ∧ (∃ (s : State) (ch : Chan) (n : BitVec 2) (j : Job) (x : Item) (r : Res), ((s.chan ch).unitsWhole = true) ∧ (((s.chan ch).digestEngine n.toNat).job = some j) ∧ (j.runs = []) ∧ (((s.chan ch).digestEngine n.toNat).busyUntil ≤ (s.chan ch).now) ∧ ((s.chan ch).item? j.item = some x) ∧ (j.refused = none) ∧ (r = (((s.chan ch).sync.mapDigest n.toNat (fun e => { e with job := none })).run x (((s.chan ch).sync.mapDigest n.toNat (fun e => { e with job := none })).held x)).2))
    ∧ (∃ (s : State) (ch : Chan) (n : BitVec 2) (j : Job) (x : Item) (h : Bool), ((s.chan ch).unitsWhole = true) ∧ (((s.chan ch).digestEngine n.toNat).job = some j) ∧ ((s.chan ch).item? j.item = some x) ∧ ((h && !j.frags.any (·.hbm)) = false))
    ∧ (∃ (s : State) (ch : Chan) (n : BitVec 2) (j : Job) (x : Item) (h : Bool) (a : BitVec 64), ((s.chan ch).unitsWhole = true) ∧ (((s.chan ch).digestEngine n.toNat).job = some j) ∧ ((s.chan ch).item? j.item = some x) ∧ (permits j.regions h false a.toNat = false))
    ∧ (∃ (s : State) (ch : Chan) (n : BitVec 2) (pass : Bool), ((s.chan ch).unitsWhole = true) ∧ ((s.chan ch).digestFree n.toNat = true) ∧ ((s.chan ch).digests.jobs = []) ∧ (((s.chan ch).digestEngine n.toNat).testedTide ≠ some (s.chan ch).tide)) :=
  ⟨⟨(({ State.reset with port := { State.reset.port with start := { State.reset.port.start with up := true, linkUp := true, aligned := true }, assay := { State.reset.port.assay with stateA := .joined, stateB := .joined }, qblocks := [(0, { QBlock.reset with assigned := true })], queues := [(5, { QCtx.reset with conf := { QConf.reset with enable := true } })], fns := [(0, { Fn.reset with acuEnabled := true, windows := [(0, { Window.reset with read := true, write := true, on := true, pagesM1 := 0xFFFF#24 })] })] } } : State).upd .a (fun c => { c with tide := 3, sched := { c.sched with items := [({ Item.new 0 .digest ({ hdr := ({ Header.parse (zeros 32) with version := 1#4, queue := 5#16 } : Header), payload := zeros 64, intakeTide := 0, intakeNo := 1 } : Packet) with phase := .engine } : Item)] }, digests := { c.digests with jobs := [({ item := 0, level := 0#3, urgent := false, runs := [{ count := 9, cycles := 34, blocks := 1 }], frags := [], regions := [], saved := true, readyAt := 0, front := false, message := 0, block := 0, lead := 0, hashed := 0 } : Job)] } })), .a, 2#2, ({ item := 0, level := 0#3, urgent := false, runs := [{ count := 9, cycles := 34, blocks := 1 }], frags := [], regions := [], saved := true, readyAt := 0, front := false, message := 0, block := 0, lead := 0, hashed := 0 } : Job), ({ Item.new 0 .digest ({ hdr := ({ Header.parse (zeros 32) with version := 1#4, queue := 5#16 } : Header), payload := zeros 64, intakeTide := 0, intakeNo := 1 } : Packet) with phase := .engine } : Item), by decide +kernel⟩, ⟨(({ State.reset with port := { State.reset.port with start := { State.reset.port.start with up := true, linkUp := true, aligned := true }, assay := { State.reset.port.assay with stateA := .joined, stateB := .joined }, qblocks := [(0, { QBlock.reset with assigned := true })], queues := [(5, { QCtx.reset with conf := { QConf.reset with enable := true } })], fns := [(0, { Fn.reset with acuEnabled := true, windows := [(0, { Window.reset with read := true, write := true, on := true, pagesM1 := 0xFFFF#24 })] })] } } : State).upd .a (fun c => { c with tide := 3, sched := { c.sched with items := [({ Item.new 0 .digest ({ hdr := ({ Header.parse (zeros 32) with version := 1#4, queue := 5#16 } : Header), payload := zeros 64, intakeTide := 0, intakeNo := 1 } : Packet) with phase := .engine } : Item)] }, digests := { c.digests with jobs := [({ item := 0, level := 0#3, urgent := false, runs := [{ count := 9, cycles := 34, blocks := 1 }], frags := [], regions := [], saved := false, readyAt := 0, front := false, message := 0, block := 0, lead := 0, hashed := 0 } : Job)] } })), .a, 2#2, ({ item := 0, level := 0#3, urgent := false, runs := [{ count := 9, cycles := 34, blocks := 1 }], frags := [], regions := [], saved := false, readyAt := 0, front := false, message := 0, block := 0, lead := 0, hashed := 0 } : Job), ({ Item.new 0 .digest ({ hdr := ({ Header.parse (zeros 32) with version := 1#4, queue := 5#16 } : Header), payload := zeros 64, intakeTide := 0, intakeNo := 1 } : Packet) with phase := .engine } : Item), by decide +kernel⟩, ⟨(({ State.reset with port := { State.reset.port with start := { State.reset.port.start with up := true, linkUp := true, aligned := true }, assay := { State.reset.port.assay with stateA := .joined, stateB := .joined }, qblocks := [(0, { QBlock.reset with assigned := true })], queues := [(5, { QCtx.reset with conf := { QConf.reset with enable := true } })], fns := [(0, { Fn.reset with acuEnabled := true, windows := [(0, { Window.reset with read := true, write := true, on := true, pagesM1 := 0xFFFF#24 })] })] } } : State).upd .a (fun c => ({ c with tide := 3, digests := { c.digests with jobs := [({ item := 0, level := 0#3, urgent := false, runs := [{ count := 9, cycles := 34, blocks := 1 }], frags := [], regions := [], saved := false, readyAt := 0, front := false, message := 0, block := 0, lead := 0, hashed := 0 } : Job)] } } : Channel).mapDigest 2 (fun e => { e with job := some ({ item := 0, level := 0#3, urgent := false, runs := [{ count := 7, cycles := 34, blocks := 1 }], frags := [], regions := [], saved := false, readyAt := 0, front := false, message := 0, block := 0, lead := 0, hashed := 0 } : Job) }))), .a, 2#2, ({ item := 0, level := 0#3, urgent := false, runs := [{ count := 7, cycles := 34, blocks := 1 }], frags := [], regions := [], saved := false, readyAt := 0, front := false, message := 0, block := 0, lead := 0, hashed := 0 } : Job), by decide +kernel⟩, ⟨(({ State.reset with port := { State.reset.port with start := { State.reset.port.start with up := true, linkUp := true, aligned := true }, assay := { State.reset.port.assay with stateA := .joined, stateB := .joined }, qblocks := [(0, { QBlock.reset with assigned := true })], queues := [(5, { QCtx.reset with conf := { QConf.reset with enable := true } })], fns := [(0, { Fn.reset with acuEnabled := true, windows := [(0, { Window.reset with read := true, write := true, on := true, pagesM1 := 0xFFFF#24 })] })] } } : State).upd .a (fun c => ({ c with tide := 3, sched := { c.sched with items := [({ Item.new 0 .pkPubkeyExport ({ hdr := ({ Header.parse (zeros 32) with version := 1#4, queue := 5#16 } : Header), payload := zeros 64, intakeTide := 0, intakeNo := 1 } : Packet) with phase := .engine } : Item)] } } : Channel).mapDigest 2 (fun e => { e with job := some ({ item := 0, level := 0#3, urgent := false, runs := [], frags := [], regions := [], saved := false, readyAt := 0, front := false, message := 0, block := 0, lead := 0, hashed := 0 } : Job) }))), .a, 2#2, ({ item := 0, level := 0#3, urgent := false, runs := [], frags := [], regions := [], saved := false, readyAt := 0, front := false, message := 0, block := 0, lead := 0, hashed := 0 } : Job), ({ Item.new 0 .pkPubkeyExport ({ hdr := ({ Header.parse (zeros 32) with version := 1#4, queue := 5#16 } : Header), payload := zeros 64, intakeTide := 0, intakeNo := 1 } : Packet) with phase := .engine } : Item), Res.good [], by decide +kernel⟩, ⟨(({ State.reset with port := { State.reset.port with start := { State.reset.port.start with up := true, linkUp := true, aligned := true }, assay := { State.reset.port.assay with stateA := .joined, stateB := .joined }, qblocks := [(0, { QBlock.reset with assigned := true })], queues := [(5, { QCtx.reset with conf := { QConf.reset with enable := true } })], fns := [(0, { Fn.reset with acuEnabled := true, windows := [(0, { Window.reset with read := true, write := true, on := true, pagesM1 := 0xFFFF#24 })] })] } } : State).upd .a (fun c => ({ c with tide := 3, sched := { c.sched with items := [({ Item.new 0 .cipherEncrypt ({ hdr := ({ Header.parse (zeros 32) with version := 1#4, queue := 5#16 } : Header), payload := zeros 64, intakeTide := 0, intakeNo := 1 } : Packet) with phase := .engine } : Item)] } } : Channel).mapDigest 2 (fun e => { e with job := some ({ item := 0, level := 0#3, urgent := false, runs := [{ count := 5, cycles := 34, blocks := 1 }], frags := [], regions := [], saved := false, readyAt := 0, front := false, message := 0, block := 0, lead := 0, hashed := 0 } : Job) }))), .a, 2#2, ({ item := 0, level := 0#3, urgent := false, runs := [{ count := 5, cycles := 34, blocks := 1 }], frags := [], regions := [], saved := false, readyAt := 0, front := false, message := 0, block := 0, lead := 0, hashed := 0 } : Job), ({ Item.new 0 .cipherEncrypt ({ hdr := ({ Header.parse (zeros 32) with version := 1#4, queue := 5#16 } : Header), payload := zeros 64, intakeTide := 0, intakeNo := 1 } : Packet) with phase := .engine } : Item), false, by decide +kernel⟩, ⟨(({ State.reset with port := { State.reset.port with start := { State.reset.port.start with up := true, linkUp := true, aligned := true }, assay := { State.reset.port.assay with stateA := .joined, stateB := .joined }, qblocks := [(0, { QBlock.reset with assigned := true })], queues := [(5, { QCtx.reset with conf := { QConf.reset with enable := true } })], fns := [(0, { Fn.reset with acuEnabled := true, windows := [(0, { Window.reset with read := true, write := true, on := true, pagesM1 := 0xFFFF#24 })] })] } } : State).upd .a (fun c => ({ c with tide := 3, sched := { c.sched with items := [({ Item.new 0 .cipherEncrypt ({ hdr := ({ Header.parse (zeros 32) with version := 1#4, queue := 5#16 } : Header), payload := zeros 64, intakeTide := 0, intakeNo := 1 } : Packet) with phase := .engine } : Item)] } } : Channel).mapDigest 2 (fun e => { e with job := some ({ item := 0, level := 0#3, urgent := false, runs := [{ count := 5, cycles := 34, blocks := 1 }], frags := [], regions := [], saved := false, readyAt := 0, front := false, message := 0, block := 0, lead := 0, hashed := 0 } : Job) }))), .a, 2#2, ({ item := 0, level := 0#3, urgent := false, runs := [{ count := 5, cycles := 34, blocks := 1 }], frags := [], regions := [], saved := false, readyAt := 0, front := false, message := 0, block := 0, lead := 0, hashed := 0 } : Job), ({ Item.new 0 .cipherEncrypt ({ hdr := ({ Header.parse (zeros 32) with version := 1#4, queue := 5#16 } : Header), payload := zeros 64, intakeTide := 0, intakeNo := 1 } : Packet) with phase := .engine } : Item), false, 0#64, by decide +kernel⟩, ⟨(({ State.reset with port := { State.reset.port with start := { State.reset.port.start with up := true, linkUp := true, aligned := true }, assay := { State.reset.port.assay with stateA := .joined, stateB := .joined }, qblocks := [(0, { QBlock.reset with assigned := true })], queues := [(5, { QCtx.reset with conf := { QConf.reset with enable := true } })], fns := [(0, { Fn.reset with acuEnabled := true, windows := [(0, { Window.reset with read := true, write := true, on := true, pagesM1 := 0xFFFF#24 })] })] } } : State).upd .a (fun c => { c with tide := 3 })), .a, 2#2, false, by decide +kernel⟩⟩

/-- States and operands that meet the hypotheses of DigestRegisterMode, clause by clause. -/
theorem witness_DigestRegisterMode :
    (∃ (s : State) (ch : Chan) (n : BitVec 2) (v : Word), ((s.chan ch).unitsWhole = true) ∧ (v.getLsbD 3 = true) ∧ ((s.chan ch).digests.locked = false))
    ∧ (∃ (s : State) (ch : Chan) (n : BitVec 2), ((s.chan ch).unitsWhole = true))
    ∧ (∃ (s : State) (ch : Chan) (n : BitVec 2) (v : DWord), ((s.chan ch).unitsWhole = true) ∧ (((s.chan ch).digestEngine n.toNat).regMode = true) ∧ ((s.chan ch).digests.locked = false) ∧ (((s.chan ch).digestEngine n.toNat).lastCount = none))
    ∧ (∃ (s : State) (ch : Chan) (n : BitVec 2) (v : DWord), ((s.chan ch).unitsWhole = true) ∧ (((s.chan ch).digestEngine n.toNat).regMode = true) ∧ ((s.chan ch).digests.locked = false))
    ∧ (∃ (s : State) (ch : Chan) (n : BitVec 2) (v : Word), ((s.chan ch).unitsWhole = true) ∧ (((s.chan ch).digestEngine n.toNat).regMode = true) ∧ ((s.chan ch).digests.locked = false) ∧ (((s.chan ch).digestEngine n.toNat).lastCount = none))
    ∧ (∃ (s : State) (ch : Chan) (n : BitVec 2) (k : BitVec 4), ((s.chan ch).unitsWhole = true) ∧ (((s.chan ch).digestEngine n.toNat).regMode = true) ∧ (((s.chan ch).digestEngine n.toNat).done = false) ∧ (((s.chan ch).digestEngine n.toNat).lastCount = some k) ∧ (1 ≤ ((s.chan ch).digestEngine n.toNat).algo.toNat) ∧ (((s.chan ch).digestEngine n.toNat).algo.toNat ≤ 6))
    ∧ (∃ (s : State) (ch : Chan) (n : BitVec 2) (e : Bytes) (v : Word), ((s.chan ch).unitsWhole = true) ∧ (v.getLsbD 7 = true) ∧ (1 ≤ v.toNat % 128) ∧ (v.toNat % 128 ≤ 64) ∧ (((s.chan ch).digestEngine n.toNat).done = true) ∧ (e.length = 64))
    ∧ (∃ (s : State) (ch : Chan) (n : BitVec 2) (v : DWord) (w : Word), ((s.chan ch).digests.locked = true)) :=
  ⟨⟨State.reset, .a, 2#2, 9#32, by decide +kernel⟩, ⟨State.reset, .a, 2#2, by decide +kernel⟩, ⟨(({ State.reset with port := { State.reset.port with start := { State.reset.port.start with up := true, linkUp := true, aligned := true }, assay := { State.reset.port.assay with stateA := .joined, stateB := .joined }, qblocks := [(0, { QBlock.reset with assigned := true })], queues := [(5, { QCtx.reset with conf := { QConf.reset with enable := true } })], fns := [(0, { Fn.reset with acuEnabled := true, windows := [(0, { Window.reset with read := true, write := true, on := true, pagesM1 := 0xFFFF#24 })] })] } } : State).upd .a (fun c => ({ c with tide := 3 } : Channel).mapDigest 2 (fun e => { e with regMode := true }))), .a, 2#2, 9#64, by decide +kernel⟩, ⟨(({ State.reset with port := { State.reset.port with start := { State.reset.port.start with up := true, linkUp := true, aligned := true }, assay := { State.reset.port.assay with stateA := .joined, stateB := .joined }, qblocks := [(0, { QBlock.reset with assigned := true })], queues := [(5, { QCtx.reset with conf := { QConf.reset with enable := true } })], fns := [(0, { Fn.reset with acuEnabled := true, windows := [(0, { Window.reset with read := true, write := true, on := true, pagesM1 := 0xFFFF#24 })] })] } } : State).upd .a (fun c => ({ c with tide := 3 } : Channel).mapDigest 2 (fun e => { e with regMode := true }))), .a, 2#2, 9#64, by decide +kernel⟩, ⟨(({ State.reset with port := { State.reset.port with start := { State.reset.port.start with up := true, linkUp := true, aligned := true }, assay := { State.reset.port.assay with stateA := .joined, stateB := .joined }, qblocks := [(0, { QBlock.reset with assigned := true })], queues := [(5, { QCtx.reset with conf := { QConf.reset with enable := true } })], fns := [(0, { Fn.reset with acuEnabled := true, windows := [(0, { Window.reset with read := true, write := true, on := true, pagesM1 := 0xFFFF#24 })] })] } } : State).upd .a (fun c => ({ c with tide := 3 } : Channel).mapDigest 2 (fun e => { e with regMode := true }))), .a, 2#2, 5#32, by decide +kernel⟩, ⟨(({ State.reset with port := { State.reset.port with start := { State.reset.port.start with up := true, linkUp := true, aligned := true }, assay := { State.reset.port.assay with stateA := .joined, stateB := .joined }, qblocks := [(0, { QBlock.reset with assigned := true })], queues := [(5, { QCtx.reset with conf := { QConf.reset with enable := true } })], fns := [(0, { Fn.reset with acuEnabled := true, windows := [(0, { Window.reset with read := true, write := true, on := true, pagesM1 := 0xFFFF#24 })] })] } } : State).upd .a (fun c => ({ c with tide := 3 } : Channel).mapDigest 2 (fun e => { e with regMode := true, algo := 1#3, lastCount := some 3#4 }))), .a, 2#2, 3#4, by decide +kernel⟩, ⟨(({ State.reset with port := { State.reset.port with start := { State.reset.port.start with up := true, linkUp := true, aligned := true }, assay := { State.reset.port.assay with stateA := .joined, stateB := .joined }, qblocks := [(0, { QBlock.reset with assigned := true })], queues := [(5, { QCtx.reset with conf := { QConf.reset with enable := true } })], fns := [(0, { Fn.reset with acuEnabled := true, windows := [(0, { Window.reset with read := true, write := true, on := true, pagesM1 := 0xFFFF#24 })] })] } } : State).upd .a (fun c => ({ c with tide := 3 } : Channel).mapDigest 2 (fun e => { e with done := true }))), .a, 2#2, zeros 64, 160#32, by decide +kernel⟩, ⟨(({ State.reset with port := { State.reset.port with start := { State.reset.port.start with up := true, linkUp := true, aligned := true }, assay := { State.reset.port.assay with stateA := .joined, stateB := .joined }, qblocks := [(0, { QBlock.reset with assigned := true })], queues := [(5, { QCtx.reset with conf := { QConf.reset with enable := true } })], fns := [(0, { Fn.reset with acuEnabled := true, windows := [(0, { Window.reset with read := true, write := true, on := true, pagesM1 := 0xFFFF#24 })] })] } } : State).upd .a (fun c => { c with digests := { c.digests with locked := true } })), .a, 2#2, 9#64, 1#32, by decide +kernel⟩⟩

/-- States and operands that meet the hypotheses of PublicKeyEnginesRunJobs, clause by clause. -/
theorem witness_PublicKeyEnginesRunJobs :
    (∃ (s : State) (ch : Chan) (n : BitVec 4) (j : PkJob) (x : Item), ((s.chan ch).unitsWhole = true) ∧ (headPk (if (s.chan ch).pks.halvedEngine n.toNat then (s.chan ch).pks.queueHalved else (s.chan ch).pks.queueTwin) = some j) ∧ ((s.chan ch).pkFree n.toNat = true) ∧ ((((s.chan ch).pkEngine n.toNat).owned = true → ((s.chan ch).pkEngine n.toNat).owner.toNat = j.function)) ∧ ((s.chan ch).item? j.item = some x) ∧ ((isPk x.op = false ∨ ∃ c₁ y c₂ z, (s.chan ch).drawFor x ((s.chan ch).held x) = (c₁, y, true) ∧ y.rngFailed = false ∧ c₁.blind y = (c₂, z, true) ∧ z.rngFailed = false)))
    ∧ (∃ (s : State) (ch : Chan) (n : BitVec 4) (j : PkJob) (x : Item) (d : BitVec 4), ((s.chan ch).unitsWhole = true) ∧ (((s.chan ch).pkEngine n.toNat).job = some j) ∧ (((s.chan ch).pkEngine n.toNat).validated = false) ∧ (((s.chan ch).pkEngine n.toNat).startedAt + j.valid ≤ (s.chan ch).now) ∧ ((s.chan ch).item? j.item = some x) ∧ ((s.chan ch).pkRefuses x ((s.chan ch).held x) = some d))
    ∧ (∃ (s : State) (ch : Chan) (n : BitVec 4) (j : PkJob) (x : Item), ((s.chan ch).unitsWhole = true) ∧ (((s.chan ch).pkEngine n.toNat).job = some j) ∧ (((s.chan ch).pkEngine n.toNat).startedAt + j.valid ≤ (s.chan ch).now) ∧ ((s.chan ch).item? j.item = some x) ∧ ((s.chan ch).pkRefuses x ((s.chan ch).held x) = none))
    ∧ (∃ (s : State) (ch : Chan) (n : BitVec 4) (j : PkJob) (x : Item), ((s.chan ch).unitsWhole = true) ∧ (((s.chan ch).pkEngine n.toNat).job = some j) ∧ ((s.chan ch).item? j.item = some x) ∧ (((s.chan ch).pkEngine n.toNat).startedAt + 3584 * (((s.chan ch).pkEngine n.toNat).slicesReported + 1) ≤ (s.chan ch).now))
    ∧ (∃ (s : State) (ch : Chan) (n : BitVec 4) (j : PkJob) (x : Item) (r : Channel × Res), ((s.chan ch).unitsWhole = true) ∧ (((s.chan ch).pkEngine n.toNat).job = some j) ∧ ((s.chan ch).item? j.item = some x) ∧ ((s.chan ch).pkRanOut n.toNat x = true) ∧ (isPk x.op = true) ∧ (r = ((s.chan ch).noteSigning x ((s.chan ch).held x)).run x ((s.chan ch).held x)) ∧ (r.2.code ≠ .invariantFail) ∧ (r.2.code ≠ .faultDetected) ∧ (((s.chan ch).noteSigning x ((s.chan ch).held x)).install? x r = none))
    ∧ (∃ (s : State) (ch : Chan) (n : BitVec 4) (j : PkJob) (x : Item), ((s.chan ch).unitsWhole = true) ∧ (((s.chan ch).pkEngine n.toNat).job = some j) ∧ ((s.chan ch).item? j.item = some x) ∧ ((pkStep x ((s.chan ch).held x)).closes = true) ∧ ((s.chan ch).pkRanOut n.toNat x = true))
    ∧ (∃ (s : State) (ch : Chan) (n : BitVec 4) (j : PkJob) (x : Item) (h : Bool) (a : BitVec 64), ((s.chan ch).unitsWhole = true) ∧ (((s.chan ch).pkEngine n.toNat).job = some j) ∧ ((s.chan ch).item? j.item = some x) ∧ (permits j.regions h false a.toNat = false))
    ∧ (∃ (s : State) (ch : Chan) (n : BitVec 4), ((s.chan ch).unitsWhole = true) ∧ (((s.chan ch).pkEngine n.toNat).wiping = true) ∧ (((s.chan ch).pkEngine n.toNat).wipingUntil ≤ (s.chan ch).now)) :=
  ⟨⟨(({ State.reset with port := { State.reset.port with start := { State.reset.port.start with up := true, linkUp := true, aligned := true }, assay := { State.reset.port.assay with stateA := .joined, stateB := .joined }, qblocks := [(0, { QBlock.reset with assigned := true })], queues := [(5, { QCtx.reset with conf := { QConf.reset with enable := true } })], fns := [(0, { Fn.reset with acuEnabled := true, windows := [(0, { Window.reset with read := true, write := true, on := true, pagesM1 := 0xFFFF#24 })] })] } } : State).upd .a (fun c => ({ c with tide := 3, sched := { c.sched with items := [({ Item.new 0 .transportImport ({ hdr := ({ Header.parse (zeros 32) with version := 1#4, queue := 5#16 } : Header), payload := zeros 64, intakeTide := 0, intakeNo := 1 } : Packet) with phase := .engine } : Item)] }, pks := { c.pks with queueTwin := [({ item := 0, algo := 0, op := 0#3, function := 0, cycles := 100, valid := 64, level := 0#3, urgent := false, halved := false, regions := [] } : PkJob)], queueHalved := [({ item := 0, algo := 0, op := 0#3, function := 0, cycles := 100, valid := 64, level := 0#3, urgent := false, halved := false, regions := [] } : PkJob)] } } : Channel).mapPk 5 (fun e => { e with job := none }))), .a, 5#4, ({ item := 0, algo := 0, op := 0#3, function := 0, cycles := 100, valid := 64, level := 0#3, urgent := false, halved := false, regions := [] } : PkJob), ({ Item.new 0 .transportImport ({ hdr := ({ Header.parse (zeros 32) with version := 1#4, queue := 5#16 } : Header), payload := zeros 64, intakeTide := 0, intakeNo := 1 } : Packet) with phase := .engine } : Item), by decide +kernel, by decide +kernel, by decide +kernel, by decide +kernel, by decide +kernel, (.inl (by decide))⟩, ⟨(({ State.reset with port := { State.reset.port with start := { State.reset.port.start with up := true, linkUp := true, aligned := true }, assay := { State.reset.port.assay with stateA := .joined, stateB := .joined }, qblocks := [(0, { QBlock.reset with assigned := true })], queues := [(5, { QCtx.reset with conf := { QConf.reset with enable := true } })], fns := [(0, { Fn.reset with acuEnabled := true, windows := [(0, { Window.reset with read := true, write := true, on := true, pagesM1 := 0xFFFF#24 })] })] } } : State).upd .a (fun c => ({ c with tide := 3, sched := { c.sched with items := [({ Item.new 0 .pkPubkeyImport ({ hdr := ({ Header.parse (zeros 32) with version := 1#4, queue := 5#16 } : Header), payload := zeros 64, intakeTide := 0, intakeNo := 1 } : Packet) with phase := .engine, pkt := { ({ hdr := ({ Header.parse (zeros 32) with version := 1#4, queue := 5#16 } : Header), payload := zeros 64, intakeTide := 0, intakeNo := 1 } : Packet) with payload := zeros 4 ++ [1#8] ++ zeros 59 } } : Item)] } } : Channel).mapPk 5 (fun e => { e with job := some ({ item := 0, algo := 0, op := 0#3, function := 0, cycles := 100, valid := 64, level := 0#3, urgent := false, halved := false, regions := [] } : PkJob) }))), .a, 5#4, ({ item := 0, algo := 0, op := 0#3, function := 0, cycles := 100, valid := 64, level := 0#3, urgent := false, halved := false, regions := [] } : PkJob), ({ Item.new 0 .pkPubkeyImport ({ hdr := ({ Header.parse (zeros 32) with version := 1#4, queue := 5#16 } : Header), payload := zeros 64, intakeTide := 0, intakeNo := 1 } : Packet) with phase := .engine, pkt := { ({ hdr := ({ Header.parse (zeros 32) with version := 1#4, queue := 5#16 } : Header), payload := zeros 64, intakeTide := 0, intakeNo := 1 } : Packet) with payload := zeros 4 ++ [1#8] ++ zeros 59 } } : Item), 2#4, by decide +kernel⟩, ⟨(({ State.reset with port := { State.reset.port with start := { State.reset.port.start with up := true, linkUp := true, aligned := true }, assay := { State.reset.port.assay with stateA := .joined, stateB := .joined }, qblocks := [(0, { QBlock.reset with assigned := true })], queues := [(5, { QCtx.reset with conf := { QConf.reset with enable := true } })], fns := [(0, { Fn.reset with acuEnabled := true, windows := [(0, { Window.reset with read := true, write := true, on := true, pagesM1 := 0xFFFF#24 })] })] } } : State).upd .a (fun c => ({ c with tide := 3, sched := { c.sched with items := [({ Item.new 0 .transportImport ({ hdr := ({ Header.parse (zeros 32) with version := 1#4, queue := 5#16 } : Header), payload := zeros 64, intakeTide := 0, intakeNo := 1 } : Packet) with phase := .engine } : Item)] } } : Channel).mapPk 5 (fun e => { e with job := some ({ item := 0, algo := 0, op := 0#3, function := 0, cycles := 100, valid := 64, level := 0#3, urgent := false, halved := false, regions := [] } : PkJob) }))), .a, 5#4, ({ item := 0, algo := 0, op := 0#3, function := 0, cycles := 100, valid := 64, level := 0#3, urgent := false, halved := false, regions := [] } : PkJob), ({ Item.new 0 .transportImport ({ hdr := ({ Header.parse (zeros 32) with version := 1#4, queue := 5#16 } : Header), payload := zeros 64, intakeTide := 0, intakeNo := 1 } : Packet) with phase := .engine } : Item), by decide +kernel⟩, ⟨(({ State.reset with port := { State.reset.port with start := { State.reset.port.start with up := true, linkUp := true, aligned := true }, assay := { State.reset.port.assay with stateA := .joined, stateB := .joined }, qblocks := [(0, { QBlock.reset with assigned := true })], queues := [(5, { QCtx.reset with conf := { QConf.reset with enable := true } })], fns := [(0, { Fn.reset with acuEnabled := true, windows := [(0, { Window.reset with read := true, write := true, on := true, pagesM1 := 0xFFFF#24 })] })] } } : State).upd .a (fun c => ({ c with tide := 3, sched := { c.sched with items := [({ Item.new 0 .transportImport ({ hdr := ({ Header.parse (zeros 32) with version := 1#4, queue := 5#16 } : Header), payload := zeros 64, intakeTide := 0, intakeNo := 1 } : Packet) with phase := .engine } : Item)] } } : Channel).mapPk 5 (fun e => { e with job := some ({ item := 0, algo := 0, op := 0#3, function := 0, cycles := 100, valid := 64, level := 0#3, urgent := false, halved := false, regions := [] } : PkJob) }))), .a, 5#4, ({ item := 0, algo := 0, op := 0#3, function := 0, cycles := 100, valid := 64, level := 0#3, urgent := false, halved := false, regions := [] } : PkJob), ({ Item.new 0 .transportImport ({ hdr := ({ Header.parse (zeros 32) with version := 1#4, queue := 5#16 } : Header), payload := zeros 64, intakeTide := 0, intakeNo := 1 } : Packet) with phase := .engine } : Item), by decide +kernel⟩, ⟨(({ State.reset with port := { State.reset.port with start := { State.reset.port.start with up := true, linkUp := true, aligned := true }, assay := { State.reset.port.assay with stateA := .joined, stateB := .joined }, qblocks := [(0, { QBlock.reset with assigned := true })], queues := [(5, { QCtx.reset with conf := { QConf.reset with enable := true } })], fns := [(0, { Fn.reset with acuEnabled := true, windows := [(0, { Window.reset with read := true, write := true, on := true, pagesM1 := 0xFFFF#24 })] })] } } : State).upd .a (fun c => ({ c with tide := 3, sched := { c.sched with items := [({ Item.new 0 .pkPubkeyExport ({ hdr := ({ Header.parse (zeros 32) with version := 1#4, queue := 5#16 } : Header), payload := zeros 64, intakeTide := 0, intakeNo := 1 } : Packet) with phase := .engine } : Item)] } } : Channel).mapPk 5 (fun e => { e with job := some ({ item := 0, algo := 0, op := 0#3, function := 0, cycles := 100, valid := 64, level := 0#3, urgent := false, halved := false, regions := [] } : PkJob), validated := true }))), .a, 5#4, ({ item := 0, algo := 0, op := 0#3, function := 0, cycles := 100, valid := 64, level := 0#3, urgent := false, halved := false, regions := [] } : PkJob), ({ Item.new 0 .pkPubkeyExport ({ hdr := ({ Header.parse (zeros 32) with version := 1#4, queue := 5#16 } : Header), payload := zeros 64, intakeTide := 0, intakeNo := 1 } : Packet) with phase := .engine } : Item), (((({ State.reset with port := { State.reset.port with start := { State.reset.port.start with up := true, linkUp := true, aligned := true }, assay := { State.reset.port.assay with stateA := .joined, stateB := .joined }, qblocks := [(0, { QBlock.reset with assigned := true })], queues := [(5, { QCtx.reset with conf := { QConf.reset with enable := true } })], fns := [(0, { Fn.reset with acuEnabled := true, windows := [(0, { Window.reset with read := true, write := true, on := true, pagesM1 := 0xFFFF#24 })] })] } } : State).upd .a (fun c => ({ c with tide := 3, sched := { c.sched with items := [({ Item.new 0 .pkPubkeyExport ({ hdr := ({ Header.parse (zeros 32) with version := 1#4, queue := 5#16 } : Header), payload := zeros 64, intakeTide := 0, intakeNo := 1 } : Packet) with phase := .engine } : Item)] } } : Channel).mapPk 5 (fun e => { e with job := some ({ item := 0, algo := 0, op := 0#3, function := 0, cycles := 100, valid := 64, level := 0#3, urgent := false, halved := false, regions := [] } : PkJob), validated := true }))).chan .a), Res.good []), by decide +kernel, by decide +kernel, by decide +kernel, by decide +kernel, by decide +kernel, rfl, by decide +kernel, by decide +kernel, by decide +kernel⟩, ⟨(({ State.reset with port := { State.reset.port with start := { State.reset.port.start with up := true, linkUp := true, aligned := true }, assay := { State.reset.port.assay with stateA := .joined, stateB := .joined }, qblocks := [(0, { QBlock.reset with assigned := true })], queues := [(5, { QCtx.reset with conf := { QConf.reset with enable := true } })], fns := [(0, { Fn.reset with acuEnabled := true, windows := [(0, { Window.reset with read := true, write := true, on := true, pagesM1 := 0xFFFF#24 })] })] } } : State).upd .a (fun c => ({ c with tide := 3, sched := { c.sched with items := [({ Item.new 0 .pkSign ({ hdr := ({ Header.parse (zeros 32) with version := 1#4, queue := 5#16 } : Header), payload := zeros 64, intakeTide := 0, intakeNo := 1 } : Packet) with phase := .engine } : Item)] } } : Channel).mapPk 5 (fun e => { e with job := some ({ item := 0, algo := 0, op := 0#3, function := 0, cycles := 100, valid := 64, level := 0#3, urgent := false, halved := false, regions := [] } : PkJob), validated := true }))), .a, 5#4, ({ item := 0, algo := 0, op := 0#3, function := 0, cycles := 100, valid := 64, level := 0#3, urgent := false, halved := false, regions := [] } : PkJob), ({ Item.new 0 .pkSign ({ hdr := ({ Header.parse (zeros 32) with version := 1#4, queue := 5#16 } : Header), payload := zeros 64, intakeTide := 0, intakeNo := 1 } : Packet) with phase := .engine } : Item), by decide +kernel⟩, ⟨(({ State.reset with port := { State.reset.port with start := { State.reset.port.start with up := true, linkUp := true, aligned := true }, assay := { State.reset.port.assay with stateA := .joined, stateB := .joined }, qblocks := [(0, { QBlock.reset with assigned := true })], queues := [(5, { QCtx.reset with conf := { QConf.reset with enable := true } })], fns := [(0, { Fn.reset with acuEnabled := true, windows := [(0, { Window.reset with read := true, write := true, on := true, pagesM1 := 0xFFFF#24 })] })] } } : State).upd .a (fun c => ({ c with tide := 3, sched := { c.sched with items := [({ Item.new 0 .pkSign ({ hdr := ({ Header.parse (zeros 32) with version := 1#4, queue := 5#16 } : Header), payload := zeros 64, intakeTide := 0, intakeNo := 1 } : Packet) with phase := .engine } : Item)] } } : Channel).mapPk 5 (fun e => { e with job := some ({ item := 0, algo := 0, op := 0#3, function := 0, cycles := 100, valid := 64, level := 0#3, urgent := false, halved := false, regions := [] } : PkJob) }))), .a, 5#4, ({ item := 0, algo := 0, op := 0#3, function := 0, cycles := 100, valid := 64, level := 0#3, urgent := false, halved := false, regions := [] } : PkJob), ({ Item.new 0 .pkSign ({ hdr := ({ Header.parse (zeros 32) with version := 1#4, queue := 5#16 } : Header), payload := zeros 64, intakeTide := 0, intakeNo := 1 } : Packet) with phase := .engine } : Item), false, 0#64, by decide +kernel⟩, ⟨(({ State.reset with port := { State.reset.port with start := { State.reset.port.start with up := true, linkUp := true, aligned := true }, assay := { State.reset.port.assay with stateA := .joined, stateB := .joined }, qblocks := [(0, { QBlock.reset with assigned := true })], queues := [(5, { QCtx.reset with conf := { QConf.reset with enable := true } })], fns := [(0, { Fn.reset with acuEnabled := true, windows := [(0, { Window.reset with read := true, write := true, on := true, pagesM1 := 0xFFFF#24 })] })] } } : State).upd .a (fun c => ({ c with tide := 3 } : Channel).mapPk 5 (fun e => { e with wiping := true }))), .a, 5#4, by decide +kernel⟩⟩

/-- States and operands that meet the hypotheses of SluiceSessions, clause by clause. -/
theorem witness_SluiceSessions :
    (∃ (s : State), (s.a.start.step = .sluice) ∧ (s.b.start.step = .sluice) ∧ ((s.a.sluice && s.b.sluice) = false) ∧ (s.port.serving .a = false) ∧ (s.port.serving .b = false) ∧ (s.mayAgree = true))
    ∧ (∃ (s : State), (s.a.start.step = .sluice) ∧ (s.b.start.step = .sluice) ∧ ((s.a.sluice && s.b.sluice) = false) ∧ (s.port.serving .a = false) ∧ (s.port.serving .b = false) ∧ (s.mayAgree = false))
    ∧ (∃ (l m : Link) (ch : Chan) (content : Bytes), (l.sendKey.length = 32) ∧ (m.recvKey = l.sendKey))
    ∧ (∃ (s : State) (x : Chan), (s.sluiceUp = true) ∧ ((s.chan x).sluiceRetry = false))
    ∧ (∃ (s : State) (x : Chan), (s.sluiceUp = true) ∧ ((s.chan x).sluiceRetry = true))
    ∧ (∃ (s : State) (x : Chan), (s.refilling = some x) ∧ (s.sluiceUp = true) ∧ ((s.chan x).refill.step = .repairList))
    ∧ (∃ (s : State) (x : Chan) (d : Delta) (l : List Delta), (s.joining = none) ∧ (s.refilling = some x) ∧ (s.sluiceUp = true) ∧ (((s.chan x).refill.step = .replay ∨ (s.chan x).refill.step = .catchUp)) ∧ (s.overwritten x = false) ∧ (s.toSend x = d :: l))
    ∧ (∃ (s : State) (x : Chan), (s.refilling = some x) ∧ (s.sluiceUp = true) ∧ ((s.chan x).refill.step = .regions))
    ∧ (∃ (s : State) (x : Chan), (s.refilling = some x) ∧ (s.sluiceUp = true) ∧ (((s.chan x).refill.step = .snapshots ∨ (s.chan x).refill.step = .replay ∧ s.toSend x = [])))
    ∧ (∃ (s : State) (x : Chan) (h : Handover), (s.joining = some x) ∧ (s.sluiceUp = true) ∧ ((s.chan x).refill.awaitHandover = true) ∧ (((s.chan x.peer).formHandover).refill.sent = some h)) :=
  ⟨⟨({ State.reset with
      a := { State.reset.a with start := { State.reset.a.start with step := .sluice }, fuses := { State.reset.a.fuses with identity := State.reset.a.fuses.identity } }
      b := { State.reset.b with start := { State.reset.b.start with step := .sluice } } } : State), by decide, by decide, by decide, by decide, by decide, (by simp only [State.mayAgree, State.rootsMatch, show State.reset.b.flash = State.reset.a.flash from rfl, show State.reset.b.keys = State.reset.a.keys from rfl, show State.reset.b.fuses = State.reset.a.fuses from rfl, show State.reset.b.rng = State.reset.a.rng from rfl, State.trusted, beq_self_eq_true, Bool.true_and, Bool.true_or, Bool.or_true]; decide)⟩, ⟨({ State.reset with
      a := { State.reset.a with start := { State.reset.a.start with step := .sluice }, fuses := { State.reset.a.fuses with identity := [1#8] } }
      b := { State.reset.b with start := { State.reset.b.start with step := .sluice } } } : State), by decide +kernel⟩, ⟨{ Link.none with sendKey := zeros 32 }, { Link.none with recvKey := zeros 32 }, .b, [5#8], by decide +kernel⟩, ⟨({ State.reset with a := { (State.reset : State).a with sluice := true }, b := { (State.reset : State).b with sluice := true } } : State), .a, by decide +kernel⟩, ⟨({ State.reset with a := { (State.reset : State).a with sluice := true, sluiceRetry := true }, b := { (State.reset : State).b with sluice := true } } : State), .a, by decide +kernel⟩, ⟨({ State.reset with
      a := { State.reset.a with sluice := true, start := { State.reset.a.start with step := .service }, journal := { State.reset.a.journal with ring := [] } }
      b := { State.reset.b with sluice := true, rng := { State.reset.b.rng with state := .ready }, start := { State.reset.b.start with step := .join }, refill := { Refill.reset with step := .repairList } }
      port := { State.reset.port with tide := 9, assay := { State.reset.port.assay with stateA := .joined, stateB := .refilling, refillActive := true, refillB := true, joinAt := some 8 } } } : State), .b, by decide +kernel⟩, ⟨({ State.reset with
      a := { State.reset.a with sluice := true, start := { State.reset.a.start with step := .service }, journal := { State.reset.a.journal with ring := [({ intake := 1, jseq := 0, kind := 3, object := 0, tideLo := 0#32, rung := 0, side := .a, tag := [], image := .dukpt 0 DukptRec.unbound } : Delta)] } }
      b := { State.reset.b with sluice := true, rng := { State.reset.b.rng with state := .ready }, start := { State.reset.b.start with step := .join }, refill := { Refill.reset with step := .replay } }
      port := { State.reset.port with tide := 9, assay := { State.reset.port.assay with stateA := .joined, stateB := .refilling, refillActive := true, refillB := true, joinAt := some 8 } } } : State), .b, ({ intake := 1, jseq := 0, kind := 3, object := 0, tideLo := 0#32, rung := 0, side := .a, tag := [], image := .dukpt 0 DukptRec.unbound } : Delta), [], by decide +kernel⟩, ⟨({ State.reset with
      a := { State.reset.a with sluice := true, start := { State.reset.a.start with step := .service }, journal := { State.reset.a.journal with ring := [] } }
      b := { State.reset.b with sluice := true, rng := { State.reset.b.rng with state := .ready }, start := { State.reset.b.start with step := .join }, refill := { Refill.reset with step := .regions } }
      port := { State.reset.port with tide := 9, assay := { State.reset.port.assay with stateA := .joined, stateB := .refilling, refillActive := true, refillB := true, joinAt := some 8 } } } : State), .b, by decide +kernel⟩, ⟨({ State.reset with
      a := { State.reset.a with sluice := true, start := { State.reset.a.start with step := .service }, journal := { State.reset.a.journal with ring := [] } }
      b := { State.reset.b with sluice := true, rng := { State.reset.b.rng with state := .ready }, start := { State.reset.b.start with step := .join }, refill := { Refill.reset with step := .snapshots } }
      port := { State.reset.port with tide := 9, assay := { State.reset.port.assay with stateA := .joined, stateB := .refilling, refillActive := true, refillB := true, joinAt := some 8 } } } : State), .b, by decide +kernel⟩, ⟨({ { State.reset with port := { State.reset.port with assay := { State.reset.port.assay with stateA := .joined, stateB := .joined } } } with
      a := { State.reset.a with sluice := true, refill := { Refill.reset with sent := some { tide := 0, epoch := 0, uses := 0, rotTwin := 0, delayed := [], delivered := [(5, 7)], use := [] } } }
      b := { State.reset.b with sluice := true, refill := { Refill.reset with step := .catchUp, awaitHandover := true } } } : State), .b, { tide := 0, epoch := 0, uses := 0, rotTwin := 0, delayed := [], delivered := [(5, 7)], use := [] }, by decide +kernel⟩⟩

/-- States and operands that meet the hypotheses of RefillTakesTheSurvivorsState, clause by clause. -/
theorem witness_RefillTakesTheSurvivorsState :
    (∃ (s : State) (x : Chan), (s.refilling = some x) ∧ (s.sluiceUp = true) ∧ ((s.chan x).refill.step = .repairList))
    ∧ (∃ (s : State) (x : Chan) (d : Delta) (l : List Delta), (s.joining = none) ∧ (s.refilling = some x) ∧ (s.sluiceUp = true) ∧ (((s.chan x).refill.step = .replay ∨ (s.chan x).refill.step = .catchUp)) ∧ (s.overwritten x = false) ∧ (s.toSend x = d :: l))
    ∧ (∃ (s : State) (x : Chan) (d : Delta) (l : List Delta), (s.joining = some x) ∧ (s.sluiceUp = true) ∧ ((s.chan x).refill.awaitHandover = true) ∧ (s.lateDeltas x = d :: l))
    ∧ (∃ (s : State) (x : Chan), (s.joining = none) ∧ (s.refilling = some x) ∧ (s.sluiceUp = true) ∧ (((s.chan x).refill.step = .replay ∨ (s.chan x).refill.step = .catchUp)) ∧ (s.overwritten x = true))
    ∧ (∃ (s : State) (x : Chan), (s.refilling = some x) ∧ (s.sluiceUp = true) ∧ ((s.chan x).refill.step = .regions))
    ∧ (∃ (s : State) (x : Chan), (s.refilling = some x) ∧ (s.sluiceUp = true) ∧ (((s.chan x).refill.step = .snapshots ∨ (s.chan x).refill.step = .replay ∧ s.toSend x = []))) :=
  ⟨⟨({ State.reset with
      a := { State.reset.a with sluice := true, start := { State.reset.a.start with step := .service }, journal := { State.reset.a.journal with ring := [] } }
      b := { State.reset.b with sluice := true, rng := { State.reset.b.rng with state := .ready }, start := { State.reset.b.start with step := .join }, refill := { Refill.reset with step := .repairList } }
      port := { State.reset.port with tide := 9, assay := { State.reset.port.assay with stateA := .joined, stateB := .refilling, refillActive := true, refillB := true, joinAt := some 8 } } } : State), .b, by decide +kernel⟩, ⟨({ State.reset with
      a := { State.reset.a with sluice := true, start := { State.reset.a.start with step := .service }, journal := { State.reset.a.journal with ring := [({ intake := 1, jseq := 0, kind := 3, object := 0, tideLo := 0#32, rung := 0, side := .a, tag := [], image := .dukpt 0 DukptRec.unbound } : Delta)] } }
      b := { State.reset.b with sluice := true, rng := { State.reset.b.rng with state := .ready }, start := { State.reset.b.start with step := .join }, refill := { Refill.reset with step := .replay } }
      port := { State.reset.port with tide := 9, assay := { State.reset.port.assay with stateA := .joined, stateB := .refilling, refillActive := true, refillB := true, joinAt := some 8 } } } : State), .b, ({ intake := 1, jseq := 0, kind := 3, object := 0, tideLo := 0#32, rung := 0, side := .a, tag := [], image := .dukpt 0 DukptRec.unbound } : Delta), [], by decide +kernel⟩, ⟨({ { State.reset with port := { State.reset.port with assay := { State.reset.port.assay with stateA := .joined, stateB := .joined } } } with
      a := { State.reset.a with sluice := true, journal := { State.reset.a.journal with ring := [({ intake := 1, jseq := 0, kind := 3, object := 0, tideLo := 0#32, rung := 0, side := .a, tag := [], image := .dukpt 0 DukptRec.unbound } : Delta)] }, refill := { Refill.reset with sent := some { tide := 0, epoch := 0, uses := 0, rotTwin := 0, delayed := [], delivered := [(5, 7)], use := [] } } }
      b := { State.reset.b with sluice := true, refill := { Refill.reset with step := .catchUp, awaitHandover := true, low := 5 } } } : State), .b, ({ intake := 1, jseq := 0, kind := 3, object := 0, tideLo := 0#32, rung := 0, side := .a, tag := [], image := .dukpt 0 DukptRec.unbound } : Delta), [], by decide +kernel⟩, ⟨({ State.reset with
      a := { State.reset.a with sluice := true, start := { State.reset.a.start with step := .service }, journal := { State.reset.a.journal with ring := [{ ({ intake := 1, jseq := 0, kind := 3, object := 0, tideLo := 0#32, rung := 0, side := .a, tag := [], image := .dukpt 0 DukptRec.unbound } : Delta) with jseq := 7 }] } }
      b := { State.reset.b with sluice := true, rng := { State.reset.b.rng with state := .ready }, start := { State.reset.b.start with step := .join }, refill := { Refill.reset with step := .replay, nextSend := 2 } }
      port := { State.reset.port with tide := 9, assay := { State.reset.port.assay with stateA := .joined, stateB := .refilling, refillActive := true, refillB := true, joinAt := some 8 } } } : State), .b, by decide +kernel⟩, ⟨({ State.reset with
      a := { State.reset.a with sluice := true, start := { State.reset.a.start with step := .service }, journal := { State.reset.a.journal with ring := [] } }
      b := { State.reset.b with sluice := true, rng := { State.reset.b.rng with state := .ready }, start := { State.reset.b.start with step := .join }, refill := { Refill.reset with step := .regions } }
      port := { State.reset.port with tide := 9, assay := { State.reset.port.assay with stateA := .joined, stateB := .refilling, refillActive := true, refillB := true, joinAt := some 8 } } } : State), .b, by decide +kernel⟩, ⟨({ State.reset with
      a := { State.reset.a with sluice := true, start := { State.reset.a.start with step := .service }, journal := { State.reset.a.journal with ring := [] } }
      b := { State.reset.b with sluice := true, rng := { State.reset.b.rng with state := .ready }, start := { State.reset.b.start with step := .join }, refill := { Refill.reset with step := .snapshots } }
      port := { State.reset.port with tide := 9, assay := { State.reset.port.assay with stateA := .joined, stateB := .refilling, refillActive := true, refillB := true, joinAt := some 8 } } } : State), .b, by decide +kernel⟩⟩

/-- States and operands that meet the hypotheses of JoinsAndPlannedRetirement, clause by clause. -/
theorem witness_JoinsAndPlannedRetirement :
    (∃ (s : State) (x : Chan), (s.refilling = some x) ∧ (s.sluiceUp = true) ∧ ((s.chan x).refill.step = .catchUp) ∧ (s.toSend x = []) ∧ (s.port.assay.st x = .refilling) ∧ (s.port.offset = 0))
    ∧ (∃ (s : State) (x : Chan) (j : Nat), (s.refilling = some x) ∧ (s.port.assay.joinAt = some j) ∧ (j = s.port.tide + 1))
    ∧ (∃ (s : State) (x : Chan) (j : Nat), (s.refilling = some x) ∧ (s.port.assay.joinAt = some j) ∧ (j ≤ s.port.tide) ∧ (s.port.joined x.peer = true) ∧ (s.sluiceUp = true) ∧ ((s.chan x).rng.state = .ready))
    ∧ (∃ (s : State) (x : Chan) (h : Handover), (s.joining = some x) ∧ (s.sluiceUp = true) ∧ ((s.chan x).refill.awaitHandover = true) ∧ (((s.chan x.peer).formHandover).refill.sent = some h))
    ∧ (∃ (s : State) (x : Chan) (p : Nat), (s.port.assay.planned = some (x, p)) ∧ (p ≤ s.port.tide) ∧ (s.port.joined .a = true) ∧ (s.port.joined .b = true))
    ∧ (∃ (s : State) (x : Chan) (p : Nat), (s.port.assay.planned = some (x, p)) ∧ (s.port.assay.st x = .draining) ∧ (s.port.joined x.peer = true) ∧ (((s.chan x).empty = true ∨ p + 500000 ≤ s.port.tide)))
    ∧ (∃ (s : State) (x : Chan), ((s.chan x).start.step = .service) ∧ (max (((s.chan x).journal.checkA.map (·.tide)).getD 0) (((s.chan x).journal.checkB.map (·.tide)).getD 0) + 4096 ≤ (s.chan x).tide)) :=
  ⟨⟨({ State.reset with
      a := { State.reset.a with sluice := true, start := { State.reset.a.start with step := .service }, journal := { State.reset.a.journal with ring := [] } }
      b := { State.reset.b with sluice := true, rng := { State.reset.b.rng with state := .ready }, start := { State.reset.b.start with step := .join }, refill := { Refill.reset with step := .catchUp } }
      port := { State.reset.port with tide := 9, assay := { State.reset.port.assay with stateA := .joined, stateB := .refilling, refillActive := true, refillB := true, joinAt := some 8 } } } : State), .b, by decide +kernel⟩, ⟨({ (({ State.reset with
      a := { State.reset.a with sluice := true, start := { State.reset.a.start with step := .service }, journal := { State.reset.a.journal with ring := [] } }
      b := { State.reset.b with sluice := true, rng := { State.reset.b.rng with state := .ready }, start := { State.reset.b.start with step := .join }, refill := { Refill.reset with step := .catchUp } }
      port := { State.reset.port with tide := 9, assay := { State.reset.port.assay with stateA := .joined, stateB := .refilling, refillActive := true, refillB := true, joinAt := some 8 } } } : State)) with port := { (({ State.reset with
      a := { State.reset.a with sluice := true, start := { State.reset.a.start with step := .service }, journal := { State.reset.a.journal with ring := [] } }
      b := { State.reset.b with sluice := true, rng := { State.reset.b.rng with state := .ready }, start := { State.reset.b.start with step := .join }, refill := { Refill.reset with step := .catchUp } }
      port := { State.reset.port with tide := 9, assay := { State.reset.port.assay with stateA := .joined, stateB := .refilling, refillActive := true, refillB := true, joinAt := some 8 } } } : State)).port with tide := 7 } } : State), .b, 8, by decide +kernel⟩, ⟨({ State.reset with
      a := { State.reset.a with sluice := true, start := { State.reset.a.start with step := .service }, journal := { State.reset.a.journal with ring := [] } }
      b := { State.reset.b with sluice := true, rng := { State.reset.b.rng with state := .ready }, start := { State.reset.b.start with step := .join }, refill := { Refill.reset with step := .catchUp } }
      port := { State.reset.port with tide := 9, assay := { State.reset.port.assay with stateA := .joined, stateB := .ready, refillActive := true, refillB := true, joinAt := some 8 } } } : State), .b, 8, by decide +kernel⟩, ⟨({ { State.reset with port := { State.reset.port with assay := { State.reset.port.assay with stateA := .joined, stateB := .joined } } } with
      a := { State.reset.a with sluice := true, refill := { Refill.reset with sent := some { tide := 0, epoch := 0, uses := 0, rotTwin := 0, delayed := [], delivered := [(5, 7)], use := [] } } }
      b := { State.reset.b with sluice := true, refill := { Refill.reset with step := .catchUp, awaitHandover := true } } } : State), .b, { tide := 0, epoch := 0, uses := 0, rotTwin := 0, delayed := [], delivered := [(5, 7)], use := [] }, by decide +kernel⟩, ⟨({ State.reset with port := { State.reset.port with assay := { State.reset.port.assay with stateA := .joined, stateB := .joined } } } : State).updPort (fun p => { p with assay := { p.assay with planned := some (.b, 0) } }), .b, 0, by decide +kernel⟩, ⟨({ State.reset with port := { State.reset.port with assay := { State.reset.port.assay with stateA := .joined, stateB := .joined } } } : State).updPort (fun p => { p with assay := { p.assay with planned := some (.b, 0), stateB := .draining } }), .b, 0, by decide +kernel⟩, ⟨State.reset.upd .b (fun c => { c with tide := 4096, start := { c.start with step := .service } }), .b, by decide +kernel⟩⟩

/-- States and operands that meet the hypotheses of ChannelResetKeepsWhatEndures, clause by clause. -/
theorem witness_ChannelResetKeepsWhatEndures :
    (∃ (s : State) (x : Chan), (s.port.mgmt.activation = none) ∧ ((s.chan x).resetOrder = true) ∧ ((s.chan x).start.step = .service))
    ∧ (∃ (s : State) (x : Chan), ((s.chan x).resetOrder = false))
    ∧ (∃ (s : State) (x : Chan), (s.refilling = some x) ∧ (s.sluiceUp = true) ∧ ((s.chan x).refill.step = .catchUp) ∧ (s.toSend x = []) ∧ (s.port.assay.st x = .refilling) ∧ (s.port.offset = 0))
    ∧ (∃ (s : State) (x : Chan) (j : Nat), (s.refilling = some x) ∧ (s.port.assay.joinAt = some j) ∧ (j = s.port.tide + 1))
    ∧ (∃ (s : State) (x : Chan) (j : Nat), (s.refilling = some x) ∧ (s.port.assay.joinAt = some j) ∧ (j ≤ s.port.tide) ∧ (s.port.joined x.peer = true) ∧ (s.sluiceUp = true) ∧ ((s.chan x).rng.state = .ready))
    ∧ (∃ (s : State) (x : Chan) (p : Nat), (s.port.assay.planned = some (x, p)) ∧ (p ≤ s.port.tide) ∧ (s.port.joined .a = true) ∧ (s.port.joined .b = true))
    ∧ (∃ (s : State) (x : Chan) (p : Nat), (s.port.assay.planned = some (x, p)) ∧ (s.port.assay.st x = .draining) ∧ (s.port.joined x.peer = true) ∧ (((s.chan x).empty = true ∨ p + 500000 ≤ s.port.tide)))
    ∧ (∃ (s : State) (x : Chan), ((s.chan x).start.step = .service) ∧ (max (((s.chan x).journal.checkA.map (·.tide)).getD 0) (((s.chan x).journal.checkB.map (·.tide)).getD 0) + 4096 ≤ (s.chan x).tide)) :=
  ⟨⟨({ State.reset with port := { State.reset.port with assay := { State.reset.port.assay with stateA := .joined, stateB := .joined } } } : State).upd .b (fun c => { c with resetOrder := true, start := { c.start with step := .service } }), .b, by decide +kernel⟩, ⟨State.reset, .b, by decide +kernel⟩, ⟨({ State.reset with
      a := { State.reset.a with sluice := true, start := { State.reset.a.start with step := .service }, journal := { State.reset.a.journal with ring := [] } }
      b := { State.reset.b with sluice := true, rng := { State.reset.b.rng with state := .ready }, start := { State.reset.b.start with step := .join }, refill := { Refill.reset with step := .catchUp } }
      port := { State.reset.port with tide := 9, assay := { State.reset.port.assay with stateA := .joined, stateB := .refilling, refillActive := true, refillB := true, joinAt := some 8 } } } : State), .b, by decide +kernel⟩, ⟨({ (({ State.reset with
      a := { State.reset.a with sluice := true, start := { State.reset.a.start with step := .service }, journal := { State.reset.a.journal with ring := [] } }
      b := { State.reset.b with sluice := true, rng := { State.reset.b.rng with state := .ready }, start := { State.reset.b.start with step := .join }, refill := { Refill.reset with step := .catchUp } }
      port := { State.reset.port with tide := 9, assay := { State.reset.port.assay with stateA := .joined, stateB := .refilling, refillActive := true, refillB := true, joinAt := some 8 } } } : State)) with port := { (({ State.reset with
      a := { State.reset.a with sluice := true, start := { State.reset.a.start with step := .service }, journal := { State.reset.a.journal with ring := [] } }
      b := { State.reset.b with sluice := true, rng := { State.reset.b.rng with state := .ready }, start := { State.reset.b.start with step := .join }, refill := { Refill.reset with step := .catchUp } }
      port := { State.reset.port with tide := 9, assay := { State.reset.port.assay with stateA := .joined, stateB := .refilling, refillActive := true, refillB := true, joinAt := some 8 } } } : State)).port with tide := 7 } } : State), .b, 8, by decide +kernel⟩, ⟨({ State.reset with
      a := { State.reset.a with sluice := true, start := { State.reset.a.start with step := .service }, journal := { State.reset.a.journal with ring := [] } }
      b := { State.reset.b with sluice := true, rng := { State.reset.b.rng with state := .ready }, start := { State.reset.b.start with step := .join }, refill := { Refill.reset with step := .catchUp } }
      port := { State.reset.port with tide := 9, assay := { State.reset.port.assay with stateA := .joined, stateB := .ready, refillActive := true, refillB := true, joinAt := some 8 } } } : State), .b, 8, by decide +kernel⟩, ⟨({ State.reset with port := { State.reset.port with assay := { State.reset.port.assay with stateA := .joined, stateB := .joined } } } : State).updPort (fun p => { p with assay := { p.assay with planned := some (.b, 0) } }), .b, 0, by decide +kernel⟩, ⟨({ State.reset with port := { State.reset.port with assay := { State.reset.port.assay with stateA := .joined, stateB := .joined } } } : State).updPort (fun p => { p with assay := { p.assay with planned := some (.b, 0), stateB := .draining } }), .b, 0, by decide +kernel⟩, ⟨State.reset.upd .b (fun c => { c with tide := 4096, start := { c.start with step := .service } }), .b, by decide +kernel⟩⟩

/-- States and operands that meet the hypotheses of FunctionResets, clause by clause. -/
theorem witness_FunctionResets :
    (∃ (s : State) (f : BitVec 8), (s.port.start.linkUp = true) ∧ (f ≠ 0#8) ∧ (s.port.underReset f.toNat = false))
    ∧ (∃ (s : State), (s.port.start.linkUp = true) ∧ (s.port.sriov.vfEnable = true))
    ∧ (∃ (s : State) (ch : Chan) (r : FnReset) (f : Nat), (s.port.resets = [r]) ∧ (r.fns = [f]) ∧ (s.port.serving ch = true) ∧ (r.r ≤ (s.chan ch).tide) ∧ (r.v = none) ∧ ((s.chan ch).resetting.contains (r.fns, r.n) = false))
    ∧ (∃ (s : State) (ch : Chan) (r : FnReset) (l : List Nat), ((s.chan ch).resetList = some l) ∧ (r ∈ s.port.resets) ∧ (r.list ch = none) ∧ ((s.chan ch).resetting.contains (r.fns, r.n) = true))
    ∧ (∃ (s : State) (r : FnReset), (s.port.resets = [r]) ∧ (r.v = none) ∧ (r.r + 15 < s.port.tide) ∧ (s.port.joined .a = true) ∧ (s.port.joined .b = true) ∧ (r.listA.isSome = true) ∧ (r.listB = none))
    ∧ (∃ (s : State) (r : FnReset) (v : Nat), (s.port.resets = [r]) ∧ (r.v = some v) ∧ (v ≤ s.port.tide))
    ∧ (∃ (s : State), (s.port.start.linkUp = true)) :=
  ⟨⟨({ State.reset with port := { State.reset.port with assay := { State.reset.port.assay with stateA := .joined, stateB := .joined } } } : State).updPort (fun p => { p with start := { p.start with linkUp := true } }), 7#8, by decide +kernel⟩, ⟨({ State.reset with port := { State.reset.port with assay := { State.reset.port.assay with stateA := .joined, stateB := .joined } } } : State).updPort (fun p => { p with sriov := { p.sriov with vfEnable := true }, start := { p.start with linkUp := true } }), by decide +kernel⟩, ⟨(({ State.reset with port := { State.reset.port with assay := { State.reset.port.assay with stateA := .joined, stateB := .joined } } } : State).updPort (fun p => { p with tide := 90, resets := [({ fns := [7], r := 2, n := 3, listA := none, listB := none, v := none, union := [] } : FnReset)], start := { p.start with linkUp := true } })).upd .a (fun c => { c with tide := 2 }), .a, ({ fns := [7], r := 2, n := 3, listA := none, listB := none, v := none, union := [] } : FnReset), 7, by decide +kernel⟩, ⟨(({ State.reset with port := { State.reset.port with assay := { State.reset.port.assay with stateA := .joined, stateB := .joined } } } : State).updPort (fun p => { p with tide := 90, resets := [({ fns := [7], r := 2, n := 3, listA := none, listB := none, v := none, union := [] } : FnReset)], start := { p.start with linkUp := true } })).upd .a (fun c => { c with resetList := some [4], resetting := [([7], 3)] }), .a, ({ fns := [7], r := 2, n := 3, listA := none, listB := none, v := none, union := [] } : FnReset), [4], by decide +kernel⟩, ⟨({ State.reset with port := { State.reset.port with assay := { State.reset.port.assay with stateA := .joined, stateB := .joined } } } : State).updPort (fun p => { p with tide := 90, resets := [({ fns := [7], r := 2, n := 3, listA := some [], listB := none, v := none, union := [] } : FnReset)], start := { p.start with linkUp := true } }), ({ fns := [7], r := 2, n := 3, listA := some [], listB := none, v := none, union := [] } : FnReset), by decide +kernel⟩, ⟨({ State.reset with port := { State.reset.port with assay := { State.reset.port.assay with stateA := .joined, stateB := .joined } } } : State).updPort (fun p => { p with tide := 90, resets := [({ fns := [7], r := 2, n := 3, listA := none, listB := none, v := some 4, union := [] } : FnReset)], start := { p.start with linkUp := true } }), ({ fns := [7], r := 2, n := 3, listA := none, listB := none, v := some 4, union := [] } : FnReset), 4, by decide +kernel⟩, ⟨({ State.reset with port := { State.reset.port with assay := { State.reset.port.assay with stateA := .joined, stateB := .joined } } } : State).updPort (fun p => { p with start := { p.start with linkUp := true } }), by decide +kernel⟩⟩

/-- States and operands that meet the hypotheses of TamperResponses, clause by clause. -/
theorem witness_TamperResponses :
    (∃ (s : State) (ch : Chan) (v n : BitVec 23) (l : Nat), (s.port.start.power = .run) ∧ ((s.chan ch).start.step ≠ .off) ∧ ((s.chan ch).start.step ≠ .halted) ∧ ((s.chan ch).tamper.armed = true) ∧ ((s.chan ch).responding = 0) ∧ ((s.chan ch).underTest = 0#23) ∧ (n = v &&& ~~~ (s.chan ch).tamper.detecting) ∧ (l = (s.chan ch).tamper.union n))
    ∧ (∃ (s : State) (ch : Chan) (v n : BitVec 23), (s.port.start.power = .run) ∧ ((s.chan ch).start.step ≠ .off) ∧ ((s.chan ch).start.step ≠ .halted) ∧ ((s.chan ch).tamper.armed = false) ∧ ((s.chan ch).underTest = 0#23) ∧ (n = v &&& ~~~ (s.chan ch).tamper.detecting))
    ∧ (∃ (s : State) (ch : Chan) (v n : BitVec 23) (l : Nat), (s.port.start.power = .run) ∧ ((s.chan ch).start.step ≠ .off) ∧ ((s.chan ch).start.step ≠ .halted) ∧ ((s.chan ch).tamper.armed = true) ∧ ((s.chan ch).underTest = 0#23) ∧ (n = v &&& ~~~ (s.chan ch).tamper.detecting) ∧ (l = (s.chan ch).tamper.union n) ∧ (l ≤ (s.chan ch).responding))
    ∧ (∃ (s : State) (x : Chan), (x ∈ s.port.l5From)) :=
  ⟨⟨(({ State.reset with port := { State.reset.port with assay := { State.reset.port.assay with stateA := .joined, stateB := .joined } } } : State).upd .a (fun c => { c with tamper := { c.tamper with armed := true }, start := { c.start with step := .service } })), .a, 0x1000#23, 0x1000#23, 5, by decide +kernel⟩, ⟨(({ State.reset with port := { State.reset.port with assay := { State.reset.port.assay with stateA := .joined, stateB := .joined } } } : State).upd .a (fun c => { c with tamper := { c.tamper with armed := false }, start := { c.start with step := .service } })), .a, 1#23, 1#23, by decide +kernel⟩, ⟨(({ State.reset with port := { State.reset.port with assay := { State.reset.port.assay with stateA := .joined, stateB := .joined } } } : State).upd .a (fun c => { c with tamper := { c.tamper with armed := true, levels := List.replicate 23 0#3, active := 5#3, activeUntil := 9 }, start := { c.start with step := .service }, aligned := true })), .a, 1#23, 1#23, 2, by decide +kernel⟩, ⟨({ State.reset with port := { State.reset.port with assay := { State.reset.port.assay with stateA := .joined, stateB := .joined } } } : State).updPort (fun p => { p with l5From := [.a] }), .a, by decide +kernel⟩⟩

/-- States and operands that meet the hypotheses of MonitorsAndIslands, clause by clause. -/
theorem witness_MonitorsAndIslands :
    (∃ (s : State) (ch : Chan) (n : BitVec 5) (pass : Bool), (s.port.start.power = .run) ∧ ((s.chan ch).tamper.armed = true) ∧ (n = (s.chan ch).tamper.bistNext) ∧ ((s.chan ch).testDue = true) ∧ ((pass = true ∨ (s.chan ch).tamper.failedOnce.getLsbD n.toNat = false)))
    ∧ (∃ (s : State) (ch : Chan) (v : BitVec 23), (s.port.start.power = .run) ∧ (v = (s.chan ch).underTest) ∧ (v &&& (s.chan ch).tamper.detecting = 0#23))
    ∧ (∃ (s : State) (ch : Chan) (v : BitVec 23), (s.pending = []) ∧ (s.port.start.refclk = true) ∧ ((s.chan ch).aligned = true) ∧ ((s.chan ch).offset < 4095) ∧ (v = (s.chan ch).tamper.outlast) ∧ (v ≠ 0#23) ∧ ((s.chan ch).tamper.bistUntil ≤ (s.chan ch).now + 1) ∧ ((s.chan ch).start.step ≠ .off) ∧ ((s.chan ch).start.step ≠ .halted))
    ∧ (∃ (s : State) (ch : Chan) (pin : BitVec 2), (s.port.start.power = .run) ∧ ((s.chan ch).underTest = 0#23))
    ∧ (∃ (s : State), (s.port.start.power = .run) ∧ ((∀ ch, (s.chan ch).underTest = 0#23))) :=
  ⟨⟨(({ State.reset with port := { State.reset.port with assay := { State.reset.port.assay with stateA := .joined, stateB := .joined } } } : State).upd .a (fun c => { c with tamper := { c.tamper with armed := true }, offset := 2048 })), .a, 0#5, false, by decide +kernel⟩, ⟨(({ State.reset with port := { State.reset.port with assay := { State.reset.port.assay with stateA := .joined, stateB := .joined } } } : State).upd .a (fun c => { c with tamper := { c.tamper with bistNext := 1#5, bistUntil := 80 }, aligned := true })), .a, 1#23, by decide +kernel⟩, ⟨(({ State.reset with port := { State.reset.port with assay := { State.reset.port.assay with stateA := .joined, stateB := .joined } } } : State).upd .a (fun c => { c with tamper := { c.tamper with bistNext := 1#5, bistUntil := 80, outlast := 1#23 }, aligned := true, offset := 79, start := { c.start with step := .service } })), .a, 1#23, by decide +kernel⟩, ⟨{ State.reset with port := { State.reset.port with assay := { State.reset.port.assay with stateA := .joined, stateB := .joined } } }, .a, 2#2, by decide +kernel⟩, ⟨{ State.reset with port := { State.reset.port with assay := { State.reset.port.assay with stateA := .joined, stateB := .joined } } }, ⟨rfl, fun ch => by cases ch <;> decide +kernel⟩⟩⟩

/-- States and operands that meet the hypotheses of DeviceResets, clause by clause. -/
theorem witness_DeviceResets :
    (∃ (s : State), (s.port.start.power = .backup))
    ∧ (∃ (s : State), (s.port.start.power ≠ .backup))
    ∧ (∃ (s : State), (s.port.start.power ≠ .backup))
    ∧ (∃ (s : State), (s.port.start.porst = true) ∧ (s.port.start.power = .run))
    ∧ (∃ (s : State), (s.port.start.power = .run) ∧ (s.port.start.porst = false) ∧ (s.port.start.perst = false))
    ∧ (∃ (s : State), ((s.port.start.power ≠ .run ∨ s.port.start.porst = true)))
    ∧ (∃ (s : State), (s.port.start.power = .run) ∧ (s.port.start.porst = false)) :=
  ⟨⟨({ State.reset with port := { State.reset.port with start := { State.reset.port.start with power := .backup } } } : State), by decide +kernel⟩, ⟨({ State.reset with port := { State.reset.port with start := { State.reset.port.start with power := .run } } } : State), by decide +kernel⟩, ⟨({ State.reset with port := { State.reset.port with start := { State.reset.port.start with power := .run } } } : State), by decide +kernel⟩, ⟨({ State.reset with port := { State.reset.port with start := { State.reset.port.start with power := .run, porst := true } } } : State), by decide +kernel⟩, ⟨({ State.reset with port := { State.reset.port with start := { State.reset.port.start with power := .run, porst := false, perst := false } } } : State), by decide +kernel⟩, ⟨({ State.reset with port := { State.reset.port with start := { State.reset.port.start with power := .sleep } } } : State), by decide +kernel⟩, ⟨({ State.reset with port := { State.reset.port with start := { State.reset.port.start with power := .run, porst := false, perst := true } } } : State), by decide +kernel⟩⟩

/-- States and operands that meet the hypotheses of PowerStatesAndTheLink, clause by clause. -/
theorem witness_PowerStatesAndTheLink :
    (∃ (s : State), (s.port.start.power = .run) ∧ (s.port.start.porst = false) ∧ (s.port.start.up = false) ∧ ((s.a.start.step ≠ .off ∨ s.b.start.step ≠ .off)))
    ∧ (∃ (s : State), (s.port.start.power = .run) ∧ (s.port.start.porst = false) ∧ (s.port.start.perst = false) ∧ (s.port.start.up = true) ∧ (s.port.start.refclk = true))
    ∧ (∃ (s : State), (s.port.start.power = .run) ∧ (s.port.start.porst = false))
    ∧ (∃ (s : State) (n : Nat), (s.port.mgmt.slack = some n) ∧ (n ≤ s.port.tide) ∧ (s.port.quiet = true))
    ∧ (∃ (s : State) (ch : Chan) (n : Nat), (s.port.start.power = .sleep) ∧ ((s.chan ch).tamper.wakeHigh = true) ∧ (5 ≤ n) ∧ (n ≤ 38))
    ∧ (∃ (s : State) (ch : Chan) (n : Nat), (s.port.start.power = .backup) ∧ ((s.chan ch).tamper.wakeHigh = true) ∧ (5 ≤ n) ∧ (n ≤ 38))
    ∧ (∃ (s : State) (ch : Chan) (n : Nat), ((s.chan ch).tamper.wakeHigh = true) ∧ (n ≤ 3)) :=
  ⟨⟨(({ State.reset with port := { State.reset.port with start := { State.reset.port.start with power := .run, porst := false } } } : State)).upd .a (fun c => { c with start := { c.start with step := .fuseLoad } }), by decide +kernel⟩, ⟨({ State.reset with port := { State.reset.port with start := { State.reset.port.start with power := .run, porst := false, perst := false, up := true, refclk := true } } } : State), by decide +kernel⟩, ⟨({ State.reset with port := { State.reset.port with start := { State.reset.port.start with power := .run, porst := false } } } : State), by decide +kernel⟩, ⟨({ State.reset with port := { State.reset.port with assay := { State.reset.port.assay with stateA := .joined, stateB := .joined } } }).updPort (fun p => { p with mgmt := { p.mgmt with slack := some 0 } }), 0, by decide +kernel⟩, ⟨(({ State.reset with port := { State.reset.port with start := { State.reset.port.start with power := .sleep } } } : State)).upd .a (fun c => { c with tamper := { c.tamper with wakeHigh := true } }), .a, 5, by decide +kernel⟩, ⟨(({ State.reset with port := { State.reset.port with start := { State.reset.port.start with power := .backup } } } : State)).upd .a (fun c => { c with tamper := { c.tamper with wakeHigh := true } }), .a, 38, by decide +kernel⟩, ⟨State.reset.upd .a (fun c => { c with tamper := { c.tamper with wakeHigh := true } }), .a, 3, by decide +kernel⟩⟩

/-- States and operands that meet the hypotheses of ChannelStartSteps, clause by clause. -/
theorem witness_ChannelStartSteps :
    (∃ (s : State) (ch : Chan), ((s.chan ch).start.step = .fuseLoad) ∧ ((s.chan ch).resetOrder = false) ∧ ((s.chan ch).start.held = false) ∧ ((s.chan ch).tamper.seen = 0#23) ∧ ((s.chan ch).island.passes = true) ∧ ((s.chan ch).island.retain = true) ∧ ((s.chan ch).island.erased = false))
    ∧ (∃ (s : State) (ch : Chan), ((s.chan ch).start.step = .fuseLoad) ∧ ((s.chan ch).resetOrder = false) ∧ ((s.chan ch).underTest.getLsbD 20 = false))
    ∧ (∃ (s : State) (ch : Chan), ((s.chan ch).start.step = .image) ∧ ((s.chan ch).resetOrder = false) ∧ (s.port.mgmt.activation = none))
    ∧ (∃ (s : State) (ch : Chan) (ok : Bool), ((s.chan ch).start.step = .training) ∧ ((s.chan ch).resetOrder = false))
    ∧ (∃ (s : State) (ch : Chan), ((s.chan ch).start.step = .memoryTest) ∧ ((s.chan ch).resetOrder = false))
    ∧ (∃ (s : State) (ch : Chan), ((s.chan ch).start.step = .selfTest) ∧ ((s.chan ch).resetOrder = false) ∧ ((s.chan ch).rng.state = .ready))
    ∧ (∃ (s : State) (ch : Chan) (n : BitVec 6) (z : Core), ((s.chan ch).start.step = .service) ∧ ((s.chan ch).sched.cores[n.toNat]? = some z) ∧ (z.item = none) ∧ (z.out = false) ∧ (z.since ≤ (s.chan ch).now) ∧ (restDue z.testedTide (s.chan ch).tide = true))
    ∧ (∃ (s : State) (ch : Chan), ((s.chan ch).start.step = .service)) :=
  ⟨⟨islandKept, .a, by decide +kernel, by decide +kernel, by decide +kernel, by decide +kernel, islandKept_passes, by decide +kernel, by decide +kernel⟩, ⟨(State.reset.upd .a (fun c => { c with start := { c.start with step := .fuseLoad } })), .a, by decide +kernel⟩, ⟨(State.reset.upd .a (fun c => { c with start := { c.start with step := .image } })), .a, by decide +kernel⟩, ⟨(State.reset.upd .a (fun c => { c with start := { c.start with step := .training } })), .a, true, by decide +kernel⟩, ⟨(State.reset.upd .a (fun c => { c with start := { c.start with step := .memoryTest } })), .a, by decide +kernel⟩, ⟨(State.reset.upd .a (fun c => { c with start := { c.start with step := .selfTest }, rng := { c.rng with state := .ready } })), .a, by decide +kernel⟩, ⟨(State.reset.upd .a (fun c => { c with start := { c.start with step := .service } })), .a, 3#6, Core.idle, by decide +kernel⟩, ⟨(State.reset.upd .a (fun c => { c with start := { c.start with step := .service } })), .a, by decide +kernel⟩⟩

/-- States and operands that meet the hypotheses of FirstJoinAndSvnCommit, clause by clause. -/
theorem witness_FirstJoinAndSvnCommit :
    (∃ (s : State) (ch : Chan) (n : Nat), ((s.chan ch).start.step = .sluice) ∧ ((s.chan ch).start.step8At = some n) ∧ (n + 25000 ≤ (s.chan ch).tide) ∧ (s.port.joinedChans = []) ∧ (s.port.j0 = none) ∧ ((s.chan ch.peer).start.step ≠ .join) ∧ ((s.chan ch).refill.partialCopy = false))
    ∧ (∃ (s : State) (j : Nat), (s.port.j0 = some j) ∧ (j ≤ s.port.tide) ∧ (s.port.joinedChans = []) ∧ (s.a.start.step = .join) ∧ (s.b.start.step = .join) ∧ (s.a.rng.renewal.any (fun r => r.target.isSome) = true) ∧ (s.b.rng.renewal.any (fun r => r.target.isSome) = true))
    ∧ (∃ (s : State) (ch : Chan) (n x : Nat), (s.port.svnTarget = some (n, x)) ∧ (x ≤ (s.chan ch).tide) ∧ (s.port.joined ch = true) ∧ ((s.chan ch).keys.commit = none) ∧ ((s.chan ch).keys.rung ≠ n))
    ∧ (∃ (s : State) (ch : Chan) (m : SvnCommit) (k : Bytes), ((s.chan ch).keys.firstRoot = false) ∧ ((s.chan ch).keys.commit = some m) ∧ (m.written = false) ∧ ((s.chan ch).keys.sdk = some k))
    ∧ (∃ (s : State) (ch : Chan) (k : Bytes), ((s.chan ch).keys.firstRoot = true) ∧ ((s.chan ch).keys.sdk = some k) ∧ (s.port.joined ch.peer = true) ∧ ((s.chan ch.peer).keys.firstRoot = true))
    ∧ (∃ (s : State) (ch : Chan) (m : SvnCommit) (x y : RootCopy), (s.sluiceUp = true) ∧ ((s.chan ch).keys.commit = some m) ∧ (m.written = true) ∧ ((s.chan ch.peer).keys.commit.any (·.written) = true) ∧ ((s.chan ch).keys.copyOf m.target = some x) ∧ ((s.chan ch.peer).keys.copyOf m.target = some y) ∧ (x.check = y.check)) :=
  ⟨⟨(State.reset.upd .a (fun c => { c with start := { c.start with step := .sluice, step8At := some 0 }, tide := 25000 })), .a, 0, by decide +kernel⟩, ⟨({ State.reset with a := { State.reset.a with start := { State.reset.a.start with step := .join }, rng := { State.reset.a.rng with renewal := some { Renewal.fresh with target := some 2 } } }, b := { State.reset.b with start := { State.reset.b.start with step := .join }, rng := { State.reset.b.rng with renewal := some { Renewal.fresh with target := some 2 } } }, port := { State.reset.port with tide := 2, j0 := some 2 } } : State), 2, by decide +kernel⟩, ⟨({ State.reset with port := { State.reset.port with assay := { State.reset.port.assay with stateA := .joined, stateB := .joined } } } : State).updPort (fun p => { p with svnTarget := some (9, 0) }), .a, 9, 0, by decide +kernel⟩, ⟨(State.reset.upd .a (fun c => { c with keys := { c.keys with sdk := some (zeros 32), commit := some { target := 3, since := 0, written := false } } })), .a, { target := 3, since := 0, written := false }, zeros 32, by decide +kernel⟩, ⟨(let f := fun (c : Channel) => { c with keys := { c.keys with sdk := some (zeros 32), firstRoot := true } }; (({ State.reset with port := { State.reset.port with assay := { State.reset.port.assay with stateA := .joined, stateB := .joined } } } : State).upd .a f).upd .b f), .a, zeros 32, by decide +kernel⟩, ⟨({ State.reset with
      a := { State.reset.a with sluice := true, keys := { State.reset.a.keys with rootCopies := [({ rung := 3, seq := 1, wrapped := [], check := [5#8] } : RootCopy)], commit := some { target := 3, since := 0, written := true } } }
      b := { State.reset.b with sluice := true, keys := { State.reset.b.keys with rootCopies := [({ rung := 3, seq := 1, wrapped := [], check := [5#8] } : RootCopy)], commit := some { target := 3, since := 0, written := true } } } } : State), .a, { target := 3, since := 0, written := true }, ({ rung := 3, seq := 1, wrapped := [], check := [5#8] } : RootCopy), ({ rung := 3, seq := 1, wrapped := [], check := [5#8] } : RootCopy), by decide +kernel⟩⟩

/-- States and operands that meet the hypotheses of KerralMessagesAreChecked, clause by clause. -/
theorem witness_KerralMessagesAreChecked :
    (∃ (s : State) (code : Nat) (f : Kerral → Instr) (m : Kerral), ((code, f) ∈ kerralRows) ∧ (s.mgmtFree m) ∧ (s.agreeOn (s.takenMsg code m [])))
    ∧ (∃ (s : State) (m : Kerral) (image : Bytes), (s.mgmtFree m) ∧ (s.agreeOn (s.takenMsg 0x53 m image)))
    ∧ (∃ (s : State) (code : Byte) (m : Kerral), (s.mgmtFree m) ∧ (kerralRow code.toNat = none) ∧ (s.kerralLayout code.toNat m = true))
    ∧ (∃ (s : State) (code : Nat) (f : Kerral → Instr) (m : Kerral), ((code, f) ∈ kerralRows) ∧ (s.port.mgmtUp m.via.binding = true) ∧ (19 + m.rest.length ≤ 16384) ∧ (8 ≤ (s.port.mgmt.messages.filter (fun x => !x.result.any (fun r => r.result == 9))).length)) :=
  ⟨⟨({ { State.reset with port := { State.reset.port with assay := { State.reset.port.assay with stateA := .joined, stateB := .joined } } } with port := { ({ State.reset with port := { State.reset.port with assay := { State.reset.port.assay with stateA := .joined, stateB := .joined } } } : State).port with start := { ({ State.reset with port := { State.reset.port with assay := { State.reset.port.assay with stateA := .joined, stateB := .joined } } } : State).port.start with power := .run, up := true, linkUp := true } } } : State), 2, .getStatus, ({ via := { binding := .pcie, session := none }, version := 1#8, reqId := 7#16, bodyLen := 0#16, authCount := 0#8, flags := 0#8, nonceId := 0#32, reserved := 0#32, rest := [] } : Kerral), by simp [kerralRows], ⟨by decide, by decide, by decide⟩, fun _ => by decide +kernel⟩, ⟨({ { State.reset with port := { State.reset.port with assay := { State.reset.port.assay with stateA := .joined, stateB := .joined } } } with port := { ({ State.reset with port := { State.reset.port with assay := { State.reset.port.assay with stateA := .joined, stateB := .joined } } } : State).port with start := { ({ State.reset with port := { State.reset.port with assay := { State.reset.port.assay with stateA := .joined, stateB := .joined } } } : State).port.start with power := .run, up := true, linkUp := true } } } : State), ({ via := { binding := .pcie, session := none }, version := 1#8, reqId := 7#16, bodyLen := 0#16, authCount := 0#8, flags := 0#8, nonceId := 0#32, reserved := 0#32, rest := [] } : Kerral), [], ⟨by decide, by decide, by decide⟩, fun _ => by decide +kernel⟩, ⟨({ { State.reset with port := { State.reset.port with assay := { State.reset.port.assay with stateA := .joined, stateB := .joined } } } with port := { ({ State.reset with port := { State.reset.port with assay := { State.reset.port.assay with stateA := .joined, stateB := .joined } } } : State).port with start := { ({ State.reset with port := { State.reset.port with assay := { State.reset.port.assay with stateA := .joined, stateB := .joined } } } : State).port.start with power := .run, up := true, linkUp := true } } } : State), 0x77#8, ({ via := { binding := .pcie, session := none }, version := 1#8, reqId := 7#16, bodyLen := 0#16, authCount := 0#8, flags := 0#8, nonceId := 0#32, reserved := 0#32, rest := [] } : Kerral), ⟨by decide, by decide, by decide⟩, by decide, by decide +kernel⟩, ⟨(({ { State.reset with port := { State.reset.port with assay := { State.reset.port.assay with stateA := .joined, stateB := .joined } } } with port := { ({ State.reset with port := { State.reset.port with assay := { State.reset.port.assay with stateA := .joined, stateB := .joined } } } : State).port with start := { ({ State.reset with port := { State.reset.port with assay := { State.reset.port.assay with stateA := .joined, stateB := .joined } } } : State).port.start with power := .run, up := true, linkUp := true } } } : State)).updPort (fun p => { p with mgmt := { p.mgmt with messages := List.replicate 8 ((({ { State.reset with port := { State.reset.port with assay := { State.reset.port.assay with stateA := .joined, stateB := .joined } } } with port := { ({ State.reset with port := { State.reset.port with assay := { State.reset.port.assay with stateA := .joined, stateB := .joined } } } : State).port with start := { ({ State.reset with port := { State.reset.port with assay := { State.reset.port.assay with stateA := .joined, stateB := .joined } } } : State).port.start with power := .run, up := true, linkUp := true } } } : State)).takenMsg 2 ({ via := { binding := .pcie, session := none }, version := 1#8, reqId := 7#16, bodyLen := 0#16, authCount := 0#8, flags := 0#8, nonceId := 0#32, reserved := 0#32, rest := [] } : Kerral) []) } }), 2, .getStatus, ({ via := { binding := .pcie, session := none }, version := 1#8, reqId := 7#16, bodyLen := 0#16, authCount := 0#8, flags := 0#8, nonceId := 0#32, reserved := 0#32, rest := [] } : Kerral), by simp [kerralRows], by decide +kernel, by decide, by decide +kernel⟩⟩

/-- States and operands that meet the hypotheses of KerralChangesAreFixedForTheirTide, clause by clause. -/
theorem witness_KerralChangesAreFixedForTheirTide :
    (∃ (s : State) (code : Nat) (f : Kerral → Instr) (m : Kerral), ((code, f) ∈ kerralRows) ∧ (code ∈ [0x10, 0x11, 0x20, 0x21, 0x36, 0x37, 0x38, 0x40, 0x41, 0x42, 0x43, 0x44, 0x61, 0x62, 0x63, 0x64]) ∧ (s.mgmtFree m) ∧ (s.agreeOn (s.takenMsg code m [])) ∧ (s.verdictOf (s.takenMsg code m []) = 0))
    ∧ (∃ (s : State) (code : Nat) (f : Kerral → Instr) (m : Kerral) (v : Nat), ((code, f) ∈ kerralRows) ∧ (code ∈ [0x30, 0x31, 0x32, 0x33]) ∧ (s.mgmtFree m) ∧ (s.agreeOn (s.takenMsg code m [])) ∧ (v = s.verdictOf (s.takenMsg code m []))) :=
  ⟨⟨({ { State.reset with port := { State.reset.port with assay := { State.reset.port.assay with stateA := .joined, stateB := .joined } } } with port := { ({ State.reset with port := { State.reset.port with assay := { State.reset.port.assay with stateA := .joined, stateB := .joined } } } : State).port with start := { ({ State.reset with port := { State.reset.port with assay := { State.reset.port.assay with stateA := .joined, stateB := .joined } } } : State).port.start with power := .run, up := true, linkUp := true } } } : State), 0x62, .recorderFlush, ({ via := { binding := .pcie, session := none }, version := 1#8, reqId := 7#16, bodyLen := 0#16, authCount := 0#8, flags := 0#8, nonceId := 0#32, reserved := 0#32, rest := [] } : Kerral), by simp [kerralRows], by decide, ⟨by decide, by decide, by decide⟩, (fun _ => by decide +kernel), by decide +kernel⟩, ⟨({ { State.reset with port := { State.reset.port with assay := { State.reset.port.assay with stateA := .joined, stateB := .joined } } } with port := { ({ State.reset with port := { State.reset.port with assay := { State.reset.port.assay with stateA := .joined, stateB := .joined } } } : State).port with start := { ({ State.reset with port := { State.reset.port with assay := { State.reset.port.assay with stateA := .joined, stateB := .joined } } } : State).port.start with power := .run, up := true, linkUp := true } } } : State), 0x30, .slotGrant, ({ via := { binding := .pcie, session := none }, version := 1#8, reqId := 7#16, bodyLen := 0#16, authCount := 0#8, flags := 0#8, nonceId := 0#32, reserved := 0#32, rest := [] } : Kerral), 1, by simp [kerralRows], by decide, ⟨by decide, by decide, by decide⟩, (fun _ => by decide +kernel), by decide +kernel⟩⟩

/-- States and operands that meet the hypotheses of KerralQueriesAndOrders, clause by clause. -/
theorem witness_KerralQueriesAndOrders :
    (∃ (s : State) (m : Kerral), (s.mgmtFree m) ∧ (s.agreeOn (s.takenMsg 2 m [])) ∧ (s.verdictOf (s.takenMsg 2 m []) = 0))
    ∧ (∃ (s : State) (m : Kerral), (s.mgmtFree m) ∧ (s.agreeOn (s.takenMsg 0x60 m [])) ∧ (s.verdictOf (s.takenMsg 0x60 m []) = 0))
    ∧ (∃ (s : State) (m : Kerral) (n : Nat), (s.mgmtFree m) ∧ (s.agreeOn (s.takenMsg 1 m [])) ∧ (s.verdictOf (s.takenMsg 1 m []) = 0) ∧ (n = s.port.mgmt.counter + 1))
    ∧ (∃ (s : State) (m : Kerral) (v : Nat), (s.mgmtFree m) ∧ (s.agreeOn (s.takenMsg 0x22 m [])) ∧ (v = s.verdictOf (s.takenMsg 0x22 m [])))
    ∧ (∃ (s : State) (m : Kerral) (v : Nat), (s.mgmtFree m) ∧ (s.agreeOn (s.takenMsg 0x34 m [])) ∧ (v = s.verdictOf (s.takenMsg 0x34 m [])))
    ∧ (∃ (s : State) (m : Kerral) (v : Nat), (s.mgmtFree m) ∧ (s.agreeOn (s.takenMsg 0x35 m [])) ∧ (v = s.verdictOf (s.takenMsg 0x35 m [])))
    ∧ (∃ (s : State) (m : Kerral) (v : Nat), (s.mgmtFree m) ∧ (s.agreeOn (s.takenMsg 0x50 m [])) ∧ (v = s.verdictOf (s.takenMsg 0x50 m [])))
    ∧ (∃ (s : State) (m : Kerral) (v : Nat), (s.mgmtFree m) ∧ (s.agreeOn (s.takenMsg 0x51 m [])) ∧ (v = s.verdictOf (s.takenMsg 0x51 m [])))
    ∧ (∃ (s : State) (m : Kerral) (v : Nat), (s.mgmtFree m) ∧ (s.agreeOn (s.takenMsg 0x52 m [])) ∧ (v = s.verdictOf (s.takenMsg 0x52 m [])) ∧ ((s.port.bothJoined = true → s.a.storeImage = s.b.storeImage))) :=
  ⟨⟨({ { State.reset with port := { State.reset.port with assay := { State.reset.port.assay with stateA := .joined, stateB := .joined } } } with port := { ({ State.reset with port := { State.reset.port with assay := { State.reset.port.assay with stateA := .joined, stateB := .joined } } } : State).port with start := { ({ State.reset with port := { State.reset.port with assay := { State.reset.port.assay with stateA := .joined, stateB := .joined } } } : State).port.start with power := .run, up := true, linkUp := true } } } : State), ({ via := { binding := .pcie, session := none }, version := 1#8, reqId := 7#16, bodyLen := 0#16, authCount := 0#8, flags := 0#8, nonceId := 0#32, reserved := 0#32, rest := [] } : Kerral), ⟨by decide, by decide, by decide⟩, (fun _ => by decide +kernel), by decide +kernel⟩, ⟨({ { State.reset with port := { State.reset.port with assay := { State.reset.port.assay with stateA := .joined, stateB := .joined } } } with port := { ({ State.reset with port := { State.reset.port with assay := { State.reset.port.assay with stateA := .joined, stateB := .joined } } } : State).port with start := { ({ State.reset with port := { State.reset.port with assay := { State.reset.port.assay with stateA := .joined, stateB := .joined } } } : State).port.start with power := .run, up := true, linkUp := true } } } : State), ({ via := { binding := .pcie, session := none }, version := 1#8, reqId := 7#16, bodyLen := 4#16, authCount := 0#8, flags := 0#8, nonceId := 0#32, reserved := 0#32, rest := [0#8, 0#8, 1#8, 0#8] } : Kerral), ⟨by decide, by decide, by decide⟩, (fun _ => by decide +kernel), by decide +kernel⟩, ⟨({ { State.reset with port := { State.reset.port with assay := { State.reset.port.assay with stateA := .joined, stateB := .joined } } } with port := { ({ State.reset with port := { State.reset.port with assay := { State.reset.port.assay with stateA := .joined, stateB := .joined } } } : State).port with start := { ({ State.reset with port := { State.reset.port with assay := { State.reset.port.assay with stateA := .joined, stateB := .joined } } } : State).port.start with power := .run, up := true, linkUp := true } } } : State), ({ via := { binding := .pcie, session := none }, version := 1#8, reqId := 7#16, bodyLen := 0#16, authCount := 0#8, flags := 0#8, nonceId := 0#32, reserved := 0#32, rest := [] } : Kerral), 1, ⟨by decide, by decide, by decide⟩, (fun _ => by decide +kernel), by decide +kernel, by decide⟩, ⟨({ { State.reset with port := { State.reset.port with assay := { State.reset.port.assay with stateA := .joined, stateB := .joined } } } with port := { ({ State.reset with port := { State.reset.port with assay := { State.reset.port.assay with stateA := .joined, stateB := .joined } } } : State).port with start := { ({ State.reset with port := { State.reset.port with assay := { State.reset.port.assay with stateA := .joined, stateB := .joined } } } : State).port.start with power := .run, up := true, linkUp := true } } } : State), ({ via := { binding := .pcie, session := none }, version := 1#8, reqId := 7#16, bodyLen := 1#16, authCount := 0#8, flags := 0#8, nonceId := 0#32, reserved := 0#32, rest := [] } : Kerral), 1, ⟨by decide, by decide, by decide⟩, (fun _ => by decide +kernel), by decide +kernel⟩, ⟨({ { State.reset with port := { State.reset.port with assay := { State.reset.port.assay with stateA := .joined, stateB := .joined } } } with port := { ({ State.reset with port := { State.reset.port with assay := { State.reset.port.assay with stateA := .joined, stateB := .joined } } } : State).port with start := { ({ State.reset with port := { State.reset.port with assay := { State.reset.port.assay with stateA := .joined, stateB := .joined } } } : State).port.start with power := .run, up := true, linkUp := true } } } : State), ({ via := { binding := .pcie, session := none }, version := 1#8, reqId := 7#16, bodyLen := 1#16, authCount := 0#8, flags := 0#8, nonceId := 0#32, reserved := 0#32, rest := [] } : Kerral), 1, ⟨by decide, by decide, by decide⟩, (fun _ => by decide +kernel), by decide +kernel⟩, ⟨({ { State.reset with port := { State.reset.port with assay := { State.reset.port.assay with stateA := .joined, stateB := .joined } } } with port := { ({ State.reset with port := { State.reset.port with assay := { State.reset.port.assay with stateA := .joined, stateB := .joined } } } : State).port with start := { ({ State.reset with port := { State.reset.port with assay := { State.reset.port.assay with stateA := .joined, stateB := .joined } } } : State).port.start with power := .run, up := true, linkUp := true } } } : State), ({ via := { binding := .pcie, session := none }, version := 1#8, reqId := 7#16, bodyLen := 1#16, authCount := 0#8, flags := 0#8, nonceId := 0#32, reserved := 0#32, rest := [] } : Kerral), 1, ⟨by decide, by decide, by decide⟩, (fun _ => by decide +kernel), by decide +kernel⟩, ⟨({ { State.reset with port := { State.reset.port with assay := { State.reset.port.assay with stateA := .joined, stateB := .joined } } } with port := { ({ State.reset with port := { State.reset.port with assay := { State.reset.port.assay with stateA := .joined, stateB := .joined } } } : State).port with start := { ({ State.reset with port := { State.reset.port with assay := { State.reset.port.assay with stateA := .joined, stateB := .joined } } } : State).port.start with power := .run, up := true, linkUp := true } } } : State), ({ via := { binding := .pcie, session := none }, version := 1#8, reqId := 7#16, bodyLen := 1#16, authCount := 0#8, flags := 0#8, nonceId := 0#32, reserved := 0#32, rest := [] } : Kerral), 1, ⟨by decide, by decide, by decide⟩, (fun _ => by decide +kernel), by decide +kernel⟩, ⟨({ { State.reset with port := { State.reset.port with assay := { State.reset.port.assay with stateA := .joined, stateB := .joined } } } with port := { ({ State.reset with port := { State.reset.port with assay := { State.reset.port.assay with stateA := .joined, stateB := .joined } } } : State).port with start := { ({ State.reset with port := { State.reset.port with assay := { State.reset.port.assay with stateA := .joined, stateB := .joined } } } : State).port.start with power := .run, up := true, linkUp := true } } } : State), ({ via := { binding := .pcie, session := none }, version := 1#8, reqId := 7#16, bodyLen := 1#16, authCount := 0#8, flags := 0#8, nonceId := 0#32, reserved := 0#32, rest := [] } : Kerral), 1, ⟨by decide, by decide, by decide⟩, (fun _ => by decide +kernel), by decide +kernel⟩, ⟨mgState, ({ via := { binding := .pcie, session := none }, version := 1#8, reqId := 7#16, bodyLen := 1#16, authCount := 0#8, flags := 0#8, nonceId := 0#32, reserved := 0#32, rest := [] } : Kerral), 1, ⟨by decide, by decide, by decide⟩, (fun _ => by decide +kernel), by decide +kernel, (fun _ => mgState_image)⟩⟩

/-- States and operands that meet the hypotheses of FencedChangesAndResponses, clause by clause. -/
theorem witness_FencedChangesAndResponses :
    (∃ (s : State) (ch : Chan) (m : KerralMsg) (h f : Nat), (s.fencing = some m) ∧ (m.hold = some h) ∧ (fencedFn m.code m.msg.body = some f) ∧ (m.target = none) ∧ (s.port.joined ch = true) ∧ (h ≤ (s.chan ch).tide))
    ∧ (∃ (s : State) (ch : Chan) (m : KerralMsg) (h f : Nat), (s.fencing = some m) ∧ ((s.chan ch).fence = some (f, h)) ∧ (m.target = none) ∧ (s.port.joined ch = true) ∧ ((s.chan ch).beforeFence f h = false))
    ∧ (∃ (s : State) (ch : Chan) (m : KerralMsg) (x : Change) (n : Nat), (s.fencing = some m) ∧ (m.change = some x) ∧ (m.target = some n) ∧ (n ≤ (s.chan ch).tide) ∧ ((s.chan ch).fence.isSome = true) ∧ ((∀ d, d ≠ ch → s.port.joined d = true → (s.chan d).fence = none)))
    ∧ (∃ (s : State) (m : KerralMsg) (r : KerralResult), (s.port.mgmt.messages.find? (fun x => x.result.isSome) = some m) ∧ (m.result = some r)) :=
  ⟨⟨(({ State.reset with port := { State.reset.port with assay := { State.reset.port.assay with stateA := .joined, stateB := .joined } } } : State).updPort (fun p => { p with tide := 9, mgmt := { p.mgmt with messages := [({ (State.reset.takenMsg 0x30 ({ via := { binding := .pcie, session := none }, version := 1#8, reqId := 7#16, bodyLen := 12#16, authCount := 0#8, flags := 0#8, nonceId := 0#32, reserved := 0#32, rest := [3#8, 0#8, 0#8, 0#8, 8#8, 0#8, 0#8, 0#8, 4#8, 0#8, 0#8, 0#8] } : Kerral) []) with change := some (.grant 3 0 8 4), hold := some 2, target := none } : KerralMsg)] } })).upd .a (fun c => { c with tide := 9 }), .a, ({ (State.reset.takenMsg 0x30 ({ via := { binding := .pcie, session := none }, version := 1#8, reqId := 7#16, bodyLen := 12#16, authCount := 0#8, flags := 0#8, nonceId := 0#32, reserved := 0#32, rest := [3#8, 0#8, 0#8, 0#8, 8#8, 0#8, 0#8, 0#8, 4#8, 0#8, 0#8, 0#8] } : Kerral) []) with change := some (.grant 3 0 8 4), hold := some 2, target := none } : KerralMsg), 2, 3, by decide +kernel⟩, ⟨(({ State.reset with port := { State.reset.port with assay := { State.reset.port.assay with stateA := .joined, stateB := .joined } } } : State).updPort (fun p => { p with tide := 9, mgmt := { p.mgmt with messages := [({ (State.reset.takenMsg 0x30 ({ via := { binding := .pcie, session := none }, version := 1#8, reqId := 7#16, bodyLen := 12#16, authCount := 0#8, flags := 0#8, nonceId := 0#32, reserved := 0#32, rest := [3#8, 0#8, 0#8, 0#8, 8#8, 0#8, 0#8, 0#8, 4#8, 0#8, 0#8, 0#8] } : Kerral) []) with change := some (.grant 3 0 8 4), hold := some 2, target := none } : KerralMsg)] } })).upd .a (fun c => { c with tide := 9, fence := some (3, 2) }), .a, ({ (State.reset.takenMsg 0x30 ({ via := { binding := .pcie, session := none }, version := 1#8, reqId := 7#16, bodyLen := 12#16, authCount := 0#8, flags := 0#8, nonceId := 0#32, reserved := 0#32, rest := [3#8, 0#8, 0#8, 0#8, 8#8, 0#8, 0#8, 0#8, 4#8, 0#8, 0#8, 0#8] } : Kerral) []) with change := some (.grant 3 0 8 4), hold := some 2, target := none } : KerralMsg), 2, 3, by decide +kernel⟩, ⟨(({ State.reset with port := { State.reset.port with assay := { State.reset.port.assay with stateA := .joined, stateB := .retired } } } : State).updPort (fun p => { p with tide := 9, mgmt := { p.mgmt with messages := [({ (State.reset.takenMsg 0x30 ({ via := { binding := .pcie, session := none }, version := 1#8, reqId := 7#16, bodyLen := 12#16, authCount := 0#8, flags := 0#8, nonceId := 0#32, reserved := 0#32, rest := [3#8, 0#8, 0#8, 0#8, 8#8, 0#8, 0#8, 0#8, 4#8, 0#8, 0#8, 0#8] } : Kerral) []) with change := some (.grant 3 0 8 4), hold := some 2, target := some 5 } : KerralMsg)] } })).upd .a (fun c => { c with tide := 9, fence := some (3, 2) }), .a, ({ (State.reset.takenMsg 0x30 ({ via := { binding := .pcie, session := none }, version := 1#8, reqId := 7#16, bodyLen := 12#16, authCount := 0#8, flags := 0#8, nonceId := 0#32, reserved := 0#32, rest := [3#8, 0#8, 0#8, 0#8, 8#8, 0#8, 0#8, 0#8, 4#8, 0#8, 0#8, 0#8] } : Kerral) []) with change := some (.grant 3 0 8 4), hold := some 2, target := some 5 } : KerralMsg), .grant 3 0 8 4, 5, by decide +kernel, by decide +kernel, by decide +kernel, by decide +kernel, by decide +kernel, (fun d => by cases d <;> decide +kernel)⟩, ⟨State.reset.updPort (fun p => { p with mgmt := { p.mgmt with messages := [{ (State.reset.takenMsg 2 ({ via := { binding := .pcie, session := none }, version := 1#8, reqId := 7#16, bodyLen := 0#16, authCount := 0#8, flags := 0#8, nonceId := 0#32, reserved := 0#32, rest := [] } : Kerral) []) with result := some { result := 0, effect := 0, data := [] } }] } }), { (State.reset.takenMsg 2 ({ via := { binding := .pcie, session := none }, version := 1#8, reqId := 7#16, bodyLen := 0#16, authCount := 0#8, flags := 0#8, nonceId := 0#32, reserved := 0#32, rest := [] } : Kerral) []) with result := some { result := 0, effect := 0, data := [] } }, { result := 0, effect := 0, data := [] }, by decide +kernel⟩⟩

/-- States and operands that meet the hypotheses of AttestationAnswers, clause by clause. -/
theorem witness_AttestationAnswers :
    (∃ (s : State) (ch : Chan) (v : Via) (b : Bytes), (s.port.responder = some ch) ∧ (s.port.mgmtUp v.binding = true) ∧ (5 + b.length ≤ 16384))
    ∧ (∃ (s : State) (ch : Chan) (v : Via) (b : Bytes), (s.port.responder = some ch) ∧ (s.port.mgmtUp v.binding = true) ∧ (5 + b.length ≤ 16384) ∧ (s.port.mgmt.spdm.version = true))
    ∧ (∃ (s : State) (ch : Chan) (v : Via) (b : Bytes), (s.port.responder = some ch) ∧ (s.port.mgmtUp v.binding = true) ∧ (5 + b.length ≤ 16384) ∧ (s.port.mgmt.spdm.version = true) ∧ (s.port.mgmt.spdm.capabilities = true))
    ∧ (∃ (s : State) (ch : Chan) (v : Via) (b : Bytes), (s.port.responder = some ch) ∧ (s.port.mgmtUp v.binding = true) ∧ (5 + b.length ≤ 16384) ∧ (s.port.mgmt.spdm.ready = true))
    ∧ (∃ (s : State) (ch : Chan) (v : Via) (b : Bytes), (s.port.responder = some ch) ∧ (s.port.mgmtUp v.binding = true) ∧ (5 + b.length ≤ 16384) ∧ (s.port.mgmt.spdm.ready = true))
    ∧ (∃ (s : State) (ch : Chan) (v : Via) (b : Bytes), (s.port.responder = some ch) ∧ (s.port.mgmtUp v.binding = true) ∧ (5 + b.length ≤ 16384) ∧ (s.port.mgmt.spdm.ready = true))
    ∧ (∃ (s : State) (ch : Chan) (v : Via) (b : Bytes), (s.port.responder = some ch) ∧ (s.port.mgmtUp v.binding = true) ∧ (5 + b.length ≤ 16384) ∧ (s.port.mgmt.spdm.ready = true))
    ∧ (∃ (s : State) (ch : Chan) (v : Via) (b : Bytes), (s.port.responder = some ch) ∧ (s.port.mgmtUp v.binding = true) ∧ (5 + b.length ≤ 16384) ∧ (s.port.mgmt.spdm.ready = true))
    ∧ (∃ (s : State) (v : Via) (b : Bytes) (i : Nat) (n : SpdmSession), (s.port.mgmtUp v.binding = true) ∧ (5 + b.length ≤ 16384) ∧ (v.session = some i) ∧ (n ∈ s.port.mgmt.spdm.sessions) ∧ (n.id = i) ∧ (s.port.responder = some n.responder) ∧ (n.established = false))
    ∧ (∃ (s : State) (v : Via) (b : Bytes) (i : Nat) (n : SpdmSession), (s.port.mgmtUp v.binding = true) ∧ (5 + b.length ≤ 16384) ∧ (v.session = some i) ∧ (n ∈ s.port.mgmt.spdm.sessions) ∧ (n.id = i) ∧ (s.port.responder = some n.responder) ∧ (n.established = true))
    ∧ (∃ (s : State) (v : Via) (b : Bytes) (i : Nat) (n : SpdmSession), (s.port.mgmtUp v.binding = true) ∧ (5 + b.length ≤ 16384) ∧ (v.session = some i) ∧ (n ∈ s.port.mgmt.spdm.sessions) ∧ (n.id = i) ∧ (s.port.responder = some n.responder) ∧ (n.established = true))
    ∧ (∃ (s : State) (v : Via) (b : Bytes) (i : Nat) (n : SpdmSession), (s.port.mgmtUp v.binding = true) ∧ (5 + b.length ≤ 16384) ∧ (v.session = some i) ∧ (n ∈ s.port.mgmt.spdm.sessions) ∧ (n.id = i) ∧ (s.port.responder = some n.responder) ∧ (n.established = true)) :=
  ⟨⟨({ { State.reset with port := { State.reset.port with assay := { State.reset.port.assay with stateA := .joined, stateB := .joined } } } with port := { ({ State.reset with port := { State.reset.port with assay := { State.reset.port.assay with stateA := .joined, stateB := .joined } } } : State).port with start := { ({ State.reset with port := { State.reset.port with assay := { State.reset.port.assay with stateA := .joined, stateB := .joined } } } : State).port.start with power := .run, up := true, linkUp := true } } } : State), .a, ({ binding := .i3c, session := none } : Via), [], by decide +kernel⟩, ⟨((({ { State.reset with port := { State.reset.port with assay := { State.reset.port.assay with stateA := .joined, stateB := .joined } } } with port := { ({ State.reset with port := { State.reset.port with assay := { State.reset.port.assay with stateA := .joined, stateB := .joined } } } : State).port with start := { ({ State.reset with port := { State.reset.port with assay := { State.reset.port.assay with stateA := .joined, stateB := .joined } } } : State).port.start with power := .run, up := true, linkUp := true } } } : State)).updPort (fun p => { p with mgmt := { p.mgmt with spdm := { p.mgmt.spdm with version := true, capabilities := true, algorithms := true, sessions := [{ id := 4, responder := .a, established := true, updates := 0 }] } } })), .a, ({ binding := .i3c, session := none } : Via), [9#8], by decide +kernel⟩, ⟨((({ { State.reset with port := { State.reset.port with assay := { State.reset.port.assay with stateA := .joined, stateB := .joined } } } with port := { ({ State.reset with port := { State.reset.port with assay := { State.reset.port.assay with stateA := .joined, stateB := .joined } } } : State).port with start := { ({ State.reset with port := { State.reset.port with assay := { State.reset.port.assay with stateA := .joined, stateB := .joined } } } : State).port.start with power := .run, up := true, linkUp := true } } } : State)).updPort (fun p => { p with mgmt := { p.mgmt with spdm := { p.mgmt.spdm with version := true, capabilities := true, algorithms := true, sessions := [{ id := 4, responder := .a, established := true, updates := 0 }] } } })), .a, ({ binding := .i3c, session := none } : Via), [9#8], by decide +kernel⟩, ⟨((({ { State.reset with port := { State.reset.port with assay := { State.reset.port.assay with stateA := .joined, stateB := .joined } } } with port := { ({ State.reset with port := { State.reset.port with assay := { State.reset.port.assay with stateA := .joined, stateB := .joined } } } : State).port with start := { ({ State.reset with port := { State.reset.port with assay := { State.reset.port.assay with stateA := .joined, stateB := .joined } } } : State).port.start with power := .run, up := true, linkUp := true } } } : State)).updPort (fun p => { p with mgmt := { p.mgmt with spdm := { p.mgmt.spdm with version := true, capabilities := true, algorithms := true, sessions := [{ id := 4, responder := .a, established := true, updates := 0 }] } } })), .a, ({ binding := .i3c, session := none } : Via), [9#8], by decide +kernel⟩, ⟨((({ { State.reset with port := { State.reset.port with assay := { State.reset.port.assay with stateA := .joined, stateB := .joined } } } with port := { ({ State.reset with port := { State.reset.port with assay := { State.reset.port.assay with stateA := .joined, stateB := .joined } } } : State).port with start := { ({ State.reset with port := { State.reset.port with assay := { State.reset.port.assay with stateA := .joined, stateB := .joined } } } : State).port.start with power := .run, up := true, linkUp := true } } } : State)).updPort (fun p => { p with mgmt := { p.mgmt with spdm := { p.mgmt.spdm with version := true, capabilities := true, algorithms := true, sessions := [{ id := 4, responder := .a, established := true, updates := 0 }] } } })), .a, ({ binding := .i3c, session := none } : Via), [9#8], by decide +kernel⟩, ⟨((({ { State.reset with port := { State.reset.port with assay := { State.reset.port.assay with stateA := .joined, stateB := .joined } } } with port := { ({ State.reset with port := { State.reset.port with assay := { State.reset.port.assay with stateA := .joined, stateB := .joined } } } : State).port with start := { ({ State.reset with port := { State.reset.port with assay := { State.reset.port.assay with stateA := .joined, stateB := .joined } } } : State).port.start with power := .run, up := true, linkUp := true } } } : State)).updPort (fun p => { p with mgmt := { p.mgmt with spdm := { p.mgmt.spdm with version := true, capabilities := true, algorithms := true, sessions := [{ id := 4, responder := .a, established := true, updates := 0 }] } } })), .a, ({ binding := .i3c, session := none } : Via), [9#8], by decide +kernel⟩, ⟨((({ { State.reset with port := { State.reset.port with assay := { State.reset.port.assay with stateA := .joined, stateB := .joined } } } with port := { ({ State.reset with port := { State.reset.port with assay := { State.reset.port.assay with stateA := .joined, stateB := .joined } } } : State).port with start := { ({ State.reset with port := { State.reset.port with assay := { State.reset.port.assay with stateA := .joined, stateB := .joined } } } : State).port.start with power := .run, up := true, linkUp := true } } } : State)).updPort (fun p => { p with mgmt := { p.mgmt with spdm := { p.mgmt.spdm with version := true, capabilities := true, algorithms := true, sessions := [{ id := 4, responder := .a, established := true, updates := 0 }] } } })), .a, ({ binding := .i3c, session := none } : Via), [9#8], by decide +kernel⟩, ⟨((({ { State.reset with port := { State.reset.port with assay := { State.reset.port.assay with stateA := .joined, stateB := .joined } } } with port := { ({ State.reset with port := { State.reset.port with assay := { State.reset.port.assay with stateA := .joined, stateB := .joined } } } : State).port with start := { ({ State.reset with port := { State.reset.port with assay := { State.reset.port.assay with stateA := .joined, stateB := .joined } } } : State).port.start with power := .run, up := true, linkUp := true } } } : State)).updPort (fun p => { p with mgmt := { p.mgmt with spdm := { p.mgmt.spdm with version := true, capabilities := true, algorithms := true, sessions := [{ id := 4, responder := .a, established := true, updates := 0 }] } } })), .a, ({ binding := .i3c, session := none } : Via), [9#8], by decide +kernel⟩, ⟨((({ { State.reset with port := { State.reset.port with assay := { State.reset.port.assay with stateA := .joined, stateB := .joined } } } with port := { ({ State.reset with port := { State.reset.port with assay := { State.reset.port.assay with stateA := .joined, stateB := .joined } } } : State).port with start := { ({ State.reset with port := { State.reset.port with assay := { State.reset.port.assay with stateA := .joined, stateB := .joined } } } : State).port.start with power := .run, up := true, linkUp := true } } } : State)).updPort (fun p => { p with mgmt := { p.mgmt with spdm := { p.mgmt.spdm with version := true, capabilities := true, algorithms := true, sessions := [{ id := 4, responder := .a, established := false, updates := 0 }] } } })), ({ binding := .i3c, session := (some 4) } : Via), [9#8], 4, { id := 4, responder := .a, established := false, updates := 0 }, by decide +kernel⟩, ⟨((({ { State.reset with port := { State.reset.port with assay := { State.reset.port.assay with stateA := .joined, stateB := .joined } } } with port := { ({ State.reset with port := { State.reset.port with assay := { State.reset.port.assay with stateA := .joined, stateB := .joined } } } : State).port with start := { ({ State.reset with port := { State.reset.port with assay := { State.reset.port.assay with stateA := .joined, stateB := .joined } } } : State).port.start with power := .run, up := true, linkUp := true } } } : State)).updPort (fun p => { p with mgmt := { p.mgmt with spdm := { p.mgmt.spdm with version := true, capabilities := true, algorithms := true, sessions := [{ id := 4, responder := .a, established := true, updates := 0 }] } } })), ({ binding := .i3c, session := (some 4) } : Via), [9#8], 4, { id := 4, responder := .a, established := true, updates := 0 }, by decide +kernel⟩, ⟨((({ { State.reset with port := { State.reset.port with assay := { State.reset.port.assay with stateA := .joined, stateB := .joined } } } with port := { ({ State.reset with port := { State.reset.port with assay := { State.reset.port.assay with stateA := .joined, stateB := .joined } } } : State).port with start := { ({ State.reset with port := { State.reset.port with assay := { State.reset.port.assay with stateA := .joined, stateB := .joined } } } : State).port.start with power := .run, up := true, linkUp := true } } } : State)).updPort (fun p => { p with mgmt := { p.mgmt with spdm := { p.mgmt.spdm with version := true, capabilities := true, algorithms := true, sessions := [{ id := 4, responder := .a, established := true, updates := 0 }] } } })), ({ binding := .i3c, session := (some 4) } : Via), [9#8], 4, { id := 4, responder := .a, established := true, updates := 0 }, by decide +kernel⟩, ⟨((({ { State.reset with port := { State.reset.port with assay := { State.reset.port.assay with stateA := .joined, stateB := .joined } } } with port := { ({ State.reset with port := { State.reset.port with assay := { State.reset.port.assay with stateA := .joined, stateB := .joined } } } : State).port with start := { ({ State.reset with port := { State.reset.port with assay := { State.reset.port.assay with stateA := .joined, stateB := .joined } } } : State).port.start with power := .run, up := true, linkUp := true } } } : State)).updPort (fun p => { p with mgmt := { p.mgmt with spdm := { p.mgmt.spdm with version := true, capabilities := true, algorithms := true, sessions := [{ id := 4, responder := .a, established := true, updates := 0 }] } } })), ({ binding := .i3c, session := (some 4) } : Via), [9#8], 4, { id := 4, responder := .a, established := true, updates := 0 }, by decide +kernel⟩⟩

/-- States and operands that meet the hypotheses of ManagementPortEvents, clause by clause. -/
theorem witness_ManagementPortEvents :
    (∃ (s : State) (b : Binding) (e : Byte), (s.port.mgmtUp b = true))
    ∧ (∃ (s : State) (x : BitVec 7), (s.port.start.up = true) ∧ (s.port.start.power = .run))
    ∧ (∃ (s : State) (x : BitVec 7) (n : Nat), (s.a.events = []) ∧ (s.b.events = []) ∧ (s.port.mgmtUp .i3c = true) ∧ ((x.toNat ∉ mctpTypes ∨ 16384 < n)))
    ∧ (∃ (s : State) (v : Via) (x : BitVec 6) (k : Bytes) (h : Bool), (s.port.mgmtUp v.binding = true) ∧ (s.port.mgmt.inSession v = true))
    ∧ (∃ (s : State) (v : Via) (k : Bytes) (h : Bool), (s.port.mgmtUp v.binding = true) ∧ (s.port.mgmt.inSession v = true))
    ∧ (∃ (s : State) (v : Via) (x : BitVec 6) (k : Bytes) (h : Bool), (s.port.mgmt.inSession v = false))
    ∧ (∃ (s : State) (v : Via) (b : Bytes), (s.port.mgmtUp v.binding = true) ∧ (s.port.joined .a = true) ∧ (s.port.joined .b = true) ∧ (s.a.start.step = .service) ∧ (s.b.start.step = .service))
    ∧ (∃ (s : State) (v : Via), (s.port.mgmtUp v.binding = true))
    ∧ (∃ (s : State) (v : Via) (n : Nat) (i : Int), (s.port.mgmtUp v.binding = true) ∧ (s.sensor n = some i))
    ∧ (∃ (s : State) (n : Nat), (s.port.recorder.frozenAt = some n) ∧ (n + 15000000 ≤ s.port.tide))
    ∧ (∃ (s : State), (s.port.recorder.optime % 4096 = 0) ∧ (s.port.recorder.optime ≠ s.port.recorder.opFlushed))
    ∧ (∃ (s : State) (o : Bool) (i : RecImage), (s.port.recorder.flushing = some (o, i)) ∧ (s.port.recorder.queued = none)) :=
  ⟨⟨({ { State.reset with port := { State.reset.port with assay := { State.reset.port.assay with stateA := .joined, stateB := .joined } } } with port := { ({ State.reset with port := { State.reset.port with assay := { State.reset.port.assay with stateA := .joined, stateB := .joined } } } : State).port with start := { ({ State.reset with port := { State.reset.port with assay := { State.reset.port.assay with stateA := .joined, stateB := .joined } } } : State).port.start with power := .run, up := true, linkUp := true } } } : State), .pcie, 9#8, by decide +kernel⟩, ⟨({ { State.reset with port := { State.reset.port with assay := { State.reset.port.assay with stateA := .joined, stateB := .joined } } } with port := { ({ State.reset with port := { State.reset.port with assay := { State.reset.port.assay with stateA := .joined, stateB := .joined } } } : State).port with start := { ({ State.reset with port := { State.reset.port with assay := { State.reset.port.assay with stateA := .joined, stateB := .joined } } } : State).port.start with power := .run, up := true, linkUp := true } } } : State), 9#7, by decide +kernel⟩, ⟨({ { State.reset with port := { State.reset.port with assay := { State.reset.port.assay with stateA := .joined, stateB := .joined } } } with port := { ({ State.reset with port := { State.reset.port with assay := { State.reset.port.assay with stateA := .joined, stateB := .joined } } } : State).port with start := { ({ State.reset with port := { State.reset.port with assay := { State.reset.port.assay with stateA := .joined, stateB := .joined } } } : State).port.start with power := .run, up := true, linkUp := true } } } : State), 0x03#7, 20, by decide +kernel⟩, ⟨((({ { State.reset with port := { State.reset.port with assay := { State.reset.port.assay with stateA := .joined, stateB := .joined } } } with port := { ({ State.reset with port := { State.reset.port with assay := { State.reset.port.assay with stateA := .joined, stateB := .joined } } } : State).port with start := { ({ State.reset with port := { State.reset.port with assay := { State.reset.port.assay with stateA := .joined, stateB := .joined } } } : State).port.start with power := .run, up := true, linkUp := true } } } : State)).updPort (fun p => { p with mgmt := { p.mgmt with spdm := { p.mgmt.spdm with version := true, capabilities := true, algorithms := true, sessions := [{ id := 4, responder := .a, established := true, updates := 0 }] } } })), ({ binding := .i3c, session := (some 4) } : Via), 3#6, [1#8], true, by decide +kernel⟩, ⟨((({ { State.reset with port := { State.reset.port with assay := { State.reset.port.assay with stateA := .joined, stateB := .joined } } } with port := { ({ State.reset with port := { State.reset.port with assay := { State.reset.port.assay with stateA := .joined, stateB := .joined } } } : State).port with start := { ({ State.reset with port := { State.reset.port with assay := { State.reset.port.assay with stateA := .joined, stateB := .joined } } } : State).port.start with power := .run, up := true, linkUp := true } } } : State)).updPort (fun p => { p with mgmt := { p.mgmt with spdm := { p.mgmt.spdm with version := true, capabilities := true, algorithms := true, sessions := [{ id := 4, responder := .a, established := true, updates := 0 }] } } })), ({ binding := .i3c, session := (some 4) } : Via), [1#8], true, by decide +kernel⟩, ⟨({ { State.reset with port := { State.reset.port with assay := { State.reset.port.assay with stateA := .joined, stateB := .joined } } } with port := { ({ State.reset with port := { State.reset.port with assay := { State.reset.port.assay with stateA := .joined, stateB := .joined } } } : State).port with start := { ({ State.reset with port := { State.reset.port with assay := { State.reset.port.assay with stateA := .joined, stateB := .joined } } } : State).port.start with power := .run, up := true, linkUp := true } } } : State), ({ binding := .i3c, session := none } : Via), 3#6, [1#8], true, by decide +kernel⟩, ⟨(({ { State.reset with port := { State.reset.port with assay := { State.reset.port.assay with stateA := .joined, stateB := .joined } } } with port := { ({ State.reset with port := { State.reset.port with assay := { State.reset.port.assay with stateA := .joined, stateB := .joined } } } : State).port with start := { ({ State.reset with port := { State.reset.port with assay := { State.reset.port.assay with stateA := .joined, stateB := .joined } } } : State).port.start with power := .run, up := true, linkUp := true } } } : State)).upd .a (fun c => { c with start := { c.start with step := .service } }) |>.upd .b (fun c => { c with start := { c.start with step := .service } }), ({ binding := .i3c, session := none } : Via), [9#8], by decide +kernel⟩, ⟨({ { State.reset with port := { State.reset.port with assay := { State.reset.port.assay with stateA := .joined, stateB := .joined } } } with port := { ({ State.reset with port := { State.reset.port with assay := { State.reset.port.assay with stateA := .joined, stateB := .joined } } } : State).port with start := { ({ State.reset with port := { State.reset.port with assay := { State.reset.port.assay with stateA := .joined, stateB := .joined } } } : State).port.start with power := .run, up := true, linkUp := true } } } : State), ({ binding := .i3c, session := none } : Via), by decide +kernel⟩, ⟨({ { State.reset with port := { State.reset.port with assay := { State.reset.port.assay with stateA := .joined, stateB := .joined } } } with port := { ({ State.reset with port := { State.reset.port with assay := { State.reset.port.assay with stateA := .joined, stateB := .joined } } } : State).port with start := { ({ State.reset with port := { State.reset.port with assay := { State.reset.port.assay with stateA := .joined, stateB := .joined } } } : State).port.start with power := .run, up := true, linkUp := true } } } : State), ({ binding := .i3c, session := none } : Via), 20, 2, by decide +kernel⟩, ⟨(({ { State.reset with port := { State.reset.port with assay := { State.reset.port.assay with stateA := .joined, stateB := .joined } } } with port := { ({ State.reset with port := { State.reset.port with assay := { State.reset.port.assay with stateA := .joined, stateB := .joined } } } : State).port with start := { ({ State.reset with port := { State.reset.port with assay := { State.reset.port.assay with stateA := .joined, stateB := .joined } } } : State).port.start with power := .run, up := true, linkUp := true } } } : State)).updPort (fun p => { p with tide := 15000000, recorder := { p.recorder with frozenAt := some 0 } }), 0, by decide +kernel⟩, ⟨(({ { State.reset with port := { State.reset.port with assay := { State.reset.port.assay with stateA := .joined, stateB := .joined } } } with port := { ({ State.reset with port := { State.reset.port with assay := { State.reset.port.assay with stateA := .joined, stateB := .joined } } } : State).port with start := { ({ State.reset with port := { State.reset.port with assay := { State.reset.port.assay with stateA := .joined, stateB := .joined } } } : State).port.start with power := .run, up := true, linkUp := true } } } : State)).updPort (fun p => { p with recorder := { p.recorder with optime := 4096, opFlushed := 0 } }), by decide +kernel⟩, ⟨(({ { State.reset with port := { State.reset.port with assay := { State.reset.port.assay with stateA := .joined, stateB := .joined } } } with port := { ({ State.reset with port := { State.reset.port with assay := { State.reset.port.assay with stateA := .joined, stateB := .joined } } } : State).port with start := { ({ State.reset with port := { State.reset.port with assay := { State.reset.port.assay with stateA := .joined, stateB := .joined } } } : State).port.start with power := .run, up := true, linkUp := true } } } : State)).updPort (fun p => { p with recorder := { p.recorder with flushing := some (true, { seq := 1, stamp := 0, records := [] }) } }), true, { seq := 1, stamp := 0, records := [] }, by decide +kernel⟩⟩

/-- States and operands that meet the hypotheses of SealedRecordsOpen, clause by clause. -/
theorem witness_SealedRecordsOpen :
    (∃ (k vol : SealKeys) (slot : Nat) (h : KeyHeader) (y : Tally) (m chk : Bytes), (h.state = 1#2) ∧ (h.cls ≠ 3#2) ∧ (h.exportability ≠ 3#2) ∧ (k.enc.length = 32) ∧ (k.siv.length = 32) ∧ (k.mac.length = 32) ∧ (vol.enc.length = 32) ∧ (vol.siv.length = 32) ∧ (m.length = h.sealLen) ∧ (chk.length = 16) ∧ ((y.tdesBlocks < 2 ^ 48 ∧ y.gcmEncryptions < 2 ^ 48 ∧ y.aesBlocks < 2 ^ 64 ∧ y.exhaustedFrom < 2 ^ 64)))
    ∧ (∃ (k : Keys) (slot : Nat) (g : BitVec 16) (h : KeyHeader) (y : Tally) (m chk : Bytes), (k.vr = none) ∧ (k.load slot g = .loaded h y m chk)) :=
  ⟨⟨⟨zeros 32, zeros 32, zeros 32⟩, ⟨zeros 32, zeros 32, zeros 32⟩, 7, sealHdr, {}, zeros 32, zeros 16, by decide +kernel⟩, ⟨sealedIn State.reset.a.keys, 7, 0#16, sealHdr, {}, zeros 16, zeros 16, ⟨rfl, sealedIn_load _ (by decide)⟩⟩⟩

/-- States and operands that meet the hypotheses of PinFieldsReadBack, clause by clause. -/
theorem witness_PinFieldsReadBack :
    (∃ (fmt : Nat) (digits : List Nat) (fill : Bytes), (fmt ∈ [0, 1, 3, 4]) ∧ (4 ≤ digits.length) ∧ (digits.length ≤ 12) ∧ ((∀ d ∈ digits, d < 10))) :=
  ⟨4, [1, 2, 3, 9], [7#8], by decide +kernel⟩

/-- States and operands that meet the hypotheses of CounterModesInvert, clause by clause. -/
theorem witness_CounterModesInvert :
    (∃ (key iv aad pt tag : Bytes), ((key.length = 16 ∨ key.length = 24 ∨ key.length = 32)) ∧ (iv.length = 12)) :=
  ⟨zeros 24, zeros 12, [], [5#8], [], by decide +kernel⟩

/-- States and operands that meet the hypotheses of Ff1TokensInvert, clause by clause. -/
theorem witness_Ff1TokensInvert :
    (∃ (key tweak : Bytes) (ds : List Nat), ((∀ d ∈ ds, d < 10))) :=
  ⟨zeros 16, [], [4, 1, 1], by decide +kernel⟩

/-- States and operands that meet the hypotheses of StoreRegionsStayCanonical, clause by clause. -/
theorem witness_StoreRegionsStayCanonical :
    (∃ (s t : State), ((∀ ch, SMap.wf (zeros 128) (s.chan ch).keys.slots = true ∧ SMap.wf DukptRec.unbound (s.chan ch).keys.dukpt = true
        ∧ SMap.wf 0 (s.chan ch).keys.entries = true ∧ SMap.wf 0 (s.chan ch).keys.index = true)) ∧ (step s = .next t)) :=
  ⟨State.reset, State.reset.idle, ⟨fun ch => by cases ch <;> decide +kernel, rfl⟩⟩

/-- A command and states that meet the hypothesis of PortCommandsLeaveTheChannels. -/
theorem witness_PortCommandsLeaveTheChannels : ∃ t, exec .nonceExpiry State.reset = .next t := ⟨_, rfl⟩

/-- A command and states that meet the hypothesis of ChannelEventsStayThere. -/
theorem witness_ChannelEventsStayThere : ∃ t, exec (.islandBrownOut .a) State.reset = .next t := ⟨_, rfl⟩

end Sys2Proof.Tests
end

section
/-! SUPPORT. What an access of the host reaches, and what raising a cause, ending a meaning and the completions' way out
leave of the port die's registers: the lemmas about register accesses, commits and DMA units. -/

namespace Sys2Proof.Machine

/-! ### Functions and queues read back -/

@[simp] theorem PortDie.fn_setFn_same (p : PortDie) (f : Nat) (x : Fn) : (p.setFn f x).fn f = x :=
  SMap.get_set_same Fn.reset p.fns f x

theorem PortDie.fn_setFn_other (p : PortDie) {f g : Nat} (x : Fn) (h : g ≠ f) : (p.setFn f x).fn g = p.fn g :=
  SMap.get_set_other Fn.reset p.fns x h

theorem PortDie.fn_congr {p q : PortDie} (h : p.fns = q.fns) (f : Nat) : p.fn f = q.fn f := by
  rw [PortDie.fn, PortDie.fn, h]

@[simp] theorem PortDie.queue_setQueue_same (p : PortDie) (q : Nat) (x : QCtx) : (p.setQueue q x).queue q = x :=
  SMap.get_set_same QCtx.reset p.queues q x

theorem PortDie.queue_congr {p r : PortDie} (h : p.queues = r.queues) (q : Nat) : p.queue q = r.queue q := by
  rw [PortDie.queue, PortDie.queue, h]

/-! ### Error causes -/

@[simp] theorem State.raise_port (s : State) (f v : Nat) : (s.raise f v).port = s.port := by
  obtain ⟨p, l, h⟩ := s.raise_eq f v; rw [h]

@[simp] theorem State.raiseError_port (s : State) (f : Nat) : (s.raiseError f).port = s.port := by
  unfold State.raiseError; split <;> simp

/-- A cause sets its own bit of ERR_CAUSE and nothing else of the port die (R422). -/
@[simp] theorem State.errCause_port (s : State) (e : ErrCause) :
    (s.errCause e).port = { s.port with page := s.port.page.setCause e } := by
  unfold State.errCause
  dsimp only
  split <;> simp [State.updPort]

/-- An access error is noted in the global page alone, and sets ERR_CAUSE.ACCESS (R416). -/
theorem State.accessError_port (s : State) (f : Nat) :
    ∃ n, (s.accessError f).port = { s.port with page := { s.port.page with ecAccess := true, ecFunction := n } } := by
  unfold State.accessError
  dsimp only
  rw [State.errCause_port]
  split <;> exact ⟨_, rfl⟩

/-! ### The registers that the end of a meaning leaves -/

/-- The global page without the bits of DEV_EVENTS and of ERR_CAUSE that a change of the device's state sets. -/
def Global.withoutEvents (g : Global) : Global :=
  { g with evReadyUp := false, evTwinUp := false, evTwinDown := false, evNotReady := false, evBlank := false,
           evEbb := false, ecDevEvent := false }

/-- A device event that sets a bit of DEV_EVENTS leaves every other register of the global page. -/
theorem State.devEventIf_withoutEvents (s : State) (b : Prop) [Decidable b] {f : Global → Global}
    (hf : ∀ g, (f g).withoutEvents = g.withoutEvents) :
    (if b then s.devEvent f else s).port.page.withoutEvents = s.port.page.withoutEvents := by
  split
  · rw [← hf s.port.page, State.devEvent, State.errCause_port]; rfl
  · rfl

theorem State.noteStatus_withoutEvents (s old : State) :
    (s.noteStatus old).port.page.withoutEvents = s.port.page.withoutEvents := by
  unfold State.noteStatus
  dsimp only
  rw [State.devEventIf_withoutEvents, State.devEventIf_withoutEvents, State.devEventIf_withoutEvents,
    State.devEventIf_withoutEvents, State.devEventIf_withoutEvents, State.devEventIf_withoutEvents] <;> exact fun _ => rfl

/-- The end of a meaning leaves the global page but for the device's events and their cause. -/
theorem State.finish_withoutEvents (old s : State) :
    (old.finish s).port.page.withoutEvents = s.port.page.withoutEvents := by
  obtain ⟨r, n, o, h⟩ := s.drain_eq
  rw [State.finish, State.noteStatus_withoutEvents, h]

@[simp] theorem State.finish_page_commitDone (old s : State) :
    (old.finish s).port.page.commitDone = s.port.page.commitDone :=
  (congrArg Global.commitDone (old.finish_withoutEvents s) :)
@[simp] theorem State.finish_page_doneCount (old s : State) :
    (old.finish s).port.page.doneCount = s.port.page.doneCount :=
  (congrArg Global.doneCount (old.finish_withoutEvents s) :)
@[simp] theorem State.finish_page_scratch (old s : State) : (old.finish s).port.page.scratch = s.port.page.scratch :=
  (congrArg Global.scratch (old.finish_withoutEvents s) :)
@[simp] theorem State.finish_page_indAddr (old s : State) : (old.finish s).port.page.indAddr = s.port.page.indAddr :=
  (congrArg Global.indAddr (old.finish_withoutEvents s) :)

/-! ### The host link (R345, R346, R438) -/

/-- A request can show only that VF Enable is set. -/
theorem State.vfSeen_eq (s : State) (f : Nat) :
    ∃ e, s.vfSeen f = s.updPort (fun p => { p with sriov := { p.sriov with vfEnable := e } }) := by
  unfold State.vfSeen
  split
  · exact ⟨s.port.sriov.vfEnable, rfl⟩
  · exact ⟨true, rfl⟩

@[simp] theorem State.vfSeen_fns (s : State) (f : Nat) : (s.vfSeen f).port.fns = s.port.fns := by
  obtain ⟨e, h⟩ := s.vfSeen_eq f; rw [h]; rfl

@[simp] theorem State.vfSeen_ideOk (s : State) (f g : Nat) (ide : Option (BitVec 6)) :
    (s.vfSeen f).port.ideOk g ide = s.port.ideOk g ide := by
  obtain ⟨e, h⟩ := s.vfSeen_eq f; rw [h]; rfl

@[simp] theorem State.vfSeen_fnWord (s : State) (f g k : Nat) : (s.vfSeen f).fnWord g k = s.fnWord g k := by
  obtain ⟨e, h⟩ := s.vfSeen_eq f; rw [h]; rfl

/-- An access that reaches the device under its function's stream has its meaning. -/
theorem State.hostAccess_of_ok {s : State} {x : Tlp} (f : State → State) (hr : s.hostReaches = true)
    (hi : s.port.ideOk x.function.toNat x.ide = true) : s.hostAccess x f = f (s.vfSeen x.function.toNat) := by
  simp [State.hostAccess, hr, hi]

/-- An access of the physical function has its meaning on the state as it stands. -/
theorem State.hostAccess_pf {s : State} {x : Tlp} (f : State → State) (hr : s.hostReaches = true)
    (hi : s.port.ideOk 0 x.ide = true) (hx : x.function = 0#8) : s.hostAccess x f = f s := by
  rw [State.hostAccess_of_ok f hr (by rw [hx]; exact hi), hx]; rfl

/-! ### Reads and writes of one DWORD (R416) -/

/-- One aligned DWORD inside no intake window is read with its RC effect; ERR_CAUSE.ACCESS follows where the byte enables
name less than it. -/
theorem State.hostRead_dword (s : State) (f : Nat) {bar : Bar} {o : Nat} (en : Bool) (ho : o % 4 = 0)
    (hw : inWindow bar o = false) :
    (s.hostRead f bar o 1 en).host.readData = [(s.readWord f bar o).1] ∧
    (s.hostRead f bar o 1 en).port
      = (if en then (s.readWord f bar o).2 else (s.readWord f bar o).2.accessError f).port := by
  have ho' : o / 4 * 4 = o := by omega
  have hr : s.readWords f bar o 1 = ([(s.readWord f bar o).1], (s.readWord f bar o).2) := rfl
  have ha : accessOk o 1 = true := by simp [accessOk, ho]
  simp only [State.hostRead, ho', hr, ha, Bool.true_and, List.range_one, List.all_cons, List.all_nil, Nat.mul_zero,
    Nat.add_zero, hw, Bool.false_and, Bool.or_false, and_self]

/-- One aligned DWORD inside no intake window is written. -/
theorem State.hostWrite_dword (s : State) (f : Nat) {bar : Bar} {o : Nat} (v : Word) (ho : o % 4 = 0)
    (hw : inWindow bar o = false) : s.hostWrite f bar o [v] true = s.writeWord f bar o v := by
  simp [State.hostWrite, hw, accessOk, ho, State.writeWords]

/-- A read of a word of the function page (R418). -/
theorem State.readWord_fnPage (s : State) (f : Nat) {o k : Nat} (hk : fnPageWord o = some k) :
    s.readWord f .bar0 o = (s.fnWord f k, s.updPort (fun p => p.setFn f ((p.fn f).clear k))) := by
  simp [State.readWord, hk]

/-- A read of TIDE_SKEW by the physical function (R29). -/
theorem State.readWord_tideSkew (s : State) {o : Nat} (ho : devReg o = some (.global 11)) :
    s.readWord 0 .bar2 o = (s.globalWord 11, s.updPort (fun p => p.globalClear 11)) := by
  simp [State.readWord, State.devRead, ho]

/-- A write of SCRATCH by the physical function (R422). -/
theorem State.writeWord_scratch (s : State) {o : Nat} (v : Word) (ho : devReg o = some (.global 7)) :
    s.writeWord 0 .bar2 o v = s.updPort (fun p => { p with page := { p.page with scratch := v } }) := by
  simp [State.writeWord, State.devWrite, ho]

/-- A shadow that no pending commit locks takes its write (R423). -/
theorem State.shadowWrite_unlocked {s : State} {m : Nat} (f : State → State) (h : s.port.locked m = false) :
    s.shadowWrite m f = f s := by
  simp [State.shadowWrite, h]

/-- An IND_DATA write of a word that is reached writes it; the address then advances where INC is 1 (R426). -/
theorem State.indAccess_write {s : State} {w : IndWord} (v : Word) (hw : indWord s.port.page.indAddr.toNat = some w)
    (hr : s.indReach w = true) :
    (s.indAccess (some v)).2.port = { (s.indWrite w v).port with page := { (s.indWrite w v).port.page with
      indAddr := if s.port.page.indInc then s.port.page.indAddr + 4#48 else (s.indWrite w v).port.page.indAddr } } := by
  simp only [State.indAccess, hw, hr, Bool.not_true, Bool.false_eq_true, if_false]
  split <;> rfl

/-- A word of a queue context is written to its shadow while no pending commit locks it (R426). -/
theorem State.indWrite_queue {s : State} {q k : Nat} {v : Word} {h : QConf}
    (hs : (s.port.queue q).shadow.write k v = some h) (hl : s.port.locked 0 = false) :
    s.indWrite (.queue q k) v = s.updPort (fun p => p.setQueue q { p.queue q with shadow := h }) := by
  simp only [State.indWrite, hs]
  exact State.shadowWrite_unlocked _ hl

/-! ### Commits (R423, R424) -/

/-- A COMMIT that names a block while fewer than four are pending is queued for the tide after next. -/
theorem State.writeCommit_queued {s : State} {v : Word} (hm : BitVec.ofNat 7 v.toNat ≠ 0#7)
    (hl : s.port.commits.length < 4) :
    s.writeCommit v = s.updPort (fun p => { p with
      commits := p.commits ++ [{ target := p.tide + 2, mask := BitVec.ofNat 7 v.toNat }]
      page := { p.page with issued := p.page.issued + 1#8 } }) := by
  have hl' : ¬ 4 ≤ s.port.commits.length := Nat.not_le.2 hl
  simp only [State.writeCommit, beq_false_of_ne hm, hl', Bool.false_eq_true, if_false]

/-- A COMMIT that names a block while four are pending sets OVERFLOW. -/
theorem State.writeCommit_overflow {s : State} {v : Word} (hm : BitVec.ofNat 7 v.toNat ≠ 0#7)
    (hl : 4 ≤ s.port.commits.length) :
    s.writeCommit v
      = (s.updPort (fun p => { p with page := { p.page with overflow := true } })).errCause .commitErr := by
  simp only [State.writeCommit, beq_false_of_ne hm, hl, Bool.false_eq_true, if_false, if_true]

/-- A commit of the assay block alone takes HEALTH_FLOOR and DISCORD_IRQ from their shadows, and is never refused. -/
theorem State.applyCommit_assay (s : State) {c : Commit} (hc : c.mask = 0x20#7) :
    s.applyCommit c = s.updPort (fun p => { p with
      assay := { p.assay with floor := p.assay.floorShadow, irq := p.assay.irqShadow }
      page := { p.page with commitDone := BitVec.ofNat 32 c.target, doneCount := p.page.doneCount + 1#8 } }) := by
  have hr : List.range 7 = [0, 1, 2, 3, 4, 5, 6] := rfl
  simp [State.applyCommit, hr, hc, State.applyBlock, State.updPort]

/-- One pending commit that is due applies, and none is left pending. -/
theorem State.applyCommits_one {s : State} {c : Commit} (h : s.port.commits = [c]) (ht : c.target ≤ s.port.tide) :
    s.applyCommits = (s.updPort (fun p => { p with commits := [] })).applyCommit c := by
  have hn : ¬ s.port.tide < c.target := by omega
  simp [State.applyCommits, h, ht, hn, State.updPort]

/-! ### DMA units: the completions' way out leaves their enables (R68, R69, R352) -/

/-- ENABLED and DRAINING of function `f`'s DMA unit. -/
def State.dmaUnit (s : State) (f : Nat) : Bool × Bool := ((s.port.fn f).acuEnabled, (s.port.fn f).acuDraining)

theorem State.dmaUnit_congr {s t : State} (h : s.port.fns = t.port.fns) (f : Nat) : s.dmaUnit f = t.dmaUnit f := by
  rw [State.dmaUnit, State.dmaUnit, PortDie.fn_congr h]

/-- A fold of steps that leave a DMA unit's enables leaves them. -/
theorem State.foldl_dmaUnit {α : Type} {step : State → α → State} {g : Nat}
    (h : ∀ s a, (step s a).dmaUnit g = s.dmaUnit g) (l : List α) (s : State) :
    (l.foldl step s).dmaUnit g = s.dmaUnit g := by
  induction l generalizing s with
  | nil => rfl
  | cons a l ih => rw [List.foldl_cons, ih, h]

@[simp] theorem State.fnErr_dmaUnit (s : State) (f : Nat) (e : FnErr) (g : Nat) : (s.fnErr f e).dmaUnit g = s.dmaUnit g := by
  have hset : (s.updPort (fun p => p.setFn f ((s.port.fn f).setErr e))).dmaUnit g = s.dmaUnit g := by
    by_cases hg : g = f
    · subst hg; cases e <;> simp [State.dmaUnit, Fn.setErr]
    · simp [State.dmaUnit, PortDie.fn_setFn_other _ _ hg]
  rw [← hset, State.fnErr]
  split
  · rfl
  · exact State.dmaUnit_congr (by rw [State.raiseError_port]) g

@[simp] theorem State.dmaFault_dmaUnit (s : State) (f kind q addr : Nat) (part : Bool) (g : Nat) :
    (s.dmaFault f kind q addr part).dmaUnit g = s.dmaUnit g := State.fnErr_dmaUnit _ _ _ g

@[simp] theorem State.setQueue_dmaUnit (s : State) (q : Nat) (x : QCtx) (g : Nat) :
    (s.updPort (fun p => p.setQueue q x)).dmaUnit g = s.dmaUnit g := rfl

@[simp] theorem State.signal_dmaUnit (s : State) (q g : Nat) : (s.signal q).dmaUnit g = s.dmaUnit g := by
  unfold State.signal
  dsimp only
  split
  · exact State.fnErr_dmaUnit s _ _ g
  · exact State.dmaUnit_congr (by rw [State.raise_port]; rfl) g

@[simp] theorem State.moderate_dmaUnit (s : State) (q g : Nat) : (s.moderate q).dmaUnit g = s.dmaUnit g := by
  unfold State.moderate
  dsimp only
  split <;> simp

@[simp] theorem State.emit_dmaUnit (s : State) (e : Egress) (g : Nat) : (s.emit e).dmaUnit g = s.dmaUnit g := by
  have line (f addr : Nat) (b : Bytes) (s : State) : (s.hostLine f addr b).dmaUnit g = s.dmaUnit g := rfl
  unfold State.emit
  dsimp only
  rw [State.moderate_dmaUnit, State.foldl_dmaUnit (fun _ _ => State.dmaFault_dmaUnit ..), State.setQueue_dmaUnit,
    State.foldl_dmaUnit (fun _ _ => line ..)]

theorem PortDie.record_fns (p : PortDie) (code v : Nat) : (p.record code v).fns = p.fns := by
  obtain ⟨r, n, o, h⟩ := p.record_eq code v; rw [h]

theorem PortDie.recordIf_fns (p : PortDie) (b : Bool) (code v : Nat) : (if b then p.record code v else p).fns = p.fns := by
  split
  · exact p.record_fns code v
  · rfl

theorem PortDie.foldl_setQueue_fns (p : PortDie) (x : PortDie → Nat → QCtx) (l : List Nat) :
    (l.foldl (fun p q => p.setQueue q (x p q)) p).fns = p.fns := by
  induction l generalizing p with
  | nil => rfl
  | cons q l ih => rw [List.foldl_cons, ih, PortDie.setQueue_fns]

/-- The request of a function reset leaves the functions' records (R347, step 1). -/
theorem State.requestReset_fns (s : State) (fns : List Nat) (all egress : Bool) :
    (s.requestReset fns all egress).port.fns = s.port.fns := by
  unfold State.requestReset
  dsimp only
  split
  · rfl
  · exact (PortDie.recordIf_fns _ egress _ _).trans (PortDie.foldl_setQueue_fns _ _ _)

@[simp] theorem State.hold_dmaUnit (s : State) (e : Egress) (g : Nat) : (s.hold e).dmaUnit g = s.dmaUnit g := by
  unfold State.hold
  dsimp only
  split
  · exact State.dmaUnit_congr (State.requestReset_fns ..) g
  · rfl

@[simp] theorem State.send_dmaUnit (s : State) (e : Egress) (g : Nat) : (s.send e).dmaUnit g = s.dmaUnit g := by
  unfold State.send
  dsimp only
  split
  · rfl
  split
  · exact s.hold_dmaUnit e g
  split
  · rw [State.hold_dmaUnit, State.setQueue_dmaUnit]
  split
  · exact s.emit_dmaUnit e g
  split
  · rfl
  · exact s.hold_dmaUnit e g

@[simp] theorem State.release_dmaUnit (s : State) (q g : Nat) : (s.release q).dmaUnit g = s.dmaUnit g := by
  unfold State.release
  dsimp only
  split
  · rfl
  split
  · split <;> rfl
  · exact (State.foldl_dmaUnit (fun s e => s.send_dmaUnit e g) _ _).trans rfl

@[simp] theorem State.releaseFn_dmaUnit (s : State) (f g : Nat) : (s.releaseFn f).dmaUnit g = s.dmaUnit g :=
  State.foldl_dmaUnit (fun _ _ => State.release_dmaUnit ..) _ _

@[simp] theorem State.holdPassing_dmaUnit (s : State) (f g : Nat) : (s.holdPassing f).dmaUnit g = s.dmaUnit g :=
  State.foldl_dmaUnit (fun _ _ => State.hold_dmaUnit ..) _ _

/-- A unit whose windows pass the checks is enabled and does not drain (R350, R352). -/
theorem State.acuEnable_dmaUnit {s : State} {f : Nat} (h : (s.port.fn f).badWindows = []) :
    (s.acuEnable f).dmaUnit f = (true, false) := by
  simp only [State.acuEnable, h, State.releaseFn_dmaUnit]
  simp [State.dmaUnit]

/-- A unit that is disabled drains where it was enabled or drained before (R352). -/
theorem State.acuDisable_dmaUnit (s : State) (f : Nat) :
    (s.acuDisable f).dmaUnit f = (false, (s.port.fn f).acuEnabled || (s.port.fn f).acuDraining) := by
  simp only [State.acuDisable, State.holdPassing_dmaUnit]
  simp [State.dmaUnit]

@[simp] theorem State.finish_dmaUnit (old s : State) (f : Nat) : (old.finish s).dmaUnit f = s.dmaUnit f :=
  State.dmaUnit_congr (old.finish_port_fns s) f

end Sys2Proof.Machine
end

section
/-! The register interface: O14 and O15. -/

namespace Sys2Proof.Machine

/-! ### COMMIT and its application (R423, R424) -/

theorem commit_queued {s : State} {x : Tlp} {v : Word} (hr : s.hostReaches = true) (hi : s.port.ideOk 0 x.ide = true)
    (hx : x.function = 0#8) (hm : BitVec.ofNat 7 v.toNat ≠ 0#7) (hl : s.port.commits.length < 4) :
    Completes (.commit x v) s (fun t =>
      t.port.commits = s.port.commits ++ [{ target := s.port.tide + 2, mask := BitVec.ofNat 7 v.toNat }]
      ∧ t.port.page.issued = s.port.page.issued + 1#8) := by
  refine ⟨_, rfl, ?_⟩
  rw [State.hostAccess_pf _ hr hi hx]
  simp [hx, State.writeCommit_queued hm hl]

theorem commit_overflows {s : State} {x : Tlp} {v : Word} (hr : s.hostReaches = true) (hi : s.port.ideOk 0 x.ide = true)
    (hx : x.function = 0#8) (hm : BitVec.ofNat 7 v.toNat ≠ 0#7) (hl : 4 ≤ s.port.commits.length) :
    Completes (.commit x v) s (fun t =>
      t.port.commits = s.port.commits ∧ t.port.page.overflow = true ∧ t.port.page.ecCommitErr = true) := by
  refine ⟨_, rfl, ?_⟩
  rw [State.hostAccess_pf _ hr hi hx]
  simp [hx, State.writeCommit_overflow hm hl, Global.setCause]

theorem commitApply_assay {s : State} {c : Commit} (hc : s.port.commits = [c]) (ht : c.target ≤ s.port.tide)
    (hm : c.mask = 0x20#7) :
    Completes .commitApply s (fun t =>
      t.port.assay.floor = s.port.assay.floorShadow ∧ t.port.assay.irq = s.port.assay.irqShadow ∧ t.port.commits = []
      ∧ t.port.page.commitDone = BitVec.ofNat 32 c.target ∧ t.port.page.doneCount = s.port.page.doneCount + 1#8) := by
  refine ⟨_, rfl, ?_⟩
  rw [State.applyCommits_one hc ht, State.applyCommit_assay _ hm]
  simp

/-- Settles O14: a COMMIT is queued or overflows, and a due commit of the assay block applies. -/
theorem commitsAreIssuedAndApplied : Obligations.CommitsAreIssuedAndApplied :=
  ⟨fun _ _ _ => commit_queued, fun _ _ _ => commit_overflows, fun _ _ => commitApply_assay⟩

/-! ### Direct and indirect accesses (R12, R13, R415, R416, R426) -/

theorem indAddrHi_stages {s : State} {x : Tlp} {v : Word} (hr : s.hostReaches = true) (hi : s.port.ideOk 0 x.ide = true)
    (hx : x.function = 0#8) :
    Completes (.indAddrHi x v) s (fun t =>
      t.port.page.stagedHi = bits v 0 16 ∧ t.port.page.indInc = v.getLsbD 31
      ∧ t.port.page.indAddr = s.port.page.indAddr) := by
  refine ⟨_, rfl, ?_⟩
  rw [State.hostAccess_pf _ hr hi hx]
  simp [hx, State.writeIndHi]

theorem indAddrLo_loads {s : State} {x : Tlp} {v : Word} (hr : s.hostReaches = true) (hi : s.port.ideOk 0 x.ide = true)
    (hx : x.function = 0#8) :
    Completes (.indAddrLo x v) s (fun t =>
      t.port.page.indAddr = BitVec.ofNat 48 (s.port.page.stagedHi.toNat * 2 ^ 32 + v.toNat / 4 * 4)) := by
  refine ⟨_, rfl, ?_⟩
  rw [State.hostAccess_pf _ hr hi hx]
  simp [hx, State.writeIndLo]

theorem indData_writes_shadow {s : State} {x : Tlp} {v : Word} {q k : Nat} {h : QConf} (hr : s.hostReaches = true)
    (hi : s.port.ideOk 0 x.ide = true) (hx : x.function = 0#8)
    (hw : indWord s.port.page.indAddr.toNat = some (.queue q k)) (hreach : s.indReach (.queue q k) = true)
    (hs : (s.port.queue q).shadow.write k v = some h) (hl : s.port.locked 0 = false) :
    Completes (.indData x (some v)) s (fun t =>
      (t.port.queue q).shadow = h ∧ (t.port.queue q).conf = (s.port.queue q).conf
      ∧ t.port.page.indAddr = (if s.port.page.indInc then s.port.page.indAddr + 4#48 else s.port.page.indAddr)) := by
  refine ⟨_, rfl, ?_⟩
  beta_reduce
  rw [State.hostAccess_pf _ hr hi hx, PortDie.queue_congr (State.finish_port_queues ..), State.finish_page_indAddr]
  simp only [hx, beq_self_eq_true, if_true, State.indAccess_write v hw hreach, State.indWrite_queue hs hl]
  have hq := s.port.queue_setQueue_same q { s.port.queue q with shadow := h }
  exact ⟨(congrArg QCtx.shadow hq :), (congrArg QCtx.conf hq :), rfl⟩

theorem fnPage_read_clears {s : State} {x : Tlp} {o k : Nat} {full : Bool} (hr : s.hostReaches = true)
    (hi : s.port.ideOk x.function.toNat x.ide = true) (hk : fnPageWord o = some k) (ho : o % 4 = 0) :
    Completes (.rcRegisterRead x .bar0 o { dwords := 1, enables := full }) s (fun t =>
      t.host.readData = [s.fnWord x.function.toNat k] ∧ t.port.fn x.function.toNat = (s.port.fn x.function.toNat).clear k
      ∧ (full = false → t.port.page.ecAccess = true)) := by
  have hw : inWindow .bar0 o = false := by simp [inWindow, hk]
  refine ⟨_, rfl, ?_⟩
  rw [State.hostAccess_of_ok _ hr hi]
  obtain ⟨hdata, hport⟩ := (s.vfSeen x.function.toNat).hostRead_dword x.function.toNat full ho hw
  rw [State.readWord_fnPage _ _ hk] at hdata hport
  have hfn : (s.vfSeen x.function.toNat).port.fn x.function.toNat = s.port.fn x.function.toNat :=
    PortDie.fn_congr (s.vfSeen_fns _) _
  rw [hdata, hport, State.vfSeen_fnWord]
  cases full
  · obtain ⟨n, hn⟩ := State.accessError_port ((s.vfSeen x.function.toNat).updPort
      (fun p => p.setFn x.function.toNat ((p.fn x.function.toNat).clear k))) x.function.toNat
    refine ⟨rfl, ?_, fun _ => ?_⟩
    · rw [if_neg Bool.false_ne_true, hn, ← hfn]
      exact PortDie.fn_setFn_same _ _ _
    · rw [if_neg Bool.false_ne_true, hn]
  · simp [hfn]

theorem tideSkew_read_clears {s : State} {x : Tlp} {o : Nat} (hr : s.hostReaches = true)
    (hi : s.port.ideOk 0 x.ide = true) (hx : x.function = 0#8) (hd : devReg o = some (.global 11)) (ho : o % 4 = 0) :
    Completes (.rcRegisterRead x .bar2 o { dwords := 1, enables := true }) s (fun t =>
      t.host.readData = [s.globalWord 11] ∧ t.port.tides.maxSkew = 0#8 ∧ t.port.tides.faultA = false
      ∧ t.port.tides.faultB = false ∧ t.port.tides.adopted = false ∧ t.port.tides.adoptTo = s.port.tides.adoptTo) := by
  refine ⟨_, rfl, ?_⟩
  rw [State.hostAccess_pf _ hr hi hx, hx]
  obtain ⟨hdata, hport⟩ := s.hostRead_dword 0 (bar := .bar2) true ho rfl
  rw [State.readWord_tideSkew s hd] at hdata hport
  exact ⟨hdata, by rw [show (0#8).toNat = 0 from rfl, hport]; exact ⟨rfl, rfl, rfl, rfl, rfl⟩⟩

theorem scratch_write_holds {s : State} {x : Tlp} {o : Nat} {v : Word} (hr : s.hostReaches = true)
    (hi : s.port.ideOk 0 x.ide = true) (hx : x.function = 0#8) (hd : devReg o = some (.global 7)) (ho : o % 4 = 0) :
    Completes (.registerWrite x .bar2 o [v] true) s (fun t => t.port.page.scratch = v) := by
  refine ⟨_, rfl, ?_⟩
  beta_reduce
  rw [State.hostAccess_pf _ hr hi hx, hx, State.finish_page_scratch, State.hostWrite_dword s _ v ho rfl]
  exact congrArg (·.port.page.scratch) (State.writeWord_scratch s v hd)

/-! ### DMA units (R352, R355) -/

theorem fnAcuEnable_enables {s : State} {x : Tlp} {f : BitVec 8} (hr : s.hostReaches = true)
    (hi : s.port.ideOk 0 x.ide = true) (hx : x.function = 0#8) (hb : (s.port.fn f.toNat).badWindows = []) :
    Completes (.fnAcuEnable x f) s (fun t =>
      (t.port.fn f.toNat).acuEnabled = true ∧ (t.port.fn f.toNat).acuDraining = false) := by
  refine ⟨_, rfl, Prod.mk.inj (State.finish_dmaUnit .. |>.trans ?_)⟩
  rw [State.hostAccess_pf _ hr hi hx, hx]
  exact State.acuEnable_dmaUnit hb

theorem fnAcuDisable_drains {s : State} {x : Tlp} {f : BitVec 8} (hr : s.hostReaches = true)
    (hi : s.port.ideOk 0 x.ide = true) (hx : x.function = 0#8) :
    Completes (.fnAcuDisable x f) s (fun t =>
      (t.port.fn f.toNat).acuEnabled = false
      ∧ (t.port.fn f.toNat).acuDraining = ((s.port.fn f.toNat).acuEnabled || (s.port.fn f.toNat).acuDraining)) := by
  refine ⟨_, rfl, Prod.mk.inj ?_⟩
  rw [State.hostAccess_pf _ hr hi hx, hx]
  exact s.acuDisable_dmaUnit f.toNat

theorem acuDrainDone_ends_drain (s : State) (f : BitVec 8) :
    Completes (.acuDrainDone f) s (fun t =>
      (t.port.fn f.toNat).acuDraining = false ∧ (t.port.fn f.toNat).acuEnabled = (s.port.fn f.toNat).acuEnabled) := by
  refine ⟨_, rfl, ?_⟩
  simp [State.acuDrained]

/-- Settles O15, one access or command at a time. -/
theorem registerAccessesTakeEffect : Obligations.RegisterAccessesTakeEffect :=
  ⟨fun _ _ _ => indAddrHi_stages, fun _ _ _ => indAddrLo_loads, fun _ _ _ _ _ _ => indData_writes_shadow,
    fun _ _ _ _ _ => fnPage_read_clears, fun _ _ _ => tideSkew_read_clears, fun _ _ _ _ => scratch_write_holds,
    fun _ _ _ => fnAcuEnable_enables, fun _ _ _ => fnAcuDisable_drains, acuDrainDone_ends_drain⟩

end Sys2Proof.Machine
end

section
/-! The units of a channel: O27, and O26, which fails since a channel takes its tamper levels from its management records,
of which the statement says nothing. -/

namespace Sys2Proof.Machine

/-- A running channel whose units are whole and whose management records hold no tamper level. It is past step 8 and has
not programmed its levels yet, so the boundary that waits programs them (R378, R435). -/
def State.levelsUnrecorded : State :=
  { State.reset with
    pending := [.tideBoundary]
    port := { State.reset.port with start := { State.reset.port.start with aligned := true } }
    a := { Channel.reset with
      aligned := true, start := { Channel.reset.start with step8At := some 0 }
      tamper := { Tamper.reset with boot := true }, records := { Records.blank with levels := [] } } }

theorem State.levelsUnrecorded_whole (ch : Chan) : (State.levelsUnrecorded.chan ch).unitsWhole = true := by
  cases ch <;> decide

/-- The boundary gives the channel the levels of its records, which are none. -/
theorem State.levelsUnrecorded_boundary :
    ({ State.levelsUnrecorded with pending := [] } : State).tideBoundary.a.tamper.levels = [] := by
  decide +kernel

/-- Refutes O26: a channel that programs its levels takes as many as its management records hold. -/
theorem not_unitCountsStay : ¬ Obligations.UnitCountsStay := by
  intro h
  have hstep : step State.levelsUnrecorded = .next ((({ State.levelsUnrecorded with pending := [] } : State)).finish
      ({ State.levelsUnrecorded with pending := [] } : State).tideBoundary) := rfl
  have hwhole := h _ _ State.levelsUnrecorded_whole hstep .a
  simp [Channel.unitsWhole, State.levelsUnrecorded_boundary] at hwhole

/-- Settles O27. -/
theorem resetUnitsWhole : Obligations.ResetUnitsWhole := by
  intro ch
  cases ch <;> decide

end Sys2Proof.Machine
end

section
/-! Frames of commands: what stays within one channel (O30, O60) and within the port die (O59), and the reset values of
registers (O7). -/

namespace Sys2Proof.Machine

/-! ### Reset values -/

/-- Settles O7: every function and queue without a record reads as at reset. -/
theorem registersAtReset : Obligations.RegistersAtReset := by
  refine ⟨rfl, rfl, rfl, rfl, rfl, rfl, rfl, rfl, rfl, fun ch => ?_, fun f => ⟨rfl, rfl, rfl, rfl, rfl⟩,
    fun q => ⟨rfl, rfl, rfl, rfl, rfl, rfl⟩⟩
  cases ch <;> exact ⟨rfl, rfl, rfl, rfl⟩

/-! ### The data plane of one channel (O30) -/

theorem OnlyChannel.upd (ch : Chan) (s : State) (f : Channel → Channel) : OnlyChannel ch s (s.upd ch f) := by
  simp [OnlyChannel]

/-- The end of a meaning writes no more than the recorder, alerts, device events and interrupts. -/
theorem OnlyChannel.finish {ch : Chan} {s t : State} (h : OnlyChannel ch s t) (old : State) :
    OnlyChannel ch s (old.finish t) := by
  obtain ⟨hpending, hport, hpeer, hhost⟩ := h
  obtain ⟨r, n, o, g, p, l, ht⟩ := old.finish_eq t
  refine ⟨by rw [ht, hpending], by rw [ht, ← hport]; rfl, ?_, by rw [ht, ← hhost]; rfl⟩
  rw [State.finish_chan, ← hpeer]; rfl

theorem onlyChannel_of_upd {ch : Chan} {s t : State} {f : Channel → Channel} (h : (.next (s.upd ch f) : Out) = .next t) :
    OnlyChannel ch s t := by
  obtain rfl := Host.Outcome.next.inj h
  exact .upd ch s f

theorem onlyChannel_of_upd_finish {ch : Chan} {s t : State} {f : Channel → Channel}
    (h : (.next (s.finish (s.upd ch f)) : Out) = .next t) : OnlyChannel ch s t := by
  obtain rfl := Host.Outcome.next.inj h
  exact (OnlyChannel.upd ch s f).finish s

/-- A free value drawn beside the channel's change is the model's own. -/
theorem onlyChannel_of_upd_drawn {ch : Chan} {s t : State} {f : Channel → Channel}
    (h : (.next (s.upd ch f).drawn : Out) = .next t) : OnlyChannel ch s t := by
  obtain rfl := Host.Outcome.next.inj h
  exact .upd ch s f

/-- The command of every operation is the operation at its step. -/
theorem exec_opRow (o : Op) (ch : Chan) (st : OpStep) (s : State) :
    exec (opRow o ch st) s = .next (s.finish (s.operate o ch st)) := by
  cases o <;> rfl

theorem onlyChannel_of_opRow {o : Op} {ch : Chan} {st : OpStep} {s t : State} (h : exec (opRow o ch st) s = .next t) :
    OnlyChannel ch s t := by
  rw [exec_opRow] at h
  cases st <;> exact onlyChannel_of_upd_finish h

/-- Settles O30: each command named changes its channel alone, then ends. -/
theorem oneChannelCommandsStayThere : Obligations.OneChannelCommandsStayThere := by
  rintro s t ch (⟨o, st, h⟩ | h | h | h | ⟨id, h⟩ | ⟨k, h⟩ | ⟨k, h⟩ | ⟨id, h⟩ | ⟨id, h⟩ | h | ⟨id, h⟩ | ⟨k, h⟩ | ⟨k, h⟩
    | ⟨k, h⟩ | ⟨n, h⟩ | ⟨n, h⟩ | ⟨n, h⟩ | ⟨n, h⟩ | ⟨n, v, h⟩ | ⟨n, v, h⟩ | ⟨n, h⟩ | ⟨n, h⟩ | ⟨n, h⟩ | ⟨n, h⟩ | ⟨n, h⟩
    | ⟨b, h⟩ | ⟨b, h⟩ | ⟨k, v, h⟩ | ⟨k, h⟩)
  exacts [onlyChannel_of_opRow h, onlyChannel_of_upd_finish h, onlyChannel_of_upd_finish h,
    onlyChannel_of_upd_finish h, onlyChannel_of_upd_finish h, onlyChannel_of_upd h, onlyChannel_of_upd h,
    onlyChannel_of_upd_finish h, onlyChannel_of_upd_finish h, onlyChannel_of_upd_finish h,
    onlyChannel_of_upd_finish h, onlyChannel_of_upd h, onlyChannel_of_upd_finish h, onlyChannel_of_upd h,
    onlyChannel_of_upd h, onlyChannel_of_upd h, onlyChannel_of_upd h, onlyChannel_of_upd h, onlyChannel_of_upd h,
    onlyChannel_of_upd h, onlyChannel_of_upd_drawn h, onlyChannel_of_upd h, onlyChannel_of_upd h,
    onlyChannel_of_upd h, onlyChannel_of_upd h, onlyChannel_of_upd h, onlyChannel_of_upd_finish h,
    onlyChannel_of_upd_drawn h, onlyChannel_of_upd_drawn h]

/-! ### The commands of the port die (O59) -/

/-- Only the port die differs, beside the functions' registers and the queues, and of the host side nothing in memory. -/
structure PortOnly (s t : State) : Prop where
  only : OnlyPort s t
  lines : t.host.lines = s.host.lines
  fns : t.port.fns = s.port.fns
  queues : t.port.queues = s.port.queues

theorem PortOnly.refl (s : State) : PortOnly s s := ⟨⟨rfl, rfl, rfl⟩, rfl, rfl, rfl⟩

theorem PortOnly.trans {s t u : State} (h : PortOnly s t) (h' : PortOnly t u) : PortOnly s u :=
  ⟨⟨h'.only.1.trans h.only.1, h'.only.2.1.trans h.only.2.1, h'.only.2.2.trans h.only.2.2⟩, h'.lines.trans h.lines,
    h'.fns.trans h.fns, h'.queues.trans h.queues⟩

theorem PortOnly.updPort (s : State) {f : PortDie → PortDie} (hfns : (f s.port).fns = s.port.fns)
    (hqueues : (f s.port).queues = s.port.queues) : PortOnly s (s.updPort f) :=
  ⟨⟨rfl, rfl, rfl⟩, rfl, hfns, hqueues⟩

theorem PortOnly.onMgmt (s : State) (f : Mgmt → Mgmt) : PortOnly s (s.onMgmt f) := .updPort s rfl rfl

theorem PortOnly.drawn {s t : State} (h : PortOnly s t) : PortOnly s t.drawn := h.trans ⟨⟨rfl, rfl, rfl⟩, rfl, rfl, rfl⟩

theorem PortOnly.finish {s t : State} (h : PortOnly s t) (old : State) : PortOnly s (old.finish t) :=
  h.trans ⟨⟨by simp, by rw [State.finish_a]; rfl, by rw [State.finish_b]; rfl⟩, by simp, by simp, by simp⟩

theorem PortOnly.ite {s t u : State} (b : Prop) [Decidable b] (ht : PortOnly s t) (hu : PortOnly s u) :
    PortOnly s (if b then t else u) := by
  split
  · exact ht
  · exact hu

theorem PortOnly.record (s : State) (code v : Nat) : PortOnly s (s.updPort (fun p => p.record code v)) := by
  obtain ⟨r, n, o, h⟩ := s.port.record_eq code v
  exact .updPort s (by rw [h]) (by rw [h])

theorem PortOnly.spdmAnswer (s : State) (v : Via) (ok : Bool) (kind : Nat) (content : Bytes) :
    PortOnly s (s.spdmAnswer v ok kind content) := .ite _ (.onMgmt s _) (.onMgmt s _)

/-- An SPDM request is dropped, or its meaning runs. -/
theorem PortOnly.spdm (s : State) (v : Via) (body : Bytes) {f : Chan → State → State} (hf : ∀ ch, PortOnly s (f ch s)) :
    PortOnly s (s.spdm v body f) := by
  unfold State.spdm
  split
  · exact .refl s
  split
  · exact .record s _ _
  · split
    · exact .refl s
    · exact hf _

theorem PortOnly.spdmIn (s : State) (v : Via) (ok : SpdmSession → Bool) (kind : Nat) (body : Bytes)
    (f : Spdm → Nat → Spdm) : PortOnly s (s.spdmIn v ok kind body f) :=
  .spdm s v body fun ch => by
    split
    · exact .spdmAnswer s v false kind []
    · exact .ite _ ((PortOnly.spdmAnswer s v true kind body).trans (.onMgmt _ _)) (.spdmAnswer s v false kind [])

theorem PortOnly.of_next {s t u : State} (h : (.next u : Out) = .next t) (hu : PortOnly s u) : PortOnly s t :=
  Host.Outcome.next.inj h ▸ hu

/-- The sensor reading is answered, with the value where the sensor exists. -/
theorem PortOnly.getSensorReading {s t : State} {v : Via} {n : Nat} (h : exec (.getSensorReading v n) s = .next t) :
    PortOnly s t := by
  refine .of_next h (.drawn (.ite _ (.refl s) ?_))
  split <;> exact .onMgmt s _

theorem PortOnly.ideKm {s t : State} {v : Via} {x : Option (BitVec 6)} {k : Bytes} {b : Bool}
    (h : exec (.ideKm v x k b) s = .next t) : PortOnly s t := by
  cases x <;> exact .of_next h (.ite _ (.updPort s rfl rfl) (.refl s))

theorem PortOnly.recorderFreezeTimeout {s t : State} (h : exec .recorderFreezeTimeout s = .next t) : PortOnly s t := by
  refine .of_next h ?_
  split
  · exact .ite _ (.updPort s rfl rfl) (.refl s)
  · exact .refl s

theorem PortOnly.kerralRespond (s : State) : PortOnly s s.kerralRespond := by
  unfold State.kerralRespond
  split
  · exact .refl s
  · split
    · exact .refl s
    · exact .onMgmt s _

/-- The event of a failing supply and the flush that it triggers (R410). -/
theorem PortOnly.pwrFailNAssert {s t : State} (h : exec .pwrFailNAssert s = .next t) : PortOnly s t := by
  obtain ⟨r, n, o, hrecord⟩ := s.port.record_eq 0x021 0
  refine .of_next h (.finish (.ite _ (.refl s) (.updPort s ?_ ?_)) s) <;> rw [hrecord]

/-- Settles O59, command by command. -/
theorem portCommandsLeaveTheChannels : Obligations.PortCommandsLeaveTheChannels := by
  suffices hframe : ∀ s t : State, _ → PortOnly s t from fun s t h =>
    have hst := hframe s t h
    ⟨hst.only, hst.lines, hst.fns, hst.queues⟩
  rintro s t (⟨b, e, h⟩ | ⟨x, h⟩ | ⟨x, n, h⟩ | ⟨v, b, h⟩ | ⟨v, b, h⟩ | ⟨v, b, h⟩ | ⟨v, b, h⟩ | ⟨v, b, h⟩ | ⟨v, b, h⟩
    | ⟨v, b, h⟩ | ⟨v, b, h⟩ | ⟨v, b, h⟩ | ⟨v, b, h⟩ | ⟨v, b, h⟩ | ⟨v, b, h⟩ | ⟨v, x, k, b, h⟩ | ⟨v, h⟩ | ⟨v, n, h⟩ | h | h
    | h | h | h | h | h | ⟨n, h⟩)
  · exact .of_next h (.ite _ (.refl s) (.onMgmt s _))
  · exact .of_next h (.ite _ (.onMgmt s _) (.refl s))
  · exact .of_next h (.finish (.ite _ (.refl s) (.record s _ _)) s)
  · exact .of_next h (.finish (.spdm s v b fun _ => (PortOnly.onMgmt s _).trans (.spdmAnswer _ _ _ _ _)) s)
  · exact .of_next h (.finish (.spdm s v b fun _ => (PortOnly.ite _ (.onMgmt s _) (.refl s)).trans (.spdmAnswer _ _ _ _ _)) s)
  · exact .of_next h (.finish (.spdm s v b fun _ => (PortOnly.ite _ (.onMgmt s _) (.refl s)).trans (.spdmAnswer _ _ _ _ _)) s)
  · exact .of_next h (.finish (.spdm s v b fun _ => .spdmAnswer s _ _ _ _) s)
  · exact .of_next h (.finish (.spdm s v b fun _ => .spdmAnswer s _ _ _ _) s)
  · exact .of_next h (.drawn (.finish (.spdm s v b fun _ => .spdmAnswer s _ _ _ _) s))
  · exact .of_next h (.finish (.spdm s v b fun _ => .spdmAnswer s _ _ _ _) s)
  · exact .of_next h (.drawn (.finish (.spdm s v b fun _ =>
      (PortOnly.ite _ (.onMgmt s _) (.refl s)).trans (.spdmAnswer _ _ _ _ _)) s))
  · exact .of_next h (.finish (.spdmIn s v _ _ b _) s)
  · exact .of_next h (.finish (.spdmIn s v _ _ b _) s)
  · exact .of_next h (.finish (.spdmIn s v _ _ b _) s)
  · exact .of_next h (.finish (.spdmIn s v _ _ b _) s)
  · exact .ideKm h
  · exact .of_next h (.ite _ (.onMgmt s _) (.refl s))
  · exact .getSensorReading h
  · exact .recorderFreezeTimeout h
  · exact .of_next h (.updPort s rfl rfl)
  · exact .of_next h (.updPort s rfl rfl)
  · exact .of_next h (.kerralRespond s)
  · exact .of_next h (.onMgmt s _)
  · exact .of_next h (.ite _ ((PortOnly.updPort s rfl rfl).trans (.updPort _ rfl rfl)) (.refl s))
  · exact .pwrFailNAssert h
  · exact .of_next h (.updPort s rfl rfl)

end Sys2Proof.Machine
end

section
/-! The events of one channel that reach the port die by a tamper response, a fault report or a failed start (O60). -/

namespace Sys2Proof.Machine

/-- What an event of channel `ch` leaves: the other channel beside its events, the functions' registers, the queues with
their commands, the assay states but the channel's own, host memory and the queue of commands. -/
structure StaysIn (ch : Chan) (s t : State) : Prop where
  peer : (t.chan ch.peer).quiet = (s.chan ch.peer).quiet
  fns : t.port.fns = s.port.fns
  queues : t.port.queues = s.port.queues
  outst : t.port.outst = s.port.outst
  assay : t.port.assay = s.port.assay ∨ t.port.assay = s.port.assay.setSt ch .starting
  lines : t.host.lines = s.host.lines
  pending : t.pending = s.pending

namespace StaysIn

variable {ch : Chan} {s t u : State}

theorem refl (ch : Chan) (s : State) : StaysIn ch s s := ⟨rfl, rfl, rfl, rfl, .inl rfl, rfl, rfl⟩

theorem trans (h : StaysIn ch s t) (h' : StaysIn ch t u) : StaysIn ch s u where
  peer := h'.peer.trans h.peer
  fns := h'.fns.trans h.fns
  queues := h'.queues.trans h.queues
  outst := h'.outst.trans h.outst
  assay := by
    have hagain : (s.port.assay.setSt ch .starting).setSt ch .starting = s.port.assay.setSt ch .starting := by
      cases ch <;> rfl
    rcases h.assay with hs | hs <;> rcases h'.assay with ht | ht <;> rw [ht, hs]
    · exact .inl rfl
    · exact .inr rfl
    · exact .inr rfl
    · exact .inr hagain
  lines := h'.lines.trans h.lines
  pending := h'.pending.trans h.pending

theorem ite (b : Prop) [Decidable b] (ht : StaysIn ch s t) (hu : StaysIn ch s u) : StaysIn ch s (if b then t else u) := by
  split
  · exact ht
  · exact hu

/-- One more step that stays, or none. -/
theorem orThen (h : StaysIn ch s t) (b : Prop) [Decidable b] (h' : StaysIn ch t u) : StaysIn ch s (if b then u else t) :=
  ite b (h.trans h') h

theorem orElse (h : StaysIn ch s t) (b : Prop) [Decidable b] (h' : StaysIn ch t u) : StaysIn ch s (if b then t else u) :=
  ite b h (h.trans h')

theorem of_next (h : (.next u : Out) = .next t) (hu : StaysIn ch s u) : StaysIn ch s t := Host.Outcome.next.inj h ▸ hu

/-! ### The shared updates -/

theorem setChan (ch : Chan) (s : State) (c : Channel) : StaysIn ch s (s.setChan ch c) :=
  ⟨by simp, by simp, by simp, by simp, .inl (by simp), by simp, by simp⟩

theorem upd (ch : Chan) (s : State) (f : Channel → Channel) : StaysIn ch s (s.upd ch f) := setChan ch s _

theorem drawn (ch : Chan) (s : State) : StaysIn ch s s.drawn := ⟨by cases ch <;> rfl, rfl, rfl, rfl, .inl rfl, rfl, rfl⟩

theorem recorder (ch : Chan) (s : State) (f : Recorder → Recorder) :
    StaysIn ch s (s.updPort (fun p => { p with recorder := f p.recorder })) :=
  ⟨by simp, rfl, rfl, rfl, .inl rfl, rfl, rfl⟩

theorem l5From (ch : Chan) (s : State) (f : List Chan → List Chan) :
    StaysIn ch s (s.updPort (fun p => { p with l5From := f p.l5From })) :=
  ⟨by simp, rfl, rfl, rfl, .inl rfl, rfl, rfl⟩

theorem record (ch : Chan) (s : State) (code v : Nat) : StaysIn ch s (s.updPort (fun p => p.record code v)) := by
  obtain ⟨r, n, o, h⟩ := s.port.record_eq code v
  refine ⟨by simp, ?_, ?_, ?_, .inl ?_, rfl, rfl⟩ <;> rw [State.updPort_port, h]

theorem raiseError (ch : Chan) (s : State) (f : Nat) : StaysIn ch s (s.raiseError f) := by
  unfold State.raiseError
  refine ite _ ?_ (refl ch s)
  obtain ⟨p, l, h⟩ := s.raise_eq f (s.port.fn f).cfg.errVector.toNat
  rw [h]
  exact ⟨by cases ch <;> rfl, rfl, rfl, rfl, .inl rfl, rfl, rfl⟩

theorem drain (ch : Chan) (s : State) : StaysIn ch s s.drain := by
  obtain ⟨r, n, o, h⟩ := s.drain_eq
  rw [h]
  exact ⟨by cases ch <;> rfl, rfl, rfl, rfl, .inl rfl, rfl, rfl⟩

theorem finish (h : StaysIn ch s t) (old : State) : StaysIn ch s (old.finish t) :=
  h.trans ⟨by rw [State.finish_chan]; rfl, by simp, by simp, by simp, .inl (by simp), by simp, by simp⟩

/-! ### Tamper responses and failed starts -/

/-- The response to tamper sources: the error vector, a flush of the recorder and the order to the peer (R364, R368). -/
theorem respond (ch : Chan) (s : State) (src : BitVec 23) : StaysIn ch s (s.respond ch src) := by
  unfold State.respond
  extract_lets
  refine ite _ (refl ch s) (ite _ (setChan ch s _) (ite _ (setChan ch s _) ?_))
  have hset {c : Channel} : StaysIn ch s (s.setChan ch c) := setChan ch s c
  have hflush {t : State} : StaysIn ch t (t.drain.updPort (fun p => { p with recorder := p.recorder.flush 1 })) :=
    (drain ch t).trans (recorder ch _ (·.flush 1))
  exact ((hset.orThen _ (raiseError ch _ 0)).orElse _ hflush).orThen _ (l5From ch _ (· ++ [ch]))

theorem tamper (ch : Chan) (s : State) (src : BitVec 23) : StaysIn ch s (s.tamper ch src) := respond ch s _

theorem tamperOne (h : StaysIn ch s t) (n : Nat) : StaysIn ch s (t.tamperOne ch n) := h.trans (tamper ch t _)

theorem detected (h : StaysIn ch s t) (src : BitVec 23) : StaysIn ch s (t.detected ch src) :=
  h.trans ((upd ch t _).trans (respond ch _ _))

theorem staysOut (h : StaysIn ch s t) (v : StartStep) : StaysIn ch s (t.staysOut ch v) :=
  h.trans ((upd ch t _).trans ⟨by simp [State.staysOut], rfl, rfl, rfl, .inr rfl, rfl, rfl⟩)

theorem startTestFails (ch : Chan) (s : State) : StaysIn ch s (s.startTestFails ch) :=
  ((upd ch s _).staysOut .failed).trans (drawn ch _)

/-! ### The events themselves -/

theorem monitorTest (ch : Chan) (s : State) (n : Nat) (pass : Bool) : StaysIn ch s (s.monitorTest ch n pass) :=
  ite _ (refl ch s) (ite _ (upd ch s _) ((upd ch s _).orThen _ (respond ch _ _)))

theorem tmpIn (ch : Chan) (s : State) (pin : Nat) : StaysIn ch s (s.tmpIn ch pin) :=
  ite _ (refl ch s) ((upd ch s _).detected _)

theorem wakeTamper (ch : Chan) (s : State) : StaysIn ch s (s.wakeTamper ch) :=
  ite _ ((upd ch s _).tamperOne 22) (upd ch s _)

theorem laneTest (ch : Chan) (s : State) (n : Nat) (pass : Bool) : StaysIn ch s (s.laneTest ch n pass) :=
  ite _ (refl ch s) (ite _ (setChan ch s _) ((setChan ch s _).tamperOne srcLogic))

theorem digestTest (ch : Chan) (s : State) (n : Nat) (pass : Bool) : StaysIn ch s (s.digestTest ch n pass) :=
  ite _ (refl ch s) (ite _ (setChan ch s _) ((setChan ch s _).tamperOne srcLogic))

/-- How the lane work of a pair ends (R182, R183, R201). -/
theorem rakeDone (ch : Chan) (s : State) (n : Nat) (w : WorkEnd) : StaysIn ch s (s.rakeDone ch n w) := by
  unfold State.rakeDone
  extract_lets c
  cases w with
  | good | readRefused | writeRefused => exact setChan ch s _
  | engineFault | closingCheck => exact refl ch s
  | laneCompare =>
    dsimp only
    split
    · exact (setChan ch s _).tamperOne srcLogic
    · exact refl ch s
  | busCode =>
    dsimp only
    split
    · exact ((setChan ch s _).trans (drawn ch _)).tamperOne srcBus
    · exact refl ch s
  | memory =>
    dsimp only
    split
    · exact setChan ch s _
    · exact refl ch s

/-- How the work of a digest engine ends (R213, R218). -/
theorem digestDone (ch : Chan) (s : State) (n : Nat) (w : WorkEnd) : StaysIn ch s (s.digestDone ch n w) := by
  unfold State.digestDone
  extract_lets c
  refine ite _ (refl ch s) ?_
  cases w with
  | good | memory => exact ite _ (refl ch s) (setChan ch s _)
  | busCode => exact ((setChan ch s _).trans (drawn ch _)).tamperOne srcBus
  | engineFault | readRefused | writeRefused => exact setChan ch s _
  | laneCompare | closingCheck => exact (setChan ch s _).tamperOne srcLogic

theorem pkGood (ch : Chan) (s : State) (n : Nat) (x : Item) : StaysIn ch s (s.pkGood ch n x) := by
  unfold State.pkGood
  refine ite _ (refl ch s) ?_
  dsimp only
  split
  · exact ite _ ((setChan ch s _).tamperOne srcLogic) (setChan ch s _)
  · exact ite _ (setChan ch s _) (setChan ch s _)

/-- How the work of a public-key engine ends (R238, R239, R242). -/
theorem pkDone (ch : Chan) (s : State) (n : Nat) (w : WorkEnd) : StaysIn ch s (s.pkDone ch n w) := by
  unfold State.pkDone
  extract_lets c
  split
  · cases w with
    | good => exact pkGood ch s n _
    | closingCheck | laneCompare | engineFault => exact ite _ ((setChan ch s _).tamperOne srcLogic) (refl ch s)
    | busCode => exact (setChan ch s _).tamperOne srcBus
    | memory | readRefused | writeRefused => exact setChan ch s _
  · exact refl ch s

/-- A background test of a unit (R314). -/
theorem background (ch : Chan) (s : State) (u : TestUnit) (r : TestEnd) : StaysIn ch s (s.background ch u r) := by
  refine ite _ (refl ch s) ?_
  cases u with
  | lanePair n => exact laneTest ch s _ _
  | digestEngine n => exact digestTest ch s _ _
  | pkEngine | core | channelStore | hbm | collector => exact upd ch s _
  | journal => exact ite _ (refl ch s) (upd ch s _)
  | bus => exact ite _ (refl ch s) (((upd ch s _).trans (drawn ch _)).tamperOne srcBus)

/-- Start step 1, in which the fuses and the island are checked (R432). -/
theorem fuseLoad (ch : Chan) (s : State) (rows : Bool) : StaysIn ch s (s.fuseLoad ch rows) := by
  unfold State.fuseLoad
  refine ite _ (refl ch s) ?_
  extract_lets
  exact (((upd ch s _).trans (setChan ch _ _)).trans (tamper ch _ _)).orElse _ (upd ch _ _)

theorem training (ch : Chan) (s : State) (ok : Bool) : StaysIn ch s (s.training ch ok) :=
  ite _ (refl ch s) (ite _ (setChan ch s _) (ite _ (setChan ch s _)
    (((refl ch s).staysOut .failed).trans (record ch _ _ _))))

theorem memoryFails (ch : Chan) (s : State) : StaysIn ch s (s.memoryFails ch) :=
  ite _ (startTestFails ch s) ((upd ch s _).trans (drawn ch _))

theorem svnStart (ch : Chan) (s : State) : StaysIn ch s (s.svnStart ch) := by
  unfold State.svnStart
  extract_lets c
  split
  · exact refl ch s
  · exact ite _ (refl ch s) (setChan ch s _)

end StaysIn

/-- Settles O60, event by event. -/
theorem channelEventsStayThere : Obligations.ChannelEventsStayThere := by
  suffices hframe : ∀ (s t : State) (ch : Chan), _ → StaysIn ch s t from fun s t ch h =>
    have hst := hframe s t ch h
    ⟨hst.peer, hst.fns, hst.queues, hst.outst, hst.assay, hst.lines, hst.pending⟩
  rintro s t ch (⟨v, h⟩ | ⟨n, p, h⟩ | ⟨n, h⟩ | h | h | ⟨n, p, h⟩ | ⟨n, w, h⟩ | ⟨n, w, h⟩ | ⟨n, p, h⟩ | ⟨n, e, v, h⟩
    | ⟨n, w, h⟩ | ⟨u, r, h⟩ | ⟨b, h⟩ | ⟨b, h⟩ | ⟨b, h⟩ | h | ⟨hroot, h⟩ | h)
  · exact .of_next h (.finish (.ite _ ((StaysIn.upd ch s _).detected _) (.refl ch s)) s)
  · exact .of_next h (.finish (.monitorTest ch s _ _) s)
  · exact .of_next h (.finish (.tmpIn ch s _) s)
  · exact .of_next h (.finish ((StaysIn.upd ch s _).trans (.drawn ch _)) s)
  · exact .of_next h (.finish (.wakeTamper ch s) s)
  · exact .of_next h (.finish (.laneTest ch s _ _) s)
  · exact .of_next h (.finish (.rakeDone ch s _ _) s)
  · exact .of_next h (.finish (.digestDone ch s _ _) s)
  · exact .of_next h (.finish (.digestTest ch s _ _) s)
  · exact .of_next h ((StaysIn.upd ch s _).trans (.drawn ch _))
  · exact .of_next h (.finish (.pkDone ch s _ _) s)
  · exact .of_next h (.finish (.background ch s _ _) s)
  · exact .of_next h (.finish (.fuseLoad ch s _) s)
  · exact .of_next h (.finish (.training ch s _) s)
  · exact .of_next h (.finish (.ite _ (.refl ch s) (.ite _ (.setChan ch s _) (.memoryFails ch s))) s)
  · exact .of_next h (.upd ch s _)
  · refine .of_next h (.finish ?_ s)
    rw [if_neg (by simp [hroot])]
    exact .upd ch s _
  · exact .of_next h (.svnStart ch s)

end Sys2Proof.Machine
end

section
/-! An idle cycle (O2), which fails: the cycle shortens what a held alarm lasts in a channel whose tide does not run, and
the statement's clause about a generator that has heard no failing sample does not ask that the tide run. -/

namespace Sys2Proof.Machine

/-- The state at reset with an alarm of channel A that lasts one cycle more: REFCLK is present and no tide runs. -/
def State.alarmHeld : State := { State.reset with a := { Channel.reset with tamper := { Tamper.reset with lasts := 1 } } }

/-- Refutes O2: at reset no sample has failed, and the cycle ends the alarm, which is not in the scheduler. -/
theorem not_emptyQueueIdlesOneCycle : ¬ Obligations.EmptyQueueIdlesOneCycle := by
  intro h
  have houtlast (ch : Chan) : (State.alarmHeld.chan ch).tamper.outlast = 0#23 := by cases ch <;> rfl
  obtain ⟨t, hstep, -, -, -, hchan⟩ := h State.alarmHeld rfl houtlast
  obtain ⟨-, -, -, hheard, -⟩ := hchan .a
  obtain rfl : State.alarmHeld.idle = t := Host.Outcome.next.inj hstep
  have hkept : State.alarmHeld.idle.a.tamper.lasts = State.alarmHeld.a.tamper.lasts := by
    rw [← State.chan_a State.alarmHeld.idle, hheard rfl]; rfl
  exact absurd hkept (by decide)

end Sys2Proof.Machine
end

section
/-! Tide 0 and the alignment of the channels (O20). -/

namespace Sys2Proof.Machine

/-- LOCK_A or LOCK_B, the lock report noted of a channel. -/
def PortStart.lockOf (t : PortStart) : Chan → Bool
  | .a => t.lockA
  | .b => t.lockB

/-- The port die with the lock report of a channel noted; the report shows that REFCLK is present. -/
def State.lockNoted (s : State) (ch : Chan) : State :=
  match ch with
  | .a => s.mapStart (fun t => { t with refclk := true, lockA := true })
  | .b => s.mapStart (fun t => { t with refclk := true, lockB := true })

theorem State.lockNoted_lockOf (s : State) (ch : Chan) : (s.lockNoted ch).port.start.lockOf ch = true := by
  cases ch <;> rfl

/-- A channel that has started has its lock report noted, and takes the count 12 tides on once the tide runs. -/
theorem State.lockReport_of_started {s : State} {ch : Chan} (haligned : (s.chan ch).aligned = false)
    (hoff : (s.chan ch).start.step ≠ .off) (hhalted : (s.chan ch).start.step ≠ .halted) :
    s.lockReport ch = if s.port.start.aligned then
      (s.lockNoted ch).upd ch (fun c => { c with alignAt := some (s.port.tide + 12) }) else s.lockNoted ch := by
  simp only [State.lockReport, haligned, beq_false_of_ne hoff, beq_false_of_ne hhalted, Bool.or_self,
    Bool.false_eq_true, if_false]
  cases ch <;> rfl

theorem cclkLockReport_noted {s : State} {ch : Chan} (hport : s.port.start.aligned = false)
    (haligned : (s.chan ch).aligned = false) (hoff : (s.chan ch).start.step ≠ .off)
    (hhalted : (s.chan ch).start.step ≠ .halted) :
    Completes (.cclkLockReport ch) s (fun t => t.port.start.lockOf ch = true) := by
  refine ⟨_, rfl, ?_⟩
  rw [State.lockReport_of_started haligned hoff hhalted, if_neg (by simp [hport])]
  exact s.lockNoted_lockOf ch

theorem cclkLockReport_late {s : State} {ch : Chan} (hport : s.port.start.aligned = true)
    (haligned : (s.chan ch).aligned = false) (hoff : (s.chan ch).start.step ≠ .off)
    (hhalted : (s.chan ch).start.step ≠ .halted) :
    Completes (.cclkLockReport ch) s (fun t => (t.chan ch).alignAt = some (s.port.tide + 12)) := by
  refine ⟨_, rfl, ?_⟩
  rw [State.lockReport_of_started haligned hoff hhalted, if_pos hport]
  exact congrArg Channel.alignAt ((s.lockNoted ch).chan_upd ch _)

theorem tideAlign_zero {s : State} (hport : s.port.start.aligned = false) (ha : s.port.start.lockA = true)
    (hb : s.port.start.lockB = true) :
    Completes .tideAlign s (fun t => t.port.start.aligned = true ∧ t.port.tide = 0 ∧ t.port.offset = 0
      ∧ ∀ ch, (t.chan ch).aligned = true ∧ (t.chan ch).tide = 0 ∧ (t.chan ch).offset = 0) := by
  refine ⟨s.tideZero, by simp [exec, execTideAlign, hport, ha, hb], rfl, rfl, rfl, fun ch => ?_⟩
  simp only [State.tideZero, ha, hb, if_true]
  cases ch <;> exact ⟨rfl, rfl, rfl⟩

theorem cclkLockTimeout_channelA {s : State} (hport : s.port.start.aligned = false) (ha : s.port.start.lockA = true)
    (hb : s.port.start.lockB = false) :
    Completes .cclkLockTimeout s (fun t => t.port.start.aligned = true ∧ t.a.aligned = true ∧ t.b = s.b) := by
  refine ⟨s.tideZero, by simp [exec, execCclkLockTimeout, hport, ha, hb], rfl, ?_⟩
  simp only [State.tideZero, ha, hb, if_true, Bool.false_eq_true, if_false]
  exact ⟨rfl, rfl⟩

/-- Settles O20: the report before tide 0, tide 0, the timeout, and the report after it. -/
theorem tideIsAligned : Obligations.TideIsAligned := by
  refine ⟨fun s ch hport haligned hoff hhalted => ?_, fun _ => tideAlign_zero, fun _ => cclkLockTimeout_channelA,
    fun _ _ => cclkLockReport_late⟩
  obtain ⟨t, hstep, hlock⟩ := cclkLockReport_noted hport haligned hoff hhalted
  exact ⟨t, hstep, by cases ch <;> exact hlock⟩

end Sys2Proof.Machine
end

section
/-! What completions leave of the port die on their way out (R60, R61, R68, R69, R351), and what the retirement of a
channel writes (R319). -/

namespace Sys2Proof.Machine

/-! ### The way out -/

/-- What stands in the port die beside the functions, the queues and their commands, the reports of refused accesses and
resets, the recorder, the alerts and the global page: completions on their way out write those. -/
def PortDie.control (p : PortDie) : PortDie :=
  { p with fns := [], queues := [], tenant := Tenant.reset, waiting := [], outst := [], released := [], passing := [],
           held := [], resets := [], waits := [], recorder := Recorder.reset, page := Global.reset,
           mgmt := { p.mgmt with alertsSent := 0, out := [] } }

theorem PortDie.foldl_setQueue_control (p : PortDie) (x : PortDie → Nat → QCtx) (l : List Nat) :
    (l.foldl (fun p q => p.setQueue q (x p q)) p).control = p.control := by
  induction l generalizing p with
  | nil => rfl
  | cons q l ih => rw [List.foldl_cons, ih]; rfl

theorem PortDie.record_control (p : PortDie) (code v : Nat) : (p.record code v).control = p.control := by
  obtain ⟨r, n, o, h⟩ := p.record_eq code v
  rw [h]; rfl

/-- Nothing differs but what completions on their way out write in the port die and on the host side. -/
structure WayOut (s t : State) : Prop where
  control : t.port.control = s.port.control
  a : t.a = s.a
  b : t.b = s.b
  pending : t.pending = s.pending

namespace WayOut

variable {s t u : State}

theorem refl (s : State) : WayOut s s := ⟨rfl, rfl, rfl, rfl⟩

theorem trans (h : WayOut s t) (h' : WayOut t u) : WayOut s u :=
  ⟨h'.control.trans h.control, h'.a.trans h.a, h'.b.trans h.b, h'.pending.trans h.pending⟩

theorem chan (h : WayOut s t) (ch : Chan) : t.chan ch = s.chan ch := by
  cases ch
  · exact h.a
  · exact h.b

theorem start (h : WayOut s t) : t.port.start = s.port.start :=
  (congrArg PortDie.start h.control :)
theorem tide (h : WayOut s t) : t.port.tide = s.port.tide :=
  (congrArg PortDie.tide h.control :)
theorem offset (h : WayOut s t) : t.port.offset = s.port.offset :=
  (congrArg PortDie.offset h.control :)
theorem tides (h : WayOut s t) : t.port.tides = s.port.tides :=
  (congrArg PortDie.tides h.control :)
theorem assay (h : WayOut s t) : t.port.assay = s.port.assay :=
  (congrArg PortDie.assay h.control :)

theorem ite (b : Prop) [Decidable b] (ht : WayOut s t) (hu : WayOut s u) : WayOut s (if b then t else u) := by
  split
  · exact ht
  · exact hu

theorem foldl {α : Type} {f : State → α → State} (h : ∀ s x, WayOut s (f s x)) (l : List α) (s : State) :
    WayOut s (l.foldl f s) := by
  induction l generalizing s with
  | nil => exact refl s
  | cons x l ih => exact (h s x).trans (ih _)

theorem updPort (s : State) {f : PortDie → PortDie} (h : (f s.port).control = s.port.control) : WayOut s (s.updPort f) :=
  ⟨h, rfl, rfl, rfl⟩

theorem host (s : State) (h : HostSide) : WayOut s { s with host := h } := ⟨rfl, rfl, rfl, rfl⟩

theorem record (s : State) (code v : Nat) : WayOut s (s.updPort (fun p => p.record code v)) :=
  updPort s (s.port.record_control code v)

theorem devEvent (s : State) (f : Global → Global) : WayOut s (s.devEvent f) := by
  obtain ⟨g, p, l, h⟩ := s.devEvent_eq f
  rw [h]
  exact ⟨rfl, rfl, rfl, rfl⟩

theorem raise (s : State) (f v : Nat) : WayOut s (s.raise f v) := by
  obtain ⟨p, l, h⟩ := s.raise_eq f v
  rw [h]
  exact host s _

theorem raiseError (s : State) (f : Nat) : WayOut s (s.raiseError f) := ite _ (raise s _ _) (refl s)

theorem fnErr (s : State) (f : Nat) (e : FnErr) : WayOut s (s.fnErr f e) := by
  have hset : WayOut s (s.updPort (fun p => p.setFn f ((s.port.fn f).setErr e))) := updPort s rfl
  exact ite _ hset (hset.trans (raiseError _ f))

theorem dmaFault (s : State) (f kind q addr : Nat) (part : Bool) : WayOut s (s.dmaFault f kind q addr part) :=
  (updPort s rfl).trans (fnErr _ _ _)

theorem signal (s : State) (q : Nat) : WayOut s (s.signal q) :=
  ite _ (fnErr s _ _) ((updPort s rfl).trans (raise _ _ _))

theorem moderate (s : State) (q : Nat) : WayOut s (s.moderate q) := by
  unfold State.moderate
  extract_lets
  exact ite _ ((updPort s rfl).trans (signal _ q)) (updPort s rfl)

theorem emit (s : State) (e : Egress) : WayOut s (s.emit e) :=
  (((foldl (fun s _ => host s _) _ s).trans (updPort _ rfl)).trans (foldl (fun s _ => dmaFault s _ _ _ _ _) _ _)).trans
    (moderate _ _)

theorem requestReset (s : State) (fns : List Nat) (all egress : Bool) : WayOut s (s.requestReset fns all egress) := by
  unfold State.requestReset
  extract_lets
  split
  · exact ⟨rfl, rfl, rfl, rfl⟩
  · refine ⟨?_, rfl, rfl, rfl⟩
    dsimp only
    split
    · exact (PortDie.record_control ..).trans ((PortDie.foldl_setQueue_control ..).trans rfl)
    · exact (PortDie.foldl_setQueue_control ..).trans rfl

theorem hold (s : State) (e : Egress) : WayOut s (s.hold e) := ite _ (requestReset s _ _ _) (updPort s rfl)

theorem send (s : State) (e : Egress) : WayOut s (s.send e) :=
  ite _ (refl s) (ite _ (hold s e) (ite _ ((updPort s rfl).trans (hold _ e)) (ite _ (emit s e)
    (ite _ (updPort s rfl) (hold s e)))))

theorem dropOut (s : State) (n : Nat) : WayOut s (s.updPort (fun p => p.dropOut n)) := updPort s rfl

/-- What remains of a command of a channel that leaves the pair is written, or left to the other (R319). -/
theorem writeOffOne (s : State) (x : Chan) (o : Outst) : WayOut s (s.writeOffOne x o) := by
  have final (t : State) : WayOut t (if o.verdict == .discord then t.updPort (fun p => p.dropOut o.intakeNo)
      else (t.updPort (fun p => p.dropOut o.intakeNo)).updPort (fun p => p.lessOut o.queue.toNat)) :=
    ite _ (updPort t rfl) ((updPort t rfl).trans (updPort _ rfl))
  refine ite _ (refl s) (ite _ (refl s) ?_)
  split
  · exact ite _ ((send s _).trans (final _)) (final s)
  · exact ite _ (updPort s rfl) (final s)

theorem writeHeldRng (s : State) (x : Chan) : WayOut s (s.writeHeldRng x) :=
  foldl (fun s o => by
    split
    · exact ite _ ((send s _).trans (updPort _ rfl)) (refl s)
    · exact refl s) _ s

end WayOut

end Sys2Proof.Machine
end

section
/-! The retirement of a channel (R319, R322) and the comparison of tide reports (O19). -/

namespace Sys2Proof.Machine

/-! ### The retirement of a channel -/

@[simp] theorem State.probeOver_port (s : State) : s.probeOver.port = s.port := by
  unfold State.probeOver
  dsimp only
  split <;> simp

@[simp] theorem Assay.setSt_st (y : Assay) (ch : Chan) (v : ChState) : (y.setSt ch v).st ch = v := by cases ch <;> rfl
@[simp] theorem Assay.setSt_st_peer (y : Assay) (ch : Chan) (v : ChState) : (y.setSt ch v).st ch.peer = y.st ch.peer := by
  cases ch <;> rfl

@[simp] theorem Assay.logRetire_st (y : Assay) (x : Chan) (cause tide : Nat) (ch : Chan) :
    (y.logRetire x cause tide).st ch = y.st ch := by
  unfold Assay.logRetire
  split <;> cases ch <;> rfl

/-- Everything that retiring a channel whose peer is joined does: a probe ends, the channel's state is set and its reset
ordered, and what is left of its commands goes its way out (R319). -/
theorem State.retire_of_peer {s : State} {x : Chan} (cause : Nat) (hx : s.port.serving x = true)
    (hpeer : s.port.joined x.peer = true) :
    ∃ (y : Assay) (m : Mgmt) (u : State), WayOut (u.upd x (fun c => { c with resetOrder := true })) (s.retire x cause)
      ∧ u.port.control = { s.port.control with assay := y, mgmt := m }
      ∧ (∀ ch, y.st ch = (s.port.assay.setSt x .retired).st ch) ∧ u.a = s.probeOver.a ∧ u.b = s.probeOver.b := by
  unfold State.retire
  rw [if_neg (by simp [hx]), if_neg (by simp [hpeer])]
  extract_lets s1 p1 y1 y2 p2 _ _ p3 s2 s3 s4
  have hevent : WayOut s2 s3 := .devEvent s2 _
  refine ⟨y2, p3.control.mgmt, s3, (WayOut.foldl (fun s o => .writeOffOne s x o) _ s4).trans (.updPort _ rfl), ?_,
    fun ch => ?_, hevent.a, hevent.b⟩
  · have hrecord : p2.control = ({ p1 with assay := y2 } : PortDie).control := PortDie.record_control ..
    have hp1 : p1 = s.port := s.probeOver_port
    calc s3.port.control = p3.control := hevent.control
      _ = { p2.control with mgmt := p3.control.mgmt } := rfl
      _ = { p1.control with assay := y2, mgmt := p3.control.mgmt } := by rw [hrecord]; rfl
      _ = { s.port.control with assay := y2, mgmt := p3.control.mgmt } := by rw [hp1]
  · have hst : y2.st ch = y1.st ch := by cases ch <;> rfl
    rw [hst, Assay.logRetire_st, show p1 = s.port from s.probeOver_port]

/-- The states of the channels, and the tide registers, after a retirement. -/
theorem State.retire_of_peer_states {s : State} {x : Chan} (cause : Nat) (hx : s.port.serving x = true)
    (hpeer : s.port.joined x.peer = true) :
    (s.retire x cause).port.assay.st x = .retired ∧ (s.retire x cause).port.joined x.peer = true
    ∧ (s.retire x cause).port.tides = s.port.tides := by
  obtain ⟨y, m, u, hway, hcontrol, hst, -⟩ := s.retire_of_peer cause hx hpeer
  have hassay : (s.retire x cause).port.assay = y := by
    rw [hway.assay, State.upd_port]; exact (congrArg PortDie.assay hcontrol :)
  refine ⟨by rw [hassay, hst, Assay.setSt_st], ?_, ?_⟩
  · rw [PortDie.joined, hassay, hst, Assay.setSt_st_peer]; exact hpeer
  · rw [hway.tides, State.upd_port]; exact (congrArg PortDie.tides hcontrol :)

/-- The last joined channel is not retired: SOLO_FAULT is set, and no channel's state changes (R322). -/
theorem State.retire_of_last {s : State} {x : Chan} (cause : Nat) (hx : s.port.joined x = true)
    (hpeer : s.port.joined x.peer = false) :
    (∀ ch, (s.retire x cause).port.assay.st ch = s.port.assay.st ch) ∧ (s.retire x cause).port.tides = s.port.tides := by
  have hretire : s.retire x cause = (s.soloFault x).writeHeldRng x := by
    simp [State.retire, PortDie.serving, hx, hpeer]
  have hsolo : (s.soloFault x).port.control = { s.port.control with assay := { s.port.assay with soloFault := true } } :=
    PortDie.record_control ..
  have hway := WayOut.writeHeldRng (s.soloFault x) x
  rw [hretire, hway.assay, hway.tides]
  refine ⟨fun ch => ?_, (congrArg PortDie.tides hsolo :)⟩
  rw [show (s.soloFault x).port.assay = { s.port.assay with soloFault := true } from (congrArg PortDie.assay hsolo :)]
  cases ch <;> rfl

/-! ### Tide reports (R28) -/

/-- The tide fault of a channel, as TIDE_SKEW shows it. -/
def TideRegs.fault (t : TideRegs) : Chan → Bool
  | .a => t.faultA
  | .b => t.faultB

theorem State.tideFault_assay (s : State) (ch : Chan) : (s.tideFault ch).port.assay = s.port.assay := by
  cases ch <;> exact (congrArg PortDie.assay (PortDie.record_control ..) :)

theorem State.tideFault_fault (s : State) (ch : Chan) : (s.tideFault ch).port.tides.fault ch = true := by cases ch <;> rfl

theorem State.tideFault_fault_peer (s : State) (ch : Chan) :
    (s.tideFault ch).port.tides.fault ch.peer = s.port.tides.fault ch.peer := by
  have htides (v : Nat) : (s.port.record 0x003 v).tides = s.port.tides :=
    (congrArg PortDie.tides (s.port.record_control 0x003 v) :)
  cases ch
  · exact (congrArg TideRegs.faultB (htides Chan.a.idx) :)
  · exact (congrArg TideRegs.faultA (htides Chan.b.idx) :)

theorem PortDie.joined_congr {p q : PortDie} (h : p.assay = q.assay) (ch : Chan) : p.joined ch = q.joined ch := by
  rw [PortDie.joined, PortDie.joined, h]

theorem PortDie.serving_of_joined {p : PortDie} {ch : Chan} (h : p.joined ch = true) : p.serving ch = true := by
  rw [PortDie.serving, h]; rfl

/-- Retiring the one channel whose report differs. -/
theorem State.tideFault_retire {s : State} {ch : Chan} (hch : s.port.joined ch = true) (hpeer : s.port.joined ch.peer = true) :
    let t := (s.tideFault ch).retire ch 4
    t.port.assay.st ch = .retired ∧ t.port.tides.fault ch = true ∧ t.port.joined ch.peer = true := by
  have hassay := s.tideFault_assay ch
  rw [← PortDie.joined_congr hassay] at hch hpeer
  obtain ⟨hst, hjoined, htides⟩ := State.retire_of_peer_states 4 (PortDie.serving_of_joined hch) hpeer
  exact ⟨hst, by rw [htides]; exact s.tideFault_fault ch, hjoined⟩

/-- Where both differ and disagree, channel B is retired, and channel A is then the last. -/
theorem State.tideBoth_of_twin {s : State} (h : s.twin) :
    s.tideBoth.port.tides.fault .a = true ∧ s.tideBoth.port.tides.fault .b = true
    ∧ s.tideBoth.port.assay.st .b = .retired ∧ s.tideBoth.port.joined .a = true := by
  obtain ⟨ha, hb⟩ := h
  have hassay : ((s.tideFault .a).tideFault .b).port.assay = s.port.assay :=
    (State.tideFault_assay ..).trans (State.tideFault_assay ..)
  rw [← PortDie.joined_congr hassay] at ha hb
  obtain ⟨hst, hjoined, htides⟩ := State.retire_of_peer_states (x := .b) 4 (PortDie.serving_of_joined hb) ha
  have hlast : (((s.tideFault .a).tideFault .b).retire .b 4).port.joined .b = false := by rw [PortDie.joined, hst]; rfl
  obtain ⟨hst', htides'⟩ := State.retire_of_last (x := .a) 4 hjoined hlast
  have hfault (ch : Chan) : s.tideBoth.port.tides.fault ch = ((s.tideFault .a).tideFault .b).port.tides.fault ch := by
    rw [← htides, ← htides']; rfl
  refine ⟨?_, ?_, (hst' .b).trans hst, ?_⟩
  · rw [hfault, ← Chan.peer_peer .a]
    exact ((s.tideFault .a).tideFault_fault_peer .b).trans (s.tideFault_fault .a)
  · rw [hfault]; exact State.tideFault_fault _ .b
  · exact (congrArg (· == ChState.joined) (hst' .a)).trans hjoined

/-- The largest skew of the reports is noted. -/
def State.noteSkew (s : State) (skew : Nat) : State :=
  s.updPort (fun p => { p with tides := { p.tides with maxSkew := BitVec.ofNat 8 (max p.tides.maxSkew.toNat (min 255 skew)) } })

/-- The port die adopts the count that both channels report (R28). -/
def PortDie.adopt (p : PortDie) (count : BitVec 16) : PortDie :=
  { p with tides := { p.tides with adopted := true, adoptTo := some (nearCount p.tide count) } }

section

variable {s : State} {a b : BitVec 16} {ka kb : Nat}

theorem exec_tideReport (hp : s.port.start.aligned = true) : exec (.tideReport (some a) ka (some b) kb) s
    = .next (s.finish (s.tideReport (some a) ka (some b) kb)) := by
  simp [exec, execTideReport, hp]

variable (ha : s.a.aligned = true) (hb : s.b.aligned = true)
include ha hb

/-! The outcomes of the comparison, by which reports differ from the port die's count. -/

theorem State.tideReport_differsA (hda : s.port.tideDiffers (some a) ka = true)
    (hdb : s.port.tideDiffers (some b) kb = false) :
    s.tideReport (some a) ka (some b) kb = ((s.noteSkew (max ka kb)).tideFault .a).retire .a 4 := by
  simp [State.tideReport, State.noteSkew, ha, hb, hda, hdb]

theorem State.tideReport_differsB (hda : s.port.tideDiffers (some a) ka = false)
    (hdb : s.port.tideDiffers (some b) kb = true) :
    s.tideReport (some a) ka (some b) kb = ((s.noteSkew (max ka kb)).tideFault .b).retire .b 4 := by
  simp [State.tideReport, State.noteSkew, ha, hb, hda, hdb]

theorem State.tideReport_agree (hda : s.port.tideDiffers (some a) ka = true)
    (hdb : s.port.tideDiffers (some a) kb = true) :
    s.tideReport (some a) ka (some a) kb
      = (s.noteSkew (max ka kb)).updPort (fun p => (p.adopt a).record 0x002 p.tides.maxSkew.toNat) := by
  simp [State.tideReport, State.noteSkew, PortDie.adopt, ha, hb, hda, hdb]

theorem State.tideReport_disagree (hda : s.port.tideDiffers (some a) ka = true)
    (hdb : s.port.tideDiffers (some b) kb = true) (hab : a ≠ b) :
    s.tideReport (some a) ka (some b) kb = (s.noteSkew (max ka kb)).tideBoth := by
  simp [State.tideReport, State.noteSkew, ha, hb, hda, hdb, hab]

end

/-! ### The recorder takes the event -/

/-- The end of a meaning that sends no event leaves the recorder. -/
theorem State.finish_recorder {old s : State} (ha : s.a.events = []) (hb : s.b.events = []) :
    (old.finish s).port.recorder = s.port.recorder := by
  obtain ⟨g, p, l, h⟩ := s.drain.noteStatus_eq old
  rw [State.finish, h]
  simp [State.drain, ha, hb]

/-- An event within its limit is counted once (R408, R409). -/
theorem Recorder.take_count {r : Recorder} {code : Nat} (v : Nat) (hlimit : SMap.get 0 r.tideUse code < r.limitOf code) :
    (SMap.get EventRec.empty (r.take code v).records code).count
      = sat32 ((SMap.get EventRec.empty r.records code).count + 1) := by
  simp [Recorder.take, hlimit, Recorder.modify, EventRec.update]

/-- A recorder that is not frozen and has room in its input queue takes the event (R409). -/
theorem Recorder.event_of_room {r : Recorder} (code v : Nat) (hinput : r.input < 4096) (hfrozen : r.frozenAt = none) :
    r.event code v = ({ r with input := r.input + 1 } : Recorder).take code v := by
  have hroom : ¬ 4096 ≤ r.input := by omega
  simp only [Recorder.event, hroom, if_false, hfrozen, Option.isSome_none, Bool.false_eq_true]

theorem Recorder.event_count {r : Recorder} {code : Nat} (v : Nat) (hinput : r.input < 4096) (hfrozen : r.frozenAt = none)
    (hlimit : SMap.get 0 r.tideUse code < r.limitOf code) :
    (SMap.get EventRec.empty (r.event code v).records code).count
      = sat32 ((SMap.get EventRec.empty r.records code).count + 1) := by
  rw [Recorder.event_of_room code v hinput hfrozen]
  exact Recorder.take_count (r := { r with input := r.input + 1 }) v hlimit

/-- Event 0x002 is major, so it is recorded with an alert and no flush (R406, R410, R413). -/
theorem PortDie.record_adopted_recorder (p : PortDie) (v : Nat) : (p.record 0x002 v).recorder = p.recorder.event 0x002 v := by
  rfl

/-! ### The statement -/

theorem tideReport_retiresA {s : State} {a b : BitVec 16} {ka kb : Nat} (hp : s.port.start.aligned = true)
    (ha : s.a.aligned = true) (hb : s.b.aligned = true) (htwin : s.twin)
    (hda : s.port.tideDiffers (some a) ka = true) (hdb : s.port.tideDiffers (some b) kb = false) :
    Completes (.tideReport (some a) ka (some b) kb) s (fun t =>
      t.port.assay.stateA = .retired ∧ t.port.tides.faultA = true ∧ t.port.joined .b = true) := by
  refine ⟨_, exec_tideReport hp, ?_⟩
  beta_reduce
  rw [State.tideReport_differsA ha hb hda hdb, State.finish_port_tides, State.finish_port_assay,
    PortDie.joined_congr (State.finish_port_assay ..)]
  exact State.tideFault_retire (s := s.noteSkew (max ka kb)) (ch := .a) htwin.1 htwin.2

theorem tideReport_retiresB {s : State} {a b : BitVec 16} {ka kb : Nat} (hp : s.port.start.aligned = true)
    (ha : s.a.aligned = true) (hb : s.b.aligned = true) (htwin : s.twin)
    (hda : s.port.tideDiffers (some a) ka = false) (hdb : s.port.tideDiffers (some b) kb = true) :
    Completes (.tideReport (some a) ka (some b) kb) s (fun t =>
      t.port.assay.stateB = .retired ∧ t.port.tides.faultB = true ∧ t.port.joined .a = true) := by
  refine ⟨_, exec_tideReport hp, ?_⟩
  beta_reduce
  rw [State.tideReport_differsB ha hb hda hdb, State.finish_port_tides, State.finish_port_assay,
    PortDie.joined_congr (State.finish_port_assay ..)]
  exact State.tideFault_retire (s := s.noteSkew (max ka kb)) (ch := .b) htwin.2 htwin.1

theorem tideReport_disagreeing {s : State} {a b : BitVec 16} {ka kb : Nat} (hp : s.port.start.aligned = true)
    (ha : s.a.aligned = true) (hb : s.b.aligned = true) (htwin : s.twin)
    (hda : s.port.tideDiffers (some a) ka = true) (hdb : s.port.tideDiffers (some b) kb = true) (hab : a ≠ b) :
    Completes (.tideReport (some a) ka (some b) kb) s (fun t =>
      t.port.tides.faultA = true ∧ t.port.tides.faultB = true ∧ t.port.assay.stateB = .retired
      ∧ t.port.joined .a = true) := by
  refine ⟨_, exec_tideReport hp, ?_⟩
  beta_reduce
  rw [State.tideReport_disagree ha hb hda hdb hab, State.finish_port_tides, State.finish_port_assay,
    PortDie.joined_congr (State.finish_port_assay ..)]
  exact State.tideBoth_of_twin (s := s.noteSkew (max ka kb)) htwin

theorem tideReport_agreeing {s : State} {a : BitVec 16} {ka kb : Nat} (hp : s.port.start.aligned = true)
    (ha : s.a.aligned = true) (hb : s.b.aligned = true) (htwin : s.twin)
    (hda : s.port.tideDiffers (some a) ka = true) (hdb : s.port.tideDiffers (some a) kb = true) :
    Completes (.tideReport (some a) ka (some a) kb) s (fun t =>
      t.port.tides.adopted = true ∧ t.port.tides.adoptTo = some (nearCount s.port.tide a) ∧ t.port.joined .a = true
      ∧ t.port.joined .b = true
      ∧ (s.port.recorder.limitOf 0x002 = 65535 → s.port.recorder.frozenAt = none → s.port.recorder.input < 4096 →
          s.a.events = [] → s.b.events = [] → SMap.get 0 s.port.recorder.tideUse 0x002 = 0 →
          s.port.recorder.flushing = none →
          (SMap.get EventRec.empty t.port.recorder.records 0x002).count
            = sat32 ((SMap.get EventRec.empty s.port.recorder.records 0x002).count + 1))) := by
  refine ⟨_, exec_tideReport hp, ?_⟩
  beta_reduce
  have hcontrol := ((s.noteSkew (max ka kb)).port.adopt a).record_control 0x002 (s.noteSkew (max ka kb)).port.tides.maxSkew.toNat
  have htides := (congrArg PortDie.tides hcontrol :)
  have hassay := (congrArg PortDie.assay hcontrol :)
  rw [State.tideReport_agree ha hb hda hdb, State.finish_port_tides, PortDie.joined_congr (State.finish_port_assay ..),
    PortDie.joined_congr (State.finish_port_assay ..)]
  refine ⟨(congrArg TideRegs.adopted htides :), (congrArg TideRegs.adoptTo htides :),
    (PortDie.joined_congr hassay .a).trans htwin.1, (PortDie.joined_congr hassay .b).trans htwin.2, ?_⟩
  intro hlimit hfrozen hinput hea heb huse _
  rw [State.finish_recorder, State.updPort_port, PortDie.record_adopted_recorder]
  · exact Recorder.event_count _ hinput hfrozen (lt_of_eq_of_lt huse (lt_of_lt_of_eq (by decide) hlimit.symm))
  · exact hea
  · exact heb

/-- Settles O19, by which reports differ. -/
theorem tideReportsAreCompared : Obligations.TideReportsAreCompared :=
  ⟨fun _ _ _ _ _ => tideReport_retiresA, fun _ _ _ _ _ => tideReport_retiresB, fun _ _ _ _ => tideReport_agreeing,
    fun _ _ _ _ _ => tideReport_disagreeing⟩

end Sys2Proof.Machine
end

section
/-! The intake of a Kerral message and the change it fixes (O49). -/

namespace Sys2Proof.Machine

/-! ### The rows and the intake (R394, R397) -/

/-- The command of a row of R394 is the message of its code. -/
theorem exec_kerralRow {code : Nat} {f : Kerral → Instr} (h : (code, f) ∈ kerralRows) (m : Kerral) (s : State) :
    exec (f m) s = kerral code m s := by
  simp only [kerralRows, List.mem_cons, Prod.mk.injEq, List.not_mem_nil, or_false] at h
  rcases h with ⟨rfl, rfl⟩ | ⟨rfl, rfl⟩ | ⟨rfl, rfl⟩ | ⟨rfl, rfl⟩ | ⟨rfl, rfl⟩ | ⟨rfl, rfl⟩ | ⟨rfl, rfl⟩ | ⟨rfl, rfl⟩
    | ⟨rfl, rfl⟩ | ⟨rfl, rfl⟩ | ⟨rfl, rfl⟩ | ⟨rfl, rfl⟩ | ⟨rfl, rfl⟩ | ⟨rfl, rfl⟩ | ⟨rfl, rfl⟩ | ⟨rfl, rfl⟩ | ⟨rfl, rfl⟩
    | ⟨rfl, rfl⟩ | ⟨rfl, rfl⟩ | ⟨rfl, rfl⟩ | ⟨rfl, rfl⟩ | ⟨rfl, rfl⟩ | ⟨rfl, rfl⟩ | ⟨rfl, rfl⟩ | ⟨rfl, rfl⟩ | ⟨rfl, rfl⟩
    | ⟨rfl, rfl⟩ | ⟨rfl, rfl⟩ | ⟨rfl, rfl⟩ <;> rfl

/-- The port die has taken in message `x`, and holds no other. -/
def State.taking (s : State) (x : KerralMsg) : State :=
  s.updPort (fun p => { p with nextIntake := p.nextIntake + 1, mgmt := { p.mgmt with counter := x.counter, messages := [x] } })

/-- A message that nothing stands before is taken in and begun. -/
theorem State.kerralIn_of_free {s : State} {m : Kerral} (code : Nat) (hfree : s.mgmtFree m)
    (hcode : runsAlongside code = false) :
    s.kerralIn code m = (s.taking { s.takenMsg code m [] with started := false }).pump 9 := by
  obtain ⟨hup, hlen, hnone⟩ := hfree
  have hlong : ¬ 16384 < 19 + m.rest.length := by omega
  simp [State.kerralIn, State.taking, State.updPort, State.takenMsg, hup, hlong, hnone, hcode]

theorem State.pump_taking (s : State) {x : KerralMsg} (hx : x.result = none) (hstarted : x.started = false) (n : Nat) :
    (s.taking x).pump (n + 1) = ((s.taking x).startMsg x).pump n := by
  simp [State.pump, State.taking, hx, hstarted]

/-- A port die whose one message has begun or is answered starts nothing. -/
theorem State.pump_of_begun {s : State} {x : KerralMsg} (h : s.port.mgmt.messages = [x]) (hx : x.started = true) (n : Nat) :
    s.pump n = s := by
  cases n with
  | zero => rfl
  | succ n =>
    rw [State.pump, h, List.find?_singleton]
    cases hr : x.result <;> simp [hx]

/-! ### The checks (R393) -/

/-- The checks see neither the counter nor the messages, nor whether the message has begun. -/
theorem State.kerralVerdict_taking (s : State) (c : Channel) (code : Nat) (m : Kerral) :
    (s.taking (s.takenMsg code m [])).kerralVerdict c { s.takenMsg code m [] with started := false }
      = s.kerralVerdict c (s.takenMsg code m []) := rfl

/-- Where the channels agree on a message, its verdict is theirs, and the state is as it was (R393). -/
theorem State.agreed_of_agree {s : State} {α : Type} [BEq α] [LawfulBEq α] {f : Channel → α}
    (h : s.port.bothJoined = true → f s.a = f s.b) : s.agreed f = (s, f (s.chan (s.port.joinedChans.headD .a))) := by
  unfold State.agreed
  split
  · next hl =>
    have hboth : s.port.bothJoined = true := by
      have ha : Chan.a ∈ s.port.joinedChans := by simp [hl]
      have hb : Chan.b ∈ s.port.joinedChans := by simp [hl]
      simp only [PortDie.joinedChans, List.mem_filter] at ha hb
      simp [PortDie.bothJoined, ha.2, hb.2]
    simp [h hboth, hl]
  · rfl

/-- Changes of channels leave the port die. -/
theorem State.foldl_upd_port (f : Chan → Channel → Channel) (l : List Chan) (s : State) :
    (l.foldl (fun s ch => s.upd ch (f ch)) s).port = s.port := by
  induction l generalizing s with
  | nil => rfl
  | cons ch l ih => rw [List.foldl_cons, ih, State.upd_port]

@[simp] theorem State.dropCeremony_port (s : State) (x : KerralMsg) (v : Nat) : (s.dropCeremony x v).port = s.port := by
  unfold State.dropCeremony
  extract_lets
  split
  · rfl
  · exact State.foldl_upd_port (fun _ => _) _ s

@[simp] theorem State.verifies_port (s : State) (x : KerralMsg) (v : Nat) : (s.verifies x v).port = s.port := by
  unfold State.verifies
  extract_lets
  split
  · rfl
  · exact State.foldl_upd_port (fun _ => _) _ s

@[simp] theorem State.spendNonce_messages (s : State) (x : KerralMsg) (v : Nat) :
    (s.spendNonce x v).port.mgmt.messages = s.port.mgmt.messages := by
  unfold State.spendNonce
  split <;> rfl

@[simp] theorem State.spendNonce_tide (s : State) (x : KerralMsg) (v : Nat) : (s.spendNonce x v).port.tide = s.port.tide := by
  unfold State.spendNonce
  split <;> rfl

/-- The one message of a port die, changed. -/
theorem State.updMsg_messages {s : State} {x : KerralMsg} (h : s.port.mgmt.messages = [x]) (f : KerralMsg → KerralMsg) :
    (s.updMsg x.counter f).port.mgmt.messages = [f x] := by
  simp [State.updMsg, State.onMgmt, h]

@[simp] theorem PortDie.record_messages (p : PortDie) (code v : Nat) : (p.record code v).mgmt.messages = p.mgmt.messages := by
  obtain ⟨r, n, o, h⟩ := p.record_eq code v
  rw [h]

@[simp] theorem PortDie.record_tide (p : PortDie) (code v : Nat) : (p.record code v).tide = p.tide := by
  obtain ⟨r, n, o, h⟩ := p.record_eq code v
  rw [h]

/-- A message that is refused holds its RESULT, with no effect tide and no data (R393, R399). -/
theorem State.complete_refused {s : State} {x : KerralMsg} (h : s.port.mgmt.messages = [x]) {v : Nat} (hv : v ≠ 0)
    (effect : Nat) (data : Bytes) :
    (s.complete x v effect data).port.mgmt.messages = [{ x with result := some { result := v, effect := 0, data := [] } }] := by
  simp [State.complete, hv, State.updMsg_messages h]

/-- A message that the channels agree on is performed where every check passes, and refused with its verdict otherwise,
on a state that holds it as begun (R393). -/
theorem State.startMsg_taking {s : State} {code : Nat} {m : Kerral} (hagree : s.agreeOn (s.takenMsg code m [])) :
    ∃ u : State, u.port.mgmt.messages = [s.takenMsg code m []] ∧ u.port.tide = s.port.tide
      ∧ (s.taking { s.takenMsg code m [] with started := false }).startMsg { s.takenMsg code m [] with started := false }
        = if s.verdictOf (s.takenMsg code m []) = 0 then u.perform { s.takenMsg code m [] with started := false }
          else u.complete { s.takenMsg code m [] with started := false } (s.verdictOf (s.takenMsg code m [])) 0 [] := by
  generalize hx : s.takenMsg code m [] = x at *
  have hmarked : (s.taking { x with started := false }).updMsg x.counter (fun y => { y with started := true }) = s.taking x := by
    have hbegun : x.started = true := by rw [← hx]; rfl
    cases x
    simp_all [State.taking, State.updMsg, State.onMgmt, State.updPort]
  have hverdict (c : Channel) : (s.taking x).kerralVerdict c { x with started := false } = s.kerralVerdict c x := by
    rw [← hx]; exact s.kerralVerdict_taking c code m
  have hagreed : (s.taking x).agreed (fun c => (s.taking x).kerralVerdict c { x with started := false })
      = (s.taking x, s.verdictOf x) := by
    simp only [hverdict]
    exact State.agreed_of_agree hagree
  generalize hv : s.verdictOf x = v at *
  set s0 := (((s.taking x).spendNonce { x with started := false } v).dropCeremony { x with started := false } v).verifies
    { x with started := false } v with hs0
  have hmessages : s0.port.mgmt.messages = [x] := by simp [hs0, State.taking]
  have htide : s0.port.tide = s.port.tide := by simp [hs0, State.taking]
  simp only [State.startMsg, hmarked, hagreed, ← hs0]
  by_cases hzero : v = 0
  · exact ⟨s0, hmessages, htide, by simp [hzero]⟩
  · simp only [beq_false_of_ne hzero, hzero, Bool.false_eq_true, if_false]
    refine ⟨_, ?_, ?_, rfl⟩ <;> split
    · split <;> simp [hmessages]
    · exact hmessages
    · split <;> simp [htide]
    · exact htide

/-! ### The change that a message fixes (R36, R401) -/

/-- The codes of a message whose change is fixed for its target tide, and of one that is fenced (R401). -/
def changingCodes : List Nat :=
  [0x10, 0x11, 0x20, 0x21, 0x36, 0x37, 0x38, 0x40, 0x41, 0x42, 0x43, 0x44, 0x61, 0x62, 0x63, 0x64]
def fencedCodes : List Nat := [0x30, 0x31, 0x32, 0x33]

theorem runsAlongside_of_changing {code : Nat} (h : code ∈ changingCodes ++ fencedCodes) : runsAlongside code = false := by
  revert code; decide

theorem bodyChange_isSome {code : Nat} (h : code ∈ changingCodes ++ fencedCodes) (b : Bytes) :
    (bodyChange code b).isSome = true := by
  simp only [changingCodes, fencedCodes, List.cons_append, List.nil_append, List.mem_cons, List.not_mem_nil, or_false] at h
  rcases h with rfl | rfl | rfl | rfl | rfl | rfl | rfl | rfl | rfl | rfl | rfl | rfl | rfl | rfl | rfl | rfl | rfl | rfl
    | rfl | rfl <;> rfl

/-- A message whose body alone says its change holds it for the target tide, or for the hold tide where it is fenced. -/
theorem State.perform_of_change (u : State) {x : KerralMsg} (h : x.code ∈ changingCodes ++ fencedCodes) :
    u.perform x = u.updMsg x.counter (fun y => if x.code ∈ fencedCodes
      then { y with change := bodyChange x.code x.msg.body, hold := some (u.port.tide + 2) }
      else { y with change := bodyChange x.code x.msg.body, target := some (u.port.tide + 2) }) := by
  obtain ⟨counter, intakeNo, intakeTide, code, msg, image, started, change, hold, target, noneA, noneB, result⟩ := x
  dsimp only at h
  simp only [changingCodes, fencedCodes, List.cons_append, List.nil_append, List.mem_cons, List.not_mem_nil, or_false] at h
  rcases h with rfl | rfl | rfl | rfl | rfl | rfl | rfl | rfl | rfl | rfl | rfl | rfl | rfl | rfl | rfl | rfl | rfl | rfl
    | rfl | rfl <;> rfl

/-- A message as its checks leave it: with its change and its tide, or refused with the verdict. -/
def KerralMsg.fixed (x : KerralMsg) (v target : Nat) : KerralMsg :=
  if v = 0 then
    if x.code ∈ fencedCodes then { x with change := bodyChange x.code x.msg.body, hold := some target }
    else { x with change := bodyChange x.code x.msg.body, target := some target }
  else { x with result := some { result := v, effect := 0, data := [] } }

theorem KerralMsg.fixed_changing {x : KerralMsg} (h : x.code ∈ changingCodes) (target : Nat) :
    x.fixed 0 target = { x with change := bodyChange x.code x.msg.body, target := some target } := by
  have hplain : ∀ code ∈ changingCodes, code ∉ fencedCodes := by decide
  rw [KerralMsg.fixed, if_pos rfl, if_neg (hplain x.code h)]

theorem KerralMsg.fixed_fenced {x : KerralMsg} (h : x.code ∈ fencedCodes) (target : Nat) :
    x.fixed 0 target = { x with change := bodyChange x.code x.msg.body, hold := some target } := by
  rw [KerralMsg.fixed, if_pos rfl, if_pos h]

theorem KerralMsg.fixed_started (x : KerralMsg) (v target : Nat) : (x.fixed v target).started = x.started := by
  unfold KerralMsg.fixed
  split
  · split <;> rfl
  · rfl

/-- After a changing message that nothing stands before, the port die holds it as its checks leave it. -/
theorem kerral_fixes {s : State} {code : Nat} {f : Kerral → Instr} {m : Kerral} (hrow : (code, f) ∈ kerralRows)
    (hcode : code ∈ changingCodes ++ fencedCodes) (hfree : s.mgmtFree m) (hagree : s.agreeOn (s.takenMsg code m [])) :
    Completes (f m) s (fun t => t.port.mgmt.messages
      = [(s.takenMsg code m []).fixed (s.verdictOf (s.takenMsg code m [])) (s.port.tide + 2)]) := by
  refine ⟨_, exec_kerralRow hrow m s, ?_⟩
  beta_reduce
  rw [State.finish_mgmt_messages, State.kerralIn_of_free code hfree (runsAlongside_of_changing hcode),
    State.pump_taking s rfl rfl]
  obtain ⟨u, hmessages, htide, hstart⟩ := State.startMsg_taking hagree
  rw [hstart]
  have hdone : (if s.verdictOf (s.takenMsg code m []) = 0 then u.perform { s.takenMsg code m [] with started := false }
      else u.complete { s.takenMsg code m [] with started := false } (s.verdictOf (s.takenMsg code m [])) 0 []).port.mgmt.messages
      = [(s.takenMsg code m []).fixed (s.verdictOf (s.takenMsg code m [])) (s.port.tide + 2)] := by
    unfold KerralMsg.fixed
    split
    · rw [State.perform_of_change u hcode, ← htide]
      exact State.updMsg_messages hmessages _
    · next hv => exact State.complete_refused hmessages hv 0 []
  rw [State.pump_of_begun hdone (KerralMsg.fixed_started ..), hdone]

/-- Settles O49: the two kinds of message, by what `fixed` gives them. -/
theorem kerralChangesAreFixedForTheirTide : Obligations.KerralChangesAreFixedForTheirTide := by
  refine ⟨fun s code f m hrow hcode hfree hagree hv => ?_, fun s code f m v hrow hcode hfree hagree hv => ?_⟩
  · have hmem : code ∈ changingCodes ++ fencedCodes := List.mem_append_left _ hcode
    obtain ⟨t, hstep, hmessages⟩ := kerral_fixes hrow hmem hfree hagree
    refine ⟨t, hstep, _, by rw [hmessages]; exact List.mem_singleton_self _, ?_⟩
    rw [hv, KerralMsg.fixed_changing hcode]
    exact ⟨rfl, rfl, bodyChange_isSome hmem _, rfl, rfl, rfl⟩
  · have hmem : code ∈ changingCodes ++ fencedCodes := List.mem_append_right _ hcode
    obtain ⟨t, hstep, hmessages⟩ := kerral_fixes hrow hmem hfree hagree
    refine ⟨t, hstep, _, by rw [hmessages]; exact List.mem_singleton_self _, ?_⟩
    rw [← hv]
    by_cases hzero : v = 0
    · rw [if_pos hzero, hzero, KerralMsg.fixed_fenced hcode]
      exact ⟨rfl, rfl, bodyChange_isSome hmem _, rfl, rfl, rfl⟩
    · rw [if_neg hzero, KerralMsg.fixed, if_neg hzero]
      exact ⟨rfl, rfl⟩

end Sys2Proof.Machine
end

section
/-! Counter mode as the exclusive-or with a key stream, and GCM undone under the same key (R191). -/

namespace Sys2Proof

theorem xorB_append_right (d e k : Bytes) : xorB d (e ++ k) = xorB (d.take e.length) e ++ xorB (d.drop e.length) k := by
  induction e generalizing d with
  | nil => simp [xorB]
  | cons y e ih =>
    cases d with
    | nil => simp [xorB]
    | cons x d => simpa [xorB] using ih d

/-- `m` blocks of the key stream, from block `i` on. -/
def keyStream (c : BlockCipher) (nxt : Bytes → Nat → Bytes) (b : Bytes) (i m : Nat) : Bytes :=
  (List.range' i m).flatMap (fun j => c.enc (nxt b j))

theorem keyStream_succ (c : BlockCipher) (nxt : Bytes → Nat → Bytes) (b : Bytes) (i m : Nat) :
    keyStream c nxt b i (m + 1) = c.enc (nxt b i) ++ keyStream c nxt b (i + 1) m := rfl

theorem keyStream_length {c : BlockCipher} (hc : ∀ x, (c.enc x).length = c.size) (nxt : Bytes → Nat → Bytes) (b : Bytes)
    (i m : Nat) : (keyStream c nxt b i m).length = c.size * m := by
  induction m generalizing i with
  | zero => rfl
  | succ m ih => rw [keyStream_succ, List.length_append, hc, ih, Nat.mul_succ, Nat.add_comm]

/-- The number of chunks of a string is that of any string of its length. -/
theorem chunksAux_length_congr (n f : Nat) {d e : Bytes} (h : d.length = e.length) :
    (chunksAux n f d).length = (chunksAux n f e).length := by
  induction f generalizing d e with
  | zero => rfl
  | succ f ih =>
    have hempty : d.isEmpty = e.isEmpty := by cases d <;> cases e <;> simp_all
    have htail : (d.drop n).length = (e.drop n).length := by simp [h]
    simp only [chunksAux, hempty]
    split
    · rfl
    · simp [ih htail]

/-- A string that `f` chunks hold fits in the blocks of its chunks. -/
theorem length_le_chunksAux (n f : Nat) {d : Bytes} (h : d.length ≤ n * f) : d.length ≤ n * (chunksAux n f d).length := by
  induction f generalizing d with
  | zero => simpa [chunksAux] using h
  | succ f ih =>
    have htail := ih (d := d.drop n) (by simp only [List.length_drop]; rw [Nat.mul_succ] at h; omega)
    simp only [List.length_drop] at htail
    simp only [chunksAux]
    split
    · simp_all
    · rw [List.length_cons, Nat.mul_succ]; omega

/-- Counter mode over chunks, from block `i` on, is the exclusive-or with the key stream. -/
theorem zip_chunksAux_eq_xorB {c : BlockCipher} (hc : ∀ x, (c.enc x).length = c.size) (nxt : Bytes → Nat → Bytes) (b : Bytes)
    (f i : Nat) (d : Bytes) :
    (List.zip (List.range' i (chunksAux c.size f d).length) (chunksAux c.size f d)).flatMap (fun p => xorB p.2 (c.enc (nxt b p.1)))
      = xorB (d.take (c.size * f)) (keyStream c nxt b i (chunksAux c.size f d).length) := by
  induction f generalizing i d with
  | zero => simp [chunksAux, xorB]
  | succ f ih =>
    simp only [chunksAux]
    split
    · next he => simp [List.isEmpty_iff.1 he, xorB]
    · rw [List.length_cons, keyStream_succ, xorB_append_right, hc, List.take_take, List.drop_take,
        Nat.mul_succ, Nat.add_sub_cancel, Nat.min_eq_left (Nat.le_add_left ..), ← ih]
      rfl

/-- Counter mode is the exclusive-or with the key stream. -/
theorem ctrRun_eq_xorB {c : BlockCipher} (hc : ∀ x, (c.enc x).length = c.size) (hpos : 0 < c.size)
    (nxt : Bytes → Nat → Bytes) (b d : Bytes) :
    ctrRun c nxt b d = xorB d (keyStream c nxt b 0 (chunks c.size d).length) := by
  have hfuel : d.length ≤ c.size * d.length := Nat.le_mul_of_pos_left _ hpos
  rw [ctrRun, List.range_eq_range']
  refine (zip_chunksAux_eq_xorB hc nxt b d.length 0 d).trans ?_
  rw [List.take_of_length_le hfuel]
  rfl

/-- Counter mode undoes itself. -/
theorem ctrRun_ctrRun_of_cipher {c : BlockCipher} (hc : ∀ x, (c.enc x).length = c.size) (hpos : 0 < c.size)
    (nxt : Bytes → Nat → Bytes) (b d : Bytes) : ctrRun c nxt b (ctrRun c nxt b d) = d := by
  have hfit : d.length ≤ (keyStream c nxt b 0 (chunks c.size d).length).length := by
    rw [keyStream_length hc]
    exact length_le_chunksAux c.size d.length (Nat.le_mul_of_pos_left _ hpos)
  have hlen : (ctrRun c nxt b d).length = d.length := by
    rw [ctrRun_eq_xorB hc hpos, xorB_length, Nat.min_eq_left hfit]
  have hchunks : (chunks c.size (ctrRun c nxt b d)).length = (chunks c.size d).length := by
    rw [chunks, hlen]; exact chunksAux_length_congr _ _ hlen
  rw [ctrRun_eq_xorB hc hpos nxt b (ctrRun c nxt b d), hchunks, ctrRun_eq_xorB hc hpos, xorB_xorB _ _ hfit]

/-- What GCM seals under a key of 32 bytes opens under it. -/
theorem gcmDec_gcmEnc {key : Bytes} (hkey : key.length = 32) (iv aad pt : Bytes) :
    gcmDec key iv aad (gcmEnc key iv aad pt).1 (gcmEnc key iv aad pt).2 = some pt := by
  have hblock (x : Bytes) : ((aesCipher key).enc x).length = (aesCipher key).size := aesEnc_length key x hkey
  simp only [gcmDec, gcmEnc, if_true]
  rw [ctrRun_ctrRun_of_cipher hblock (Nat.succ_pos 15)]

end Sys2Proof
end
section
/-! What places a channel in time and in its session, and that the work of its blocks leaves it as it is. -/

namespace Sys2Proof.Machine

/-- What places a channel in time and in its session: its count, its offset, whether it is aligned, its link and the
mark of a retransmission. -/
def Channel.ties (c : Channel) : Nat × Nat × Bool × Link × Bool :=
  (c.tide, c.offset, c.aligned, c.link, c.sluiceRetry)

@[simp] theorem Channel.ties_eta (c : Channel) : (c.tide, c.offset, c.aligned, c.link, c.sluiceRetry) = c.ties := rfl

@[simp] theorem Channel.ties_mk {side tide offset aligned alignAt start flash fuses island tamper thermal health records
    journal refill sluice sluiceRetry link sched skim rakes digests pks keys rng faults events writersDone resetList
    resetting fence draining resetOrder} :
    (Channel.mk side tide offset aligned alignAt start flash fuses island tamper thermal health records
      journal refill sluice sluiceRetry link sched skim rakes digests pks keys rng faults events writersDone resetList
      resetting fence draining resetOrder).ties = (tide, offset, aligned, link, sluiceRetry) := rfl

@[simp] theorem Channel.ties_ite (b : Prop) [Decidable b] (c d : Channel) :
    (if b then c else d).ties = if b then c.ties else d.ties :=
  apply_ite ..

@[simp] theorem Channel.ties_foldl {α : Type} {f : Channel → α → Channel}
    (h : ∀ c x, (f c x).ties = c.ties) (l : List α) (c : Channel) : (l.foldl f c).ties = c.ties := by
  induction l generalizing c with
  | nil => rfl
  | cons x l ih => rw [List.foldl_cons, ih, h]

@[simp] theorem Channel.sync_ties (c : Channel) : c.sync.ties = c.ties := rfl

@[simp] theorem Channel.event_ties (c : Channel) (ch : Chan) (k v : Nat) : (c.event ch k v).ties = c.ties := rfl

@[simp] theorem Channel.clearHealth_ties (c : Channel) (bit : Nat) : (c.clearHealth bit).ties = c.ties := rfl

@[simp] theorem Channel.withEbb_ties (c : Channel) (e : Bool) : (c.withEbb e).ties = c.ties := rfl

@[simp] theorem Channel.mapSched_ties (c : Channel) (f : SchedRegs → SchedRegs) : (c.mapSched f).ties = c.ties := rfl

@[simp] theorem Channel.mapSkim_ties (c : Channel) (f : SkimRegs → SkimRegs) : (c.mapSkim f).ties = c.ties := rfl

@[simp] theorem Channel.releaseRetained_ties (c : Channel) : c.releaseRetained.ties = c.ties := rfl

@[simp] theorem Channel.journalWrite_ties (c : Channel) (n object : Nat) (image : Image) :
    (c.journalWrite n object image).ties = c.ties := rfl

@[simp] theorem Channel.bindSlot_ties (c : Channel) (x : Item) (slot : Nat) : (c.bindSlot x slot).1.ties = c.ties := by
  simp only [Channel.bindSlot]
  (repeat' split) <;> simp

@[simp] theorem Channel.install_ties (c : Channel) (intakeNo slot : Nat) (h : KeyHeader) (material : Bytes) :
    (c.install intakeNo slot h material).ties = c.ties := by
  unfold Channel.install
  extract_lets
  exact (Channel.releaseRetained_ties _).trans (Channel.journalWrite_ties _ _ _ _)

@[simp] theorem Channel.killStreams_ties (c : Channel) (n : Nat) (f : Nat → Stream → Bool) :
    (c.killStreams n f).ties = c.ties := by
  simp only [Channel.killStreams]
  exact Channel.ties_foldl (fun _ _ => by rfl) _ _

@[simp] theorem Channel.killStream_ties (c : Channel) (n i : Nat) : (c.killStream n i).ties = c.ties := rfl

@[simp] theorem Channel.destroySlot_ties (c : Channel) (intakeNo slot : Nat) :
    (c.destroySlot intakeNo slot).ties = c.ties := by simp [Channel.destroySlot]

@[simp] theorem Channel.put_ties (c : Channel) (x : Item) (slot : Nat) (a : Attr) (cls : BitVec 2) (alg : Nat)
    (key : Bytes) : (c.put x slot a cls alg key).1.ties = c.ties := c.install_ties ..

@[simp] theorem runKbImport_ties (c : Channel) (x : Item) (ks : List Loaded) :
    (runKbImport c x ks).1.ties = c.ties := by
  simp only [runKbImport]
  (repeat' split) <;> simp

@[simp] theorem runKeyUnwrap_ties (c : Channel) (x : Item) (ks : List Loaded) :
    (runKeyUnwrap c x ks).1.ties = c.ties := by
  simp only [runKeyUnwrap]
  (repeat' split) <;> simp

@[simp] theorem runTransportImport_ties (c : Channel) (x : Item) (ks : List Loaded) :
    (runTransportImport c x ks).1.ties = c.ties := by
  simp only [runTransportImport]
  (repeat' split) <;> simp

@[simp] theorem Channel.endSession_ties (c : Channel) (n slot : Nat) : (c.endSession n slot).ties = c.ties := rfl

@[simp] theorem Channel.holdSession_ties (c : Channel) (n : Nat) (s : Session) :
    (c.holdSession n s).ties = c.ties := rfl

@[simp] theorem runCompBegin_ties (c : Channel) (x : Item) : (runCompBegin c x).1.ties = c.ties := by
  simp only [runCompBegin]
  (repeat' split) <;> simp

@[simp] theorem runCompAdd_ties (c : Channel) (x : Item) : (runCompAdd c x).1.ties = c.ties := by
  simp only [runCompAdd]
  (repeat' split) <;> simp

@[simp] theorem runCompAbandon_ties (c : Channel) (x : Item) : (runCompAbandon c x).1.ties = c.ties := by
  simp only [runCompAbandon]
  (repeat' split) <;> simp

@[simp] theorem runGenerate_ties (c : Channel) (x : Item) : (runGenerate c x).1.ties = c.ties := by
  simp only [runGenerate]
  (repeat' split) <;> simp

@[simp] theorem runRestrict_ties (c : Channel) (x : Item) : (runRestrict c x).1.ties = c.ties := by
  simp only [runRestrict]
  (repeat' split) <;> simp

@[simp] theorem runDestroy_ties (c : Channel) (x : Item) : (runDestroy c x).1.ties = c.ties := by simp [runDestroy]

@[simp] theorem Channel.writeBasin_ties (c : Channel) (n basin : Nat) (b : Basin) (entry index : List (Nat × Nat)) :
    (c.writeBasin n basin b entry index).ties = c.ties := rfl

@[simp] theorem runTokenise_ties (c : Channel) (x : Item) : (runTokenise c x).1.ties = c.ties := by
  simp only [runTokenise]
  (repeat' split) <;> simp

@[simp] theorem runVaultDelete_ties (c : Channel) (x : Item) : (runVaultDelete c x).1.ties = c.ties := by
  simp only [runVaultDelete]
  (repeat' split) <;> simp

@[simp] theorem Channel.setStream_ties (c : Channel) (intakeNo n : Nat) (s : Stream) :
    (c.setStream intakeNo n s).ties = c.ties := rfl

@[simp] theorem Channel.dropStream_ties (c : Channel) (intakeNo n : Nat) (s : Stream) (after : Stream) :
    (c.dropStream intakeNo n s after).ties = c.ties := rfl

@[simp] theorem runStreamOpen_ties (c : Channel) (x : Item) (ks : List Loaded) :
    (runStreamOpen c x ks).1.ties = c.ties := by
  simp only [runStreamOpen]
  (repeat' split) <;> simp

@[simp] theorem runStreamUpdate_ties (c : Channel) (x : Item) : (runStreamUpdate c x).1.ties = c.ties := by
  simp only [runStreamUpdate]
  (repeat' split) <;> simp

@[simp] theorem runStreamFinal_ties (c : Channel) (x : Item) : (runStreamFinal c x).1.ties = c.ties := by
  simp only [runStreamFinal]
  (repeat' split) <;> simp

@[simp] theorem runStreamAbandon_ties (c : Channel) (x : Item) : (runStreamAbandon c x).1.ties = c.ties := by
  simp only [runStreamAbandon]
  (repeat' split) <;> simp

@[simp] theorem runPk_ties (c : Channel) (x : Item) (ks : List Loaded) : (runPk c x ks).1.ties = c.ties := by
  unfold runPk
  extract_lets p k alg slot install
  -- Through `install`, so that the results of the operations are not compared.
  have hput (h : KeyHeader) (key : Bytes) : (c.install x.pkt.intakeNo slot h key).ties = c.ties := c.install_ties ..
  split
  · rfl
  · rfl
  · exact hput _ _
  · split
    · rfl
    · exact hput _ _
  · exact hput _ _
  · exact hput _ _
  · rfl
  · exact hput _ _

@[simp] theorem Channel.onSched_ties (c : Channel) (f : Sched → Sched) : (c.onSched f).ties = c.ties := rfl

@[simp] theorem Channel.setItem_ties (c : Channel) (x : Item) : (c.setItem x).ties = c.ties := rfl

@[simp] theorem Channel.trace_ties (c : Channel) (x : Item) (decision unit : Nat) (code due cycles : Nat)
    (exempt : Bool) : (c.trace x decision unit code due cycles exempt).ties = c.ties := rfl

@[simp] theorem Channel.produceIn_ties (c : Channel) (x : Item) (ph : Phase) (producer at' : Nat) (r : Res) :
    (c.produceIn x ph producer at' r).ties = c.ties := rfl

@[simp] theorem Channel.produce_ties (c : Channel) (x : Item) (producer at' : Nat) (r : Res) :
    (c.produce x producer at' r).ties = c.ties := rfl

@[simp] theorem Channel.schedPort_ties (c : Channel) (x : Item) (r : Res) : (c.schedPort x r).ties = c.ties := rfl

@[simp] theorem Channel.popReaders_ties (c : Channel) : c.popReaders.ties = c.ties := rfl

@[simp] theorem Channel.bindAll_ties (c : Channel) (id : Nat) : (c.bindAll id).ties = c.ties := by
  unfold Channel.bindAll
  split
  · rfl
  · exact Channel.ties_foldl (fun c k => by (repeat' split) <;> simp) _ _

@[simp] theorem Channel.settle_ties (c : Channel) : c.settle.ties = c.ties := by simp [Channel.settle]

@[simp] theorem Channel.leaveFlows_ties (c : Channel) (id : Nat) : (c.leaveFlows id).ties = c.ties := rfl

@[simp] theorem Channel.queueWriter_ties (c : Channel) (slot : Nat) :
    (c.queueWriter slot).ties = c.ties := by simp [Channel.queueWriter]

@[simp] theorem Channel.dropWriter_ties (c : Channel) (slot : Nat) :
    (c.dropWriter slot).ties = c.ties := by simp [Channel.dropWriter]

@[simp] theorem Channel.preempt_ties (c : Channel) (k : Nat) (y : Item) (urgent : Bool) :
    (c.preempt k y urgent).ties = c.ties := by simp [Channel.preempt]

@[simp] theorem Channel.enterAt_ties (c : Channel) (x : Item) (head : Bool) : (c.enterAt x head).ties = c.ties := by
  simp only [Channel.enterAt]
  (repeat' split) <;> simp

@[simp] theorem Channel.enter_ties (c : Channel) (x : Item) : (c.enter x).ties = c.ties := by simp [Channel.enter]

@[simp] theorem Channel.landSaves_ties (c : Channel) : c.landSaves.ties = c.ties := by
  simp only [Channel.landSaves]
  exact Channel.ties_foldl (fun c x => by (repeat' split) <;> simp) _ _

@[simp] theorem Channel.stop_ties (c : Channel) (x : Item) : (c.stop x).ties = c.ties := rfl

@[simp] theorem Channel.abort_ties (c : Channel) (x : Item) (r : Res) : (c.abort x r).ties = c.ties := by
  unfold Channel.abort
  repeat' split <;> simp

@[simp] theorem Channel.releaseEpochs_ties (c : Channel) : c.releaseEpochs.ties = c.ties := rfl

@[simp] theorem Channel.retireItem_ties (c : Channel) (id : Nat) :
    (c.retireItem id).ties = c.ties := by simp [Channel.retireItem]

@[simp] theorem Channel.removeItem_ties (c : Channel) (x : Item) : (c.removeItem x).ties = c.ties := by
  simp only [Channel.removeItem]
  (repeat' split) <;> simp

@[simp] theorem Channel.setUse_ties (c : Channel) (halved : Bool) (u : TideUse) :
    (c.setUse halved u).ties = c.ties := rfl

@[simp] theorem Channel.openTide_ties (c : Channel) (p : PortDie) : (c.openTide p).ties = c.ties := by
  unfold Channel.openTide
  extract_lets open_ d
  have hopen (c : Channel) (h : Bool) : (open_ c h).ties = c.ties := c.setUse_ties ..
  exact (hopen _ true).trans (hopen c false)

@[simp] theorem Channel.book_ties (c : Channel) (halved : Bool) (u : TideUse) (charge j : Nat) :
    (c.book halved u charge j).ties = c.ties := rfl

@[simp] theorem Channel.noteRefusal_ties (c : Channel) (p : PortDie) (x : Item) (detail : BitVec 4) :
    (c.noteRefusal p x detail).ties = c.ties := by simp [Channel.noteRefusal]

@[simp] theorem Channel.charge_ties (c : Channel) (p : PortDie) (x : Item) : (c.charge p x).ties = c.ties := rfl

@[simp] theorem Channel.countDraw_ties (c : Channel) (x : Item) :
    (c.countDraw x).ties = c.ties := by simp [Channel.countDraw]

@[simp] theorem Channel.maskDraw_ties (c : Channel) (x : Item) : (c.maskDraw x).1.ties = c.ties := by
  simp only [Channel.maskDraw]
  (repeat' split) <;> simp

@[simp] theorem Channel.drawSkim_ties (c : Channel) (x : Item) : (c.drawSkim x).1.ties = c.ties := by
  unfold Channel.drawSkim
  split <;> simp

@[simp] theorem Channel.accepted_ties (c : Channel) (p : PortDie) (x : Item) : (c.accepted p x).1.ties = c.ties := by
  simp only [Channel.accepted]
  (repeat' split) <;> simp

@[simp] theorem Channel.run_ties (c : Channel) (x : Item) (ks : List Loaded) : (c.run x ks).1.ties = c.ties := by
  unfold Channel.run
  split <;> simp

@[simp] theorem Channel.noteResult_ties (c : Channel) (x : Item) (r : Res) :
    (c.noteResult x r).ties = c.ties := by simp [Channel.noteResult]

@[simp] theorem Channel.countHits_ties (c : Channel) (x : Item) :
    (c.countHits x).ties = c.ties := by simp [Channel.countHits]

@[simp] theorem Channel.mapPair_ties (c : Channel) (j : Nat) (f : Pair → Pair) : (c.mapPair j f).ties = c.ties := rfl

@[simp] theorem Channel.awaitFill_ties (c : Channel) (x : Item) : (c.awaitFill x).ties = c.ties := by
  unfold Channel.awaitFill
  split <;> simp

@[simp] theorem Channel.laneTake_ties (c : Channel) (x : Item) : (c.laneTake x).ties = c.ties := by
  unfold Channel.laneTake
  repeat' split <;> simp

@[simp] theorem Channel.laneJoin_ties (c : Channel) (x : Item) : (c.laneJoin x).ties = c.ties := by
  unfold Channel.laneJoin
  repeat' split <;> simp

@[simp] theorem Channel.withdraw_ties (c : Channel) (slot : Nat) (x : Item) :
    (c.withdraw slot x).ties = c.ties := by simp [Channel.withdraw]

@[simp] theorem Channel.withdrawUsers_ties (c : Channel) (x : Item) :
    (c.withdrawUsers x).ties = c.ties := by simp [Channel.withdrawUsers]

@[simp] theorem Channel.enterStarted_ties (c : Channel) (x : Item) :
    (c.enterStarted x).ties = c.ties := by simp [Channel.enterStarted]

@[simp] theorem Channel.startItem_ties (c : Channel) (x : Item) (waited : Bool) :
    (c.startItem x waited).ties = c.ties := by simp [Channel.startItem]

@[simp] theorem Channel.tryStart_ties (c : Channel) (id : Nat) (waited : Bool) :
    (c.tryStart id waited).ties = c.ties := by
  unfold Channel.tryStart
  split <;> simp

@[simp] theorem Channel.lookAhead_ties (c : Channel) (id : Nat) : (c.lookAhead id).ties = c.ties := by
  simp only [Channel.lookAhead]
  (repeat' split) <;> simp

@[simp] theorem Channel.refuse_ties (c : Channel) (x : Item) (code : Code) (detail : BitVec 4) :
    (c.refuse x code detail).ties = c.ties := by simp [Channel.refuse]

@[simp] theorem Channel.releaseOne_ties (c : Channel) (p : PortDie) (x : Item) : (c.releaseOne p x).ties = c.ties := by
  unfold Channel.releaseOne
  repeat' split <;> simp

@[simp] theorem Channel.releaseDue_ties (c : Channel) (p : PortDie) : (c.releaseDue p).ties = c.ties := by
  simp only [Channel.releaseDue]
  exact Channel.ties_foldl (fun c x => by (repeat' split) <;> simp) _ _

@[simp] theorem Channel.timeOut_ties (c : Channel) (x : Item) : (c.timeOut x).ties = c.ties := by simp [Channel.timeOut]

@[simp] theorem Channel.promote_ties (c : Channel) (x : Item) : (c.promote x).ties = c.ties := by
  unfold Channel.promote
  repeat' split <;> simp

@[simp] theorem Channel.miss_ties (c : Channel) (ch : Chan) (x : Item) :
    (c.miss ch x).ties = c.ties := by simp [Channel.miss]

@[simp] theorem Channel.respondL2_ties (c : Channel) (n : Nat) :
    (c.respondL2 n).ties = c.ties := by
  refine (Channel.ties_foldl (fun c x => c.abort_ties x _) _ _).trans ?_
  refine (Channel.killStreams_ties _ _ _).trans ?_
  exact Channel.ties_foldl (fun _ _ => by rfl) _ _

@[simp] theorem Channel.eraseVolatile_ties (c : Channel) (n : Nat) :
    (c.eraseVolatile n).ties = c.ties := by
  refine (Channel.ties_foldl (fun _ _ => by rfl) _ _).trans ?_
  exact Channel.killStreams_ties _ _ _

@[simp] theorem Channel.respondL3_ties (c : Channel) (n : Nat) :
    (c.respondL3 n).ties = c.ties := by simp [Channel.respondL3]

@[simp] theorem Channel.respondL4_ties (c : Channel) : c.respondL4.ties = c.ties := by simp [Channel.respondL4]

@[simp] theorem Channel.respondUpTo_ties (c : Channel) (n done level : Nat) :
    (c.respondUpTo n done level).ties = c.ties := by simp [Channel.respondUpTo]

@[simp] theorem Channel.beginResponse_ties (c : Channel) (level : Nat) (union : BitVec 23) :
    (c.beginResponse level union).ties = c.ties := rfl

@[simp] theorem Channel.setEvidence_ties (c : Channel) (s : BitVec 23) : (c.setEvidence s).ties = c.ties := by
  simp only [Channel.setEvidence]
  exact Channel.ties_foldl (fun c x => by rfl) _ _

@[simp] theorem Channel.mapPk_ties (c : Channel) (n : Nat) (f : PkEngine → PkEngine) :
    (c.mapPk n f).ties = c.ties := rfl

@[simp] theorem Channel.usersDrained_ties (c : Channel) (id : Nat) : (c.usersDrained id).ties = c.ties := by
  unfold Channel.usersDrained
  repeat' split <;> simp

@[simp] theorem Channel.applyVerdict_ties (c : Channel) (n : Nat) (expire : Bool) :
    (c.applyVerdict n expire).ties = c.ties := by
  unfold Channel.applyVerdict
  repeat' split <;> simp

@[simp] theorem Channel.exhaustMark_ties (c : Channel) (intakeNo slot : Nat) :
    (c.exhaustMark intakeNo slot).ties = c.ties := by
  unfold Channel.exhaustMark
  split <;> simp

@[simp] theorem Channel.mapRng_ties (c : Channel) (f : Rng → Rng) : (c.mapRng f).ties = c.ties := rfl

@[simp] theorem Channel.renewalDue_ties (c : Channel) : c.renewalDue.ties = c.ties := by simp [Channel.renewalDue]

@[simp] theorem Channel.giveVr_ties (c : Channel) (intake number : Nat) (seed : Bytes) :
    (c.giveVr intake number seed).ties = c.ties := by simp [Channel.giveVr]

@[simp] theorem Channel.epochEffect_ties (c : Channel) (intake : Nat) : (c.epochEffect intake).ties = c.ties := by
  unfold Channel.epochEffect
  (repeat' split) <;> try rfl
  exact (Channel.ties_foldl (fun c x => by split <;> simp) _ _).trans (by simp)

@[simp] theorem Channel.mapRecords_ties (c : Channel) (f : Records → Records) : (c.mapRecords f).ties = c.ties := rfl

@[simp] theorem Channel.mapFlash_ties (c : Channel) (f : Flash → Flash) : (c.mapFlash f).ties = c.ties := rfl

@[simp] theorem Channel.clearAlarm_ties (c : Channel) (mask : BitVec 23) : (c.clearAlarm mask).ties = c.ties := rfl

@[simp] theorem Channel.putMgmt_ties (c : Channel) (n fn slot : Nat) (a : Attr) (cls : BitVec 2) (alg : Nat)
    (key : Bytes) : (c.putMgmt n fn slot a cls alg key).1.ties = c.ties := c.install_ties ..

@[simp] theorem Channel.refusedChange_ties (c : Channel) : (c.refusedChange).1.ties = c.ties := rfl

@[simp] theorem Channel.combineCeremony_ties (c : Channel) (n : Nat) (s : Session) (parts : List Bytes) :
    (c.combineCeremony n s parts).1.ties = c.ties := by
  simp only [Channel.combineCeremony]
  (repeat' split) <;> simp

@[simp] theorem Channel.addComponent_ties (c : Channel) (n slot index officer : Nat) (kcv part : Bytes) :
    (c.addComponent n slot index officer kcv part).1.ties = c.ties := by
  simp only [Channel.addComponent]
  (repeat' split) <;> simp

@[simp] theorem Channel.importBlock_ties (c : Channel) (n fn kbpk target : Nat) (replace : Bool) (block : Bytes) :
    (c.importBlock n fn kbpk target replace block).1.ties = c.ties := by
  simp only [Channel.importBlock]
  (repeat' split) <;> simp

@[simp] theorem Channel.change_ties (c : Channel) (n : Nat) (x : Change) : (c.change n x).1.ties = c.ties := by
  unfold Channel.change
  split <;> simp

@[simp] theorem Channel.takeChange_ties (c : Channel) (n : Nat) (x : Change) : (c.takeChange n x).1.ties = c.ties := by
  unfold Channel.takeChange
  split <;> simp

@[simp] theorem Channel.provision_ties (c : Channel) (n : Nat) (bk : Bytes) (officers : List (Nat × Officer)) :
    (c.provision n bk officers).ties = c.ties := rfl

@[simp] theorem Channel.verifyOn_ties (c : Channel) (alg : Nat) : (c.verifyOn alg).ties = c.ties := rfl

@[simp] theorem Channel.liftFence_ties (c : Channel) : c.liftFence.ties = c.ties := by simp [Channel.liftFence]

@[simp] theorem Channel.keepKeys_ties (c : Channel) (f : Nat) : (c.keepKeys f).ties = c.ties := rfl

@[simp] theorem Channel.wipeFn_ties (c : Channel) (f intakeNo : Nat) : (c.wipeFn f intakeNo).ties = c.ties := by
  simp only [Channel.wipeFn]
  exact Channel.ties_foldl (fun c x => by rfl) _ _

@[simp] theorem Channel.holdStream_ties (c : Channel) (x : Item) : (c.holdStream x).ties = c.ties := by
  unfold Channel.holdStream
  split <;> simp

@[simp] theorem Channel.resetR_ties (c : Channel) (fns : List Nat) (n : Nat) : (c.resetR fns n).ties = c.ties := by
  refine (Channel.ties_foldl (fun c f => c.wipeFn_ties f n) fns _).trans ?_
  refine (Channel.ties_foldl (fun c x => by split <;> simp) _ _).trans ?_
  refine (Channel.ties_foldl (fun c x => by split <;> simp) _ _).trans ?_
  simp

@[simp] theorem Channel.resetV_ties (c : Channel) (fns : List Nat) (n : Nat) (union : List Nat) :
    (c.resetV fns n union).ties = c.ties := by
  refine (Channel.settle_ties _).trans ?_
  refine (Channel.ties_foldl (fun c x => by split <;> simp) _ _).trans ?_
  simp

@[simp] theorem Channel.applySlot_ties (c : Channel) (recs : List (Nat × Bytes)) :
    (c.applySlot recs).ties = c.ties := by simp [Channel.applySlot]

@[simp] theorem Channel.applyImage_ties (c : Channel) (i : Image) : (c.applyImage i).ties = c.ties := by
  unfold Channel.applyImage
  split <;> simp

@[simp] theorem Channel.writeCheckpoint_ties (c : Channel) (low : Nat) : (c.writeCheckpoint low).ties = c.ties := rfl

@[simp] theorem Channel.startCheckpoint_ties (c : Channel) : c.startCheckpoint.ties = c.ties := rfl

@[simp] theorem Channel.toStep_ties (c : Channel) (v : StartStep) : (c.toStep v).ties = c.ties := rfl

@[simp] theorem Channel.takeDelta_ties (c : Channel) (d : Delta) :
    (c.takeDelta d).ties = c.ties := by simp [Channel.takeDelta]

@[simp] theorem Channel.takeRetained_ties (c src : Channel) : (c.takeRetained src).ties = c.ties := rfl

@[simp] theorem Channel.takeEpochs_ties (c src : Channel) : (c.takeEpochs src).ties = c.ties := rfl

@[simp] theorem Channel.loadKept_ties (c : Channel) (k : Kept) : (c.loadKept k).ties = c.ties := rfl

@[simp] theorem Channel.placePlaceholders_ties (c : Channel) (l : List (Nat × Place)) :
    (c.placePlaceholders l).ties = c.ties := rfl

@[simp] theorem Channel.programLevels_ties (c : Channel) :
    c.programLevels.ties = c.ties := by simp [Channel.programLevels]

@[simp] theorem Channel.joinFirst_ties (c : Channel) (k : Kept) (wipes : List Nat) :
    (c.joinFirst k wipes).ties = c.ties := by simp [Channel.joinFirst]

@[simp] theorem Channel.noteWaits_ties (c : Channel) (p : PortDie) : (c.noteWaits p).ties = c.ties := rfl

@[simp] theorem Channel.schedCycle_ties (c : Channel) : c.schedCycle.ties = c.ties := by simp [Channel.schedCycle]

@[simp] theorem Channel.sweep_ties (c : Channel) (ch : Chan) : (c.sweep ch).ties = c.ties := by
  simp only [Channel.sweep]
  exact (Channel.ties_foldl (fun c x => by (repeat' split) <;> simp) _ _).trans
    (Channel.ties_foldl (fun c x => by (repeat' split) <;> simp) _ _)

@[simp] theorem Channel.takeEbb_ties (c : Channel) : c.takeEbb.ties = c.ties := rfl

@[simp] theorem Channel.reload_ties (c : Channel) (p : PortDie) : (c.reload p).ties = c.ties := by simp [Channel.reload]

@[simp] theorem Channel.exhaustDue_ties (c : Channel) (p : PortDie) :
    (c.exhaustDue p).ties = c.ties := by simp [Channel.exhaustDue]

@[simp] theorem Channel.boundary_ties (c : Channel) (p : PortDie) :
    (c.boundary p).ties = c.ties := by simp [Channel.boundary]

@[simp] theorem Channel.report_ties (c : Channel) : c.report.ties = c.ties := by simp [Channel.report]

@[simp] theorem Channel.clearPreempts_ties (c : Channel) : c.clearPreempts.ties = c.ties := rfl

end Sys2Proof.Machine
end
section
/-! The sluice's messages, a tag failure, and content that opens under its key (R21, R22, R327, R328, R329). -/

namespace Sys2Proof.Machine

theorem Channel.link_of_ties {c d : Channel} (h : d.ties = c.ties) : d.link = c.link := congrArg (fun t => t.2.2.2.1) h

theorem Channel.sluiceRetry_of_ties {c d : Channel} (h : d.ties = c.ties) : d.sluiceRetry = c.sluiceRetry :=
  congrArg (fun t => t.2.2.2.2) h

@[simp] theorem Channel.refillStep_ties (c : Channel) (v : RefillStep) : (c.refillStep v).ties = c.ties := rfl

@[simp] theorem Channel.takeSnapshot_ties (c src : Channel) : (c.takeSnapshot src).ties = c.ties := rfl

@[simp] theorem Channel.copyFrom_ties (c src : Channel) : (c.copyFrom src).ties = c.ties := rfl

@[simp] theorem Channel.formHandover_ties (c : Channel) : c.formHandover.ties = c.ties := by
  unfold Channel.formHandover
  (repeat' split) <;> rfl

@[simp] theorem Channel.takeDelayed_ties (c : Channel) (ids : List Nat) (base : Nat) (x : Item) :
    (c.takeDelayed ids base x).ties = c.ties := rfl

@[simp] theorem Channel.takeHandover_ties (c : Channel) (p : PortDie) (h : Handover) : (c.takeHandover p h).ties = c.ties := by
  refine (Channel.ties_foldl (fun c x => c.takeDelayed_ties ..) _ _).trans ?_
  rfl

@[simp] theorem Channel.dropPlaceholders_ties (c : Channel) (gone : Nat × FlowKind × Nat → Bool) :
    (c.dropPlaceholders gone).ties = c.ties := by
  refine (Channel.settle_ties _).trans ?_
  exact Channel.ties_foldl (fun c p => c.leaveFlows_ties _) _ _

theorem State.upd_ties {f : Channel → Channel} (hf : ∀ c, (f c).ties = c.ties) (s : State) (x ch : Chan) :
    ((s.upd x f).chan ch).ties = (s.chan ch).ties := by
  cases x <;> cases ch <;> simp [hf]

/-- The last messages of a join leave the links as they are. -/
theorem State.endWriters_ties (s : State) (x ch : Chan) : ((s.endWriters x).chan ch).ties = (s.chan ch).ties := by
  unfold State.endWriters
  extract_lets d alive late t u
  have ht : (t.chan ch).ties = (s.chan ch).ties := State.upd_ties (fun c => c.dropPlaceholders_ties _) s x ch
  split
  · exact ht
  · exact (State.upd_ties (fun _ => by rfl) u x.peer ch).trans ((State.upd_ties (fun _ => by rfl) t x ch).trans ht)

theorem State.sluiceMsg_sender (s : State) (ch : Chan) (m : SluiceMsg) :
    (s.sluiceMsg ch m).chan ch = (s.chan ch).sluiceSent m := by
  cases ch <;> rfl

theorem State.sluiceMsg_receiver (s : State) (ch : Chan) (m : SluiceMsg) :
    (s.sluiceMsg ch m).chan ch.peer = (s.chan ch.peer).sluiceTaken ((s.chan ch).sealed m) := by
  cases ch <;> rfl

/-- What one message of channel `x`'s peer to `x` leaves: a counter value spent, the sealed message on the wire, and what
it opens to in the receiver. -/
structure Crosses (m : Sealed) (x : Chan) (s t : State) : Prop where
  spent : (t.chan x.peer).link.sent = (s.chan x.peer).link.sent + 1
  once : (t.chan x.peer).sluiceRetry = false
  wire : (t.chan x.peer).link.wire = some m
  opened : (t.chan x).link = { (s.chan x).link with received := (s.chan x).link.opens m }

theorem Crosses.conj {m : Sealed} {x : Chan} {s t : State} (h : Crosses m x s t) :
    (t.chan x.peer).link.sent = (s.chan x.peer).link.sent + 1 ∧ (t.chan x.peer).sluiceRetry = false
      ∧ (t.chan x.peer).link.wire = some m
      ∧ (t.chan x).link = { (s.chan x).link with received := (s.chan x).link.opens m } :=
  ⟨h.spent, h.once, h.wire, h.opened⟩

theorem Crosses.of_ties {m : Sealed} {x : Chan} {s t s' t' : State} (h : Crosses m x s t)
    (hs : ∀ ch, (s'.chan ch).ties = (s.chan ch).ties) (ht : ∀ ch, (t'.chan ch).ties = (t.chan ch).ties) : Crosses m x s' t' where
  spent := by rw [Channel.link_of_ties (ht _), Channel.link_of_ties (hs _), h.spent]
  once := by rw [Channel.sluiceRetry_of_ties (ht _), h.once]
  wire := by rw [Channel.link_of_ties (ht _), h.wire]
  opened := by rw [Channel.link_of_ties (ht _), Channel.link_of_ties (hs _), h.opened]

theorem State.sluiceMsg_crosses (s : State) (x : Chan) (m : SluiceMsg) :
    Crosses ((s.chan x.peer).sealed m) x s (s.sluiceMsg x.peer m) := by
  have hreceived := s.sluiceMsg_receiver x.peer m
  rw [Chan.peer_peer] at hreceived
  exact ⟨by rw [State.sluiceMsg_sender]; rfl, by rw [State.sluiceMsg_sender]; rfl, by rw [State.sluiceMsg_sender]; rfl,
    by rw [hreceived]; rfl⟩

/-- A message of the peer whose content the receiver takes in. -/
theorem State.sluiceMsg_upd_crosses (s : State) (x : Chan) (m : SluiceMsg) {f : Channel → Channel}
    (hf : ∀ c, (f c).ties = c.ties) :
    Crosses ((s.chan x.peer).sealed m) x s ((s.sluiceMsg x.peer m).upd x f) :=
  (s.sluiceMsg_crosses x m).of_ties (fun _ => rfl) (State.upd_ties hf _ x)

theorem State.refillAt_eq {s : State} {x : Chan} (hx : s.refilling = some x) (hup : s.sluiceUp = true)
    {ok : RefillStep → Bool} (hok : ok (s.chan x).refill.step = true) (f : Chan → State) : s.refillAt ok f = f x := by
  simp [State.refillAt, hx, hup, hok]

theorem regionImageReceived_crosses {s : State} {x : Chan} (hx : s.refilling = some x) (hup : s.sluiceUp = true)
    (hstep : (s.chan x).refill.step = .regions) :
    Completes .regionImageReceived s (Crosses ((s.chan x.peer).sealed .regionImage) x s) := by
  refine ⟨_, congrArg Host.Outcome.next (State.refillAt_eq hx hup (by simp [hstep]) _), ?_⟩
  exact s.sluiceMsg_upd_crosses x _ (fun _ => rfl)

theorem stateSnapshotReceived_crosses {s : State} {x : Chan} (hx : s.refilling = some x) (hup : s.sluiceUp = true)
    (hstep : (s.chan x).refill.step = .snapshots ∨ (s.chan x).refill.step = .replay ∧ s.toSend x = []) :
    Completes .stateSnapshotReceived s (Crosses ((s.chan x.peer).sealed .snapshot) x s) := by
  have hok : ((s.chan x).refill.step == .replay || (s.chan x).refill.step == .snapshots) = true := by
    rcases hstep with hstep | ⟨hstep, -⟩ <;> simp [hstep]
  have hlast : ¬ ((s.chan x).refill.step == .replay && !(s.toSend x).isEmpty) = true := by
    rcases hstep with hstep | ⟨hstep, hnone⟩
    · simp [hstep]
    · simp [hstep, hnone]
  have hexec : exec .stateSnapshotReceived s = .next ((s.sluiceMsg x.peer .snapshot).upd x
      (fun c => (c.takeSnapshot (s.chan x.peer)).refillStep .catchUp)) := by
    simp only [exec, execStateSnapshotReceived]
    rw [State.refillAt_eq hx hup hok, if_neg hlast]
  exact ⟨_, hexec, s.sluiceMsg_upd_crosses x _ (fun c => by simp)⟩

theorem journalDeltaReceived_crosses {s : State} {x : Chan} {d : Delta} {l : List Delta} (hjoin : s.joining = none)
    (hx : s.refilling = some x) (hup : s.sluiceUp = true)
    (hstep : (s.chan x).refill.step = .replay ∨ (s.chan x).refill.step = .catchUp) (hring : s.overwritten x = false)
    (hsend : s.toSend x = d :: l) :
    Completes .journalDeltaReceived s (Crosses ((s.chan x.peer).sealed (.delta d)) x s) := by
  have hok : ((s.chan x).refill.step == .replay || (s.chan x).refill.step == .catchUp) = true := by
    rcases hstep with hstep | hstep <;> simp [hstep]
  have hnext : s.nextDelta x = (s.sluiceMsg x.peer (.delta d)).upd x (·.takeDelta d) := by
    simp [State.nextDelta, hring, hsend]
  have hexec : exec .journalDeltaReceived s = .next ((s.sluiceMsg x.peer (.delta d)).upd x (·.takeDelta d)) := by
    simp only [exec, execJournalDeltaReceived, hjoin]
    rw [State.refillAt_eq hx hup hok, hnext]
  exact ⟨_, hexec, s.sluiceMsg_upd_crosses x _ (fun c => c.takeDelta_ties d)⟩

theorem joinHandoverReceived_crosses {s : State} {x : Chan} {h : Handover} (hjoin : s.joining = some x)
    (hup : s.sluiceUp = true) (hawait : (s.chan x).refill.awaitHandover = true)
    (hsent : (s.chan x.peer).formHandover.refill.sent = some h) :
    Completes .joinHandoverReceived s (Crosses ((s.chan x.peer).formHandover.sealed .handover) x s) := by
  have hformed := fun ch => (State.upd_ties Channel.formHandover_ties s x.peer ch).symm
  have hother : (s.upd x.peer (·.formHandover)).chan x = s.chan x := by cases x <;> rfl
  have hexec : exec .joinHandoverReceived s = .next ((((s.upd x.peer (·.formHandover)).sluiceMsg x.peer .handover).upd x
      (fun c => c.takeHandover s.port h)).endWriters x) := by
    simp [exec, execJoinHandoverReceived, hjoin, hup, State.handover, hsent, hother, hawait]
  refine ⟨_, hexec, ?_⟩
  have hcross := (s.upd x.peer (·.formHandover)).sluiceMsg_upd_crosses x .handover (fun c => c.takeHandover_ties s.port h)
  rw [State.chan_upd] at hcross
  exact hcross.of_ties hformed (fun ch => State.endWriters_ties _ x ch)

/-- The repair list crosses to the survivor, and its images come back (R327). -/
theorem repairListReceived_crosses {s : State} {x : Chan} (hx : s.refilling = some x) (hup : s.sluiceUp = true)
    (hstep : (s.chan x).refill.step = .repairList) :
    Completes .repairListReceived s (fun t =>
      (t.chan x).link.sent = (s.chan x).link.sent + 1 ∧ (t.chan x).link.wire = some ((s.chan x).sealed .repairList)
      ∧ (t.chan x.peer).link.received = (s.chan x.peer).link.opens ((s.chan x).sealed .repairList)
      ∧ (t.chan x.peer).link.sent = (s.chan x.peer).link.sent + 1 ∧ (t.chan x).sluiceRetry = false
      ∧ (t.chan x.peer).sluiceRetry = false) := by
  have hties : ∀ ch, ((s.repair x).chan ch).ties = (((s.sluiceMsg x .repairList).sluiceMsg x.peer .repairImage).chan ch).ties := by
    refine fun ch => State.upd_ties (fun c => ?_) _ x ch
    simp
  refine ⟨_, congrArg Host.Outcome.next (State.refillAt_eq hx hup (by simp [hstep]) _), ?_⟩
  simp only [Channel.link_of_ties (hties _), Channel.sluiceRetry_of_ties (hties _)]
  cases x <;> exact ⟨rfl, rfl, rfl, rfl, rfl, rfl⟩

theorem sluiceTagFail_first {s : State} {x : Chan} (hup : s.sluiceUp = true) (honce : (s.chan x).sluiceRetry = false) :
    Completes (.sluiceTagFail x) s (fun t => (t.chan x).sluiceRetry = true ∧ t.sluiceUp = true) := by
  refine ⟨_, rfl, ?_⟩
  cases x <;> simp_all [State.sluiceTag, State.sluiceUp]

theorem sluiceTagFail_second {s : State} {x : Chan} (hup : s.sluiceUp = true) (honce : (s.chan x).sluiceRetry = true) :
    Completes (.sluiceTagFail x) s (fun t => t.a.sluice = false ∧ t.b.sluice = false) := by
  refine ⟨_, rfl, ?_⟩
  simp [State.sluiceTag, hup, honce, State.endSluice]

/-- Content sealed under a key of 32 bytes opens under it (R22). -/
theorem Link.opens_seal {l m : Link} (hkey : l.sendKey.length = 32) (hsame : m.recvKey = l.sendKey) (ch : Chan)
    (content : Bytes) : m.opens (l.seal ch content) = some content := by
  rw [Link.opens, hsame]
  exact gcmDec_gcmEnc hkey _ _ _

end Sys2Proof.Machine
end
section
/-! What the performance of Kerral messages writes: the port die, the host's memory and joined channels (R393, R399). -/

namespace Sys2Proof.Machine

/-- The tide of the port die and the states of the channels. -/
def PortDie.seat (p : PortDie) : Nat × Nat × ChState × ChState := (p.tide, p.offset, p.assay.st .a, p.assay.st .b)

theorem PortDie.seat_of_control {p q : PortDie} (h : q.control = p.control) : q.seat = p.seat :=
  (congrArg PortDie.seat h :)

@[simp] theorem PortDie.record_seat (p : PortDie) (code v : Nat) : (p.record code v).seat = p.seat :=
  PortDie.seat_of_control (p.record_control code v)

/-- A relation of states that management work respects: it holds over writes of the port die beside its tide and the
channels' states, of host memory, of a joined channel beside its ties, and over a retirement while both are joined. -/
structure Carries (R : State → State → Prop) : Prop where
  refl : ∀ s, R s s
  trans : ∀ {s t u}, R s t → R t u → R s u
  port : ∀ (s : State) (f : PortDie → PortDie), (f s.port).seat = s.port.seat → R s (s.updPort f)
  host : ∀ (s : State) (h : HostSide), R s { s with host := h }
  joined : ∀ (s : State) (ch : Chan) (f : Channel → Channel), s.port.joined ch = true → (∀ c, (f c).ties = c.ties) →
    R s (s.upd ch f)
  retire : ∀ (s : State) (x : Chan) (cause : Nat), s.twin → R s (s.retire x cause)

namespace Carries

variable {R : State → State → Prop} (hR : Carries R) {s t u : State}

include hR

omit hR in
theorem ite (b : Prop) [Decidable b] (ht : R s t) (hu : R s u) : R s (if b then t else u) := by
  split
  · exact ht
  · exact hu

theorem foldl {α : Type} {f : State → α → State} (h : ∀ s x, R s (f s x)) (l : List α) (s : State) : R s (l.foldl f s) := by
  induction l generalizing s with
  | nil => exact hR.refl s
  | cons x l ih => exact hR.trans (h s x) (ih _)

theorem record (s : State) (code v : Nat) : R s (s.updPort (fun p => p.record code v)) :=
  hR.port s _ (s.port.record_seat code v)

theorem onMgmt (s : State) (f : Mgmt → Mgmt) : R s (s.onMgmt f) := hR.port s _ rfl

theorem updMsg (s : State) (n : Nat) (f : KerralMsg → KerralMsg) : R s (s.updMsg n f) := hR.onMgmt s _

/-- A change of each joined channel. -/
theorem foldl_upd {f : Chan → Channel → Channel} (hf : ∀ ch c, (f ch c).ties = c.ties) (l : List Chan) {s : State}
    (hl : ∀ ch ∈ l, s.port.joined ch = true) : R s (l.foldl (fun s ch => s.upd ch (f ch)) s) := by
  induction l generalizing s with
  | nil => exact hR.refl s
  | cons ch l ih =>
    refine hR.trans (hR.joined s ch _ (hl ch (by simp)) (hf ch)) (ih fun x hx => ?_)
    rw [State.upd_port]; exact hl x (by simp [hx])

theorem allJoined (s : State) {f : Chan → Channel → Channel} (hf : ∀ ch c, (f ch c).ties = c.ties) :
    R s (s.port.joinedChans.foldl (fun s ch => s.upd ch (f ch)) s) :=
  hR.foldl_upd hf _ (fun _ hch => (List.mem_filter.1 hch).2)

/-- The two channels may disagree, where both are joined (R400). -/
theorem agreed {α : Type} [BEq α] (s : State) (f : Channel → α) : R s (s.agreed f).1 := by
  unfold State.agreed
  split
  · next hl =>
    have htwin : s.twin := by
      have hmem (ch : Chan) (h : ch ∈ s.port.joinedChans) : s.port.joined ch = true := (List.mem_filter.1 h).2
      exact ⟨hmem .a (by simp [hl]), hmem .b (by simp [hl])⟩
    split
    · exact hR.refl s
    · unfold State.mgmtDiscord
      split
      · exact hR.retire s _ _ htwin
      · refine hR.trans (hR.record s _ _) (hR.retire _ _ _ ?_)
        have hseat := s.port.record_seat 0x011 0xFFFF
        simp only [PortDie.seat, Prod.mk.injEq] at hseat
        simpa [State.twin, PortDie.joined, hseat] using htwin
  · exact hR.refl s

theorem complete (s : State) (m : KerralMsg) (v effect : Nat) (data : Bytes) : R s (s.complete m v effect data) :=
  ite _ (hR.trans (hR.updMsg s _ _) (hR.record _ _ _))
    (ite _ (hR.updMsg s _ _) (hR.trans (hR.updMsg s _ _) (hR.record _ _ _)))

theorem spendNonce (s : State) (m : KerralMsg) (v : Nat) : R s (s.spendNonce m v) := ite _ (hR.refl s) (hR.onMgmt s _)

theorem dropCeremony (s : State) (m : KerralMsg) (v : Nat) : R s (s.dropCeremony m v) := by
  refine ite _ (hR.refl s) (hR.allJoined s fun _ c => ?_)
  split <;> rfl

theorem verifies (s : State) (m : KerralMsg) (v : Nat) : R s (s.verifies m v) :=
  ite _ (hR.refl s) (hR.allJoined s fun _ c => Channel.ties_foldl (fun c _ => c.verifyOn_ties _) _ c)

theorem countMgmtDraw (s : State) (len : Nat) : R s (s.countMgmtDraw len) := hR.allJoined s fun _ _ => rfl

theorem giveNonce (s : State) (m : KerralMsg) : R s (s.giveNonce m) := by
  unfold State.giveNonce
  split
  · exact hR.complete s m _ _ _
  · exact hR.trans (hR.trans (hR.countMgmtDraw s _) (hR.onMgmt _ _)) (hR.complete _ m _ _ _)

theorem openCeremony (s : State) (m : KerralMsg) : R s (s.openCeremony m) := by
  unfold State.openCeremony
  extract_lets
  split
  · exact hR.complete s m _ _ _
  · exact hR.trans (hR.countMgmtDraw s _) (hR.updMsg _ _ _)

theorem hostBytes (s : State) (f addr : Nat) (bs : Bytes) : R s (s.hostBytes f addr bs) :=
  hR.foldl (fun s _ => hR.host s _) _ s

theorem perform (s : State) (m : KerralMsg) : R s (s.perform m) := by
  unfold State.perform
  extract_lets b t c later
  have hlater (x : Change) : R s (later x) := hR.updMsg s _ _
  split
  · exact hR.giveNonce s m
  · exact hR.complete s m _ _ _
  · exact hR.trans (hR.onMgmt s _) (hR.complete _ m _ _ _)
  · exact hR.openCeremony s m
  · exact hlater _
  · exact hR.port s _ rfl
  · exact hR.port s _ rfl
  · exact hR.trans (hR.agreed s _) (hR.trans (hR.hostBytes _ _ _ _) (hR.complete _ m _ _ _))
  · split
    · exact hlater _
    · exact hR.complete s m _ _ _
  · exact hR.complete s m _ _ _
  · split
    · exact hR.complete s m _ _ _
    · exact ite _ (hR.updMsg s _ _) (hlater _)

theorem startMsg (s : State) (m : KerralMsg) : R s (s.startMsg m) := by
  unfold State.startMsg
  extract_lets s1
  have hagreed := hR.agreed s1 (fun c => s1.kerralVerdict c m)
  generalize s1.agreed (fun c => s1.kerralVerdict c m) = r at hagreed ⊢
  obtain ⟨s2, v⟩ := r
  simp -zeta only at hagreed ⊢
  extract_lets c nonce s3 s4
  have hbegun : R s s3 := hR.trans (hR.updMsg s _ _) (hR.trans hagreed
    (hR.trans (hR.spendNonce s2 m v) (hR.trans (hR.dropCeremony _ m v) (hR.verifies _ m v))))
  have hnoted : R s s4 := by
    refine ite _ ?_ hbegun
    split
    · exact hR.trans hbegun (hR.record s3 _ _)
    · exact hbegun
  exact ite _ (hR.trans hbegun (hR.perform s3 m)) (hR.trans hnoted (hR.complete _ m v 0 []))

theorem pump (s : State) (n : Nat) : R s (s.pump n) := by
  induction n generalizing s with
  | zero => exact hR.refl s
  | succ n ih =>
    unfold State.pump
    split
    · exact hR.refl s
    · next m _ => exact ite _ (hR.refl s) (hR.trans (hR.startMsg s m) (ih _))

theorem completeChange (s : State) (m : KerralMsg) (r : Nat × Bytes) (effect : Nat) : R s (s.completeChange m r effect) :=
  hR.trans (hR.complete s m _ _ _) (hR.pump _ 9)

end Carries

end Sys2Proof.Machine
end
section
/-! The sluice agreement at a first start (R21, R436, R437), and O37. -/

namespace Sys2Proof.Machine

/-! ### Management work while no channel is joined -/

/-- Where no channel is joined, both channels are as they were, and none is joined after. -/
def State.Untouched (s t : State) : Prop := s.port.joinedChans = [] → t.a = s.a ∧ t.b = s.b ∧ t.port.joinedChans = []

theorem PortDie.joinedChans_of_seat {p q : PortDie} (h : q.seat = p.seat) : q.joinedChans = p.joinedChans := by
  simp only [PortDie.seat, Prod.mk.injEq] at h
  obtain ⟨-, -, ha, hb⟩ := h
  simp [PortDie.joinedChans, PortDie.joined, chans, List.filter_cons, ha, hb]

theorem PortDie.joined_false_of_none {p : PortDie} (h : p.joinedChans = []) (ch : Chan) : p.joined ch = false := by
  have hnone := List.filter_eq_nil_iff.1 h ch (by cases ch <;> simp [chans])
  simpa using hnone

theorem carries_untouched : Carries State.Untouched where
  refl _ h := ⟨rfl, rfl, h⟩
  trans hst htu h := by
    obtain ⟨ha, hb, hnone⟩ := hst h
    obtain ⟨ha', hb', hnone'⟩ := htu hnone
    exact ⟨ha'.trans ha, hb'.trans hb, hnone'⟩
  port _ _ hseat h := ⟨rfl, rfl, (PortDie.joinedChans_of_seat hseat).trans h⟩
  host _ _ h := ⟨rfl, rfl, h⟩
  joined _ ch _ hch _ h := by simp [PortDie.joined_false_of_none h ch] at hch
  retire _ _ _ htwin h := by simp [State.twin, PortDie.joined_false_of_none h] at htwin

theorem State.svnDone_untouched (s : State) : s.Untouched s.svnDone := by
  unfold State.svnDone
  split
  · exact carries_untouched.refl s
  · refine Carries.ite _ ?_ (carries_untouched.refl s)
    unfold State.endSvn
    split
    · exact carries_untouched.refl s
    · extract_lets t
      have ht : s.Untouched t := carries_untouched.port s _ rfl
      split
      · exact ht
      · exact carries_untouched.trans ht (carries_untouched.completeChange t _ _ _)

/-! ### The rungs of the channels -/

/-- A channel's start, its session and its journal, which the repair of its rungs leaves. -/
def Channel.bonds (c : Channel) : Start × Bool × Link × Journal := (c.start, c.sluice, c.link, c.journal)

/-- Both channels keep their bonds, and none is joined. -/
structure State.Bonded (s t : State) : Prop where
  bonds : ∀ ch, (t.chan ch).bonds = (s.chan ch).bonds
  none : t.port.joinedChans = []

theorem State.Bonded.upd {s t : State} (h : s.Bonded t) (x : Chan) {f : Channel → Channel} (hf : ∀ c, (f c).bonds = c.bonds) :
    s.Bonded (t.upd x f) where
  bonds ch := by rw [← h.bonds ch]; cases x <;> cases ch <;> simp [hf]
  none := by rw [State.upd_port]; exact h.none

theorem State.Bonded.matchRungs {s t : State} (h : s.Bonded t) (x y : RootCopy) : s.Bonded (t.matchRungs x y) := by
  have hone (r : RootCopy) (c : Channel) : (if !c.olderCopy r then c else if x.check == y.check then c.settleRung r
      else { c with keys := { c.keys with commit := some { target := r.rung, since := c.tide, written := true } } }).bonds
        = c.bonds := by
    (repeat' split) <;> rfl
  have hboth := (h.upd .a (hone x)).upd .b (hone y)
  unfold State.matchRungs
  extract_lets
  split
  · exact ⟨hboth.bonds, (PortDie.joinedChans_of_seat (PortDie.record_seat ..)).trans hboth.none⟩
  · exact hboth

theorem State.repairRungs_bonded {s : State} (hnone : s.port.joinedChans = []) : s.Bonded s.repairRungs := by
  have hself : s.Bonded s := ⟨fun _ => rfl, hnone⟩
  unfold State.repairRungs
  split
  · next x y _ _ =>
    extract_lets t
    have ht : s.Bonded t := by
      unfold t
      split
      · exact hself.upd .a (fun _ => rfl)
      · split
        · exact hself.upd .b (fun _ => rfl)
        · exact hself
    split
    · next x y _ _ =>
      have hmatch := ht.matchRungs x y
      obtain ⟨ha, hb, hnone'⟩ := (t.matchRungs x y).svnDone_untouched hmatch.none
      refine ⟨fun ch => ?_, hnone'⟩
      rw [← hmatch.bonds ch]
      cases ch
      · exact congrArg Channel.bonds ha
      · exact congrArg Channel.bonds hb
    · exact ht
  · exact hself

/-! ### The agreement -/

/-- Both channels have presented themselves, and know whether their fuse roots match. -/
def State.introduced (s : State) : State :=
  (s.present.upd .a (fun c => { c with fuses := { c.fuses with peerMatch := s.rootsMatch } })).upd .b
    (fun c => { c with fuses := { c.fuses with peerMatch := s.rootsMatch } })

/-- A channel goes on to its join. -/
def Channel.goesOn (c : Channel) : Channel := (c.toStep .join).mapRng (·.trigger)

/-- Both channels wait for their agreement at a first start. -/
structure State.FirstAgreement (s : State) : Prop where
  a : s.a.start.step = .sluice
  b : s.b.start.step = .sluice
  down : (s.a.sluice && s.b.sluice) = false
  outA : s.port.serving .a = false
  outB : s.port.serving .b = false

theorem State.FirstAgreement.agreement {s : State} (h : s.FirstAgreement) : s.agreement =
    if s.mayAgree then
      let t := (s.introduced.openSluice s.free).repairRungs
      if t.a.start.step == .sluice && t.b.start.step == .sluice then (t.reconcile.upd .a (·.goesOn)).upd .b (·.goesOn) else t
    else (((s.introduced.upd .a (·.toStep .join)).staysOut .b .failed).upd .a (·.mapRng (·.trigger))).updPort
      (fun p => p.record 0x015 1) := by
  obtain ⟨ha, hb, hdown, houtA, houtB⟩ := h
  have hagreesA : s.a.agrees = true := by simp [Channel.agrees, ha]
  have hagreesB : s.b.agrees = true := by simp [Channel.agrees, hb]
  have hup : s.sluiceUp = false := hdown
  unfold State.agreement
  rw [if_neg (by simp [hagreesA, hagreesB, hup])]
  extract_lets m n may s1 s2 first ready
  have hfirst : first = true := by
    have hport : s2.port = s.port := rfl
    simp [first, hport, houtA, houtB]
  simp only [hfirst, if_true]
  cases hmay : s.mayAgree
  · simp [may, hmay]; rfl
  · simp [may, hmay]; rfl

/-- Where the agreement is refused, channel A alone goes on to join (R437). -/
theorem sluiceAgreementDone_refused {s : State} (h : s.FirstAgreement) (hmay : s.mayAgree = false) :
    Completes .sluiceAgreementDone s (fun t => t.sluiceUp = false ∧ t.a.start.step = .join ∧ t.b.start.step = .failed
      ∧ t.a.link.hello = some (s.helloOf .a) ∧ t.b.link.hello = some (s.helloOf .b)) := by
  refine ⟨_, rfl, ?_⟩
  rw [h.agreement, if_neg (by simp [hmay])]
  simp only [State.sluiceUp, State.finish_a, State.finish_b]
  exact ⟨h.down, rfl, rfl, rfl, rfl⟩

/-- What one channel of an agreement that stands shows of its session, its start and its checkpoint. -/
structure Channel.Stands (c : Channel) (hello : Option Hello) (send recv : Bytes) : Prop where
  sluice : c.sluice = true
  step : c.start.step = .join
  hello : c.link.hello = hello
  send : c.link.sendKey = send
  recv : c.link.recvKey = recv
  low : c.journal.lowWater = 0
  check : c.journal.checkA.map (·.fromJseq) = some c.journal.nextJseq

theorem Channel.goesOn_stands {c d : Channel} (h : d.bonds = c.bonds) (hup : c.sluice = true) :
    (d.startCheckpoint.goesOn).Stands c.link.hello c.link.sendKey c.link.recvKey where
  sluice := (congrArg (·.2.1) h).trans hup
  step := rfl
  hello := congrArg (·.2.2.1.hello) h
  send := congrArg (·.2.2.1.sendKey) h
  recv := congrArg (·.2.2.1.recvKey) h
  low := rfl
  check := rfl

/-- The reconciliation copies one channel's regions where one has kept its memory, and writes both start checkpoints. -/
theorem State.reconcile_startCheckpoint (s : State) : ∃ t : State, (∀ ch, (t.chan ch).bonds = (s.chan ch).bonds)
    ∧ s.reconcile = (t.upd .a (·.startCheckpoint)).upd .b (·.startCheckpoint) := by
  unfold State.reconcile
  extract_lets x t
  refine ⟨t, fun ch => ?_, rfl⟩
  unfold t
  split
  · generalize x.peer = y
    cases y <;> cases ch <;> rfl
  · rfl

/-- Where it may stand, both channels go on to join, with a session and their start checkpoints (R21, R436). -/
theorem sluiceAgreementDone_agreed {s : State} (h : s.FirstAgreement) (hmay : s.mayAgree = true) :
    Completes .sluiceAgreementDone s (fun t => t.sluiceUp = true ∧ t.a.start.step = .join ∧ t.b.start.step = .join
      ∧ t.a.link.hello = some (s.helloOf .a) ∧ t.b.link.hello = some (s.helloOf .b)
      ∧ t.a.link.sendKey = t.b.link.recvKey ∧ t.a.link.recvKey = t.b.link.sendKey ∧ t.a.journal.lowWater = 0
      ∧ t.a.journal.checkA.map (·.fromJseq) = some t.a.journal.nextJseq
      ∧ t.b.journal.checkA.map (·.fromJseq) = some t.b.journal.nextJseq) := by
  have hnone : (s.introduced.openSluice s.free).port.joinedChans = [] := by
    have hout (ch : Chan) (hserving : s.port.serving ch = false) : s.port.joined ch = false := by
      simp only [PortDie.serving, Bool.or_eq_false_iff] at hserving
      exact hserving.1
    show s.port.joinedChans = []
    simp [PortDie.joinedChans, chans, hout _ h.outA, hout _ h.outB]
  obtain ⟨hbonds, -⟩ := State.repairRungs_bonded hnone
  have hstartA : (s.introduced.openSluice s.free).repairRungs.a.start.step = .sluice :=
    (congrArg (·.1.step) (hbonds .a)).trans h.a
  have hstartB : (s.introduced.openSluice s.free).repairRungs.b.start.step = .sluice :=
    (congrArg (·.1.step) (hbonds .b)).trans h.b
  obtain ⟨t, ht, hreconcile⟩ := (s.introduced.openSluice s.free).repairRungs.reconcile_startCheckpoint
  have ha : t.a.startCheckpoint.goesOn.Stands _ _ _ := Channel.goesOn_stands ((ht .a).trans (hbonds .a)) rfl
  have hb : t.b.startCheckpoint.goesOn.Stands _ _ _ := Channel.goesOn_stands ((ht .b).trans (hbonds .b)) rfl
  refine ⟨_, rfl, ?_⟩
  rw [h.agreement, if_pos hmay]
  simp only [hstartA, hstartB, beq_self_eq_true, Bool.and_self, if_true, hreconcile, State.sluiceUp, State.finish_a,
    State.finish_b]
  exact ⟨Bool.and_eq_true_iff.2 ⟨ha.sluice, hb.sluice⟩, rfl, rfl, ha.hello, hb.hello, ha.send.trans hb.recv.symm,
    ha.recv.trans hb.send.symm, rfl, rfl, rfl⟩

/-- Settles O37: the agreement, content under its key, a failed tag, and the messages of a refill and of the handover. -/
theorem sluiceSessions : Obligations.SluiceSessions :=
  ⟨fun _ ha hb hdown houtA houtB => sluiceAgreementDone_agreed ⟨ha, hb, hdown, houtA, houtB⟩,
    fun _ ha hb hdown houtA houtB => sluiceAgreementDone_refused ⟨ha, hb, hdown, houtA, houtB⟩,
    fun _ _ ch content hkey hsame => Link.opens_seal hkey hsame ch content,
    fun _ _ => sluiceTagFail_first, fun _ _ => sluiceTagFail_second, fun _ _ => repairListReceived_crosses,
    fun _ _ _ _ hjoin hx hup hstep hring hsend =>
      let ⟨t, hexec, h⟩ := journalDeltaReceived_crosses hjoin hx hup hstep hring hsend; ⟨t, hexec, h.conj⟩,
    fun _ _ hx hup hstep => let ⟨t, hexec, h⟩ := regionImageReceived_crosses hx hup hstep; ⟨t, hexec, h.conj⟩,
    fun _ _ hx hup hstep => let ⟨t, hexec, h⟩ := stateSnapshotReceived_crosses hx hup hstep; ⟨t, hexec, h.conj⟩,
    fun _ _ _ hjoin hup hawait hsent =>
      let ⟨t, hexec, h⟩ := joinHandoverReceived_crosses hjoin hup hawait hsent; ⟨t, hexec, h.conj⟩⟩

end Sys2Proof.Machine
end
section
/-! The count of the port die and of the aligned channels through the work of a boundary (R26, R35), and O21. -/

namespace Sys2Proof.Machine

/-! ### What leaves the count -/

/-- The count of a channel, its offset, and whether it is aligned. -/
def Channel.clock (c : Channel) : Nat × Nat × Bool := (c.tide, c.offset, c.aligned)

theorem Channel.clock_of_ties {c d : Channel} (h : d.ties = c.ties) : d.clock = c.clock :=
  (congrArg (fun t => (t.1, t.2.1, t.2.2.1)) h :)

/-- The count of the port die, with its offset. -/
def PortDie.time (p : PortDie) : Nat × Nat := (p.tide, p.offset)

theorem PortDie.time_of_seat {p q : PortDie} (h : q.seat = p.seat) : q.time = p.time :=
  (congrArg (fun t => (t.1, t.2.1)) h :)

theorem PortDie.record_time (p : PortDie) (code v : Nat) : (p.record code v).time = p.time :=
  PortDie.time_of_seat (p.record_seat code v)

/-- No count or offset differs, but of a channel that is not aligned. -/
structure InStep (s t : State) : Prop where
  port : t.port.time = s.port.time
  chan : ∀ ch, (s.chan ch).aligned = true → (t.chan ch).clock = (s.chan ch).clock

theorem Channel.aligned_of_clock {c d : Channel} (h : d.clock = c.clock) (hc : c.aligned = true) : d.aligned = true :=
  (congrArg (fun t => t.2.2) h :).trans hc

namespace InStep

variable {s t u : State}

theorem refl (s : State) : InStep s s := ⟨rfl, fun _ _ => rfl⟩

theorem trans (h : InStep s t) (h' : InStep t u) : InStep s u where
  port := h'.port.trans h.port
  chan ch hch := (h'.chan ch (Channel.aligned_of_clock (h.chan ch hch) hch)).trans (h.chan ch hch)

theorem ite (b : Prop) [Decidable b] (ht : InStep s t) (hu : InStep s u) : InStep s (if b then t else u) :=
  Carries.ite b ht hu

/-- One more step, or none. -/
theorem orThen (h : InStep s t) (b : Prop) [Decidable b] (h' : InStep t u) : InStep s (if b then u else t) :=
  ite b (h.trans h') h

theorem orElse (h : InStep s t) (b : Prop) [Decidable b] (h' : InStep t u) : InStep s (if b then t else u) :=
  ite b h (h.trans h')

theorem foldl {α : Type} {f : State → α → State} (h : ∀ s x, InStep s (f s x)) (l : List α) (s : State) :
    InStep s (l.foldl f s) := by
  induction l generalizing s with
  | nil => exact refl s
  | cons x l ih => exact (h s x).trans (ih _)

theorem updPort (s : State) {f : PortDie → PortDie} (h : (f s.port).time = s.port.time) : InStep s (s.updPort f) :=
  ⟨h, fun ch _ => by rw [State.updPort_chan]⟩

theorem record (s : State) (code v : Nat) : InStep s (s.updPort (fun p => p.record code v)) :=
  updPort s (s.port.record_time code v)

theorem host (s : State) (h : HostSide) : InStep s { s with host := h } := ⟨rfl, fun _ _ => rfl⟩

theorem free (s : State) (n : Nat) : InStep s { s with free := n } := ⟨rfl, fun _ _ => rfl⟩

/-- A change of an aligned channel that leaves its count. -/
theorem updAligned (s : State) (x : Chan) {f : Channel → Channel}
    (hf : (s.chan x).aligned = true → (f (s.chan x)).clock = (s.chan x).clock) : InStep s (s.upd x f) where
  port := by rw [State.upd_port]
  chan ch hch := by
    cases ch with
    | a => cases x with
      | a => exact hf hch
      | b => rfl
    | b => cases x with
      | a => rfl
      | b => exact hf hch

theorem upd (s : State) (x : Chan) {f : Channel → Channel} (hf : ∀ c, (f c).ties = c.ties) : InStep s (s.upd x f) :=
  updAligned s x (fun _ => Channel.clock_of_ties (hf _))

theorem setChan (s : State) (x : Chan) {c : Channel} (hc : c.ties = (s.chan x).ties) : InStep s (s.setChan x c) :=
  updAligned s x (f := fun _ => c) (fun _ => Channel.clock_of_ties hc)

/-- A message between the channels (R22). -/
theorem sluiceMsg (s : State) (x : Chan) (m : SluiceMsg) : InStep s (s.sluiceMsg x m) :=
  (updAligned s x fun _ => rfl).trans (updAligned _ x.peer fun _ => rfl)

theorem of_wayOut (h : WayOut s t) : InStep s t where
  port := PortDie.time_of_seat (PortDie.seat_of_control h.control)
  chan ch _ := by rw [h.chan]

theorem drawn (s : State) : InStep s s.drawn := free s _

theorem drain (s : State) : InStep s s.drain := by
  obtain ⟨r, n, o, h⟩ := s.drain_eq
  rw [h]
  exact ⟨rfl, fun ch _ => by cases ch <;> rfl⟩

theorem finish (old s : State) : InStep s (old.finish s) :=
  ⟨by simp [PortDie.time], fun ch _ => by rw [State.finish_chan]; rfl⟩

theorem errCause (s : State) (e : ErrCause) : InStep s (s.errCause e) := by
  obtain ⟨g, p, l, h⟩ := s.errCause_eq e
  rw [h]
  exact ⟨rfl, fun _ _ => rfl⟩

theorem probeOver (s : State) : InStep s s.probeOver :=
  ite _ (refl s) ((upd s .a fun _ => by rfl).trans (upd _ .b fun _ => by rfl))

/-- The retirement of a channel while both are joined (R319). -/
theorem retire (s : State) (x : Chan) (cause : Nat) (htwin : s.twin) : InStep s (s.retire x cause) := by
  have hjoined (ch : Chan) : s.port.joined ch = true := by
    cases ch
    · exact htwin.1
    · exact htwin.2
  obtain ⟨y, m, u, hway, hcontrol, -, ha, hb⟩ := s.retire_of_peer cause (PortDie.serving_of_joined (hjoined x)) (hjoined x.peer)
  have hu : InStep s u := by
    refine ⟨(congrArg PortDie.time hcontrol :), fun ch hch => ?_⟩
    rw [← (probeOver s).chan ch hch]
    cases ch
    · exact congrArg Channel.clock ha
    · exact congrArg Channel.clock hb
  exact hu.trans ((upd u x fun _ => by rfl).trans (of_wayOut hway))

theorem carries : Carries InStep where
  refl := refl
  trans := trans
  port s _ h := updPort s (PortDie.time_of_seat h)
  host := host
  joined s ch _ _ hf := upd s ch hf
  retire := retire

/-! ### The work of the port die at a boundary (R35) -/

theorem respond (s : State) (ch : Chan) (src : BitVec 23) : InStep s (s.respond ch src) := by
  unfold State.respond
  extract_lets c i w c1 done level c2 j c3 c4 union c5 c6
  have h2 : c2.ties = c.ties := Channel.ties_foldl (fun c _ => c.event_ties ..) _ c1
  have h3 : c3.ties = c.ties := by unfold c3; split <;> exact h2
  have h4 : c4.ties = c.ties := by
    unfold c4
    split
    · exact (c3.setEvidence_ties src).trans h3
    · exact h3
  have h6 : c6.ties = c.ties := by
    have h5 : c5.ties = c4.ties := (Channel.respondUpTo_ties ..).trans (Channel.beginResponse_ties ..)
    unfold c6
    split <;> exact h5.trans h4
  have hflush {t : State} : InStep t (t.drain.updPort (fun p => { p with recorder := p.recorder.flush 1 })) :=
    (drain t).trans (updPort _ rfl)
  refine ite _ (refl s) (ite _ (setChan s ch rfl) (ite _ (setChan s ch h4) ?_))
  exact (((setChan s ch h6).orThen _ (of_wayOut (.raiseError _ 0))).orElse _ hflush).orThen _ (updPort _ rfl)

theorem hearNoise (s : State) (ch : Chan) : InStep s (s.hearNoise ch) :=
  ite _ (refl s) ((upd s ch fun _ => by rfl).trans (drawn _))

theorem alignLater (s : State) : InStep s s.alignLater := by
  unfold State.alignLater
  extract_lets one
  have hone (c : Channel) (hc : c.aligned = true) : (one c).clock = c.clock := by simp [one, hc]
  exact (updAligned s .a (hone _)).trans (updAligned _ .b (hone _))

theorem commitBlock {α : Type} [BEq α] (s : State) (shadow : Channel → α) {apply mismatch : Channel → Channel}
    (keep : Channel → Kept → Kept) (hApply : ∀ c, (apply c).ties = c.ties) (hMismatch : ∀ c, (mismatch c).ties = c.ties) :
    InStep s (s.commitBlock shadow apply mismatch keep).1 := by
  have hon (s : State) (ch : Chan) : InStep s (if s.port.joined ch then s.upd ch apply else s) :=
    ite _ (upd s ch hApply) (refl s)
  unfold State.commitBlock
  split
  · dsimp only
    exact ((hon s .a).trans (hon _ .b)).trans (updPort _ rfl)
  · split
    · exact (upd s .a hMismatch).trans (upd _ .b hMismatch)
    · exact refl s

end InStep

end Sys2Proof.Machine
end
section
/-! The steps of a boundary keep the count that it opened, and O21 (R26, R28, R35). -/

namespace Sys2Proof.Machine

namespace InStep

/-! ### Commits (R423) -/

theorem setPort (s : State) {p : PortDie} (h : p.time = s.port.time) : InStep s { s with port := p } :=
  updPort s (f := fun _ => p) h

end InStep

theorem PortDie.foldl_time {α β : Type} {f : PortDie × β → α → PortDie × β} (h : ∀ r x, (f r x).1.time = r.1.time) (l : List α)
    (r : PortDie × β) : (l.foldl f r).1.time = r.1.time := by
  induction l generalizing r with
  | nil => rfl
  | cons x l ih => rw [List.foldl_cons, ih, h]

theorem PortDie.commitQueues_time (p : PortDie) : p.commitQueues.1.time = p.time :=
  PortDie.foldl_time (fun r q => by dsimp only; split <;> rfl) _ _

theorem PortDie.commitTables_time (p : PortDie) : p.commitTables.1.time = p.time := by
  unfold PortDie.commitTables
  extract_lets vec ide w p1 p2
  refine (PortDie.foldl_time (fun r b => by dsimp only; (repeat' split) <;> rfl) _ _).trans ?_
  unfold p2
  split <;> rfl

theorem PortDie.resetDone_time (p : PortDie) (r : FnReset) : (p.resetDone r).time = p.time :=
  (congrArg PortDie.time (PortDie.foldl_setQueue_control p (fun p q => (p.queue q).fnReset) _) :)

theorem PortDie.change_time (p : PortDie) (x : Change) : (p.change x).time = p.time := by
  unfold PortDie.change
  (repeat' split) <;> rfl

namespace InStep

theorem applyBlock (s : State) (m : Nat) : InStep s (s.applyBlock m).1 := by
  unfold State.applyBlock
  split
  · exact setPort s s.port.commitQueues_time
  · exact setPort s s.port.commitTables_time
  · exact commitBlock s _ _ (fun _ => by rfl) (fun _ => by rfl)
  · exact commitBlock s _ _ (fun _ => by rfl) (fun _ => by rfl)
  · exact commitBlock s _ _ (fun _ => by rfl) (fun _ => by rfl)
  · exact setPort s (by rfl)
  · exact setPort s (by rfl)

theorem foldl_fst {α β : Type} {f : State × β → α → State × β} (h : ∀ r x, InStep r.1 (f r x).1) (l : List α) (r : State × β) :
    InStep r.1 (l.foldl f r).1 := by
  induction l generalizing r with
  | nil => exact refl _
  | cons x l ih => exact (h r x).trans (ih _)

theorem applyCommit (s : State) (c : Commit) : InStep s (s.applyCommit c) := by
  unfold State.applyCommit
  extract_lets r g g' t
  have hr : InStep s r.1 := foldl_fst (fun r m => by
    dsimp only
    split
    · exact applyBlock _ _
    · exact refl _) _ (s, 0)
  have ht : InStep s t := hr.trans (updPort _ rfl)
  exact ite _ ht (ht.trans (errCause t _))

theorem applyCommits (s : State) : InStep s s.applyCommits :=
  (updPort s rfl).trans (foldl applyCommit _ _)

/-! ### Kerral changes (R399, R401) -/

theorem completeChange (s : State) (m : KerralMsg) (r : Nat × Bytes) (effect : Nat) : InStep s (s.completeChange m r effect) :=
  carries.completeChange s m r effect

theorem provisionDone (s : State) : InStep s s.provisionDone := by
  unfold State.provisionDone
  split
  · exact refl s
  · exact ite _ (refl s) (completeChange s _ _ _)

theorem queueDestroy (s : State) (x : Change) : InStep s (s.queueDestroy x) := by
  unfold State.queueDestroy
  split
  · exact carries.allJoined s fun _ c => c.queueWriter_ties _
  · exact refl s

theorem provision (s : State) (n : Nat) (officers : List (Nat × Officer)) : InStep s (s.provision n officers) := by
  unfold State.provision
  generalize s.a.rng.generate [] 32 = r
  obtain ⟨bk, g⟩ := r
  dsimp only
  have hbrine (s : State) : InStep s (((s.sluiceMsg .a (.brineKey bk)).upd .a (fun c => c.provision n bk officers)).upd .b
      (fun c => c.provision n bk officers)) :=
    ((sluiceMsg s .a _).trans (upd _ .a fun c => c.provision_ties ..)).trans (upd _ .b fun c => c.provision_ties ..)
  exact ((upd s .a fun _ => by rfl).trans (hbrine _)).trans (updPort _ rfl)

theorem applyChange (s : State) (m : KerralMsg) (x : Change) : InStep s (s.applyChange m x) := by
  unfold State.applyChange
  extract_lets t
  split
  · exact ite _ (completeChange s m _ _) ((provision s _ _).trans (carries.updMsg _ _ _))
  · have hagreed := carries.agreed s (fun c => (c.takeChange m.intakeNo x).2)
    generalize s.agreed (fun c => (c.takeChange m.intakeNo x).2) = r at hagreed ⊢
    obtain ⟨s1, r⟩ := r
    simp -zeta only at hagreed ⊢
    extract_lets s2 s2' s3
    have h2 : InStep s s2 := hagreed.trans (carries.allJoined s1 fun _ c => c.takeChange_ties ..)
    have h2' : InStep s s2' := by
      unfold s2'
      split
      · exact h2.trans (carries.allJoined s2 fun _ c => c.dropWriter_ties _)
      · exact h2
    exact (h2'.orThen _ (updPort s2' (s2'.port.change_time x))).trans (completeChange _ m _ _)

theorem kerralBoundary (s : State) : InStep s s.kerralBoundary := by
  unfold State.kerralBoundary
  extract_lets t
  have ht : InStep s t := provisionDone s
  split
  · exact ht
  · split
    · next x _ _ _ _ =>
      refine ite _ ht ?_
      have hqueued := ht.trans (queueDestroy t x)
      exact ite _ hqueued (hqueued.trans (applyChange _ _ x))
    · exact ht

theorem fenceHold (s : State) (ch : Chan) : InStep s (s.fenceHold ch) := by
  unfold State.fenceHold
  split
  · exact refl s
  · split
    · exact ite _ (refl s) (upd s ch fun _ => by rfl)
    · exact refl s

theorem fenceApply (s : State) (ch : Chan) : InStep s (s.fenceApply ch) := by
  unfold State.fenceApply
  split
  · exact refl s
  · split
    · refine ite _ (refl s) ?_
      extract_lets t
      have ht : InStep s t := upd s ch fun _ => by simp
      exact ite _ ht (ht.trans (completeChange t _ _ _))
    · exact refl s

/-! ### Function resets, waits, planned retirements and rungs (R330, R347) -/

theorem resetBoundaryR (s : State) : InStep s s.resetBoundaryR :=
  (foldl (fun s _ => foldl (fun s ch => ite _ (refl s) (setChan s ch (Channel.resetR_ties ..))) chans s) _ s).trans (updPort _ rfl)

theorem resetBoundaryV (s : State) : InStep s s.resetBoundaryV :=
  foldl (fun s r => ((foldl (fun s ch => ite _ (upd s ch fun c => c.resetV_ties ..) (refl s)) chans s).trans (host _ _)).trans
    (updPort _ (PortDie.resetDone_time _ r))) _ s

theorem applyWait (s : State) (n : Nat) : InStep s (s.applyWait n) := by
  unfold State.applyWait
  split
  · exact refl s
  · split
    · exact refl s
    · exact ite _ (refl s) (((updPort s rfl).trans (upd _ .a fun c => c.applyVerdict_ties ..)).trans
        (upd _ .b fun c => c.applyVerdict_ties ..))

theorem plannedStart (s : State) : InStep s s.plannedStart := by
  unfold State.plannedStart
  split
  · exact refl s
  · refine ite _ (refl s) ?_
    extract_lets t
    have ht : InStep s t := upd s _ fun c => c.writeCheckpoint_ties c.journal.lowWater
    exact ht.trans (updPort t rfl)

theorem svnStart (s : State) (ch : Chan) : InStep s (s.svnStart ch) := by
  unfold State.svnStart
  extract_lets c
  split
  · exact refl s
  · exact ite _ (refl s) (setChan s ch rfl)

theorem portSteps (s : State) : InStep s s.portSteps := by
  unfold State.portSteps
  extract_lets s1 s2 s3 s4 s5
  have h1 : InStep s s1 := (applyCommits s).trans (kerralBoundary _)
  have h2 : InStep s s2 := h1.trans ((fenceHold s1 .a).trans (fenceHold _ .b))
  have h3 : InStep s s3 := h2.trans ((fenceApply s2 .a).trans (fenceApply _ .b))
  have h4 : InStep s s4 := h3.trans ((resetBoundaryR s3).trans (resetBoundaryV _))
  have h5 : InStep s s5 := h4.trans (foldl (fun s v => applyWait s _) _ s4)
  exact h5.trans ((plannedStart s5).trans ((svnStart _ .a).trans (svnStart _ .b)))

/-! ### Epochs, joins and what ends at a boundary (R291, R329, R440) -/

theorem epochClear (s : State) : InStep s s.epochClear := ite _ (refl s) (updPort s rfl)

theorem shareEpochs (s : State) : InStep s s.shareEpochs := by
  unfold State.shareEpochs
  split
  · exact refl s
  · exact ite _ (refl s) (upd s _ fun _ => by rfl)

theorem epochSteps (s : State) : InStep s s.epochSteps :=
  ((foldl (fun s ch => upd s ch fun c => (Channel.renewalDue_ties _).trans (c.epochEffect_ties _)) _ s).trans (epochClear _)).trans
    (shareEpochs _)

theorem joinCapStep (s : State) : InStep s s.joinCapStep := by
  have hcap (s : State) (ch : Chan) :
      InStep s (if s.capsIn ch then s.upd ch (fun c => { c with skim := { c.skim with joinCap := true } }) else s) :=
    ite _ (upd s ch fun _ => by rfl) (refl s)
  exact ((upd s .a fun _ => by rfl).trans (upd _ .b fun _ => by rfl)).trans ((hcap _ .a).trans (hcap _ .b))

theorem sendAll (s : State) (x : Chan) : InStep s (s.sendAll x) :=
  foldl (fun s d => (sluiceMsg s x.peer _).trans (upd _ x fun c => c.takeDelta_ties d)) _ s

theorem joinNow (s : State) (x : Chan) (j : Nat) : InStep s (s.joinNow x j) := by
  unfold State.joinNow
  extract_lets s1 last src writers kept fixed s2 s3
  have h1 : InStep s s1 := (sendAll s x).trans (sluiceMsg _ x.peer _)
  have h2 : InStep s s2 := h1.trans (upd s1 x fun _ => by simp)
  have h3 : InStep s s3 := h2.trans (upd s2 x.peer fun _ => by rfl)
  exact h3.trans (updPort s3 (PortDie.record_time _ _ _))

theorem joinTide (s : State) : InStep s s.joinTide := by
  unfold State.joinTide
  split
  · exact ite _ (refl s) (joinNow s _ _)
  · exact refl s

theorem shareEbb (s : State) : InStep s s.shareEbb :=
  ite _ (refl s) ((upd s .a fun _ => by rfl).trans (upd _ .b fun _ => by rfl))

theorem beginRefill (s : State) (x : Chan) : InStep s (s.beginRefill x) := by
  unfold State.beginRefill
  extract_lets
  exact (upd s x fun _ => by rfl).trans (updPort _ rfl)

theorem firstJoin (s : State) : InStep s s.firstJoin := by
  unfold State.firstJoin
  split
  · exact refl s
  · refine ite _ (refl s) ?_
    extract_lets who s1 s2 s3
    have h1 : InStep s s1 := (shareEbb s).trans (updPort _ rfl)
    have h2 : InStep s s2 := h1.trans (foldl (fun s ch => (upd s ch fun c =>
      (Channel.withEbb_ties _ _).trans (c.joinFirst_ties ..)).trans (updPort _ (PortDie.record_time _ _ _))) _ s1)
    have h3 : InStep s s3 := (h2.trans (updPort s2 rfl)).trans (epochClear _)
    exact h3.trans (foldl (fun s ch => ite _ ((upd s ch fun c => c.toStep_ties _).trans (beginRefill _ ch)) (refl s)) chans s3)

theorem sendOwn (s : State) (h : Header) (intakeNo : Nat) (code : Code) (detail : BitVec 4) :
    InStep s (s.sendOwn h intakeNo code detail) := of_wayOut (.send s _)

theorem writeLost (s : State) (ch : Chan) : InStep s (s.writeLost ch) :=
  (updPort s rfl).trans (foldl (fun s _ => (sendOwn s _ _ _ _).trans (updPort _ rfl)) _ _)

theorem release (s : State) (q : Nat) : InStep s (s.release q) := by
  unfold State.release
  extract_lets x l f waiting t
  have ht : InStep s t := updPort s rfl
  exact ite _ (refl s) (ite _ (ite _ (refl s) (updPort s rfl)) (ht.trans (foldl (fun s e => of_wayOut (.send s e)) l t)))

theorem releaseWaiting (s : State) : InStep s s.releaseWaiting :=
  foldl (fun s q => ite _ (refl s) (release s q)) _ s

theorem portEnds (s : State) : InStep s s.portEnds := by
  unfold State.portEnds
  extract_lets a low s1 s2 s3
  have h1 : InStep s s1 := foldl (fun s ch => upd s ch fun _ => by rfl) _ s
  have h2 : InStep s s2 := h1.trans (releaseWaiting s1)
  have h3 : InStep s s3 := h2.orThen _ (writeLost s2 .a)
  exact h3.orThen _ (writeLost s3 .b)

theorem drawCredits (s : State) : InStep s s.drawCredits := (updPort s rfl).trans (drawn _)

theorem outlasted (s : State) (ch : Chan) : InStep s (s.outlasted ch) :=
  ite _ (refl s) (((upd s ch fun _ => by rfl).trans (respond _ ch _)).trans (finish s _))

end InStep

/-! ### The boundary -/

/-- The count that the boundary opens: one more than the one in force, or than the one adopted (R28, R35). -/
def PortDie.nextTide (p : PortDie) : Nat := p.tides.adoptTo.getD p.tide + 1

/-- A channel as the boundary finds it: its count is set, and its scheduler sees the new tide. -/
def Channel.entered (c : Channel) (ch : Chan) (p : PortDie) (t : Nat) : Channel :=
  if !c.aligned then c
  else
    let c := ((((c.noteWaits p).enterTide t).clearPreempts).schedCycle).programLevels
    if c.start.step == .service then c.sweep ch else c

theorem Channel.entered_clock {c : Channel} (h : c.aligned = true) (ch : Chan) (p : PortDie) (t : Nat) :
    (c.entered ch p t).clock = (t, 0, true) := by
  have haligned : (c.noteWaits p).aligned = true := Channel.aligned_of_clock (Channel.clock_of_ties (c.noteWaits_ties p)) h
  have hset : (((((c.noteWaits p).enterTide t).clearPreempts).schedCycle).programLevels).clock = (t, 0, true) := by
    refine (Channel.clock_of_ties ((Channel.programLevels_ties _).trans ((Channel.schedCycle_ties _).trans
      (Channel.clearPreempts_ties _)))).trans ?_
    exact congrArg (fun b => (t, 0, b)) haligned
  unfold Channel.entered
  rw [if_neg (by simp [h])]
  extract_lets d
  split
  · exact (Channel.clock_of_ties (d.sweep_ties ch)).trans hset
  · exact hset

/-- The port die and the channels with the new count, before the work of the boundary. -/
def State.opened (s : State) : State :=
  let u := s.updPort (·.enterTide)
  (u.upd .a (fun c => c.entered .a u.port u.port.tide)).upd .b (fun c => c.entered .b u.port u.port.tide)

theorem State.opened_time (s : State) : s.opened.port.time = (s.port.nextTide, 0) := by
  unfold State.opened
  simp only [State.upd_port]
  rfl

theorem State.opened_clock {s : State} {ch : Chan} (h : (s.chan ch).aligned = true) :
    (s.opened.chan ch).clock = (s.port.nextTide, 0, true) := by
  cases ch
  · exact Channel.entered_clock h .a _ _
  · exact Channel.entered_clock h .b _ _

/-- The work of the boundary leaves the count that it opened. -/
theorem State.tideBoundary_inStep {s : State} (haligned : s.port.start.aligned = true) (hclock : s.port.start.refclk = true) :
    InStep s.opened s.tideBoundary := by
  unfold State.tideBoundary
  rw [if_neg (by simp [haligned, hclock])]
  extract_lets s1 t enter s2 s3 s4 s5 s6 report
  have h2 : InStep s.opened s2 := (InStep.hearNoise s.opened .a).trans (.hearNoise _ .b)
  have h3 : InStep s.opened s3 :=
    h2.trans ((InStep.alignLater s2).trans ((InStep.portSteps _).trans ((InStep.epochSteps _).trans (.joinCapStep _))))
  have h4 : InStep s.opened s4 := h3.trans ((InStep.upd s3 .a fun c => c.boundary_ties _).trans (.upd _ .b fun c => c.boundary_ties _))
  have h5 : InStep s.opened s5 :=
    h4.trans ((InStep.joinTide s4).trans ((InStep.firstJoin _).trans ((InStep.portEnds _).trans (.drawCredits _))))
  have h6 : InStep s.opened s6 := h5.trans ((InStep.outlasted s5 .a).trans (.outlasted _ .b))
  have hreport (c : Channel) : (report c).ties = c.ties := by
    unfold report
    split
    · exact c.report_ties
    · rfl
  exact h6.trans ((InStep.upd s6 .a hreport).trans (.upd _ .b hreport))

/-- Settles O21: the boundary opens the next count, and its work leaves it. -/
theorem boundaryOpensTheNextTide : Obligations.BoundaryOpensTheNextTide := by
  intro s haligned hclock
  have hstep : InStep s.opened (s.finish s.tideBoundary) :=
    (State.tideBoundary_inStep haligned hclock).trans (InStep.finish s _)
  have htime : (s.finish s.tideBoundary).port.time = (s.port.nextTide, 0) := hstep.port.trans s.opened_time
  have htide : (s.finish s.tideBoundary).port.tide = s.port.nextTide := congrArg Prod.fst htime
  refine ⟨_, rfl, htide, congrArg Prod.snd htime, fun ch hch => ?_⟩
  have hopened := State.opened_clock hch
  have hchan := (hstep.chan ch (congrArg (·.2.2) hopened)).trans hopened
  exact ⟨(congrArg Prod.fst hchan).trans htide.symm, congrArg (·.2.1) hchan⟩

end Sys2Proof.Machine
end

section
/-! Fields at their offsets: the 32 bytes of a header (O8) and the 64-byte entries of a completion (O9). -/

namespace Sys2Proof

@[simp] theorem leBytes_length (k n : Nat) : (leBytes k n).length = k := by
  induction k generalizing n with
  | zero => rfl
  | succ k ih => simp [leBytes, ih]

/-- `k` little-endian bytes spell the number modulo 256 to the `k`. -/
@[simp] theorem leNat_leBytes (k n : Nat) : leNat (leBytes k n) = n % 256 ^ k := by
  induction k generalizing n with
  | zero => simp [leBytes, leNat, Nat.mod_one]
  | succ k ih =>
    have hbyte : (byte n).toNat = n % 256 := BitVec.toNat_ofNat n 8
    rw [leBytes, leNat, ih, hbyte, Nat.pow_succ', Nat.mod_mul]

@[simp] theorem slice_length (bs : Bytes) (o k : Nat) : (slice bs o k).length = k := by
  simp only [slice, zeros, List.length_append, List.length_replicate]
  have := List.length_take_le k (bs.drop o)
  omega

@[simp] theorem fitR_length (n : Nat) (bs : Bytes) : (fitR n bs).length = n := by
  simp only [fitR, zeros, List.length_append, List.length_take, List.length_replicate]
  omega

/-! ### Fields at their offsets -/

theorem slice_append_left {a : Bytes} (b : Bytes) {o k : Nat} (h : o + k ≤ a.length) : slice (a ++ b) o k = slice a o k := by
  have hdrop : (a ++ b).drop o = a.drop o ++ b := List.drop_append_of_le_length (by omega)
  have htake : (a.drop o ++ b).take k = (a.drop o).take k := List.take_append_of_le_length (by rw [List.length_drop]; omega)
  simp only [slice, hdrop, htake]

theorem slice_append_right {a : Bytes} (b : Bytes) {o : Nat} (k : Nat) (h : a.length ≤ o) :
    slice (a ++ b) o k = slice b (o - a.length) k := by
  simp only [slice, List.drop_append, List.drop_eq_nil_of_le h, List.nil_append]

theorem leAt_append_left {a : Bytes} (b : Bytes) {o k : Nat} (h : o + k ≤ a.length) : leAt (a ++ b) o k = leAt a o k := by
  rw [leAt, slice_append_left b h, leAt]

theorem leAt_append_right {a : Bytes} (b : Bytes) {o : Nat} (k : Nat) (h : a.length ≤ o) :
    leAt (a ++ b) o k = leAt b (o - a.length) k := by
  rw [leAt, slice_append_right b k h, leAt]

theorem u8_append_left {a : Bytes} (b : Bytes) {o : Nat} (h : o < a.length) : u8 (a ++ b) o = u8 a o := by
  rw [u8, List.getD_append _ _ _ _ h, u8]

theorem u8_append_right {a : Bytes} (b : Bytes) {o : Nat} (h : a.length ≤ o) : u8 (a ++ b) o = u8 b (o - a.length) := by
  rw [u8, List.getD_append_right _ _ _ _ h, u8]

theorem slice_zero_of_length {bs : Bytes} {k : Nat} (h : bs.length = k) : slice bs 0 k = bs := by
  subst h
  simp [slice, zeros]

@[simp] theorem leAt_leBytes (k n : Nat) : leAt (leBytes k n) 0 k = leNat (leBytes k n) := by
  rw [leAt, slice_zero_of_length (leBytes_length k n)]

@[simp] theorem u8_leBytes_two (n : Nat) : u8 (leBytes 2 n) 1 = (byte (n / 256)).toNat := rfl

@[simp] theorem u8_cons_zero (b : Byte) (bs : Bytes) : u8 (b :: bs) 0 = b.toNat := rfl

@[simp] theorem u8_cons_one (a b : Byte) (bs : Bytes) : u8 (a :: b :: bs) 1 = b.toNat := rfl

/-- A field of at least `w` bits, read into a word of `w` bits. -/
theorem ofNat_leNat_leBytes {w k : Nat} (n : Nat) (hw : w ≤ 8 * k) : BitVec.ofNat w (leNat (leBytes k n)) = BitVec.ofNat w n := by
  apply BitVec.eq_of_toNat_eq
  rw [leNat_leBytes, BitVec.toNat_ofNat, BitVec.toNat_ofNat, show 256 = 2 ^ 8 from rfl, ← Nat.pow_mul]
  exact Nat.mod_mod_of_dvd n (Nat.pow_dvd_pow 2 hw)

theorem ofNat_leNat_leBytes_toNat {w k : Nat} (x : BitVec w) (hw : w ≤ 8 * k) :
    BitVec.ofNat w (leNat (leBytes k x.toNat)) = x := by
  rw [ofNat_leNat_leBytes _ hw, BitVec.ofNat_toNat, BitVec.setWidth_eq]

namespace Machine

/-- Byte 0 of a header: VERSION and four flags (R44). -/
theorem headerByte0 (v : BitVec 4) (a b c d : Bool) :
    let x := (byte (v.toNat + 16 * a.toNat + 32 * b.toNat + 64 * c.toNat + 128 * d.toNat)).toNat
    BitVec.ofNat 4 x = v ∧ x.testBit 4 = a ∧ x.testBit 5 = b ∧ x.testBit 6 = c ∧ x.testBit 7 = d := by
  decide +revert

/-- Byte 6 of a header: CLASS, PRIORITY and two reserved bits (R44). -/
theorem headerByte6 (c p : BitVec 3) (r : BitVec 2) :
    let x := (byte (c.toNat + 8 * p.toNat + 64 * r.toNat)).toNat
    BitVec.ofNat 3 x = c ∧ BitVec.ofNat 3 (x / 8) = p ∧ BitVec.ofNat 2 (x / 64) = r := by
  decide +revert

/-- Byte 7 of a header: DEP_COUNT and five reserved bits (R44). -/
theorem headerByte7 (n : BitVec 3) (r : BitVec 5) :
    let x := (byte (n.toNat + 8 * r.toNat)).toNat
    BitVec.ofNat 3 x = n ∧ BitVec.ofNat 5 (x / 8) = r := by
  decide +revert

/-- Bytes 18 and 19 of a header: WAIT_VALUE and WAIT_SCALE (R44). -/
theorem headerWait (w : BitVec 15) (s : Bool) :
    BitVec.ofNat 15 (leNat (leBytes 2 (w.toNat + 2 ^ 15 * s.toNat))) = w
    ∧ (byte ((w.toNat + 2 ^ 15 * s.toNat) / 256)).toNat.testBit 7 = s := by
  refine ⟨BitVec.eq_of_toNat_eq ?_, ?_⟩
  · rw [ofNat_leNat_leBytes _ (by decide)]
    simp only [BitVec.toNat_ofNat]
    omega
  · rw [Nat.testBit_eq_decide_div_mod_eq]
    cases s <;> simp [byte] <;> omega

/-- Bytes 20 to 23 of a header: DELAY and twelve reserved bits (R44). -/
theorem headerDelay (d : BitVec 20) (r : BitVec 12) :
    BitVec.ofNat 20 (leNat (leBytes 4 (d.toNat + 2 ^ 20 * r.toNat))) = d
    ∧ BitVec.ofNat 12 (leNat (leBytes 4 (d.toNat + 2 ^ 20 * r.toNat)) / 2 ^ 20) = r := by
  constructor <;> apply BitVec.eq_of_toNat_eq <;> simp only [leNat_leBytes, BitVec.toNat_ofNat] <;> omega

theorem Header.bytes_length (h : Header) (ht : h.tokens.length = 4) : h.bytes.length = 32 := by
  obtain ⟨t0, t1, t2, t3, htok⟩ := List.length_eq_four.mp ht
  simp [Header.bytes, htok]

/-- The header that its own bytes spell, whatever follows them: every field stands at its offset (R44). -/
theorem Header.parse_bytes (h : Header) (rest : Bytes) (ht : h.tokens.length = 4) : Header.parse (h.bytes ++ rest) = h := by
  obtain ⟨t0, t1, t2, t3, htok⟩ := List.length_eq_four.mp ht
  obtain ⟨hv, ha, hb, hc, hd⟩ := headerByte0 h.version h.halved h.assayed h.notBefore h.reserved0
  obtain ⟨hcls, hpri, hr6⟩ := headerByte6 h.cls h.priority h.reserved6
  obtain ⟨hdep, hr7⟩ := headerByte7 h.depCount h.reserved7
  obtain ⟨hwait, hscale⟩ := headerWait h.waitValue h.waitScale
  obtain ⟨hdelay, hr20⟩ := headerDelay h.delay h.reserved20
  have hfn : byte h.function.toNat = h.function := by rw [byte, BitVec.ofNat_toNat, BitVec.setWidth_eq]
  have hword {w k : Nat} (x : BitVec w) (hw : w ≤ 8 * k) := ofNat_leNat_leBytes_toNat (k := k) x hw
  simp (disch := simp) only [Header.parse, Header.bytes, htok, List.map_cons, List.map_nil, List.flatten_cons,
    List.flatten_nil, List.append_assoc, List.append_nil, leAt_append_left, leAt_append_right, u8_append_left, u8_append_right,
    List.length_cons, List.length_nil, leBytes_length, Nat.reduceAdd, Nat.reduceSub, Nat.sub_self, leAt_leBytes, u8_leBytes_two,
    u8_cons_zero, u8_cons_one, hword, hv, ha, hb, hc, hd, hfn, hcls, hpri, hr6, hdep, hr7, hwait, hscale, hdelay, hr20]
  rw [← htok]

/-- Settles O8. -/
theorem headerBytesRoundTrip : Obligations.HeaderBytesRoundTrip := fun h rest ht =>
  ⟨h.bytes_length ht, h.parse_bytes rest ht⟩

/-! ### The entries of a completion (R59, R60) -/

/-- The FLAGS byte holds its three fields. -/
theorem flagsByte_toNat (tag : BitVec 2) (ext phase : Bool) :
    (flagsByte tag ext phase).toNat = tag.toNat + 4 * ext.toNat + 8 * phase.toNat := by
  decide +revert

/-- The bytes of a first entry from 24 on: the inline result, or RESULT_LEN and the first 38 bytes. -/
def CompRec.tail (r : CompRec) : Bytes :=
  if r.ext then leBytes 2 r.result.length ++ r.result.take 38 else fitR 40 r.result

theorem CompRec.tail_of_inline {r : CompRec} (h : r.ext = false) : r.tail = fitR 40 r.result := by
  rw [CompRec.tail, h, if_neg Bool.false_ne_true]

theorem CompRec.tail_of_ext {r : CompRec} (h : r.ext = true) : r.tail = leBytes 2 r.result.length ++ r.result.take 38 := by
  rw [CompRec.tail, if_pos h]

/-- An extended result gives its first 38 bytes to the first entry. -/
theorem CompRec.take_length_of_ext {r : CompRec} (h : r.ext = true) : (r.result.take 38).length = 38 := by
  have hlong : 40 < r.result.length := by simpa [CompRec.ext] using h
  rw [List.length_take]
  omega

@[simp] theorem CompRec.tail_length (r : CompRec) : r.tail.length = 40 := by
  cases h : r.ext with
  | false => rw [r.tail_of_inline h, fitR_length]
  | true => rw [r.tail_of_ext h, List.length_append, leBytes_length, r.take_length_of_ext h]

/-- A first entry, field after field. -/
theorem CompRec.first_eq (r : CompRec) (tag : BitVec 2) (single phase : Bool) :
    r.first tag single phase = leBytes 4 r.seq.toNat ++ (leBytes 2 r.queue.toNat
      ++ (leBytes 2 (statusWord r.code r.detail r.missed single) ++ (leBytes 8 r.check.toNat ++ (leBytes 4 r.tideLo.toNat
      ++ (leBytes 3 (min 0xFFFFFF r.cycles) ++ ([flagsByte tag r.ext phase] ++ r.tail)))))) := by
  simp only [CompRec.first, CompRec.tail, List.append_assoc]

@[simp] theorem CompRec.first_length (r : CompRec) (tag : BitVec 2) (single phase : Bool) :
    (r.first tag single phase).length = 64 := by
  simp [CompRec.first_eq]

theorem CompRec.slice_first_tail (r : CompRec) (tag : BitVec 2) (single phase : Bool) (o k : Nat) :
    slice (r.first tag single phase) (24 + o) k = slice r.tail o k := by
  have hfirst : r.first tag single phase = leBytes 4 r.seq.toNat ++ leBytes 2 r.queue.toNat
      ++ leBytes 2 (statusWord r.code r.detail r.missed single) ++ leBytes 8 r.check.toNat ++ leBytes 4 r.tideLo.toNat
      ++ leBytes 3 (min 0xFFFFFF r.cycles) ++ [flagsByte tag r.ext phase] ++ r.tail := rfl
  rw [hfirst, slice_append_right _ _ (by simp)]
  simp

/-- The status word is two bytes: the code is one, and DETAIL and two flags are six bits (R59). -/
theorem statusWord_lt (code : Code) (detail : BitVec 4) (missed single : Bool) : statusWord code detail missed single < 65536 := by
  have hcode : code.num < 256 := by cases code <;> decide
  have hmissed := missed.toNat_le
  have hsingle := single.toNat_le
  have hdetail := detail.isLt
  unfold statusWord
  omega

/-- The fields of a first entry at their offsets (R59). -/
theorem CompRec.first_fields (r : CompRec) (tag : BitVec 2) (single phase : Bool) :
    let e := r.first tag single phase
    leAt e 0 4 = r.seq.toNat ∧ leAt e 4 2 = r.queue.toNat ∧ leAt e 6 2 = statusWord r.code r.detail r.missed single
    ∧ leAt e 8 8 = r.check.toNat ∧ leAt e 16 4 = r.tideLo.toNat ∧ leAt e 20 3 = min 0xFFFFFF r.cycles
    ∧ u8 e 23 = tag.toNat + 4 * r.ext.toNat + 8 * phase.toNat := by
  have hstatus := statusWord_lt r.code r.detail r.missed single
  simp (disch := simp) only [CompRec.first_eq, leAt_append_left, leAt_append_right, u8_append_left, u8_append_right,
    leBytes_length, Nat.reduceSub, Nat.sub_self, leAt_leBytes, leNat_leBytes, Nat.reducePow, u8_cons_zero, flagsByte_toNat,
    and_true]
  omega

/-- A continuation entry: 23 bytes of the result, FLAGS, and the next 40. -/
theorem CompRec.continuation_eq (r : CompRec) (k : Nat) (phase : Bool) :
    r.continuation k phase = (slice r.result (38 + 63 * (k - 1)) 63).take 23
      ++ ([flagsByte 0#2 false phase] ++ (slice r.result (38 + 63 * (k - 1)) 63).drop 23) := by
  simp only [CompRec.continuation, List.append_assoc]

@[simp] theorem CompRec.continuation_length (r : CompRec) (k : Nat) (phase : Bool) : (r.continuation k phase).length = 64 := by
  simp [CompRec.continuation_eq]

theorem CompRec.continuation_fields (r : CompRec) (k : Nat) (phase : Bool) :
    u8 (r.continuation k phase) 23 = 8 * phase.toNat
    ∧ slice (r.continuation k phase) 0 23 ++ slice (r.continuation k phase) 24 40 = slice r.result (38 + 63 * (k - 1)) 63 := by
  rw [CompRec.continuation_eq]
  generalize hd : slice r.result (38 + 63 * (k - 1)) 63 = d
  have hlen : d.length = 63 := by rw [← hd, slice_length]
  have htake : (d.take 23).length = 23 := by simp [hlen]
  have hdrop : (d.drop 23).length = 40 := by simp [hlen]
  constructor
  · rw [u8_append_right _ (by omega), htake, u8_append_left _ (by simp), u8_cons_zero, flagsByte_toNat]
    simp
  · rw [slice_append_left _ (by omega), slice_zero_of_length htake, slice_append_right _ _ (by omega), htake,
      slice_append_right _ _ (by simp), List.length_singleton, slice_zero_of_length hdrop, List.take_append_drop]

/-- Settles O9. -/
theorem completionEntryLayout : Obligations.CompletionEntryLayout := by
  intro r tag single phase hlt
  obtain ⟨hseq, hqueue, hstatus, hcheck, htide, hcycles, hflags⟩ := r.first_fields tag single phase
  have htail := r.slice_first_tail tag single phase
  refine ⟨r.first_length tag single phase, hseq, hqueue, hstatus, hcheck, htide, hcycles, hflags, fun hshort => ?_,
    fun hlong => ⟨?_, ?_⟩, fun k _ => ⟨r.continuation_length k phase, r.continuation_fields k phase⟩, ?_⟩
  · rw [htail 0 40, slice_zero_of_length r.tail_length, r.tail_of_inline hshort]
  · rw [leAt, htail 0 2, r.tail_of_ext hlong, slice_append_left _ (by simp), slice_zero_of_length (leBytes_length _ _),
      leNat_leBytes]
    exact Nat.mod_eq_of_lt hlt
  · rw [htail 2 38, r.tail_of_ext hlong, slice_append_right _ _ (by simp), leBytes_length,
      slice_zero_of_length (r.take_length_of_ext hlong)]
  · simp only [CompRec.entries, CompRec.ext, ceilDiv, decide_eq_true_eq]
    split_ifs <;> omega

end Machine
end Sys2Proof
end

section
/-! Host memory holds whole lines (O5, O6): `hostLine` is the one write of its lines, and every meaning that reaches it puts a
line of 64 bytes there. The predicate is carried through the functions of the model, in the order of the model. -/

namespace Sys2Proof.Machine

/-- Every line the device has put into host memory has 64 bytes, and the lines rise strictly by address. -/
def State.LinesWhole (s : State) : Prop := SMap.sorted s.host.lines = true ∧ ∀ w ∈ s.host.lines, w.2.length = 64

/-- Every entry of a completion is a whole line (R59, R60). -/
theorem CompRec.length_of_mem_ringEntries {r : CompRec} {tag : BitVec 2} {single phase : Bool} {n write : Nat}
    {w : Nat × Bytes} (hw : w ∈ r.ringEntries tag single n write phase) : w.2.length = 64 := by
  simp only [CompRec.ringEntries, List.mem_append, List.mem_map, List.mem_singleton] at hw
  rcases hw with ⟨j, -, rfl⟩ | rfl
  · exact r.continuation_length _ _
  · exact r.first_length _ _ _

namespace State.LinesWhole

variable {s t u : State}

theorem of_lines (h : s.LinesWhole) (hlines : t.host.lines = s.host.lines) : t.LinesWhole := by
  unfold LinesWhole
  rwa [hlines]

theorem ite (b : Prop) [Decidable b] (ht : t.LinesWhole) (hu : u.LinesWhole) : (if b then t else u).LinesWhole := by
  split
  · exact ht
  · exact hu

theorem foldl {α : Type} {l : List α} {f : State → α → State} (h : s.LinesWhole)
    (hf : ∀ t, ∀ x ∈ l, t.LinesWhole → (f t x).LinesWhole) : (l.foldl f s).LinesWhole := by
  induction l generalizing s with
  | nil => exact h
  | cons x l ih => exact ih (hf s x (List.mem_cons_self ..) h) fun t y hy => hf t y (List.mem_cons_of_mem x hy)

theorem of_next (hnext : (.next u : Out) = .next t) (hu : u.LinesWhole) : t.LinesWhole := Host.Outcome.next.inj hnext ▸ hu

/-! ### The writes of the state -/

theorem updPort (h : s.LinesWhole) (f : PortDie → PortDie) : (s.updPort f).LinesWhole := h

theorem setPort (h : s.LinesWhole) (p : PortDie) : { s with port := p }.LinesWhole := h

theorem setFree (h : s.LinesWhole) (n : Nat) : { s with free := n }.LinesWhole := h

theorem tick (h : s.LinesWhole) : s.tick.LinesWhole := h

theorem drawn (h : s.LinesWhole) : s.drawn.LinesWhole := h

theorem setChan (h : s.LinesWhole) (ch : Chan) (c : Channel) : (s.setChan ch c).LinesWhole := by cases ch <;> exact h

theorem upd (h : s.LinesWhole) (ch : Chan) (f : Channel → Channel) : (s.upd ch f).LinesWhole := h.setChan ch _

/-- Every one of a list of channels is updated. -/
theorem foldlUpd (h : s.LinesWhole) (l : List Chan) (f : State → Channel → Channel) :
    (l.foldl (fun s ch => s.upd ch (f s)) s).LinesWhole :=
  h.foldl fun _ ch _ ht => ht.upd ch _

theorem finish (h : s.LinesWhole) (old : State) : (old.finish s).LinesWhole := h.of_lines (by simp)

/-- A line of 64 bytes takes its place among the lines: the one write of host memory. -/
theorem hostLine (h : s.LinesWhole) (f addr : Nat) {line : Bytes} (hline : line.length = 64) :
    (s.hostLine f addr line).LinesWhole := by
  obtain ⟨hsorted, hlen⟩ := h
  refine ⟨?_, fun w hw => ?_⟩
  · have hwf : SMap.wf [] s.host.lines = true := (SMap.wf_iff _ _).mpr ⟨(SMap.sorted_iff _).mp hsorted, fun w hw hnil => by
      have := hlen w hw
      simp [hnil] at this⟩
    have hne : line ≠ [] := fun hnil => by simp [hnil] at hline
    exact (SMap.sorted_iff _).mpr ((SMap.wf_iff _ _).mp (SMap.wf_insert hne hwf)).1
  · rcases SMap.mem_insert hw with rfl | hold
    · exact hline
    · exact hlen w hold

/-! ### Errors, events and interrupts -/

theorem raise (h : s.LinesWhole) (f v : Nat) : (s.raise f v).LinesWhole := .ite _ h (.ite _ h h)

theorem raiseError (h : s.LinesWhole) (f : Nat) : (s.raiseError f).LinesWhole := .ite _ (h.raise f _) h

theorem fnErr (h : s.LinesWhole) (f : Nat) (e : FnErr) : (s.fnErr f e).LinesWhole :=
  .ite _ (h.updPort _) ((h.updPort _).raiseError f)

theorem errCause (h : s.LinesWhole) (e : ErrCause) : (s.errCause e).LinesWhole :=
  .ite _ (h.updPort _) ((h.updPort _).raiseError 0)

theorem devEvent (h : s.LinesWhole) (f : Global → Global) : (s.devEvent f).LinesWhole := (h.updPort _).errCause _

theorem dmaFault (h : s.LinesWhole) (f kind q addr : Nat) (part : Bool) : (s.dmaFault f kind q addr part).LinesWhole :=
  (h.updPort _).fnErr f _

theorem signal (h : s.LinesWhole) (q : Nat) : (s.signal q).LinesWhole := .ite _ (h.fnErr _ _) ((h.updPort _).raise _ _)

theorem moderate (h : s.LinesWhole) (q : Nat) : (s.moderate q).LinesWhole := .ite _ ((h.updPort _).signal q) (h.updPort _)

theorem drain (h : s.LinesWhole) : s.drain.LinesWhole := h

/-! ### The way out (R58 to R69) -/


theorem emit (h : s.LinesWhole) (e : Egress) : (s.emit e).LinesWhole := by
  unfold State.emit
  extract_lets q f x es addr good bad s1 n s2 s3
  have h1 : s1.LinesWhole := h.foldl fun _ w hw ht =>
    ht.hostLine f _ (CompRec.length_of_mem_ringEntries (List.mem_of_mem_filter hw))
  have h3 : s3.LinesWhole := foldl (h1.updPort _) fun _ _ _ ht => ht.dmaFault _ _ _ _ _
  exact h3.moderate q

theorem requestReset (h : s.LinesWhole) (fns : List Nat) (all egress : Bool) : (s.requestReset fns all egress).LinesWhole :=
  .ite _ h h

theorem hold (h : s.LinesWhole) (e : Egress) : (s.hold e).LinesWhole := .ite _ (h.requestReset _ _ _) (h.updPort _)

theorem send (h : s.LinesWhole) (e : Egress) : (s.send e).LinesWhole :=
  .ite _ h (.ite _ (h.hold e) (.ite _ ((h.updPort _).hold e) (.ite _ (h.emit e) (.ite _ (h.updPort _) (h.hold e)))))

theorem sendOwn (h : s.LinesWhole) (x : Header) (n : Nat) (code : Code) (detail : BitVec 4) :
    (s.sendOwn x n code detail).LinesWhole := h.send _

theorem sendRecord (h : s.LinesWhole) (r : CompRec) (tag : BitVec 2) (single : Bool) :
    (s.sendRecord r tag single).LinesWhole := h.send _

theorem drainPassing (h : s.LinesWhole) (n : Nat) : (s.drainPassing n).LinesWhole := by
  induction n generalizing s with
  | zero => exact h
  | succ n ih =>
    unfold State.drainPassing
    split
    · exact h
    · split
      · exact h
      · exact ih ((h.updPort _).emit _)

theorem holdPassing (h : s.LinesWhole) (f : Nat) : (s.holdPassing f).LinesWhole :=
  foldl (h.updPort _) fun _ e _ ht => ht.hold e

theorem release (h : s.LinesWhole) (q : Nat) : (s.release q).LinesWhole :=
  .ite _ h (.ite _ (.ite _ h (h.updPort _)) (foldl (h.updPort _) fun _ e _ ht => ht.send e))

theorem releaseWaiting (h : s.LinesWhole) : s.releaseWaiting.LinesWhole :=
  h.foldl fun _ q _ ht => .ite _ ht (ht.release q)

theorem releaseFn (h : s.LinesWhole) (f : Nat) : (s.releaseFn f).LinesWhole := h.foldl fun _ q _ ht => ht.release q

theorem intakeDrop (h : s.LinesWhole) (f cause : Nat) (q : BitVec 16) (attributed : Bool) :
    (Machine.intakeDrop s f cause q attributed).LinesWhole := (h.updPort _).fnErr f _

theorem writeCqHead (h : s.LinesWhole) (f : Nat) (v : Word) : (s.writeCqHead f v).LinesWhole :=
  .ite _ h (.ite _ (h.intakeDrop _ _ _ _) ((h.updPort _).release _))

/-! ### The assay (R304 to R325) -/

theorem writeOffOne (h : s.LinesWhole) (x : Chan) (o : Outst) : (s.writeOffOne x o).LinesWhole := by
  unfold State.writeOffOne
  have hfinal {t : State} (ht : t.LinesWhole) (b : Prop) [Decidable b] (f g : PortDie → PortDie) :
      (if b then t.updPort f else (t.updPort f).updPort g).LinesWhole := .ite _ (ht.updPort f) ((ht.updPort f).updPort g)
  refine .ite _ h (.ite _ h ?_)
  dsimp only
  split
  · exact .ite _ (hfinal (h.sendRecord _ _ _) _ _ _) (hfinal h _ _ _)
  · exact .ite _ (h.updPort _) (hfinal h _ _ _)

theorem soloFault (h : s.LinesWhole) (x : Chan) : (s.soloFault x).LinesWhole := h.updPort _

theorem probeOver (h : s.LinesWhole) : s.probeOver.LinesWhole := .ite _ h ((h.upd .a _).upd .b _)

theorem probeFrom (h : s.LinesWhole) (n : Nat) : (s.probeFrom n).LinesWhole := (h.upd .a _).upd .b _

theorem writeHeldRng (h : s.LinesWhole) (x : Chan) : (s.writeHeldRng x).LinesWhole := by
  refine h.foldl fun t o _ ht => ?_
  split
  · exact .ite _ ((ht.sendRecord _ _ _).updPort _) ht
  · exact ht

theorem retire (h : s.LinesWhole) (x : Chan) (cause : Nat) : (s.retire x cause).LinesWhole := by
  unfold State.retire
  refine .ite _ h (.ite _ ((h.soloFault x).writeHeldRng x) ?_)
  exact updPort (foldl (((h.probeOver.setPort _).devEvent _).upd x _) fun _ o _ ht => ht.writeOffOne x o) _

theorem inTime (h : s.LinesWhole) (ch : Chan) (cls : BitVec 3) : (s.inTime ch cls).LinesWhole := .ite _ (h.updPort _) h

theorem late (h : s.LinesWhole) (ch : Chan) (cls : BitVec 3) : (s.late ch cls).LinesWhole :=
  .ite _ h (.ite _ (.ite _ ((h.updPort _).retire ch 3) (h.updPort _)) (h.updPort _))

theorem verdict (h : s.LinesWhole) (x : Chan) (v cause : Nat) : (s.verdict x v cause).LinesWhole := (h.updPort _).retire x cause

theorem discord (h : s.LinesWhole) (o : Outst) : (s.discord o).LinesWhole := by
  unfold State.discord
  have hlogged {f : PortDie → PortDie} : ((s.updPort f).errCause .discord).LinesWhole := (h.updPort f).errCause _
  refine .ite _ hlogged ?_
  dsimp only
  split
  · exact hlogged.verdict _ 1 0
  · exact (hlogged.probeFrom _).updPort _

theorem probeVerdict (h : s.LinesWhole) (r : Resolve) (o : Outst) : (s.probeVerdict r o).LinesWhole :=
  .ite _ (h.verdict .b 2 1) (.ite _ (h.verdict .a 2 1) ((h.updPort _).verdict _ _ 2))

theorem tryProbe (h : s.LinesWhole) : s.tryProbe.LinesWhole := by
  unfold State.tryProbe
  split
  · exact h
  · split
    · exact h.probeOver.updPort _
    · exact .ite _ (h.probeVerdict _ _) h

theorem keepGot (h : s.LinesWhole) (ch : Chan) (o : Outst) (r : CompRec) : (s.keepGot ch o r).LinesWhole := h.updPort _

theorem firstArrival (h : s.LinesWhole) (ch : Chan) (o : Outst) (r : CompRec) : (s.firstArrival ch o r).LinesWhole := by
  unfold State.firstArrival
  refine .ite _ (h.keepGot ch o r) (.ite _ ((ite _ h (h.sendRecord _ _ _)).updPort _) ?_)
  have hkept {b : Prop} [Decidable b] {f : PortDie → PortDie} : ((if b then s else s.inTime ch o.cls).updPort f).LinesWhole :=
    (ite b h (h.inTime ch _)).updPort f
  exact .ite _ (hkept.sendRecord _ _ _) hkept

theorem secondArrival (h : s.LinesWhole) (ch : Chan) (o : Outst) (x y : CompRec) : (s.secondArrival ch o x y).LinesWhole := by
  unfold State.secondArrival
  extract_lets late done lateness cmp lone
  have hdone {t : State} (ht : t.LinesWhole) : (done t).LinesWhole := ht.updPort _
  have hlateness {t : State} (ht : t.LinesWhole) : (lateness t).LinesWhole := .ite _ (.ite _ ht (ht.late ch _)) (ht.inTime ch _)
  have hlone {t : State} (ht : t.LinesWhole) : (lone t).LinesWhole := .ite _ (ht.sendRecord _ _ _) ht
  cases cmp with
  | agree =>
    exact hlateness (hdone (.ite _ (.ite _ (hlone h) (h.sendRecord _ _ _)) (.ite _ h (h.sendRecord _ _ _))))
  | withdrawal =>
    have hc := h.updPort fun p => { p with assay := { p.assay with withdrawalPairs := satBv p.assay.withdrawalPairs 1 } }
    exact hlateness (hdone (.ite _ (.ite _ (hlone hc) (hc.sendRecord _ _ _)) (.ite _ hc (hc.sendRecord _ _ _))))
  | generator =>
    have hc := h.updPort fun p => { p with assay := { p.assay with generatorPairs := satBv p.assay.generatorPairs 1 } }
    exact hdone (.ite _ (.ite _ hc (hc.sendRecord _ _ _)) (.ite _ hc (hc.sendRecord _ _ _)))
  | discord => exact hlateness (discord (updPort (.ite _ (hlone h) (.ite _ h (h.sendRecord _ _ _))) _) _)

theorem portArrive (h : s.LinesWhole) (ch : Chan) (r : CompRec) : (s.portArrive ch r).LinesWhole := by
  unfold State.portArrive
  refine .ite _ h ?_
  split
  · exact h
  · refine .ite _ h (.ite _ (h.keepGot _ _ _) (.ite _ ((h.sendRecord _ _ _).updPort _) ?_))
    split
    · exact h.firstArrival _ _ _
    · exact h.secondArrival _ _ _ _

theorem takeReport (h : s.LinesWhole) (ch : Chan) : (s.takeReport ch).LinesWhole := by
  unfold State.takeReport
  split
  · exact h
  · exact (h.upd ch _).updPort _

theorem retireTogether (h : s.LinesWhole) (a b : Bool) (cause : Nat) : (s.retireTogether a b cause).LinesWhole :=
  match a, b with
  | true, true => (h.retire _ _).soloFault _
  | true, false => h.retire .a _
  | false, true => h.retire .b _
  | false, false => h

theorem judgeNow (h : s.LinesWhole) : s.judgeNow.LinesWhole := h.retireTogether _ _ _

theorem judge (h : s.LinesWhole) : s.judge.LinesWhole := .ite _ h.judgeNow h

theorem takeFault (h : s.LinesWhole) (ch : Chan) : (s.takeFault ch).1.LinesWhole := by
  unfold State.takeFault
  extract_lets r s1
  have h1 : s1.LinesWhole := h.setChan ch _
  split
  · exact h1
  · exact .ite _ (h1.updPort _) h1

theorem writeLost (h : s.LinesWhole) (ch : Chan) : (s.writeLost ch).LinesWhole :=
  foldl (h.updPort _) fun _ _ _ ht => (ht.sendOwn _ _ _ _).updPort _

theorem takeFaults (h : s.LinesWhole) (ch : Chan) (n : Nat) : (s.takeFaults ch n).LinesWhole := by
  induction n generalizing s with
  | zero => exact h
  | succ n ih => exact ih (.ite _ ((h.takeFault ch).retire ch 4) (h.takeFault ch))

theorem reportFirst (h : s.LinesWhole) (ch : Chan) (r : CompRec) : (s.reportFirst ch r).LinesWhole :=
  .ite _ (h.takeFaults ch _) h

theorem arrive (h : s.LinesWhole) (ch : Chan) : (s.arrive ch).LinesWhole := by
  unfold State.arrive
  refine .ite _ h ?_
  split
  · exact h
  · exact ((h.upd ch _).reportFirst ch _).portArrive ch _

theorem arrivals (h : s.LinesWhole) (who : Arrivals) : (s.arrivals who).LinesWhole :=
  match who with
  | .one ch => h.arrive ch
  | .both => (h.arrive .a).arrive .b

theorem expire (h : s.LinesWhole) (o : Outst) (r : CompRec) (x : Chan) : (windowExpiry.expire s o r x).LinesWhole := by
  unfold windowExpiry.expire
  extract_lets write s1
  have h1 : s1.LinesWhole := h.updPort _
  exact .ite _ h1 (late (.ite _ (h1.sendRecord _ _ _) h1) x _)

theorem windowExpiry (h : s.LinesWhole) (o : Outst) : (s.windowExpiry o).LinesWhole := by
  unfold State.windowExpiry
  split
  · exact .ite _ (h.expire _ _ _) h
  · exact .ite _ (h.expire _ _ _) h
  · exact h

/-! ### Commits, the access control unit and intake (R54, R352, R423) -/

theorem commitBlock {α : Type} [BEq α] (h : s.LinesWhole) (shadow : Channel → α) (f g : Channel → Channel)
    (keep : Channel → Kept → Kept) : (s.commitBlock shadow f g keep).1.LinesWhole := by
  unfold State.commitBlock
  split
  · have ha : (if s.port.joined .a then s.upd .a f else s).LinesWhole := .ite _ (h.upd .a f) h
    exact updPort (.ite _ (ha.upd .b f) ha) _
  · split
    · exact (h.upd .a g).upd .b g
    · exact h

theorem applyBlock (h : s.LinesWhole) (m : Nat) : (s.applyBlock m).1.LinesWhole := by
  unfold State.applyBlock
  split
  · exact h.setPort _
  · exact h.setPort _
  · exact h.commitBlock _ _ _ _
  · exact h.commitBlock _ _ _ _
  · exact h.commitBlock _ _ _ _
  · exact h.updPort _
  · exact h.updPort _

theorem foldl_fst {α β : Type} {f : State × β → α → State × β} (hf : ∀ r x, r.1.LinesWhole → (f r x).1.LinesWhole)
    (l : List α) {r : State × β} (h : r.1.LinesWhole) : (l.foldl f r).1.LinesWhole := by
  induction l generalizing r with
  | nil => exact h
  | cons x l ih => exact ih (hf r x h)

theorem applyCommit (h : s.LinesWhole) (c : Commit) : (s.applyCommit c).LinesWhole := by
  unfold State.applyCommit
  extract_lets r g g' t
  have hr : r.1.LinesWhole := foldl_fst (r := (s, 0)) (fun r m hr => by
    dsimp only
    split
    · exact hr.applyBlock m
    · exact hr) (List.range 7) h
  exact .ite _ (hr.updPort _) ((hr.updPort _).errCause _)

theorem applyCommits (h : s.LinesWhole) : s.applyCommits.LinesWhole := foldl (h.updPort _) fun _ c _ ht => ht.applyCommit c

theorem writeCommit (h : s.LinesWhole) (v : Word) : (s.writeCommit v).LinesWhole :=
  .ite _ h (.ite _ ((h.updPort _).errCause _) (h.updPort _))

theorem shadowWrite (h : s.LinesWhole) (m : Nat) {f : State → State} (hf : (f s).LinesWhole) : (s.shadowWrite m f).LinesWhole :=
  .ite _ ((h.updPort _).errCause _) hf

theorem acuEnable (h : s.LinesWhole) (f : Nat) : (s.acuEnable f).LinesWhole := by
  unfold State.acuEnable
  dsimp only
  split
  · exact .ite _ h (h.updPort _)
  · exact (h.updPort _).releaseFn f

theorem acuDisable (h : s.LinesWhole) (f : Nat) : (s.acuDisable f).LinesWhole := (h.updPort _).holdPassing f

theorem vfSeen (h : s.LinesWhole) (f : Nat) : (s.vfSeen f).LinesWhole := .ite _ h (h.updPort _)

/-- A host access leaves the lines whole where its meaning does. -/
theorem hostAccess (h : s.LinesWhole) (x : Tlp) {f : State → State} (hf : ∀ {t : State}, t.LinesWhole → (f t).LinesWhole) :
    (s.hostAccess x f).LinesWhole :=
  .ite _ h (.ite _ ((h.vfSeen _).fnErr _ _) (hf (h.vfSeen _)))

theorem fanOut (h : s.LinesWhole) (k : Packet) : (s.fanOut k).LinesWhole := by
  unfold State.fanOut
  extract_lets p q x home
  refine .ite _ (h.sendOwn _ _ _ _) ?_
  have hport {p : PortDie} : { s with port := p }.LinesWhole := h
  have ha {b : Prop} [Decidable b] {p : PortDie} {f : Channel → Channel} :
      (if b then { s with port := p }.upd .a f else { s with port := p }).LinesWhole := .ite b (hport.upd .a f) hport
  exact .ite _ (ha.upd .b _) ha

theorem accept (h : s.LinesWhole) (k : Packet) : (s.accept k).LinesWhole := .ite _ (h.fanOut k) (h.updPort _)

theorem resumeIntake (h : s.LinesWhole) (n : Nat) : (s.resumeIntake n).LinesWhole := by
  induction n generalizing s with
  | zero => exact h
  | succ n ih =>
    unfold State.resumeIntake
    split
    · exact h
    · split
      · exact ih ((h.updPort _).fanOut _)
      · exact h

theorem drop (h : s.LinesWhole) (f cause : Nat) (q : BitVec 16) : (s.drop f cause q).LinesWhole :=
  (h.updPort _).intakeDrop f cause q _

theorem attributed (h : s.LinesWhole) (x : Header) (pad size : Bool) {payload : State → State × Option Bytes}
    (hp : ∀ {t : State}, t.LinesWhole → (payload t).1.LinesWhole) : (s.attributed x pad size payload).LinesWhole := by
  unfold State.attributed
  extract_lets q ctx s1
  have h1 : s1.LinesWhole := h.updPort _
  split
  · exact h1.sendOwn _ _ _ _
  · have hpayload := hp h1
    split <;> rename_i heq <;> rw [heq] at hpayload
    · exact hpayload.sendOwn _ _ _ _
    · exact hpayload.accept _

theorem doorbell (h : s.LinesWhole) (f offset : Nat) (data : Bytes) : (s.doorbell f offset data).LinesWhole := by
  unfold State.doorbell
  refine .ite _ h (.ite _ (h.drop _ _ _) ?_)
  dsimp only
  split
  · exact h.drop _ _ _
  · exact h.attributed _ _ _ fun ht => ht

theorem fetchPayload (h : s.LinesWhole) (f : Nat) (x : Header) (entry : Bytes) (payload : Option Bytes) :
    (s.fetchPayload f x entry payload).1.LinesWhole := by
  unfold State.fetchPayload
  extract_lets len addr bad
  split
  · exact h
  · split
    · exact h
    · split
      · exact h.foldl fun _ _ _ ht => ht.dmaFault _ _ _ _ _
      · split <;> exact h

theorem fetched (h : s.LinesWhole) (queue : BitVec 16) (ide : Option (BitVec 6)) (entry : Bytes) (payload : Option Bytes) :
    (s.fetched queue ide entry payload).LinesWhole := by
  unfold State.fetched
  refine .ite _ h (.ite _ (h.fnErr _ _) (.ite _ ((h.updPort _).dmaFault _ _ _ _ _) ?_))
  dsimp only
  split
  · exact (h.updPort _).drop _ _ _
  · exact (h.updPort _).attributed _ _ _ fun ht => ht.fetchPayload _ _ _ _

theorem writeRingTail (h : s.LinesWhole) (f : Nat) (v : Word) : (s.writeRingTail f v).LinesWhole :=
  .ite _ h (.ite _ (h.intakeDrop _ _ _ _) (.ite _ (h.intakeDrop _ _ _ _) (h.updPort _)))

/-! ### The register interface (R415 to R426) -/

theorem writeWindow (h : s.LinesWhole) (f n j : Nat) (v : Word) : (s.writeWindow f n j v).LinesWhole :=
  .ite _ (h.updPort _) (h.updPort _)

theorem indErr (h : s.LinesWhole) (f : Global → Global) : (s.indErr f).LinesWhole := (h.updPort _).errCause _

theorem indRead (h : s.LinesWhole) (w : IndWord) : (s.indRead w).2.LinesWhole := by
  cases w with
  | queue q k => exact ite _ (h.updPort _) h
  | fn f k => exact ite _ (h.updPort _) h
  | qblock _ | fuse _ _ | island _ _ | trace _ _ => exact h

theorem indWrite (h : s.LinesWhole) (w : IndWord) (v : Word) : (s.indWrite w v).LinesWhole := by
  cases w with
  | queue q k =>
    unfold State.indWrite
    dsimp only
    split
    · exact h.shadowWrite 0 (h.updPort _)
    · exact h.indErr _
  | fn f k =>
    exact .ite _ (h.writeWindow _ _ _ _) (.ite _ (h.shadowWrite 1 (h.updPort _))
      (.ite _ (.ite _ (h.acuEnable f) (h.acuDisable f)) (h.indErr _)))
  | qblock b => exact h.shadowWrite 1 (h.updPort _)
  | fuse _ _ | island _ _ | trace _ _ => exact h.indErr _

theorem indAccess (h : s.LinesWhole) (w : Option Word) : (s.indAccess w).2.LinesWhole := by
  unfold State.indAccess
  extract_lets g r
  have hr : r.2.LinesWhole := by
    unfold r
    split
    · exact h.indErr _
    · split
      · exact h.indErr _
      · cases w with
        | none => exact h.indRead _
        | some v => exact h.indWrite _ v
  exact .ite _ (hr.updPort _) hr

theorem devRead (h : s.LinesWhole) (o : Nat) : (s.devRead o).2.LinesWhole := by
  unfold State.devRead
  split
  · exact h.errCause _
  · split
    · exact h.indAccess none
    · exact h.updPort _
  · exact h.updPort _
  · exact h.updPort _
  · split
    · exact ite _ (h.setChan _ _).drawn (h.setChan _ _)
    · exact h.errCause _

theorem devWrite (h : s.LinesWhole) (o : Nat) (v : Word) : (s.devWrite o v).LinesWhole := by
  unfold State.devWrite
  split
  · exact h.errCause _
  · split
    · exact h.updPort _
    · exact h.writeCommit v
    · exact h.updPort _
    · exact h.updPort _
    · exact h.indAccess _
    · exact h
  · exact .ite _ (h.shadowWrite 5 (h.updPort _)) h
  · exact .ite _ (h.shadowWrite 6 (h.updPort _)) h
  · refine .ite _ (h.errCause _) ?_
    split
    · exact h
    · exact h.shadowWrite _ (h.upd _ _)

theorem readWord (h : s.LinesWhole) (f : Nat) (bar : Bar) (o : Nat) : (s.readWord f bar o).2.LinesWhole := by
  unfold State.readWord
  cases bar with
  | bar0 =>
    dsimp only
    split
    · exact h
    · exact h.updPort _
  | bar2 =>
    dsimp only
    split
    · exact h.devRead o
    · exact h
  | bar4 =>
    dsimp only
    split <;> exact h

theorem writeMsix (h : s.LinesWhole) (f o : Nat) (v : Word) : (s.writeMsix f o v).LinesWhole := .ite _ h (.ite _ h h)

theorem writeWord (h : s.LinesWhole) (f : Nat) (bar : Bar) (o : Nat) (v : Word) : (s.writeWord f bar o v).LinesWhole := by
  cases bar with
  | bar0 =>
    unfold State.writeWord
    dsimp only
    split
    · exact h.writeRingTail f v
    · exact h.writeCqHead f v
    · exact .ite _ h (h.updPort _)
    · exact h
  | bar2 => exact .ite _ (h.devWrite o v) h
  | bar4 => exact h.writeMsix f o v

theorem accessError (h : s.LinesWhole) (f : Nat) : (s.accessError f).LinesWhole := errCause (.ite _ h (h.updPort _)) _

theorem readWords (h : s.LinesWhole) (f : Nat) (bar : Bar) (o n : Nat) : (s.readWords f bar o n).2.LinesWhole := by
  induction n generalizing s o with
  | zero => exact h
  | succ n ih => exact ih (h.readWord f bar o) _

theorem writeWords (h : s.LinesWhole) (f : Nat) (bar : Bar) (o : Nat) (l : List Word) : (s.writeWords f bar o l).LinesWhole := by
  induction l generalizing s o with
  | nil => exact h
  | cons v l ih => exact ih (h.writeWord f bar o v) _

theorem hostRead (h : s.LinesWhole) (f : Nat) (bar : Bar) (o n : Nat) (enables : Bool) :
    (s.hostRead f bar o n enables).LinesWhole := by
  have hr := h.readWords f bar (o / 4 * 4) n
  exact of_lines (ite _ hr (hr.accessError f)) rfl

theorem hostWrite (h : s.LinesWhole) (f : Nat) (bar : Bar) (o : Nat) (data : List Word) (enables : Bool) :
    (s.hostWrite f bar o data enables).LinesWhole :=
  .ite _ (h.doorbell _ _ _) (.ite _ (h.writeWords _ _ _ _) (h.accessError f))

/-! ### The events of a channel (R311, R364, R368) -/

theorem of_staysIn {ch : Chan} (h : s.LinesWhole) (hst : StaysIn ch s t) : t.LinesWhole := h.of_lines hst.lines

theorem sluiceMsg (h : s.LinesWhole) (ch : Chan) (m : SluiceMsg) : (s.sluiceMsg ch m).LinesWhole := (h.upd ch _).upd ch.peer _

theorem outlasted (h : s.LinesWhole) (ch : Chan) : (s.outlasted ch).LinesWhole :=
  .ite _ h ((of_staysIn (h.upd ch _) (.respond ch _ _)).finish s)

theorem peerL5 (h : s.LinesWhole) (ch : Chan) : (s.peerL5 ch).LinesWhole := by
  unfold State.peerL5
  refine .ite _ h ?_
  extract_lets s1 s2 c done level union c' s3 s4
  have h2 : s2.LinesWhole := (h.updPort _).upd ch.peer _
  have h4 : s4.LinesWhole := .ite _ (((h2.setChan ch.peer _).raiseError 0).updPort _) (h2.setChan ch.peer _)
  exact .ite _ h2 (.ite _ (h4.drain.updPort _) h4)

theorem refclkLost (h : s.LinesWhole) : s.refclkLost.LinesWhole :=
  .ite _ h (of_staysIn (of_staysIn (h.updPort _) (StaysIn.detected (ch := .a) (.refl .a _) _)) (StaysIn.detected (ch := .b) (.refl .b _) _))

theorem operate (h : s.LinesWhole) (o : Op) (ch : Chan) (st : OpStep) : (s.operate o ch st).LinesWhole := by
  cases st <;> exact h.upd ch _

theorem waitExpiry (h : s.LinesWhole) (ch : Chan) (id : Nat) : (s.waitExpiry ch id).LinesWhole := by
  unfold State.waitExpiry
  dsimp only
  split
  · exact h
  · split
    · exact h
    · exact .ite _ h (.ite _ (.ite _ (h.setChan ch _) h) (.ite _ ((h.updPort _).setChan ch _) (h.updPort _)))

theorem applyWait (h : s.LinesWhole) (n : Nat) : (s.applyWait n).LinesWhole := by
  unfold State.applyWait
  split
  · exact h
  · split
    · exact h
    · exact .ite _ h (((h.updPort _).upd .a _).upd .b _)

theorem exhaustReport (h : s.LinesWhole) (ch : Chan) (slot : Nat) : (s.exhaustReport ch slot).LinesWhole := by
  unfold State.exhaustReport
  split
  · exact h
  · exact .ite _ (h.upd ch _) ((((h.upd ch _).updPort _).upd .a _).upd .b _)

theorem rngTestEnd (h : s.LinesWhole) (ch : Chan) (pass : Bool) : (s.rngTestEnd ch pass).LinesWhole :=
  .ite _ h (.ite _ (h.upd ch _) (h.upd ch _).drawn)

/-! ### Epochs (R288 to R303) -/

theorem contribution (h : s.LinesWhole) (ch : Chan) : (s.contribution ch).LinesWhole := by
  unfold State.contribution
  dsimp only
  refine .ite _ h ?_
  split
  · exact (h.sluiceMsg _ _).upd ch _
  · exact h

theorem formAlone (h : s.LinesWhole) (ch : Chan) : (s.formAlone ch).LinesWhole := .ite _ h (.ite _ (h.setChan ch _) h)

theorem fixEpoch (h : s.LinesWhole) : s.fixEpoch.LinesWhole := (h.foldlUpd _ fun _ => _).updPort _

theorem epochMismatch (h : s.LinesWhole) : s.epochMismatch.LinesWhole :=
  .ite _ ((h.updPort _).foldlUpd _ fun _ => _) ((h.foldlUpd _ fun _ => _).updPort _)

theorem epochChecks (h : s.LinesWhole) : s.epochChecks.LinesWhole :=
  .ite _ h (.ite _ (h.updPort _) (.ite _ (h.updPort _).fixEpoch (h.updPort _).epochMismatch))

theorem epochClear (h : s.LinesWhole) : s.epochClear.LinesWhole := .ite _ h (h.updPort _)

theorem epochRetry (h : s.LinesWhole) : s.epochRetry.LinesWhole := by
  unfold State.epochRetry
  split
  · exact h
  · exact .ite _ h ((h.updPort _).foldlUpd _ fun _ => _)

/-! ### Kerral messages (R392 to R405) -/

theorem onMgmt (h : s.LinesWhole) (f : Mgmt → Mgmt) : (s.onMgmt f).LinesWhole := h.updPort _

theorem updMsg (h : s.LinesWhole) (n : Nat) (f : KerralMsg → KerralMsg) : (s.updMsg n f).LinesWhole := h.onMgmt _

theorem complete (h : s.LinesWhole) (m : KerralMsg) (result effect : Nat) (data : Bytes) :
    (s.complete m result effect data).LinesWhole :=
  .ite _ ((h.updMsg _ _).updPort _) (.ite _ (h.updMsg _ _) ((h.updMsg _ _).updPort _))

theorem countMgmtDraw (h : s.LinesWhole) (n : Nat) : (s.countMgmtDraw n).LinesWhole := h.foldlUpd _ fun _ => _

theorem mgmtDiscord (h : s.LinesWhole) : s.mgmtDiscord.LinesWhole := by
  unfold State.mgmtDiscord
  split
  · exact h.retire _ 0
  · exact (h.updPort _).retire .b 2

theorem agreed {α : Type} [BEq α] (h : s.LinesWhole) (f : Channel → α) : (s.agreed f).1.LinesWhole := by
  unfold State.agreed
  split
  · split
    · exact h
    · exact h.mgmtDiscord
  · exact h

theorem giveNonce (h : s.LinesWhole) (m : KerralMsg) : (s.giveNonce m).LinesWhole := by
  unfold State.giveNonce
  split
  · exact h.complete m _ _ _
  · exact ((h.countMgmtDraw 24).onMgmt _).complete m _ _ _

theorem openCeremony (h : s.LinesWhole) (m : KerralMsg) : (s.openCeremony m).LinesWhole := by
  unfold State.openCeremony
  dsimp only
  split
  · exact h.complete m _ _ _
  · exact (h.countMgmtDraw 16).updMsg _ _

/-- An exported image is written line by line, the first and the last filled to whole lines (R405). -/
theorem hostBytes (h : s.LinesWhole) (f addr : Nat) (bs : Bytes) : (s.hostBytes f addr bs).LinesWhole :=
  h.foldl fun _ _ _ ht => ht.hostLine f _ (fitR_length 64 _)

theorem perform (h : s.LinesWhole) (m : KerralMsg) : (s.perform m).LinesWhole := by
  unfold State.perform
  dsimp only
  split
  · exact h.giveNonce m
  · exact h.complete m _ _ _
  · exact (h.onMgmt _).complete m _ _ _
  · exact h.openCeremony m
  · exact h.updMsg _ _
  · exact h.updPort _
  · exact h.updPort _
  · exact ((h.agreed _).hostBytes 0 _ _).complete m _ _ _
  · split
    · exact h.updMsg _ _
    · exact h.complete m _ _ _
  · exact h.complete m _ _ _
  · split
    · exact h.complete m _ _ _
    · exact .ite _ (h.updMsg _ _) (h.updMsg _ _)

theorem spendNonce (h : s.LinesWhole) (m : KerralMsg) (v : Nat) : (s.spendNonce m v).LinesWhole := .ite _ h (h.onMgmt _)

theorem dropCeremony (h : s.LinesWhole) (m : KerralMsg) (v : Nat) : (s.dropCeremony m v).LinesWhole :=
  .ite _ h (h.foldlUpd _ fun _ => _)

theorem verifies (h : s.LinesWhole) (m : KerralMsg) (v : Nat) : (s.verifies m v).LinesWhole :=
  .ite _ h (h.foldlUpd _ fun _ => _)

theorem startMsg (h : s.LinesWhole) (m : KerralMsg) : (s.startMsg m).LinesWhole := by
  unfold State.startMsg
  extract_lets s1
  have hagreed := (h.updMsg m.counter fun x => { x with started := true }).agreed fun c => s1.kerralVerdict c m
  generalize s1.agreed (fun c => s1.kerralVerdict c m) = r at hagreed
  obtain ⟨s2, v⟩ := r
  have h0 := ((State.LinesWhole.spendNonce hagreed m v).dropCeremony m v).verifies m v
  refine .ite _ (h0.perform m) (complete ?_ m _ _ _)
  refine .ite _ ?_ h0
  split
  · exact h0.updPort _
  · exact h0

theorem pump (h : s.LinesWhole) (n : Nat) : (s.pump n).LinesWhole := by
  induction n generalizing s with
  | zero => exact h
  | succ n ih =>
    unfold State.pump
    split
    · exact h
    · exact .ite _ h (ih (h.startMsg _))

theorem kerralIn (h : s.LinesWhole) (code : Nat) (m : Kerral) (image : Bytes) : (s.kerralIn code m image).LinesWhole :=
  .ite _ h (.ite _ (h.updPort _) (.ite _ ((h.updPort _).complete _ _ _ _)
    (.ite _ ((h.updPort _).startMsg _) ((h.updPort _).pump 9))))

theorem completeChange (h : s.LinesWhole) (m : KerralMsg) (r : Nat × Bytes) (effect : Nat) :
    (s.completeChange m r effect).LinesWhole := (h.complete m _ _ _).pump 9

theorem provision (h : s.LinesWhole) (n : Nat) (l : List (Nat × Officer)) : (s.provision n l).LinesWhole :=
  updPort ((((h.upd .a _).sluiceMsg .a _).upd .a _).upd .b _) _

theorem applyChange (h : s.LinesWhole) (m : KerralMsg) (x : Change) : (s.applyChange m x).LinesWhole := by
  unfold State.applyChange
  dsimp only
  split
  · exact .ite _ (h.completeChange m _ _) ((h.provision _ _).updMsg _ _)
  · refine completeChange (.ite _ (updPort ?_ _) ?_) m _ _ <;>
    · split
      · exact ((h.agreed _).foldlUpd _ fun _ => _).foldlUpd _ fun _ => _
      · exact (h.agreed _).foldlUpd _ fun _ => _

theorem queueDestroy (h : s.LinesWhole) (x : Change) : (s.queueDestroy x).LinesWhole := by
  unfold State.queueDestroy
  split
  · exact h.foldlUpd _ fun _ => _
  · exact h

theorem provisionDone (h : s.LinesWhole) : s.provisionDone.LinesWhole := by
  unfold State.provisionDone
  split
  · exact h
  · exact .ite _ h (h.completeChange _ _ _)

theorem kerralBoundary (h : s.LinesWhole) : s.kerralBoundary.LinesWhole := by
  unfold State.kerralBoundary
  extract_lets s1
  have h1 : s1.LinesWhole := h.provisionDone
  split
  · exact h1
  · split
    · exact .ite _ h1 (.ite _ (h1.queueDestroy _) ((h1.queueDestroy _).applyChange _ _))
    · exact h1

theorem fenceHold (h : s.LinesWhole) (ch : Chan) : (s.fenceHold ch).LinesWhole := by
  unfold State.fenceHold
  split
  · exact h
  · split
    · exact .ite _ h (h.upd ch _)
    · exact h

theorem fenceReport (h : s.LinesWhole) (ch : Chan) : (s.fenceReport ch).LinesWhole := by
  unfold State.fenceReport
  split
  · exact .ite _ h (h.updMsg _ _)
  · exact h

theorem fenceApply (h : s.LinesWhole) (ch : Chan) : (s.fenceApply ch).LinesWhole := by
  unfold State.fenceApply
  split
  · exact h
  · split
    · exact .ite _ h (.ite _ (h.upd ch _) ((h.upd ch _).completeChange _ _ _))
    · exact h

theorem kerralRespond (h : s.LinesWhole) : s.kerralRespond.LinesWhole := h.of_lines (PortOnly.kerralRespond s).lines

/-! ### Other management (R385, R387) -/

theorem answer (h : s.LinesWhole) (v : Via) (type : BitVec 7) (kind : Nat) (content : Bytes) :
    (s.answer v type kind content).LinesWhole := h.onMgmt _

theorem spdmAnswer (h : s.LinesWhole) (v : Via) (ok : Bool) (kind : Nat) (content : Bytes) :
    (s.spdmAnswer v ok kind content).LinesWhole := .ite _ (h.answer _ _ _ _) (h.answer _ _ _ _)

theorem spdm (h : s.LinesWhole) (v : Via) (body : Bytes) {f : Chan → State → State} (hf : ∀ ch, (f ch s).LinesWhole) :
    (s.spdm v body f).LinesWhole := by
  unfold State.spdm
  refine .ite _ h (.ite _ (h.updPort _) ?_)
  split
  · exact h
  · exact hf _

theorem spdmIn (h : s.LinesWhole) (v : Via) (ok : SpdmSession → Bool) (kind : Nat) (body : Bytes) (f : Spdm → Nat → Spdm) :
    (s.spdmIn v ok kind body f).LinesWhole := by
  refine h.spdm v body fun ch => ?_
  split
  · exact h.spdmAnswer _ _ _ _
  · exact .ite _ ((h.spdmAnswer _ _ _ _).onMgmt _) (h.spdmAnswer _ _ _ _)

theorem update (h : s.LinesWhole) (image : Bytes) : (s.update image).LinesWhole := by
  unfold State.update
  extract_lets one
  have hone {t : State} (ht : t.LinesWhole) (ch : Chan) : (one t ch).LinesWhole :=
    .ite _ (ht.setChan ch _) (.ite _ ht ((ht.setChan ch _).onMgmt _))
  exact hone (hone (h.onMgmt _) .a) .b

/-! ### Function resets (R346 to R348) -/

theorem flr (h : s.LinesWhole) (f : Nat) : (s.flr f).LinesWhole := .ite _ (h.requestReset _ _ _) (h.requestReset _ _ _)

theorem resetBoundaryR (h : s.LinesWhole) : s.resetBoundaryR.LinesWhole :=
  updPort (h.foldl fun _ _ _ ht => ht.foldl fun _ ch _ hu => .ite _ hu (hu.setChan ch _)) _

theorem resetListIn (h : s.LinesWhole) (ch : Chan) : (s.resetListIn ch).LinesWhole := by
  unfold State.resetListIn
  dsimp only
  split
  · exact h
  · exact (h.setChan ch _).updPort _

theorem resetLate (h : s.LinesWhole) : s.resetLate.LinesWhole := updPort (h.foldl fun _ ch _ ht => ht.retire ch 4) _

theorem resetBoundaryV (h : s.LinesWhole) : s.resetBoundaryV.LinesWhole := by
  refine h.foldl fun t r _ ht => ?_
  have hchans : (chans.foldl (fun s ch => if (s.chan ch).resetting.contains (r.fns, r.n) then
      s.upd ch (fun c => c.resetV r.fns r.n r.union) else s) t).LinesWhole :=
    ht.foldl fun _ ch _ hu => .ite _ (hu.upd ch _) hu
  exact hchans

/-! ### Security version numbers and the sluice session (R22, R278 to R282) -/

theorem endSvn (h : s.LinesWhole) (result : Nat) : (s.endSvn result).LinesWhole := by
  unfold State.endSvn
  split
  · exact h
  · dsimp only
    split
    · exact h.updPort _
    · exact (h.updPort _).completeChange _ _ _

theorem svnDone (h : s.LinesWhole) : s.svnDone.LinesWhole := by
  unfold State.svnDone
  split
  · exact h
  · exact .ite _ (h.endSvn 0) h

theorem matchRungs (h : s.LinesWhole) (x y : RootCopy) : (s.matchRungs x y).LinesWhole :=
  .ite _ (((h.upd .a _).upd .b _).updPort _) ((h.upd .a _).upd .b _)

theorem repairRungs (h : s.LinesWhole) : s.repairRungs.LinesWhole := by
  unfold State.repairRungs
  split
  · extract_lets s1
    have h1 : s1.LinesWhole := .ite _ (h.upd .a _) (.ite _ (h.upd .b _) h)
    split
    · exact (h1.matchRungs _ _).svnDone
    · exact h1
  · exact h

theorem endSluice (h : s.LinesWhole) : s.endSluice.LinesWhole := updPort ((h.upd .a _).upd .b _) _

theorem sluiceTag (h : s.LinesWhole) (ch : Chan) : (s.sluiceTag ch).LinesWhole :=
  .ite _ h (.ite _ ((h.updPort _).endSluice.updPort _) ((h.updPort _).upd ch _))

theorem present (h : s.LinesWhole) : s.present.LinesWhole := setFree ((h.upd .a _).upd .b _) _

theorem openSluice (h : s.LinesWhole) (n : Nat) : (s.openSluice n).LinesWhole := (h.upd .a _).upd .b _

theorem reconcile (h : s.LinesWhole) : s.reconcile.LinesWhole := by
  unfold State.reconcile
  extract_lets x s1
  have h1 : s1.LinesWhole := .ite _ (h.upd _ _) h
  exact (h1.upd .a _).upd .b _

theorem beginRefill (h : s.LinesWhole) (x : Chan) : (s.beginRefill x).LinesWhole := (h.upd x _).updPort _

theorem staysOut (h : s.LinesWhole) (ch : Chan) (v : StartStep) : (s.staysOut ch v).LinesWhole := (h.upd ch _).updPort _

theorem agreement (h : s.LinesWhole) : s.agreement.LinesWhole := by
  unfold State.agreement
  extract_lets m n may s1 s2 first s3 s4 ready
  have h2 : s2.LinesWhole := (h.present.upd .a _).upd .b _
  have h4 : s4.LinesWhole := (h2.openSluice n).repairRungs
  refine .ite _ h (.ite _ (.ite _ (((((h2.upd .a _).staysOut .b _).upd .a _)).updPort _) ?_) (.ite _ ?_ ?_))
  · exact h2.foldl fun _ ch _ ht => .ite _ (ht.upd ch _) ht
  · exact .ite _ ((h4.reconcile.upd .a _).upd .b _) h4
  · exact h4.foldl fun _ ch _ ht => .ite _ ((ht.upd ch _).beginRefill ch) ht

/-! ### Refill and join (R323 to R329) -/

theorem refillAt (h : s.LinesWhole) (ok : RefillStep → Bool) {f : Chan → State} (hf : ∀ x, (f x).LinesWhole) :
    (s.refillAt ok f).LinesWhole := by
  unfold State.refillAt
  split
  · exact h
  · exact .ite _ (hf _) h

theorem repair (h : s.LinesWhole) (x : Chan) : (s.repair x).LinesWhole := upd ((h.sluiceMsg x _).sluiceMsg x.peer _) x _

theorem switchFull (h : s.LinesWhole) (x : Chan) : (s.switchFull x).LinesWhole := (h.upd x _).updPort _

theorem nextDelta (h : s.LinesWhole) (x : Chan) : (s.nextDelta x).LinesWhole := by
  unfold State.nextDelta
  refine .ite _ (h.switchFull x) ?_
  split
  · exact (h.sluiceMsg _ _).upd x _
  · exact h

theorem regionImage (h : s.LinesWhole) (x : Chan) : (s.regionImage x).LinesWhole := (h.sluiceMsg _ _).upd x _

theorem shareEpochs (h : s.LinesWhole) : s.shareEpochs.LinesWhole := by
  unfold State.shareEpochs
  split
  · exact h
  · exact .ite _ h (h.upd _ _)

theorem joinCapTide (h : s.LinesWhole) : s.joinCapTide.LinesWhole := by
  unfold State.joinCapTide
  extract_lets cap
  have hcap {t : State} (ht : t.LinesWhole) (ch : Chan) : (cap t ch).LinesWhole := .ite _ (ht.upd ch _) ht
  exact hcap (hcap h .a) .b

theorem joinCapStep (h : s.LinesWhole) : s.joinCapStep.LinesWhole := ((h.upd .a _).upd .b _).joinCapTide

theorem shareEbb (h : s.LinesWhole) : s.shareEbb.LinesWhole := .ite _ h ((h.upd .a _).upd .b _)

theorem ready (h : s.LinesWhole) (x : Chan) : (s.ready x).LinesWhole := .ite _ h (h.shareEbb.updPort _)

theorem sendAll (h : s.LinesWhole) (x : Chan) : (s.sendAll x).LinesWhole :=
  h.foldl fun _ _ _ ht => (ht.sluiceMsg _ _).upd x _

theorem joinNow (h : s.LinesWhole) (x : Chan) (j : Nat) : (s.joinNow x j).LinesWhole :=
  updPort ((((h.sendAll x).sluiceMsg _ _).upd x _).upd x.peer _) _

theorem joinTide (h : s.LinesWhole) : s.joinTide.LinesWhole := by
  unfold State.joinTide
  split
  · exact .ite _ h (h.joinNow _ _)
  · exact h

theorem endWriters (h : s.LinesWhole) (x : Chan) : (s.endWriters x).LinesWhole :=
  .ite _ (h.upd x _) (((h.upd x _).upd x _).upd x.peer _)

theorem lateDelta (h : s.LinesWhole) (x : Chan) : (s.lateDelta x).LinesWhole := by
  refine endWriters ?_ x
  split
  · exact h
  · exact (h.sluiceMsg _ _).upd x _

theorem handover (h : s.LinesWhole) (x : Chan) : (s.handover x).LinesWhole := by
  unfold State.handover
  extract_lets s1
  have h1 : s1.LinesWhole := h.upd _ _
  split
  · exact h1
  · exact .ite _ h1 (((h1.sluiceMsg x.peer _).upd x _).endWriters x)

theorem plannedStart (h : s.LinesWhole) : s.plannedStart.LinesWhole := by
  unfold State.plannedStart
  split
  · exact h
  · exact .ite _ h ((h.upd _ _).updPort _)

theorem drainEnd (h : s.LinesWhole) : s.drainEnd.LinesWhole := by
  unfold State.drainEnd
  split
  · exact h
  · exact .ite _ h ((h.upd _ _).retire _ 6)

/-! ### Resets and the start (R427 to R446) -/

theorem serviceEnds (h : s.LinesWhole) (x : Chan) : (s.serviceEnds x).LinesWhole :=
  updPort (.ite _ ((h.upd x.peer _).updPort _) (h.upd x.peer _)) _

theorem failActivation (h : s.LinesWhole) (x : Chan) : (s.failActivation x).LinesWhole := by
  unfold State.failActivation
  split
  · exact h
  · refine .ite _ h ?_
    split
    · exact h
    · exact (h.onMgmt _).completeChange _ _ _

theorem resetChannel (h : s.LinesWhole) (x : Chan) : (s.resetChannel x).LinesWhole := by
  unfold State.resetChannel
  refine .ite _ h ?_
  extract_lets s1 s2 last s3 s4 boot first s5 s6 s7 s8
  have h1 : s1.LinesWhole := .ite _ (h.retire x 4) h
  have h2 : s2.LinesWhole := h1.failActivation x
  have h3 : s3.LinesWhole := .ite _ (serviceEnds (.ite _ h2 (h2.soloFault x)) x) h2
  have h4 : s4.LinesWhole := .ite _ (h3.updPort _) h3
  have h5 : s5.LinesWhole := .ite _ h4.endSluice h4
  have h7 : s7.LinesWhole := .ite _ ((h5.upd x _).upd x.peer _) (h5.upd x _)
  exact (h7.upd x.peer _).updPort _

theorem deviceReset (h : s.LinesWhole) (kept cold wakes : Bool) : (s.deviceReset kept cold wakes).LinesWhole := by
  have herased : (s.port.l5From.foldl (fun s ch => s.upd ch.peer (·.peerErase)) s).LinesWhole :=
    h.foldl fun _ ch _ ht => ht.upd ch.peer _
  exact herased

theorem beginStart (h : s.LinesWhole) : s.beginStart.LinesWhole := ((h.upd .a _).upd .b _).updPort _

theorem mapStart (h : s.LinesWhole) (f : PortStart → PortStart) : (s.mapStart f).LinesWhole := h.updPort _

theorem portUp (h : s.LinesWhole) : s.portUp.LinesWhole := by
  unfold State.portUp
  refine .ite _ h (.ite _ (h.updPort _) ?_)
  refine drawn (updPort (foldl ?_ fun t ch _ ht => upd (.ite _ ht (ht.updPort _)) ch _) _)
  exact .ite _ ((((h.updPort _).updPort _).updPort _).updPort _) (((h.updPort _).updPort _).updPort _)

theorem sleep (h : s.LinesWhole) : s.sleep.LinesWhole := by
  unfold State.sleep
  split
  · exact h
  · exact .ite _ h (((((h.drain.updPort _).upd .a _).upd .b _).drawn).updPort _)

theorem wakeRelease (h : s.LinesWhole) (ch : Chan) (half : Nat) : (s.wakeRelease ch half).LinesWhole := by
  unfold State.wakeRelease
  extract_lets decided k s1 s2
  have h1 : s1.LinesWhole := drawn (.ite _ (h.of_staysIn (.wakeTamper ch s)) h)
  have h2 : s2.LinesWhole := h1.upd ch _
  split
  · exact h2
  · exact .ite _ h2 ((h2.deviceReset _ _ _).mapStart _).beginStart
  · exact .ite _ h2 (h2.upd ch _)

theorem lockReport (h : s.LinesWhole) (ch : Chan) : (s.lockReport ch).LinesWhole :=
  .ite _ (h.mapStart _) (.ite _ (((h.mapStart _).mapStart _).upd ch _) ((h.mapStart _).mapStart _))

theorem tideZero (h : s.LinesWhole) : s.tideZero.LinesWhole := by
  unfold State.tideZero
  extract_lets x s1 s2
  have h1 : s1.LinesWhole := .ite _ (h.upd .a _) h
  exact updPort (.ite _ (h1.upd .b _) h1) _

theorem alignLater (h : s.LinesWhole) : s.alignLater.LinesWhole := (h.upd .a _).upd .b _

theorem tideFault (h : s.LinesWhole) (ch : Chan) : (s.tideFault ch).LinesWhole := ((h.upd ch _).updPort _).updPort _

theorem tideBoth (h : s.LinesWhole) : s.tideBoth.LinesWhole := (((h.tideFault .a).tideFault .b).retire .b 4).retire .a 4

theorem tideReport (h : s.LinesWhole) (a : Option (BitVec 16)) (ka : Nat) (b : Option (BitVec 16)) (kb : Nat) :
    (s.tideReport a ka b kb).LinesWhole := by
  unfold State.tideReport
  extract_lets p da db skew s1
  have h1 : s1.LinesWhole := h.updPort _
  refine .ite _ ?_ (.ite _ ((h1.tideFault .a).retire .a 4) (.ite _ ((h1.tideFault .b).retire .b 4) h1))
  split
  · exact .ite _ (h1.updPort _) h1.tideBoth
  · exact h1.tideBoth

theorem activated (h : s.LinesWhole) (ch : Chan) (outcome : Nat) : (s.activated ch outcome).LinesWhole := by
  unfold State.activated
  split
  · exact h
  · refine .ite _ h ?_
    dsimp only
    split
    · exact h.onMgmt _
    · exact (h.onMgmt _).completeChange _ _ _

theorem imageHash (h : s.LinesWhole) (ch : Chan) (m mn : Bool) : (s.imageHash ch m mn).LinesWhole := by
  unfold State.imageHash
  refine .ite _ h ?_
  extract_lets image t1 s1 t2
  have h1 : t1.LinesWhole := .ite _ (h.of_staysIn (StaysIn.tamperOne (ch := ch) (.refl ch s) _)) h
  exact .ite _ ((h1.upd ch _).activated ch _) (.ite _ (((h1.updPort _).staysOut ch _).activated ch 1) ((h1.updPort _).upd ch _))

theorem selfTest (h : s.LinesWhole) (ch : Chan) : (s.selfTest ch).LinesWhole := .ite _ ((h.upd ch _).updPort _) (h.upd ch _)

theorem joinWaitEnds (h : s.LinesWhole) (ch : Chan) : (s.joinWaitEnds ch).LinesWhole :=
  .ite _ h (.ite _ (h.upd ch _) (.ite _ (upd (h.endSluice.upd ch.peer _) ch _) h))

theorem firstJoin (h : s.LinesWhole) : s.firstJoin.LinesWhole := by
  unfold State.firstJoin
  split
  · exact h
  · refine .ite _ h (foldl (epochClear (updPort (foldl (h.shareEbb.updPort _) ?_) _)) ?_)
    · exact fun _ ch _ ht => (ht.upd ch _).updPort _
    · exact fun _ ch _ ht => .ite _ ((ht.upd ch _).beginRefill ch) ht

theorem svnMessage (h : s.LinesWhole) (ch : Chan) : (s.svnMessage ch).LinesWhole := by
  unfold State.svnMessage
  dsimp only
  split
  · exact h
  · split
    · have h1 {b : Prop} [Decidable b] {m : SluiceMsg} : (if b then s.sluiceMsg ch.peer m else s).LinesWhole :=
        .ite b (h.sluiceMsg _ _) h
      exact .ite _ h1 (.ite _ (h1.setChan ch _).svnDone ((h1.updPort _).endSvn 11))
    · exact h

theorem probeIn (h : s.LinesWhole) (ch : Chan) (wrong : Option DWord) : (s.probeIn ch wrong).LinesWhole := by
  unfold State.probeIn
  split
  · exact h
  · split
    · exact h.tryProbe
    · exact .ite _ h (h.updPort _).tryProbe

/-! ### The tide boundary and temperature (R35, R452 to R457) -/

theorem hearNoise (h : s.LinesWhole) (ch : Chan) : (s.hearNoise ch).LinesWhole := .ite _ h (h.upd ch _).drawn

theorem portSteps (h : s.LinesWhole) : s.portSteps.LinesWhole := by
  unfold State.portSteps
  extract_lets s1 s2 s3 s4 s5
  have h1 : s1.LinesWhole := h.applyCommits.kerralBoundary
  have h3 : s3.LinesWhole := (((h1.fenceHold .a).fenceHold .b).fenceApply .a).fenceApply .b
  have h5 : s5.LinesWhole := h3.resetBoundaryR.resetBoundaryV.foldl fun _ v _ ht => ht.applyWait v.intakeNo
  exact (h5.plannedStart.of_staysIn (.svnStart .a _)).of_staysIn (.svnStart .b _)

theorem epochSteps (h : s.LinesWhole) : s.epochSteps.LinesWhole := (h.foldlUpd _ fun _ => _).epochClear.shareEpochs

theorem portEnds (h : s.LinesWhole) : s.portEnds.LinesWhole := by
  unfold State.portEnds
  extract_lets a low s1 s2 s3
  have h2 : s2.LinesWhole := (h.foldlUpd _ fun _ => _).releaseWaiting
  have h3 : s3.LinesWhole := .ite _ (h2.writeLost .a) h2
  exact .ite _ (h3.writeLost .b) h3

theorem drawCredits (h : s.LinesWhole) : s.drawCredits.LinesWhole := (h.updPort _).drawn

theorem tideBoundary (h : s.LinesWhole) : s.tideBoundary.LinesWhole := by
  unfold State.tideBoundary
  refine .ite _ h ?_
  extract_lets s1 t enter s2 s3 s4 s5 s6 report
  have h2 : s2.LinesWhole := ((((h.updPort _).upd .a _).upd .b _).hearNoise .a).hearNoise .b
  have h3 : s3.LinesWhole := h2.alignLater.portSteps.epochSteps.joinCapStep
  have h5 : s5.LinesWhole := ((h3.upd .a _).upd .b _).joinTide.firstJoin.portEnds.drawCredits
  exact (((h5.outlasted .a).outlasted .b).upd .a _).upd .b _

theorem tempSource (h : s.LinesWhole) (ch : Chan) (r : Int) : (s.tempSource ch r).LinesWhole :=
  .ite _ h (h.of_staysIn (StaysIn.detected (ch := ch) (.refl ch s) _))

theorem temperature (h : s.LinesWhole) (ch : Chan) (r : Int) : (s.temperature ch r).LinesWhole :=
  .ite _ h (((h.upd ch _).updPort _).tempSource ch r)

theorem tripRole (h : s.LinesWhole) (ch : Chan) : (s.tripRole ch).LinesWhole := by
  unfold State.tripRole
  split
  · exact h
  · exact h.upd ch _

theorem thermalDecision (h : s.LinesWhole) : s.thermalDecision.LinesWhole := by
  unfold State.thermalDecision
  extract_lets readings whole next s1 t r
  have h1 : s1.LinesWhole := .ite _ h (h.foldlUpd _ fun _ => _)
  have ht : t.LinesWhole := h1.tripRole .a
  exact ht

theorem idle (h : s.LinesWhole) : s.idle.LinesWhole := by
  unfold State.idle
  extract_lets on t1 t2
  have h1 : t1.LinesWhole := ((h.upd .a _).upd .b _).tick
  exact (((h1.upd .a _).upd .b _).outlasted .a).outlasted .b

/-! ### The commands that do not end in one meaning -/

theorem assayWindowExpiry (h : s.LinesWhole) {n : Nat} (hnext : exec (.assayWindowExpiry n) s = .next t) : t.LinesWhole := by
  refine .of_next hnext (finish ?_ s)
  split
  · exact h
  · exact .ite _ h (h.windowExpiry _)

theorem indData (h : s.LinesWhole) {x : Tlp} {w : Option Word} (hnext : Machine.exec (.indData x w) s = .next t) :
    t.LinesWhole := by
  refine .of_next hnext ((h.hostAccess x fun {v} hv => ?_).finish s)
  have hread (l : List Word) : { (v.indAccess w).2 with host := { (v.indAccess w).2.host with readData := l } }.LinesWhole :=
    hv.indAccess w
  exact .ite _ (hread _) hv

theorem probeTimeout (h : s.LinesWhole) (hnext : exec .probeTimeout s = .next t) : t.LinesWhole := by
  refine .of_next hnext (finish ?_ s)
  split
  · exact h
  · refine .ite _ h ?_
    split
    · exact h
    · exact (h.updPort _).probeVerdict _ _

theorem channelFaultReport (h : s.LinesWhole) {a b : Bool} (hnext : exec (.channelFaultReport a b) s = .next t) :
    t.LinesWhole := by
  refine .of_next hnext (finish (retireTogether ?_ _ _ 4) s)
  cases a <;> cases b
  · exact h
  · exact h.takeFault .b
  · exact h.takeFault .a
  · exact (h.takeFault .a).takeFault .b

theorem journalDelta (h : s.LinesWhole) (hnext : exec .journalDeltaReceived s = .next t) : t.LinesWhole := by
  refine .of_next hnext ?_
  split
  · exact .ite _ (h.lateDelta _) h
  · exact h.refillAt _ h.nextDelta

theorem joinHandover (h : s.LinesWhole) (hnext : exec .joinHandoverReceived s = .next t) : t.LinesWhole := by
  refine .of_next hnext ?_
  split
  · exact .ite _ (h.handover _) h
  · exact h

theorem porstNAssert (h : s.LinesWhole) (hnext : exec .porstNAssert s = .next t) : t.LinesWhole := by
  refine .of_next hnext ?_
  split
  · exact h.mapStart _
  · exact (h.deviceReset _ _ _).mapStart _

/-- Every command leaves the lines whole. -/
theorem exec {c : Instr} (h : s.LinesWhole) (hnext : Machine.exec c s = .next t) : t.LinesWhole := by
  cases c with
  | getRandom ch step | reseed ch step | echo ch step | pinTranslate ch step | pinVerifyOffset ch step
    | pinVerifyPvv ch step | pinChange ch step | cvcGenerate ch step | cvcVerify ch step | arqcVerify ch step
    | arqcVerifyLongPan ch step | dukptTranslate ch step | dukptTranslateLongKey ch step | dukptData ch step
    | macCmac ch step | macIso97973 ch step | macCmacLong ch step | macIso9797Long ch step | macHmacSha256 ch step
    | keyblockImport ch step | keyblockExport ch step | keyWrap ch step | keyUnwrap ch step | transportImport ch step
    | transportExport ch step | componentBegin ch step | componentAdd ch step | componentAbandon ch step
    | tokenFf1 ch step | vaultTokenise ch step | vaultDetokenise ch step | vaultDelete ch step | cipherEncrypt ch step
    | cipherDecrypt ch step | streamOpen ch step | streamUpdate ch step | streamFinal ch step | streamAbandon ch step
    | digest ch step | macHmacSha2 ch step | pkSign ch step | pkVerify ch step | pkKeygen ch step | pkAgree ch step
    | pkEncap ch step | pkDecap ch step | pkPubkeyExport ch step | pkPubkeyImport ch step | keyCheckValue ch step
    | keyAttributes ch step | keyGenerate ch step | keyRestrict ch step | keyDestroy ch step =>
    exact .of_next hnext ((h.operate _ ch step).finish s)
  | getNonce m | getStatus m | officerSet m | provision m | tamperLevels m | tamperClear m | slack m | slotGrant m
    | policySet m | dectabSet m | custodiansSet m | ceremonyBegin m | ceremonyComponent m | ceremonyAbandon m
    | mgmtKeyblockImport m | mgmtKeyDestroy m | budgetSet m | basinAssign m | basinClear m | dukptUnbind m
    | personalise m | updateActivate m | svnCommit m | imageExport m | recorderRead m | recorderFreeze m
    | recorderFlush m | recorderLimits m | alertRoute m | kerralUnknownCode _ m =>
    exact .of_next hnext ((h.kerralIn _ m []).finish s)
  | destroyUsersDrained ch _ | decodeResume ch | decodeLateFault ch | delayRelease ch | commandStart ch _
    | keyCacheFillDone ch _ | shadowEntryAcquire ch _ | completionAccept ch | deadlineMiss ch _ | drbgReseedDone ch _
    | tripRecovery ch | unassignedOpcode ch =>
    exact .of_next hnext ((h.upd ch _).finish s)
  | coreDispatch ch _ | coreSliceTimer ch _ | rakeJobStart ch _ | rakeSliceEnd ch _ | digestJobStart ch _
    | digestSliceEnd ch _ | digestMode ch _ _ | digestData ch _ _ | digestLastWord ch _ _ | digestLastCount ch _ _
    | pkJobStart ch _ | pkValidationEnd ch _ | pkSliceReport ch _ | pkWipeDone ch _ | keyCacheFillStart ch _
    | checkpointTimer ch | exhaustionMark ch _ | rngSeedReady ch _ | drbgReseedDue ch =>
    exact .of_next hnext (h.upd ch _)
  | digestFinishDone ch _ | digestCmp ch _ _ _ | rngPortReq ch _ _ | rngPortData ch _ =>
    exact .of_next hnext (h.upd ch _).drawn
  | inlineDoorbell x _ _ _ => exact .of_next hnext (finish (.ite _ h (h.hostAccess x fun ht => ht.doorbell _ _ _)) s)
  | ringTail x _ => exact .of_next hnext (h.hostAccess x fun ht => ht.writeRingTail _ _)
  | ringFetchDone _ _ _ _ => exact .of_next hnext (finish (.ite _ (h.fetched _ _ _ _) h) s)
  | intakeResume => exact .of_next hnext ((h.resumeIntake _).finish s)
  | cqHead x _ => exact .of_next hnext ((h.hostAccess x fun ht => ht.writeCqHead _ _).finish s)
  | commit x _ => exact .of_next hnext (h.hostAccess x fun ht => .ite _ (ht.writeCommit _) ht)
  | commitApply => exact .of_next hnext (h.applyCommits.finish s)
  | indAddrLo x _ | indAddrHi x _ => exact .of_next hnext (h.hostAccess x fun ht => .ite _ (ht.updPort _) ht)
  | indData x w => exact h.indData hnext
  | fnAcuEnable x _ => exact .of_next hnext ((h.hostAccess x fun ht => .ite _ (ht.acuEnable _) ht).finish s)
  | fnAcuDisable x _ => exact .of_next hnext (h.hostAccess x fun ht => .ite _ (ht.acuDisable _) ht)
  | acuDrainDone _ => exact .of_next hnext (h.updPort _)
  | registerWrite x _ _ _ _ => exact .of_next hnext ((h.hostAccess x fun ht => ht.hostWrite _ _ _ _ _).finish s)
  | rcRegisterRead x _ _ _ => exact .of_next hnext (h.hostAccess x fun ht => ht.hostRead _ _ _ _ _)
  | completionArrival who => exact .of_next hnext ((h.arrivals who).finish s)
  | moderationTimer _ => exact .of_next hnext (.ite _ (h.signal _) h)
  | passingAreaDrain _ => exact .of_next hnext ((h.updPort _).drainPassing _)
  | assayWindowExpiry n => exact h.assayWindowExpiry hnext
  | probeCompletion ch _ => exact .of_next hnext ((h.probeIn ch _).finish s)
  | probeTimeout => exact h.probeTimeout hnext
  | healthReport a b =>
    have hfirst : (if a then s.takeReport .a else s).LinesWhole := .ite _ (h.takeReport .a) h
    exact .of_next hnext (finish (judge (.ite _ (hfirst.takeReport .b) hfirst)) s)
  | healthReportMissing _ => exact .of_next hnext (finish (.ite _ h.judgeNow h) s)
  | channelFaultReport a b => exact h.channelFaultReport hnext
  | channelLostTimeout ch => exact .of_next hnext (finish (.ite _ (h.writeLost ch) h) s)
  | waitLimitExpiry ch _ => exact .of_next hnext ((h.waitExpiry ch _).finish s)
  | waitVerdict _ => exact .of_next hnext (h.updPort _)
  | waitVerdictApply n => exact .of_next hnext ((h.applyWait n).finish s)
  | tideBoundary => exact .of_next hnext (h.tideBoundary.finish s)
  | tideAlign => exact .of_next hnext (.ite _ h.alignLater (.ite _ h.tideZero h))
  | cclkLockReport ch => exact .of_next hnext (h.lockReport ch)
  | cclkLockTimeout => exact .of_next hnext (.ite _ h.tideZero h)
  | tideReport _ _ _ _ => exact .of_next hnext (finish (.ite _ (h.tideReport _ _ _ _) h) s)
  | temperatureReading ch r => exact .of_next hnext ((h.temperature ch r).finish s)
  | thermalDecision => exact .of_next hnext (h.thermalDecision.finish s)
  | channelTrip ch | secondChannelTrip ch => exact .of_next hnext (finish (.ite _ (h.upd ch _) h) s)
  | rakeJobDone ch _ _ => exact .of_next hnext ((h.of_staysIn (.rakeDone ch s _ _)).finish s)
  | laneSelfTest ch _ _ => exact .of_next hnext ((h.of_staysIn (.laneTest ch s _ _)).finish s)
  | digestJobDone ch _ _ => exact .of_next hnext ((h.of_staysIn (.digestDone ch s _ _)).finish s)
  | digestKnownAnswerTest ch _ _ => exact .of_next hnext ((h.of_staysIn (.digestTest ch s _ _)).finish s)
  | pkOperationDone ch _ _ => exact .of_next hnext ((h.of_staysIn (.pkDone ch s _ _)).finish s)
  | backgroundSelfTest ch _ _ => exact .of_next hnext ((h.of_staysIn (.background ch s _ _)).finish s)
  | tamperSourceDetected ch _ =>
    exact .of_next hnext (finish (.ite _ (of_staysIn (h.upd ch _) (StaysIn.detected (.refl ch _) _)) h) s)
  | peerL5Order ch => exact .of_next hnext ((h.peerL5 ch).finish s)
  | monitorTest ch _ _ => exact .of_next hnext ((h.of_staysIn (.monitorTest ch s _ _)).finish s)
  | tmpInAssert ch _ => exact .of_next hnext ((h.of_staysIn (.tmpIn ch s _)).finish s)
  | refclkLoss => exact .of_next hnext (h.refclkLost.finish s)
  | wakeNRelease ch _ => exact .of_next hnext ((h.wakeRelease ch _).finish s)
  | wakeTamperDecision ch => exact .of_next hnext ((h.of_staysIn (.wakeTamper ch s)).finish s)
  | islandBrownOut ch => exact .of_next hnext ((h.upd ch _).drawn.finish s)
  | exhaustionReport ch _ => exact .of_next hnext (h.exhaustReport ch _)
  | rngStartTestEnd ch _ => exact .of_next hnext ((h.rngTestEnd ch _).finish s)
  | rngHealthFail ch _ => exact .of_next hnext (finish (.ite _ h (h.upd ch _).drawn) s)
  | epochRenewalTrigger => exact .of_next hnext (h.foldlUpd _ fun _ => _)
  | entropyContribution ch _ => exact .of_next hnext (.ite _ (h.upd ch _) h)
  | contributionReceived ch => exact .of_next hnext (h.contribution ch)
  | epochFormAlone ch => exact .of_next hnext (h.formAlone ch)
  | epochCheckReceived => exact .of_next hnext (h.epochChecks.finish s)
  | epochEffect ch => exact .of_next hnext (finish (.ite _ (h.upd ch _).epochClear h) s)
  | epochRetryTimer => exact .of_next hnext h.epochRetry
  | sluiceTagFail ch => exact .of_next hnext ((h.sluiceTag ch).finish s)
  | sluiceAgreementDone => exact .of_next hnext (h.agreement.finish s)
  | repairListReceived => exact .of_next hnext (h.refillAt _ h.repair)
  | regionImageReceived => exact .of_next hnext (h.refillAt _ h.regionImage)
  | stateSnapshotReceived => exact .of_next hnext (h.refillAt _ fun x => .ite _ h ((h.sluiceMsg _ _).upd x _))
  | joinReady => exact .of_next hnext ((h.refillAt _ h.ready).finish s)
  | joinCapTide => exact .of_next hnext h.joinCapTide
  | joinTide => exact .of_next hnext (h.joinTide.finish s)
  | journalDeltaReceived => exact h.journalDelta hnext
  | joinHandoverReceived => exact h.joinHandover hnext
  | plannedRetirementStart => exact .of_next hnext (h.plannedStart.finish s)
  | plannedDrainEnd => exact .of_next hnext (h.drainEnd.finish s)
  | channelReset ch => exact .of_next hnext ((h.resetChannel ch).finish s)
  | functionLevelReset f => exact .of_next hnext (finish (.ite _ (h.flr f.toNat) h) s)
  | vfEnableClear => exact .of_next hnext (finish (.ite _ h ((h.updPort _).requestReset _ _ _)) s)
  | functionResetBoundaryR => exact .of_next hnext (h.resetBoundaryR.finish s)
  | resetListReceived ch => exact .of_next hnext (h.resetListIn ch)
  | resetListTimeout => exact .of_next hnext (h.resetLate.finish s)
  | functionResetBoundaryV => exact .of_next hnext (h.resetBoundaryV.finish s)
  | linkReset => exact .of_next hnext (finish (.ite _ h ((h.flr 0).updPort _)) s)
  | powerOn => exact .of_next hnext (.ite _ h (((h.upd .a _).upd .b _).mapStart _))
  | mainPowerLoss => exact .of_next hnext (.ite _ h ((((h.deviceReset _ _ _).upd .a _).upd .b _).mapStart _))
  | porstNAssert => exact h.porstNAssert hnext
  | porstNRelease => exact .of_next hnext (.ite _ h (.ite _ (h.mapStart _).beginStart (h.mapStart _)))
  | portDieStartDone => exact .of_next hnext (h.portUp.finish s)
  | perstNAssert => exact .of_next hnext (.ite _ (h.mapStart _) ((h.mapStart _).deviceReset _ _ _))
  | perstNRelease => exact .of_next hnext (.ite _ (h.mapStart _).beginStart (h.mapStart _))
  | pwrFailNAssert => exact .of_next hnext (finish (.ite _ h (h.updPort _)) s)
  | linkTrainingDone => exact .of_next hnext (.ite _ ((h.mapStart _).updPort _) h)
  | sleepDrainDone => exact .of_next hnext h.sleep
  | fuseLoadDone ch _ => exact .of_next hnext ((h.of_staysIn (.fuseLoad ch s _)).finish s)
  | imageHashDone ch _ _ => exact .of_next hnext ((h.imageHash ch _ _).finish s)
  | hbmTrainingDone ch _ => exact .of_next hnext ((h.of_staysIn (.training ch s _)).finish s)
  | memoryTestDone ch _ =>
    exact .of_next hnext (finish (.ite _ h (.ite _ (h.setChan ch _) (h.of_staysIn (.memoryFails ch s)))) s)
  | selfTestDone ch _ =>
    exact .of_next hnext (finish (.ite _ h (.ite _ (h.selfTest ch) (h.of_staysIn (.startTestFails ch s)))) s)
  | firstJoinWaitExpiry ch => exact .of_next hnext ((h.joinWaitEnds ch).finish s)
  | firstJoin => exact .of_next hnext (h.firstJoin.finish s)
  | svnCommitTarget ch => exact .of_next hnext (h.of_staysIn (.svnStart ch s))
  | rootRecordWriteDone ch => exact .of_next hnext (finish (.ite _ (h.upd ch _).provisionDone (h.upd ch _)) s)
  | svnCommitMessage ch => exact .of_next hnext ((h.svnMessage ch).finish s)
  | imageImport m image => exact .of_next hnext ((h.kerralIn _ m image).finish s)
  | fenceHold ch => exact .of_next hnext (h.fenceHold ch)
  | fenceReport ch => exact .of_next hnext (h.fenceReport ch)
  | fenceApply ch => exact .of_next hnext ((h.fenceApply ch).finish s)
  | recorderFreezeTimeout => exact .of_next hnext (h.of_lines (PortOnly.recorderFreezeTimeout rfl).lines)
  | recorderPeriodicFlush | recorderFlushDone => exact .of_next hnext (h.updPort _)
  | nonceExpiry => exact .of_next hnext (h.onMgmt _)
  | kerralResponse => exact .of_next hnext h.kerralRespond
  | mctpUnsupportedMessage _ _ => exact .of_next hnext (finish (.ite _ h (h.updPort _)) s)
  | getVersion v b => exact .of_next hnext ((h.spdm v b fun _ => (h.onMgmt _).spdmAnswer _ _ _ _).finish s)
  | getCapabilities v b | negotiateAlgorithms v b =>
    exact .of_next hnext ((h.spdm v b fun _ => spdmAnswer (.ite _ (h.onMgmt _) h) _ _ _ _).finish s)
  | getDigests v b | getCertificate v b | getMeasurements v b =>
    exact .of_next hnext ((h.spdm v b fun _ => h.spdmAnswer _ _ _ _).finish s)
  | challenge v b => exact .of_next hnext (drawn ((h.spdm v b fun _ => h.spdmAnswer _ _ _ _).finish s))
  | keyExchange v b =>
    exact .of_next hnext (drawn ((h.spdm v b fun _ => spdmAnswer (.ite _ (h.onMgmt _) h) _ _ _ _).finish s))
  | finish v b | heartbeat v b | keyUpdate v b | endSession v b => exact .of_next hnext ((h.spdmIn v _ _ b _).finish s)
  | ideKm _ _ _ _ => exact .of_next hnext (.ite _ (h.updPort _) h)
  | requestUpdate v image => exact .of_next hnext (.ite _ h ((h.update image).answer v _ _ _))
  | activateFirmware v => exact .of_next hnext (.ite _ (h.answer v _ _ _) h)
  | getSensorReading v n => exact .of_next hnext (h.of_lines (PortOnly.getSensorReading (v := v) (n := n) rfl).lines)
  | endpointIdAssignment _ _ => exact .of_next hnext (.ite _ h (h.onMgmt _))
  | dynamicAddressAssignment _ => exact .of_next hnext (.ite _ (h.onMgmt _) h)

end State.LinesWhole

/-- Settles O5: every step keeps the lines whole, since `hostLine` is the one write of host memory and every write through
it is of 64 bytes. -/
theorem hostLinesStayWhole : Obligations.HostLinesStayWhole := by
  intro s t hwhole hstep
  unfold step at hstep
  split at hstep
  · exact State.LinesWhole.of_next hstep (State.LinesWhole.idle hwhole)
  next rest _ => exact State.LinesWhole.exec (s := { s with pending := rest }) hwhole hstep

/-- Settles O6: at reset host memory holds no line. -/
theorem resetHostLinesWhole : Obligations.ResetHostLinesWhole := ⟨rfl, fun _ hw => absurd hw List.not_mem_nil, rfl⟩

end Sys2Proof.Machine
end

section
/-! The way in: a doorbell that passes the checks of R54 is delivered (O10), and one that fails is dropped and recorded (O11). -/

namespace Sys2Proof.Machine

theorem Completes.intro {c : Instr} {s t : State} {P : State → Prop} (hexec : exec c s = .next t) (ht : P t) :
    Completes c s P := ⟨t, hexec, ht⟩

/-! ### A request and the checks of R54 -/

theorem State.vfSeen_dropCause (s : State) (f g : Nat) (h : Header) (r : Option (BitVec 16)) :
    (s.vfSeen f).dropCause g h r = s.dropCause g h r := by
  obtain ⟨e, hs⟩ := s.vfSeen_eq f
  rw [hs]; rfl

@[simp] theorem State.vfSeen_queue (s : State) (f q : Nat) : (s.vfSeen f).port.queue q = s.port.queue q := by
  obtain ⟨e, hs⟩ := s.vfSeen_eq f
  rw [hs]; rfl

@[simp] theorem State.vfSeen_queues (s : State) (f : Nat) : (s.vfSeen f).port.queues = s.port.queues := by
  obtain ⟨e, hs⟩ := s.vfSeen_eq f
  rw [hs]; rfl

@[simp] theorem State.vfSeen_tide (s : State) (f : Nat) : (s.vfSeen f).port.tide = s.port.tide := by
  obtain ⟨e, hs⟩ := s.vfSeen_eq f
  rw [hs]; rfl

@[simp] theorem State.vfSeen_waiting (s : State) (f : Nat) : (s.vfSeen f).port.waiting = s.port.waiting := by
  obtain ⟨e, hs⟩ := s.vfSeen_eq f
  rw [hs]; rfl

@[simp] theorem State.vfSeen_logRoom (s : State) (f : Nat) (k : Packet) : (s.vfSeen f).port.logRoom k = s.port.logRoom k := by
  obtain ⟨e, hs⟩ := s.vfSeen_eq f
  rw [hs]; rfl

@[simp] theorem State.vfSeen_underReset (s : State) (f g : Nat) : (s.vfSeen f).port.underReset g = s.port.underReset g := by
  obtain ⟨e, hs⟩ := s.vfSeen_eq f
  rw [hs]; rfl

@[simp] theorem State.vfSeen_owns (s : State) (f g q : Nat) : (s.vfSeen f).port.owns g q = s.port.owns g q := by
  obtain ⟨e, hs⟩ := s.vfSeen_eq f
  rw [hs]; rfl

@[simp] theorem State.vfSeen_host (s : State) (f : Nat) : (s.vfSeen f).host = s.host := by
  obtain ⟨e, hs⟩ := s.vfSeen_eq f
  rw [hs]; rfl

@[simp] theorem State.vfSeen_chan (s : State) (f : Nat) (ch : Chan) : (s.vfSeen f).chan ch = s.chan ch := by
  obtain ⟨e, hs⟩ := s.vfSeen_eq f
  rw [hs, State.updPort_chan]

/-- Under no reset, a doorbell of a header at offset 0 meets the checks. -/
theorem State.doorbell_of_header {s : State} {f : Nat} {data : Bytes} (hreset : s.port.underReset f = false)
    (hlen : 32 ≤ data.length) :
    s.doorbell f 0 data = match s.dropCause f (Header.parse data) none with
      | some c => s.drop f c (Header.parse data).queue
      | none => s.attributed (Header.parse data) true (doorbellSizeOk (Header.parse data) data.length)
          (fun s => (s, some (slice data 32 (Header.parse data).payloadLen.toNat))) := by
  unfold State.doorbell
  exact (if_neg (by simp [hreset])).trans (if_neg (by simp; omega))

/-- The command of a doorbell at offset 0 of a window, from a host that reaches the device. -/
theorem State.exec_doorbell {s : State} {x : Tlp} {w : BitVec 4} {data : Bytes} (hreaches : s.hostReaches = true)
    (hide : s.port.ideOk x.function.toNat x.ide = true) :
    exec (.inlineDoorbell x w 0#12 data) s
      = .next (s.finish ((s.vfSeen x.function.toNat).doorbell x.function.toNat 0 data)) := by
  have hacc := State.hostAccess_of_ok (fun s => s.doorbell x.function.toNat 0 data) hreaches hide
  rw [← hacc]
  exact congrArg (fun t => Host.Outcome.next (s.finish t)) (if_neg (by simp))

/-- Checks 2 to 6 give the causes 2 to 6. -/
theorem State.dropCause_ne_one {s : State} {f : Nat} {h : Header} {r : Option (BitVec 16)} {c : Nat}
    (hc : s.dropCause f h r = some c) : c ≠ 1 := by
  unfold State.dropCause at hc
  dsimp only at hc
  split_ifs at hc <;> simp_all <;> omega

/-! ### Fan-out of a twin packet (R54, R309) -/

theorem PortDie.reuse_nextIntake (p : PortDie) (g : Nat) : (p.reuse g).nextIntake = p.nextIntake := by
  unfold PortDie.reuse
  dsimp only
  split
  · rfl
  · split <;> rfl

theorem PortDie.reuse_waiting (p : PortDie) (g : Nat) : (p.reuse g).waiting = p.waiting := by
  unfold PortDie.reuse
  dsimp only
  split
  · rfl
  · split <;> rfl

/-- The updates of either channel leave the port die. -/
theorem State.port_ite_upd (s : State) (a b : Prop) [Decidable a] [Decidable b] (f g : Channel → Channel) :
    (if b then (if a then s.upd .a f else s).upd .b g else if a then s.upd .a f else s).port = s.port := by
  split_ifs <;> simp

/-- A twin packet takes the next intake number, counts as outstanding, and reaches every joined channel. -/
theorem State.fanOut_of_twin {s : State} {k : Packet} (hk : k.hdr.halved = false) :
    (s.fanOut k).port.queue k.hdr.queue.toNat
      = { s.port.queue k.hdr.queue.toNat with outstanding := (s.port.queue k.hdr.queue.toNat).outstanding + 1#17 }
    ∧ (s.fanOut k).port.nextIntake = s.port.nextIntake + 1
    ∧ ∀ ch, s.port.joined ch = true →
        ((s.fanOut k).chan ch).sched.fanout = (s.chan ch).sched.fanout ++ [{ k with intakeNo := s.port.nextIntake }] := by
  unfold State.fanOut
  rw [if_neg (by simp [hk])]
  dsimp only
  simp only [State.port_ite_upd, hk, Bool.false_eq_true, if_false, PortDie.queue_setQueue_same]
  refine ⟨trivial, congrArg (· + 1) (s.port.reuse_nextIntake _), fun ch hch => ?_⟩
  cases ch
  · rw [if_pos hch]
    split_ifs <;> simp [State.chan, Channel.delivered]
  · rw [if_pos hch]
    split_ifs <;> simp [State.chan, Channel.delivered]

/-- What a packet's own queue and the joined channels show once it is stamped, numbered and fanned out with payload `b`. -/
def State.Delivers (s : State) (h : Header) (b : Bytes) (t : State) : Prop :=
  (t.port.queue h.queue.toNat).expected = (s.port.queue h.queue.toNat).expected + 1#32
  ∧ t.port.nextIntake = s.port.nextIntake + 1
  ∧ ∀ ch, s.port.joined ch = true → ∃ k, (t.chan ch).sched.fanout = (s.chan ch).sched.fanout ++ [k] ∧ k.hdr = h
      ∧ k.payload = b ∧ k.intakeTide = s.port.tide ∧ k.intakeNo = s.port.nextIntake

theorem State.Delivers.finish {s t : State} {h : Header} {b : Bytes} (hd : s.Delivers h b t) (old : State) :
    s.Delivers h b (old.finish t) := by
  obtain ⟨hexpected, hnext, hfan⟩ := hd
  refine ⟨?_, by rw [State.finish_port_nextIntake, hnext], fun ch hch => ?_⟩
  · rw [PortDie.queue_congr (State.finish_port_queues old t), hexpected]
  · rw [State.finish_chan]
    exact hfan ch hch

theorem State.Delivers.of_vfSeen {s t : State} {f : Nat} {h : Header} {b : Bytes} (hd : (s.vfSeen f).Delivers h b t) :
    s.Delivers h b t := by
  obtain ⟨e, hseen⟩ := s.vfSeen_eq f
  rwa [hseen] at hd

theorem State.accept_of_room {s : State} {k : Packet} (hwaiting : s.port.waiting = []) (hroom : s.port.logRoom k = true) :
    s.accept k = s.fanOut k := by
  rw [State.accept, hwaiting, hroom, Bool.or_true, List.isEmpty_nil, Bool.true_and, if_pos rfl]

/-- A packet whose SEQ is accepted, of which checks 7 to 12 pass, is delivered where it need not wait (R54, R310); of its
queue's context only the expected number and the outstanding count move. -/
theorem State.attributed_delivers {s : State} {h : Header} {pad size : Bool} {payload : State → State × Option Bytes} {b : Bytes}
    (hchecks : headerChecks h (s.port.queue h.queue.toNat).conf pad size = none) (hpayload : ∀ t, payload t = (t, some b))
    (htwin : h.halved = false) (hwaiting : s.port.waiting = [])
    (hroom : s.port.logRoom { hdr := h, payload := b, intakeTide := s.port.tide, intakeNo := 0 } = true) :
    s.Delivers h b (s.attributed h pad size payload)
    ∧ ((s.attributed h pad size payload).port.queue h.queue.toNat).sqHead = (s.port.queue h.queue.toNat).sqHead := by
  let x : QCtx := { s.port.queue h.queue.toNat with expected := (s.port.queue h.queue.toNat).expected + 1#32 }
  let k : Packet := { hdr := h, payload := b, intakeTide := s.port.tide, intakeNo := 0 }
  let s1 : State := s.updPort (fun p => p.setQueue h.queue.toNat x)
  have hfan : s.attributed h pad size payload = s1.fanOut k := by
    unfold State.attributed
    dsimp only
    rw [hchecks]
    dsimp only
    rw [hpayload]
    exact State.accept_of_room (s := s1) hwaiting hroom
  obtain ⟨hqueue, hnext, hdelivered⟩ := State.fanOut_of_twin (s := s1) (k := k) htwin
  have hx : s1.port.queue k.hdr.queue.toNat = x := PortDie.queue_setQueue_same ..
  rw [hfan]
  refine ⟨⟨?_, hnext, fun ch hch => ⟨_, hdelivered ch hch, rfl, rfl, rfl, rfl⟩⟩, ?_⟩
  · rw [hqueue, hx]
  · rw [hqueue, hx]

/-- Settles O10. -/
theorem doorbellPassesTheChecks : Obligations.DoorbellPassesTheChecks := by
  intro s x w data h hreaches hide hreset hlen hh hdrop hchecks htwin hwaiting hroom
  have hmeaning : (s.vfSeen x.function.toNat).doorbell x.function.toNat 0 data
      = (s.vfSeen x.function.toNat).attributed h true (doorbellSizeOk h data.length)
          (fun s => (s, some (slice data 32 h.payloadLen.toNat))) := by
    rw [State.doorbell_of_header (by simpa using hreset) hlen, ← hh, State.vfSeen_dropCause, hdrop]
  refine .intro (State.exec_doorbell hreaches hide) ?_
  rw [hmeaning]
  exact ((State.attributed_delivers (by simpa using hchecks) (fun _ => rfl) htwin (by simpa using hwaiting)
    (by simpa using hroom)).1.of_vfSeen).finish s

/-! ### Drops (R56, R74) -/

/-- An error of a function sets its bit, and of the port die nothing else (R353). -/
theorem State.fnErr_eq (s : State) (f : Nat) (e : FnErr) :
    ∃ p l, s.fnErr f e
      = { s with port := s.port.setFn f ((s.port.fn f).setErr e), host := { s.host with pba := p, sent := l } } := by
  unfold State.fnErr State.raiseError
  dsimp only
  split_ifs
  · exact ⟨s.host.pba, s.host.sent, rfl⟩
  · exact State.raise_eq _ _ _
  · exact ⟨s.host.pba, s.host.sent, rfl⟩

theorem State.fnErr_fn_same (s : State) (f : Nat) (e : FnErr) : (s.fnErr f e).port.fn f = (s.port.fn f).setErr e := by
  obtain ⟨p, l, h⟩ := s.fnErr_eq f e
  rw [h, PortDie.fn_setFn_same]

/-- INTAKE_ERR after a drop (R74): the first is kept whole, later ones show in MORE. -/
def Fn.dropped (x : Fn) (cause : Nat) (queue : BitVec 16) (expected : Word) : Fn :=
  if x.intakeCause == 0#4 then
    { x with intakeCause := BitVec.ofNat 4 cause, intakeQueue := if cause == 1 then 0#16 else queue, intakeExpected := expected }
  else { x with intakeMore := true }

/-- The first drop is recorded whole. -/
theorem Fn.dropped_first {x : Fn} {cause : Nat} {queue : BitVec 16} {expected : Word} (hx : x.intakeCause = 0#4)
    (hcause : cause ≠ 1) :
    ((x.dropped cause queue expected).setErr .intake).intakeCause = BitVec.ofNat 4 cause
    ∧ ((x.dropped cause queue expected).setErr .intake).intakeQueue = queue
    ∧ ((x.dropped cause queue expected).setErr .intake).intakeExpected = expected := by
  simp [Fn.dropped, Fn.setErr, hx, hcause]

/-- A later drop shows in MORE alone. -/
theorem Fn.dropped_later {x : Fn} {cause : Nat} {queue : BitVec 16} {expected : Word} (hx : x.intakeCause ≠ 0#4) :
    ((x.dropped cause queue expected).setErr .intake).intakeMore = true
    ∧ ((x.dropped cause queue expected).setErr .intake).intakeCause = x.intakeCause := by
  simp [Fn.dropped, Fn.setErr, hx]

/-- The word of INTAKE_ERR_SEQ: the expected number of a queue of the function, for causes 3 to 6 (R74). -/
def PortDie.droppedSeq (p : PortDie) (f cause : Nat) (queue : BitVec 16) : Word :=
  if p.owns f queue.toNat && cause != 1 && cause != 2 then (p.queue queue.toNat).expected else 0#32

theorem State.drop_fn (s : State) (f cause : Nat) (queue : BitVec 16) :
    (s.drop f cause queue).port.fn f
      = ((s.port.fn f).dropped cause queue (s.port.droppedSeq f cause queue)).setErr .intake := by
  obtain ⟨r, n, o, hrecord⟩ := s.port.record_eq 0x001 cause
  simp only [State.drop, intakeDrop, State.fnErr_fn_same, State.updPort_port, PortDie.fn_setFn_same, hrecord]
  rfl

/-- A drop leaves the queues, what waits, host memory and both channels as they were (R56). -/
theorem State.drop_leaves (s : State) (f cause : Nat) (queue : BitVec 16) :
    (s.drop f cause queue).port.queues = s.port.queues ∧ (s.drop f cause queue).port.waiting = s.port.waiting
    ∧ (s.drop f cause queue).host.lines = s.host.lines ∧ ∀ ch, (s.drop f cause queue).chan ch = s.chan ch := by
  obtain ⟨r, n, o, hrecord⟩ := s.port.record_eq 0x001 cause
  unfold State.drop intakeDrop
  extract_lets own x x'
  obtain ⟨p, l, herr⟩ := State.fnErr_eq ((s.updPort (fun p => p.record 0x001 cause)).updPort (fun p => p.setFn f x')) f .intake
  rw [herr]
  refine ⟨(congrArg PortDie.queues hrecord :), (congrArg PortDie.waiting hrecord :), rfl, fun ch => ?_⟩
  cases ch <;> simp only [State.chan, State.updPort]

/-- Settles O11. -/
theorem droppedDoorbellIsRecorded : Obligations.DroppedDoorbellIsRecorded := by
  intro s x w data h c hreaches hide hreset hlen hh hdrop
  have hmeaning : (s.vfSeen x.function.toNat).doorbell x.function.toNat 0 data
      = (s.vfSeen x.function.toNat).drop x.function.toNat c h.queue := by
    rw [State.doorbell_of_header (by simpa using hreset) hlen, ← hh, State.vfSeen_dropCause, hdrop]
  refine .intro (State.exec_doorbell hreaches hide) ?_
  rw [hmeaning]
  generalize hdropped : (s.vfSeen x.function.toNat).drop x.function.toNat c h.queue = t
  obtain ⟨hqueues, hwaiting, hlines, hchan⟩ := (s.vfSeen x.function.toNat).drop_leaves x.function.toNat c h.queue
  have hfn := (s.vfSeen x.function.toNat).drop_fn x.function.toNat c h.queue
  rw [hdropped] at hqueues hwaiting hlines hchan hfn
  have hseq : (s.vfSeen x.function.toNat).port.droppedSeq x.function.toNat c h.queue
      = if s.port.owns x.function.toNat h.queue.toNat && c != 2 then (s.port.queue h.queue.toNat).expected else 0#32 := by
    simp [PortDie.droppedSeq, State.dropCause_ne_one hdrop]
  rw [hseq, PortDie.fn_congr (s.vfSeen_fns _)] at hfn
  rw [PortDie.fn_congr (State.finish_port_fns s t), hfn]
  refine ⟨rfl, ?_, ?_, ?_, fun ch => ?_, ?_⟩
  · rw [State.finish_port_queues, hqueues, State.vfSeen_queues]
  · rw [State.finish_port_waiting, hwaiting, State.vfSeen_waiting]
  · rw [State.finish_lines, hlines, State.vfSeen_host]
  · rw [State.finish_chan, hchan, State.vfSeen_chan]
  · split
    next hfirst => exact Fn.dropped_first hfirst (State.dropCause_ne_one hdrop)
    next hlater => exact Fn.dropped_later hlater

end Sys2Proof.Machine
end

section
/-! The way out and the rings (O12): what writing, holding and sending a completion and a function reset leave in the port die. -/

namespace Sys2Proof.Machine

/-! ### What the writing of a completion leaves in the port die (R60, R338, R351) -/

/-- The port die without the functions' registers, the queues and the record of refused pieces: what errors, signals and
written completions leave. -/
def PortDie.besideQueues (p : PortDie) : PortDie := { p with fns := [], queues := [], tenant := PortDie.reset.tenant }

theorem PortDie.setQueue_besideQueues (p : PortDie) (q : Nat) (x : QCtx) : (p.setQueue q x).besideQueues = p.besideQueues := rfl

theorem State.hostLine_port (s : State) (f addr : Nat) (line : Bytes) : (s.hostLine f addr line).port = s.port := rfl

theorem State.fnErr_besideQueues (s : State) (f : Nat) (e : FnErr) : (s.fnErr f e).port.besideQueues = s.port.besideQueues := by
  obtain ⟨p, l, h⟩ := s.fnErr_eq f e
  rw [h]; rfl

theorem State.dmaFault_besideQueues (s : State) (f kind q addr : Nat) (part : Bool) :
    (s.dmaFault f kind q addr part).port.besideQueues = s.port.besideQueues := State.fnErr_besideQueues _ _ _

theorem State.signal_besideQueues (s : State) (q : Nat) : (s.signal q).port.besideQueues = s.port.besideQueues := by
  unfold State.signal
  dsimp only
  split
  · exact s.fnErr_besideQueues _ _
  · rw [State.raise_port]; rfl

theorem State.moderate_besideQueues (s : State) (q : Nat) : (s.moderate q).port.besideQueues = s.port.besideQueues := by
  unfold State.moderate
  dsimp only
  split
  · exact State.signal_besideQueues _ _
  · rfl

theorem State.foldl_besideQueues {α : Type} {f : State → α → State}
    (hf : ∀ s x, (f s x).port.besideQueues = s.port.besideQueues) (l : List α) (s : State) :
    (l.foldl f s).port.besideQueues = s.port.besideQueues := by
  induction l generalizing s with
  | nil => rfl
  | cons x l ih => rw [List.foldl_cons, ih, hf]

theorem State.emit_besideQueues (s : State) (e : Egress) : (s.emit e).port.besideQueues = s.port.besideQueues := by
  unfold State.emit
  extract_lets q f x es addr good bad s1 n s2 s3
  have hline (t : State) (w : Nat × Bytes) : (t.hostLine f (addr w.1) w.2).port.besideQueues = t.port.besideQueues :=
    congrArg PortDie.besideQueues (t.hostLine_port f (addr w.1) w.2)
  have h1 : s1.port.besideQueues = s.port.besideQueues := State.foldl_besideQueues hline good s
  have hfault (t : State) (w : Nat × Bytes) :
      (t.dmaFault f 3 q (addr w.1) (!good.isEmpty)).port.besideQueues = t.port.besideQueues := t.dmaFault_besideQueues _ _ _ _ _
  have h3 : s3.port.besideQueues = s2.port.besideQueues := State.foldl_besideQueues hfault bad s2
  have h2 : s2.port.besideQueues = s1.port.besideQueues := s1.port.setQueue_besideQueues q _
  rw [State.moderate_besideQueues, h3, h2, h1]

section
variable {p r : PortDie} (h : p.besideQueues = r.besideQueues)
include h

theorem PortDie.passing_of_beside : p.passing = r.passing := (congrArg PortDie.passing h :)
theorem PortDie.start_of_beside : p.start = r.start := (congrArg PortDie.start h :)
theorem PortDie.credits_of_beside : p.credits = r.credits := (congrArg PortDie.credits h :)
theorem PortDie.waiting_of_beside : p.waiting = r.waiting := (congrArg PortDie.waiting h :)
theorem PortDie.outst_of_beside : p.outst = r.outst := (congrArg PortDie.outst h :)
theorem PortDie.resets_of_beside : p.resets = r.resets := (congrArg PortDie.resets h :)

end

theorem State.emit_passing (s : State) (e : Egress) : (s.emit e).port.passing = s.port.passing :=
  PortDie.passing_of_beside (s.emit_besideQueues e)
theorem State.emit_start (s : State) (e : Egress) : (s.emit e).port.start = s.port.start :=
  PortDie.start_of_beside (s.emit_besideQueues e)
theorem State.emit_credits (s : State) (e : Egress) : (s.emit e).port.credits = s.port.credits :=
  PortDie.credits_of_beside (s.emit_besideQueues e)
theorem State.emit_waiting (s : State) (e : Egress) : (s.emit e).port.waiting = s.port.waiting :=
  PortDie.waiting_of_beside (s.emit_besideQueues e)
theorem State.emit_outst (s : State) (e : Egress) : (s.emit e).port.outst = s.port.outst :=
  PortDie.outst_of_beside (s.emit_besideQueues e)
theorem State.emit_resets (s : State) (e : Egress) : (s.emit e).port.resets = s.port.resets :=
  PortDie.resets_of_beside (s.emit_besideQueues e)

/-- Over a link that is up, completions leave the passing area from its head (R69). -/
theorem State.drainPassing_of_linkUp {s : State} (hlink : s.port.start.linkUp = true) (n : Nat) :
    (s.drainPassing n).port.passing = s.port.passing.drop n ∧ (s.drainPassing n).port.credits = s.port.credits := by
  induction n generalizing s with
  | zero => exact ⟨rfl, rfl⟩
  | succ n ih =>
    rw [State.drainPassing, if_neg (by simp [hlink])]
    split
    next hnil => exact ⟨by rw [hnil]; rfl, rfl⟩
    next e l hcons =>
      obtain ⟨hpassing, hcredits⟩ := ih (s := (s.updPort (fun p => { p with passing := l })).emit e)
        (by rw [State.emit_start]; exact hlink)
      rw [State.emit_passing] at hpassing
      rw [State.emit_credits] at hcredits
      exact ⟨by rw [hpassing, hcons]; rfl, hcredits⟩

/-! ### What sending a completion can do (R68, R69, R347) -/

/-- A completion is held in the egress buffer, or resets its function. -/
theorem State.hold_cases (s : State) (e : Egress) :
    s.hold e = s.requestReset [e.function.toNat] false true
    ∨ s.hold e = s.updPort (fun p => { p with held := p.held ++ [e] }) := by
  unfold State.hold
  dsimp only
  split
  · exact .inl rfl
  · exact .inr rfl

/-- A completion on its way is dropped, held, written, or left in the passing area. -/
theorem State.send_cases (s : State) (e : Egress) :
    s.send e = s ∨ s.send e = s.hold e ∨ s.send e = s.emit e
    ∨ s.send e = (s.updPort (fun p => p.setQueue e.queue.toNat { p.queue e.queue.toNat with overrun := true })).hold e
    ∨ s.send e = s.updPort (fun p => { p with passing := p.passing ++ [e] }) := by
  unfold State.send
  dsimp only
  split_ifs
  exacts [.inl rfl, .inr (.inl rfl), .inr (.inr (.inr (.inl rfl))), .inr (.inr (.inl rfl)), .inr (.inr (.inr (.inr rfl))),
    .inr (.inl rfl)]

/-- What a relation of states must allow so that sending keeps it: the writes of the egress, and a function reset. -/
structure SendKeeps (R : State → State → Prop) : Prop where
  refl : ∀ s, R s s
  trans : ∀ {s t u}, R s t → R t u → R s u
  reset : ∀ s f, R s (s.requestReset [f] false true)
  emit : ∀ s e, R s (s.emit e)
  held : ∀ s l, R s (s.updPort (fun p => { p with held := l }))
  passing : ∀ s l, R s (s.updPort (fun p => { p with passing := l }))
  overrun : ∀ s q b, R s (s.updPort (fun p => p.setQueue q { p.queue q with overrun := b }))

namespace SendKeeps

variable {R : State → State → Prop} (hR : SendKeeps R)
include hR

theorem hold (s : State) (e : Egress) : R s (s.hold e) := by
  rcases s.hold_cases e with h | h <;> rw [h]
  · exact hR.reset s _
  · exact hR.held s _

theorem send (s : State) (e : Egress) : R s (s.send e) := by
  rcases s.send_cases e with h | h | h | h | h <;> rw [h]
  · exact hR.refl s
  · exact hR.hold s e
  · exact hR.emit s e
  · exact hR.trans (hR.overrun s _ _) (hR.hold _ e)
  · exact hR.passing s _

theorem foldl {α : Type} {f : State → α → State} (hf : ∀ s x, R s (f s x)) (l : List α) (s : State) : R s (l.foldl f s) := by
  induction l generalizing s with
  | nil => exact hR.refl s
  | cons x l ih => exact hR.trans (hf s x) (ih _)

theorem release (s : State) (q : Nat) : R s (s.release q) := by
  unfold State.release
  dsimp only
  split_ifs
  · exact hR.refl s
  · exact hR.refl s
  · exact hR.overrun s q true
  · exact hR.trans (hR.trans (hR.overrun s q false) (hR.held _ _)) (hR.foldl hR.send _ _)

end SendKeeps

/-! ### The request of a function reset (R346, R347) -/

/-- The functions of a request that are not yet under reset. -/
def PortDie.newlyReset (p : PortDie) (fns : List Nat) : List Nat := fns.filter (fun f => !p.underReset f)

/-- The functions' outstanding commands once their reset is requested: none will be written, and of those only the one that a
probe resolves stays listed. -/
def PortDie.resetOutst (p : PortDie) (new : List Nat) : List Outst :=
  (p.outst.filter (fun o => !new.contains o.function.toNat
    || (match p.assay.resolve with | some r => r.intakeNo == o.intakeNo | none => false))).map
    (fun o => if new.contains o.function.toNat then { o with held := false, written := true } else o)

/-- The reset that a request in the tide adds. -/
def PortDie.resetEntry (p : PortDie) (new : List Nat) : FnReset :=
  { fns := new, r := p.tide + 2, n := p.nextIntake - 1, listA := none, listB := none, v := none, union := [] }

theorem PortDie.foldl_setQueue_eq (p : PortDie) (x : PortDie → Nat → QCtx) (l : List Nat) :
    ∃ q, l.foldl (fun p q => p.setQueue q (x p q)) p = { p with queues := q } := by
  induction l generalizing p with
  | nil => exact ⟨p.queues, rfl⟩
  | cons i l ih =>
    obtain ⟨q, h⟩ := ih (p.setQueue i (x p i))
    exact ⟨q, h⟩

theorem PortDie.queue_setQueue_other (p : PortDie) {i q : Nat} (x : QCtx) (h : i ≠ q) : (p.setQueue q x).queue i = p.queue i :=
  SMap.get_set_other QCtx.reset p.queues x h

/-- The same queue but for its outstanding count. -/
def QCtx.SameButOutstanding (x y : QCtx) : Prop := { x with outstanding := 0#17 } = { y with outstanding := 0#17 }

theorem QCtx.SameButOutstanding.cqHead {x y : QCtx} (h : x.SameButOutstanding y) : x.cqHead = y.cqHead :=
  (congrArg QCtx.cqHead h :)

theorem PortDie.foldl_outstanding (p : PortDie) (l : List Nat) (i : Nat) :
    ((l.foldl (fun p q => p.setQueue q { p.queue q with outstanding := 0#17 }) p).queue i).SameButOutstanding (p.queue i) := by
  induction l generalizing p with
  | nil => exact rfl
  | cons q l ih =>
    refine (ih _).trans ?_
    by_cases hi : i = q
    · rw [hi, PortDie.queue_setQueue_same]
    · rw [PortDie.queue_setQueue_other _ _ hi]

/-- A request for functions all under reset records itself alone (R356). -/
theorem State.requestReset_of_merged {s : State} {fns : List Nat} (all egress : Bool) (hnew : s.port.newlyReset fns = []) :
    ∃ x, s.requestReset fns all egress = s.updPort (fun p => { p with tenant := x }) := by
  unfold State.requestReset
  exact ⟨_, if_pos (by simpa [PortDie.newlyReset] using hnew)⟩

/-- The port die once a reset of the functions is requested, but for the outstanding counts of their queues. -/
def PortDie.requested (p : PortDie) (new : List Nat) (tenant : Tenant) : PortDie :=
  { p with
    tenant := tenant
    waiting := p.waiting.filter (fun k => !new.contains k.hdr.function.toNat)
    passing := p.passing.filter (fun e => !new.contains e.function.toNat)
    held := p.held.filter (fun e => !new.contains e.function.toNat)
    waits := p.waits.filter (fun w => (p.resetOutst new).any (fun o => o.intakeNo == w.intakeNo))
    outst := p.resetOutst new
    resets := p.resets ++ [p.resetEntry new] }

/-- What a request leaves in the port die (R347, step 1). -/
theorem State.requestReset_of_new {s : State} {fns : List Nat} (all egress : Bool) (hnew : s.port.newlyReset fns ≠ []) :
    ∃ x q r n o v, (∀ i, (SMap.get QCtx.reset q i).SameButOutstanding (s.port.queue i)) ∧ s.requestReset fns all egress = { s with
      port := { s.port.requested (s.port.newlyReset fns) x with
        queues := q, recorder := r, mgmt := { s.port.mgmt with alertsSent := n, out := o } }
      host := { s.host with pba := v } } := by
  have hne : ¬ (s.port.newlyReset fns).isEmpty = true := by simpa using hnew
  let x : Tenant := { s.port.tenant with resetFn := if all then 0#8 else byte (fns.headD 0), resetAll := all, resetEgress := egress }
  let p := s.port.requested (s.port.newlyReset fns) x
  obtain ⟨q, hq⟩ := p.foldl_setQueue_eq (fun p q => { p.queue q with outstanding := 0#17 }) (p.queuesOf (s.port.newlyReset fns))
  have hqueue (i : Nat) : (SMap.get QCtx.reset q i).SameButOutstanding (s.port.queue i) := by
    have hi := p.foldl_outstanding (p.queuesOf (s.port.newlyReset fns)) i
    rw [hq] at hi
    exact hi
  have hstep : s.requestReset fns all egress = { s with
      port := if egress then ({ p with queues := q } : PortDie).record 0x004 (fns.headD 0) else { p with queues := q }
      host := s.host.dropPba (s.port.newlyReset fns) } := by
    rw [← hq]
    exact if_neg hne
  rw [hstep]
  split
  · obtain ⟨r, n, o, hr⟩ := ({ p with queues := q } : PortDie).record_eq 0x004 (fns.headD 0)
    rw [hr]
    exact ⟨x, q, r, n, o, _, hqueue, rfl⟩
  · exact ⟨x, q, s.port.recorder, s.port.mgmt.alertsSent, s.port.mgmt.out, _, hqueue, rfl⟩

/-- A request only shortens the list of packets that wait. -/
theorem State.requestReset_waiting_le (s : State) (fns : List Nat) (all egress : Bool) :
    (s.requestReset fns all egress).port.waiting.length ≤ s.port.waiting.length := by
  by_cases hnew : s.port.newlyReset fns = []
  · obtain ⟨x, h⟩ := State.requestReset_of_merged all egress hnew
    rw [h]; exact Nat.le_refl _
  · obtain ⟨x, q, r, n, o, v, -, h⟩ := State.requestReset_of_new all egress hnew
    rw [h]; exact List.length_filter_le ..

/-! ### CQ_HEAD and the waiting list (R68, R310) -/

/-- Sending never lengthens the list of packets that wait at intake. -/
theorem sendKeeps_waiting : SendKeeps (fun s t => t.port.waiting.length ≤ s.port.waiting.length) where
  refl _ := Nat.le_refl _
  trans h h' := h'.trans h
  reset s _ := s.requestReset_waiting_le _ _ _
  emit s e := Nat.le_of_eq (congrArg List.length (s.emit_waiting e))
  held _ _ := Nat.le_refl _
  passing _ _ := Nat.le_refl _
  overrun _ _ _ := Nat.le_refl _

/-- Every queue has the CQ_HEAD it had. -/
def State.HeadsKept (s t : State) : Prop := ∀ i, (t.port.queue i).cqHead = (s.port.queue i).cqHead

namespace State.HeadsKept

theorem setQueue (s : State) (q : Nat) (x : QCtx) (hx : x.cqHead = (s.port.queue q).cqHead) :
    s.HeadsKept (s.updPort (fun p => p.setQueue q x)) := fun i => by
  by_cases hi : i = q
  · rw [hi, State.updPort_port, PortDie.queue_setQueue_same, hx]
  · rw [State.updPort_port, PortDie.queue_setQueue_other _ _ hi]

theorem of_queues {s t : State} (h : t.port.queues = s.port.queues) : s.HeadsKept t := fun i => by rw [PortDie.queue_congr h]

theorem trans {s t u : State} (h : s.HeadsKept t) (h' : t.HeadsKept u) : s.HeadsKept u := fun i => (h' i).trans (h i)

theorem foldl {α : Type} {f : State → α → State} (hf : ∀ (s : State) x, s.HeadsKept (f s x)) (l : List α) (s : State) :
    s.HeadsKept (l.foldl f s) := by
  induction l generalizing s with
  | nil => exact of_queues rfl
  | cons x l ih => exact (hf s x).trans (ih _)

theorem fnErr (s : State) (f : Nat) (e : FnErr) : s.HeadsKept (s.fnErr f e) := of_queues (by
  obtain ⟨p, l, h⟩ := s.fnErr_eq f e
  rw [h]; rfl)

theorem dmaFault (s : State) (f kind q addr : Nat) (part : Bool) : s.HeadsKept (s.dmaFault f kind q addr part) :=
  trans (of_queues rfl) (fnErr (s.updPort _) f _)

theorem signal (s : State) (q : Nat) : s.HeadsKept (s.signal q) := by
  unfold State.signal
  dsimp only
  split
  · exact fnErr s _ _
  · exact (setQueue s q { s.port.queue q with unsignalled := 0#8 } rfl).trans (of_queues (by rw [State.raise_port]))

theorem moderate (s : State) (q : Nat) : s.HeadsKept (s.moderate q) := by
  unfold State.moderate
  extract_lets x u x' s1
  have h1 : s.HeadsKept s1 := setQueue s q x' rfl
  split
  · exact h1.trans (signal s1 q)
  · exact h1

theorem emit (s : State) (e : Egress) : s.HeadsKept (s.emit e) := by
  unfold State.emit
  extract_lets q f x es addr good bad s1 n s2 s3
  have hline (t : State) (w : Nat × Bytes) : t.HeadsKept (t.hostLine f (addr w.1) w.2) :=
    of_queues (congrArg PortDie.queues (t.hostLine_port f (addr w.1) w.2))
  have h1 : s.HeadsKept s1 := foldl hline good s
  have hx : x.cqHead = (s1.port.queue q).cqHead := (h1 q).symm
  have h2 : s1.HeadsKept s2 := setQueue s1 q _ hx
  have h3 : s2.HeadsKept s3 := foldl (fun t _ => dmaFault t _ _ _ _ _) bad s2
  exact ((h1.trans h2).trans h3).trans (moderate s3 q)

theorem requestReset (s : State) (fns : List Nat) (all egress : Bool) : s.HeadsKept (s.requestReset fns all egress) := by
  by_cases hnew : s.port.newlyReset fns = []
  · obtain ⟨x, h⟩ := State.requestReset_of_merged all egress hnew
    rw [h]; exact of_queues rfl
  · obtain ⟨x, q, r, n, o, v, hq, h⟩ := State.requestReset_of_new all egress hnew
    rw [h]
    exact fun i => (hq i).cqHead

end State.HeadsKept

theorem sendKeeps_heads : SendKeeps State.HeadsKept where
  refl _ := .of_queues rfl
  trans h h' := h.trans h'
  reset s _ := .requestReset s _ _ _
  emit s e := .emit s e
  held _ _ := .of_queues rfl
  passing _ _ := .of_queues rfl
  overrun s q b := .setQueue s q { s.port.queue q with overrun := b } rfl

/-! ### The commands of the rings (R52, R68, R69, R338) -/

theorem State.fanOut_waiting_le (s : State) (k : Packet) : (s.fanOut k).port.waiting.length ≤ s.port.waiting.length := by
  unfold State.fanOut
  dsimp only
  split
  · exact sendKeeps_waiting.send s _
  · rw [State.port_ite_upd]
    exact Nat.le_of_eq (congrArg List.length (s.port.reuse_waiting _))

theorem State.resumeIntake_waiting_le (s : State) (n : Nat) :
    (s.resumeIntake n).port.waiting.length ≤ s.port.waiting.length := by
  induction n generalizing s with
  | zero => exact Nat.le_refl _
  | succ n ih =>
    rw [State.resumeIntake]
    split
    · exact Nat.le_refl _
    next k l hcons =>
      split
      · refine (ih _).trans ((State.fanOut_waiting_le _ k).trans ?_)
        rw [hcons]
        exact Nat.le_succ _
      · exact Nat.le_refl _

/-- The first packet leaves the list where its space is free (R310). -/
theorem State.resumeIntake_waiting_lt {s : State} {k : Packet} {l : List Packet} (hcons : s.port.waiting = k :: l)
    (hroom : k.hdr.halved = true ∨ s.port.logRoom k = true) :
    (s.resumeIntake s.port.waiting.length).port.waiting.length < s.port.waiting.length := by
  have hstep : s.resumeIntake s.port.waiting.length
      = ((s.updPort (fun p => { p with waiting := l })).fanOut k).resumeIntake l.length := by
    rw [hcons, List.length_cons, State.resumeIntake, hcons]
    exact if_pos (by simpa using hroom)
  rw [hstep, hcons]
  exact Nat.lt_succ_of_le ((State.resumeIntake_waiting_le _ _).trans (State.fanOut_waiting_le _ k))

/-- The queue number in a write of RING_TAIL or CQ_HEAD is 16 bits (R418). -/
theorem queueField_toNat (value : Word) : (BitVec.ofNat 16 (value.toNat / 2 ^ 16)).toNat = value.toNat / 2 ^ 16 := by
  have := value.isLt
  rw [BitVec.toNat_ofNat]
  omega

/-- RING_TAIL on a ring queue of the function (R52). -/
theorem State.writeRingTail_of_ring {s : State} {f : Nat} {value : Word} (hreset : s.port.underReset f = false)
    (howns : s.port.owns f (value.toNat / 2 ^ 16) = true) (hring : (s.port.queue (value.toNat / 2 ^ 16)).conf.ring = true) :
    s.writeRingTail f value = s.updPort (fun p => p.setQueue (value.toNat / 2 ^ 16) { s.port.queue (value.toNat / 2 ^ 16) with
      sqTail := BitVec.ofNat 16 (value.toNat % 2 ^ 16 % (s.port.queue (value.toNat / 2 ^ 16)).sqSize), fetchHalt := false }) := by
  unfold State.writeRingTail
  simp only [queueField_toNat, hreset, howns, hring, Bool.not_true, Bool.false_eq_true, if_false]

/-- CQ_HEAD on a queue of the function (R68). -/
theorem State.writeCqHead_cqHead {s : State} {f : Nat} {value : Word} (hreset : s.port.underReset f = false)
    (howns : s.port.owns f (value.toNat / 2 ^ 16) = true) :
    ((s.writeCqHead f value).port.queue (value.toNat / 2 ^ 16)).cqHead
      = BitVec.ofNat 16 (value.toNat % 2 ^ 16 % (s.port.queue (value.toNat / 2 ^ 16)).cqSize) := by
  unfold State.writeCqHead
  simp only [hreset, howns, Bool.not_true, Bool.false_eq_true, if_false]
  rw [sendKeeps_heads.release _ _ _, State.updPort_port, PortDie.queue_setQueue_same]

/-- An entry that a ring gave and checks 2 to 6 pass names that ring (R54). -/
theorem State.queue_of_dropCause {s : State} {f : Nat} {h : Header} {q : BitVec 16} (hdrop : s.dropCause f h (some q) = none) :
    h.queue = q := by
  unfold State.dropCause at hdrop
  dsimp only at hdrop
  split_ifs at hdrop with h1 h2 h3
  simp only [Bool.or_eq_true, Bool.not_eq_true', bne_iff_ne, ne_eq, not_or, not_not] at h3
  exact h3.2.symm

/-- The head of a ring counts for no check of R54. -/
theorem State.dropCause_setHead (s : State) (f : Nat) (h : Header) (r : Option (BitVec 16)) (q : Nat) (n : BitVec 16) :
    (s.updPort (fun p => p.setQueue q { p.queue q with sqHead := n })).dropCause f h r = s.dropCause f h r := by
  have hqueue : ∃ m, (s.port.setQueue q { s.port.queue q with sqHead := n }).queue h.queue.toNat
      = { s.port.queue h.queue.toNat with sqHead := m } := by
    by_cases hq : h.queue.toNat = q
    · exact ⟨n, by rw [hq, PortDie.queue_setQueue_same]⟩
    · exact ⟨(s.port.queue h.queue.toNat).sqHead, PortDie.queue_setQueue_other _ _ hq⟩
  obtain ⟨m, hm⟩ := hqueue
  unfold State.dropCause
  simp only [State.updPort_port, hm]
  rfl

/-- A fetched entry under its queue's stream and window, of at most 32 payload bytes, moves the head and meets the checks. -/
theorem State.fetched_attributed {s : State} {q : BitVec 16} {ide : Option (BitVec 6)} {data : Bytes} {payload : Option Bytes}
    (hfetches : s.port.fetches q.toNat = true) (hlen : data.length = 64)
    (hide : s.port.ideOk (s.port.queueFn q.toNat) ide = true)
    (hdma : (s.port.fn (s.port.queueFn q.toNat)).dmaOk false
      (4096 * (s.port.queue q.toNat).conf.sqBase.toNat + 64 * (s.port.queue q.toNat).sqHead.toNat) = true)
    (hdrop : s.dropCause (s.port.queueFn q.toNat) (Header.parse data) (some q) = none) :
    s.fetched q ide data payload = (s.updPort (fun p => p.setQueue q.toNat { p.queue q.toNat with
      sqHead := BitVec.ofNat 16 (((s.port.queue q.toNat).sqHead.toNat + 1) % (s.port.queue q.toNat).sqSize) })).attributed
        (Header.parse data) (entryPadZero (Header.parse data) data) (decide ((Header.parse data).payloadLen.toNat ≤ 16384))
        (fun t => t.fetchPayload (s.port.queueFn q.toNat) (Header.parse data) data payload) := by
  have hdrop' := (s.dropCause_setHead (s.port.queueFn q.toNat) (Header.parse data) (some q) q.toNat (BitVec.ofNat 16
    (((s.port.queue q.toNat).sqHead.toNat + 1) % (s.port.queue q.toNat).sqSize))).trans hdrop
  unfold State.fetched
  dsimp only
  rw [if_neg (by simp [hfetches, hlen]), if_neg (by simp [hide]), if_neg (by simp [hdma])]
  dsimp only [State.updPort] at hdrop' ⊢
  rw [hdrop']

theorem State.fetchPayload_of_inline (s : State) (f : Nat) {h : Header} (data : Bytes) (payload : Option Bytes)
    (hlen : h.payloadLen.toNat ≤ 32) : s.fetchPayload f h data payload = (s, some (slice data 32 h.payloadLen.toNat)) := by
  have hinline : entryHasAddress h = false := by simp [entryHasAddress, hlen]
  unfold State.fetchPayload
  exact if_pos (by rw [hinline]; rfl)

/-- A fetched entry with its payload inline, of which every check passes, moves the head and is delivered (R52, R54). -/
theorem State.fetched_delivers {s : State} {q : BitVec 16} {ide : Option (BitVec 6)} {data : Bytes} (payload : Option Bytes)
    (hfetches : s.port.fetches q.toNat = true) (hlen : data.length = 64)
    (hide : s.port.ideOk (s.port.queueFn q.toNat) ide = true)
    (hdma : (s.port.fn (s.port.queueFn q.toNat)).dmaOk false
      (4096 * (s.port.queue q.toNat).conf.sqBase.toNat + 64 * (s.port.queue q.toNat).sqHead.toNat) = true)
    (hdrop : s.dropCause (s.port.queueFn q.toNat) (Header.parse data) (some q) = none)
    (hchecks : headerChecks (Header.parse data) (s.port.queue q.toNat).conf (entryPadZero (Header.parse data) data) true = none)
    (hinline : (Header.parse data).payloadLen.toNat ≤ 32) (htwin : (Header.parse data).halved = false)
    (hroom : s.port.logRoom ⟨Header.parse data, slice data 32 (Header.parse data).payloadLen.toNat, s.port.tide, 0⟩ = true) :
    ((s.fetched q ide data payload).port.queue q.toNat).sqHead
      = BitVec.ofNat 16 (((s.port.queue q.toNat).sqHead.toNat + 1) % (s.port.queue q.toNat).sqSize)
    ∧ s.Delivers (Header.parse data) (slice data 32 (Header.parse data).payloadLen.toNat) (s.fetched q ide data payload) := by
  have hname := State.queue_of_dropCause hdrop
  rw [State.fetched_attributed hfetches hlen hide hdma hdrop]
  let s1 : State := s.updPort (fun p => p.setQueue q.toNat { p.queue q.toNat with
    sqHead := BitVec.ofNat 16 (((s.port.queue q.toNat).sqHead.toNat + 1) % (s.port.queue q.toNat).sqSize) })
  have hctx : s1.port.queue (Header.parse data).queue.toNat = { s.port.queue q.toNat with
      sqHead := BitVec.ofNat 16 (((s.port.queue q.toNat).sqHead.toNat + 1) % (s.port.queue q.toNat).sqSize) } := by
    rw [hname, State.updPort_port, PortDie.queue_setQueue_same]
  have hwaiting : s.port.waiting = [] := by
    simp only [PortDie.fetches, Bool.and_eq_true, List.isEmpty_iff] at hfetches
    exact hfetches.2
  have hsize : decide ((Header.parse data).payloadLen.toNat ≤ 16384) = true := by simp; omega
  obtain ⟨⟨hexpected, hnext, hfan⟩, hhead⟩ := State.attributed_delivers (s := s1) (h := Header.parse data)
    (pad := entryPadZero (Header.parse data) data) (size := decide ((Header.parse data).payloadLen.toNat ≤ 16384))
    (by rw [hctx, hsize]; exact hchecks)
    (fun t => t.fetchPayload_of_inline (s.port.queueFn q.toNat) data payload hinline) htwin hwaiting hroom
  rw [hctx, hname] at hexpected hhead
  refine ⟨hhead, ?_, hnext, hfan⟩
  rw [hname]
  exact hexpected

/-- A signalled queue has no unsignalled completion (R338). -/
theorem State.signal_unsignalled {s : State} {q : Nat}
    (hlive : (s.port.queue q).conf.vector.toNat < (s.port.fn (s.port.queueFn q)).cfg.vectors.toNat) :
    ((s.signal q).port.queue q).unsignalled = 0#8 := by
  unfold State.signal
  dsimp only
  rw [if_neg (by omega), State.raise_port, State.updPort_port, PortDie.queue_setQueue_same]

/-- As many completions as the list is long, or fewer. -/
theorem drop_min_length {α : Type} (l : List α) (n : Nat) : l.drop (min n l.length) = l.drop n := by
  rcases Nat.le_total n l.length with h | h
  · rw [Nat.min_eq_left h]
  · rw [Nat.min_eq_right h, List.drop_length, List.drop_eq_nil_of_le h]

/-- Settles O12. -/
theorem ringsAndReturnedEntries : Obligations.RingsAndReturnedEntries := by
  refine ⟨?_, ?_, ?_, ?_, ?_, ?_⟩
  · rintro s x value q hreaches hide hreset rfl howns hring
    refine .intro rfl ?_
    rw [State.hostAccess_of_ok _ hreaches hide, State.writeRingTail_of_ring (by simpa using hreset) (by simpa using howns)
      (by simpa using hring), State.updPort_port, PortDie.queue_setQueue_same, State.vfSeen_queue]
    exact ⟨rfl, rfl⟩
  · rintro s q ide data h payload hreaches hfetches hlen hide hdma rfl hdrop hchecks hinline htwin hroom
    refine .intro rfl ?_
    rw [if_pos hreaches]
    obtain ⟨hhead, hdelivers⟩ := State.fetched_delivers payload hfetches hlen hide hdma hdrop hchecks hinline htwin hroom
    obtain ⟨hexpected, hnext, hfan⟩ := hdelivers.finish s
    exact ⟨by rw [PortDie.queue_congr (State.finish_port_queues _ _), hhead], hexpected, hnext, hfan⟩
  · rintro s x value q hreaches hide hreset rfl howns
    refine .intro rfl ?_
    rw [PortDie.queue_congr (State.finish_port_queues _ _), State.hostAccess_of_ok _ hreaches hide,
      State.writeCqHead_cqHead (by simpa using hreset) (by simpa using howns), State.vfSeen_queue]
  · intro s k l hcons hroom
    refine .intro rfl ?_
    rw [State.finish_port_waiting]
    exact State.resumeIntake_waiting_lt hcons hroom
  · intro s n hlink
    refine .intro rfl ?_
    obtain ⟨hpassing, hcredits⟩ := State.drainPassing_of_linkUp (s := s.updPort (fun p => { p with credits := true })) hlink
      (min n s.port.passing.length)
    exact ⟨hcredits, hpassing.trans (drop_min_length _ n)⟩
  · intro s q hdue hlive
    refine .intro rfl ?_
    rw [if_pos hdue]
    exact State.signal_unsignalled hlive

end Sys2Proof.Machine
end

section
/-! What comes into a channel - fan-out, the last delivered, function resets - and that the scheduler's and the engines' work leaves it. -/

namespace Sys2Proof.Machine

/-! ### What the scheduler's and the engines' work leaves of a channel's inflow -/

/-- What comes into the scheduler: the packets in fan-out, the number of the next work item, the last sequence numbers. -/
def Sched.inflow (d : Sched) : List Packet × Nat × SMap Nat := (d.fanout, d.nextItem, d.delivered)

/-- What comes into a channel: the inflow of its scheduler, the function resets under way and the volatile counts. -/
def Channel.inflow (c : Channel) : (List Packet × Nat × SMap Nat) × List (List Nat × Nat) × SMap Nat :=
  (c.sched.inflow, c.resetting, c.keys.vc)

section
variable {c d : Channel} (h : d.inflow = c.inflow)
include h

theorem Channel.resetting_of_inflow : d.resetting = c.resetting := congrArg (·.2.1) h
theorem Channel.vc_of_inflow : d.keys.vc = c.keys.vc := congrArg (·.2.2) h

end

@[simp] theorem Channel.inflow_ite (b : Prop) [Decidable b] (c d : Channel) :
    (if b then c else d).inflow = if b then c.inflow else d.inflow := apply_ite ..

@[simp] theorem Channel.inflow_foldl {α : Type} {f : Channel → α → Channel}
    (h : ∀ c x, (f c x).inflow = c.inflow) (l : List α) (c : Channel) : (l.foldl f c).inflow = c.inflow := by
  induction l generalizing c with
  | nil => rfl
  | cons x l ih => rw [List.foldl_cons, ih, h]

theorem Channel.onSched_inflow {f : Sched → Sched} (h : ∀ d, (f d).inflow = d.inflow) (c : Channel) :
    (c.onSched f).inflow = c.inflow := congrArg (·, c.resetting, c.keys.vc) (h c.sched)

@[simp] theorem Sched.writeTrace_inflow (d : Sched) : d.writeTrace.inflow = d.inflow := by
  unfold Sched.writeTrace
  split <;> rfl

@[simp] theorem Sched.pushTrace_inflow (d : Sched) (r : TraceRec) : (d.pushTrace r).inflow = d.inflow := by
  unfold Sched.pushTrace
  extract_lets put
  have hput (d : Sched) : (put d).inflow = d.inflow := rfl
  split_ifs
  · rfl
  · exact hput d
  · exact (hput _).trans d.writeTrace_inflow
  · exact hput d
  · rfl

@[simp] theorem Sched.mapCore_inflow (d : Sched) (k : Nat) (f : Core → Core) : (d.mapCore k f).inflow = d.inflow := rfl

@[simp] theorem Sched.enlist_inflow (d : Sched) (x : Item) (head : Bool) : (d.enlist x head).inflow = d.inflow := by
  simp only [Sched.enlist]
  split <;> rfl

theorem Sched.joinOne_inflow {d e : Sched} {id : Nat} {halved : Bool} {k : Place} (h : d.joinOne id halved k = some e) :
    e.inflow = d.inflow := by
  simp only [Sched.joinOne] at h
  split at h
  next => split at h <;> (cases h; rfl)
  next =>
    split at h
    · cases h; rfl
    · split at h
      next => cases h; rfl
      next =>
        split at h
        · cases h
        · split at h
          next => cases h; rfl
          next => cases h

theorem Sched.joinAll_inflow {d e : Sched} {id : Nat} {halved : Bool} {l : List Place} (h : d.joinAll id halved l = some e) :
    e.inflow = d.inflow := by
  induction l generalizing d with
  | nil => cases h; rfl
  | cons k l ih =>
    rw [Sched.joinAll] at h
    split at h
    next d' hd => exact (ih h).trans (Sched.joinOne_inflow hd)
    next => cases h

theorem Sched.countMerge_inflow (d : Sched) (id : Nat) : (d.countMerge id).inflow = d.inflow := by
  unfold Sched.countMerge
  split <;> rfl

theorem Sched.join_inflow {d e : Sched} {id : Nat} {halved : Bool} {l : List Place} (h : d.join id halved l = some e) :
    e.inflow = d.inflow := by
  obtain ⟨d', hd, rfl⟩ := Option.map_eq_some_iff.1 h
  exact (d'.countMerge_inflow id).trans (Sched.joinAll_inflow hd)

/-! Work items and decisions -/

@[simp] theorem Channel.setItem_inflow (c : Channel) (x : Item) : (c.setItem x).inflow = c.inflow := rfl

@[simp] theorem Channel.trace_inflow (c : Channel) (x : Item) (decision unit : Nat) (code due cycles : Nat)
    (exempt : Bool) : (c.trace x decision unit code due cycles exempt).inflow = c.inflow :=
  Channel.onSched_inflow (fun d => d.pushTrace_inflow _) c

@[simp] theorem Channel.produceIn_inflow (c : Channel) (x : Item) (ph : Phase) (producer at' : Nat) (r : Res) :
    (c.produceIn x ph producer at' r).inflow = c.inflow := rfl

@[simp] theorem Channel.produce_inflow (c : Channel) (x : Item) (producer at' : Nat) (r : Res) :
    (c.produce x producer at' r).inflow = c.inflow := rfl

@[simp] theorem Channel.schedPort_inflow (c : Channel) (x : Item) (r : Res) : (c.schedPort x r).inflow = c.inflow := rfl

@[simp] theorem Channel.refuse_inflow (c : Channel) (x : Item) (code : Code) (detail : BitVec 4) :
    (c.refuse x code detail).inflow = c.inflow := by simp [Channel.refuse]

@[simp] theorem Channel.journalWrite_inflow (c : Channel) (n object : Nat) (image : Image) :
    (c.journalWrite n object image).inflow = c.inflow := rfl

@[simp] theorem Channel.clearHealth_inflow (c : Channel) (bit : Nat) : (c.clearHealth bit).inflow = c.inflow := rfl

@[simp] theorem Channel.sync_inflow (c : Channel) : c.sync.inflow = c.inflow := rfl

@[simp] theorem Channel.mapSched_inflow (c : Channel) (f : SchedRegs → SchedRegs) : (c.mapSched f).inflow = c.inflow := rfl

@[simp] theorem Channel.mapSkim_inflow (c : Channel) (f : SkimRegs → SkimRegs) : (c.mapSkim f).inflow = c.inflow := rfl

@[simp] theorem Channel.mapPair_inflow (c : Channel) (j : Nat) (f : Pair → Pair) : (c.mapPair j f).inflow = c.inflow := rfl

/-! Keys and the use ledger -/

@[simp] theorem Keys.rewrite_vc (k : Keys) (slot : Nat) (gen : BitVec 16) (f : KeyHeader → KeyHeader) (t : Tally → Tally) :
    (k.rewrite slot gen f t).vc = k.vc := by
  unfold Keys.rewrite
  split
  · split <;> rfl
  · rfl

theorem Channel.withKeys_inflow {c : Channel} {k : Keys} (h : k.vc = c.keys.vc) :
    ({ c with keys := k } : Channel).inflow = c.inflow :=
  congrArg (c.sched.inflow, c.resetting, ·) h

@[simp] theorem Channel.bindSlot_inflow (c : Channel) (x : Item) (slot : Nat) : (c.bindSlot x slot).1.inflow = c.inflow := by
  simp only [Channel.bindSlot]
  split
  · rfl
  · split
    · rfl
    · split
      · rfl
      · refine (Channel.journalWrite_inflow _ _ _ _).trans (Channel.withKeys_inflow ?_)
        split
        · rfl
        · exact Keys.rewrite_vc ..

@[simp] theorem Channel.dropLedger_inflow (c : Channel) (x : Item) (slot : Nat) : (c.dropLedger x slot).inflow = c.inflow := by
  unfold Channel.dropLedger
  split <;> rfl

@[simp] theorem Channel.ledgerAt_inflow (c : Channel) (x : Item) : (c.ledgerAt x).1.inflow = c.inflow := by
  unfold Channel.ledgerAt
  extract_lets f k seen x slot
  split
  · split_ifs
    · rfl
    · dsimp only
      split <;> rfl
    · exact c.dropLedger_inflow x slot
    · rfl
  · exact c.dropLedger_inflow x slot
  · rfl

@[simp] theorem Channel.ledgerNoted_inflow (c : Channel) (x : Item) : (c.ledgerNoted x).1.inflow = c.inflow := c.ledgerAt_inflow x

@[simp] theorem Channel.popReaders_inflow (c : Channel) : c.popReaders.inflow = c.inflow := rfl

@[simp] theorem Channel.bindAll_inflow (c : Channel) (id : Nat) : (c.bindAll id).inflow = c.inflow := by
  unfold Channel.bindAll
  split
  · rfl
  · exact Channel.inflow_foldl (fun c k => by (repeat' split) <;> simp) _ _

@[simp] theorem Channel.settle_inflow (c : Channel) : c.settle.inflow = c.inflow := by simp [Channel.settle]

@[simp] theorem Channel.leaveFlows_inflow (c : Channel) (id : Nat) : (c.leaveFlows id).inflow = c.inflow := rfl

@[simp] theorem Channel.releaseRetained_inflow (c : Channel) : c.releaseRetained.inflow = c.inflow := rfl

@[simp] theorem Channel.releaseEpochs_inflow (c : Channel) : c.releaseEpochs.inflow = c.inflow := rfl

/-! Cores -/

@[simp] theorem Channel.preempt_inflow (c : Channel) (k : Nat) (y : Item) (urgent : Bool) :
    (c.preempt k y urgent).inflow = c.inflow := by
  simp only [Channel.preempt, Channel.trace_inflow, Channel.mapSched_inflow]
  exact (Channel.onSched_inflow (fun d => d.mapCore_inflow k _) _).trans (c.setItem_inflow _)

@[simp] theorem Channel.enterAt_inflow (c : Channel) (x : Item) (head : Bool) : (c.enterAt x head).inflow = c.inflow := by
  have henlist (c : Channel) : (c.onSched (·.enlist x head)).inflow = c.inflow :=
    Channel.onSched_inflow (fun d => d.enlist_inflow x head) c
  simp only [Channel.enterAt]
  split <;> simp [henlist]

@[simp] theorem Channel.enter_inflow (c : Channel) (x : Item) : (c.enter x).inflow = c.inflow := c.enterAt_inflow x false

@[simp] theorem Channel.stop_inflow (c : Channel) (x : Item) : (c.stop x).inflow = c.inflow := rfl

@[simp] theorem Channel.abort_inflow (c : Channel) (x : Item) (r : Res) : (c.abort x r).inflow = c.inflow := by
  unfold Channel.abort
  repeat' split <;> simp

@[simp] theorem Channel.retireItem_inflow (c : Channel) (id : Nat) : (c.retireItem id).inflow = c.inflow := by
  simp only [Channel.retireItem, Channel.releaseEpochs_inflow, Channel.releaseRetained_inflow, Channel.settle_inflow]
  exact Channel.onSched_inflow (fun _ => rfl) _

@[simp] theorem Channel.removeItem_inflow (c : Channel) (x : Item) : (c.removeItem x).inflow = c.inflow := by
  have hgone : ((c.stop x).retireItem x.id).inflow = c.inflow := by simp
  simp only [Channel.removeItem]
  split
  · exact (Channel.onSched_inflow (fun d => d.mapCore_inflow _ _) _).trans hgone
  · exact hgone

@[simp] theorem Channel.holdStream_inflow (c : Channel) (x : Item) : (c.holdStream x).inflow = c.inflow := by
  unfold Channel.holdStream
  split <;> simp

/-! Admission -/

@[simp] theorem Channel.setUse_inflow (c : Channel) (halved : Bool) (u : TideUse) : (c.setUse halved u).inflow = c.inflow :=
  Channel.onSched_inflow (fun _ => by split <;> rfl) c

@[simp] theorem Channel.book_inflow (c : Channel) (halved : Bool) (u : TideUse) (charge j : Nat) :
    (c.book halved u charge j).inflow = c.inflow := rfl

@[simp] theorem Channel.charge_inflow (c : Channel) (p : PortDie) (x : Item) : (c.charge p x).inflow = c.inflow :=
  c.setUse_inflow ..

@[simp] theorem Channel.noteRefusal_inflow (c : Channel) (p : PortDie) (x : Item) (detail : BitVec 4) :
    (c.noteRefusal p x detail).inflow = c.inflow := by simp [Channel.noteRefusal]

@[simp] theorem Channel.countDraw_inflow (c : Channel) (x : Item) : (c.countDraw x).inflow = c.inflow := by
  unfold Channel.countDraw
  extract_lets g
  split_ifs <;> rfl

@[simp] theorem Channel.maskDraw_inflow (c : Channel) (x : Item) : (c.maskDraw x).1.inflow = c.inflow := by
  simp only [Channel.maskDraw]
  split <;> rfl

@[simp] theorem Channel.drawSkim_inflow (c : Channel) (x : Item) : (c.drawSkim x).1.inflow = c.inflow := by
  unfold Channel.drawSkim
  split <;> rfl

@[simp] theorem Channel.accepted_inflow (c : Channel) (p : PortDie) (x : Item) : (c.accepted p x).1.inflow = c.inflow := by
  simp only [Channel.accepted]
  (repeat' split) <;> simp

/-! Lanes and starts -/

@[simp] theorem Channel.noteResult_inflow (c : Channel) (x : Item) (r : Res) : (c.noteResult x r).inflow = c.inflow := by
  unfold Channel.noteResult
  extract_lets k rakeTag c1 g c2 h c3
  have h1 : c1.inflow = c.inflow := by simp only [c1]; split_ifs <;> rfl
  have h2 : c2.inflow = c1.inflow := by simp only [c2]; split_ifs <;> rfl
  have h3 : c3.inflow = c2.inflow := by simp only [c3]; split_ifs <;> rfl
  simp [h1, h2, h3]

@[simp] theorem Channel.countHits_inflow (c : Channel) (x : Item) : (c.countHits x).inflow = c.inflow := by
  unfold Channel.countHits
  extract_lets
  split <;> rfl

@[simp] theorem Channel.awaitFill_inflow (c : Channel) (x : Item) : (c.awaitFill x).inflow = c.inflow := by
  unfold Channel.awaitFill
  split <;> simp

@[simp] theorem Channel.laneTake_inflow (c : Channel) (x : Item) : (c.laneTake x).inflow = c.inflow := by
  unfold Channel.laneTake
  repeat' split <;> simp

@[simp] theorem Channel.laneJoin_inflow (c : Channel) (x : Item) : (c.laneJoin x).inflow = c.inflow := by
  unfold Channel.laneJoin
  repeat' split <;> simp

@[simp] theorem Channel.killStream_inflow (c : Channel) (n i : Nat) : (c.killStream n i).inflow = c.inflow := rfl

@[simp] theorem Channel.killStreams_inflow (c : Channel) (n : Nat) (f : Nat → Stream → Bool) :
    (c.killStreams n f).inflow = c.inflow := by
  simp only [Channel.killStreams]
  exact Channel.inflow_foldl (fun _ _ => by rfl) _ _

@[simp] theorem Channel.withdraw_inflow (c : Channel) (slot : Nat) (x : Item) : (c.withdraw slot x).inflow = c.inflow := by
  unfold Channel.withdraw
  extract_lets free c1 c2 k
  have h1 : c1.inflow = c.inflow := by simp [c1]
  have h2 : c2.inflow = c1.inflow := c1.abort_inflow x _
  split
  · rfl
  · exact (Channel.withKeys_inflow (c := c2) rfl).trans (h2.trans h1)

@[simp] theorem Channel.withdrawUsers_inflow (c : Channel) (x : Item) : (c.withdrawUsers x).inflow = c.inflow := by
  simp [Channel.withdrawUsers]

@[simp] theorem Channel.enterStarted_inflow (c : Channel) (x : Item) : (c.enterStarted x).inflow = c.inflow := by
  simp [Channel.enterStarted]

@[simp] theorem Channel.startItem_inflow (c : Channel) (x : Item) (waited : Bool) :
    (c.startItem x waited).inflow = c.inflow := by
  simp [Channel.startItem]

@[simp] theorem Channel.tryStart_inflow (c : Channel) (id : Nat) (waited : Bool) :
    (c.tryStart id waited).inflow = c.inflow := by
  unfold Channel.tryStart
  split <;> simp

@[simp] theorem Channel.lookAhead_inflow (c : Channel) (id : Nat) : (c.lookAhead id).inflow = c.inflow := by
  simp only [Channel.lookAhead]
  (repeat' split) <;> simp

end Sys2Proof.Machine
end

section
/-! Decode takes its packet from the head of fan-out, whatever it makes of it (O28). -/

namespace Sys2Proof.Machine

/-! ### Decode takes its packet (R54, R78, R81, R83) -/

theorem SMap.find?_insert_same {α : Type} (m : SMap α) (k : Nat) (v : α) : SMap.find? (SMap.insert m k v) k = some v := by
  induction m with
  | nil => simp [SMap.insert, SMap.find?]
  | cons p m ih =>
    obtain ⟨j, w⟩ := p
    rw [SMap.insert]
    split
    · simp [SMap.find?]
    · split
      · simp [SMap.find?]
      next hne => simp [SMap.find?, Ne.symm hne, ih]

/-- The inflow once the packet `k` at the head of fan-out is taken: it has left, it is its queue's last and one more work
item is numbered. -/
def Channel.taken (c : Channel) (k : Packet) : (List Packet × Nat × SMap Nat) × List (List Nat × Nat) × SMap Nat :=
  ((c.sched.fanout.drop 1, c.sched.nextItem + 1, SMap.insert c.sched.delivered k.hdr.queue.toNat k.hdr.seq.toNat),
    c.resetting, c.keys.vc)

theorem Channel.withSched_inflow {c : Channel} {d : Sched} (h : d.inflow = c.sched.inflow) :
    ({ c with sched := d } : Channel).inflow = c.inflow := congrArg (·, c.resetting, c.keys.vc) h

theorem Sched.inflow_getD_join {d e : Sched} {id : Nat} {halved : Bool} {l : List Place} (h : e.inflow = d.inflow) :
    ((d.join id halved l).getD e).inflow = d.inflow := by
  cases hj : d.join id halved l with
  | none => exact h
  | some d' => exact Sched.join_inflow hj

/-- Whatever the checks, the refusals and the admission of R54 to R86 say, the decoded packet is taken. -/
theorem Channel.decodeAs_inflow (c : Channel) (p : PortDie) (o : Op) (k : Packet) : (c.decodeAs p o k).inflow = c.taken k := by
  unfold Channel.decodeAs
  extract_lets h id deps c1 x places c2
  have htaken : c2.inflow = c.taken k := rfl
  split
  next => rw [Channel.refuse_inflow, htaken]
  next joined _ _ =>
    split
    next => rw [Channel.refuse_inflow, htaken]
    next =>
      split
      · dsimp only
        rw [Channel.settle_inflow, Channel.setItem_inflow]
        refine (Channel.withSched_inflow ?_).trans ((c2.ledgerNoted_inflow _).trans htaken)
        have hjoin {d : Sched} (hd : d.inflow = c2.sched.inflow) : ((c2.sched.join id h.halved places).getD d).inflow = d.inflow :=
          (Sched.inflow_getD_join hd).trans hd.symm
        split <;> exact hjoin (congrArg (·.1) (c2.ledgerNoted_inflow _))
      · split
        next => rw [Channel.refuse_inflow, Channel.noteRefusal_inflow, htaken]
        next =>
          cases hd : joined with
          | none => rw [Channel.refuse_inflow, htaken]
          | some d =>
            simp only [Channel.lookAhead_inflow, Channel.tryStart_inflow, Channel.settle_inflow, Channel.trace_inflow,
              Channel.setItem_inflow, Channel.ledgerNoted_inflow, Channel.accepted_inflow]
            rw [Channel.withSched_inflow (Sched.join_inflow hd), htaken]

theorem Channel.decodeUnknown_inflow (c : Channel) (p : PortDie) (k : Packet) : (c.decodeUnknown p k).inflow = c.taken k :=
  Channel.refuse_inflow ..

/-- Forming the handover changes the refill alone. -/
theorem Channel.formHandover_eq (c : Channel) : ∃ r, c.formHandover = { c with refill := { c.refill with sent := r } } := by
  unfold Channel.formHandover
  split
  · exact ⟨_, rfl⟩
  · split
    · exact ⟨_, rfl⟩
    · exact ⟨_, rfl⟩

section
variable {c : Channel} {k : Packet} {l : List Packet} (hfan : c.sched.fanout = k :: l) (hfull : c.tableFull = false)
  (hhandover : c.refill.awaitHandover = false) (hstall : c.stalls (c.sched.nextItem % 4) = false)
include hfan hfull hhandover hstall

/-- Nothing holds decode: the head of fan-out goes to the decode of its operation, or of no operation. -/
theorem Channel.decodeHead_of_free (p : PortDie) {sel : Option Op → Bool}
    (hsel : sel (Op.ofCode k.hdr.opcode.toNat) = true) :
    ∃ r, c.decodeHead p sel = (match Op.ofCode k.hdr.opcode.toNat with
      | some o => ({ c with refill := { c.refill with sent := r } } : Channel).decodeAs p o k
      | none => ({ c with refill := { c.refill with sent := r } } : Channel).decodeUnknown p k) := by
  obtain ⟨r, hr⟩ := c.formHandover_eq
  have hgo : ¬ (c.tableFull || c.refill.awaitHandover || !sel (Op.ofCode k.hdr.opcode.toNat)
      || c.stalls (c.sched.nextItem % 4)) = true := by simp [hfull, hhandover, hstall, hsel]
  refine ⟨r, ?_⟩
  unfold Channel.decodeHead
  simp only [hr, hfan]
  exact if_neg hgo

/-- Nothing holds decode: the packet is taken. -/
theorem Channel.decodeHead_inflow (p : PortDie) {sel : Option Op → Bool} (hsel : sel (Op.ofCode k.hdr.opcode.toNat) = true) :
    (c.decodeHead p sel).inflow = c.taken k := by
  obtain ⟨r, hr⟩ := Channel.decodeHead_of_free hfan hfull hhandover hstall p hsel
  rw [hr]
  split
  next o _ => exact Channel.decodeAs_inflow _ p o k
  next => exact Channel.decodeUnknown_inflow _ p k

end

/-- What a decode with nothing to hold it leaves in its channel, whichever command decodes. -/
theorem State.upd_decodeHead_taken {s : State} {ch : Chan} {k : Packet} {l : List Packet}
    (hfan : (s.chan ch).sched.fanout = k :: l) (hfull : (s.chan ch).tableFull = false)
    (hhandover : (s.chan ch).refill.awaitHandover = false)
    (hstall : (s.chan ch).stalls ((s.chan ch).sched.nextItem % 4) = false) {sel : Option Op → Bool}
    (hsel : sel (Op.ofCode k.hdr.opcode.toNat) = true) :
    let t := s.finish (s.upd ch (fun c => c.decodeHead s.port sel))
    (t.chan ch).sched.fanout = l ∧ (t.chan ch).sched.nextItem = (s.chan ch).sched.nextItem + 1
      ∧ SMap.find? (t.chan ch).sched.delivered k.hdr.queue.toNat = some k.hdr.seq.toNat := by
  intro t
  have ht : (t.chan ch).sched.inflow = ((s.chan ch).taken k).1 := by
    simp only [t, State.finish_chan, State.chan_upd]
    exact congrArg (·.1) (Channel.decodeHead_inflow hfan hfull hhandover hstall s.port hsel)
  have hdelivered := congrArg (·.2.2) ht
  have hfanout := congrArg (·.1) ht
  exact ⟨hfanout.trans (congrArg (List.drop 1) hfan), congrArg (·.2.1) ht, by
    rw [show (t.chan ch).sched.delivered = _ from hdelivered]; exact SMap.find?_insert_same ..⟩

/-- A refusal puts the completion of the command on its scheduler port. -/
theorem Channel.refuse_produced (c : Channel) (x : Item) (code : Code) (detail : BitVec 4) :
    ∃ y ∈ (c.refuse x code detail).sched.produced, y.record = x.record (.fail code detail) :=
  ⟨_, List.mem_append_right _ (List.mem_singleton_self _), rfl⟩

/-- Settles O28: whichever command decodes, with nothing to hold decode the packet at the head of fan-out is taken; of an
opcode of no operation it is refused, and its completion says so. -/
theorem operationsAreDecoded : Obligations.OperationsAreDecoded := by
  unfold Obligations.OperationsAreDecoded
  refine ⟨?_, ?_, ?_⟩
  · intro s ch o k l hfan hcode hfull hhandover hstall
    exact .intro (exec_opRow o ch .decode s)
      (State.upd_decodeHead_taken hfan hfull hhandover hstall (by simp [hcode]))
  · intro s ch k l hfan hfull hhandover hstall
    obtain ⟨hl, hnext, -⟩ := State.upd_decodeHead_taken hfan hfull hhandover hstall (sel := fun _ => true) rfl
    exact .intro rfl ⟨hl, hnext⟩
  · intro s ch k l hfan hcode hfull hhandover hstall
    have hsel : Option.isNone (Op.ofCode k.hdr.opcode.toNat) = true := by rw [hcode]; rfl
    obtain ⟨hl, -, -⟩ := State.upd_decodeHead_taken hfan hfull hhandover hstall hsel
    refine .intro rfl ⟨hl, ?_⟩
    obtain ⟨r, hr⟩ := Channel.decodeHead_of_free hfan hfull hhandover hstall s.port hsel
    rw [hcode] at hr
    simp only [State.finish_chan, State.chan_upd, hr]
    obtain ⟨y, hy, hrecord⟩ := Channel.refuse_produced _ _ Code.malformed malOpcode
    refine ⟨y, hy, ?_⟩
    rw [hrecord]
    exact ⟨rfl, rfl, rfl, rfl, rfl⟩

end Sys2Proof.Machine
end

section
/-! The outstanding commands and the function resets through sending, and a retirement taken apart. -/

namespace Sys2Proof.Machine

/-! ### The outstanding commands through sending and retirement (R68, R319, R347) -/

/-- Every outstanding command's entry has the property. -/
def State.AllOut (P : Outst → Prop) (s : State) : Prop := ∀ o ∈ s.port.outst, P o

theorem State.AllOut.of_outst {P : Outst → Prop} {s t : State} (h : t.port.outst = s.port.outst) (hs : s.AllOut P) :
    t.AllOut P := by
  intro o ho
  rw [h] at ho
  exact hs o ho

theorem State.AllOut.of_subset {P : Outst → Prop} {s t : State} (h : t.port.outst ⊆ s.port.outst) (hs : s.AllOut P) :
    t.AllOut P := fun o ho => hs o (h ho)

theorem PortDie.setOut_outst_mem {p : PortDie} {o x : Outst} (h : x ∈ (p.setOut o).outst) :
    x = o ∨ x ∈ p.outst ∧ x.intakeNo ≠ o.intakeNo := by
  obtain ⟨y, hy, rfl⟩ := List.mem_map.1 h
  by_cases hn : y.intakeNo = o.intakeNo
  · exact .inl (if_pos (by simpa using hn))
  · rw [if_neg (by simpa using hn)]
    exact .inr ⟨hy, hn⟩

theorem State.AllOut.setOut {P : Outst → Prop} {s : State} (hs : s.AllOut P) {o : Outst} (ho : P o) :
    (s.updPort (fun p => p.setOut o)).AllOut P := fun x hx => by
  rcases PortDie.setOut_outst_mem hx with rfl | ⟨hx, -⟩
  · exact ho
  · exact hs x hx

theorem State.AllOut.dropOut {P : Outst → Prop} {s : State} (hs : s.AllOut P) (n : Nat) :
    (s.updPort (fun p => p.dropOut n)).AllOut P := hs.of_subset (List.filter_subset_self _)

/-- A reset of its function leaves an outstanding command neither held nor to be written. -/
theorem PortDie.resetOutst_mem {p : PortDie} {new : List Nat} {x : Outst} (h : x ∈ p.resetOutst new) :
    ∃ o ∈ p.outst, x = o ∨ x = { o with held := false, written := true } := by
  obtain ⟨o, ho, rfl⟩ := List.mem_map.1 h
  refine ⟨o, (List.mem_filter.1 ho).1, ?_⟩
  split
  · exact .inr rfl
  · exact .inl rfl

/-- Sending keeps what holds of every outstanding command, where a reset of its function does. -/
theorem sendKeeps_allOut {P : Outst → Prop} (hP : ∀ o, P o → P { o with held := false, written := true }) :
    SendKeeps (fun s t => s.AllOut P → t.AllOut P) where
  refl _ h := h
  trans h h' := h' ∘ h
  reset s f h := by
    by_cases hnew : s.port.newlyReset [f] = []
    · obtain ⟨x, hx⟩ := State.requestReset_of_merged false true hnew
      rw [hx]; exact h.of_outst rfl
    · obtain ⟨x, q, r, n, o, v, -, hx⟩ := State.requestReset_of_new false true hnew
      rw [hx]
      intro y hy
      obtain ⟨o, ho, rfl | rfl⟩ := PortDie.resetOutst_mem hy
      · exact h _ ho
      · exact hP _ (h o ho)
  emit s e h := h.of_outst (s.emit_outst e)
  held _ _ h := h.of_outst rfl
  passing _ _ h := h.of_outst rfl
  overrun _ _ _ h := h.of_outst rfl

/-- The resets of one state go on in another. -/
def State.ResetsGoOn (s t : State) : Prop := ∃ l, t.port.resets = s.port.resets ++ l

theorem State.ResetsGoOn.of_resets {s t : State} (h : t.port.resets = s.port.resets) : s.ResetsGoOn t :=
  ⟨[], by rw [h, List.append_nil]⟩

theorem State.ResetsGoOn.trans {s t u : State} (h : s.ResetsGoOn t) (h' : t.ResetsGoOn u) : s.ResetsGoOn u := by
  obtain ⟨l, hl⟩ := h
  obtain ⟨m, hm⟩ := h'
  exact ⟨l ++ m, by rw [hm, hl, List.append_assoc]⟩

theorem State.requestReset_goOn (s : State) (fns : List Nat) (all egress : Bool) :
    s.ResetsGoOn (s.requestReset fns all egress) := by
  by_cases hnew : s.port.newlyReset fns = []
  · obtain ⟨x, hx⟩ := State.requestReset_of_merged all egress hnew
    rw [hx]; exact .of_resets rfl
  · obtain ⟨x, q, r, n, o, v, -, hx⟩ := State.requestReset_of_new all egress hnew
    rw [hx]; exact ⟨_, rfl⟩

theorem sendKeeps_resets : SendKeeps State.ResetsGoOn where
  refl _ := .of_resets rfl
  trans h h' := h.trans h'
  reset s _ := s.requestReset_goOn _ _ _
  emit s e := .of_resets (s.emit_resets e)
  held _ _ := .of_resets rfl
  passing _ _ := .of_resets rfl
  overrun _ _ _ := .of_resets rfl

/-! ### The retirement of a channel whose peer is joined (R319) -/

/-- The verdict on a command is final. -/
def State.offOut (s : State) (o : Outst) : State :=
  if o.verdict == .discord then s.updPort (fun p => p.dropOut o.intakeNo)
  else (s.updPort (fun p => p.dropOut o.intakeNo)).updPort (fun p => p.lessOut o.queue.toNat)

/-- What writing off does with a command: nothing, its end, with the completion it holds or none, or its expectation of the
other channel. -/
theorem State.writeOffOne_cases (s : State) (x : Chan) (o : Outst) :
    s.writeOffOne x o = s ∨ s.writeOffOne x o = s.offOut o ∨ (∃ e, s.writeOffOne x o = (s.send e).offOut o)
    ∨ ∃ o', o'.intakeNo = o.intakeNo ∧ o'.windowOver = o.windowOver ∧ s.writeOffOne x o = s.updPort (fun p => p.setOut o') := by
  unfold State.writeOffOne
  split
  · exact .inl rfl
  · extract_lets other final
    split
    · exact .inl rfl
    · clear_value other
      cases other with
      | some r =>
        dsimp only
        split
        · exact .inr (.inr (.inl ⟨_, rfl⟩))
        · exact .inr (.inl rfl)
      | none =>
        dsimp only
        split
        · refine .inr (.inr (.inr ⟨_, ?_, ?_, rfl⟩))
          · cases x <;> rfl
          · cases x <;> rfl
        · exact .inr (.inl rfl)

theorem State.offOut_resets (s : State) (o : Outst) : (s.offOut o).port.resets = s.port.resets := by
  unfold State.offOut
  split <;> rfl

theorem State.AllOut.offOut {P : Outst → Prop} {s : State} (hs : s.AllOut P) (o : Outst) : (s.offOut o).AllOut P := by
  unfold State.offOut
  split
  · exact hs.dropOut _
  · exact (hs.dropOut _).of_outst rfl

theorem State.writeOffOne_goOn (s : State) (x : Chan) (o : Outst) : s.ResetsGoOn (s.writeOffOne x o) := by
  rcases s.writeOffOne_cases x o with h | h | ⟨e, h⟩ | ⟨o', -, -, h⟩ <;> rw [h]
  · exact .of_resets rfl
  · exact .of_resets (s.offOut_resets o)
  · exact (sendKeeps_resets.send s e).trans (.of_resets (State.offOut_resets _ o))
  · exact .of_resets rfl

/-- A property of an outstanding command that its number and the end of its window decide. -/
def Outst.Stable (P : Outst → Prop) : Prop :=
  ∀ o o' : Outst, o'.intakeNo = o.intakeNo → o'.windowOver = o.windowOver → P o → P o'

section
variable {P : Outst → Prop} (hP : Outst.Stable P)
include hP

theorem State.AllOut.send {s : State} (hs : s.AllOut P) (e : Egress) : (s.send e).AllOut P :=
  (sendKeeps_allOut (fun o => hP o _ rfl rfl)).send s e hs

theorem State.AllOut.writeOffOne {s : State} (hs : s.AllOut P) (x : Chan) {o : Outst} (ho : P o) :
    (s.writeOffOne x o).AllOut P := by
  rcases s.writeOffOne_cases x o with h | h | ⟨e, h⟩ | ⟨o', hn, hw, h⟩ <;> rw [h]
  · exact hs
  · exact hs.offOut o
  · exact (hs.send hP e).offOut o
  · exact hs.setOut (hP o o' hn hw ho)

theorem State.AllOut.foldl_writeOffOne {s : State} (hs : s.AllOut P) (x : Chan) {l : List Outst} (hl : ∀ o ∈ l, P o) :
    (l.foldl (fun s o => s.writeOffOne x o) s).AllOut P := by
  induction l generalizing s with
  | nil => exact hs
  | cons o l ih =>
    exact ih (hs.writeOffOne hP x (hl o List.mem_cons_self)) (fun o' h => hl o' (List.mem_cons_of_mem o h))

end

/-- The state from which a retiring channel's commands are written off. -/
structure RetireStart (s u : State) : Prop where
  outst : u.port.outst = s.port.outst
  resets : u.port.resets = s.port.resets
  tide : u.port.tide = s.port.tide
  late : u.port.assay.lateA = s.port.assay.lateA ∧ u.port.assay.lateB = s.port.assay.lateB
  chan : ∀ ch, (u.chan ch).sched = (s.chan ch).sched ∧ (u.chan ch).faults = (s.chan ch).faults

theorem Assay.logRetire_late (y : Assay) (x : Chan) (cause tide : Nat) :
    (y.logRetire x cause tide).lateA = y.lateA ∧ (y.logRetire x cause tide).lateB = y.lateB := by
  unfold Assay.logRetire
  split <;> exact ⟨rfl, rfl⟩

theorem Assay.setSt_late (y : Assay) (x : Chan) (v : ChState) :
    (y.setSt x v).lateA = y.lateA ∧ (y.setSt x v).lateB = y.lateB := by
  cases x <;> exact ⟨rfl, rfl⟩

theorem State.probeOver_chan (s : State) (ch : Chan) :
    (s.probeOver.chan ch).sched = (s.chan ch).sched ∧ (s.probeOver.chan ch).faults = (s.chan ch).faults := by
  unfold State.probeOver
  dsimp only
  split
  · exact ⟨rfl, rfl⟩
  · cases ch <;> exact ⟨rfl, rfl⟩

/-- A retirement that is not of the last channel writes off every outstanding command, then forms the verdicts of resets. -/
theorem State.retire_eq {s : State} {x : Chan} (cause : Nat) (hx : s.port.serving x = true)
    (hpeer : (!s.port.joined x.peer && (s.port.joined x || !s.port.serving x.peer)) = false) :
    ∃ u, RetireStart s u ∧ s.retire x cause
      = (s.port.outst.foldl (fun s o => s.writeOffOne x o) u).updPort (fun p => p.resetVerdicts) := by
  unfold State.retire
  rw [if_neg (by simp [hx]), if_neg (by rw [hpeer]; exact Bool.false_ne_true)]
  extract_lets s1 p1 y1 y2 p2 _ _ p3 s2 s3 s4
  have hp1 : p1 = s.port := s.probeOver_port
  obtain ⟨r, n, o, hr⟩ := ({ p1 with assay := y2 } : PortDie).record_eq 0x013 (8 * x.idx + cause)
  obtain ⟨g, v, l, hg⟩ := s2.devEvent_eq (fun g => if x == .a then { g with evRetireA := true } else { g with evRetireB := true })
  have hs3 : s3.port = { p1 with assay := y2, recorder := p3.recorder, mgmt := p3.mgmt, page := g } := by
    rw [show s3 = _ from hg]
    exact congrArg (fun p : PortDie => { p with recorder := p3.recorder, mgmt := p3.mgmt, page := g }) hr
  have hs4 : s4.port = { s.port with assay := y2, recorder := p3.recorder, mgmt := p3.mgmt, page := g } := by
    rw [show s4 = _ from rfl, State.upd_port, hs3, hp1]
  have hlist : p3.outst = s.port.outst := by
    rw [← hp1]; exact (congrArg PortDie.outst hr :)
  have hlate : y2.lateA = s.port.assay.lateA ∧ y2.lateB = s.port.assay.lateB := by
    rw [← hp1]
    obtain ⟨hloga, hlogb⟩ := (p1.assay.setSt x .retired).logRetire_late x cause p1.tide
    obtain ⟨hseta, hsetb⟩ := p1.assay.setSt_late x .retired
    exact ⟨hloga.trans hseta, hlogb.trans hsetb⟩
  have hchan (ch : Chan) : (s4.chan ch).sched = (s1.chan ch).sched ∧ (s4.chan ch).faults = (s1.chan ch).faults := by
    have h3 (ch : Chan) : s3.chan ch = s1.chan ch := by rw [show s3 = _ from hg]; cases ch <;> rfl
    rw [← h3]
    cases x <;> cases ch <;> exact ⟨rfl, rfl⟩
  refine ⟨s4, ⟨by rw [hs4], by rw [hs4], by rw [hs4], by rw [hs4]; exact hlate, fun ch => ?_⟩, by rw [← hlist]⟩
  obtain ⟨hsched, hfaults⟩ := hchan ch
  obtain ⟨hprobe, hprobe'⟩ := s.probeOver_chan ch
  exact ⟨hsched.trans hprobe, hfaults.trans hprobe'⟩

/-- A retirement: of a channel that serves no more it does nothing, of the last one it notes the fault (R319, R322). -/
theorem State.retire_cases (s : State) (x : Chan) (cause : Nat) :
    s.retire x cause = s ∨ s.retire x cause = (s.soloFault x).writeHeldRng x
    ∨ ∃ u, RetireStart s u ∧ s.retire x cause
        = (s.port.outst.foldl (fun s o => s.writeOffOne x o) u).updPort (fun p => p.resetVerdicts) := by
  by_cases hx : s.port.serving x = true
  · by_cases hpeer : (!s.port.joined x.peer && (s.port.joined x || !s.port.serving x.peer)) = true
    · refine .inr (.inl ?_)
      unfold State.retire
      rw [if_neg (by simp [hx]), if_pos hpeer]
    · exact .inr (.inr (State.retire_eq cause hx (Bool.eq_false_of_not_eq_true hpeer)))
  · refine .inl ?_
    unfold State.retire
    rw [if_pos (by simp [hx])]

end Sys2Proof.Machine
end

section
/-! Function resets, from the request to boundary V (O41). -/

namespace Sys2Proof.Machine

/-! ### Requests (R346, R356) -/

theorem PortDie.underReset_of_goOn {s t : State} (h : s.ResetsGoOn t) {f : Nat} (hf : s.port.underReset f = true) :
    t.port.underReset f = true := by
  obtain ⟨l, hl⟩ := h
  rw [PortDie.underReset, hl, List.any_append]
  exact Bool.or_eq_true_iff.2 (.inl hf)

/-- A request puts every function it names under reset. -/
theorem State.requestReset_underReset {s : State} {fns : List Nat} (all egress : Bool) {f : Nat} (hf : f ∈ fns) :
    (s.requestReset fns all egress).port.underReset f = true := by
  by_cases hold : s.port.underReset f = true
  · exact PortDie.underReset_of_goOn (s.requestReset_goOn fns all egress) hold
  · have hmem : f ∈ s.port.newlyReset fns := List.mem_filter.2 ⟨hf, by simp [hold]⟩
    obtain ⟨x, q, r, n, o, v, -, h⟩ := State.requestReset_of_new all egress (List.ne_nil_of_mem hmem)
    rw [h]
    exact List.any_eq_true.2 ⟨s.port.resetEntry (s.port.newlyReset fns), List.mem_append_right _ (List.mem_singleton_self _),
      List.contains_iff_mem.2 hmem⟩

theorem State.requestReset_sriov (s : State) (fns : List Nat) (all egress : Bool) :
    (s.requestReset fns all egress).port.sriov = s.port.sriov :=
  (congrArg PortDie.sriov (WayOut.requestReset s fns all egress).control :)

theorem mem_vfs {f : Nat} (hpos : 1 ≤ f) (hlt : f < 256) : f ∈ vfs := by
  obtain ⟨k, rfl⟩ := Nat.exists_eq_add_of_le' hpos
  rw [vfs, allFns, List.range_succ_eq_map]
  exact List.mem_map_of_mem (List.mem_range.2 (Nat.lt_of_succ_lt_succ hlt))

/-- A Function Level Reset of a function under none opens its reset, and no outstanding command of it will be written. -/
theorem State.flr_opens {s : State} {f : BitVec 8} (hf : f ≠ 0#8) (hreset : s.port.underReset f.toNat = false) :
    s.port.resetEntry [f.toNat] ∈ (s.flr f.toNat).port.resets
    ∧ (s.flr f.toNat).port.outst = s.port.resetOutst [f.toNat] := by
  have hne : f.toNat ≠ 0 := fun h => hf (BitVec.eq_of_toNat_eq (by simpa using h))
  have hnew : s.port.newlyReset [f.toNat] = [f.toNat] := by simp [PortDie.newlyReset, hreset]
  obtain ⟨x, q, r, n, o, v, -, h⟩ := State.requestReset_of_new (s := s) (fns := [f.toNat]) false false (by rw [hnew]; simp)
  have hflr : s.flr f.toNat = s.requestReset [f.toNat] false false := if_neg (by simp [hne])
  rw [hflr, h, hnew]
  exact ⟨List.mem_append_right _ (List.mem_singleton_self _), rfl⟩

theorem PortDie.resetOutst_written {p : PortDie} {f : BitVec 8} {o : Outst} (ho : o ∈ p.resetOutst [f.toNat])
    (hf : o.function = f) : o.written = true := by
  obtain ⟨x, -, rfl⟩ := List.mem_map.1 ho
  by_cases hx : [f.toNat].contains x.function.toNat = true
  · rw [if_pos hx]
  · rw [if_neg hx] at hf ⊢
    exact absurd (by simp [hf]) hx

/-! ### Boundary R (R347, R348) -/

/-- A reset in a channel at boundary R. -/
def State.stepR (s : State) (r : FnReset) (ch : Chan) : State :=
  if !s.port.serving ch || (s.chan ch).tide < r.r || r.v.isSome || (s.chan ch).resetting.contains (r.fns, r.n) then s
  else s.setChan ch ((s.chan ch).resetR r.fns r.n)

theorem State.resetBoundaryR_of_one {s : State} {r : FnReset} (h : s.port.resets = [r]) :
    s.resetBoundaryR = ((s.stepR r .a).stepR r .b).updPort (fun p => p.resetVerdicts) := by
  unfold State.resetBoundaryR
  rw [h]
  exact rfl

theorem State.stepR_port (s : State) (r : FnReset) (ch : Chan) : (s.stepR r ch).port = s.port := by
  unfold State.stepR
  split
  · rfl
  · exact s.setChan_port ch _

theorem State.stepR_chan_peer (s : State) (r : FnReset) (ch : Chan) : (s.stepR r ch).chan ch.peer = s.chan ch.peer := by
  unfold State.stepR
  split
  · rfl
  · cases ch <;> rfl

theorem State.stepR_chan {s : State} {r : FnReset} {ch : Chan} (hserving : s.port.serving ch = true)
    (htide : r.r ≤ (s.chan ch).tide) (hv : r.v = none) (hnew : (s.chan ch).resetting.contains (r.fns, r.n) = false) :
    (s.stepR r ch).chan ch = (s.chan ch).resetR r.fns r.n := by
  unfold State.stepR
  rw [if_neg (by simp [hserving, hv] at *; exact ⟨htide, hnew⟩)]
  cases ch <;> rfl

/-- Boundary R of the one reset, in a channel that serves. -/
theorem State.resetBoundaryR_chan {s : State} {r : FnReset} {ch : Chan} (hone : s.port.resets = [r])
    (hserving : s.port.serving ch = true) (htide : r.r ≤ (s.chan ch).tide) (hv : r.v = none)
    (hnew : (s.chan ch).resetting.contains (r.fns, r.n) = false) :
    s.resetBoundaryR.chan ch = (s.chan ch).resetR r.fns r.n := by
  rw [State.resetBoundaryR_of_one hone, State.updPort_chan]
  cases ch with
  | a => exact ((s.stepR r .a).stepR_chan_peer r .b).trans (State.stepR_chan hserving htide hv hnew)
  | b =>
    have hb : (s.stepR r .a).chan .b = s.chan .b := s.stepR_chan_peer r .a
    rw [State.stepR_chan (by rw [State.stepR_port]; exact hserving) (by rw [hb]; exact htide) hv (by rw [hb]; exact hnew), hb]

theorem Channel.foldl_journalWrite_eq {α : Type} (n : Nat) (object : α → Nat) (image : α → Image) (l : List α) (c : Channel) :
    ∃ j, l.foldl (fun c x => c.journalWrite n (object x) (image x)) c = { c with journal := j } := by
  induction l generalizing c with
  | nil => exact ⟨c.journal, rfl⟩
  | cons x l ih =>
    obtain ⟨j, hj⟩ := ih (c.journalWrite n (object x) (image x))
    exact ⟨j, hj⟩

/-- What boundary R takes of a function: its volatile count rises, and its sessions and streams go (R348). -/
theorem Channel.wipeFn_leaves (c : Channel) (f n : Nat) :
    (c.wipeFn f n).resetting = c.resetting
    ∧ (c.wipeFn f n).keys.vc = SMap.set 0 c.keys.vc f ((SMap.get 0 c.keys.vc f + 1) % 2 ^ 32)
    ∧ (c.wipeFn f n).keys.sessions = c.keys.sessions.filter (fun x => x.function != f)
    ∧ ∀ y ∈ (c.wipeFn f n).rakes.streams, y.1 / 64 ≠ f := by
  unfold Channel.wipeFn
  extract_lets c1 k v mine r c2 c3
  obtain ⟨j, hj⟩ := Channel.foldl_journalWrite_eq n (fun x : Nat × Stream => x.1) (fun x => .stream x.1 Stream.free) mine c2
  have h3 : c3 = { c2 with journal := j } := hj
  rw [h3]
  refine ⟨rfl, rfl, rfl, fun y hy => ?_⟩
  simpa using (List.mem_filter.1 hy).2

/-- Boundary R of one function in a channel (R347, R348). -/
theorem Channel.resetR_leaves (c : Channel) (f n : Nat) :
    (c.resetR [f] n).resetting = c.resetting ++ [([f], n)] ∧ (c.resetR [f] n).resetList.isSome = true
    ∧ (c.resetR [f] n).keys.vc = SMap.set 0 c.keys.vc f ((SMap.get 0 c.keys.vc f + 1) % 2 ^ 32)
    ∧ (∀ y ∈ (c.resetR [f] n).keys.sessions, y.function ≠ f) ∧ ∀ y ∈ (c.resetR [f] n).rakes.streams, y.1 / 64 ≠ f := by
  unfold Channel.resetR
  extract_lets gone c1 c2 held c3 c4 list
  have h2 : c2.inflow = c1.inflow := Channel.inflow_foldl (fun c x => by split <;> simp) _ _
  have h3 : c3.inflow = c2.inflow := Channel.inflow_foldl (fun c x => by split <;> simp) _ _
  have h31 := h3.trans h2
  obtain ⟨hresetting, hvc, hsessions, hstreams⟩ := c3.wipeFn_leaves f n
  refine ⟨?_, rfl, ?_, ?_, hstreams⟩
  · have hkept : c3.resetting = c1.resetting := Channel.resetting_of_inflow h31
    exact congrArg (· ++ [([f], n)]) (hresetting.trans hkept)
  · have hkept : c3.keys.vc = c1.keys.vc := Channel.vc_of_inflow h31
    rw [hkept] at hvc
    exact hvc
  · intro y hy
    rw [show c4.keys.sessions = _ from hsessions] at hy
    simpa using (List.mem_filter.1 hy).2

/-! ### The verdict (R347) -/

/-- The verdict of a reset leaves its functions, its R and N and the lists it holds. -/
theorem PortDie.resetVerdict_keeps (p : PortDie) (r : FnReset) :
    (p.resetVerdict r).fns = r.fns ∧ (p.resetVerdict r).n = r.n ∧ (p.resetVerdict r).r = r.r
    ∧ ∀ ch, (p.resetVerdict r).list ch = r.list ch := by
  unfold PortDie.resetVerdict
  split
  · exact ⟨rfl, rfl, rfl, fun _ => rfl⟩
  · exact ⟨rfl, rfl, rfl, fun ch => by cases ch <;> rfl⟩

theorem FnReset.setList_keeps (r : FnReset) (ch : Chan) (l : List Nat) :
    (r.setList ch l).fns = r.fns ∧ (r.setList ch l).n = r.n ∧ (r.setList ch l).list ch = some l := by
  cases ch <;> exact ⟨rfl, rfl, rfl⟩

theorem PortDie.resetVerdict_setList (p : PortDie) (r : FnReset) (ch : Chan) (l : List Nat) :
    (p.resetVerdict (r.setList ch l)).fns = r.fns ∧ (p.resetVerdict (r.setList ch l)).n = r.n
    ∧ (p.resetVerdict (r.setList ch l)).list ch = some l := by
  obtain ⟨hfns, hn, -, hlists⟩ := p.resetVerdict_keeps (r.setList ch l)
  obtain ⟨hfns', hn', hlist⟩ := r.setList_keeps ch l
  exact ⟨hfns.trans hfns', hn.trans hn', (hlists ch).trans hlist⟩

/-- A list that arrives for a reset that awaits it is held. -/
theorem State.resetListIn_holds {s : State} {ch : Chan} {r : FnReset} {l : List Nat} (hlist : (s.chan ch).resetList = some l)
    (hr : r ∈ s.port.resets) (hnone : r.list ch = none) (hin : (s.chan ch).resetting.contains (r.fns, r.n) = true) :
    ((s.resetListIn ch).chan ch).resetList = none
    ∧ ∃ y ∈ (s.resetListIn ch).port.resets, y.fns = r.fns ∧ y.n = r.n ∧ y.list ch = some l := by
  unfold State.resetListIn
  simp only [hlist]
  refine ⟨?_, ?_⟩
  · rw [State.updPort_chan]
    cases ch <;> exact rfl
  · simp only [State.updPort_port, State.setChan_port]
    refine ⟨_, List.mem_map_of_mem (List.mem_map_of_mem hr), ?_⟩
    rw [if_pos (by rw [hnone, hin]; rfl)]
    exact PortDie.resetVerdict_setList _ r ch l

/-- The verdict on a reset past its R whose lists from the joined channels are held: V is fixed two tides on. -/
theorem PortDie.resetVerdict_v {p : PortDie} {r : FnReset} (hv : r.v = none ∨ r.v = some (p.tide + 2)) (htide : r.r ≤ p.tide)
    (hlists : ∀ ch, p.joined ch = true → (r.list ch).isSome = true) : (p.resetVerdict r).v = some (p.tide + 2) := by
  unfold PortDie.resetVerdict
  rcases hv with hv | hv
  · rw [if_neg]
    simp only [hv, Option.isSome_none, Bool.false_or, Bool.or_eq_true, decide_eq_true_eq, Bool.not_eq_true', not_or,
      Bool.not_eq_false]
    refine ⟨Nat.not_lt.2 htide, List.all_eq_true.2 fun ch hch => hlists ch (List.mem_filter.1 hch).2⟩
  · rw [if_pos (by simp [hv])]
    exact hv

theorem PortDie.resetVerdict_v_or (p : PortDie) {r : FnReset} (hv : r.v = none) :
    (p.resetVerdict r).v = none ∨ (p.resetVerdict r).v = some (p.tide + 2) := by
  unfold PortDie.resetVerdict
  split
  · exact .inl hv
  · exact .inr rfl

/-- The list of channel B alone has not come by the end of tide R + 15: it is retired. -/
theorem State.resetLate_of_b {s : State} {r : FnReset} (hone : s.port.resets = [r]) (hv : r.v = none)
    (hlate : r.r + 15 < s.port.tide) (ha : s.port.joined .a = true) (hb : s.port.joined .b = true)
    (hlista : r.listA.isSome = true) (hlistb : r.listB = none) :
    s.resetLate = (s.retire .b 4).updPort (fun p => p.resetVerdicts) := by
  have hjoined : s.port.joinedChans = [.a, .b] := by simp [PortDie.joinedChans, chans, ha, hb]
  unfold State.resetLate
  extract_lets late s1
  have hlatea : late .a = false := by simp [late, hone, FnReset.list, hlista]
  have hlateb : late .b = true := by simp [late, hone, FnReset.list, hv, hlate, hlistb]
  have hs1 : s1 = s.retire .b 4 := by simp [s1, hjoined, hlatea, hlateb]
  rw [hs1]

/-- In a retirement with the peer joined, a reset goes on as it stood or with its verdict. -/
theorem State.retire_reset_goesOn {s : State} {x : Chan} {r : FnReset} (cause : Nat) (hx : s.port.serving x = true)
    (hpeer : s.port.joined x.peer = true) (hr : r ∈ s.port.resets) :
    ∃ p : PortDie, p.tide = s.port.tide ∧ (s.retire x cause).port.tide = s.port.tide
      ∧ p.resetVerdict r ∈ (s.retire x cause).port.resets := by
  obtain ⟨u, hu, h⟩ := State.retire_eq cause hx (by simp [hpeer])
  have hgo : u.ResetsGoOn (s.port.outst.foldl (fun s o => s.writeOffOne x o) u) :=
    sendKeeps_resets.foldl (fun s o => s.writeOffOne_goOn x o) _ u
  have htide := (WayOut.foldl (fun s o => .writeOffOne s x o) s.port.outst u).tide.trans hu.tide
  obtain ⟨l, hl⟩ := hgo
  rw [h]
  exact ⟨_, htide, htide, List.mem_map_of_mem (by rw [hl, hu.resets]; exact List.mem_append_left _ hr)⟩

/-- The timeout of channel B's list retires it, and its reset's V is fixed. -/
theorem State.resetLate_leaves {s : State} {r : FnReset} (hone : s.port.resets = [r]) (hv : r.v = none)
    (hlate : r.r + 15 < s.port.tide) (ha : s.port.joined .a = true) (hb : s.port.joined .b = true)
    (hlista : r.listA.isSome = true) (hlistb : r.listB = none) :
    s.resetLate.port.assay.stateB = .retired
    ∧ ∃ y ∈ s.resetLate.port.resets, y.fns = r.fns ∧ y.v = some (s.port.tide + 2) := by
  have hserving := PortDie.serving_of_joined hb
  obtain ⟨hretired, -, -⟩ := State.retire_of_peer_states 4 hserving ha
  obtain ⟨p, hp, htide, hmem⟩ := State.retire_reset_goesOn (r := r) 4 hserving ha (by rw [hone]; exact List.mem_singleton_self r)
  obtain ⟨hfns, -, hr, hlists⟩ := p.resetVerdict_keeps r
  rw [State.resetLate_of_b hone hv hlate ha hb hlista hlistb]
  refine ⟨hretired, _, List.mem_map_of_mem hmem, ((PortDie.resetVerdict_keeps _ _).1).trans hfns, ?_⟩
  rw [← htide]
  refine PortDie.resetVerdict_v ?_ ?_ fun ch hch => ?_
  · rw [htide, ← hp]; exact p.resetVerdict_v_or hv
  · rw [hr, htide]; omega
  · rw [hlists]
    cases ch with
    | a => exact hlista
    | b => rw [PortDie.joined, hretired] at hch; cases hch

/-! ### Boundary V (R347) -/

theorem PortDie.resetDone_resets (p : PortDie) (r : FnReset) : (p.resetDone r).resets = p.resets.erase r := by
  obtain ⟨q, hq⟩ := p.foldl_setQueue_eq (fun p q => (p.queue q).fnReset) (p.queuesOf r.fns)
  unfold PortDie.resetDone
  rw [hq]

/-- Changing every value of a map, by its key, changes the value read, where it leaves the default. -/
theorem SMap.get_map_snd {α : Type} (d : α) (g : Nat → α → α) (m : SMap α) (k : Nat) (hd : g k d = d) :
    SMap.get d (m.map (fun x => (x.1, g x.1 x.2))) k = g k (SMap.get d m k) := by
  induction m with
  | nil => exact hd.symm
  | cons x m ih =>
    obtain ⟨j, v⟩ := x
    rw [List.map_cons, SMap.get, SMap.get]
    split
    next h => rw [h]
    next => exact ih

theorem PortDie.resetDone_intakeCause (p : PortDie) (r : FnReset) {f : Nat} (hf : f ∈ r.fns) :
    ((p.resetDone r).fn f).intakeCause = 0#4 := by
  have hfns : (p.resetDone r).fns = p.fns.map (fun x => (x.1, if r.fns.contains x.1 then x.2.fnReset else x.2)) := by
    obtain ⟨q, hq⟩ := p.foldl_setQueue_eq (fun p q => (p.queue q).fnReset) (p.queuesOf r.fns)
    unfold PortDie.resetDone
    rw [hq]
    exact List.map_congr_left fun x _ => by split <;> rfl
  have hreset : Fn.reset.fnReset = Fn.reset := by exact rfl
  have hin : r.fns.contains f = true := List.contains_iff_mem.2 hf
  rw [PortDie.fn, hfns, SMap.get_map_snd Fn.reset (fun i v => if r.fns.contains i then v.fnReset else v) p.fns f
    (by rw [if_pos hin, hreset]), if_pos hin]
  exact rfl

/-- Boundary V of the one reset. -/
theorem State.resetBoundaryV_leaves {s : State} {r : FnReset} {v : Nat} (hone : s.port.resets = [r]) (hv : r.v = some v)
    (hdue : v ≤ s.port.tide) :
    s.resetBoundaryV.port.resets = [] ∧ ∀ f ∈ r.fns, (s.resetBoundaryV.port.fn f).intakeCause = 0#4 := by
  have hlist : s.port.resets.filter (fun r => r.v.any (fun v => decide (v ≤ s.port.tide))) = [r] := by simp [hone, hv, hdue]
  unfold State.resetBoundaryV
  rw [hlist, List.foldl_cons, List.foldl_nil]
  extract_lets s1 none_
  have hport : s1.port = s.port := by
    simp only [s1, chans, List.foldl_cons, List.foldl_nil]
    split <;> split <;> simp
  refine ⟨((s1.port.resetDone_resets r).trans ?_), fun f hf => s1.port.resetDone_intakeCause r hf⟩
  rw [hport, hone, List.erase_cons_head]

/-! ### The commands -/

/-- Settles O41: the request opens the reset, boundary R is met in each channel alone, a late channel goes, and boundary V
ends the reset. -/
theorem functionResets : Obligations.FunctionResets := by
  unfold Obligations.FunctionResets
  refine ⟨?_, ?_, ?_, ?_, ?_, ?_, ?_⟩
  · intro s f hlink hf hreset
    obtain ⟨hmem, houtst⟩ := State.flr_opens hf hreset
    refine .intro rfl ?_
    simp only [State.finish_port_resets, State.finish_port_outst, if_pos hlink, houtst]
    exact ⟨⟨_, hmem, rfl, rfl, rfl, rfl⟩, fun o ho hfn => PortDie.resetOutst_written ho hfn⟩
  · intro s hlink hvf
    refine .intro rfl ?_
    rw [if_neg (by simp [hlink])]
    simp only [PortDie.underReset, State.finish_port_resets, State.finish_port_sriov, State.requestReset_sriov]
    exact ⟨rfl, fun f hpos hlt => State.requestReset_underReset true false (mem_vfs hpos hlt)⟩
  · intro s ch r f hone hfns hserving htide hv hnew
    refine .intro rfl ?_
    simp only [State.finish_chan, State.resetBoundaryR_chan hone hserving htide hv hnew, hfns]
    exact (s.chan ch).resetR_leaves f r.n
  · intro s ch r l hlist hr hnone hin
    exact .intro rfl (State.resetListIn_holds hlist hr hnone hin)
  · intro s r hone hv hlate ha hb hlista hlistb
    refine .intro rfl ?_
    simp only [State.finish_port_assay, State.finish_port_resets]
    exact State.resetLate_leaves hone hv hlate ha hb hlista hlistb
  · intro s r v hone hv hdue
    refine .intro rfl ?_
    simp only [PortDie.fn, State.finish_port_resets, State.finish_port_fns]
    exact State.resetBoundaryV_leaves hone hv hdue
  · intro s hlink
    refine .intro rfl ?_
    rw [if_neg (by simp [hlink])]
    simp only [PortDie.underReset, State.finish_port_resets, State.finish_port_sriov, State.finish_port_start]
    exact ⟨rfl, rfl, fun f hlt => State.requestReset_underReset true false (List.mem_range.2 hlt)⟩

end Sys2Proof.Machine
end

section
/-! Completions reach the port die (O16): what their handling leaves in the channels, what ends a command, and the end of a window. -/

namespace Sys2Proof.Machine

/-! ### What the port die's work with a completion leaves in the channels -/

/-- What a channel has for the port die: the records of its scheduler's collector, and its fault reports. -/
def State.outbound (s : State) (ch : Chan) : Sched × List FaultCause := ((s.chan ch).sched, (s.chan ch).faults)

theorem WayOut.outbound {s t : State} (h : WayOut s t) (ch : Chan) : t.outbound ch = s.outbound ch := by
  rw [State.outbound, h.chan]; exact rfl

@[simp] theorem State.outbound_ite (b : Prop) [Decidable b] (s t : State) (ch : Chan) :
    (if b then s else t).outbound ch = if b then s.outbound ch else t.outbound ch := apply_ite (State.outbound · ch) b s t

@[simp] theorem State.updPort_outbound (s : State) (f : PortDie → PortDie) (ch : Chan) :
    (s.updPort f).outbound ch = s.outbound ch := by cases ch <;> rfl

@[simp] theorem State.sendRecord_outbound (s : State) (r : CompRec) (tag : BitVec 2) (single : Bool) (ch : Chan) :
    (s.sendRecord r tag single).outbound ch = s.outbound ch := (WayOut.send s _).outbound ch

theorem RetireStart.outbound {s u : State} (h : RetireStart s u) (ch : Chan) : u.outbound ch = s.outbound ch :=
  Prod.ext (h.chan ch).1 (h.chan ch).2

@[simp] theorem State.soloFault_outbound (s : State) (x ch : Chan) : (s.soloFault x).outbound ch = s.outbound ch :=
  s.updPort_outbound _ ch

@[simp] theorem State.retire_outbound (s : State) (x : Chan) (cause : Nat) (ch : Chan) :
    (s.retire x cause).outbound ch = s.outbound ch := by
  rcases s.retire_cases x cause with h | h | ⟨u, hu, h⟩ <;> rw [h]
  · exact ((WayOut.writeHeldRng _ x).outbound ch).trans (s.soloFault_outbound x ch)
  · exact (State.updPort_outbound _ _ ch).trans
      (((WayOut.foldl (fun s o => .writeOffOne s x o) _ u).outbound ch).trans (hu.outbound ch))

@[simp] theorem State.late_outbound (s : State) (x : Chan) (cls : BitVec 3) (ch : Chan) :
    (s.late x cls).outbound ch = s.outbound ch := by
  unfold State.late
  extract_lets y z n t
  split_ifs <;> simp [t]

@[simp] theorem State.inTime_outbound (s : State) (x : Chan) (cls : BitVec 3) (ch : Chan) :
    (s.inTime x cls).outbound ch = s.outbound ch := by simp [State.inTime]

@[simp] theorem State.verdict_outbound (s : State) (x : Chan) (v cause : Nat) (ch : Chan) :
    (s.verdict x v cause).outbound ch = s.outbound ch := by simp [State.verdict]

@[simp] theorem State.errCause_outbound (s : State) (e : ErrCause) (ch : Chan) :
    (s.errCause e).outbound ch = s.outbound ch := by
  obtain ⟨g, p, l, h⟩ := s.errCause_eq e
  rw [h]; cases ch <;> rfl

@[simp] theorem State.probeFrom_outbound (s : State) (n : Nat) (ch : Chan) : (s.probeFrom n).outbound ch = s.outbound ch := by
  cases ch <;> rfl

@[simp] theorem State.discord_outbound (s : State) (o : Outst) (ch : Chan) : (s.discord o).outbound ch = s.outbound ch := by
  unfold State.discord
  extract_lets s1 s2
  have h2 : s2.outbound ch = s.outbound ch := by simp [s2, s1]
  split
  · exact h2
  · split
    · rw [State.verdict_outbound, h2]
    · rw [State.updPort_outbound, State.probeFrom_outbound, h2]

@[simp] theorem State.keepGot_outbound (s : State) (x : Chan) (o : Outst) (r : CompRec) (ch : Chan) :
    (s.keepGot x o r).outbound ch = s.outbound ch := s.updPort_outbound _ ch

@[simp] theorem State.firstArrival_outbound (s : State) (x : Chan) (o : Outst) (r : CompRec) (ch : Chan) :
    (s.firstArrival x o r).outbound ch = s.outbound ch := by simp [State.firstArrival]

@[simp] theorem State.secondArrival_outbound (s : State) (x : Chan) (o : Outst) (first second : CompRec) (ch : Chan) :
    (s.secondArrival x o first second).outbound ch = s.outbound ch := by
  unfold State.secondArrival
  extract_lets late done lateness cmp lone agreed w withdrawn g generator d _ o' discorded
  have hdone (t : State) : (done t).outbound ch = t.outbound ch := t.updPort_outbound _ ch
  have hlateness (t : State) : (lateness t).outbound ch = t.outbound ch := by simp [lateness]
  have hlone (t : State) : (lone t).outbound ch = t.outbound ch := by simp [lone]
  clear_value cmp
  cases cmp with
  | agree => simp [hdone, hlateness, agreed, hlone]
  | withdrawal => simp [hdone, hlateness, withdrawn, w, hlone]
  | generator => simp [hdone, generator, g]
  | discord => simp [hlateness, discorded, d, hlone]

@[simp] theorem State.portArrive_outbound (s : State) (x : Chan) (r : CompRec) (ch : Chan) :
    (s.portArrive x r).outbound ch = s.outbound ch := by
  unfold State.portArrive
  split
  · rfl
  · split
    · rfl
    · split_ifs
      · rfl
      · exact s.keepGot_outbound x _ r ch
      · rw [State.updPort_outbound, State.sendRecord_outbound]
      · split
        · exact s.firstArrival_outbound x _ r ch
        · exact s.secondArrival_outbound x _ _ r ch

/-! ### Fault reports before a completion (R304, R315, R366) -/

/-- The oldest fault report leaves its channel; the states of the channels stay. -/
theorem State.takeFault_of_cons {s : State} {ch : Chan} {f : FaultCause} {l : List FaultCause}
    (h : (s.chan ch).faults = f :: l) :
    ∃ y : Assay, (∀ x, y.st x = s.port.assay.st x) ∧ s.takeFault ch
      = ((s.setChan ch { s.chan ch with faults := l }).updPort (fun p => { p with assay := y }), s.port.serving ch) := by
  have hpop : (s.chan ch).popFault = (some f, { s.chan ch with faults := l }) := by rw [Channel.popFault, h]
  unfold State.takeFault
  rw [hpop]
  dsimp only
  split
  · refine ⟨match ch with
      | .a => { s.port.assay with genFaultA := true }
      | .b => { s.port.assay with genFaultB := true }, fun x => by cases ch <;> cases x <;> rfl, ?_⟩
    cases ch <;> rfl
  · refine ⟨s.port.assay, fun _ => rfl, ?_⟩
    cases ch <;> rfl

/-- A channel's fault reports leave it alone. -/
theorem State.takeFault_sched (s : State) (x ch : Chan) : ((s.takeFault x).1.chan ch).sched = (s.chan ch).sched := by
  cases hf : (s.chan x).faults with
  | nil =>
    have hpop : (s.chan x).popFault = (none, s.chan x) := by rw [Channel.popFault, hf]
    unfold State.takeFault
    rw [hpop]
    cases x <;> cases ch <;> rfl
  | cons f l =>
    obtain ⟨y, -, h⟩ := State.takeFault_of_cons hf
    rw [h]
    cases x <;> cases ch <;> rfl

theorem State.takeFaults_sched (s : State) (x : Chan) (n : Nat) (ch : Chan) :
    ((s.takeFaults x n).chan ch).sched = (s.chan ch).sched := by
  induction n generalizing s with
  | zero => rfl
  | succ n ih =>
    rw [State.takeFaults, ih]
    split
    · exact (congrArg (·.1) (State.retire_outbound _ x 4 ch)).trans (s.takeFault_sched x ch)
    · exact s.takeFault_sched x ch

theorem State.reportFirst_sched (s : State) (x : Chan) (r : CompRec) (ch : Chan) :
    ((s.reportFirst x r).chan ch).sched = (s.chan ch).sched := by
  unfold State.reportFirst
  split
  · exact s.takeFaults_sched x _ ch
  · rfl

theorem State.reportFirst_of_ne {s : State} {x : Chan} {r : CompRec} (h : r.code ≠ .tamperAbort) : s.reportFirst x r = s :=
  if_neg (by simp [h])

/-- The fault reports of a retired channel are received, and change nothing. -/
theorem State.takeFaults_of_retired {s : State} {ch : Chan} (hst : s.port.assay.st ch = .retired) {n : Nat}
    (hn : (s.chan ch).faults.length = n) :
    (s.takeFaults ch n).port.assay.st ch = .retired ∧ ((s.takeFaults ch n).chan ch).faults = [] := by
  induction n generalizing s with
  | zero => exact ⟨hst, List.length_eq_zero_iff.1 hn⟩
  | succ n ih =>
    obtain ⟨f, l, hf⟩ := List.exists_cons_of_length_eq_add_one hn
    obtain ⟨y, hy, h⟩ := State.takeFault_of_cons hf
    have hserving : s.port.serving ch = false := by simp [PortDie.serving, PortDie.joined, hst]
    rw [State.takeFaults, h, if_neg (by simp [hserving])]
    refine ih ((hy ch).trans hst) ?_
    rw [State.updPort_chan, State.chan_setChan]
    simpa [hf] using hn

/-- The first fault report of a joined channel, whose peer is joined too, retires it, and the rest are received (R315). -/
theorem State.takeFaults_of_joined {s : State} {ch : Chan} (hch : s.port.joined ch = true) (hpeer : s.port.joined ch.peer = true)
    {n : Nat} (hn : (s.chan ch).faults.length = n + 1) :
    (s.takeFaults ch (n + 1)).port.assay.st ch = .retired ∧ ((s.takeFaults ch (n + 1)).chan ch).faults = [] := by
  obtain ⟨f, l, hf⟩ := List.exists_cons_of_length_eq_add_one hn
  obtain ⟨y, hy, h⟩ := State.takeFault_of_cons hf
  have hserving : s.port.serving ch = true := PortDie.serving_of_joined hch
  rw [State.takeFaults, h, if_pos hserving]
  let t := (s.setChan ch { s.chan ch with faults := l }).updPort (fun p => { p with assay := y })
  have hjoined (x : Chan) : t.port.joined x = s.port.joined x := congrArg (· == ChState.joined) (hy x)
  have hfaults : (t.chan ch).faults = l := by rw [State.updPort_chan, State.chan_setChan]
  obtain ⟨hretired, -, -⟩ := State.retire_of_peer_states (s := t) 4
    (PortDie.serving_of_joined ((hjoined ch).trans hch)) ((hjoined ch.peer).trans hpeer)
  refine State.takeFaults_of_retired hretired ?_
  have hkept : ((t.retire ch 4).chan ch).faults = (t.chan ch).faults := congrArg (·.2) (t.retire_outbound ch 4 ch)
  rw [hkept, hfaults]
  simpa [hf] using hn

/-! ### The record leaves the collector (R64) -/

/-- The collector buffer of a channel set. -/
def State.unbuffer (s : State) (ch : Chan) (l : List CompRec) : State :=
  s.upd ch (fun c => { c with sched := { c.sched with buffer := l } })

theorem State.arrive_eq {s : State} {ch : Chan} {r : CompRec} {l : List CompRec} (hfull : s.port.passingFull = false)
    (hbuffer : (s.chan ch).sched.buffer = r :: l) :
    s.arrive ch = ((s.unbuffer ch l).reportFirst ch r).portArrive ch r := by
  unfold State.arrive
  rw [if_neg (by simp [hfull]), hbuffer]
  exact rfl

theorem State.arrive_sched {s : State} {x : Chan} {r : CompRec} {l : List CompRec} (hfull : s.port.passingFull = false)
    (hbuffer : (s.chan x).sched.buffer = r :: l) (ch : Chan) :
    ((s.arrive x).chan ch).sched = ((s.unbuffer x l).chan ch).sched := by
  rw [State.arrive_eq hfull hbuffer]
  exact (congrArg (·.1) (State.portArrive_outbound _ x r ch)).trans (State.reportFirst_sched _ x r ch)

/-- The record at the head of the buffer leaves it. -/
theorem State.arrive_buffer {s : State} {ch : Chan} {r : CompRec} {l : List CompRec} (hfull : s.port.passingFull = false)
    (hbuffer : (s.chan ch).sched.buffer = r :: l) : ((s.arrive ch).chan ch).sched.buffer = l := by
  rw [State.arrive_sched hfull hbuffer, State.unbuffer, State.chan_upd]

/-- A channel's arrival leaves the other's buffer. -/
theorem State.arrive_buffer_peer {s : State} {ch x : Chan} {r : CompRec} {l : List CompRec} (hx : x = ch.peer)
    (hfull : s.port.passingFull = false) (hbuffer : (s.chan ch).sched.buffer = r :: l) :
    ((s.arrive ch).chan x).sched.buffer = (s.chan x).sched.buffer := by
  rw [State.arrive_sched hfull hbuffer, State.unbuffer, hx, State.chan_upd_peer]

theorem State.unbuffer_port (s : State) (ch : Chan) (l : List CompRec) : (s.unbuffer ch l).port = s.port := s.upd_port ch _

theorem State.unbuffer_faults (s : State) (x : Chan) (l : List CompRec) (ch : Chan) :
    ((s.unbuffer x l).chan ch).faults = (s.chan ch).faults := by cases x <;> cases ch <;> rfl

/-- The collector buffer counts for no generator fault. -/
theorem State.unbuffer_holdsAlone (s : State) (x : Chan) (l : List CompRec) (ch : Chan) (r : CompRec) :
    (s.unbuffer x l).holdsAlone ch r = s.holdsAlone ch r := by
  cases x <;> cases ch <;> rfl

/-! ### What ends a command at the port die (R64, R65, R307) -/

theorem PortDie.findOut_intakeNo {p : PortDie} {n : Nat} {o : Outst} (h : p.findOut n = some o) : o.intakeNo = n := by
  simpa using List.find?_some h

theorem State.findOut_eq_none_iff {s : State} {n : Nat} : s.port.findOut n = none ↔ s.AllOut (fun o => o.intakeNo ≠ n) := by
  simp [PortDie.findOut, List.find?_eq_none, State.AllOut]

theorem Outst.stable_ne (n : Nat) : Outst.Stable (fun o => o.intakeNo ≠ n) := fun _ _ hn _ h he => h (hn.symm.trans he)

theorem State.AllOut.dropped (s : State) (n q : Nat) :
    (s.updPort (fun p => (p.dropOut n).lessOut q)).AllOut (fun o => o.intakeNo ≠ n) := fun o ho => by
  simpa using (List.mem_filter.1 ho).2

theorem PortDie.findOut_setOut {p : PortDie} {n : Nat} {o o' : Outst} (h : p.findOut n = some o) (hn : o'.intakeNo = n) :
    (p.setOut o').findOut n = some o' := by
  have hkey (x : Outst) : ((if x.intakeNo == o'.intakeNo then o' else x).intakeNo == n) = (x.intakeNo == n) := by
    by_cases hx : x.intakeNo = o'.intakeNo
    · rw [if_pos (by simpa using hx), hx]
    · rw [if_neg (by simpa using hx)]
  have hfind : p.outst.find? (fun x => (if x.intakeNo == o'.intakeNo then o' else x).intakeNo == n) = some o := by
    simp only [hkey]; exact h
  rw [PortDie.findOut, PortDie.setOut, List.find?_map]
  rw [show ((fun x : Outst => x.intakeNo == n) ∘ fun x => if x.intakeNo == o'.intakeNo then o' else x)
    = fun x => (if x.intakeNo == o'.intakeNo then o' else x).intakeNo == n from rfl, hfind, Option.map_some,
    if_pos (by simp [PortDie.findOut_intakeNo h, hn])]

theorem PortDie.resetVerdicts_outst (p : PortDie) : p.resetVerdicts.outst = p.outst := rfl

theorem State.soloFault_outst (s : State) (x : Chan) : (s.soloFault x).port.outst = s.port.outst := by
  obtain ⟨r, n, o, h⟩ := ({ s.port with assay := { s.port.assay with soloFault := true } } : PortDie).record_eq 0x015 x.idx
  exact (congrArg PortDie.outst h :)

theorem State.AllOut.inTime {P : Outst → Prop} {s : State} (h : s.AllOut P) (x : Chan) (cls : BitVec 3) :
    (s.inTime x cls).AllOut P := by
  unfold State.inTime
  split
  · exact h.of_outst rfl
  · exact h

section
variable {P : Outst → Prop} (hP : Outst.Stable P)
include hP

theorem State.AllOut.writeHeldRng {s : State} (h : s.AllOut P) (x : Chan) : (s.writeHeldRng x).AllOut P := by
  unfold State.writeHeldRng
  generalize s.port.outst = l
  induction l generalizing s with
  | nil => exact h
  | cons o l ih =>
    refine ih ?_
    dsimp only
    split
    · split
      · exact ((h.send hP _).dropOut _).of_outst rfl
      · exact h
    · exact h

theorem State.AllOut.retire {s : State} (h : s.AllOut P) (x : Chan) (cause : Nat) : (s.retire x cause).AllOut P := by
  rcases s.retire_cases x cause with hr | hr | ⟨u, hu, hr⟩ <;> rw [hr]
  · exact h
  · exact (h.of_outst (s.soloFault_outst x)).writeHeldRng hP x
  · exact ((h.of_outst hu.outst).foldl_writeOffOne hP x h).of_outst (PortDie.resetVerdicts_outst _)

theorem State.AllOut.late {s : State} (h : s.AllOut P) (x : Chan) (cls : BitVec 3) : (s.late x cls).AllOut P := by
  unfold State.late
  extract_lets y z n t
  have ht : t.AllOut P := h.of_outst rfl
  split_ifs
  · exact h
  · exact ht.retire hP x 3
  · exact ht
  · exact h.of_outst rfl

end

/-- Two completions of one check code agree, and end their command. -/
theorem State.secondArrival_of_agree (s : State) (ch : Chan) (o : Outst) {first second : CompRec}
    (hcheck : first.check = second.check) : (s.secondArrival ch o first second).port.findOut o.intakeNo = none := by
  rw [State.findOut_eq_none_iff]
  unfold State.secondArrival
  extract_lets late done lateness cmp lone agreed
  have hcmp : cmp = .agree := by
    simp only [cmp, compareRecs]
    cases ch
    · exact if_pos (by simp [hcheck])
    · exact if_pos (by simp [hcheck])
  have hlateness {t : State} (ht : t.AllOut (fun x => x.intakeNo ≠ o.intakeNo)) :
      (lateness t).AllOut (fun x => x.intakeNo ≠ o.intakeNo) := by
    simp only [lateness]
    split_ifs
    · exact ht
    · exact ht.late (Outst.stable_ne _) ch o.cls
    · exact ht.inTime ch o.cls
  rw [hcmp]
  exact hlateness (State.AllOut.dropped agreed o.intakeNo o.queue.toNat)

/-! ### A completion reaches the port die (R64, R304, R307) -/

section
variable {s : State} {ch : Chan} {r : CompRec} {o : Outst} (hserving : s.port.serving ch = true)
  (hfind : s.port.findOut r.intakeNo = some o) (hneed : o.need ch = true) (hgot : o.got ch = none)
  (hverdict : o.verdict ≠ .discord)
include hserving hfind hneed hgot hverdict

/-- An awaited completion is held, written, or compared. -/
theorem State.portArrive_of_awaited : s.portArrive ch r =
    if o.halved && s.holdsAlone ch r then s.keepGot ch o r
    else if o.halved then (s.sendRecord r ch.tag false).updPort (fun p => (p.dropOut o.intakeNo).lessOut o.queue.toNat)
    else (o.got ch.peer).elim (s.firstArrival ch o r) (fun first => s.secondArrival ch o first r) := by
  unfold State.portArrive
  rw [if_neg (by simp [hserving]), hfind]
  dsimp only
  rw [if_neg (by simp [hneed, hgot, hverdict])]
  cases o.got ch.peer <;> exact rfl

/-- A halved command's completion that is not held ends it. -/
theorem State.portArrive_halved (hhalved : o.halved = true) (halone : s.holdsAlone ch r = false) :
    (s.portArrive ch r).port.findOut r.intakeNo = none := by
  rw [State.portArrive_of_awaited hserving hfind hneed hgot hverdict, if_neg (by simp [halone]), if_pos hhalved,
    ← PortDie.findOut_intakeNo hfind, State.findOut_eq_none_iff]
  exact State.AllOut.dropped _ _ _

/-- A halved command's completion that fails with its channel's generator is held (R304). -/
theorem State.portArrive_held (hhalved : o.halved = true) (halone : s.holdsAlone ch r = true) :
    s.portArrive ch r = s.keepGot ch o r := by
  rw [State.portArrive_of_awaited hserving hfind hneed hgot hverdict, if_pos (by simp [hhalved, halone])]

/-- The second completion of a twin command, of the check code of the first, ends it. -/
theorem State.portArrive_second {f : CompRec} (htwin : o.halved = false) (hfirst : o.got ch.peer = some f)
    (hcheck : f.check = r.check) : (s.portArrive ch r).port.findOut r.intakeNo = none := by
  rw [State.portArrive_of_awaited hserving hfind hneed hgot hverdict, if_neg (by simp [htwin]), if_neg (by simp [htwin]),
    hfirst, ← PortDie.findOut_intakeNo hfind]
  exact s.secondArrival_of_agree ch o hcheck

/-- The first completion of a twin command. -/
theorem State.portArrive_first (htwin : o.halved = false) (hfirst : o.got ch.peer = none) :
    s.portArrive ch r = s.firstArrival ch o r := by
  rw [State.portArrive_of_awaited hserving hfind hneed hgot hverdict, if_neg (by simp [htwin]), if_neg (by simp [htwin]),
    hfirst]
  exact rfl

end

/-- A command's entry without what the writing of its first completion sets. -/
def Outst.unwritten (o : Outst) : Outst := { o with firstAt := none, written := false, held := false }

/-- Of a twin command that awaits the other channel too, the first completion is kept, whether it is written or not. -/
theorem State.firstArrival_keeps {s : State} {ch : Chan} {o : Outst} {r : CompRec} (hneed : o.need ch.peer = true) :
    (s.firstArrival ch o r).AllOut
      (fun x => x.intakeNo = o.intakeNo → x.unwritten = (o.setGot ch (some r)).unwritten) := by
  unfold State.firstArrival
  rw [if_neg (by simp [hneed]), if_neg (by simp [hneed])]
  extract_lets t write got u
  have hu : u.AllOut (fun x => x.intakeNo = o.intakeNo → x.unwritten = (o.setGot ch (some r)).unwritten) := by
    intro x hx hn
    rcases PortDie.setOut_outst_mem hx with rfl | ⟨-, hne⟩
    · cases ch <;> rfl
    · exact absurd hn (by cases ch <;> exact hne)
  split
  · exact (sendKeeps_allOut (fun _ h => h)).send u _ hu
  · exact hu

theorem Assay.setRun_st (y : Assay) (ch : Chan) (n : Nat) (x : Chan) : (y.setRun ch n).st x = y.st x := by
  cases ch <;> cases x <;> rfl

theorem State.inTime_st (s : State) (ch : Chan) (cls : BitVec 3) (x : Chan) :
    (s.inTime ch cls).port.assay.st x = s.port.assay.st x := by
  unfold State.inTime
  split
  · exact s.port.assay.setRun_st ch 0 x
  · rfl

/-- A first completion of a command that awaits the other channel retires no channel. -/
theorem State.firstArrival_st {s : State} {ch : Chan} {o : Outst} {r : CompRec} (hneed : o.need ch.peer = true) (x : Chan) :
    (s.firstArrival ch o r).port.assay.st x = s.port.assay.st x := by
  unfold State.firstArrival
  rw [if_neg (by simp [hneed]), if_neg (by simp [hneed])]
  extract_lets t write got u
  have hu : u.port.assay.st x = s.port.assay.st x := by
    have ht : t.port.assay.st x = s.port.assay.st x := by
      simp only [t]
      split
      · rfl
      · exact s.inTime_st ch o.cls x
    exact ht
  split
  · rw [State.sendRecord, (WayOut.send u _).assay]; exact hu
  · exact hu

theorem PortDie.serving_congr_st {p q : PortDie} {ch : Chan} (h : p.assay.st ch = q.assay.st ch) :
    p.serving ch = q.serving ch := by
  rw [PortDie.serving, PortDie.serving, PortDie.joined, PortDie.joined, h]

/-- The completions of a twin command that arrive in one cycle, of one check code, end it (R64). -/
theorem State.portArrive_both {s : State} {r q : CompRec} {m : List CompRec} {o : Outst} (ha : s.port.serving .a = true)
    (hb : s.port.serving .b = true) (hq : q.intakeNo = r.intakeNo) (hfind : s.port.findOut r.intakeNo = some o)
    (htwin : o.halved = false) (hneeda : o.needA = true) (hneedb : o.needB = true) (hgota : o.gotA = none)
    (hgotb : o.gotB = none) (hverdict : o.verdict ≠ .discord) (hcheck : r.check = q.check) :
    (((s.portArrive .a r).unbuffer .b m).portArrive .b q).port.findOut r.intakeNo = none := by
  have hneed : o.need Chan.a.peer = true := hneedb
  rw [State.portArrive_first ha hfind hneeda hgota hverdict htwin hgotb]
  have hkeeps := State.firstArrival_keeps (s := s) (ch := .a) (r := r) hneed
  have hserving : ((s.firstArrival .a o r).unbuffer .b m).port.serving .b = true := by
    rw [State.unbuffer_port, PortDie.serving_congr_st (State.firstArrival_st hneed .b)]
    exact hb
  rw [← hq]
  cases hx : ((s.firstArrival .a o r).unbuffer .b m).port.findOut q.intakeNo with
  | none =>
    have hgone : ((s.firstArrival .a o r).unbuffer .b m).portArrive .b q = (s.firstArrival .a o r).unbuffer .b m := by
      unfold State.portArrive
      rw [if_neg (by simp [hserving]), hx]
    rw [hgone, hx]
  | some x =>
    have hmem : x ∈ (s.firstArrival .a o r).port.outst := by
      have := List.mem_of_find?_eq_some hx
      rwa [State.unbuffer_port] at this
    have hn : x.intakeNo = o.intakeNo := by
      rw [PortDie.findOut_intakeNo hx, hq, PortDie.findOut_intakeNo hfind]
    have hlike := hkeeps x hmem hn
    have hxneed : x.needB = o.needB := (congrArg Outst.needB hlike :)
    have hxgot : x.gotB = o.gotB := (congrArg Outst.gotB hlike :)
    have hxverdict : x.verdict = o.verdict := (congrArg Outst.verdict hlike :)
    have hxhalved : x.halved = o.halved := (congrArg Outst.halved hlike :)
    have hxfirst : x.gotA = some r := (congrArg Outst.gotA hlike :)
    exact State.portArrive_second hserving hx (hxneed.trans hneedb) (hxgot.trans hgotb) (by rw [hxverdict]; exact hverdict)
      (hxhalved.trans htwin) hxfirst hcheck

/-! ### The window's end (R65, R308) -/

/-- No retirement counts as lateness. -/
theorem State.retire_lateB (s : State) (x : Chan) (cause : Nat) :
    (s.retire x cause).port.assay.lateB = s.port.assay.lateB := by
  rcases s.retire_cases x cause with h | h | ⟨u, hu, h⟩ <;> rw [h]
  · obtain ⟨r, n, o, hr⟩ := ({ s.port with assay := { s.port.assay with soloFault := true } } : PortDie).record_eq 0x015 x.idx
    rw [(WayOut.writeHeldRng _ x).assay]
    exact (congrArg (·.assay.lateB) hr :)
  · have hassay := (WayOut.foldl (fun s o => .writeOffOne s x o) s.port.outst u).assay
    exact (congrArg Assay.lateB hassay).trans hu.late.2

/-- With both channels joined, channel B's late completion is counted. -/
theorem State.late_lateB {s : State} (hboth : s.port.bothJoined = true) (cls : BitVec 3) :
    (s.late .b cls).port.assay.lateB = satBv s.port.assay.lateB 1 := by
  unfold State.late
  rw [if_neg (by simp [hboth])]
  extract_lets y z n t
  split_ifs
  · exact (t.retire_lateB .b 3).trans rfl
  · rfl
  · rfl

theorem Outst.stable_over (n : Nat) : Outst.Stable (fun o => o.intakeNo = n → o.windowOver = true) :=
  fun _ _ hn hw h he => hw.trans (h (hn.symm.trans he))

/-- The window of a twin command ends with channel A's completion alone, one that is not held. -/
theorem State.windowExpiry_leaves {s : State} {n k : Nat} {o : Outst} {r : CompRec} (hfind : s.port.findOut n = some o)
    (hfirst : o.firstAt = some k) (hdue : k + 8192 ≤ s.port.now) (hgota : o.gotA = some r) (hgotb : o.gotB = none)
    (hneedb : o.needB = true) (hboth : s.port.bothJoined = true) (hholds : s.holdsRng .a r = false) :
    ((s.windowExpiry o).port.findOut n).all (·.windowOver) = true
    ∧ (s.windowExpiry o).port.assay.lateB = satBv s.port.assay.lateB 1 := by
  have hexpire : s.windowExpiry o = State.windowExpiry.expire s o r .b := by
    unfold State.windowExpiry
    rw [hfirst, hgota, hgotb]
    exact if_pos (by simp [hdue, hneedb])
  rw [hexpire]
  unfold State.windowExpiry.expire
  extract_lets write t
  have hholds' : t.holdsRng Chan.b.peer r = false := hholds
  rw [if_neg (by simp [hholds'])]
  have ht : t.AllOut (fun o => o.intakeNo = n → o.windowOver = true) := by
    intro x hx hn
    rcases PortDie.setOut_outst_mem hx with rfl | ⟨-, hne⟩
    · rfl
    · exact absurd (hn.trans (PortDie.findOut_intakeNo hfind).symm) hne
  have hsent : ∃ u, (if write then t.sendRecord r 3#2 true else t) = u
      ∧ u.AllOut (fun o => o.intakeNo = n → o.windowOver = true) ∧ u.port.assay = s.port.assay := by
    refine ⟨_, rfl, ?_⟩
    split
    · exact ⟨ht.send (Outst.stable_over n) _, (WayOut.send t _).assay⟩
    · exact ⟨ht, rfl⟩
  obtain ⟨u, hu, hall, hassay⟩ := hsent
  rw [hu]
  refine ⟨?_, ?_⟩
  · have hlate := hall.late (Outst.stable_over n) .b o.cls
    rw [Option.all_eq_true]
    exact fun x hx => hlate x (List.mem_of_find?_eq_some hx) (PortDie.findOut_intakeNo hx)
  · rw [State.late_lateB, hassay]
    rw [PortDie.bothJoined, PortDie.joined_congr hassay, PortDie.joined_congr hassay]
    exact hboth

/-! ### The commands -/

/-- An RNG_FAILED completion that is held for its channel's fault report is no aborted one. -/
theorem State.ne_tamperAbort_of_holdsAlone {s : State} {ch : Chan} {r : CompRec} (h : s.holdsAlone ch r = true) :
    r.code ≠ .tamperAbort := by
  intro hcode
  simp [State.holdsAlone, State.holdsRng, hcode] at h

/-- A completion of a response whose fault report waits comes after it: its channel is retired first (R366). -/
theorem State.arrive_of_tamper {s : State} {ch : Chan} {r : CompRec} {l : List CompRec} (hfull : s.port.passingFull = false)
    (hbuffer : (s.chan ch).sched.buffer = r :: l) (hch : s.port.joined ch = true) (hpeer : s.port.joined ch.peer = true)
    (hcode : r.code = .tamperAbort) (hfault : (s.chan ch).faults.contains .tamper = true) :
    (s.arrive ch).port.assay.st ch = .retired ∧ ((s.arrive ch).chan ch).faults = [] := by
  have hfaults := s.unbuffer_faults ch l ch
  obtain ⟨n, hn⟩ := Nat.exists_eq_succ_of_ne_zero
    (List.length_pos_of_mem (List.contains_iff_mem.1 (hfaults.symm ▸ hfault))).ne'
  have hreport : (s.unbuffer ch l).reportFirst ch r = (s.unbuffer ch l).takeFaults ch (n + 1) := by
    unfold State.reportFirst
    rw [if_pos (by rw [hcode, hfaults, hfault]; rfl), hn]
  obtain ⟨hretired, hnil⟩ := State.takeFaults_of_joined (s := s.unbuffer ch l) (ch := ch)
    (by rw [State.unbuffer_port]; exact hch) (by rw [State.unbuffer_port]; exact hpeer) hn
  have hgone : ((s.unbuffer ch l).takeFaults ch (n + 1)).portArrive ch r = (s.unbuffer ch l).takeFaults ch (n + 1) := by
    unfold State.portArrive
    rw [if_pos (by simp [PortDie.serving, PortDie.joined, hretired])]
  rw [State.arrive_eq hfull hbuffer, hreport, hgone]
  exact ⟨hretired, hnil⟩

/-- An arrival that no fault report comes before. -/
theorem State.arrive_of_ne {s : State} {ch : Chan} {r : CompRec} {l : List CompRec} (hfull : s.port.passingFull = false)
    (hbuffer : (s.chan ch).sched.buffer = r :: l) (hcode : r.code ≠ .tamperAbort) :
    s.arrive ch = (s.unbuffer ch l).portArrive ch r := by
  rw [State.arrive_eq hfull hbuffer, State.reportFirst_of_ne hcode]

/-- Settles O16: the record leaves its buffer whatever the port die makes of it, and what ends a command, holds it, or
ends its window is read off its entry. -/
theorem twinCompletionsArrive : Obligations.TwinCompletionsArrive := by
  unfold Obligations.TwinCompletionsArrive
  refine ⟨?_, ?_, ?_, ?_, ?_, ?_, ?_, ?_⟩
  · intro s r q l m hfull hfull' ha hb
    have ha' : (s.chan .a).sched.buffer = r :: l := ha
    have hkept : ((s.arrive .a).chan .b).sched.buffer = (s.chan .b).sched.buffer := State.arrive_buffer_peer rfl hfull ha'
    have hb' : ((s.arrive .a).chan .b).sched.buffer = q :: m := hkept.trans hb
    refine .intro rfl ?_
    simp only [State.finish_a, State.finish_b, State.arrivals]
    have hleft : ((s.arrive .a).chan .a).sched.buffer = l := State.arrive_buffer hfull ha'
    have hkept' : (((s.arrive .a).arrive .b).chan .a).sched.buffer = ((s.arrive .a).chan .a).sched.buffer :=
      State.arrive_buffer_peer rfl hfull' hb'
    have hleft' : (((s.arrive .a).arrive .b).chan .b).sched.buffer = m := State.arrive_buffer hfull' hb'
    rw [hleft] at hkept'
    generalize (s.arrive .a).arrive .b = u at hkept' hleft' ⊢
    exact ⟨hkept', hleft'⟩
  · intro s r q l m o hfull hfull' ha hb hserva hservb hq hfind htwin hneeda hneedb hgota hgotb hverdict hcheck hrcode hqcode
    have ha' : (s.chan .a).sched.buffer = r :: l := ha
    have hkept : ((s.arrive .a).chan .b).sched.buffer = (s.chan .b).sched.buffer := State.arrive_buffer_peer rfl hfull ha'
    have hb' : ((s.arrive .a).chan .b).sched.buffer = q :: m := hkept.trans hb
    refine .intro rfl ?_
    simp only [PortDie.findOut, State.finish_port_outst, State.arrivals]
    rw [State.arrive_of_ne hfull' hb' hqcode, State.arrive_of_ne hfull ha' hrcode]
    exact State.portArrive_both hserva hservb hq hfind htwin hneeda hneedb hgota hgotb hverdict hcheck
  · intro s ch r l hfull hbuffer
    refine .intro rfl ?_
    simp only [State.finish_chan, State.arrivals]
    exact State.arrive_buffer hfull hbuffer
  · intro s ch r l o hfull hbuffer hserving hfind hhalved hneed hgot hverdict hcode halone
    refine .intro rfl ?_
    simp only [PortDie.findOut, State.finish_port_outst, State.arrivals]
    rw [State.arrive_of_ne hfull hbuffer hcode]
    exact State.portArrive_halved (by rw [State.unbuffer_port]; exact hserving) (by rw [State.unbuffer_port]; exact hfind)
      hneed hgot hverdict hhalved (by rw [State.unbuffer_holdsAlone]; exact halone)
  · intro s ch r f l o hfull hbuffer hserving hfind htwin hneed hgot hverdict hfirst hcheck hcode
    refine .intro rfl ?_
    simp only [PortDie.findOut, State.finish_port_outst, State.arrivals]
    rw [State.arrive_of_ne hfull hbuffer hcode]
    exact State.portArrive_second (by rw [State.unbuffer_port]; exact hserving) (by rw [State.unbuffer_port]; exact hfind)
      hneed hgot hverdict htwin hfirst hcheck
  · intro s ch r l o hfull hbuffer hserving hfind hhalved hneed hgot hverdict halone
    have hfind' : (s.unbuffer ch l).port.findOut r.intakeNo = some o := by rw [State.unbuffer_port]; exact hfind
    have hn : (o.setGot ch (some r)).intakeNo = r.intakeNo := by
      rw [← PortDie.findOut_intakeNo hfind]; cases ch <;> rfl
    refine .intro rfl ?_
    simp only [PortDie.findOut, State.finish_port_outst, State.finish_lines, State.arrivals]
    rw [State.arrive_of_ne hfull hbuffer (State.ne_tamperAbort_of_holdsAlone halone),
      State.portArrive_held (by rw [State.unbuffer_port]; exact hserving) hfind' hneed hgot hverdict hhalved
        (by rw [State.unbuffer_holdsAlone]; exact halone)]
    exact ⟨PortDie.findOut_setOut hfind' hn, congrArg HostSide.lines (s.upd_host ch _)⟩
  · intro s ch r l hfull hbuffer hch hpeer hcode hfault
    obtain ⟨hretired, hnil⟩ := State.arrive_of_tamper hfull hbuffer hch hpeer hcode hfault
    refine .intro rfl ?_
    simp only [State.finish_port_assay, State.finish_chan, State.arrivals]
    exact ⟨hretired, hnil, State.arrive_buffer hfull hbuffer⟩
  · intro s n o r k hfind htwin hover hverdict hfirst hdue hgota hgotb hneedb hboth hholds
    refine .intro rfl ?_
    simp only [hfind]
    rw [if_neg (by simp [htwin, hover, hverdict])]
    simp only [PortDie.findOut, State.finish_port_outst, State.finish_port_assay]
    exact State.windowExpiry_leaves hfind hfirst hdue hgota hgotb hneedb hboth hholds

end Sys2Proof.Machine
end

section
/-! The work items of a channel, and what the scheduler's work between decode and completion leaves of them: it adds no item,
delays and dispatches none, and completes none (R81 to R93). -/

namespace Sys2Proof.Machine

/-! ### Work items by their numbers -/

/-- The numbers of the work items, in the order of the table. -/
def Sched.ids (d : Sched) : List Nat := d.items.map (·.id)

/-- The items that the cores have in hand. -/
def Sched.held (d : Sched) : List Nat := d.cores.filterMap (·.item)

theorem Sched.not_mem_held {d : Sched} {id : Nat} (h : ∀ z ∈ d.cores, z.item ≠ some id) : id ∉ d.held := by
  simpa [Sched.held] using h

theorem Channel.item?_some {c : Channel} {id : Nat} {x : Item} (h : c.item? id = some x) : x ∈ c.sched.items ∧ x.id = id :=
  ⟨List.mem_of_find?_eq_some h, by simpa using List.find?_some h⟩

theorem Channel.item?_eq_none (c : Channel) (id : Nat) : c.item? id = none ↔ id ∉ c.sched.ids := by
  simp [Channel.item?, Sched.ids, List.find?_eq_none]

theorem Channel.mem_ids {c : Channel} {id : Nat} {x : Item} (h : c.item? id = some x) : id ∈ c.sched.ids :=
  List.mem_map.2 ⟨x, Channel.item?_some h⟩

@[simp] theorem Channel.setItem_ids (c : Channel) (x : Item) : (c.setItem x).sched.ids = c.sched.ids := by
  simp only [Sched.ids, Channel.setItem, Channel.onSched_sched, List.map_map]
  refine List.map_congr_left fun y _ => ?_
  by_cases h : y.id = x.id <;> simp [h]

theorem Channel.setItem_item? (c : Channel) (x : Item) (id : Nat) :
    (c.setItem x).item? id = (c.item? id).map (fun y => if y.id = x.id then x else y) := by
  have hsame : ((fun y : Item => y.id == id) ∘ fun y => if y.id = x.id then x else y) = fun y => y.id == id := by
    funext y
    by_cases h : y.id = x.id <;> simp [h]
  simp only [Channel.item?, Channel.setItem, Channel.onSched_sched, List.find?_map, beq_iff_eq, hsame]

theorem Channel.setItem_item?_same {c : Channel} {x : Item} {id : Nat} (h : id ∈ c.sched.ids) (hid : x.id = id := by rfl) :
    (c.setItem x).item? id = some x := by
  cases hx : c.item? id with
  | none => exact absurd h ((c.item?_eq_none id).1 hx)
  | some y => rw [Channel.setItem_item?, hx, Option.map_some, if_pos ((Channel.item?_some hx).2.trans hid.symm)]

theorem Channel.setItem_item?_other (c : Channel) {x : Item} {id : Nat} (h : id ≠ x.id) :
    (c.setItem x).item? id = c.item? id := by
  rw [Channel.setItem_item?]
  cases hy : c.item? id with
  | none => rfl
  | some y => rw [Option.map_some, if_neg ((Channel.item?_some hy).2 ▸ h)]

/-! ### The trace (R96) -/

/-- Everything a trace record can do to a scheduler. -/
theorem Sched.pushTrace_eq (d : Sched) (r : TraceRec) :
    ∃ ring buf next wrapped lost, d.pushTrace r = { d with
      traceRing := ring, traceBuf := buf
      regs := { d.regs with traceNext := next, traceWrapped := wrapped, traceLost := lost } } := by
  unfold Sched.pushTrace Sched.writeTrace
  extract_lets put
  split_ifs
  · exact ⟨_, _, _, _, _, rfl⟩
  · exact ⟨_, _, _, _, _, rfl⟩
  · cases d.traceBuf with
    | nil => exact ⟨_, _, _, _, _, rfl⟩
    | cons => exact ⟨_, _, _, _, _, rfl⟩
  · exact ⟨_, _, _, _, _, rfl⟩
  · exact ⟨_, _, _, _, _, rfl⟩

section
variable (c : Channel) (x : Item) (decision unit code due cycles : Nat) (exempt : Bool)

/-- Everything the trace of a decision can do to a channel. -/
theorem Channel.trace_eq : ∃ ring buf next wrapped lost, c.trace x decision unit code due cycles exempt = { c with
    sched := { c.sched with traceRing := ring, traceBuf := buf,
                            regs := { c.sched.regs with traceNext := next, traceWrapped := wrapped, traceLost := lost } } } := by
  unfold Channel.trace
  extract_lets f
  obtain ⟨ring, buf, next, wrapped, lost, h⟩ := c.sched.pushTrace_eq
    { tide := c.tide, offset := BitVec.ofNat 12 c.offset, decision := BitVec.ofNat 4 decision, queue := x.pkt.hdr.queue,
      seq := x.pkt.hdr.seq, flowEntry := BitVec.ofNat 18 f.1, flowKind := BitVec.ofNat 2 f.2, unit := byte unit,
      function := x.pkt.hdr.function, cls := x.pkt.hdr.cls, priority := x.level, halved := x.halved, urgent := x.urgent,
      code := byte code, due := BitVec.ofNat 32 (if decision == 1 then due else x.due.getD 0),
      cycles := BitVec.ofNat 24 (min 0xFFFFFF cycles), exempt := exempt }
  exact ⟨ring, buf, next, wrapped, lost, congrArg (fun d => { c with sched := d }) h⟩

@[simp] theorem Channel.trace_items : (c.trace x decision unit code due cycles exempt).sched.items = c.sched.items := by
  obtain ⟨_, _, _, _, _, h⟩ := c.trace_eq x decision unit code due cycles exempt; rw [h]
@[simp] theorem Channel.trace_item? (id : Nat) : (c.trace x decision unit code due cycles exempt).item? id = c.item? id := by
  simp [Channel.item?]
@[simp] theorem Channel.trace_cores : (c.trace x decision unit code due cycles exempt).sched.cores = c.sched.cores := by
  obtain ⟨_, _, _, _, _, h⟩ := c.trace_eq x decision unit code due cycles exempt; rw [h]
@[simp] theorem Channel.trace_buffer : (c.trace x decision unit code due cycles exempt).sched.buffer = c.sched.buffer := by
  obtain ⟨_, _, _, _, _, h⟩ := c.trace_eq x decision unit code due cycles exempt; rw [h]
@[simp] theorem Channel.trace_missCount :
    (c.trace x decision unit code due cycles exempt).sched.regs.missCount = c.sched.regs.missCount := by
  obtain ⟨_, _, _, _, _, h⟩ := c.trace_eq x decision unit code due cycles exempt; rw [h]

end

/-! ### The binding of generations (R86, R257) -/

/-- What the binding of generations can do to a channel: of the scheduler the items alone change, and of an item what it has
bound. -/
structure Channel.Binds (c d : Channel) : Prop where
  tide : d.tide = c.tide
  fills : d.keys.fills = c.keys.fills
  sched : ∃ l, d.sched = { c.sched with items := l }
  ids : d.sched.ids = c.sched.ids
  item? : ∀ id, ∃ l : Item → List Bind, d.item? id = (c.item? id).map (fun x => { x with binds := l x })

namespace Channel.Binds

variable {c d e : Channel}

theorem refl (c : Channel) : Channel.Binds c c := ⟨rfl, rfl, ⟨_, rfl⟩, rfl, fun _ => ⟨(·.binds), by simp⟩⟩

theorem trans (h : Channel.Binds c d) (h' : Channel.Binds d e) : Channel.Binds c e := by
  obtain ⟨l, hl⟩ := h.sched
  obtain ⟨l', hl'⟩ := h'.sched
  refine ⟨h'.tide.trans h.tide, h'.fills.trans h.fills, ⟨l', by rw [hl', hl]⟩, h'.ids.trans h.ids, fun id => ?_⟩
  obtain ⟨b, hb⟩ := h.item? id
  obtain ⟨b', hb'⟩ := h'.item? id
  exact ⟨fun x => b' { x with binds := b x }, by rw [hb', hb, Option.map_map]; rfl⟩

theorem foldl {α : Type} {f : Channel → α → Channel} (h : ∀ c x, Channel.Binds c (f c x)) (l : List α) (c : Channel) :
    Channel.Binds c (l.foldl f c) := by
  induction l generalizing c with
  | nil => exact refl c
  | cons x l ih => exact (h c x).trans (ih (f c x))

end Channel.Binds

@[simp] theorem Keys.rewrite_fills (k : Keys) (slot : Nat) (gen : BitVec 16) (f : KeyHeader → KeyHeader) (t : Tally → Tally) :
    (k.rewrite slot gen f t).fills = k.fills := by
  unfold Keys.rewrite
  split
  · split <;> rfl
  · rfl

/-- Everything the binding of one slot can do to the channel and to the item. -/
theorem Channel.bindSlot_eq (c : Channel) (x : Item) (slot : Nat) :
    ∃ k j b, c.bindSlot x slot = (({ c with keys := k, journal := j } : Channel), ({ x with binds := b } : Item))
      ∧ k.fills = c.keys.fills := by
  unfold Channel.bindSlot
  dsimp only
  split
  · exact ⟨_, c.journal, _, rfl, rfl⟩
  · split_ifs
    · exact ⟨_, c.journal, _, rfl, rfl⟩
    · exact ⟨_, c.journal, _, rfl, rfl⟩
    · exact ⟨_, _, _, rfl, rfl⟩
    · exact ⟨_, _, _, rfl, Keys.rewrite_fills ..⟩

theorem Channel.bindSlot_binds {c : Channel} {id : Nat} {x : Item} (hx : c.item? id = some x) (slot : Nat) :
    Channel.Binds c ((c.bindSlot x slot).1.setItem (c.bindSlot x slot).2) := by
  obtain ⟨k, j, b, h, hfills⟩ := c.bindSlot_eq x slot
  rw [h]
  refine ⟨rfl, hfills, ⟨_, rfl⟩, Channel.setItem_ids _ _, fun i => ?_⟩
  have hitem : ({ c with keys := k, journal := j } : Channel).item? i = c.item? i := rfl
  by_cases hi : i = x.id
  · subst hi
    rw [← (Channel.item?_some hx).2] at hx
    exact ⟨fun _ => b, by rw [Channel.setItem_item?, hitem, hx]; simp⟩
  · exact ⟨(·.binds), (Channel.setItem_item?_other _ (x := { x with binds := b }) hi).trans (hitem.trans (by simp))⟩

theorem Channel.bindAll_binds (c : Channel) (id : Nat) : Channel.Binds c (c.bindAll id) := by
  unfold Channel.bindAll
  split
  next => exact .refl c
  next =>
    refine .foldl (fun c k => ?_) _ c
    split
    next y hy =>
      split
      · exact .refl c
      · exact Channel.bindSlot_binds hy k.2
    next => exact .refl c

/-- Lists move on: readers leave the flows, and then bindings are made. -/
theorem Channel.settle_binds (c : Channel) : Channel.Binds c.popReaders c.settle :=
  .foldl (fun c (x : Item) => c.bindAll_binds x.id) _ _

theorem Channel.settle_sched (c : Channel) : ∃ l f, c.settle.sched = { c.sched with items := l, flows := f } := by
  obtain ⟨l, hl⟩ := c.settle_binds.sched
  exact ⟨l, c.popReaders.sched.flows, hl⟩

@[simp] theorem Channel.settle_produced (c : Channel) : c.settle.sched.produced = c.sched.produced := by
  obtain ⟨l, f, h⟩ := c.settle_sched; rw [h]

@[simp] theorem Channel.settle_buffer (c : Channel) : c.settle.sched.buffer = c.sched.buffer := by
  obtain ⟨l, f, h⟩ := c.settle_sched; rw [h]

@[simp] theorem Channel.settle_ids (c : Channel) : c.settle.sched.ids = c.sched.ids := c.settle_binds.ids

end Sys2Proof.Machine
end

section
/-! The scheduler's work between decode and completion adds no work item, delays and dispatches none, and completes none (R81 to R93). -/

namespace Sys2Proof.Machine

/-! ### What a channel has under way -/

/-- What the scheduler has under way: its items by number, the records that its collector holds, the delay lists, and the
items that its cores have in hand. -/
def Sched.burden (d : Sched) : List Nat × List CompRec × List Nat × List Nat × List Nat :=
  (d.ids, d.buffer, d.delayTwin, d.delayHalved, d.held)

/-- What a channel has under way: its scheduler's burden and the key cache fills. -/
def Channel.burden (c : Channel) : (List Nat × List CompRec × List Nat × List Nat × List Nat) × List FillJob :=
  (c.sched.burden, c.keys.fills)

@[simp] theorem Channel.burden_ite (b : Prop) [Decidable b] (c d : Channel) :
    (if b then c else d).burden = if b then c.burden else d.burden := apply_ite ..

theorem Channel.burden_foldl {α : Type} {f : Channel → α → Channel}
    (h : ∀ c x, (f c x).burden = c.burden) (l : List α) (c : Channel) : (l.foldl f c).burden = c.burden := by
  induction l generalizing c with
  | nil => rfl
  | cons x l ih => rw [List.foldl_cons, ih, h]

theorem Channel.onSched_burden {f : Sched → Sched} (h : ∀ d, (f d).burden = d.burden) (c : Channel) :
    (c.onSched f).burden = c.burden := congrArg (·, c.keys.fills) (h c.sched)

@[simp] theorem Channel.setItem_burden (c : Channel) (x : Item) : (c.setItem x).burden = c.burden :=
  congrArg (fun l => ((l, c.sched.buffer, c.sched.delayTwin, c.sched.delayHalved, c.sched.held), c.keys.fills)) (c.setItem_ids x)

@[simp] theorem Channel.trace_burden (c : Channel) (x : Item) (decision unit : Nat) (code due cycles : Nat)
    (exempt : Bool) : (c.trace x decision unit code due cycles exempt).burden = c.burden := by
  obtain ⟨_, _, _, _, _, h⟩ := c.trace_eq x decision unit code due cycles exempt
  rw [h]
  rfl

@[simp] theorem Channel.produceIn_burden (c : Channel) (x : Item) (ph : Phase) (producer at' : Nat) (r : Res) :
    (c.produceIn x ph producer at' r).burden = c.burden := c.setItem_burden _

@[simp] theorem Channel.produce_burden (c : Channel) (x : Item) (producer at' : Nat) (r : Res) :
    (c.produce x producer at' r).burden = c.burden := c.setItem_burden _

@[simp] theorem Channel.schedPort_burden (c : Channel) (x : Item) (r : Res) : (c.schedPort x r).burden = c.burden :=
  c.setItem_burden _

@[simp] theorem Channel.refuse_burden (c : Channel) (x : Item) (code : Code) (detail : BitVec 4) :
    (c.refuse x code detail).burden = c.burden := by simp [Channel.refuse]

@[simp] theorem Channel.mapSched_burden (c : Channel) (f : SchedRegs → SchedRegs) : (c.mapSched f).burden = c.burden := rfl

@[simp] theorem Channel.mapSkim_burden (c : Channel) (f : SkimRegs → SkimRegs) : (c.mapSkim f).burden = c.burden := rfl

@[simp] theorem Channel.mapPair_burden (c : Channel) (j : Nat) (f : Pair → Pair) : (c.mapPair j f).burden = c.burden := rfl

@[simp] theorem Channel.sync_burden (c : Channel) : c.sync.burden = c.burden := rfl

@[simp] theorem Channel.leaveFlows_burden (c : Channel) (id : Nat) : (c.leaveFlows id).burden = c.burden := rfl

theorem Channel.Binds.burden {c d : Channel} (h : Channel.Binds c d) : d.burden = c.burden := by
  obtain ⟨l, hl⟩ := h.sched
  have hids := h.ids
  rw [hl] at hids
  simp only [Channel.burden, Sched.burden, h.fills, hl, hids]
  rfl

@[simp] theorem Channel.bindAll_burden (c : Channel) (id : Nat) : (c.bindAll id).burden = c.burden := (c.bindAll_binds id).burden

@[simp] theorem Channel.settle_burden (c : Channel) : c.settle.burden = c.burden := c.settle_binds.burden

/-! Admission -/

@[simp] theorem Channel.charge_burden (c : Channel) (p : PortDie) (x : Item) : (c.charge p x).burden = c.burden :=
  Channel.onSched_burden (fun _ => by split <;> rfl) c

@[simp] theorem Channel.book_burden (c : Channel) (halved : Bool) (u : TideUse) (charge j : Nat) :
    (c.book halved u charge j).burden = c.burden := rfl

@[simp] theorem Channel.noteRefusal_burden (c : Channel) (p : PortDie) (x : Item) (detail : BitVec 4) :
    (c.noteRefusal p x detail).burden = c.burden := by simp [Channel.noteRefusal]

@[simp] theorem Channel.countDraw_burden (c : Channel) (x : Item) : (c.countDraw x).burden = c.burden := by
  unfold Channel.countDraw
  extract_lets g
  split_ifs <;> rfl

@[simp] theorem Channel.maskDraw_burden (c : Channel) (x : Item) : (c.maskDraw x).1.burden = c.burden := by
  simp only [Channel.maskDraw]
  split <;> rfl

@[simp] theorem Channel.drawSkim_burden (c : Channel) (x : Item) : (c.drawSkim x).1.burden = c.burden := by
  unfold Channel.drawSkim
  split <;> rfl

@[simp] theorem Channel.accepted_burden (c : Channel) (p : PortDie) (x : Item) : (c.accepted p x).1.burden = c.burden := by
  simp only [Channel.accepted]
  (repeat' split) <;> simp

/-! Lanes and fills -/

/-- Everything the counters of a result can do to a channel. -/
theorem Channel.noteResult_eq (c : Channel) (x : Item) (r : Res) :
    ∃ k g h, c.noteResult x r = { c with rakes := k, rng := g, health := h } := by
  unfold Channel.noteResult
  extract_lets k rakeTag c1 g c2 h c3
  have h1 : ∃ k, c1 = { c with rakes := k } := by
    simp only [c1]
    split_ifs <;> exact ⟨_, rfl⟩
  have h2 : ∃ g, c2 = { c1 with rng := g } := by
    simp only [c2]
    split <;> exact ⟨_, rfl⟩
  have h3 : ∃ h, c3 = { c2 with health := h } := by
    simp only [c3]
    split <;> exact ⟨_, rfl⟩
  obtain ⟨k, hk⟩ := h1
  obtain ⟨g, hg⟩ := h2
  obtain ⟨h, hh⟩ := h3
  rw [hh, hg, hk]
  split <;> exact ⟨_, _, _, rfl⟩

@[simp] theorem Channel.noteResult_burden (c : Channel) (x : Item) (r : Res) : (c.noteResult x r).burden = c.burden := by
  obtain ⟨_, _, _, h⟩ := c.noteResult_eq x r
  rw [h]
  rfl

@[simp] theorem Channel.noteResult_sched (c : Channel) (x : Item) (r : Res) : (c.noteResult x r).sched = c.sched := by
  obtain ⟨_, _, _, h⟩ := c.noteResult_eq x r
  rw [h]

@[simp] theorem Channel.countHits_burden (c : Channel) (x : Item) : (c.countHits x).burden = c.burden := by
  unfold Channel.countHits
  extract_lets
  split <;> rfl

@[simp] theorem Channel.awaitFill_burden (c : Channel) (x : Item) : (c.awaitFill x).burden = c.burden := by
  unfold Channel.awaitFill
  split <;> simp

@[simp] theorem Channel.laneTake_burden (c : Channel) (x : Item) : (c.laneTake x).burden = c.burden := by
  unfold Channel.laneTake
  repeat' split <;> simp

@[simp] theorem Channel.laneJoin_burden (c : Channel) (x : Item) : (c.laneJoin x).burden = c.burden := by
  unfold Channel.laneJoin
  repeat' split <;> simp

@[simp] theorem Channel.lookAhead_burden (c : Channel) (id : Nat) : (c.lookAhead id).burden = c.burden := by
  simp only [Channel.lookAhead]
  (repeat' split) <;> simp

theorem Channel.placeKey_burden (c : Channel) (slot : Nat) (gen : BitVec 16) (f : BitVec 8) (h : KeyHeader) (t : Tally)
    (m chk : Bytes) : (c.placeKey slot gen f h t m chk).burden = c.burden :=
  Channel.burden_foldl (fun _ _ => by rfl) _ _

theorem Channel.noteFill_burden (c : Channel) (ch : Chan) (slot : Nat) (f : Fill) : (c.noteFill ch slot f).burden = c.burden := by
  unfold Channel.noteFill
  split
  · extract_lets k k1 k2 h
    have hfills : k2.fills = c.keys.fills := by simp only [k2]; split <;> rfl
    show (c.sched.burden, k2.fills) = _
    rw [hfills]
    rfl
  · rfl
  · rfl

theorem Channel.filled_burden (c : Channel) (x : Item) : (c.filled x).burden = c.burden := by
  simp only [Channel.filled]
  split <;> simp

/-! Streams that end -/

@[simp] theorem Channel.killStreams_burden (c : Channel) (n : Nat) (f : Nat → Stream → Bool) :
    (c.killStreams n f).burden = c.burden := by
  simp only [Channel.killStreams]
  exact Channel.burden_foldl (fun _ _ => by rfl) _ _

/-! ### Work that takes items from a core or a delay list -/

/-- The channel `d` has under way what `c` has, but for items that left a core or a delay list. -/
structure Channel.Eases (c d : Channel) : Prop where
  ids : d.sched.ids = c.sched.ids
  buffer : d.sched.buffer = c.sched.buffer
  delayTwin : d.sched.delayTwin ⊆ c.sched.delayTwin
  delayHalved : d.sched.delayHalved ⊆ c.sched.delayHalved
  held : d.sched.held ⊆ c.sched.held

namespace Channel.Eases

variable {c d e : Channel}

theorem of_burden (h : d.burden = c.burden) : Channel.Eases c d := by
  simp only [Channel.burden, Sched.burden, Prod.mk.injEq] at h
  obtain ⟨⟨hids, hbuffer, htwin, hhalved, hheld⟩, -⟩ := h
  exact ⟨hids, hbuffer, htwin ▸ .refl _, hhalved ▸ .refl _, hheld ▸ .refl _⟩

theorem refl (c : Channel) : Channel.Eases c c := of_burden rfl

theorem trans (h : Channel.Eases c d) (h' : Channel.Eases d e) : Channel.Eases c e where
  ids := h'.ids.trans h.ids
  buffer := h'.buffer.trans h.buffer
  delayTwin := List.Subset.trans h'.delayTwin h.delayTwin
  delayHalved := List.Subset.trans h'.delayHalved h.delayHalved
  held := List.Subset.trans h'.held h.held

/-- Then work that leaves the burden as it is. -/
theorem keep (h : Channel.Eases c d) (h' : e.burden = d.burden) : Channel.Eases c e := h.trans (of_burden h')

theorem foldl {α : Type} {f : Channel → α → Channel} (h : ∀ c x, Channel.Eases c (f c x)) (l : List α) (c : Channel) :
    Channel.Eases c (l.foldl f c) := by
  induction l generalizing c with
  | nil => exact refl c
  | cons x l ih => exact (h c x).trans (ih (f c x))

end Channel.Eases

theorem Sched.mapCore_held {d : Sched} {k : Nat} {f : Core → Core} (hf : ∀ z, (f z).item = none) :
    (d.mapCore k f).held ⊆ d.held := by
  intro i hi
  obtain ⟨z, hz, hitem⟩ := List.mem_filterMap.1 hi
  obtain ⟨j, hj, rfl⟩ := List.mem_mapIdx.1 hz
  split at hitem
  · simp [hf] at hitem
  · exact List.mem_filterMap.2 ⟨_, List.getElem_mem hj, hitem⟩

theorem Channel.preempt_eases (c : Channel) (k : Nat) (y : Item) (urgent : Bool) : Channel.Eases c (c.preempt k y urgent) := by
  unfold Channel.preempt
  extract_lets now free y' z c1 c2
  have hfree : (c1.sched).held ⊆ (c.setItem z).sched.held := Sched.mapCore_held fun _ => rfl
  have h1 : Channel.Eases c c1 := ⟨c.setItem_ids z, rfl, .refl _, .refl _, hfree⟩
  exact h1.keep (by simp [c2])

/-- Everything the entry of a level can do to a scheduler. -/
theorem Sched.enlist_eq (d : Sched) (x : Item) (head : Bool) :
    ∃ u l, d.enlist x head = { d with urgentList := u, ready := l } := by
  simp only [Sched.enlist]
  split <;> exact ⟨_, _, rfl⟩

theorem Sched.enlist_burden (d : Sched) (x : Item) (head : Bool) : (d.enlist x head).burden = d.burden := by
  obtain ⟨u, l, h⟩ := d.enlist_eq x head
  rw [h]
  rfl

theorem Channel.enterAt_eases (c : Channel) (x : Item) (head : Bool) : Channel.Eases c (c.enterAt x head) := by
  unfold Channel.enterAt
  extract_lets c1
  have h1 : Channel.Eases c c1 :=
    .of_burden ((Channel.onSched_burden (fun d => d.enlist_burden x head) _).trans (c.setItem_burden _))
  split
  · exact h1.trans (c1.preempt_eases ..)
  · exact h1

theorem Channel.enter_eases (c : Channel) (x : Item) : Channel.Eases c (c.enter x) := c.enterAt_eases x false

theorem Channel.stop_eases (c : Channel) (x : Item) : Channel.Eases c (c.stop x) where
  ids := rfl
  buffer := rfl
  delayTwin := fun _ h => List.mem_of_mem_filter h
  delayHalved := fun _ h => List.mem_of_mem_filter h
  held := by
    intro i hi
    obtain ⟨z, hz, hitem⟩ := List.mem_filterMap.1 hi
    obtain ⟨k, hk, rfl⟩ := List.mem_map.1 hz
    split at hitem
    · cases hitem
    · exact List.mem_filterMap.2 ⟨k, hk, hitem⟩

theorem Channel.abort_eases (c : Channel) (x : Item) (r : Res) : Channel.Eases c (c.abort x r) := by
  unfold Channel.abort
  split
  · exact .refl c
  · dsimp only
    split <;> exact (c.stop_eases x).keep (by simp)

theorem Channel.withdraw_eases (c : Channel) (slot : Nat) (x : Item) : Channel.Eases c (c.withdraw slot x) := by
  unfold Channel.withdraw
  extract_lets free c1 c2 k
  split
  · exact .refl c
  · have h1 : c1.burden = c.burden := by simp only [c1]; split <;> rfl
    have h2 : Channel.Eases c1 c2 := c1.abort_eases x _
    exact ((Channel.Eases.of_burden h1).trans h2).keep rfl

theorem Channel.withdrawUsers_eases (c : Channel) (x : Item) : Channel.Eases c (c.withdrawUsers x) := by
  unfold Channel.withdrawUsers
  extract_lets slot users
  split
  · exact .refl c
  · exact (Channel.Eases.foldl (fun c y => c.withdraw_eases slot y) users c).keep (by simp)

theorem Channel.enterStarted_eases (c : Channel) (x : Item) : Channel.Eases c (c.enterStarted x) := by
  unfold Channel.enterStarted
  extract_lets slot c1
  split
  · exact c.enter_eases x
  · have h1 : Channel.Eases c c1 := by
      simp only [c1]
      split
      · exact .refl c
      · exact c.withdrawUsers_eases x
    split
    · exact h1.keep (by simp)
    · exact h1.trans (c1.enter_eases x)

theorem Channel.startItem_eases (c : Channel) (x : Item) (waited : Bool) : Channel.Eases c (c.startItem x waited) := by
  unfold Channel.startItem
  extract_lets c1 x y z
  have h1 : Channel.Eases c c1 := .of_burden (by simp [c1])
  have h2 (x : Item) : Channel.Eases c (if waited then c1.trace x 7 0xFF else c1) := h1.keep (by simp)
  split
  · exact (h2 y).keep (by simp)
  · split
    · exact h1.keep (by simp)
    · exact (h2 z).trans (Channel.enterStarted_eases ..)

theorem Channel.tryStart_eases (c : Channel) (id : Nat) (waited : Bool) : Channel.Eases c (c.tryStart id waited) := by
  unfold Channel.tryStart
  split
  · split
    · exact c.startItem_eases ..
    · exact .refl c
  · exact .refl c

end Sys2Proof.Machine
end

section
/-! An item that enters its level, and O31: late decode, release, start, dispatch, the slice timer, completion, and missed
deadlines (R81 to R95). -/

namespace Sys2Proof.Machine

/-! ### An item that enters its level (R88, R90) -/

/-- A fold that keeps its choice or takes the next candidate chooses one of the candidates. -/
theorem mem_of_foldl_choice {α : Type} {f : Option α → α → Option α} (hf : ∀ b q, f b q = some q ∨ f b q = b) {l : List α} {r : α}
    (h : l.foldl f none = some r) : r ∈ l := by
  have hgo (l : List α) (b : Option α) (hr : l.foldl f b = some r) : b = some r ∨ r ∈ l := by
    induction l generalizing b with
    | nil => exact .inl hr
    | cons q l ih =>
      rcases ih (f b q) hr with hb | hl
      · rcases hf b q with hq | hq
        · rw [hq] at hb
          cases hb
          exact .inr (List.mem_cons_self)
        · exact .inl (hq.symm.trans hb)
      · exact .inr (List.mem_cons_of_mem q hl)
  exact (hgo l none h).resolve_left (by simp)

/-- The item that a pre-emption takes off its core is one that a core has in hand. -/
theorem Channel.victimCore_held {c : Channel} {x y : Item} {k : Nat} (h : c.victimCore x = some (k, y)) : y.id ∈ c.sched.held := by
  unfold Channel.victimCore at h
  extract_lets d cand at h
  split at h
  · cases h
  · obtain ⟨q, hq, hky⟩ := Option.map_eq_some_iff.1 h
    have hmem : q ∈ cand := by
      refine mem_of_foldl_choice (fun b q => ?_) hq
      split
      · exact .inl rfl
      · split
        · exact .inl rfl
        · exact .inr rfl
    obtain ⟨p, hp, hcand⟩ := List.mem_filterMap.1 hmem
    obtain ⟨j, hj, rfl⟩ := List.mem_mapIdx.1 hp
    split at hcand
    next w hw =>
      obtain ⟨n, hn, hitem⟩ := Option.bind_eq_some_iff.1 hw
      obtain ⟨-, hq'⟩ := Option.ite_none_right_eq_some.1 hcand
      cases hq'
      cases hky
      rw [(Channel.item?_some hitem).2]
      exact List.mem_filterMap.2 ⟨_, List.getElem_mem hj, hn⟩
    next => cases hcand

theorem Channel.preempt_item?_other (c : Channel) (k : Nat) {y : Item} (urgent : Bool) {id : Nat} (h : id ≠ y.id) :
    (c.preempt k y urgent).item? id = c.item? id := by
  simp only [Channel.preempt, Channel.trace_item?]
  exact c.setItem_item?_other h

/-- What an item pre-empts is not an item that no core has in hand. -/
theorem Channel.preempt_victim_item? {c : Channel} {x y : Item} {k id : Nat} (hvictim : c.victimCore x = some (k, y)) (urgent : Bool)
    (hheld : id ∉ c.sched.held) : (c.preempt k y urgent).item? id = c.item? id :=
  c.preempt_item?_other k urgent fun h => hheld (h ▸ Channel.victimCore_held hvictim)

theorem Channel.enlist_item? (c : Channel) (x : Item) (head : Bool) (id : Nat) :
    (c.onSched (·.enlist x head)).item? id = c.item? id := by
  obtain ⟨u, l, h⟩ := c.sched.enlist_eq x head
  rw [Channel.item?, Channel.onSched_sched, h]
  rfl

theorem Channel.enlist_held (c : Channel) (x : Item) (head : Bool) : (c.onSched (·.enlist x head)).sched.held = c.sched.held := by
  obtain ⟨u, l, h⟩ := c.sched.enlist_eq x head
  rw [Channel.onSched_sched, h]
  rfl

/-- An item that no core has in hand stands in its level once it has entered it, whatever it pre-empts. -/
theorem Channel.enter_item? {c : Channel} {x : Item} {id : Nat} (hids : id ∈ c.sched.ids) (hheld : id ∉ c.sched.held)
    (hid : x.id = id := by rfl) : (c.enter x).item? id = some { x with phase := .ready } := by
  unfold Channel.enter Channel.enterAt
  extract_lets c1
  have hitem : c1.item? id = some { x with phase := .ready } :=
    (Channel.enlist_item? _ x false id).trans (Channel.setItem_item?_same hids hid)
  have hheld1 : id ∉ c1.sched.held := by rwa [show c1.sched.held = _ from Channel.enlist_held ..]
  split
  next k y hvictim => exact (Channel.preempt_victim_item? hvictim x.urgent hheld1).trans hitem
  next => exact hitem

/-! ### Release of a delayed command (R82) -/

/-- The item `id` stands in no delay list. -/
def Channel.Released (c : Channel) (id : Nat) : Prop := id ∉ c.sched.delayTwin ∧ id ∉ c.sched.delayHalved

theorem Channel.Eases.released {c d : Channel} (h : Channel.Eases c d) {id : Nat} (hc : c.Released id) : d.Released id :=
  ⟨fun hd => hc.1 (h.delayTwin hd), fun hd => hc.2 (h.delayHalved hd)⟩

/-- The channel with item `id` in no delay list. -/
def Channel.unlist (c : Channel) (id : Nat) : Channel :=
  c.onSched (fun d => { d with delayTwin := d.delayTwin.filter (· != id), delayHalved := d.delayHalved.filter (· != id) })

theorem Channel.unlist_eases (c : Channel) (id : Nat) : Channel.Eases c (c.unlist id) :=
  ⟨rfl, rfl, fun _ h => List.mem_of_mem_filter h, fun _ h => List.mem_of_mem_filter h, .refl _⟩

theorem Channel.unlist_released (c : Channel) (id : Nat) : (c.unlist id).Released id := by
  simp [Channel.Released, Channel.unlist]

/-- A delayed item that is due leaves the delay lists, and what its admission makes of it only eases the channel. -/
theorem Channel.releaseOne_due (c : Channel) (p : PortDie) {x : Item} {n : Nat} (hphase : x.phase = .delayed n) (hdue : n ≤ c.tide) :
    Channel.Eases (c.unlist x.id) (c.releaseOne p x) := by
  unfold Channel.releaseOne
  rw [hphase]
  dsimp only
  rw [if_neg (by omega)]
  split
  · exact .of_burden (by simp; rfl)
  · exact (Channel.Eases.of_burden (by simp; rfl)).trans
      ((Channel.tryStart_eases _ _ _).keep (Channel.lookAhead_burden _ _))

theorem Channel.releaseOne_eases (c : Channel) (p : PortDie) (x : Item) : Channel.Eases c (c.releaseOne p x) := by
  cases hphase : x.phase with
  | delayed n =>
    by_cases hdue : n ≤ c.tide
    · exact (c.unlist_eases x.id).trans (c.releaseOne_due p hphase hdue)
    · simp only [Channel.releaseOne, hphase, if_pos (Nat.lt_of_not_le hdue)]
      exact .refl c
  | _ => rw [Channel.releaseOne, hphase]; exact .refl c

theorem Channel.releaseDue_released {c : Channel} (p : PortDie) {x : Item} {l : List Item} {n : Nat} (hitems : c.sched.items = x :: l)
    (hphase : x.phase = .delayed n) (hdue : n ≤ c.tide) : (c.releaseDue p).Released x.id := by
  have hx : c.item? x.id = some x := by simp [Channel.item?, hitems]
  unfold Channel.releaseDue
  rw [hitems, List.foldl_cons, hx]
  refine Channel.Eases.released (.foldl (fun c z => ?_) l _) ((c.releaseOne_due p hphase hdue).released (c.unlist_released x.id))
  split
  · exact c.releaseOne_eases p _
  · exact .refl c

/-! ### The start of a firmware-path command (R88, R262) -/

/-- A command that starts stands in its level, or, a destroy, waits for the users of its slot. -/
theorem Channel.enterStarted_item? {c : Channel} {x : Item} {id : Nat} (hids : id ∈ c.sched.ids) (hheld : id ∉ c.sched.held)
    (hid : x.id = id := by rfl) :
    ∃ y, (c.enterStarted x).item? id = some y ∧ (y.startTide = x.startTide ∨ x.op = .keyDestroy ∧ y.phase = .draining) := by
  unfold Channel.enterStarted
  extract_lets slot c1
  split
  next => exact ⟨_, Channel.enter_item? hids hheld hid, .inl rfl⟩
  next hop =>
    have h1 : Channel.Eases c c1 := by
      simp only [c1]
      split
      · exact .refl c
      · exact c.withdrawUsers_eases x
    have hids1 : id ∈ c1.sched.ids := h1.ids ▸ hids
    split
    · exact ⟨_, Channel.setItem_item?_same hids1 hid, .inr ⟨by simpa using hop, rfl⟩⟩
    · exact ⟨_, Channel.enter_item? hids1 (fun h => hheld (h1.held h)) hid, .inl rfl⟩

/-- The item whose generations are bound is itself, but for what it has bound. -/
theorem Channel.bindAll_item? {c : Channel} {x : Item} (hx : c.item? x.id = some x) :
    ∃ b, (c.bindAll x.id).item? x.id = some { x with binds := b } := by
  obtain ⟨b, hb⟩ := (c.bindAll_binds x.id).item? x.id
  exact ⟨b x, by rw [hb, hx]; rfl⟩

theorem Channel.begin_of_none {c : Channel} {x : Item} (h : x.startTide = none) :
    c.begin x = { x with startTide := some c.tide, due := some (c.tide + classTides x.pkt.hdr.cls.toNat) } := by
  simp [Channel.begin, h]

/-- A command not of the skim path that starts, starts in the present tide. -/
theorem Channel.startItem_item? {c : Channel} {x : Item} (waited : Bool) (hx : c.item? x.id = some x) (hstart : x.startTide = none)
    (hskim : x.skim = false) (hheld : x.id ∉ c.sched.held) :
    ∃ y, (c.startItem x waited).item? x.id = some y
      ∧ (y.startTide = some c.tide ∨ x.op = .keyDestroy ∧ y.phase = .draining) := by
  obtain ⟨b, hb⟩ := Channel.bindAll_item? hx
  have hease (z : Item) : Channel.Eases c (if waited then (c.bindAll x.id).trace z 7 0xFF else c.bindAll x.id) :=
    .of_burden (by simp)
  unfold Channel.startItem
  simp only [hb, Option.getD_some, Channel.begin_of_none (x := { x with binds := b }) hstart, (c.bindAll_binds x.id).tide]
  split
  next =>
    exact ⟨_, Channel.setItem_item?_same ((hease _).ids ▸ Channel.mem_ids hx), .inl rfl⟩
  next =>
    rw [if_neg (by simpa [Item.skim] using hskim)]
    exact Channel.enterStarted_item? ((hease _).ids ▸ Channel.mem_ids hx) fun h => hheld ((hease _).held h)

theorem Channel.startOne_item? {c : Channel} {id : Nat} {x : Item} (hx : c.item? id = some x) (hphase : x.phase = .waiting)
    (hstart : x.startTide = none) (hgo : c.startable x = true) (hskim : x.skim = false) (hheld : id ∉ c.sched.held) :
    ∃ y, (c.startOne id).item? id = some y ∧ (y.startTide = some c.tide ∨ x.op = .keyDestroy ∧ y.phase = .draining) := by
  obtain rfl := (Channel.item?_some hx).2
  have h : c.startOne x.id = c.startItem x true := by
    simp only [Channel.startOne, hx, hphase, Channel.tryStart, if_pos hgo]
  rw [h]
  exact Channel.startItem_item? true hx hstart hskim hheld

/-! ### Cores (R89) -/

theorem Sched.mapCore_core (d : Sched) (k : Nat) (f : Core → Core) : (d.mapCore k f).cores[k]? = d.cores[k]?.map f := by
  simp [Sched.mapCore]

/-- A free core takes the next ready item, whose slice starts after the dispatch and the restore. -/
theorem Channel.dispatch_runs {c : Channel} {k : Nat} {z : Core} {x : Item} (hcore : c.sched.cores[k]? = some z)
    (hitem : z.item = none) (hout : z.out = false) (hsince : z.since ≤ c.now) (hnext : c.sched.next.bind c.item? = some x) :
    (c.dispatch k).sched.cores[k]?.bind (·.item) = some x.id
    ∧ ∃ y, (c.dispatch k).item? x.id = some y ∧ y.phase = .running k
      ∧ y.sliceStart = c.now + 24 + (if x.saved then 192 else 0) := by
  obtain ⟨i, -, hi⟩ := Option.bind_eq_some_iff.1 hnext
  unfold Channel.dispatch
  simp only [hcore, hnext]
  rw [if_neg (by simp [hitem, hout, Nat.not_lt.2 hsince])]
  rw [Channel.trace_cores, Channel.trace_item?, Channel.onSched_sched, Sched.mapCore_core]
  refine ⟨?_, { x with phase := .running k, saved := false, sliceStart := c.now + 24 + (if x.saved then 192 else 0) }, ?_, rfl, rfl⟩
  · rw [show ((c.setItem _).sched.delist x.id).cores[k]? = some z from hcore]
    rfl
  · exact Channel.setItem_item?_same ((Channel.item?_some hi).2 ▸ Channel.mem_ids hi)

/-- An item that has run its slice leaves its core free. -/
theorem Channel.sliceTimer_frees {c : Channel} {k j : Nat} {x : Item} (hx : (c.sched.cores[k]?.bind (·.item)).bind c.item? = some x)
    (hphase : x.phase = .running j) (hover : x.sliceStart + 3584 ≤ c.now) :
    (c.sliceTimer k).sched.cores[k]?.bind (·.item) = none := by
  unfold Channel.sliceTimer
  simp only [hx, hphase]
  rw [if_neg (Nat.not_lt.2 hover), Channel.yieldCore, Channel.onSched_sched, Sched.mapCore_core, Option.bind_map]
  exact Option.bind_fun_none _

/-! ### The collector (R94, R95) -/

@[simp] theorem Channel.remember_sched (c : Channel) (x : Item) : (c.remember x).sched = c.sched := by
  unfold Channel.remember
  extract_lets c1 n
  have h1 : c1.sched = c.sched := by
    simp only [c1]
    split <;> rfl
  split <;> exact h1

/-- The item that is complete is an item no longer. -/
theorem Channel.retireItem_ids (c : Channel) (id : Nat) : (c.retireItem id).sched.ids = c.sched.ids.filter (· != id) := by
  refine (Channel.settle_ids _).trans ?_
  simp only [Sched.ids, Channel.onSched_sched, List.map_map, List.filter_map]
  refine List.map_congr_left fun x _ => ?_
  dsimp only [Function.comp]
  split <;> rfl

@[simp] theorem Channel.retireItem_buffer (c : Channel) (id : Nat) : (c.retireItem id).sched.buffer = c.sched.buffer :=
  (Channel.settle_buffer _ :)

/-- A granted completion enters the buffer, and its item is an item no longer. -/
theorem Channel.grant_leaves (c : Channel) (r : Produced) :
    (c.grant r).sched.buffer.length = c.sched.buffer.length + 1 ∧ (c.grant r).sched.ids ⊆ c.sched.ids
    ∧ ∀ id, r.item = some id → id ∉ (c.grant r).sched.ids := by
  unfold Channel.grant
  extract_lets c1 c2 lo
  have h1 : c1.sched = c.sched := by
    simp only [c1]
    split
    next x _ => rw [Channel.remember_sched]; split <;> simp
    next => rfl
  have hids : c2.sched.ids = c.sched.ids := (congrArg Sched.ids h1 : c1.sched.ids = _)
  have hbuffer : c2.sched.buffer = c.sched.buffer := (congrArg Sched.buffer h1 : c1.sched.buffer = _)
  split
  next hnone =>
    refine ⟨by simp [hbuffer], hids ▸ .refl _, fun id hid => ?_⟩
    rw [hid] at hnone
    exact (c2.item?_eq_none id).1 hnone
  next x hx =>
    obtain ⟨i, hi, hitem⟩ := Option.bind_eq_some_iff.1 hx
    obtain rfl := (Channel.item?_some hitem).2
    extract_lets cycles rec' c3 now c4
    have h3 : c3.sched.items = c2.sched.items := Channel.trace_items ..
    have hbuffer3 : c3.sched.buffer = c2.sched.buffer := Channel.trace_buffer ..
    have h4 : c4.sched.ids = c.sched.ids := by
      rw [← hids]
      exact congrArg (List.map (·.id)) h3
    have hbuffer4 : c4.sched.buffer = c.sched.buffer ++ [rec'] := congrArg (· ++ [rec']) (hbuffer3.trans hbuffer)
    rw [Channel.retireItem_ids, Channel.retireItem_buffer, h4, hbuffer4]
    refine ⟨by simp, List.filter_subset_self _, fun id hid => ?_⟩
    obtain rfl : x.id = id := Option.some.inj (hi.symm.trans hid)
    simp

/-- The collector looks on: it takes records and completes items. -/
theorem Channel.collect_leaves (c : Channel) (k left n : Nat) :
    c.sched.buffer.length ≤ (c.collect k left n).sched.buffer.length ∧ (c.collect k left n).sched.ids ⊆ c.sched.ids := by
  induction n generalizing c k left with
  | zero => exact ⟨Nat.le_refl _, .refl _⟩
  | succ n ih =>
    rw [Channel.collect]
    split
    · exact ⟨Nat.le_refl _, .refl _⟩
    · split
      next => exact ih c (k + 1) left
      next r _ =>
        obtain ⟨hlen, hsub, -⟩ := c.grant_leaves r
        obtain ⟨hlen', hsub'⟩ := ih ((c.grant r).onSched (fun d => { d with pointer := (k + 1) % 80 })) (k + 1) (left - 1)
        exact ⟨Nat.le_trans (hlen ▸ Nat.le_succ _) hlen', List.Subset.trans hsub' hsub⟩

/-- A completion offered at the pointer is taken. -/
theorem Channel.collect_offered {c : Channel} {k left n : Nat} {r : Produced} (hleft : left ≠ 0) (hroom : c.sched.buffer.length < 512)
    (hoffered : c.offered (k % 80) = some r) :
    c.sched.buffer.length < (c.collect k left (n + 1)).sched.buffer.length
    ∧ ∀ id, r.item = some id → (c.collect k left (n + 1)).item? id = none := by
  have hgo : c.collect k left (n + 1)
      = ((c.grant r).onSched (fun d => { d with pointer := (k + 1) % 80 })).collect (k + 1) (left - 1) n := by
    rw [Channel.collect, if_neg (by simp [hleft, hroom])]
    simp only [hoffered]
  obtain ⟨hlen, -, hgone⟩ := c.grant_leaves r
  obtain ⟨hlen', hsub⟩ := ((c.grant r).onSched (fun d => { d with pointer := (k + 1) % 80 })).collect_leaves (k + 1) (left - 1) n
  rw [hgo]
  refine ⟨Nat.lt_of_lt_of_le (hlen ▸ Nat.lt_succ_self _) hlen', fun id hid => ?_⟩
  exact (Channel.item?_eq_none _ id).2 fun h => hgone id hid (hsub h)

/-! ### Missed deadlines (R91, R92) -/

theorem Channel.preempt_missCount (c : Channel) (k : Nat) (y : Item) (urgent : Bool) :
    (c.preempt k y urgent).sched.regs.missCount = c.sched.regs.missCount := Channel.trace_missCount ..

/-- An item that no core has in hand, moved to the urgent level. -/
theorem Channel.promote_leaves {c : Channel} {x : Item} (hids : x.id ∈ c.sched.ids) (hheld : x.id ∉ c.sched.held) :
    (c.promote x).sched.regs.missCount = c.sched.regs.missCount ∧ (c.promote x).item? x.id = some { x with urgent := true } := by
  unfold Channel.promote
  extract_lets y c1 job pk skim rakes digests pks c2 c3
  have hitem : c2.item? x.id = some { x with urgent := true } := Channel.setItem_item?_same (c := c) (x := y) hids
  split
  next =>
    obtain ⟨u, l, hl⟩ := (c2.sched.delist y.id).enlist_eq y false
    have h3 : c3.sched = { c2.sched.delist y.id with urgentList := u, ready := l } := hl
    have hcount3 : c3.sched.regs.missCount = c.sched.regs.missCount := congrArg (·.regs.missCount) h3
    have hitem3 : c3.item? x.id = some { x with urgent := true } := by
      rw [Channel.item?, h3]
      exact hitem
    have hheld3 : x.id ∉ c3.sched.held := by
      rw [h3]
      exact hheld
    split
    next k z hvictim =>
      exact ⟨(c3.preempt_missCount k z true).trans hcount3, (Channel.preempt_victim_item? hvictim true hheld3).trans hitem3⟩
    next => exact ⟨hcount3, hitem3⟩
  next => exact ⟨rfl, hitem⟩

/-- A missed deadline is marked and counted. -/
theorem Channel.miss_leaves {c : Channel} (ch : Chan) {x : Item} (hids : x.id ∈ c.sched.ids) (hheld : x.id ∉ c.sched.held) :
    (c.miss ch x).sched.regs.missCount = satBv c.sched.regs.missCount 1
    ∧ ∃ y, (c.miss ch x).item? x.id = some y ∧ y.missed = true := by
  unfold Channel.miss
  extract_lets y c1 c2 c3 h c4
  have h4 : c4.sched = c2.sched := by
    simp only [c4]
    split <;> rfl
  have h2 : Channel.Eases c c2 := .of_burden (by simp [c2, c1])
  have hcount : c4.sched.regs.missCount = satBv c.sched.regs.missCount 1 := by
    rw [h4]
    exact congrArg (satBv · 1) (Channel.trace_missCount ..)
  have hitem : c4.item? x.id = some { x with missed := true } := by
    rw [Channel.item?, h4]
    exact (Channel.trace_item? ..).trans (Channel.setItem_item?_same hids)
  split
  · exact ⟨hcount, _, hitem, rfl⟩
  · obtain ⟨hcount', hitem'⟩ := Channel.promote_leaves (c := c4) (x := y) (by rw [h4]; exact h2.ids ▸ hids)
      (by rw [h4]; exact fun h => hheld (h2.held h))
    exact ⟨hcount'.trans hcount, _, hitem', rfl⟩

/-! ### The commands -/

/-- A packet 16 tides old at the head of fan-out is a channel fault (R81, R311, R315). -/
theorem Channel.decodeLate_faults {c : Channel} (ch : Chan) {k : Packet} {l : List Packet} (hfan : c.sched.fanout = k :: l)
    (hlate : k.intakeTide + 16 ≤ c.tide) :
    (c.decodeLate ch).sched.regs.decodeLate = true ∧ .decodeLate ∈ (c.decodeLate ch).faults
    ∧ (c.decodeLate ch).health.cleared.getLsbD 1 = true := by
  simp only [Channel.decodeLate, hfan, if_neg (Nat.not_lt.2 hlate)]
  refine ⟨rfl, List.mem_append_right _ (List.mem_singleton_self _), ?_⟩
  show (c.health.cleared ||| BitVec.ofNat 16 (2 ^ 1)).getLsbD 1 = true
  rw [BitVec.getLsbD_or]
  exact Bool.or_eq_true_iff.2 (.inr (by decide))

/-- Settles O31, event by event: what goes on after a release, a start or a grant only eases the channel, and a pre-emption takes
no item that no core has in hand. -/
theorem schedulerEventsAct : Obligations.SchedulerEventsAct := by
  unfold Obligations.SchedulerEventsAct
  refine ⟨?_, ?_, ?_, ?_, ?_, ?_, ?_⟩
  · intro s ch k l hfan hlate
    refine .intro rfl ?_
    simp only [State.finish_chan, State.chan_upd]
    exact Channel.decodeLate_faults ch hfan hlate
  · intro s ch x l n hitems hphase hdue
    refine .intro rfl ?_
    simp only [State.finish_chan, State.chan_upd]
    exact Channel.releaseDue_released s.port hitems hphase hdue
  · intro s ch id x hx hphase hstart hgo hskim hheld
    refine .intro rfl ?_
    simp only [State.finish_chan, State.chan_upd]
    obtain ⟨y, hy, hstarted⟩ := Channel.startOne_item? hx hphase hstart hgo hskim (Sched.not_mem_held hheld)
    obtain ⟨hmem, hid⟩ := Channel.item?_some hy
    exact ⟨y, hmem, hid, hstarted⟩
  · intro s ch k z x hcore hitem hout hsince hnext
    refine .intro rfl ?_
    simp only [State.chan_upd]
    exact Channel.dispatch_runs hcore hitem hout hsince hnext
  · intro s ch k x j hx hphase hover
    refine .intro rfl ?_
    simp only [State.chan_upd]
    exact Channel.sliceTimer_frees hx hphase hover
  · intro s ch r hroom hoffered
    refine .intro rfl ?_
    simp only [State.finish_chan, State.chan_upd]
    obtain ⟨hlen, hgone⟩ := Channel.collect_offered (left := 4) (n := 79) (by decide) hroom hoffered
    exact ⟨hlen, fun id hid _ => hgone id hid⟩
  · intro s ch id x hx hmiss hheld
    refine .intro rfl ?_
    simp only [State.finish_chan, State.chan_upd, hx, if_pos hmiss]
    obtain rfl := (Channel.item?_some hx).2
    obtain ⟨hcount, y, hy, hmissed⟩ := Channel.miss_leaves ch (Channel.mem_ids hx) (Sched.not_mem_held hheld)
    obtain ⟨hmem, hid⟩ := Channel.item?_some hy
    exact ⟨hcount, y, hmem, hid, hmissed⟩

end Sys2Proof.Machine
end

section
/-! O32: wait limits and their verdicts, drained users, shadow entries, key cache fills, and exhaustion (R87, R188, R256 to R265). -/

namespace Sys2Proof.Machine

/-! ### Wait limits (R87) -/

/-- A wait that ends leaves the completion of its item at a scheduler port. -/
theorem Channel.timeOut_produced (c : Channel) (x : Item) :
    ∃ r ∈ (c.timeOut x).sched.produced, r.item = some x.id ∧ r.record.code = .waitTimeout := by
  unfold Channel.timeOut
  rw [Channel.settle_produced]
  exact ⟨_, List.mem_append_right _ (List.mem_singleton_self _), rfl, rfl⟩

section
variable {s : State} {ch : Chan} {id e : Nat} {x : Item} (hx : (s.chan ch).item? id = some x) (hlimit : x.limit = some e)
  (hdue : e ≤ (s.chan ch).tide) (hfirst : x.expiryPending = false) (hwaits : x.waits = true)
include hx hlimit hdue hfirst hwaits

/-- The limit of a halved command that waits ends its wait. -/
theorem State.waitExpiry_halved (hhalved : x.halved = true) : s.waitExpiry ch id = s.setChan ch ((s.chan ch).timeOut x) := by
  simp [State.waitExpiry, hx, hlimit, Nat.not_lt.2 hdue, hfirst, hwaits, hhalved]

/-- The limit of a twin command that waits is reported, and the command is held. -/
theorem State.waitExpiry_twin (htwin : x.halved = false) :
    s.waitExpiry ch id
      = (s.updPort (fun p => p.waitReport ch x.pkt.intakeNo e true)).setChan ch ((s.chan ch).holdExpiry x) := by
  simp [State.waitExpiry, hx, hlimit, Nat.not_lt.2 hdue, hfirst, hwaits, htwin]

end

@[simp] theorem WaitVote.report_intakeNo (v : WaitVote) (ch : Chan) (waiting : Bool) : (v.report ch waiting).intakeNo = v.intakeNo := by
  cases ch <;> rfl

/-- A report stands in the vote of its command. -/
theorem PortDie.waitReport_votes (p : PortDie) (ch : Chan) (n e : Nat) (waiting : Bool) :
    ∃ v ∈ (p.waitReport ch n e waiting).waits, v.intakeNo = n := by
  unfold PortDie.waitReport
  split
  next hopen =>
    obtain ⟨v, hv, hn⟩ := List.any_eq_true.1 hopen
    refine ⟨_, List.mem_map_of_mem hv, ?_⟩
    split <;> simpa using hn
  next => exact ⟨_, List.mem_append_right _ (List.mem_singleton_self _), WaitVote.report_intakeNo ..⟩

/-- The verdict leaves no vote of its command open. -/
theorem PortDie.waitVerdict_fixes {p : PortDie} {n : Nat} {v : WaitVote} (hv : v ∈ (p.waitVerdict n).waits) (hn : v.intakeNo = n) :
    v.expire.isSome = true := by
  obtain ⟨w, -, rfl⟩ := List.mem_map.1 hv
  dsimp only at hn ⊢
  by_cases hfixed : (w.intakeNo != n || w.expire.isSome) = true
  · rw [if_pos hfixed] at hn ⊢
    simpa [hn] using hfixed
  · rw [if_neg hfixed]
    rfl

/-- The verdict "expire" ends the wait of the command held for it. -/
theorem Channel.applyVerdict_expire {c : Channel} {n : Nat} {x : Item}
    (hx : c.sched.items.find? (fun x => x.pkt.intakeNo == n && x.expiryPending) = some x) :
    c.applyVerdict n true = c.timeOut x := by
  simp [Channel.applyVerdict, hx]

/-- A verdict "expire" whose tide has come. -/
theorem State.applyWait_expire {s : State} {n : Nat} {v : WaitVote}
    (hv : s.port.waits.find? (fun v => v.intakeNo == n) = some v) (hexpire : v.expire = some true) (hdue : v.e + 2 ≤ s.port.tide) :
    s.applyWait n = ((s.updPort (fun p => { p with waits := p.waits.filter (fun v => v.intakeNo != n) })).upd .a
      (fun c => c.applyVerdict n true)).upd .b (fun c => c.applyVerdict n true) := by
  simp [State.applyWait, hv, hexpire, Nat.not_lt.2 hdue]

theorem State.upd_both_chan (s : State) (f : Channel → Channel) (ch : Chan) :
    ((s.upd .a f).upd .b f).chan ch = f (s.chan ch) := by cases ch <;> rfl

/-! ### Waits in service (R258, R262) -/

/-- A destroy whose slot has no users left goes on, its deadline running from the present tide. -/
theorem Channel.usersDrained_item? {c : Channel} {id : Nat} {x : Item} (hx : c.item? id = some x) (hphase : x.phase = .draining)
    (hfree : c.slotUsers (leAt x.p 0 4) id = false) (hheldup : x.expiryPending = false) (hstart : x.startTide = none)
    (hheld : id ∉ c.sched.held) : ∃ y, (c.usersDrained id).item? id = some y ∧ y.startTide = some c.tide := by
  have hid : (c.begin x).id = id := by
    rw [Channel.begin_of_none hstart]
    exact (Channel.item?_some hx).2
  have hgo : c.usersDrained id = c.enter (c.begin x) := by
    simp [Channel.usersDrained, hx, hphase, hfree, hheldup]
  refine ⟨_, hgo ▸ Channel.enter_item? (Channel.mem_ids hx) hheld hid, ?_⟩
  rw [Channel.begin_of_none hstart]

/-- A writer whose shadow entries are free is ready, at the stage it reached. -/
theorem Channel.shadowAcquire_item? {c : Channel} {id : Nat} {x : Item} (hx : c.item? id = some x) (hphase : x.phase = .shadowWait)
    (hfree : c.keys.retainedUsed + c.sched.heldShadow + x.shadow ≤ writerShadow) (hheld : id ∉ c.sched.held) :
    (c.shadowAcquire id).item? id = some { x with saved := true, phase := .ready } := by
  have hgo : c.shadowAcquire id = c.enter { x with saved := true } := by
    simp [Channel.shadowAcquire, hx, hphase, Nat.not_lt.2 hfree]
  exact hgo ▸ Channel.enter_item? (Channel.mem_ids hx) hheld (Channel.item?_some hx).2

/-! ### Key cache fills (R110, R111, R256, R265) -/

/-- A fill that an item waits for starts on a free port, or waits for a way. -/
theorem Channel.fillStart_fills {c : Channel} {slot : Nat} {g : BitVec 16}
    (hnew : c.keys.fills.find? (fun f => f.slot == slot && f.waitsForWay) = none)
    (hwanted : (c.sched.items.flatMap (·.fills)).find?
      (fun w => w.1 == slot && !c.keys.fills.any (fun f => f.slot == slot && f.generation == w.2)) = some (slot, g))
    (hports : c.keys.filling < 2) :
    ∃ f ∈ (c.fillStart slot).keys.fills, f.slot = slot ∧ f.generation = g ∧ f.startedAt = c.now
      ∧ f.waitsForWay = !c.setOpen slot g := by
  simp only [Channel.fillStart, hnew, hwanted, if_neg (Nat.not_le.2 hports)]
  exact ⟨_, List.mem_append_right _ (List.mem_singleton_self _), rfl, rfl, rfl, rfl⟩

theorem Channel.fills_of_burden {c d : Channel} (h : d.burden = c.burden) : d.keys.fills = c.keys.fills := congrArg (·.2) h

/-- A fill that has run ends, unless it waits for a way; the items that go on with it start no fill. -/
theorem Channel.fillDone_fills {c : Channel} (ch : Chan) {slot : Nat} {f : FillJob}
    (hf : c.keys.fills.find? (fun f => f.slot == slot && !f.waitsForWay && decide (f.startedAt + 1500 ≤ c.now)) = some f)
    (hroom : ∀ h t m chk, c.keys.load slot f.generation = .loaded h t m chk → c.setOpen slot f.generation = true) :
    (c.fillDone ch slot).keys.fills = c.keys.fills.filter (fun y => !(y == f)) := by
  unfold Channel.fillDone
  split
  next hnone => cases hf.symm.trans hnone
  next f' hf' =>
    obtain rfl : f = f' := Option.some.inj (hf.symm.trans hf')
    extract_lets out full k c1 waits c2
    have hfull : full = false := by
      simp only [full, out]
      split
      next hload => simp [hroom _ _ _ _ hload]
      next => rfl
    have h2 : c2.burden = c1.burden := by
      simp only [c2, out]
      split
      next => exact Channel.placeKey_burden ..
      next => (repeat' split) <;> simp [Channel.noteFill_burden]
    rw [hfull, if_neg Bool.false_ne_true]
    refine Channel.fills_of_burden (c := c1) ((Channel.burden_foldl (fun c x => ?_) waits c2).trans h2)
    split
    next =>
      extract_lets y
      split
      · exact c.filled_burden y
      · exact c.setItem_burden y
    next => rfl

/-! ### Exhaustion (R188) -/

/-- The first report of a generation fixes its target, sent to both channels. -/
theorem State.exhaustReport_first {s : State} {ch : Chan} {slot : Nat} {g : BitVec 16}
    (hreport : (s.chan ch).keys.reported.find? (fun r => r.1 == slot) = some (slot, g))
    (hfirst : s.port.exhaust.any (fun t => t.slot == slot && t.generation == g) = false) :
    (s.exhaustReport ch slot).port.exhaust = s.port.exhaust ++ [{ slot := slot, generation := g, x := s.port.tide + 2 }]
    ∧ ∀ d, ((s.exhaustReport ch slot).chan d).keys.exhaustAt = (s.chan d).keys.exhaustAt ++ [(slot, g, s.port.tide + 2)] := by
  simp only [State.exhaustReport, hreport, State.upd_port, hfirst, Bool.false_eq_true, if_false]
  refine ⟨by simp only [State.upd_port, State.updPort_port], fun d => ?_⟩
  rw [State.upd_both_chan, State.updPort_chan]
  cases d <;> cases ch <;> rfl

/-- A record that the ring has room for is its newest. -/
theorem mem_trimRing {room : Nat} {d : Delta} (l : List Delta) (h : 1 + d.image.units ≤ room) : d ∈ trimRing room (d :: l) := by
  rw [trimRing, if_pos h]
  exact List.mem_cons_self

/-- The target of a generation of `slot` has come, and its record bears no mark yet. -/
def Channel.markDue (c : Channel) (slot : Nat) (t : Nat × BitVec 16 × Nat) : Bool :=
  t.1 == slot && decide (t.2.2 ≤ c.tide) && (match c.keys.load slot t.2.1 with | .loaded _ y _ _ => !y.exhausted | _ => false)

theorem Channel.exhaustMark_of_due {c : Channel} (n : Nat) {slot x : Nat} {g : BitVec 16}
    (hdue : c.keys.exhaustAt.find? (c.markDue slot) = some (slot, g, x)) :
    ∃ k, c.exhaustMark n slot = ({ c with keys := k } : Channel).journalWrite n slot (.exhaustion slot g x) := by
  unfold Channel.exhaustMark
  split
  next hnone => cases hdue.symm.trans hnone
  next hsome =>
    cases hdue.symm.trans hsome
    exact ⟨_, rfl⟩

/-- The mark of an exhausted generation is journaled at its target. -/
theorem Channel.exhaustMark_journal {c : Channel} (n : Nat) {slot x : Nat} {g : BitVec 16}
    (hdue : c.keys.exhaustAt.find? (c.markDue slot) = some (slot, g, x)) :
    (c.exhaustMark n slot).journal.nextJseq = c.journal.nextJseq + 1
    ∧ ∃ d ∈ (c.exhaustMark n slot).journal.ring, d.jseq = c.journal.nextJseq ∧ d.image = .exhaustion slot g x := by
  obtain ⟨k, hk⟩ := Channel.exhaustMark_of_due n hdue
  rw [hk]
  exact ⟨rfl, _, List.mem_reverse.2 (mem_trimRing _ (by decide : 1 + 1 ≤ 33554432)), rfl, rfl⟩

/-- Settles O32, event by event: the completion of a wait that ends outlives the lists moving on, and the items that go on as a
fill ends start none. -/
theorem waitsEndOrGoOn : Obligations.WaitsEndOrGoOn := by
  unfold Obligations.WaitsEndOrGoOn
  refine ⟨?_, ?_, ?_, ?_, ?_, ?_, ?_, ?_, ?_, ?_⟩
  · intro s ch id e x hx hlimit hdue hfirst hhalved hwaits
    refine .intro rfl ?_
    rw [State.finish_chan, State.waitExpiry_halved hx hlimit hdue hfirst hwaits hhalved, State.chan_setChan]
    exact (s.chan ch).timeOut_produced x
  · intro s ch id e x hx hlimit hdue hfirst htwin hwaits
    refine .intro rfl ?_
    rw [State.finish_chan, State.finish_port_waits, State.waitExpiry_twin hx hlimit hdue hfirst hwaits htwin,
      State.chan_setChan, State.setChan_port, State.updPort_port]
    have hset : ((s.chan ch).holdExpiry x).item? id = some { x with expiryPending := true } :=
      Channel.setItem_item?_same (Channel.mem_ids hx) (Channel.item?_some hx).2
    exact ⟨⟨_, (Channel.item?_some hset).1, rfl, rfl⟩, s.port.waitReport_votes ch x.pkt.intakeNo e true⟩
  · intro s n
    exact .intro rfl fun v hv hn => PortDie.waitVerdict_fixes hv hn
  · intro s n v hv hexpire hdue
    refine .intro rfl ?_
    rw [State.finish_port_waits, State.applyWait_expire hv hexpire hdue]
    refine ⟨fun w hw => by simpa using (List.mem_filter.1 hw).2, fun ch x hx => ?_⟩
    rw [State.finish_chan, State.upd_both_chan, State.updPort_chan, Channel.applyVerdict_expire hx]
    exact (s.chan ch).timeOut_produced x
  · intro s ch id x hx hphase hfree hheldup hstart hheld
    refine .intro rfl ?_
    rw [State.finish_chan, State.chan_upd]
    obtain ⟨y, hy, htide⟩ := Channel.usersDrained_item? hx hphase hfree hheldup hstart (Sched.not_mem_held hheld)
    obtain ⟨hmem, hid⟩ := Channel.item?_some hy
    exact ⟨y, hmem, hid, htide⟩
  · intro s ch id x hx hphase hfree hheld
    refine .intro rfl ?_
    rw [State.finish_chan, State.chan_upd]
    obtain ⟨hmem, hid⟩ := Channel.item?_some (Channel.shadowAcquire_item? hx hphase hfree (Sched.not_mem_held hheld))
    exact ⟨_, hmem, hid, rfl, rfl⟩
  · intro s ch slot g hnew hwanted hports
    refine .intro rfl ?_
    rw [State.chan_upd]
    exact Channel.fillStart_fills hnew hwanted hports
  · intro s ch slot f hf hroom
    refine .intro rfl ?_
    rw [State.finish_chan, State.chan_upd]
    have hopen : ∀ h t m chk, (s.chan ch).keys.load slot.toNat f.generation = .loaded h t m chk →
        (s.chan ch).setOpen slot.toNat f.generation = true := by
      intro h t m chk hload
      simpa [hload] using hroom
    show f ∉ ((s.chan ch).fillDone ch slot.toNat).keys.fills
    rw [Channel.fillDone_fills ch hf hopen]
    simp
  · intro s ch slot g hreport hfirst
    exact .intro rfl (State.exhaustReport_first hreport hfirst)
  · intro s ch slot g n hdue
    refine .intro rfl ?_
    rw [State.chan_upd]
    exact Channel.exhaustMark_journal s.port.lastIntake hdue

end Sys2Proof.Machine
end

section
/-! GCM and counter mode under AES keys of every length (O56): a key of `nk` words has `nk + 7` whole round keys, so each block
enciphers to a whole block (R185, R191). -/

namespace Sys2Proof

/-! ### The block under every key length -/

/-- The round keys of a key of `nk` words: `nk + 7` of 16 bytes. -/
theorem aesRoundKeys_of_words {key : Bytes} {nk : Nat} (hpos : 0 < nk) (hkey : key.length = 4 * nk) :
    (aesRoundKeys key).length = nk + 7 ∧ ∀ w ∈ aesRoundKeys key, w.length = 16 := by
  obtain ⟨hcount, hword⟩ := chunks_exact 4 (by decide) nk key hkey
  obtain ⟨hwords, hfour⟩ := aesExpand_words nk (4 * (nk + 7) - nk) nk (chunks 4 key).reverse hpos (by simp [hcount])
    (by simpa using hword)
  have hbytes : (aesExpand nk (4 * (nk + 7) - nk) nk (chunks 4 key).reverse).reverse.flatten.length = 16 * (nk + 7) := by
    rw [List.length_flatten, List.map_reverse, List.sum_reverse, List.map_congr_left hfour, List.map_const', List.sum_replicate,
      hwords, List.length_reverse, hcount, smul_eq_mul]
    omega
  rw [aesRoundKeys, hkey, Nat.mul_div_cancel_left nk (by decide)]
  exact chunks_exact 16 (by decide) (nk + 7) _ hbytes

/-- AES gives a whole block wherever its round keys are whole: the last of them ends the cipher. -/
theorem aesEnc_length_of_roundKeys {key : Bytes} (hmany : 2 ≤ (aesRoundKeys key).length)
    (hwhole : ∀ w ∈ aesRoundKeys key, w.length = 16) (blk : Bytes) : (aesEnc key blk).length = 16 := by
  unfold aesEnc
  split
  next hnone => simp [hnone] at hmany
  next k0 ks hkeys =>
    rw [hkeys] at hmany hwhole
    have hsome : ks ≠ [] := by rintro rfl; simp at hmany
    have hlast : (ks.getLast hsome).length = 16 := hwhole _ (List.mem_cons_of_mem _ (List.getLast_mem hsome))
    rw [List.getLastD_eq_getLast?, List.getLast?_eq_some_getLast hsome, Option.getD_some, xorB_length, hlast]
    simp [aesShift]

/-- A key of 16, 24 or 32 bytes enciphers to whole blocks. -/
theorem aesCipher_enc_length {key : Bytes} (hkey : key.length = 16 ∨ key.length = 24 ∨ key.length = 32) (blk : Bytes) :
    ((aesCipher key).enc blk).length = (aesCipher key).size := by
  have hwords : ∃ nk, 0 < nk ∧ key.length = 4 * nk := by
    rcases hkey with h | h | h
    · exact ⟨4, by decide, h⟩
    · exact ⟨6, by decide, h⟩
    · exact ⟨8, by decide, h⟩
  obtain ⟨nk, hpos, hlen⟩ := hwords
  obtain ⟨hcount, hwhole⟩ := aesRoundKeys_of_words hpos hlen
  exact aesEnc_length_of_roundKeys (by omega) hwhole blk

/-! ### Counter mode and GCM over a cipher of whole blocks -/

/-- Counter mode keeps the length. -/
theorem ctrRun_length {c : BlockCipher} (hc : ∀ x, (c.enc x).length = c.size) (hpos : 0 < c.size)
    (nxt : Bytes → Nat → Bytes) (b d : Bytes) : (ctrRun c nxt b d).length = d.length := by
  have hfit : d.length ≤ c.size * (chunks c.size d).length := length_le_chunksAux _ _ (Nat.le_mul_of_pos_left _ hpos)
  rw [ctrRun_eq_xorB hc hpos, xorB_length, keyStream_length hc, Nat.min_eq_left hfit]

/-- GCM decryption is counter mode where the tag is the one that encryption gave, and nothing where it is not (R191). -/
theorem gcmDec_gcmEnc_eq (key iv aad pt tag : Bytes) :
    gcmDec key iv aad (gcmEnc key iv aad pt).1 tag
      = if (gcmEnc key iv aad pt).2 = tag then
          some (ctrRun (aesCipher key) ctr32 (ctr32 (gcmJ0 iv) 1) (gcmEnc key iv aad pt).1)
        else none := rfl

/-- Settles O56: both modes are the exclusive-or with a key stream of whole blocks, which undoes itself. -/
theorem counterModesInvert : Obligations.CounterModesInvert := by
  unfold Obligations.CounterModesInvert
  intro key iv aad pt tag hkey _
  have hblock := aesCipher_enc_length hkey
  have hpos : 0 < (aesCipher key).size := Nat.succ_pos 15
  refine ⟨?_, ctrRun_length hblock hpos .., fun htag => ?_, fun b => ctrRun_ctrRun_of_cipher hblock hpos ..⟩
  · rw [gcmDec_gcmEnc_eq, if_pos rfl]
    exact congrArg some (ctrRun_ctrRun_of_cipher hblock hpos ..)
  · rw [gcmDec_gcmEnc_eq, if_neg (Ne.symm htag)]

end Sys2Proof
end

section
/-! O39: ready, the cap of tide J − 1, the join and its handover, the checkpoint timer, and planned retirement (R109, R325, R329,
R330). -/

namespace Sys2Proof.Machine

theorem State.chan_upd_of_peer (s : State) (x : Chan) (f : Channel → Channel) : (s.upd x.peer f).chan x = s.chan x := by
  cases x <;> rfl

/-! ### What a handover gives (R329) -/

/-- What a handover gives at once: the end of the wait for it, and the sequence numbers delivered. -/
def Channel.handed (c : Channel) : Bool × SMap Nat := (c.refill.awaitHandover, c.sched.delivered)

theorem Channel.handed_foldl {α : Type} {f : Channel → α → Channel} (h : ∀ c x, (f c x).handed = c.handed) (l : List α)
    (c : Channel) : (l.foldl f c).handed = c.handed := by
  induction l generalizing c with
  | nil => rfl
  | cons x l ih => rw [List.foldl_cons, ih, h]

@[simp] theorem Channel.setItem_handed (c : Channel) (x : Item) : (c.setItem x).handed = c.handed := rfl

@[simp] theorem Channel.bindSlot_handed (c : Channel) (x : Item) (slot : Nat) : (c.bindSlot x slot).1.handed = c.handed := by
  obtain ⟨k, j, b, h, -⟩ := c.bindSlot_eq x slot
  rw [h]
  rfl

@[simp] theorem Channel.bindAll_handed (c : Channel) (id : Nat) : (c.bindAll id).handed = c.handed := by
  unfold Channel.bindAll
  split
  · rfl
  · refine Channel.handed_foldl (fun c k => ?_) _ c
    split
    · split
      · rfl
      · simp
    · rfl

@[simp] theorem Channel.settle_handed (c : Channel) : c.settle.handed = c.handed :=
  (Channel.handed_foldl (fun c _ => c.bindAll_handed _) _ c.popReaders).trans rfl

@[simp] theorem Channel.dropPlaceholders_handed (c : Channel) (gone : Nat × FlowKind × Nat → Bool) :
    (c.dropPlaceholders gone).handed = c.handed :=
  (Channel.settle_handed _).trans ((Channel.handed_foldl (fun _ _ => by rfl) _ _).trans rfl)

/-- A delayed command of the handover joins its flows and the item table. -/
theorem Channel.takeDelayed_handed (c : Channel) (ids : List Nat) (base : Nat) (x : Item) :
    (c.takeDelayed ids base x).handed = c.handed := by
  have hjoin (id : Nat) (l : List Place) : ((c.sched.join id false l).getD c.sched).delivered = c.sched.delivered := by
    cases h : c.sched.join id false l with
    | none => rfl
    | some d => exact congrArg (·.2.2) (Sched.join_inflow h)
  exact congrArg (Prod.mk c.refill.awaitHandover) (hjoin _ _)

theorem Channel.takeHandover_handed (c : Channel) (p : PortDie) (h : Handover) :
    (c.takeHandover p h).handed = (false, h.delivered) :=
  (Channel.handed_foldl (fun c _ => c.takeDelayed_handed ..) _ _).trans rfl

/-- The reports of ended writers keep what a handover gave, whether or not they end the join. -/
theorem State.endWriters_handed {s : State} {x : Chan} {m : SMap Nat} (h : (s.chan x).handed = (false, m)) :
    ((s.endWriters x).chan x).handed = (false, m) := by
  unfold State.endWriters
  extract_lets d alive late t u
  have ht : (t.chan x).handed = (false, m) := by
    rw [State.chan_upd, Channel.dropPlaceholders_handed, h]
  split
  · exact ht
  · rw [State.chan_upd_of_peer, State.chan_upd]
    exact congrArg (Prod.mk false) (congrArg Prod.snd ht)

/-- A formed handover reaches the channel that awaits it. -/
theorem State.handover_of_sent {s : State} {x : Chan} {h : Handover} (hawait : (s.chan x).refill.awaitHandover = true)
    (hsent : (s.chan x.peer).formHandover.refill.sent = some h) :
    s.handover x = (((s.upd x.peer (·.formHandover)).sluiceMsg x.peer .handover).upd x
      (fun c => c.takeHandover s.port h)).endWriters x := by
  simp [State.handover, hsent, State.chan_upd_of_peer, hawait]

theorem State.handover_handed {s : State} {x : Chan} {h : Handover} (hawait : (s.chan x).refill.awaitHandover = true)
    (hsent : (s.chan x.peer).formHandover.refill.sent = some h) : ((s.handover x).chan x).handed = (false, h.delivered) := by
  rw [State.handover_of_sent hawait hsent]
  refine State.endWriters_handed ?_
  rw [State.chan_upd, Channel.takeHandover_handed]

/-! ### Ready, and the cap of tide J − 1 (R109, R329) -/

@[simp] theorem State.shareEbb_port (s : State) : s.shareEbb.port = s.port := by
  unfold State.shareEbb
  split <;> rfl

/-- A lag of 0 at a boundary makes the channel ready and fixes J. -/
theorem State.ready_assay {s : State} {x : Chan} (hlag : s.toSend x = []) (hst : s.port.assay.st x = .refilling)
    (hboundary : s.port.offset = 0) :
    (s.ready x).port.assay = { (s.port.assay.setSt x .ready) with joinAt := some (s.port.tide + 2) } := by
  simp [State.ready, hlag, hst, hboundary]

/-- A channel caps its twin bookings. -/
def Channel.capTwins (c : Channel) : Channel := { c with skim := { c.skim with joinCap := true } }

/-- In tide J − 1 the survivor is the channel that caps, in every state with the same port die. -/
theorem State.capsIn_of_due {s t : State} {x : Chan} (hx : s.refilling = some x)
    (hj : s.port.assay.joinAt = some (s.port.tide + 1)) (ht : t.port = s.port) (ch : Chan) : t.capsIn ch = (x == ch.peer) := by
  have hrefilling : t.refilling = some x := by rw [State.refilling, ht]; exact hx
  simp [State.capsIn, hrefilling, ht, hj]

/-- A channel that is the survivor in tide J − 1 caps its twin bookings. -/
def State.capIn (s : State) (ch : Chan) : State := if s.capsIn ch then s.upd ch Channel.capTwins else s

theorem State.joinCapTide_eq (s : State) : s.joinCapTide = (s.capIn .a).capIn .b := rfl

/-- In tide J − 1 the survivor alone takes the cap. -/
theorem State.joinCapTide_of_due {s : State} {x : Chan} (hx : s.refilling = some x)
    (hj : s.port.assay.joinAt = some (s.port.tide + 1)) : s.joinCapTide = s.upd x.peer Channel.capTwins := by
  have hcaps {t : State} (ht : t.port = s.port) (ch : Chan) := State.capsIn_of_due hx hj ht ch
  rw [State.joinCapTide_eq]
  cases x
  · have ha : s.capIn .a = s := if_neg (by rw [hcaps rfl]; decide)
    have hb : s.capIn .b = s.upd .b Channel.capTwins := if_pos (hcaps rfl .b)
    exact (congrArg (State.capIn · .b) ha).trans hb
  · have ha : s.capIn .a = s.upd .a Channel.capTwins := if_pos (hcaps rfl .a)
    have hb : (s.upd .a Channel.capTwins).capIn .b = s.upd .a Channel.capTwins :=
      if_neg (by rw [hcaps (State.upd_port ..)]; decide)
    exact (congrArg (State.capIn · .b) ha).trans hb

/-! ### The join (R329) -/

@[simp] theorem State.sluiceMsg_port (s : State) (ch : Chan) (m : SluiceMsg) : (s.sluiceMsg ch m).port = s.port := by
  simp [State.sluiceMsg]

theorem State.sendAll_port (s : State) (x : Chan) : (s.sendAll x).port = s.port :=
  List.foldlRecOn (motive := fun t : State => t.port = s.port) _ _ rfl (fun t ht d _ => by simpa using ht)

theorem PortDie.record_assay (p : PortDie) (code v : Nat) : (p.record code v).assay = p.assay :=
  (congrArg PortDie.assay (p.record_control code v) :)

/-- The assay unit shows the channel joined at J, and its refill over. -/
theorem State.joinNow_assay (s : State) (x : Chan) (j : Nat) :
    (s.joinNow x j).port.assay = { (s.port.assay.joins x j) with
      joinAt := none, joinTide := BitVec.ofNat 32 j, refillActive := false, runA := 0#5, runB := 0#5 } := by
  unfold State.joinNow
  extract_lets s1 last src writers kept fixed s2 s3
  have hport : s3.port = s.port := by
    simp only [s3, s2, s1, State.upd_port, State.sluiceMsg_port, State.sendAll_port]
  rw [State.updPort_port, hport]
  exact PortDie.record_assay ..

/-- The channel that joined serves, and awaits its handover. -/
theorem State.joinNow_joiner (s : State) (x : Chan) (j : Nat) :
    ((s.joinNow x j).chan x).refill.awaitHandover = true ∧ ((s.joinNow x j).chan x).start.step = .service := by
  unfold State.joinNow
  extract_lets s1 last src writers kept fixed s2 s3
  rw [State.updPort_chan, State.chan_upd_of_peer, State.chan_upd]
  exact ⟨rfl, rfl⟩

/-- The survivor's cap ends with the join. -/
theorem State.joinNow_survivor (s : State) (x : Chan) (j : Nat) : ((s.joinNow x j).chan x.peer).skim.joinCap = false := by
  unfold State.joinNow
  extract_lets s1 last src writers kept fixed s2 s3
  rw [State.updPort_chan, State.chan_upd]

theorem State.joinNow_joined (s : State) (x : Chan) (j : Nat) : (s.joinNow x j).port.joined x = true := by
  rw [PortDie.joined, State.joinNow_assay]
  cases x <;> rfl

/-- From J on, the ready channel joins. -/
theorem State.joinTide_of_due {s : State} {x : Chan} {j : Nat} (hx : s.refilling = some x) (hj : s.port.assay.joinAt = some j)
    (hdue : j ≤ s.port.tide) (hpeer : s.port.joined x.peer = true) (hup : s.sluiceUp = true)
    (hrng : (s.chan x).rng.state = .ready) : s.joinTide = s.joinNow x j := by
  simp [State.joinTide, hx, hj, Nat.not_lt.2 hdue, hpeer, hup, hrng]

/-! ### Checkpoints (R325) -/

/-- A checkpoint just written is the newer one that opens: it is sealed under the key that checks it. -/
theorem Channel.writeCheckpoint_newerCheck (c : Channel) (low : Nat) :
    ∃ k, (c.writeCheckpoint low).newerCheck = some k ∧ k.lowWater = low ∧ k.tide = c.tide ∧ k.nextJseq = c.journal.nextJseq := by
  unfold Channel.writeCheckpoint
  extract_lets j from_ k sealed
  have hopens (n : Journal) : ({ c with journal := n } : Channel).checkOpens sealed = true := beq_self_eq_true _
  refine ⟨sealed, ?_, rfl, rfl, rfl⟩
  unfold Channel.newerCheck
  split <;> simp [hopens]

/-- The timer writes a checkpoint once the last is 4,096 tides old. -/
theorem Channel.checkpointDue_of_due {c : Channel} (hservice : c.start.step = .service)
    (hdue : max ((c.journal.checkA.map (·.tide)).getD 0) ((c.journal.checkB.map (·.tide)).getD 0) + 4096 ≤ c.tide) :
    c.checkpointDue = c.writeCheckpoint c.journal.lowWater := by
  simp [Channel.checkpointDue, hservice, hdue]

/-! ### Planned retirement (R330) -/

/-- A drained channel, with its last checkpoint, starts from its other image. -/
def Channel.drained (c : Channel) : Channel :=
  (c.writeCheckpoint c.journal.lowWater).mapFlash (fun f => { f with active := 1 - f.active })

theorem Channel.drained_active (c : Channel) : c.drained.flash.active = 1 - c.flash.active := rfl

/-- The drain ends with the channel's work, or at its limit of 500,000 tides. -/
theorem State.drainEnd_of_done {s : State} {x : Chan} {p : Nat} (hplan : s.port.assay.planned = some (x, p))
    (hst : s.port.assay.st x = .draining) (hdone : (s.chan x).empty = true ∨ p + 500000 ≤ s.port.tide) :
    s.drainEnd = (s.upd x Channel.drained).retire x 6 := by
  have hend : ((s.chan x).empty || decide (p + 500000 ≤ s.port.tide)) = true := by simpa using hdone
  simp only [State.drainEnd, hplan, hst, hend]
  rfl

theorem State.probeOver_flash (s : State) (ch : Chan) : (s.probeOver.chan ch).flash = (s.chan ch).flash := by
  simp only [State.probeOver]
  split
  · rfl
  · cases ch <;> rfl

/-- A retired channel is reset, from the image that its flash names. -/
theorem State.retire_of_peer_chan {s : State} {x : Chan} (cause : Nat) (hx : s.port.serving x = true)
    (hpeer : s.port.joined x.peer = true) :
    ((s.retire x cause).chan x).resetOrder = true ∧ ((s.retire x cause).chan x).flash = (s.chan x).flash := by
  obtain ⟨y, m, u, hway, -, -, ha, hb⟩ := s.retire_of_peer cause hx hpeer
  have hu : u.chan x = s.probeOver.chan x := by
    cases x
    · exact ha
    · exact hb
  rw [hway.chan, State.chan_upd, hu]
  exact ⟨rfl, s.probeOver_flash x⟩

/-- At P the named channel alone begins to drain. -/
theorem State.plannedStart_of_due {s : State} {x : Chan} {p : Nat} (hplan : s.port.assay.planned = some (x, p))
    (hdue : p ≤ s.port.tide) (hjoined : s.port.joined x = true) (hpeer : s.port.joined x.peer = true) :
    s.plannedStart.port.assay.st x = .draining ∧ (s.plannedStart.chan x).draining = true
    ∧ s.plannedStart.chan x.peer = s.chan x.peer := by
  simp only [State.plannedStart, hplan, Nat.not_lt.2 hdue, hjoined, hpeer]
  cases x <;> exact ⟨rfl, rfl, rfl⟩

/-! ### The commands -/

/-- Settles O39, command by command: where its conditions hold each has one meaning, which the lemmas above give. -/
theorem joinsAndPlannedRetirement : Obligations.JoinsAndPlannedRetirement := by
  unfold Obligations.JoinsAndPlannedRetirement
  refine ⟨?_, ?_, ?_, ?_, ?_, ?_, ?_⟩
  · intro s x hx hup hstep hlag hst hboundary
    refine .intro (congrArg (fun t => Host.Outcome.next (s.finish t)) (State.refillAt_eq hx hup (by simp [hstep]) _)) ?_
    rw [State.finish_port_assay, State.ready_assay hlag hst hboundary]
    exact ⟨(s.port.assay.setSt_st x .ready), rfl⟩
  · rintro s x _ hx hj rfl
    refine .intro rfl ?_
    rw [State.joinCapTide_of_due hx hj, State.chan_upd, State.chan_upd_of_peer]
    exact ⟨rfl, rfl⟩
  · intro s x j hx hj hdue hpeer hup hrng
    refine .intro rfl ?_
    obtain ⟨hawait, hservice⟩ := s.joinNow_joiner x j
    have hjoined := s.joinNow_joined x j
    rw [State.joinTide_of_due hx hj hdue hpeer hup hrng, PortDie.joined_congr (State.finish_port_assay ..),
      State.finish_port_assay, State.finish_chan, State.finish_chan, State.joinNow_assay]
    exact ⟨hjoined, rfl, rfl, rfl, hawait, hservice, s.joinNow_survivor x j⟩
  · intro s x h hjoin hup hawait hsent
    have hexec : exec .joinHandoverReceived s = .next (s.handover x) := by
      simp [exec, execJoinHandoverReceived, hjoin, hup]
    exact .intro hexec (Prod.mk.inj (State.handover_handed hawait hsent))
  · intro s x p hplan hdue ha hb
    have hjoined : ∀ ch, s.port.joined ch = true
      | .a => ha
      | .b => hb
    refine .intro rfl ?_
    rw [State.finish_port_assay, State.finish_chan, State.finish_chan]
    obtain ⟨hst, hdraining, hpeer⟩ := State.plannedStart_of_due hplan hdue (hjoined x) (hjoined x.peer)
    exact ⟨hst, hdraining, (congrArg Channel.draining hpeer :)⟩
  · intro s x p hplan hst hpeer hdone
    have hserving : (s.upd x Channel.drained).port.serving x = true := by simp [PortDie.serving, hst]
    have hpeer' : (s.upd x Channel.drained).port.joined x.peer = true := by simpa using hpeer
    refine .intro rfl ?_
    rw [State.finish_port_assay, State.finish_chan, State.drainEnd_of_done hplan hst hdone]
    obtain ⟨hretired, -⟩ := State.retire_of_peer_states 6 hserving hpeer'
    obtain ⟨horder, hflash⟩ := State.retire_of_peer_chan 6 hserving hpeer'
    refine ⟨hretired, horder, (congrArg Flash.active hflash).trans ?_⟩
    rw [State.chan_upd, Channel.drained_active]
  · intro s x hservice hdue
    refine .intro rfl ?_
    rw [State.chan_upd, Channel.checkpointDue_of_due hservice hdue]
    exact Channel.writeCheckpoint_newerCheck ..

end Sys2Proof.Machine
end

section
/-! PIN fields (O55): packed nibbles read back, so the nibbles of a built field are its control nibble, N, the digits and the fill
of its format, which is what the field check asks for (R126, R127). -/

namespace Sys2Proof

/-! ### Packed nibbles -/

theorem nibbles_cons (b : Byte) (bs : Bytes) : nibbles (b :: bs) = b.toNat / 16 :: b.toNat % 16 :: nibbles bs := rfl

theorem nibbles_append (a b : Bytes) : nibbles (a ++ b) = nibbles a ++ nibbles b := List.flatMap_append

@[simp] theorem packNibbles_length (ns : List Nat) : (packNibbles ns).length = (ns.length + 1) / 2 := by
  induction ns using packNibbles.induct with
  | case1 | case2 => simp [packNibbles]
  | case3 a b ns ih =>
    simp only [packNibbles, List.length_cons, ih]
    omega

/-- An even number of nibbles, packed, reads back. -/
theorem nibbles_packNibbles {ns : List Nat} (heven : ns.length % 2 = 0) (hlt : ∀ d ∈ ns, d < 16) :
    nibbles (packNibbles ns) = ns := by
  induction ns using packNibbles.induct with
  | case1 => rfl
  | case2 a => simp at heven
  | case3 a b ns ih =>
    simp only [List.forall_mem_cons] at hlt
    obtain ⟨ha, hb, hns⟩ := hlt
    have hbyte : (byte (16 * (a % 16) + b % 16)).toNat = 16 * a + b := by
      rw [Nat.mod_eq_of_lt ha, Nat.mod_eq_of_lt hb]
      exact Nat.mod_eq_of_lt (by omega)
    have heven' : ns.length % 2 = 0 := (Nat.add_mod_right ns.length 2).symm.trans heven
    rw [packNibbles, nibbles_cons, hbyte, ih heven' hns]
    congr 2 <;> omega

/-! ### A field by its nibbles (R126) -/

section Field
variable {fmt : Nat} {digits rest tail : List Nat} {field : Bytes}
  (hfield : nibbles field = fmt :: digits.length :: (digits ++ (rest ++ tail)))
include hfield

theorem pinLen_of_nibbles : pinLen field = digits.length := by simp [pinLen, hfield]

theorem pinDigits_of_nibbles : pinDigits field = digits := by simp [pinDigits, pinLen_of_nibbles hfield, hfield]

theorem pinFieldOk_of_nibbles (hmin : 4 ≤ digits.length) (hmax : digits.length ≤ 12) (hdec : ∀ d ∈ digits, d < 10)
    (hrest : rest.length = 14 - digits.length) (h0 : fmt = 0 → ∀ d ∈ rest, d = 15) (h3 : fmt = 3 → ∀ d ∈ rest, 10 ≤ d)
    (h4 : fmt = 4 → ∀ d ∈ rest, d = 10) : pinFieldOk fmt field = true := by
  have hfill : ((nibbles field).drop (2 + digits.length)).take (14 - digits.length) = rest := by
    rw [hfield, Nat.add_comm 2, List.drop_succ_cons, List.drop_succ_cons, List.drop_left, List.take_left' hrest]
  have hcontrol : (nibbles field).getD 0 0 = fmt := by simp [hfield]
  simp only [pinFieldOk, pinLen_of_nibbles hfield, pinDigits_of_nibbles hfield, hfill, hcontrol, hmin, hmax, Bool.and_eq_true,
    List.all_eq_true, decide_true, beq_self_eq_true, true_and]
  refine ⟨fun d hd => decide_eq_true (hdec d hd), ?_⟩
  split
  · simpa using h0 rfl
  · simpa using h3 rfl
  · simpa using h4 rfl
  · rfl

end Field

/-! ### The built field (R127) -/

/-- Fill nibble `i` of a format. -/
def pinFillNibble (fmt : Nat) (fill : Bytes) (i : Nat) : Nat :=
  match fmt with
  | 0 => 15
  | 1 => u8 fill i % 16
  | 3 => 10 + u8 fill i % 6
  | _ => 10

theorem pinFillNibble_lt (fmt : Nat) (fill : Bytes) (i : Nat) : pinFillNibble fmt fill i < 16 := by
  unfold pinFillNibble
  split <;> omega

/-- The nibbles that a built field packs. -/
def pinNibbles (fmt : Nat) (digits : List Nat) (fill : Bytes) : List Nat :=
  fmt :: digits.length :: (digits ++ (List.range (14 - digits.length)).map (pinFillNibble fmt fill))

/-- Format 4 alone puts the random half behind the packed nibbles. -/
theorem pinBuild_eq {fmt : Nat} (hfmt : fmt ∈ [0, 1, 3, 4]) (digits : List Nat) (fill : Bytes) :
    pinBuild fmt digits fill = packNibbles (pinNibbles fmt digits fill) ++ if fmt = 4 then slice fill 0 8 else [] := by
  simp only [List.mem_cons, List.not_mem_nil, or_false] at hfmt
  obtain rfl | rfl | rfl | rfl := hfmt
  · exact (List.append_nil _).symm
  · exact (List.append_nil _).symm
  · exact (List.append_nil _).symm
  · rfl

theorem pinNibbles_length {digits : List Nat} (hmax : digits.length ≤ 12) (fmt : Nat) (fill : Bytes) :
    (pinNibbles fmt digits fill).length = 16 := by
  simp only [pinNibbles, List.length_cons, List.length_append, List.length_map, List.length_range]
  omega

theorem pinNibbles_lt {fmt : Nat} {digits : List Nat} (hfmt : fmt < 16) (hmax : digits.length ≤ 12)
    (hdec : ∀ d ∈ digits, d < 10) (fill : Bytes) : ∀ d ∈ pinNibbles fmt digits fill, d < 16 := by
  simp only [pinNibbles, List.forall_mem_cons, List.forall_mem_append, List.forall_mem_map]
  exact ⟨hfmt, by omega, fun d hd => (hdec d hd).trans (by decide), fun i _ => pinFillNibble_lt fmt fill i⟩

/-- A built field reads as its control nibble, N, the digits and the fill, then the random half of format 4. -/
theorem nibbles_pinBuild {fmt : Nat} {digits : List Nat} (hfmt : fmt ∈ [0, 1, 3, 4]) (hmax : digits.length ≤ 12)
    (hdec : ∀ d ∈ digits, d < 10) (fill : Bytes) :
    nibbles (pinBuild fmt digits fill) = fmt :: digits.length :: (digits ++
      ((List.range (14 - digits.length)).map (pinFillNibble fmt fill) ++ nibbles (if fmt = 4 then slice fill 0 8 else []))) := by
  have hlt : fmt < 16 := by
    simp only [List.mem_cons, List.not_mem_nil, or_false] at hfmt
    omega
  rw [pinBuild_eq hfmt, nibbles_append, nibbles_packNibbles (by rw [pinNibbles_length hmax]) (pinNibbles_lt hlt hmax hdec fill),
    pinNibbles, List.cons_append, List.cons_append, List.append_assoc]

theorem pinBuild_length {fmt : Nat} {digits : List Nat} (hfmt : fmt ∈ [0, 1, 3, 4]) (hmax : digits.length ≤ 12) (fill : Bytes) :
    (pinBuild fmt digits fill).length = if fmt = 4 then 16 else 8 := by
  rw [pinBuild_eq hfmt, List.length_append, packNibbles_length, pinNibbles_length hmax]
  split
  · rw [slice_length]
  · rfl

/-- Settles O55: the nibbles of the built field are those the field check asks for, and the digits stand among them. -/
theorem pinFieldsReadBack : Obligations.PinFieldsReadBack := by
  unfold Obligations.PinFieldsReadBack
  intro fmt digits fill hfmt hmin hmax hdec
  have hfield := nibbles_pinBuild hfmt hmax hdec fill
  refine ⟨pinBuild_length hfmt hmax fill, ?_, pinDigits_of_nibbles hfield⟩
  refine pinFieldOk_of_nibbles hfield hmin hmax hdec (by simp) ?_ ?_ ?_
  · rintro rfl
    exact List.forall_mem_map.2 fun _ _ => rfl
  · rintro rfl
    exact List.forall_mem_map.2 fun i _ => Nat.le_add_right 10 (u8 fill i % 6)
  · rintro rfl
    exact List.forall_mem_map.2 fun _ _ => rfl

end Sys2Proof
end

section
/-! FF1 tokens (O57): a round of encryption replaces one half of the digits by as many digits, modulo their range, and the round
of decryption of the same number takes the addition back, so ten rounds undo ten rounds (R171). -/

namespace Sys2Proof

/-! ### Decimal digits of a number -/

/-- A string of `k` decimal digits. -/
def IsDigits (k : Nat) (ds : List Nat) : Prop := ds.length = k ∧ ∀ d ∈ ds, d < 10

theorem natDigits_isDigits (k n : Nat) : IsDigits k (natDigits k n) := by
  induction k generalizing n with
  | zero => exact ⟨rfl, by simp [natDigits]⟩
  | succ k ih =>
    obtain ⟨hlen, hlt⟩ := ih (n / 10)
    refine ⟨by simp [natDigits, hlen], fun d hd => ?_⟩
    rcases List.mem_append.1 hd with hd | hd
    · exact hlt d hd
    · obtain rfl := List.mem_singleton.1 hd
      omega

theorem digitsNat_append_singleton (ds : List Nat) (d : Nat) : digitsNat (ds ++ [d]) = 10 * digitsNat ds + d := by
  simp [digitsNat]

theorem digitsNat_natDigits (k n : Nat) : digitsNat (natDigits k n) = n % 10 ^ k := by
  induction k generalizing n with
  | zero => simp [natDigits, digitsNat, Nat.mod_one]
  | succ k ih => rw [natDigits, digitsNat_append_singleton, ih, Nat.pow_succ', Nat.mod_mul]; omega

namespace IsDigits

variable {k : Nat} {ds : List Nat}

theorem natDigits_digitsNat (h : IsDigits k ds) : natDigits k (digitsNat ds) = ds := by
  obtain ⟨rfl, hlt⟩ := h
  induction ds using List.reverseRecOn with
  | nil => rfl
  | append_singleton ds d ih =>
    have hd : d < 10 := hlt d (by simp)
    have hquot : (10 * digitsNat ds + d) / 10 = digitsNat ds := by omega
    have hrem : (10 * digitsNat ds + d) % 10 = d := by omega
    rw [List.length_append, List.length_singleton, natDigits, digitsNat_append_singleton, hquot, hrem,
      ih fun e he => hlt e (List.mem_append_left _ he)]

theorem digitsNat_lt (h : IsDigits k ds) : digitsNat ds < 10 ^ k := by
  rw [← h.natDigits_digitsNat, digitsNat_natDigits]
  exact Nat.mod_lt _ (by positivity)

theorem take (h : IsDigits k ds) {u : Nat} (hu : u ≤ k) : IsDigits u (ds.take u) :=
  ⟨by rw [List.length_take, h.1]; omega, fun d hd => h.2 d (List.mem_of_mem_take hd)⟩

theorem drop (h : IsDigits k ds) (u : Nat) : IsDigits (k - u) (ds.drop u) :=
  ⟨by rw [List.length_drop, h.1], fun d hd => h.2 d (List.mem_of_mem_drop hd)⟩

theorem append {j : Nat} {es : List Nat} (h : IsDigits k ds) (h' : IsDigits j es) : IsDigits (k + j) (ds ++ es) :=
  ⟨by rw [List.length_append, h.1, h'.1], fun d hd => (List.mem_append.1 hd).elim (h.2 d) (h'.2 d)⟩

end IsDigits

/-! ### Addition modulo the range of a half, taken back -/

/-- What a round adds, the decryption's round subtracts. -/
theorem add_mod_sub_mod {m x : Nat} (y : Nat) (hx : x < m) : ((x + y) % m + m - y % m) % m = x := by
  have hy : y % m < m := Nat.mod_lt _ (by omega)
  rw [Nat.add_mod, Nat.mod_eq_of_lt hx]
  by_cases hover : x + y % m < m
  · rw [Nat.mod_eq_of_lt hover, show x + y % m + m - y % m = x + m by omega, Nat.add_mod_right, Nat.mod_eq_of_lt hx]
  · have hlow : (x + y % m) % m = x + y % m - m := by rw [Nat.mod_eq_sub_mod (by omega), Nat.mod_eq_of_lt (by omega)]
    rw [hlow, show x + y % m - m + m - y % m = x by omega, Nat.mod_eq_of_lt hx]

/-- What the decryption's round subtracts, a round adds. -/
theorem sub_mod_add_mod {m x : Nat} (y : Nat) (hx : x < m) : ((x + m - y % m) % m + y) % m = x := by
  have hy : y % m < m := Nat.mod_lt _ (by omega)
  rw [Nat.mod_add_mod, Nat.add_mod_eq_add_mod_left (x + m - y % m) (Nat.mod_mod y m).symm,
    show x + m - y % m + y % m = x + m by omega, Nat.add_mod_right, Nat.mod_eq_of_lt hx]

/-! ### The rounds (SP 800-38G, algorithms 7 and 8) -/

section Rounds

variable (u v : Nat) (y : Nat → List Nat → Nat)

/-- How many digits the half has that round `i` replaces. -/
def ff1Half (i : Nat) : Nat := if i % 2 = 0 then u else v

/-- Round `i` of the encryption, whose round value is `y i` of the half that stays. -/
def ff1EncRound (ab : List Nat × List Nat) (i : Nat) : List Nat × List Nat :=
  (ab.2, natDigits (ff1Half u v i) ((digitsNat ab.1 + y i ab.2) % 10 ^ ff1Half u v i))

/-- Round `i` of the decryption. -/
def ff1DecRound (ab : List Nat × List Nat) (i : Nat) : List Nat × List Nat :=
  (natDigits (ff1Half u v i) ((digitsNat ab.2 + 10 ^ ff1Half u v i - y i ab.1 % 10 ^ ff1Half u v i) % 10 ^ ff1Half u v i), ab.1)

/-- The two halves before round `i`: the one that it replaces, and the one that the next round replaces. -/
def Ff1Halves (i : Nat) (ab : List Nat × List Nat) : Prop :=
  IsDigits (ff1Half u v i) ab.1 ∧ IsDigits (ff1Half u v (i + 1)) ab.2

theorem ff1Half_add_two (i : Nat) : ff1Half u v (i + 1 + 1) = ff1Half u v i := by
  rw [ff1Half, ff1Half, show (i + 1 + 1) % 2 = i % 2 by omega]

variable {u v} {i : Nat} {ab : List Nat × List Nat}

theorem Ff1Halves.encRound (h : Ff1Halves u v i ab) : Ff1Halves u v (i + 1) (ff1EncRound u v y ab i) :=
  ⟨h.2, by rw [ff1Half_add_two]; exact natDigits_isDigits _ _⟩

theorem Ff1Halves.decRound (h : Ff1Halves u v (i + 1) ab) : Ff1Halves u v i (ff1DecRound u v y ab i) :=
  ⟨natDigits_isDigits _ _, h.1⟩

theorem ff1DecRound_encRound (h : Ff1Halves u v i ab) : ff1DecRound u v y (ff1EncRound u v y ab i) i = ab := by
  obtain ⟨a, b⟩ := ab
  obtain ⟨ha, -⟩ := h
  simp only [ff1DecRound, ff1EncRound, digitsNat_natDigits, Nat.mod_mod, add_mod_sub_mod _ ha.digitsNat_lt,
    ha.natDigits_digitsNat]

theorem ff1EncRound_decRound (h : Ff1Halves u v (i + 1) ab) : ff1EncRound u v y (ff1DecRound u v y ab i) i = ab := by
  obtain ⟨a, b⟩ := ab
  obtain ⟨-, hb⟩ := h
  rw [ff1Half_add_two] at hb
  simp only [ff1DecRound, ff1EncRound, digitsNat_natDigits, Nat.mod_mod, sub_mod_add_mod _ hb.digitsNat_lt,
    hb.natDigits_digitsNat]

/-- The rounds of the encryption keep the halves' lengths, and the rounds of the decryption undo them. -/
theorem ff1EncRounds_undone (n : Nat) (h : Ff1Halves u v 0 ab) :
    Ff1Halves u v n ((List.range n).foldl (ff1EncRound u v y) ab)
      ∧ (List.range n).reverse.foldl (ff1DecRound u v y) ((List.range n).foldl (ff1EncRound u v y) ab) = ab := by
  induction n with
  | zero => exact ⟨h, rfl⟩
  | succ n ih =>
    obtain ⟨hhalves, hundone⟩ := ih
    simp only [List.range_succ, List.foldl_append, List.foldl_cons, List.foldl_nil, List.reverse_append,
      List.reverse_singleton, List.singleton_append]
    exact ⟨hhalves.encRound y, by rw [ff1DecRound_encRound y hhalves, hundone]⟩

/-- The rounds of the decryption keep the halves' lengths, and the rounds of the encryption undo them. -/
theorem ff1DecRounds_undone (n : Nat) (h : Ff1Halves u v n ab) :
    Ff1Halves u v 0 ((List.range n).reverse.foldl (ff1DecRound u v y) ab)
      ∧ (List.range n).foldl (ff1EncRound u v y) ((List.range n).reverse.foldl (ff1DecRound u v y) ab) = ab := by
  induction n generalizing ab with
  | zero => exact ⟨h, rfl⟩
  | succ n ih =>
    obtain ⟨hhalves, hundone⟩ := ih (h.decRound y)
    simp only [List.range_succ, List.foldl_append, List.foldl_cons, List.foldl_nil, List.reverse_append,
      List.reverse_singleton, List.singleton_append]
    exact ⟨hhalves, by rw [hundone, ff1EncRound_decRound y h]⟩

end Rounds

/-! ### Tokens -/

/-- Both halves of a string before its first and after its last round. -/
theorem Ff1Halves.split {ds : List Nat} {n i : Nat} (h : IsDigits n ds) (hi : i % 2 = 0) :
    Ff1Halves (n / 2) (n - n / 2) i (ds.take (n / 2), ds.drop (n / 2)) := by
  rw [Ff1Halves, ff1Half, ff1Half, if_pos hi, if_neg (by omega)]
  exact ⟨h.take (Nat.div_le_self n 2), h.drop _⟩

theorem Ff1Halves.isDigits {u v i : Nat} {ab : List Nat × List Nat} (h : Ff1Halves u v i ab) (hi : i % 2 = 0) :
    IsDigits (u + v) (ab.1 ++ ab.2) := by
  rw [Ff1Halves, ff1Half, ff1Half, if_pos hi, if_neg (by omega)] at h
  exact h.1.append h.2

/-- Halves put together come apart again. -/
theorem Ff1Halves.split_append {u v i : Nat} {ab : List Nat × List Nat} (h : Ff1Halves u v i ab) (hi : i % 2 = 0) :
    ((ab.1 ++ ab.2).take u, (ab.1 ++ ab.2).drop u) = ab := by
  rw [Ff1Halves, ff1Half, if_pos hi] at h
  rw [List.take_left' h.1.1, List.drop_left' h.1.1]

section Tokens

variable {n : Nat} {ds : List Nat} (key tweak : Bytes)

/-- The round values of a string of `n` digits. -/
def ff1Rounds (n : Nat) : Nat → List Nat → Nat := ff1Y key tweak (ff1P (n / 2) n tweak.length) (n - n / 2)

theorem ff1Enc_eq (h : ds.length = n) :
    ff1Enc key tweak ds =
      let r := (List.range 10).foldl (ff1EncRound (n / 2) (n - n / 2) (ff1Rounds key tweak n)) (ds.take (n / 2), ds.drop (n / 2))
      r.1 ++ r.2 := by
  subst h; rfl

theorem ff1Dec_eq (h : ds.length = n) :
    ff1Dec key tweak ds =
      let r := (List.range 10).reverse.foldl (ff1DecRound (n / 2) (n - n / 2) (ff1Rounds key tweak n))
        (ds.take (n / 2), ds.drop (n / 2))
      r.1 ++ r.2 := by
  subst h; rfl

theorem IsDigits.ff1Enc (h : IsDigits n ds) : IsDigits n (ff1Enc key tweak ds) := by
  rw [ff1Enc_eq key tweak h.1]
  have hdigits := ((ff1EncRounds_undone (ff1Rounds key tweak n) 10 (.split h rfl)).1).isDigits rfl
  rwa [Nat.add_sub_cancel' (Nat.div_le_self n 2)] at hdigits

theorem IsDigits.ff1Dec (h : IsDigits n ds) : IsDigits n (ff1Dec key tweak ds) := by
  rw [ff1Dec_eq key tweak h.1]
  have hdigits := ((ff1DecRounds_undone (ff1Rounds key tweak n) 10 (.split h rfl)).1).isDigits rfl
  rwa [Nat.add_sub_cancel' (Nat.div_le_self n 2)] at hdigits

theorem IsDigits.ff1Dec_ff1Enc (h : IsDigits n ds) : Sys2Proof.ff1Dec key tweak (Sys2Proof.ff1Enc key tweak ds) = ds := by
  obtain ⟨hhalves, hundone⟩ := ff1EncRounds_undone (ff1Rounds key tweak n) 10 (.split h rfl)
  rw [ff1Dec_eq key tweak (h.ff1Enc key tweak).1, ff1Enc_eq key tweak h.1]
  dsimp only
  rw [hhalves.split_append rfl, hundone]
  exact List.take_append_drop _ ds

theorem IsDigits.ff1Enc_ff1Dec (h : IsDigits n ds) : Sys2Proof.ff1Enc key tweak (Sys2Proof.ff1Dec key tweak ds) = ds := by
  obtain ⟨hhalves, hundone⟩ := ff1DecRounds_undone (ff1Rounds key tweak n) 10 (.split h rfl)
  rw [ff1Enc_eq key tweak (h.ff1Dec key tweak).1, ff1Dec_eq key tweak h.1]
  dsimp only
  rw [hhalves.split_append rfl, hundone]
  exact List.take_append_drop _ ds

end Tokens

/-- Settles O57. -/
theorem ff1TokensInvert : Obligations.Ff1TokensInvert := by
  intro key tweak ds hlt
  have h : IsDigits ds.length ds := ⟨rfl, hlt⟩
  exact ⟨(h.ff1Enc key tweak).1, (h.ff1Enc key tweak).2, h.ff1Dec_ff1Enc key tweak, h.ff1Enc_ff1Dec key tweak⟩

end Sys2Proof
end

section
/-! The store regions stay canonical (O58): what writes the slot array, the DUKPT records and the vault of a channel. Every write of
theirs sets or drops keys of a canonical map, and nothing else of the key store is looked at. -/

namespace Sys2Proof.Machine

/-- Keys set one after another leave a map canonical. -/
theorem SMap.wf_foldl_set {α : Type} [DecidableEq α] {d : α} (l : List (Nat × α)) {m : SMap α} (h : SMap.wf d m = true) :
    SMap.wf d (l.foldl (fun m p => SMap.set d m p.1 p.2) m) = true := by
  induction l generalizing m with
  | nil => exact h
  | cons p l ih => exact ih (SMap.wf_set p.1 p.2 h)

/-! ### The key store -/

/-- The slot array, the DUKPT records, the vault's entries and its index are in canonical form (R155, R174, R254). -/
def Keys.Canonical (k : Keys) : Prop :=
  SMap.wf (zeros 128) k.slots = true ∧ SMap.wf DukptRec.unbound k.dukpt = true ∧ SMap.wf 0 k.entries = true
    ∧ SMap.wf 0 k.index = true

namespace Keys.Canonical

variable {k : Keys}

/-- A store that keeps the other regions, with its slot array written. -/
theorem withSlots (h : k.Canonical) {m : SMap Bytes} (hm : SMap.wf (zeros 128) m = true) :
    { k with slots := m }.Canonical := ⟨hm, h.2⟩

theorem withDukpt (h : k.Canonical) {m : SMap DukptRec} (hm : SMap.wf DukptRec.unbound m = true) :
    { k with dukpt := m }.Canonical :=
  let ⟨hslots, _, hvault⟩ := h
  ⟨hslots, hm, hvault⟩

theorem dukpt (h : k.Canonical) : SMap.wf DukptRec.unbound k.dukpt = true :=
  let ⟨_, hdukpt, _⟩ := h
  hdukpt

/-- A store that keeps the other regions, with its vault written. -/
theorem withVault (h : k.Canonical) {b : SMap Basin} {m n : SMap Nat} (hm : SMap.wf 0 m = true) (hn : SMap.wf 0 n = true) :
    { k with basins := b, entries := m, index := n }.Canonical :=
  let ⟨hslots, hdukpt, _⟩ := h
  ⟨hslots, hdukpt, hm, hn⟩

theorem writeRecords (h : k.Canonical) (l : List (Nat × Bytes)) : (k.writeRecords l).Canonical :=
  h.withSlots (SMap.wf_foldl_set l h.1)

theorem rewrite (h : k.Canonical) (slot : Nat) (gen : BitVec 16) (f : KeyHeader → KeyHeader) (t : Tally → Tally) :
    (k.rewrite slot gen f t).Canonical := by
  unfold Keys.rewrite
  split
  · dsimp only
    split
    · exact h.writeRecords _
    · exact h
  · exact h

/-- Vault entries and index set one after another. -/
theorem setVault (h : k.Canonical) (b : SMap Basin) (entry index : List (Nat × Nat)) :
    { k with basins := b, entries := SMap.setAll 0 k.entries entry, index := SMap.setAll 0 k.index index }.Canonical :=
  let ⟨_, _, hentries, hindex⟩ := h
  h.withVault (SMap.wf_foldl_set entry hentries) (SMap.wf_foldl_set index hindex)

theorem applyLedger (h : k.Canonical) (e : LedgerEntry) : (k.applyLedger e).Canonical := by
  unfold Keys.applyLedger
  split
  · exact h
  · split <;> exact h

theorem keyClear (h : k.Canonical) (n : Nat) : (Machine.keyClear k n).Canonical := by
  unfold Machine.keyClear
  split <;> exact h

end Keys.Canonical

/-- Regions loaded over a key store are set key by key. -/
theorem Keys.setRegions_canonical (k : Keys) (r : Regions) : (k.setRegions r).Canonical :=
  ⟨SMap.wf_foldl_set r.slots rfl, SMap.wf_foldl_set r.dukpt rfl, SMap.wf_foldl_set r.entries rfl,
    SMap.wf_foldl_set r.index rfl⟩

/-! ### A channel -/

/-- The store regions of a channel are in canonical form. -/
def Channel.Canonical (c : Channel) : Prop := c.keys.Canonical

namespace Channel.Canonical

variable {c d : Channel} {α : Type}

theorem ite (b : Prop) [Decidable b] (hc : c.Canonical) (hd : d.Canonical) : (if b then c else d).Canonical := by
  split
  · exact hc
  · exact hd

theorem ite_fst {p q : Channel × α} (b : Prop) [Decidable b] (hp : p.1.Canonical) (hq : q.1.Canonical) :
    (if b then p else q).1.Canonical := by
  split
  · exact hp
  · exact hq

theorem foldl {f : Channel → α → Channel} (h : c.Canonical) (l : List α)
    (hf : ∀ {c : Channel} x, c.Canonical → (f c x).Canonical) : (l.foldl f c).Canonical := by
  induction l generalizing c with
  | nil => exact h
  | cons x l ih => exact ih (hf x h)

theorem of_mk {side tide offset aligned alignAt start flash fuses island tamper thermal health records journal refill sluice
    sluiceRetry link sched skim rakes digests pks keys rng faults events writersDone resetList resetting fence draining
    resetOrder} (h : keys.Canonical) :
    (Channel.mk side tide offset aligned alignAt start flash fuses island tamper thermal health records journal refill sluice
      sluiceRetry link sched skim rakes digests pks keys rng faults events writersDone resetList resetting fence draining
      resetOrder).Canonical := h

theorem withKeys {k : Keys} (hk : k.Canonical) (c : Channel) : { c with keys := k }.Canonical := hk

theorem journalWrite (h : c.Canonical) (n object : Nat) (image : Image) : (c.journalWrite n object image).Canonical := h

theorem noting (hd : d.Canonical) (c : Channel) (n : Nat) : (c.noting n d).Canonical := hd

theorem releaseRetained (h : c.Canonical) : c.releaseRetained.Canonical := h

/-! ### Streams, slots and sessions (R200, R258, R262) -/

theorem killStreams (h : c.Canonical) (n : Nat) (f : Nat → Stream → Bool) : (c.killStreams n f).Canonical := by
  unfold Channel.killStreams
  extract_lets
  refine foldl ?_ _ fun _ hc => hc.journalWrite _ _ _
  exact h

theorem killStream (h : c.Canonical) (n i : Nat) : (c.killStream n i).Canonical := h

theorem install (h : c.Canonical) (intakeNo slot : Nat) (x : KeyHeader) (material : Bytes) :
    (c.install intakeNo slot x material).Canonical := by
  unfold Channel.install
  extract_lets
  refine releaseRetained (journalWrite ?_ _ _ _)
  exact Keys.Canonical.writeRecords (k := { c.keys with retained := _, flips := _ }) h _

theorem destroySlot (h : c.Canonical) (intakeNo slot : Nat) : (c.destroySlot intakeNo slot).Canonical := by
  unfold Channel.destroySlot
  extract_lets
  refine journalWrite (killStreams ?_ _ _) _ _ _
  exact Keys.Canonical.writeRecords h _

theorem put (h : c.Canonical) (x : Item) (slot : Nat) (a : Attr) (cls : BitVec 2) (alg : Nat) (key : Bytes) :
    (c.put x slot a cls alg key).1.Canonical := h.install _ _ _ _

theorem endSession (h : c.Canonical) (n slot : Nat) : (c.endSession n slot).Canonical := h

theorem holdSession (h : c.Canonical) (n : Nat) (s : Session) : (c.holdSession n s).Canonical := h

theorem setStream (h : c.Canonical) (intakeNo n : Nat) (s : Stream) : (c.setStream intakeNo n s).Canonical := h

theorem dropStream (h : c.Canonical) (intakeNo n : Nat) (s after : Stream) : (c.dropStream intakeNo n s after).Canonical := h

theorem writeBasin (h : c.Canonical) (n basin : Nat) (b : Basin) (entry index : List (Nat × Nat)) :
    (c.writeBasin n basin b entry index).Canonical := Keys.Canonical.setVault h _ entry index

/-- A slot's binding takes a use, which the record of the slot may be rewritten for (R257, R260). -/
theorem bindSlot (h : c.Canonical) (x : Item) (slot : Nat) : (c.bindSlot x slot).1.Canonical := by
  unfold Channel.bindSlot
  dsimp only
  split
  · exact h
  · refine ite_fst _ h (ite_fst _ h (journalWrite (withKeys ?_ c) _ _ _))
    split
    · exact h
    · apply Keys.Canonical.rewrite
      exact h

theorem addTally (h : c.Canonical) (x : Item) (ks : List Loaded) : (c.addTally x ks).Canonical := by
  unfold Channel.addTally
  split
  · exact h
  · split
    · exact h
    · have hrewrite {slot : Nat} {gen : BitVec 16} {t : Tally} : (c.keys.rewrite slot gen id (fun _ => t)).Canonical :=
        Keys.Canonical.rewrite h slot gen id _
      exact ite _ h (ite _ hrewrite hrewrite)

theorem exhaustMark (h : c.Canonical) (intakeNo slot : Nat) : (c.exhaustMark intakeNo slot).Canonical := by
  unfold Channel.exhaustMark
  split
  · exact h
  · exact journalWrite (withKeys (Keys.Canonical.rewrite h _ _ _ _) c) _ _ _

/-! ### The key cache (R265) -/

theorem placeKey (h : c.Canonical) (slot : Nat) (gen : BitVec 16) (f : BitVec 8) (x : KeyHeader) (t : Tally) (m chk : Bytes) :
    (c.placeKey slot gen f x t m chk).Canonical := h.foldl _ fun _ hc => hc

theorem noteFill (h : c.Canonical) (ch : Chan) (slot : Nat) (f : Fill) : (c.noteFill ch slot f).Canonical := by
  cases f with
  | corrupt => unfold Channel.noteFill; dsimp only; split <;> exact h
  | _ => exact h

/-! ### What a command does once its keys are read -/

theorem runKbImport (h : c.Canonical) (x : Item) (ks : List Loaded) : (Machine.runKbImport c x ks).1.Canonical := by
  unfold Machine.runKbImport
  extract_lets
  split
  · exact h
  · exact h
  · refine ite_fst _ h ?_
    split
    · exact h
    · exact h.put _ _ _ _ _ _

theorem runKeyUnwrap (h : c.Canonical) (x : Item) (ks : List Loaded) : (Machine.runKeyUnwrap c x ks).1.Canonical := by
  unfold Machine.runKeyUnwrap
  extract_lets
  split
  · exact h
  · refine ite_fst _ h ?_
    split
    · exact h
    · split
      · exact h
      · exact ite_fst _ h (h.put _ _ _ _ _ _)

theorem runTransportImport (h : c.Canonical) (x : Item) (ks : List Loaded) :
    (Machine.runTransportImport c x ks).1.Canonical := by
  unfold Machine.runTransportImport
  extract_lets
  split
  · exact h
  · refine ite_fst _ h ?_
    split
    · exact h
    · extract_lets t tail
      have htail {r : Channel × Res} (hr : r.1.Canonical) : (tail r).1.Canonical := ite_fst _ hr hr
      refine ite_fst _ h (ite_fst _ (htail (h.put _ _ _ _ _ _)) ?_)
      split
      · exact h
      · split
        · exact h
        · exact htail (h.put _ _ _ _ _ _)

theorem runCompBegin (h : c.Canonical) (x : Item) : (Machine.runCompBegin c x).1.Canonical := by
  unfold Machine.runCompBegin
  dsimp only
  split
  · exact ite_fst _ (h.endSession _ _) h
  · split
    · exact h
    · exact ite_fst _ h (ite_fst _ h (h.holdSession _ _))

theorem componentEarly (h : c.Canonical) (x : Item) : (Machine.componentEarly c x).1.Canonical := by
  unfold Machine.componentEarly
  extract_lets
  split
  · exact h
  · refine ite_fst _ h (ite_fst _ (h.endSession _ _) (ite_fst _ h ?_))
    split
    · exact ite_fst _ h h
    · exact h

theorem runCompAdd (h : c.Canonical) (x : Item) : (Machine.runCompAdd c x).1.Canonical := by
  unfold Machine.runCompAdd
  extract_lets p slot n
  have hfail : (c.endSession n slot, Res.fail .tagFail).1.Canonical := h.endSession n slot
  split
  · dsimp only
    split
    · exact ite_fst _ hfail h
    · refine ite_fst _ hfail (ite_fst _ (h.holdSession _ _) (ite_fst _ hfail ?_))
      split
      · exact hfail
      · exact h.put _ _ _ _ _ _
  · exact h

theorem runCompAbandon (h : c.Canonical) (x : Item) : (Machine.runCompAbandon c x).1.Canonical := by
  unfold Machine.runCompAbandon
  extract_lets
  split
  · exact ite_fst _ h (h.endSession _ _)
  · exact h

theorem runGenerate (h : c.Canonical) (x : Item) : (Machine.runGenerate c x).1.Canonical := by
  unfold Machine.runGenerate
  extract_lets
  split
  · exact h
  · exact ite_fst _ h (h.install _ _ _ _)

theorem runRestrict (h : c.Canonical) (x : Item) : (Machine.runRestrict c x).1.Canonical := by
  unfold Machine.runRestrict
  extract_lets
  split
  · exact h
  · exact ite_fst _ h (ite_fst _ h (ite_fst _ h (ite _ (h.install _ _ _ _)
      (ite _ h (journalWrite (withKeys (Keys.Canonical.rewrite h _ _ _ _) c) _ _ _)))))
  · exact h

theorem runTokenise (h : c.Canonical) (x : Item) : (Machine.runTokenise c x).1.Canonical := by
  unfold Machine.runTokenise
  extract_lets
  split
  · exact h
  · dsimp only
    split
    · exact h
    · exact h
    · refine ite_fst _ h ?_
      split
      · exact h
      · exact ite_fst _ h (h.writeBasin _ _ _ _ _)

theorem runVaultDelete (h : c.Canonical) (x : Item) : (Machine.runVaultDelete c x).1.Canonical := by
  unfold Machine.runVaultDelete
  extract_lets
  split
  · exact h
  · split
    · exact h
    · exact h.writeBasin _ _ _ _ _

theorem runStreamOpen (h : c.Canonical) (x : Item) (ks : List Loaded) : (Machine.runStreamOpen c x ks).1.Canonical :=
  ite_fst _ h (h.setStream _ _ _)

theorem streamEarly (h : c.Canonical) (x : Item) : (Machine.streamEarly c x).1.Canonical :=
  ite_fst _ h (ite_fst _ (h.dropStream _ _ _ _) h)

theorem runStreamUpdate (h : c.Canonical) (x : Item) : (Machine.runStreamUpdate c x).1.Canonical :=
  ite_fst _ h (h.setStream _ _ _)

theorem runStreamFinal (h : c.Canonical) (x : Item) : (Machine.runStreamFinal c x).1.Canonical :=
  ite_fst _ h (ite_fst _ (h.setStream _ _ _) (ite_fst _ (h.setStream _ _ _) h))

theorem runStreamAbandon (h : c.Canonical) (x : Item) : (Machine.runStreamAbandon c x).1.Canonical :=
  ite_fst _ h (h.dropStream _ _ _ _)

theorem runPk (h : c.Canonical) (x : Item) (ks : List Loaded) : (Machine.runPk c x ks).1.Canonical := by
  unfold Machine.runPk
  extract_lets p k alg slot install
  have hput (a : Attr) (cls : BitVec 2) (n : Nat) (key : Bytes) : (c.put x slot a cls n key).1.Canonical := h.put ..
  split
  · exact h
  · exact h
  · exact hput ..
  · split
    · exact h
    · exact hput ..
  · exact hput ..
  · exact hput ..
  · exact h
  · exact hput ..

/-- An operation that installs, restricts or destroys keys, moves a session, a stream or a basin, or only computes. -/
theorem run (h : c.Canonical) (x : Item) (ks : List Loaded) : (c.run x ks).1.Canonical := by
  unfold Channel.run
  cases x.op with
  | keyblockImport => exact h.runKbImport x ks
  | keyUnwrap => exact h.runKeyUnwrap x ks
  | transportImport => exact h.runTransportImport x ks
  | componentBegin => exact h.runCompBegin x
  | componentAdd => exact h.runCompAdd x
  | componentAbandon => exact h.runCompAbandon x
  | vaultTokenise => exact h.runTokenise x
  | vaultDelete => exact h.runVaultDelete x
  | streamOpen => exact h.runStreamOpen x ks
  | streamUpdate => exact h.runStreamUpdate x
  | streamFinal => exact h.runStreamFinal x
  | streamAbandon => exact h.runStreamAbandon x
  | pkSign | pkVerify | pkKeygen | pkAgree | pkEncap | pkDecap | pkPubkeyExport | pkPubkeyImport => exact h.runPk x ks
  | keyGenerate => exact h.runGenerate x
  | keyRestrict => exact h.runRestrict x
  | keyDestroy => exact h.destroySlot _ _
  | _ => exact h

end Channel.Canonical

end Sys2Proof.Machine
end

section
/-! The store regions stay canonical through the scheduler (O58): items, flows, admission, lanes, starts, decode, release, deadlines
and the collector. Of the regions it writes only the records that a binding takes a use of. -/

namespace Sys2Proof.Machine

namespace Channel.Canonical

variable {c d : Channel} {α : Type}

/-- The channel of a pair that a step gives. -/
theorem of_eq {p : Channel × α} {a : α} (heq : p = (d, a)) (hp : p.1.Canonical) : d.Canonical := by
  rw [heq] at hp
  exact hp

/-! ### What leaves the key store -/

theorem sync (h : c.Canonical) : c.sync.Canonical := h

theorem event (h : c.Canonical) (ch : Chan) (k v : Nat) : (c.event ch k v).Canonical := h

theorem clearHealth (h : c.Canonical) (bit : Nat) : (c.clearHealth bit).Canonical := h

theorem onSched (h : c.Canonical) (f : Sched → Sched) : (c.onSched f).Canonical := h

theorem setItem (h : c.Canonical) (x : Item) : (c.setItem x).Canonical := h

theorem mapSched (h : c.Canonical) (f : SchedRegs → SchedRegs) : (c.mapSched f).Canonical := h

theorem mapSkim (h : c.Canonical) (f : SkimRegs → SkimRegs) : (c.mapSkim f).Canonical := h

theorem mapPair (h : c.Canonical) (j : Nat) (f : Pair → Pair) : (c.mapPair j f).Canonical := h

theorem mapRng (h : c.Canonical) (f : Rng → Rng) : (c.mapRng f).Canonical := h

theorem trace (h : c.Canonical) (x : Item) (decision unit : Nat) (code due cycles : Nat) (exempt : Bool) :
    (c.trace x decision unit code due cycles exempt).Canonical := h

theorem produce (h : c.Canonical) (x : Item) (producer at' : Nat) (r : Res) : (c.produce x producer at' r).Canonical := h

theorem schedPort (h : c.Canonical) (x : Item) (r : Res) : (c.schedPort x r).Canonical := h

theorem corePort (h : c.Canonical) (x : Item) (core : Nat) (r : Res) : (c.corePort x core r).Canonical := h

theorem refuse (h : c.Canonical) (x : Item) (code : Code) (detail : BitVec 4) : (c.refuse x code detail).Canonical := h

theorem leaveFlows (h : c.Canonical) (id : Nat) : (c.leaveFlows id).Canonical := h

theorem preempt (h : c.Canonical) (k : Nat) (y : Item) (urgent : Bool) : (c.preempt k y urgent).Canonical := h

theorem addItem (h : c.Canonical) (x : Item) : (c.addItem x).Canonical := h

theorem produceIn (h : c.Canonical) (x : Item) (ph : Phase) (producer at' : Nat) (r : Res) :
    (c.produceIn x ph producer at' r).Canonical := h

theorem popReaders (h : c.Canonical) : c.popReaders.Canonical := h

theorem releaseEpochs (h : c.Canonical) : c.releaseEpochs.Canonical := h

theorem charge (h : c.Canonical) (p : PortDie) (x : Item) : (c.charge p x).Canonical := h

theorem book (h : c.Canonical) (halved : Bool) (u : TideUse) (charge j : Nat) : (c.book halved u charge j).Canonical := h

theorem stop (h : c.Canonical) (x : Item) : (c.stop x).Canonical := h

/-! ### Flows and items (R84 to R91) -/

theorem bindAll (h : c.Canonical) (id : Nat) : (c.bindAll id).Canonical := by
  unfold Channel.bindAll
  split
  · exact h
  · refine h.foldl _ fun k hc => ?_
    split
    · exact ite _ hc (hc.bindSlot _ _)
    · exact hc

theorem settle (h : c.Canonical) : c.settle.Canonical := h.popReaders.foldl _ fun _ hc => hc.bindAll _

theorem queueWriter (h : c.Canonical) (slot : Nat) : (c.queueWriter slot).Canonical := ite _ h (h.onSched _)

theorem dropWriter (h : c.Canonical) (slot : Nat) : (c.dropWriter slot).Canonical := (h.leaveFlows _).settle

theorem enterAt (h : c.Canonical) (x : Item) (head : Bool) : (c.enterAt x head).Canonical := by
  unfold Channel.enterAt
  dsimp only
  split
  · exact ((h.setItem _).onSched _).preempt _ _ _
  · exact (h.setItem _).onSched _

theorem enter (h : c.Canonical) (x : Item) : (c.enter x).Canonical := h.enterAt x false

theorem enterSaved (h : c.Canonical) (x : Item) : (c.enterSaved x).Canonical := ite _ (h.setItem _) (h.enter x)

theorem landSaves (h : c.Canonical) : c.landSaves.Canonical := by
  refine h.foldl _ fun x hc => ?_
  split
  · split
    · exact hc.enterAt _ _
    · exact hc
  · exact hc

theorem abort (h : c.Canonical) (x : Item) (r : Res) : (c.abort x r).Canonical := by
  unfold Channel.abort
  split
  · exact h
  · dsimp only
    split
    · exact (h.stop x).produce _ _ _ _
    · exact (h.stop x).produce _ _ _ _
    · exact (h.stop x).produce _ _ _ _
    · exact (h.stop x).produce _ _ _ _
    · exact (h.stop x).schedPort _ _

theorem retireItem (h : c.Canonical) (id : Nat) : (c.retireItem id).Canonical :=
  ((h.leaveFlows id).onSched _).settle.releaseRetained.releaseEpochs

theorem removeItem (h : c.Canonical) (x : Item) : (c.removeItem x).Canonical := by
  unfold Channel.removeItem
  dsimp only
  split
  · exact ((h.stop x).retireItem _).onSched _
  · exact (h.stop x).retireItem _

/-! ### Admission (R79, R105, R293) -/

theorem noteRefusal (h : c.Canonical) (p : PortDie) (x : Item) (detail : BitVec 4) : (c.noteRefusal p x detail).Canonical :=
  ite _ h (ite _ (h.mapSkim _) (h.mapSkim _))

theorem countDraw (h : c.Canonical) (x : Item) : (c.countDraw x).Canonical := ite _ h (ite _ h (ite _ h (ite _ h h)))

theorem maskDraw (h : c.Canonical) (x : Item) : (c.maskDraw x).1.Canonical := ite_fst _ h h

theorem drawSkim (h : c.Canonical) (x : Item) : (c.drawSkim x).1.Canonical := by
  unfold Channel.drawSkim
  split <;> exact h

theorem accepted (h : c.Canonical) (p : PortDie) (x : Item) : (c.accepted p x).1.Canonical := by
  unfold Channel.accepted
  extract_lets c1 c2 y
  have h2 : c2.Canonical := countDraw (ite _ h (h.charge p x)) x
  refine ite_fst _ h2 ?_
  split
  · exact h2
  · exact (h2.book _ _ _ _).drawSkim _

theorem dropLedger (h : c.Canonical) (x : Item) (slot : Nat) : (c.dropLedger x slot).Canonical := by
  unfold Channel.dropLedger
  split <;> exact h

theorem ledgerAt (h : c.Canonical) (x : Item) : (c.ledgerAt x).1.Canonical := by
  unfold Channel.ledgerAt
  extract_lets f k seen y slot
  split
  · refine ite_fst _ (ite_fst _ h ?_) (ite_fst _ (h.dropLedger _ _) h)
    dsimp only
    split <;> exact h
  · exact h.dropLedger _ _
  · exact h

theorem ledgerNoted (h : c.Canonical) (x : Item) : (c.ledgerNoted x).1.Canonical := (h.ledgerAt x).noting c _

/-! ### Lanes, withdrawals and starts (R86, R103 to R111, R262) -/

theorem noteResult (h : c.Canonical) (x : Item) (r : Res) : (c.noteResult x r).Canonical := by
  unfold Channel.noteResult
  extract_lets k rakeTag c1 g c2 health c3
  have h1 : c1.Canonical := ite _ h (ite _ h h)
  have h2 : c2.Canonical := ite _ h1 h1
  have h3 : c3.Canonical := ite _ h2 h2
  exact ite _ (h3.clearHealth 5) h3

theorem countHits (h : c.Canonical) (x : Item) : (c.countHits x).Canonical := ite _ h h

theorem awaitFill (h : c.Canonical) (x : Item) : (c.awaitFill x).Canonical := by
  unfold Channel.awaitFill
  extract_lets c1 c2
  have h1 : c1.Canonical := by
    unfold c1
    split
    · exact h.mapPair _ _
    · exact h
  have h2 : c2.Canonical := h1.setItem _
  exact ite _ h2 (h2.mapSkim _)

theorem laneTake (h : c.Canonical) (x : Item) : (c.laneTake x).Canonical := by
  unfold Channel.laneTake
  split
  · exact h
  · refine ite _ h ?_
    split
    next c1 x1 heq =>
      have h1 : c1.Canonical := of_eq heq (ite_fst _ (h.drawSkim _) h)
      refine ite _ (h1.awaitFill _) (ite _ h1 ?_)
      dsimp only
      have h2 {y : Item} {b : Prop} [Decidable b] {f : Pair → Pair} {j u : Nat} {z : Item} :
          (if b then ((c1.mapPair j f).maskDraw y).1 else ((c1.mapPair j f).maskDraw y).1.trace z 7 u).Canonical :=
        ite b ((h1.mapPair j f).maskDraw y) (((h1.mapPair j f).maskDraw y).trace _ _ _ _ _ _ _)
      split
      · exact ((h2.countHits _).noteResult _ _).produce _ _ _ _
      · exact ((h2.countHits _).sync.mapPair _ _).produceIn _ _ _ _ _

theorem laneJoin (h : c.Canonical) (x : Item) : (c.laneJoin x).Canonical := by
  unfold Channel.laneJoin
  split
  · exact h
  · refine ite _ (h.awaitFill _) ?_
    split
    · exact (h.noteResult _ _).produce _ _ _ _
    · exact ((h.setItem _).mapPair _ _).laneTake _

theorem withdraw (h : c.Canonical) (slot : Nat) (x : Item) : (c.withdraw slot x).Canonical := by
  unfold Channel.withdraw
  extract_lets free c1 c2
  have h2 : c2.Canonical := abort (ite _ (h.killStream _ _) h) x _
  exact ite _ h h2

theorem withdrawUsers (h : c.Canonical) (x : Item) : (c.withdrawUsers x).Canonical :=
  ite _ h (killStreams (h.foldl _ fun y hc => hc.withdraw _ y) _ _)

theorem enterStarted (h : c.Canonical) (x : Item) : (c.enterStarted x).Canonical := by
  unfold Channel.enterStarted
  extract_lets slot c1
  have h1 : c1.Canonical := ite _ h (h.withdrawUsers x)
  exact ite _ (h.enter x) (ite _ h1 (h1.enter x))

theorem startItem (h : c.Canonical) (x : Item) (waited : Bool) : (c.startItem x waited).Canonical := by
  have hbound := h.bindAll x.id
  exact ite _ (produce (ite _ (hbound.trace _ _ _ _ _ _ _) hbound) _ _ _ _)
    (ite _ (hbound.laneJoin _) (enterStarted (ite _ (hbound.trace _ _ _ _ _ _ _) hbound) _))

theorem tryStart (h : c.Canonical) (id : Nat) (waited : Bool) : (c.tryStart id waited).Canonical := by
  unfold Channel.tryStart
  split
  · exact ite _ (h.startItem _ _) h
  · exact h

theorem lookAhead (h : c.Canonical) (id : Nat) : (c.lookAhead id).Canonical := by
  unfold Channel.lookAhead
  split
  · exact h
  · split
    · exact ite _ (h.setItem _) h
    · exact h

/-! ### Decode and release (R78 to R82) -/

theorem decodeAs (h : c.Canonical) (p : PortDie) (o : Op) (k : Packet) : (c.decodeAs p o k).Canonical := by
  unfold Channel.decodeAs
  extract_lets _ _ _ c1 x places c2 joined
  have h2 : c2.Canonical := (h.onSched _).addItem x
  clear_value joined
  split
  · exact h2.refuse _ _ _
  · split
    · exact h2.refuse _ _ _
    · refine ite _ ?_ ?_
      · split
        next c3 x3 heq => exact (((of_eq heq (h2.ledgerNoted _)).onSched _).setItem _).settle
      · split
        · exact (h2.noteRefusal _ _ _).refuse _ _ _
        · split
          · exact h2.refuse _ _ _
          · split
            next c3 x3 heq =>
              have h3 : c3.Canonical := of_eq heq (accepted (of_mk h2) _ _)
              split
              next c4 x4 heq =>
                have h4 : c4.Canonical := of_eq heq (h3.ledgerNoted _)
                exact ((((h4.setItem _).trace _ _ _ _ _ _ _).settle).tryStart _ _).lookAhead _

theorem decodeUnknown (h : c.Canonical) (p : PortDie) (k : Packet) : (c.decodeUnknown p k).Canonical :=
  ((h.onSched _).addItem _).refuse _ _ _

theorem formHandover (h : c.Canonical) : c.formHandover.Canonical := by
  unfold Channel.formHandover
  split
  · exact h
  · exact ite _ h (of_mk h)

theorem decodeHead (h : c.Canonical) (p : PortDie) (sel : Option Op → Bool) : (c.decodeHead p sel).Canonical := by
  have hformed := h.formHandover
  unfold Channel.decodeHead
  dsimp only
  split
  · exact hformed
  · refine ite _ hformed ?_
    split
    · exact hformed.decodeAs _ _ _
    · exact hformed.decodeUnknown _ _

theorem releaseOne (h : c.Canonical) (p : PortDie) (x : Item) : (c.releaseOne p x).Canonical := by
  unfold Channel.releaseOne
  split
  · refine ite _ h ?_
    extract_lets y c1
    have h1 : c1.Canonical := (h.onSched _).setItem _
    split
    · exact (((h1.noteRefusal _ _ _).refuse _ _ _).leaveFlows _).settle
    · split
      next c2 x2 heq =>
        have h2 : c2.Canonical := of_eq heq (h1.accepted _ _)
        exact (((h2.setItem _).trace _ _ _ _ _ _ _).settle.tryStart _ _).lookAhead _
  · exact h

theorem releaseDue (h : c.Canonical) (p : PortDie) : (c.releaseDue p).Canonical := by
  refine h.foldl _ fun x hc => ?_
  split
  · exact hc.releaseOne p _
  · exact hc

/-! ### Wait limits, deadlines and the collector (R87, R91 to R95) -/

theorem timeOut (h : c.Canonical) (x : Item) : (c.timeOut x).Canonical :=
  ((((h.stop x).trace _ _ _ _ _ _ _).schedPort _ _).leaveFlows _).settle

theorem promote (h : c.Canonical) (x : Item) : (c.promote x).Canonical := by
  unfold Channel.promote
  extract_lets y c1 job pk _ _ _ _ c2 c3
  have h2 : c2.Canonical := of_mk (h.setItem y)
  split
  · split
    · exact (h2.onSched _).preempt _ _ _
    · exact h2.onSched _
  · exact h2

theorem miss (h : c.Canonical) (ch : Chan) (x : Item) : (c.miss ch x).Canonical := by
  unfold Channel.miss
  extract_lets y c1 c2 c3 health c4
  have h3 : c3.Canonical := (((h.setItem y).trace _ _ _ _ _ _ _).mapSched _).event _ _ _
  have h4 : c4.Canonical := ite _ h3 (of_mk h3)
  exact ite _ h4 (h4.promote y)

theorem remember (h : c.Canonical) (x : Item) : (c.remember x).Canonical := by
  unfold Channel.remember
  extract_lets c1 n
  have h1 : c1.Canonical := ite _ (of_mk h) h
  exact ite _ h1 (of_mk h1)

theorem grant (h : c.Canonical) (r : Produced) : (c.grant r).Canonical := by
  unfold Channel.grant
  extract_lets c1 c2 lo
  have h1 : c1.Canonical := by
    unfold c1
    split
    · exact remember (ite _ (h.noteResult _ _) h) _
    · exact h
  have h2 : c2.Canonical := h1.onSched _
  split
  · exact h2.onSched _
  · exact ((h2.trace _ _ _ _ _ _ _).onSched _).retireItem _

theorem collect (h : c.Canonical) (k left n : Nat) : (c.collect k left n).Canonical := by
  induction n generalizing c k left with
  | zero => exact h
  | succ n ih =>
    unfold Channel.collect
    refine ite _ h ?_
    split
    · exact ih h _ _
    · exact ih ((h.grant _).onSched _) _ _

theorem sweep (h : c.Canonical) (ch : Chan) : (c.sweep ch).Canonical := by
  refine foldl (h.foldl _ fun x hc => ?_) _ fun x hc => ?_
  · split
    · exact ite _ (hc.miss ch _) hc
    · exact hc
  · split
    · exact ite _ (hc.promote _) hc
    · exact hc

end Channel.Canonical

end Sys2Proof.Machine
end

section
/-! The store regions stay canonical through the work of cores, rakes, digest engines and public-key engines (O58): what an item's
service does to its keys, and that the engines' own steps leave the key store. -/

namespace Sys2Proof.Machine

namespace Channel.Canonical

variable {c d : Channel}

/-! ### Tamper responses (R364 to R367) -/

theorem respondL2 (h : c.Canonical) (n : Nat) : (c.respondL2 n).Canonical := by
  unfold Channel.respondL2
  extract_lets hit opens c1 c2 c3
  have h1 : c1.Canonical := h.foldl _ fun x hc => hc.killStream _ _
  have h3 : c3.Canonical := (h1.killStreams _ _).foldl _ fun x hc => hc.abort x _
  refine clearHealth (of_mk ?_) 11
  exact h3

theorem eraseVolatile (h : c.Canonical) (n : Nat) : (c.eraseVolatile n).Canonical := by
  unfold Channel.eraseVolatile
  extract_lets c1 c2 g
  have h2 : c2.Canonical := (h.killStreams _ _).foldl _ fun x hc => hc.endSession _ _
  exact h2

theorem respondL3 (h : c.Canonical) (n : Nat) : (c.respondL3 n).Canonical := of_mk (h.eraseVolatile n)

theorem respondL4 (h : c.Canonical) : c.respondL4.Canonical := ite _ (of_mk h) (ite _ (of_mk h) (of_mk h))

theorem respondUpTo (h : c.Canonical) (n done level : Nat) : (c.respondUpTo n done level).Canonical := by
  unfold Channel.respondUpTo
  extract_lets c1 c2
  have h1 : c1.Canonical := ite _ (h.respondL2 n) h
  have h2 : c2.Canonical := ite _ (h1.respondL3 n) h1
  exact ite _ h2.respondL4 h2

theorem beginResponse (h : c.Canonical) (level : Nat) (union : BitVec 23) : (c.beginResponse level union).Canonical := h

theorem setEvidence (h : c.Canonical) (s : BitVec 23) : (c.setEvidence s).Canonical := h.foldl _ fun _ hc => of_mk hc

theorem peerErase (h : c.Canonical) : c.peerErase.Canonical := h

/-! ### The service of an item (R89, R463) -/

theorem drawFor (h : c.Canonical) (x : Item) (ks : List Loaded) : (c.drawFor x ks).1.Canonical := by
  unfold Channel.drawFor
  extract_lets
  refine ite_fst _ h ?_
  split <;> exact of_mk h

theorem blind (h : c.Canonical) (x : Item) : (c.blind x).1.Canonical := ite_fst _ h (ite_fst _ h (ite_fst _ h (of_mk h)))

theorem readKeys (h : c.Canonical) (p : PortDie) (x : Item) : (c.readKeys p x).1.Canonical := by
  unfold Channel.readKeys
  refine ite_fst _ h ?_
  dsimp only
  split
  · exact h.countHits x
  · exact (h.countHits x).addTally x _

theorem yieldCore (h : c.Canonical) (x : Item) (k : Nat) (ph : Phase) : (c.yieldCore x k ph).Canonical := h

theorem reportCorrupt (h : c.Canonical) (x : Item) (r : Res) : (c.reportCorrupt x r).Canonical := by
  unfold Channel.reportCorrupt
  refine ite _ h ?_
  extract_lets vault
  have hvault (b : Basin) : (vault b).Canonical := by
    unfold vault
    split
    · exact h.noteFill _ _ _
    · exact h.event _ _ _
  have hbasin {o : Option Basin} : (o.elim c vault).Canonical := by
    cases o with
    | none => exact h
    | some b => exact hvault b
  split
  · exact hbasin
  · exact hbasin
  · exact hbasin
  · split
    · exact h.event _ _ _
    · exact h

theorem finishOn (h : c.Canonical) (x : Item) (k : Nat) (ks : List Loaded) : (c.finishOn x k ks).Canonical := by
  unfold Channel.finishOn
  extract_lets go
  split
  · exact h.yieldCore _ _ _
  · exact ((((h.run x ks).noting c _).reportCorrupt x _).noteResult x _).corePort x k _

theorem endOn (h : c.Canonical) (x : Item) (k : Nat) (r : Res) : (c.endOn x k r).Canonical := (h.noteResult x r).corePort x k r

theorem issue (h : c.Canonical) (x : Item) (k : Nat) (ks : List Loaded) : (c.issue x k ks).Canonical := by
  have hyield := h.yieldCore x k .engine
  unfold Channel.issue
  dsimp only
  split
  · exact of_mk hyield
  · exact of_mk (hyield.setItem _)
  · exact of_mk hyield

theorem serveDestroy (h : c.Canonical) (x : Item) (k : Nat) : (c.serveDestroy x k).Canonical := by
  unfold Channel.serveDestroy
  dsimp only
  split
  · exact h.endOn x k _
  · exact ite _ ((h.withdrawUsers x).yieldCore _ _ _) ((h.withdrawUsers x).finishOn _ _ _)

theorem serveReseed (h : c.Canonical) (x : Item) (k : Nat) : (c.serveReseed x k).Canonical := by
  unfold Channel.serveReseed
  refine ite _ (ite _ (h.endOn _ _ _) (yieldCore (of_mk h) _ _ _)) ?_
  split
  · exact h.endOn _ _ _
  · exact h.yieldCore _ _ _

/-- The guard of a DUKPT counter writes the record of its key (R154, R155). -/
theorem guard (h : c.Canonical) (x : Item) : (c.guard x).1.Canonical := by
  unfold Channel.guard
  split
  · exact h
  · exact journalWrite (withKeys (Keys.Canonical.withDukpt h (SMap.wf_set _ _ (Keys.Canonical.dukpt h))) c) _ _ _

theorem early (h : c.Canonical) (x : Item) (ks : List Loaded) : (c.early x ks).1.Canonical := by
  unfold Channel.early
  cases x.op with
  | componentAdd => exact h.componentEarly x
  | streamUpdate | streamFinal => exact h.streamEarly x
  | dukptTranslate | dukptTranslateLongKey | dukptData => exact h.guard x
  | _ => exact h

theorem earlyNoted (h : c.Canonical) (x : Item) (ks : List Loaded) : (c.earlyNoted x ks).1.Canonical :=
  (h.early x ks).noting c _

theorem serveOn (h : c.Canonical) (x : Item) (k : Nat) (ks : List Loaded) : (c.serveOn x k ks).Canonical := by
  unfold Channel.serveOn
  split
  · exact h.yieldCore _ _ _
  · exact ite _ (h.finishOn _ _ _) (h.issue _ _ _)

theorem serveFirst (h : c.Canonical) (p : PortDie) (x : Item) (k : Nat) : (c.serveFirst p x k).Canonical := by
  unfold Channel.serveFirst
  refine ite _ h ?_
  extract_lets y
  refine ite _ (h.setItem _) ?_
  split
  next c1 x1 r heq => exact (of_eq heq (h.readKeys p _)).endOn _ _ _
  next c1 x1 ks heq =>
    have h1 : c1.Canonical := of_eq heq (h.readKeys p _)
    split
    next c2 x2 ready heq =>
      have h2 : c2.Canonical := of_eq heq (ite_fst _ h1 (h1.drawFor _ _))
      refine ite _ (h2.setItem _) (ite _ (h2.endOn _ _ _) (ite _ (h2.serveDestroy _ _) (ite _ (h2.serveReseed _ _) ?_)))
      split
      next c3 r heq => exact ((of_eq heq (h2.earlyNoted _ _)).reportCorrupt _ _).endOn _ _ _
      next c3 heq => exact (of_eq heq (h2.earlyNoted _ _)).serveOn _ _ _

theorem serveAgain (h : c.Canonical) (x : Item) (k : Nat) : (c.serveAgain x k).Canonical := by
  unfold Channel.serveAgain
  refine ite _ (h.endOn _ _ _) (ite _ ?_ (h.finishOn _ _ _))
  split
  · exact h.endOn _ _ _
  · exact h.issue _ _ _

theorem serve (h : c.Canonical) (p : PortDie) (o : Op) (id : Nat) : (c.serve p o id).Canonical := by
  unfold Channel.serve
  split
  · exact h
  · exact ite _ h (ite _ (h.serveFirst _ _ _) (h.serveAgain _ _))

theorem serveFault (h : c.Canonical) (o : Op) (id : Nat) (how : ServeFault) : (c.serveFault o id how).Canonical := by
  unfold Channel.serveFault
  split
  · exact h
  · refine ite _ h ?_
    cases how with
    | memory m => exact ite _ ((h.clearHealth _).endOn _ _ _) h
    | read m a => exact ite _ h ((h.event _ _ _).endOn _ _ _)
    | write m a => exact ite _ h (((h.onSched _).clearHealth _).event _ _ _)

/-! ### Cores (R88 to R91) -/

theorem dispatch (h : c.Canonical) (k : Nat) : (c.dispatch k).Canonical := by
  unfold Channel.dispatch
  split
  · exact ite _ h (((h.setItem _).onSched _).trace _ _ _ _ _ _ _)
  · exact h

theorem sliceTimer (h : c.Canonical) (k : Nat) : (c.sliceTimer k).Canonical := by
  unfold Channel.sliceTimer
  split
  · exact h
  · split
    · exact ite _ h ((h.trace _ _ _ _ _ _ _).yieldCore _ _ _)
    · exact h

/-! ### Rakes (R178 to R184, R201) -/

theorem mapRake (h : c.Canonical) (n : Nat) (f : RakeRegs → RakeRegs) : (c.mapRake n f).Canonical := h

theorem laneSlice (h : c.Canonical) (n : Nat) (j : Job) : (c.laneSlice n j).Canonical :=
  have hslice {f : Pair → Pair} := h.sync.mapPair n f
  ite _ hslice (of_mk hslice)

theorem rakeStart (h : c.Canonical) (n : Nat) : (c.rakeStart n).Canonical := by
  unfold Channel.rakeStart
  split
  · exact h
  next j _ =>
    extract_lets free ok c1
    have h1 : c1.Canonical := by
      unfold c1
      split
      · exact ite _ h ((h.maskDraw _).setItem _)
      · exact h
    exact ite _ h (laneSlice (of_mk h1) _ _)

theorem rakeSliceEnd (h : c.Canonical) (n : Nat) : (c.rakeSliceEnd n).Canonical := by
  unfold Channel.rakeSliceEnd
  split
  · exact h
  · exact ite _ h (ite _ (mapPair (of_mk h) _ _) (ite _ ((mapPair (of_mk h) _ _).mapRake _ _) (h.laneSlice _ _)))

theorem rejoin (h : c.Canonical) (id : Nat) : (c.rejoin id).Canonical := by
  unfold Channel.rejoin
  split
  · exact h.enterSaved _
  · exact h

theorem faultItem (h : c.Canonical) (x : Item) (w : WorkEnd) : (c.faultItem x w).Canonical := by
  unfold Channel.faultItem
  extract_lets r c1
  have h1 : c1.Canonical := by
    unfold c1
    split
    · exact h.killStream _ _
    · exact h.killStream _ _
    · exact h.killStream _ _
    · exact h
  exact (h1.noteResult _ _).abort _ _

theorem laneCompareFault (h : c.Canonical) (ch : Chan) (n : Nat) (x : Item) : (c.laneCompareFault ch n x).Canonical :=
  have hlogged {f : Pair → Pair} {g : RakeRegs → RakeRegs} {r : Rakes} :
      { (c.mapPair n f).mapRake (n / 8) g with rakes := r }.Canonical := of_mk ((h.mapPair n f).mapRake _ g)
  (event (ite _ (hlogged.mapSkim _) hlogged) ch 0x20 n).faultItem x _

theorem laneBusFault (h : c.Canonical) (ch : Chan) (n lane : Nat) (x : Item) : (c.laneBusFault ch n lane x).Canonical :=
  (event (of_mk ((h.mapPair _ _).mapRake _ _)) _ _ _).faultItem _ _

theorem rakeGood (h : c.Canonical) (n : Nat) : (c.rakeGood n).Canonical := by
  unfold Channel.rakeGood
  split
  · exact h
  · exact ite _ h ((h.mapPair _ _).rejoin _)

theorem reportRefused (h : c.Canonical) (write : Bool) (a : Nat) : (c.reportRefused write a).Canonical := h

theorem rakeRefused (h : c.Canonical) (n : Nat) (hbm write : Bool) (a : Nat) : (c.rakeRefused n hbm write a).Canonical := by
  unfold Channel.rakeRefused
  split
  · exact h
  · split
    · exact h
    · exact ite _ h ((h.reportRefused _ _).faultItem _ _)

/-! ### Digest engines (R206 to R218) -/

theorem mapDigest (h : c.Canonical) (n : Nat) (f : DigestEngine → DigestEngine) : (c.mapDigest n f).Canonical := h

theorem digestSlice (h : c.Canonical) (n : Nat) (j : Job) (start : Nat) : (c.digestSlice n j start).Canonical := h

theorem digestFault (h : c.Canonical) (n kind : Nat) (detail : BitVec 4) : (c.digestFault n kind detail).Canonical := by
  unfold Channel.digestFault
  split
  · exact h
  next x _ => exact (noteResult (of_mk ((h.stop x).mapDigest _ _)) _ _).produce _ _ _ _

theorem digestStart (h : c.Canonical) (n : Nat) : (c.digestStart n).Canonical := by
  unfold Channel.digestStart
  split
  · exact h
  · refine ite _ h ?_
    extract_lets _ c1
    have h1 : c1.Canonical := of_mk h
    split
    · exact h1
    · exact ite _ (h1.digestSlice _ _ _) (ite _ (h1.digestSlice _ _ _) ((h1.mapDigest _ _).digestFault _ _ _))

theorem digestSliceEnd (h : c.Canonical) (n : Nat) : (c.digestSliceEnd n).Canonical := by
  have hsync := h.sync
  unfold Channel.digestSliceEnd
  extract_lets c1
  have h1 : c1.Canonical := hsync
  split
  · exact h1
  · extract_lets c2
    have h2 : c2.Canonical := by
      unfold c2
      split
      · exact h1.trace _ _ _ _ _ _ _
      · exact h1
    exact ite _ h1 (ite _ (of_mk (h2.mapDigest _ _)) (h2.digestSlice _ _ _))

theorem digestGood (h : c.Canonical) (n : Nat) : (c.digestGood n).Canonical := by
  unfold Channel.digestGood
  extract_lets c1
  have h1 : c1.Canonical := h.sync
  split
  · exact h1
  · refine ite _ h1 ?_
    split
    · exact h1.mapDigest _ _
    · exact (noteResult (of_mk (h1.mapDigest _ _)) _ _).produce _ _ _ _

theorem digestRefused (h : c.Canonical) (n : Nat) : (c.digestRefused n).Canonical := by
  unfold Channel.digestRefused
  split
  · exact (h.digestFault _ _ _).event _ _ _
  · exact h

theorem digestPiece (h : c.Canonical) (n : Nat) (hbm write : Bool) (a : Nat) : (c.digestPiece n hbm write a).Canonical := by
  unfold Channel.digestPiece
  split
  · exact h
  · exact ite _ h ((h.digestFault _ _ _).reportRefused _ _)

/-! ### Public-key engines (R234 to R242) -/

theorem mapPk (h : c.Canonical) (n : Nat) (f : PkEngine → PkEngine) : (c.mapPk n f).Canonical := h

theorem noteSigning (h : c.Canonical) (x : Item) (ks : List Loaded) : (c.noteSigning x ks).Canonical := by
  unfold Channel.noteSigning
  split
  · exact of_mk h
  · exact h

theorem pkRun (h : c.Canonical) (n : Nat) (j : PkJob) (x : Item) : (c.pkRun n j x).Canonical := mapPk (of_mk h) _ _

theorem pkStart (h : c.Canonical) (n : Nat) : (c.pkStart n).Canonical := by
  unfold Channel.pkStart
  split
  · exact h
  · refine ite _ h ?_
    split
    · exact of_mk h
    · refine ite _ (h.pkRun _ _ _) ?_
      split
      next c1 x1 heq => exact of_eq heq (h.drawFor _ _)
      next c1 x1 heq =>
        have h1 : c1.Canonical := of_eq heq (h.drawFor _ _)
        split
        next c2 x2 heq => exact (of_eq heq (ite_fst _ h1 (h1.blind _))).setItem _
        next c2 x2 heq =>
          have h2 : c2.Canonical := of_eq heq (ite_fst _ h1 (h1.blind _))
          exact ite _ ((noteResult (of_mk h2) _ _).produce _ _ _ _) ((h2.setItem _).pkRun _ _ _)

theorem pkAbort (h : c.Canonical) (n : Nat) (x : Item) (r : Res) : (c.pkAbort n x r).Canonical :=
  (stop (of_mk ((h.noteResult _ _).mapPk _ _)) _).produce _ _ _ _

theorem pkValidate (h : c.Canonical) (n : Nat) : (c.pkValidate n).Canonical := by
  unfold Channel.pkValidate
  dsimp only
  split
  · refine ite _ h ?_
    split
    · exact pkAbort (of_mk h) _ _ _
    · exact h.mapPk _ _
  · exact h

theorem pkReport (h : c.Canonical) (n : Nat) : (c.pkReport n).Canonical := by
  unfold Channel.pkReport
  dsimp only
  split
  · exact ite _ h (((h.setItem _).mapPk _ _).trace _ _ _ _ _ _ _)
  · exact h

theorem pkInvariant (h : c.Canonical) (ch : Chan) (n : Nat) (x : Item) : (c.pkInvariant ch n x).Canonical :=
  (event (of_mk h) _ _ _).pkAbort _ _ _

theorem pkFault (h : c.Canonical) (n kind : Nat) (detail : BitVec 4) (x : Item) : (c.pkFault n kind detail x).Canonical :=
  pkAbort (of_mk h) _ _ _

theorem pkPiece (h : c.Canonical) (n : Nat) (j : PkJob) (x : Item) (hbm write : Bool) (a : Nat) :
    (c.pkPiece n j x hbm write a).Canonical := ite _ h ((h.reportRefused _ _).pkAbort _ _ _)

/-- What an operation leaves behind is kept, or the item waits for shadow entries. -/
theorem pkLeave (h : c.Canonical) (hd : d.Canonical) (n : Nat) (x : Item) (r : Res) : (c.pkLeave d n x r).Canonical := by
  unfold Channel.pkLeave
  split
  · exact (h.mapPk _ _).setItem _
  · exact (((hd.noting c _).mapPk _ _).noteResult _ _).produce _ _ _ _

theorem pkWiped (h : c.Canonical) (n : Nat) : (c.pkWiped n).Canonical := h

end Channel.Canonical

end Sys2Proof.Machine
end

section
/-! The store regions stay canonical through what else happens in a channel (O58): waits, fills, the generator, management changes,
function resets, the refill, starts, tests and the boundary. Regions that are loaded whole are set key by key. -/

namespace Sys2Proof.Machine

namespace Channel.Canonical

variable {c d : Channel}

/-! ### Register pages (R97 to R427) -/

theorem readPage (h : c.Canonical) (pins : PinView) (page offset : Nat) : (c.readPage pins page offset).2.Canonical := by
  have hsync {b : Prop} [Decidable b] : (if b then c.sync else c).Canonical := ite b h.sync h
  have snd_ite {p q : Word × Channel} {b : Prop} [Decidable b] (hp : p.2.Canonical) (hq : q.2.Canonical) :
      (if b then p else q).2.Canonical := by split <;> assumption
  unfold Channel.readPage
  dsimp only
  split
  · exact of_mk hsync
  · exact of_mk hsync
  · refine snd_ite ?_ (of_mk hsync)
    unfold rakeClear
    dsimp only
    split <;> exact of_mk hsync
  · exact snd_ite (of_mk hsync) (of_mk hsync)
  · exact snd_ite (of_mk hsync) (of_mk hsync)
  · exact withKeys (Keys.Canonical.keyClear hsync _) _
  · exact of_mk hsync
  · exact of_mk hsync

theorem writeShadow (h : c.Canonical) (r : ChanShadow) (v : Word) : (c.writeShadow r v).Canonical := by
  cases r <;> exact of_mk h

theorem popFault (h : c.Canonical) : c.popFault.2.Canonical := by
  unfold Channel.popFault
  split
  · exact h
  · exact of_mk h

/-! ### Waits in service (R87, R258, R262) -/

theorem decodeLate (h : c.Canonical) (ch : Chan) : (c.decodeLate ch).Canonical := by
  unfold Channel.decodeLate
  split
  · exact h
  · exact ite _ h (of_mk (((h.mapSched _).clearHealth _).event _ _ _))

theorem startOne (h : c.Canonical) (id : Nat) : (c.startOne id).Canonical := by
  unfold Channel.startOne
  split
  · exact h
  · split
    · exact h.tryStart _ _
    · exact h.laneTake _
    · exact h

theorem shadowAcquire (h : c.Canonical) (id : Nat) : (c.shadowAcquire id).Canonical := by
  unfold Channel.shadowAcquire
  split
  · exact h
  · split
    · exact ite _ h (h.enter _)
    · exact h

theorem usersDrained (h : c.Canonical) (id : Nat) : (c.usersDrained id).Canonical := by
  unfold Channel.usersDrained
  split
  · exact h
  · split
    · exact ite _ h (h.enter _)
    · exact h

theorem holdExpiry (h : c.Canonical) (x : Item) : (c.holdExpiry x).Canonical := h.setItem _

theorem applyVerdict (h : c.Canonical) (n : Nat) (expire : Bool) : (c.applyVerdict n expire).Canonical := by
  unfold Channel.applyVerdict
  split
  · exact h
  · refine ite _ (h.timeOut _) ?_
    dsimp only
    split
    · exact (h.setItem _).usersDrained _
    · exact (h.setItem _).tryStart _ _

/-! ### Key cache fills (R110, R111, R265) -/

theorem fillStart (h : c.Canonical) (slot : Nat) : (c.fillStart slot).Canonical := by
  unfold Channel.fillStart
  dsimp only
  split
  · exact ite _ h h
  · split
    · exact h
    · exact ite _ h h

theorem filled (h : c.Canonical) (x : Item) : (c.filled x).Canonical := by
  unfold Channel.filled
  dsimp only
  split
  · exact (h.setItem _).laneJoin _
  · exact h.setItem _

theorem fillDone (h : c.Canonical) (ch : Chan) (slot : Nat) : (c.fillDone ch slot).Canonical := by
  unfold Channel.fillDone
  split
  · exact h
  · extract_lets out full _ c1 waits c2
    clear_value full out
    have h1 : c1.Canonical := h
    have h2 : c2.Canonical := by
      unfold c2
      split
      · exact h1.placeKey _ _ _ _ _ _ _
      · dsimp only
        split
        · exact ite _ ((h1.noteFill _ _ _).mapSkim _) (h1.noteFill _ _ _)
        · exact h1.noteFill _ _ _
    refine ite _ h (h2.foldl _ fun x hc => ?_)
    split
    · exact ite _ (hc.filled _) (hc.setItem _)
    · exact hc

/-! ### The generator (R285 to R305) -/

theorem drawsEnd (h : c.Canonical) (x : Item) : (c.drawsEnd x).Canonical := by
  unfold Channel.drawsEnd
  extract_lets y c1 r c2
  have h2 : c2.Canonical := (h.setItem y).onSched _
  split
  · exact h2
  · exact (noteResult (of_mk h2) _ _).produce _ _ _ _

theorem rngFail (h : c.Canonical) (ch : Chan) (cause source : BitVec 3) : (c.rngFail ch cause source).Canonical := by
  unfold Channel.rngFail
  refine ite _ h (foldl (foldl ?_ _ fun x hc => hc.drawsEnd x) _ fun x hc => (hc.noteResult _ _).schedPort _ _)
  exact event (of_mk ((h.mapRng _).clearHealth _)) _ _ _

theorem rngSeed (h : c.Canonical) (ch : Chan) (noise : Bytes) : (c.rngSeed ch noise).Canonical := by
  unfold Channel.rngSeed
  split
  · exact h
  · exact ite _ h (h.mapRng _)

theorem heardFailure (h : c.Canonical) (ch : Chan) : (c.heardFailure ch).Canonical := by
  unfold Channel.heardFailure
  split
  · exact h.rngFail _ _ _
  · exact h

theorem drbgDue (h : c.Canonical) : c.drbgDue.Canonical := ite _ (h.mapRng _) h

theorem drbgReseed (h : c.Canonical) (ch : Chan) (noise : Bytes) : (c.drbgReseed ch noise).Canonical := by
  unfold Channel.drbgReseed
  split
  · exact h
  · exact ite _ h ((h.mapRng _).foldl _ fun x hc => hc.schedPort _ _)

theorem portServe (h : c.Canonical) (k : Nat) (v : Word) (other : Bytes) : (c.portServe k v other).Canonical := by
  unfold Channel.portServe
  extract_lets len index g put got wait failed
  have hput (g : Rng) (q : RngPort) : (put g q).Canonical := of_mk h
  refine ite _ (hput _ _) (ite _ (hput _ _) (ite _ (ite _ (hput _ _) (hput _ _)) ?_))
  split
  · exact h
  · split <;> exact hput _ _

theorem portRead (h : c.Canonical) (k : Nat) (other : Bytes) : (c.portRead k other).Canonical := by
  unfold Channel.portRead
  extract_lets c1 q
  have h1 : c1.Canonical := by
    unfold c1
    split
    · exact h.portServe _ _ _
    · exact h
  exact ite _ h1 (of_mk h1)

theorem renewalDue (h : c.Canonical) : c.renewalDue.Canonical := ite _ h (h.mapRng _)

theorem contribute (h : c.Canonical) (noise : Bytes) : (c.contribute noise).Canonical := by
  unfold Channel.contribute
  split
  · exact h
  · exact ite _ h (h.mapRng _)

theorem formWith (h : c.Canonical) (ch : Chan) (peer : Bytes) (anew : Bool) : (c.formWith ch peer anew).Canonical := by
  unfold Channel.formWith
  split
  · exact h
  · split
    · exact h
    · exact ite _ h (h.mapRng _)

theorem giveVr (h : c.Canonical) (intake number : Nat) (seed : Bytes) : (c.giveVr intake number seed).Canonical := by
  unfold Channel.giveVr
  refine ite _ h (ite _ ?_ (journalWrite ?_ _ _ _)) <;> exact h

theorem epochEffect (h : c.Canonical) (intake : Nat) : (c.epochEffect intake).Canonical := by
  unfold Channel.epochEffect
  split
  · exact h
  · split
    · refine ite _ h (foldl ((h.mapRng _).giveVr _ _ _).releaseEpochs _ fun x hc => ?_)
      split
      · exact hc.schedPort _ _
      · exact hc
    · exact h

/-! ### Management changes (R155, R170 to R173, R398 to R405) -/

theorem mapFlash (h : c.Canonical) (f : Flash → Flash) : (c.mapFlash f).Canonical := h

theorem putMgmt (h : c.Canonical) (n fn slot : Nat) (a : Attr) (cls : BitVec 2) (alg : Nat) (key : Bytes) :
    (c.putMgmt n fn slot a cls alg key).1.Canonical := h.install _ _ _ _

theorem combineCeremony (h : c.Canonical) (n : Nat) (s : Session) (parts : List Bytes) :
    (c.combineCeremony n s parts).1.Canonical := by
  unfold Channel.combineCeremony
  extract_lets len x key fail
  have hfail : fail.1.Canonical := h.endSession _ _
  refine ite_fst _ hfail ?_
  split
  · exact hfail
  · exact ite_fst _ (h.putMgmt _ _ _ _ _ _ _) hfail

theorem addComponent (h : c.Canonical) (n slot index officer : Nat) (kcv part : Bytes) :
    (c.addComponent n slot index officer kcv part).1.Canonical := by
  unfold Channel.addComponent
  split
  · exact h
  · exact ite_fst _ h (ite_fst _ (h.endSession _ _) (ite_fst _ (h.holdSession _ _) (h.combineCeremony _ _ _)))

theorem importBlock (h : c.Canonical) (n fn kbpk target : Nat) (replace : Bool) (block : Bytes) :
    (c.importBlock n fn kbpk target replace block).1.Canonical := by
  unfold Channel.importBlock
  dsimp only
  split
  · refine ite_fst _ h ?_
    split
    · exact h
    · exact h.putMgmt _ _ _ _ _ _ _
  · exact h

/-- A change installs, destroys or loads keys, moves a session, clears part of the vault, unbinds a DUKPT record, or leaves the
regions. -/
theorem change (h : c.Canonical) (n : Nat) (x : Change) : (c.change n x).1.Canonical := by
  unfold Channel.change
  extract_lets ok
  cases x with
  | component slot i o kcv part => exact h.addComponent _ _ _ _ _ _
  | keyBlock f k t r b => exact h.importBlock _ _ _ _ _ _
  | destroy slot => exact h.destroySlot _ _
  | basinClear i =>
    obtain ⟨hslots, hdukpt, hentries, hindex⟩ := h
    exact ⟨hslots, hdukpt, SMap.wf_filter _ hentries, SMap.wf_filter _ hindex⟩
  | unbind i => exact Keys.Canonical.withDukpt h (SMap.wf_erase i (Keys.Canonical.dukpt h))
  | image r => exact c.keys.setRegions_canonical r
  | _ => exact h

theorem takeChange (h : c.Canonical) (n : Nat) (x : Change) : (c.takeChange n x).1.Canonical := by
  unfold Channel.takeChange
  extract_lets r d
  have hr : r.1.Canonical := h.change n x
  have hd : d.Canonical := by
    unfold d
    split
    · exact hr.journalWrite _ _ _
    · exact hr
  exact ite _ (hd.journalWrite _ _ _) hd

theorem provision (h : c.Canonical) (n : Nat) (bk : Bytes) (officers : List (Nat × Officer)) :
    (c.provision n bk officers).Canonical := by
  have hkeys : { c.keys with slots := [] }.Canonical := Keys.Canonical.withSlots h rfl
  exact hkeys

theorem firstRootWritten (h : c.Canonical) : c.firstRootWritten.Canonical := by
  unfold Channel.firstRootWritten
  dsimp only
  split <;> exact h

theorem verifyOn (h : c.Canonical) (alg : Nat) : (c.verifyOn alg).Canonical := h.mapPk _ _

theorem liftFence (h : c.Canonical) : c.liftFence.Canonical := foldl (settle (of_mk h)) _ fun _ hc => hc.tryStart _ _

theorem recover (h : c.Canonical) (image : Bytes) : (c.recover image).Canonical := ite _ (of_mk h) h

/-! ### Function resets (R346 to R348) -/

theorem wipeFn (h : c.Canonical) (f intakeNo : Nat) : (c.wipeFn f intakeNo).Canonical := by
  unfold Channel.wipeFn
  extract_lets
  refine journalWrite (foldl ?_ _ fun x hc => hc.journalWrite _ _ _) _ _ _
  exact h

theorem holdStream (h : c.Canonical) (x : Item) : (c.holdStream x).Canonical := by
  unfold Channel.holdStream
  dsimp only
  split
  · exact ite _ ((h.stop x).enter _) h
  · exact h

theorem resetR (h : c.Canonical) (fns : List Nat) (n : Nat) : (c.resetR fns n).Canonical := by
  unfold Channel.resetR
  refine of_mk (foldl (foldl (foldl (h.onSched _) _ fun x hc => ?_) _ fun x hc => ?_) _ fun f hc => hc.wipeFn _ _)
  · split
    · exact hc.removeItem _
    · exact hc
  · split
    · exact hc.holdStream _
    · exact hc

theorem resetV (h : c.Canonical) (fns : List Nat) (n : Nat) (union : List Nat) : (c.resetV fns n union).Canonical := by
  unfold Channel.resetV
  refine settle (of_mk (foldl (h.onSched _) _ fun x hc => ?_))
  split
  · exact hc.removeItem _
  · exact hc

/-! ### After-images and the refill (R323 to R329) -/

theorem applySlot (h : c.Canonical) (recs : List (Nat × Bytes)) : (c.applySlot recs).Canonical := by
  have hrecs : (c.keys.writeRecords recs).Canonical := Keys.Canonical.writeRecords h recs
  exact ite _ hrecs hrecs

theorem applyImage (h : c.Canonical) (i : Image) : (c.applyImage i).Canonical := by
  cases i with
  | slot recs => exact h.applySlot recs
  | basin n b entry index => exact Keys.Canonical.setVault h _ entry index
  | dukpt n r => exact Keys.Canonical.withDukpt h (SMap.wf_set n r (Keys.Canonical.dukpt h))
  | ledger e => exact Keys.Canonical.applyLedger h e
  | exhaustion slot g t => exact Keys.Canonical.rewrite h slot g id _
  | management x => exact ite _ (h.change 0 x) h
  | _ => exact h

theorem writeCheckpoint (h : c.Canonical) (low : Nat) : (c.writeCheckpoint low).Canonical := h

theorem startCheckpoint (h : c.Canonical) : c.startCheckpoint.Canonical := h

theorem checkpointDue (h : c.Canonical) : c.checkpointDue.Canonical := ite _ (h.writeCheckpoint _) h

theorem copyFrom (c src : Channel) : (c.copyFrom src).Canonical := c.keys.setRegions_canonical src.keys.regions

theorem toStep (h : c.Canonical) (v : StartStep) : (c.toStep v).Canonical := h

theorem refillStep (h : c.Canonical) (v : RefillStep) : (c.refillStep v).Canonical := h

theorem takeDelta (h : c.Canonical) (x : Delta) : (c.takeDelta x).Canonical :=
  of_mk (ite _ h ((h.applyImage _).journalWrite _ _ _))

theorem takeEpochs (h : c.Canonical) (src : Channel) : (c.takeEpochs src).Canonical := h

theorem takeSnapshot (h : c.Canonical) (src : Channel) : (c.takeSnapshot src).Canonical := h

theorem loadKept (h : c.Canonical) (k : Kept) : (c.loadKept k).Canonical := h

theorem placePlaceholders (h : c.Canonical) (l : List (Nat × Place)) : (c.placePlaceholders l).Canonical := h

theorem takeDelayed (h : c.Canonical) (ids : List Nat) (base : Nat) (x : Item) : (c.takeDelayed ids base x).Canonical :=
  addItem (of_mk h) _

theorem takeHandover (h : c.Canonical) (p : PortDie) (x : Handover) : (c.takeHandover p x).Canonical :=
  foldl (of_mk (of_mk h)) _ fun _ hc => hc.takeDelayed _ _ _

theorem takeLate (h : c.Canonical) (x : Delta) : (c.takeLate x).Canonical := by
  unfold Channel.takeLate
  split
  · refine ite _ ?_ h
    split <;> exact h
  · exact h.takeDelta x

theorem dropPlaceholders (h : c.Canonical) (gone : Nat × FlowKind × Nat → Bool) : (c.dropPlaceholders gone).Canonical :=
  settle (foldl (of_mk h) _ fun _ hc => hc.leaveFlows _)

/-! ### Starts and resets (R370 to R381, R429 to R439) -/

/-- A restart keeps the regions where the memory held them, or begins with none. -/
theorem restart (h : c.Canonical) (kept : Bool) : (c.restart kept).Canonical := by
  cases kept with
  | true => exact h
  | false => exact ⟨rfl, rfl, rfl, rfl⟩

theorem waitOn (h : c.Canonical) : c.waitOn.Canonical := ite _ ((h.toStep _).mapRng _) h

theorem hold (h : c.Canonical) (kept : Bool) : (c.hold kept).Canonical := of_mk (h.restart kept)

theorem release (h : c.Canonical) : c.release.Canonical := ite _ h (of_mk h)

theorem checkIsland (h : c.Canonical) : c.checkIsland.1.Canonical := by
  unfold Channel.checkIsland
  extract_lets i put j
  have hput (i : Island) : (put i).Canonical := of_mk h
  refine ite_fst _ (hput _) ?_
  split <;> exact hput _

theorem programEvidence (h : c.Canonical) (ch : Chan) : (c.programEvidence ch).Canonical :=
  of_mk (h.foldl _ fun _ hc => ite _ (hc.event _ _ _) (of_mk hc))

theorem openRoot (h : c.Canonical) : c.openRoot.Canonical := by
  unfold Channel.openRoot
  extract_lets ebb _ c1
  have h1 : c1.Canonical := of_mk h
  refine ite _ h1 ?_
  split <;> exact h1

theorem programLevels (h : c.Canonical) : c.programLevels.Canonical := ite _ (of_mk h) h

theorem joinFirst (h : c.Canonical) (k : Kept) (wipes : List Nat) : (c.joinFirst k wipes).Canonical := by
  unfold Channel.joinFirst
  extract_lets c1 c2
  have h1 : c1.Canonical := ((h.epochEffect 0).loadKept k).foldl _ fun _ hc => hc.wipeFn _ _
  have h2 : c2.Canonical := ite _ h1.startCheckpoint h1
  exact of_mk (h2.toStep _)

theorem rootWritten (h : c.Canonical) : c.rootWritten.Canonical := by
  unfold Channel.rootWritten
  split
  · exact ite _ h h
  · exact h

/-! ### Tests, health and the boundary (R35, R311 to R314) -/

theorem memoryError (h : c.Canonical) (bit : Nat) (r : TestEnd) : (c.memoryError bit r).Canonical := by
  cases r <;> exact h

theorem scrub (h : c.Canonical) (hbm : Bool) (r : TestEnd) : (c.scrub hbm r).Canonical :=
  ite _ (h.memoryError _ _) (ite _ (of_mk h) (of_mk h))

theorem coreTest (h : c.Canonical) (ch : Chan) (n : Nat) (r : TestEnd) : (c.coreTest ch n r).Canonical := by
  unfold Channel.coreTest
  split
  · exact h
  · exact ite _ h (ite _ (((h.onSched _).clearHealth _).event _ _ _) (h.onSched _))

theorem pkTest (h : c.Canonical) (ch : Chan) (n : Nat) (r : TestEnd) : (c.pkTest ch n r).Canonical :=
  ite _ h (ite _ ((h.mapPk _ _).event _ _ _) (h.mapPk _ _))

theorem schedCycle (h : c.Canonical) : c.schedCycle.Canonical := (h.onSched _).landSaves

theorem openTide (h : c.Canonical) (p : PortDie) : (c.openTide p).Canonical := h

theorem reload (h : c.Canonical) (p : PortDie) : (c.reload p).Canonical := (h.openTide p).mapSkim _

theorem takeEbb (h : c.Canonical) : c.takeEbb.Canonical := h

theorem exhaustDue (h : c.Canonical) (p : PortDie) : (c.exhaustDue p).Canonical := h.foldl _ fun _ hc => hc.exhaustMark _ _

theorem boundary (h : c.Canonical) (p : PortDie) : (c.boundary p).Canonical :=
  ite _ h (((h.takeEbb.reload p).exhaustDue p).releaseDue p)

theorem report (h : c.Canonical) : c.report.Canonical := ite _ h (of_mk h)

theorem clearPreempts (h : c.Canonical) : c.clearPreempts.Canonical := h.onSched _

theorem noteWaits (h : c.Canonical) (p : PortDie) : (c.noteWaits p).Canonical := h.onSched _

theorem temperature (h : c.Canonical) (r : Int) : (c.temperature r).Canonical := h

theorem trip (h : c.Canonical) : c.trip.Canonical := h

theorem tripRecover (h : c.Canonical) (ch : Chan) : (c.tripRecover ch).Canonical :=
  ite _ h ((programEvidence (of_mk h) ch).toStep _)

end Channel.Canonical

end Sys2Proof.Machine
end

section
/-! The regions of both channels: the port die's work on commands, completions and accesses leaves them in their form. -/

namespace Sys2Proof.Machine

/-- The regions of both channels are in their canonical form. -/
def State.Canonical (s : State) : Prop := s.a.Canonical ∧ s.b.Canonical

namespace State.Canonical

variable {s t u : State}

theorem of_next (hnext : (.next u : Out) = .next t) (hu : u.Canonical) : t.Canonical := Host.Outcome.next.inj hnext ▸ hu

/-- Completions on their way out leave the channels as they are. -/
theorem of_wayOut (h : s.Canonical) (hout : WayOut s t) : t.Canonical := by
  unfold Canonical
  rwa [hout.a, hout.b]

theorem of_portOnly (h : s.Canonical) (honly : PortOnly s t) : t.Canonical := by
  obtain ⟨ha, hb⟩ := h
  obtain ⟨-, hta, htb⟩ := honly.only
  have hkeys {c d : Channel} (heq : d.quiet = c.quiet) (hc : c.Canonical) : d.Canonical := by
    have hsame : d.keys = c.keys := (congrArg Channel.keys heq :)
    unfold Channel.Canonical
    rwa [hsame]
  exact ⟨hkeys hta ha, hkeys htb hb⟩

theorem ite (b : Prop) [Decidable b] (ht : t.Canonical) (hu : u.Canonical) : (if b then t else u).Canonical := by
  split
  · exact ht
  · exact hu

theorem foldl {α : Type} {l : List α} {f : State → α → State} (h : s.Canonical)
    (hf : ∀ t, ∀ x ∈ l, t.Canonical → (f t x).Canonical) : (l.foldl f s).Canonical := by
  induction l generalizing s with
  | nil => exact h
  | cons x l ih => exact ih (hf s x (List.mem_cons_self ..) h) fun t y hy => hf t y (List.mem_cons_of_mem x hy)

theorem foldl_fst {α β : Type} {f : State × β → α → State × β} (hf : ∀ r x, r.1.Canonical → (f r x).1.Canonical)
    (l : List α) {r : State × β} (h : r.1.Canonical) : (l.foldl f r).1.Canonical := by
  induction l generalizing r with
  | nil => exact h
  | cons x l ih => exact ih (hf r x h)

/-! ### The writes of the state -/

theorem chan (h : s.Canonical) (ch : Chan) : (s.chan ch).Canonical := by
  cases ch
  · exact h.1
  · exact h.2

theorem updPort {f : PortDie → PortDie} (h : s.Canonical) : (s.updPort f).Canonical := h

theorem setPort {p : PortDie} (h : s.Canonical) : { s with port := p }.Canonical := h

theorem setFree {n : Nat} (h : s.Canonical) : { s with free := n }.Canonical := h

theorem tick (h : s.Canonical) : s.tick.Canonical := h

theorem drawn (h : s.Canonical) : s.drawn.Canonical := h

theorem setChan {ch : Chan} {c : Channel} (h : s.Canonical) (hc : c.Canonical) : (s.setChan ch c).Canonical := by
  cases ch
  · exact ⟨hc, h.2⟩
  · exact ⟨h.1, hc⟩

theorem upd {ch : Chan} {f : Channel → Channel} (h : s.Canonical) (hf : ∀ {c}, c.Canonical → (f c).Canonical) :
    (s.upd ch f).Canonical := h.setChan (hf (h.chan ch))

/-- Every one of a list of channels is updated. -/
theorem foldlUpd {l : List Chan} {f : State → Chan → Channel → Channel} (h : s.Canonical)
    (hf : ∀ {s ch c}, c.Canonical → (f s ch c).Canonical) : (l.foldl (fun s ch => s.upd ch (f s ch)) s).Canonical :=
  h.foldl fun _ _ _ ht => ht.upd hf

theorem finish {old : State} (h : s.Canonical) : (old.finish s).Canonical := by
  unfold Canonical
  rw [State.finish_a, State.finish_b]
  exact h

theorem drain (h : s.Canonical) : s.drain.Canonical := h

/-! ### The way out (R58 to R69) -/

theorem raiseError (h : s.Canonical) (f : Nat) : (s.raiseError f).Canonical := h.of_wayOut (.raiseError s f)

theorem fnErr (h : s.Canonical) (f : Nat) (e : FnErr) : (s.fnErr f e).Canonical := h.of_wayOut (.fnErr s f e)

theorem devEvent {f : Global → Global} (h : s.Canonical) : (s.devEvent f).Canonical := h.of_wayOut (.devEvent s f)

theorem errCause (h : s.Canonical) (e : ErrCause) : (s.errCause e).Canonical :=
  .ite _ h.updPort (h.updPort.raiseError 0)

theorem dmaFault (h : s.Canonical) (f kind q addr : Nat) (part : Bool) : (s.dmaFault f kind q addr part).Canonical :=
  h.of_wayOut (.dmaFault s f kind q addr part)

theorem signal (h : s.Canonical) (q : Nat) : (s.signal q).Canonical := h.of_wayOut (.signal s q)

theorem emit (h : s.Canonical) (e : Egress) : (s.emit e).Canonical := h.of_wayOut (.emit s e)

theorem requestReset (h : s.Canonical) (fns : List Nat) (all egress : Bool) : (s.requestReset fns all egress).Canonical :=
  h.of_wayOut (.requestReset s fns all egress)

theorem hold (h : s.Canonical) (e : Egress) : (s.hold e).Canonical := h.of_wayOut (.hold s e)

theorem send (h : s.Canonical) (e : Egress) : (s.send e).Canonical := h.of_wayOut (.send s e)

theorem sendOwn (h : s.Canonical) (x : Header) (n : Nat) (code : Code) (detail : BitVec 4) :
    (s.sendOwn x n code detail).Canonical := h.send _

theorem sendRecord (h : s.Canonical) (r : CompRec) (tag : BitVec 2) (single : Bool) :
    (s.sendRecord r tag single).Canonical := h.send _

theorem drainPassing (h : s.Canonical) (n : Nat) : (s.drainPassing n).Canonical := by
  induction n generalizing s with
  | zero => exact h
  | succ n ih =>
    unfold State.drainPassing
    split
    · exact h
    · split
      · exact h
      · exact ih (h.updPort.emit _)

theorem holdPassing (h : s.Canonical) (f : Nat) : (s.holdPassing f).Canonical :=
  foldl h.updPort fun _ e _ ht => ht.hold e

theorem release (h : s.Canonical) (q : Nat) : (s.release q).Canonical :=
  .ite _ h (.ite _ (.ite _ h h.updPort) (foldl h.updPort fun _ e _ ht => ht.send e))

theorem releaseWaiting (h : s.Canonical) : s.releaseWaiting.Canonical :=
  h.foldl fun _ q _ ht => .ite _ ht (ht.release q)

theorem releaseFn (h : s.Canonical) (f : Nat) : (s.releaseFn f).Canonical := h.foldl fun _ q _ ht => ht.release q

theorem intakeDrop (h : s.Canonical) (f cause : Nat) (q : BitVec 16) (attributed : Bool) :
    (Machine.intakeDrop s f cause q attributed).Canonical := h.updPort.fnErr f _

theorem writeCqHead (h : s.Canonical) (f : Nat) (v : Word) : (s.writeCqHead f v).Canonical :=
  .ite _ h (.ite _ (h.intakeDrop _ _ _ _) (h.updPort.release _))

/-! ### The assay (R304 to R325) -/

theorem writeOffOne (h : s.Canonical) (x : Chan) (o : Outst) : (s.writeOffOne x o).Canonical :=
  h.of_wayOut (.writeOffOne s x o)

theorem writeHeldRng (h : s.Canonical) (x : Chan) : (s.writeHeldRng x).Canonical := h.of_wayOut (.writeHeldRng s x)

theorem soloFault (h : s.Canonical) (x : Chan) : (s.soloFault x).Canonical := h.updPort

theorem probeOver (h : s.Canonical) : s.probeOver.Canonical :=
  .ite _ h (upd (upd h fun hc => hc) fun hc => hc)

theorem probeFrom (h : s.Canonical) (n : Nat) : (s.probeFrom n).Canonical :=
  upd (upd h fun hc => hc) fun hc => hc

theorem retire (h : s.Canonical) (x : Chan) (cause : Nat) : (s.retire x cause).Canonical := by
  unfold State.retire
  refine .ite _ h (.ite _ ((h.soloFault x).writeHeldRng x) ?_)
  exact updPort (foldl (upd (devEvent (setPort h.probeOver)) fun hc => hc) fun _ o _ ht => ht.writeOffOne x o)

theorem inTime (h : s.Canonical) (ch : Chan) (cls : BitVec 3) : (s.inTime ch cls).Canonical := .ite _ h.updPort h

theorem late (h : s.Canonical) (ch : Chan) (cls : BitVec 3) : (s.late ch cls).Canonical :=
  .ite _ h (.ite _ (.ite _ (h.updPort.retire ch 3) h.updPort) h.updPort)

theorem verdict (h : s.Canonical) (x : Chan) (v cause : Nat) : (s.verdict x v cause).Canonical := h.updPort.retire x cause

theorem discord (h : s.Canonical) (o : Outst) : (s.discord o).Canonical := by
  unfold State.discord
  have hlogged {f : PortDie → PortDie} : ((s.updPort f).errCause .discord).Canonical := h.updPort.errCause _
  refine .ite _ hlogged ?_
  dsimp only
  split
  · exact hlogged.verdict _ 1 0
  · exact (hlogged.probeFrom _).updPort

theorem probeVerdict (h : s.Canonical) (r : Resolve) (o : Outst) : (s.probeVerdict r o).Canonical :=
  .ite _ (h.verdict .b 2 1) (.ite _ (h.verdict .a 2 1) (h.updPort.verdict _ _ 2))

theorem tryProbe (h : s.Canonical) : s.tryProbe.Canonical := by
  unfold State.tryProbe
  split
  · exact h
  · split
    · exact h.probeOver.updPort
    · exact .ite _ (h.probeVerdict _ _) h

theorem keepGot (h : s.Canonical) (ch : Chan) (o : Outst) (r : CompRec) : (s.keepGot ch o r).Canonical := h.updPort

theorem firstArrival (h : s.Canonical) (ch : Chan) (o : Outst) (r : CompRec) : (s.firstArrival ch o r).Canonical := by
  unfold State.firstArrival
  refine .ite _ (h.keepGot ch o r) (.ite _ ((ite _ h (h.sendRecord _ _ _)).updPort) ?_)
  have hkept {b : Prop} [Decidable b] {f : PortDie → PortDie} : ((if b then s else s.inTime ch o.cls).updPort f).Canonical :=
    (ite b h (h.inTime ch _)).updPort
  exact .ite _ (hkept.sendRecord _ _ _) hkept

theorem secondArrival (h : s.Canonical) (ch : Chan) (o : Outst) (x y : CompRec) : (s.secondArrival ch o x y).Canonical := by
  unfold State.secondArrival
  extract_lets late done lateness cmp lone
  have hdone {t : State} (ht : t.Canonical) : (done t).Canonical := ht.updPort
  have hlateness {t : State} (ht : t.Canonical) : (lateness t).Canonical := .ite _ (.ite _ ht (ht.late ch _)) (ht.inTime ch _)
  have hlone {t : State} (ht : t.Canonical) : (lone t).Canonical := .ite _ (ht.sendRecord _ _ _) ht
  cases cmp with
  | agree =>
    exact hlateness (hdone (.ite _ (.ite _ (hlone h) (h.sendRecord _ _ _)) (.ite _ h (h.sendRecord _ _ _))))
  | withdrawal =>
    have hc := updPort (f := fun p => { p with assay := { p.assay with withdrawalPairs := satBv p.assay.withdrawalPairs 1 } }) h
    exact hlateness (hdone (.ite _ (.ite _ (hlone hc) (hc.sendRecord _ _ _)) (.ite _ hc (hc.sendRecord _ _ _))))
  | generator =>
    have hc := updPort (f := fun p => { p with assay := { p.assay with generatorPairs := satBv p.assay.generatorPairs 1 } }) h
    exact hdone (.ite _ (.ite _ hc (hc.sendRecord _ _ _)) (.ite _ hc (hc.sendRecord _ _ _)))
  | discord => exact hlateness (discord (updPort (.ite _ (hlone h) (.ite _ h (h.sendRecord _ _ _)))) _)

theorem portArrive (h : s.Canonical) (ch : Chan) (r : CompRec) : (s.portArrive ch r).Canonical := by
  unfold State.portArrive
  refine .ite _ h ?_
  split
  · exact h
  · refine .ite _ h (.ite _ (h.keepGot _ _ _) (.ite _ ((h.sendRecord _ _ _).updPort) ?_))
    split
    · exact h.firstArrival _ _ _
    · exact h.secondArrival _ _ _ _

theorem takeReport (h : s.Canonical) (ch : Chan) : (s.takeReport ch).Canonical := by
  unfold State.takeReport
  split
  · exact h
  · exact updPort (upd h fun hc => hc)

theorem retireTogether (h : s.Canonical) (a b : Bool) (cause : Nat) : (s.retireTogether a b cause).Canonical :=
  match a, b with
  | true, true => (h.retire _ _).soloFault _
  | true, false => h.retire .a _
  | false, true => h.retire .b _
  | false, false => h

theorem judgeNow (h : s.Canonical) : s.judgeNow.Canonical := h.retireTogether _ _ _

theorem judge (h : s.Canonical) : s.judge.Canonical := .ite _ h.judgeNow h

theorem takeFault (h : s.Canonical) (ch : Chan) : (s.takeFault ch).1.Canonical := by
  unfold State.takeFault
  extract_lets r s1
  have h1 : s1.Canonical := h.setChan (h.chan ch).popFault
  split
  · exact h1
  · exact .ite _ h1.updPort h1

theorem writeLost (h : s.Canonical) (ch : Chan) : (s.writeLost ch).Canonical :=
  foldl h.updPort fun _ _ _ ht => (ht.sendOwn _ _ _ _).updPort

theorem takeFaults (h : s.Canonical) (ch : Chan) (n : Nat) : (s.takeFaults ch n).Canonical := by
  induction n generalizing s with
  | zero => exact h
  | succ n ih => exact ih (.ite _ ((h.takeFault ch).retire ch 4) (h.takeFault ch))

theorem reportFirst (h : s.Canonical) (ch : Chan) (r : CompRec) : (s.reportFirst ch r).Canonical :=
  .ite _ (h.takeFaults ch _) h

theorem arrive (h : s.Canonical) (ch : Chan) : (s.arrive ch).Canonical := by
  unfold State.arrive
  refine .ite _ h ?_
  split
  · exact h
  next r l _ =>
    have hrest : (s.upd ch fun c => { c with sched := { c.sched with buffer := l } }).Canonical := upd h fun hc => hc
    exact (hrest.reportFirst ch r).portArrive ch r

theorem arrivals (h : s.Canonical) (who : Arrivals) : (s.arrivals who).Canonical :=
  match who with
  | .one ch => h.arrive ch
  | .both => (h.arrive .a).arrive .b

theorem expire (h : s.Canonical) (o : Outst) (r : CompRec) (x : Chan) : (windowExpiry.expire s o r x).Canonical := by
  unfold windowExpiry.expire
  extract_lets write s1
  have h1 : s1.Canonical := h.updPort
  exact .ite _ h1 (late (.ite _ (h1.sendRecord _ _ _) h1) x _)

theorem windowExpiry (h : s.Canonical) (o : Outst) : (s.windowExpiry o).Canonical := by
  unfold State.windowExpiry
  split
  · exact .ite _ (h.expire _ _ _) h
  · exact .ite _ (h.expire _ _ _) h
  · exact h

/-! ### Commits, the access control unit and intake (R54, R352, R423) -/

theorem commitBlock {α : Type} [BEq α] {shadow : Channel → α} {f g : Channel → Channel} {keep : Channel → Kept → Kept}
    (h : s.Canonical) (hf : ∀ {c}, c.Canonical → (f c).Canonical) (hg : ∀ {c}, c.Canonical → (g c).Canonical) :
    (s.commitBlock shadow f g keep).1.Canonical := by
  unfold State.commitBlock
  split
  · have ha : (if s.port.joined .a then s.upd .a f else s).Canonical := .ite _ (h.upd hf) h
    exact updPort (.ite _ (ha.upd hf) ha)
  · split
    · exact (h.upd hg).upd hg
    · exact h

theorem applyBlock (h : s.Canonical) (m : Nat) : (s.applyBlock m).1.Canonical := by
  unfold State.applyBlock
  split
  · exact h.setPort
  · exact h.setPort
  · exact h.commitBlock (fun hc => hc.mapSched _) fun hc => hc.mapSched _
  · exact h.commitBlock (fun hc => hc.mapSkim _) fun hc => hc.mapSkim _
  · exact h.commitBlock (fun {_} hc => hc) fun hc => hc
  · exact h.updPort
  · exact h.updPort

theorem applyCommit (h : s.Canonical) (c : Commit) : (s.applyCommit c).Canonical := by
  unfold State.applyCommit
  extract_lets r g g' t
  have hr : r.1.Canonical := foldl_fst (r := (s, 0)) (fun r m hr => by
    dsimp only
    split
    · exact hr.applyBlock m
    · exact hr) (List.range 7) h
  exact .ite _ hr.updPort (hr.updPort.errCause _)

theorem applyCommits (h : s.Canonical) : s.applyCommits.Canonical := foldl h.updPort fun _ c _ ht => ht.applyCommit c

theorem writeCommit (h : s.Canonical) (v : Word) : (s.writeCommit v).Canonical :=
  .ite _ h (.ite _ (h.updPort.errCause _) h.updPort)

theorem shadowWrite (h : s.Canonical) (m : Nat) {f : State → State} (hf : (f s).Canonical) : (s.shadowWrite m f).Canonical :=
  .ite _ (h.updPort.errCause _) hf

theorem acuEnable (h : s.Canonical) (f : Nat) : (s.acuEnable f).Canonical := by
  unfold State.acuEnable
  dsimp only
  split
  · exact .ite _ h h.updPort
  · exact h.updPort.releaseFn f

theorem acuDisable (h : s.Canonical) (f : Nat) : (s.acuDisable f).Canonical := h.updPort.holdPassing f

theorem vfSeen (h : s.Canonical) (f : Nat) : (s.vfSeen f).Canonical := .ite _ h h.updPort

/-- A host access keeps the regions where its meaning does. -/
theorem hostAccess (h : s.Canonical) (x : Tlp) {f : State → State} (hf : ∀ {t : State}, t.Canonical → (f t).Canonical) :
    (s.hostAccess x f).Canonical :=
  .ite _ h (.ite _ ((h.vfSeen _).fnErr _ _) (hf (h.vfSeen _)))

theorem fanOut (h : s.Canonical) (k : Packet) : (s.fanOut k).Canonical := by
  unfold State.fanOut
  extract_lets p q x home
  refine .ite _ (h.sendOwn _ _ _ _) ?_
  have hport {p : PortDie} : { s with port := p }.Canonical := h
  have ha {b : Prop} [Decidable b] {p : PortDie} {k : Packet} :
      (if b then { s with port := p }.upd .a (·.delivered k) else { s with port := p }).Canonical :=
    .ite b (hport.upd fun hc => hc) hport
  exact .ite _ (ha.upd fun hc => hc) ha

theorem accept (h : s.Canonical) (k : Packet) : (s.accept k).Canonical := .ite _ (h.fanOut k) h.updPort

theorem resumeIntake (h : s.Canonical) (n : Nat) : (s.resumeIntake n).Canonical := by
  induction n generalizing s with
  | zero => exact h
  | succ n ih =>
    unfold State.resumeIntake
    split
    · exact h
    · split
      · exact ih (h.updPort.fanOut _)
      · exact h

theorem drop (h : s.Canonical) (f cause : Nat) (q : BitVec 16) : (s.drop f cause q).Canonical :=
  h.updPort.intakeDrop f cause q _

theorem attributed (h : s.Canonical) (x : Header) (pad size : Bool) {payload : State → State × Option Bytes}
    (hp : ∀ {t : State}, t.Canonical → (payload t).1.Canonical) : (s.attributed x pad size payload).Canonical := by
  unfold State.attributed
  extract_lets q ctx s1
  have h1 : s1.Canonical := h.updPort
  split
  · exact h1.sendOwn _ _ _ _
  · have hpayload := hp h1
    split <;> rename_i heq <;> rw [heq] at hpayload
    · exact hpayload.sendOwn _ _ _ _
    · exact hpayload.accept _

theorem doorbell (h : s.Canonical) (f offset : Nat) (data : Bytes) : (s.doorbell f offset data).Canonical := by
  unfold State.doorbell
  refine .ite _ h (.ite _ (h.drop _ _ _) ?_)
  dsimp only
  split
  · exact h.drop _ _ _
  · exact h.attributed _ _ _ fun ht => ht

theorem fetchPayload (h : s.Canonical) (f : Nat) (x : Header) (entry : Bytes) (payload : Option Bytes) :
    (s.fetchPayload f x entry payload).1.Canonical := by
  unfold State.fetchPayload
  extract_lets len addr bad
  split
  · exact h
  · split
    · exact h
    · split
      · exact h.foldl fun _ _ _ ht => ht.dmaFault _ _ _ _ _
      · split <;> exact h

theorem fetched (h : s.Canonical) (queue : BitVec 16) (ide : Option (BitVec 6)) (entry : Bytes) (payload : Option Bytes) :
    (s.fetched queue ide entry payload).Canonical := by
  unfold State.fetched
  refine .ite _ h (.ite _ (h.fnErr _ _) (.ite _ (h.updPort.dmaFault _ _ _ _ _) ?_))
  dsimp only
  split
  · exact h.updPort.drop _ _ _
  · exact h.updPort.attributed _ _ _ fun ht => ht.fetchPayload _ _ _ _

theorem writeRingTail (h : s.Canonical) (f : Nat) (v : Word) : (s.writeRingTail f v).Canonical :=
  .ite _ h (.ite _ (h.intakeDrop _ _ _ _) (.ite _ (h.intakeDrop _ _ _ _) h.updPort))

/-! ### The register interface (R415 to R426) -/

theorem writeWindow (h : s.Canonical) (f n j : Nat) (v : Word) : (s.writeWindow f n j v).Canonical :=
  .ite _ h.updPort h.updPort

theorem indErr (h : s.Canonical) (f : Global → Global) : (s.indErr f).Canonical := h.updPort.errCause _

theorem indRead (h : s.Canonical) (w : IndWord) : (s.indRead w).2.Canonical := by
  cases w with
  | queue q k => exact ite _ h.updPort h
  | fn f k => exact ite _ h.updPort h
  | qblock _ | fuse _ _ | island _ _ | trace _ _ => exact h

theorem indWrite (h : s.Canonical) (w : IndWord) (v : Word) : (s.indWrite w v).Canonical := by
  cases w with
  | queue q k =>
    unfold State.indWrite
    dsimp only
    split
    · exact h.shadowWrite 0 h.updPort
    · exact h.indErr _
  | fn f k =>
    exact .ite _ (h.writeWindow _ _ _ _) (.ite _ (h.shadowWrite 1 h.updPort)
      (.ite _ (.ite _ (h.acuEnable f) (h.acuDisable f)) (h.indErr _)))
  | qblock b => exact h.shadowWrite 1 h.updPort
  | fuse _ _ | island _ _ | trace _ _ => exact h.indErr _

theorem indAccess (h : s.Canonical) (w : Option Word) : (s.indAccess w).2.Canonical := by
  unfold State.indAccess
  extract_lets g r
  have hr : r.2.Canonical := by
    unfold r
    split
    · exact h.indErr _
    · split
      · exact h.indErr _
      · cases w with
        | none => exact h.indRead _
        | some v => exact h.indWrite _ v
  exact .ite _ hr.updPort hr

theorem devRead (h : s.Canonical) (o : Nat) : (s.devRead o).2.Canonical := by
  unfold State.devRead
  split
  · exact h.errCause _
  · split
    · exact h.indAccess none
    · exact h.updPort
  · exact h.updPort
  · exact h.updPort
  next ch page off _ =>
    have hread : (s.setChan ch ((s.chan ch).readPage (s.pinView ch) page off).2).Canonical :=
      h.setChan ((h.chan ch).readPage _ _ _)
    split
    · exact ite _ hread.drawn hread
    · exact h.errCause _

theorem devWrite (h : s.Canonical) (o : Nat) (v : Word) : (s.devWrite o v).Canonical := by
  unfold State.devWrite
  split
  · exact h.errCause _
  · split
    · exact h.updPort
    · exact h.writeCommit v
    · exact h.updPort
    · exact h.updPort
    · exact h.indAccess _
    · exact h
  · exact .ite _ (h.shadowWrite 5 h.updPort) h
  · exact .ite _ (h.shadowWrite 6 h.updPort) h
  · refine .ite _ (h.errCause _) ?_
    split
    · exact h
    · exact h.shadowWrite _ (h.upd fun hc => hc.writeShadow _ _)

theorem readWord (h : s.Canonical) (f : Nat) (bar : Bar) (o : Nat) : (s.readWord f bar o).2.Canonical := by
  unfold State.readWord
  cases bar with
  | bar0 =>
    dsimp only
    split
    · exact h
    · exact h.updPort
  | bar2 =>
    dsimp only
    split
    · exact h.devRead o
    · exact h
  | bar4 =>
    dsimp only
    split <;> exact h

theorem writeMsix (h : s.Canonical) (f o : Nat) (v : Word) : (s.writeMsix f o v).Canonical := .ite _ h (.ite _ h h)

theorem writeWord (h : s.Canonical) (f : Nat) (bar : Bar) (o : Nat) (v : Word) : (s.writeWord f bar o v).Canonical := by
  cases bar with
  | bar0 =>
    unfold State.writeWord
    dsimp only
    split
    · exact h.writeRingTail f v
    · exact h.writeCqHead f v
    · exact .ite _ h h.updPort
    · exact h
  | bar2 => exact .ite _ (h.devWrite o v) h
  | bar4 => exact h.writeMsix f o v

theorem accessError (h : s.Canonical) (f : Nat) : (s.accessError f).Canonical := errCause (.ite _ h h.updPort) _

theorem readWords (h : s.Canonical) (f : Nat) (bar : Bar) (o n : Nat) : (s.readWords f bar o n).2.Canonical := by
  induction n generalizing s o with
  | zero => exact h
  | succ n ih => exact ih (h.readWord f bar o) _

theorem writeWords (h : s.Canonical) (f : Nat) (bar : Bar) (o : Nat) (l : List Word) : (s.writeWords f bar o l).Canonical := by
  induction l generalizing s o with
  | nil => exact h
  | cons v l ih => exact ih (h.writeWord f bar o v) _

theorem hostRead (h : s.Canonical) (f : Nat) (bar : Bar) (o n : Nat) (enables : Bool) :
    (s.hostRead f bar o n enables).Canonical := by
  have hr := h.readWords f bar (o / 4 * 4) n
  exact ite _ hr (hr.accessError f)

theorem hostWrite (h : s.Canonical) (f : Nat) (bar : Bar) (o : Nat) (data : List Word) (enables : Bool) :
    (s.hostWrite f bar o data enables).Canonical :=
  .ite _ (h.doorbell _ _ _) (.ite _ (h.writeWords _ _ _ _) (h.accessError f))

end State.Canonical

end Sys2Proof.Machine
end

section
/-! The regions of both channels: the events of a channel, epochs, management and resets leave them in their form. -/

namespace Sys2Proof.Machine.State.Canonical

variable {s t u : State}

/-! ### Tamper responses (R357, R364, R368) -/

theorem respond (h : s.Canonical) (ch : Chan) (src : BitVec 23) : (s.respond ch src).Canonical := by
  unfold State.respond
  extract_lets c i _ c1 done level c2 _ c3 c4 union c5 c6 s1 s2 s3
  have h1 : c1.Canonical := .of_mk (h.chan ch)
  have h2 : c2.Canonical := h1.foldl _ fun _ hc => hc.event _ _ _
  have h3 : c3.Canonical := .ite _ h2 (.of_mk h2)
  have h4 : c4.Canonical := .ite _ (h3.setEvidence _) h3
  have h5 : c5.Canonical :=
    Channel.Canonical.respondUpTo (Channel.Canonical.beginResponse (.of_mk h4) level union) s.port.lastIntake done level
  have h6 : c6.Canonical := .ite _ (.of_mk h5) h5
  have hs1 : s1.Canonical := h.setChan h6
  have hs2 : s2.Canonical := .ite _ (hs1.raiseError 0) hs1
  have hs3 : s3.Canonical := .ite _ hs2 hs2.drain.updPort
  exact .ite _ h (.ite _ (h.setChan h1) (.ite _ (h.setChan h4) (.ite _ hs3.updPort hs3)))

theorem tamper (h : s.Canonical) (ch : Chan) (src : BitVec 23) : (s.tamper ch src).Canonical := h.respond ch _

theorem tamperOne (h : s.Canonical) (ch : Chan) (n : Nat) : (s.tamperOne ch n).Canonical := h.tamper ch _

theorem detected (h : s.Canonical) (ch : Chan) (sources : BitVec 23) : (s.detected ch sources).Canonical := by
  unfold State.detected
  extract_lets old held seen
  have hseen : (s.upd ch fun c => { c with tamper := { c.tamper with detecting := seen, outlast := held } }).Canonical :=
    upd h fun hc => hc
  exact hseen.respond ch _

theorem outlasted (h : s.Canonical) (ch : Chan) : (s.outlasted ch).Canonical := by
  unfold State.outlasted
  extract_lets c o
  have hseen : (s.upd ch fun c =>
      { c with tamper := { c.tamper with detecting := c.tamper.present, outlast := 0#23 } }).Canonical := upd h fun hc => hc
  exact .ite _ h (finish (hseen.respond ch o))

theorem peerL5 (h : s.Canonical) (ch : Chan) : (s.peerL5 ch).Canonical := by
  unfold State.peerL5
  refine .ite _ h ?_
  extract_lets s1 s2 c done level union c' s3 s4
  have h2 : s2.Canonical := upd (updPort h) fun hc => hc.peerErase
  have hc : c'.Canonical := h2.chan ch.peer
  have h3 : s3.Canonical := h2.setChan (Channel.Canonical.respondUpTo (Channel.Canonical.beginResponse hc _ _) _ _ _)
  have h4 : s4.Canonical := .ite _ (updPort (h3.raiseError 0)) h3
  exact .ite _ h2 (.ite _ h4.drain.updPort h4)

theorem refclkLost (h : s.Canonical) : s.refclkLost.Canonical := .ite _ h ((h.updPort.detected .a _).detected .b _)

theorem monitorTest (h : s.Canonical) (ch : Chan) (n : Nat) (pass : Bool) : (s.monitorTest ch n pass).Canonical := by
  unfold State.monitorTest
  extract_lets t b next t1 s1
  have h1 : s1.Canonical := upd h fun hc => Channel.Canonical.event hc ch 0xC0 n
  exact .ite _ h (.ite _ (upd h fun hc => hc) (.ite _ (h1.respond ch b) h1))

theorem setPins {ch : Chan} {pins : BitVec 4} (h : s.Canonical) : (s.setPins ch pins).Canonical := upd h fun hc => hc

theorem tmpIn (h : s.Canonical) (ch : Chan) (pin : Nat) : (s.tmpIn ch pin).Canonical :=
  .ite _ h (h.setPins.detected ch _)

theorem wakeTamper (h : s.Canonical) (ch : Chan) : (s.wakeTamper ch).Canonical := by
  unfold State.wakeTamper
  extract_lets s1
  have h1 : s1.Canonical := upd h fun hc => hc
  exact .ite _ (h1.tamperOne ch 22) h1

theorem brownOut (h : s.Canonical) (ch : Chan) : (s.brownOut ch).Canonical := drawn (upd h fun hc => hc)

theorem tempSource (h : s.Canonical) (ch : Chan) (r : Int) : (s.tempSource ch r).Canonical := .ite _ h (h.detected ch _)

theorem staysOut (h : s.Canonical) (ch : Chan) (v : StartStep) : (s.staysOut ch v).Canonical :=
  updPort (upd h fun hc => hc.toStep v)

/-! ### The units of a channel and their tests (R182, R201, R213, R238, R314) -/

theorem operate (h : s.Canonical) (o : Op) (ch : Chan) (st : OpStep) : (s.operate o ch st).Canonical := by
  cases st with
  | decode => exact upd h fun hc => hc.decodeHead _ _
  | serve id => exact upd h fun hc => hc.serve _ o id
  | fault id how => exact upd h fun hc => hc.serveFault o id how

theorem laneTest (h : s.Canonical) (ch : Chan) (n : Nat) (pass : Bool) : (s.laneTest ch n pass).Canonical := by
  unfold State.laneTest
  extract_lets c now c1
  have h1 : c1.Canonical := (h.chan ch).mapPair _ _
  exact .ite _ h (.ite _ (h.setChan h1) ((h.setChan ((h1.clearHealth 3).event ch 0x22 _)).tamperOne ch srcLogic))

theorem digestTest (h : s.Canonical) (ch : Chan) (n : Nat) (pass : Bool) : (s.digestTest ch n pass).Canonical := by
  unfold State.digestTest
  extract_lets c e until' c1 _ c2 c3
  have h1 : c1.Canonical := (h.chan ch).mapDigest _ _
  have h2 : c2.Canonical := h1
  have h3 : c3.Canonical := h2
  exact .ite _ h (.ite _ (h.setChan h2) ((h.setChan ((h3.clearHealth 4).event ch 0x22 _)).tamperOne ch srcLogic))

theorem rakeDone (h : s.Canonical) (ch : Chan) (n : Nat) (w : WorkEnd) : (s.rakeDone ch n w).Canonical := by
  unfold State.rakeDone
  extract_lets c
  have hc : c.Canonical := h.chan ch
  cases w with
  | good => exact h.setChan (hc.rakeGood n)
  | readRefused hbm a => exact h.setChan (hc.rakeRefused n hbm false _)
  | writeRefused hbm a => exact h.setChan (hc.rakeRefused n hbm true _)
  | engineFault | closingCheck => exact h
  | laneCompare =>
    dsimp only
    split
    · exact (h.setChan (hc.laneCompareFault ch n _)).tamperOne ch srcLogic
    · exact h
  | busCode =>
    dsimp only
    split
    · exact (h.setChan (hc.laneBusFault ch n _ _)).drawn.tamperOne ch srcBus
    · exact h
  | memory hbm =>
    dsimp only
    split
    · exact h.setChan ((hc.clearHealth 8).faultItem _ _)
    · exact h

theorem digestDone (h : s.Canonical) (ch : Chan) (n : Nat) (w : WorkEnd) : (s.digestDone ch n w).Canonical := by
  unfold State.digestDone
  extract_lets c
  have hc : c.Canonical := h.chan ch
  refine .ite _ h ?_
  cases w with
  | good => exact .ite _ h (h.setChan (hc.digestGood n))
  | memory hbm => exact .ite _ h (h.setChan ((hc.digestFault n 2 fltMemory).clearHealth _))
  | busCode =>
    have hfault : ((c.digestFault n 1 fltBus).event ch 0x21 (Config.freeNat s.free % 2)).Canonical :=
      (hc.digestFault n 1 fltBus).event ch _ _
    exact (h.setChan (.of_mk hfault)).drawn.tamperOne ch srcBus
  | engineFault => exact h.setChan (hc.digestRefused n)
  | readRefused hbm a => exact h.setChan (hc.digestPiece n hbm false _)
  | writeRefused hbm a => exact h.setChan (hc.digestPiece n hbm true _)
  | laneCompare | closingCheck => exact (h.setChan (hc.digestFault n 3 fltEngine)).tamperOne ch srcLogic

theorem pkGood (h : s.Canonical) (ch : Chan) (n : Nat) (x : Item) : (s.pkGood ch n x).Canonical := by
  unfold State.pkGood
  extract_lets c ks c1
  have hc : c.Canonical := h.chan ch
  have h1 : c1.Canonical := hc.noteSigning x ks
  refine .ite _ h ?_
  dsimp only
  split
  · exact .ite _ ((h.setChan (h1.pkInvariant ch n x)).tamperOne ch srcLogic)
      (h.setChan (((h1.event ch 0x40 n).clearHealth 5).pkFault n 5 fltEngine x))
  · exact .ite _ (h.setChan ((h1.mapPk n _).rejoin x.id)) (h.setChan (h1.pkLeave (h1.run x ks) n x _))

theorem pkDone (h : s.Canonical) (ch : Chan) (n : Nat) (w : WorkEnd) : (s.pkDone ch n w).Canonical := by
  unfold State.pkDone
  extract_lets c
  have hc : c.Canonical := h.chan ch
  split
  next j x _ _ =>
    cases w with
    | good => exact h.pkGood ch n x
    | closingCheck =>
      exact .ite _ ((h.setChan ((hc.noteSigning x _).pkInvariant ch n x)).tamperOne ch srcLogic) h
    | busCode =>
      have hfault : ((c.event ch 0x21 0).pkFault n 1 fltBus x).Canonical := (hc.event ch 0x21 0).pkFault n 1 fltBus x
      exact (h.setChan (.of_mk hfault)).tamperOne ch srcBus
    | memory _ => exact h.setChan (hc.pkFault n 2 fltMemory x)
    | readRefused hbm a => exact h.setChan (hc.pkPiece n j x hbm false _)
    | writeRefused hbm a => exact h.setChan (hc.pkPiece n j x hbm true _)
    | laneCompare | engineFault => exact .ite _ ((h.setChan (hc.pkFault n 3 fltEngine x)).tamperOne ch srcLogic) h
  · exact h

theorem background (h : s.Canonical) (ch : Chan) (u : TestUnit) (r : TestEnd) : (s.background ch u r).Canonical := by
  refine .ite _ h ?_
  cases u with
  | lanePair n => exact h.laneTest ch _ _
  | digestEngine n => exact h.digestTest ch _ _
  | pkEngine n => exact upd h fun hc => hc.pkTest ch _ r
  | core n => exact upd h fun hc => hc.coreTest ch _ r
  | channelStore => exact upd h fun hc => hc.scrub false r
  | hbm => exact upd h fun hc => hc.scrub true r
  | collector => exact upd h fun hc => hc.memoryError 15 r
  | journal => exact .ite _ h (upd h fun hc => (hc.clearHealth 10).event ch _ _)
  | bus =>
    refine .ite _ h (tamperOne (drawn ?_) ch srcBus)
    exact upd h fun hc => Channel.Canonical.event (.of_mk hc) ch _ _

/-! ### Waits, exhausted keys and the generators (R89, R266, R288) -/

theorem waitExpiry (h : s.Canonical) (ch : Chan) (id : Nat) : (s.waitExpiry ch id).Canonical := by
  unfold State.waitExpiry
  extract_lets c
  have hc : c.Canonical := h.chan ch
  split
  · exact h
  · split
    · exact h
    · exact .ite _ h (.ite _ (.ite _ (h.setChan (hc.timeOut _)) h) (.ite _ (h.updPort.setChan (hc.holdExpiry _)) h.updPort))

theorem applyWait (h : s.Canonical) (n : Nat) : (s.applyWait n).Canonical := by
  unfold State.applyWait
  split
  · exact h
  · split
    · exact h
    · exact .ite _ h (upd (upd (updPort h) fun hc => hc.applyVerdict n _) fun hc => hc.applyVerdict n _)

theorem exhaustReport (h : s.Canonical) (ch : Chan) (slot : Nat) : (s.exhaustReport ch slot).Canonical := by
  unfold State.exhaustReport
  split
  · exact h
  · extract_lets s1 x send s2
    have h1 : s1.Canonical := upd h fun hc => hc
    have h2 : s2.Canonical := h1.updPort
    exact .ite _ h1 (upd (upd h2 fun hc => hc) fun hc => hc)

theorem rngTestEnd (h : s.Canonical) (ch : Chan) (pass : Bool) : (s.rngTestEnd ch pass).Canonical :=
  .ite _ h (.ite _ (upd h fun hc => hc.mapRng _) (drawn (upd h fun hc => hc.rngFail ch _ _)))

/-! ### Epochs (R288 to R303) -/

theorem sluiceMsg {ch : Chan} {m : SluiceMsg} (h : s.Canonical) : (s.sluiceMsg ch m).Canonical :=
  upd (upd h fun hc => hc) fun hc => hc

theorem contribution (h : s.Canonical) (ch : Chan) : (s.contribution ch).Canonical := by
  unfold State.contribution
  dsimp only
  refine .ite _ h ?_
  split
  · exact upd (sluiceMsg h) fun hc => hc.formWith ch _ false
  · exact h

theorem formAlone (h : s.Canonical) (ch : Chan) : (s.formAlone ch).Canonical :=
  .ite _ h (.ite _ (h.setChan ((h.chan ch).formWith ch _ true)) h)

theorem fixEpoch (h : s.Canonical) : s.fixEpoch.Canonical := updPort (foldlUpd h fun hc => hc.mapRng _)

theorem epochMismatch (h : s.Canonical) : s.epochMismatch.Canonical :=
  .ite _ (foldlUpd (updPort h) fun hc => hc.mapRng _) (updPort (foldlUpd h fun hc => hc.mapRng _))

theorem epochChecks (h : s.Canonical) : s.epochChecks.Canonical :=
  .ite _ h (.ite _ h.updPort (.ite _ h.updPort.fixEpoch h.updPort.epochMismatch))

theorem epochClear (h : s.Canonical) : s.epochClear.Canonical := .ite _ h h.updPort

theorem epochRetry (h : s.Canonical) : s.epochRetry.Canonical := by
  unfold State.epochRetry
  split
  · exact h
  · exact .ite _ h (foldlUpd (updPort h) fun hc => hc.mapRng _)

/-! ### Kerral messages (R392 to R405) -/

theorem onMgmt {f : Mgmt → Mgmt} (h : s.Canonical) : (s.onMgmt f).Canonical := h.updPort

theorem updMsg (h : s.Canonical) (n : Nat) (f : KerralMsg → KerralMsg) : (s.updMsg n f).Canonical := h.onMgmt

theorem complete (h : s.Canonical) (m : KerralMsg) (result effect : Nat) (data : Bytes) :
    (s.complete m result effect data).Canonical :=
  .ite _ ((h.updMsg _ _).updPort) (.ite _ (h.updMsg _ _) ((h.updMsg _ _).updPort))

theorem countMgmtDraw (h : s.Canonical) (n : Nat) : (s.countMgmtDraw n).Canonical := foldlUpd h fun hc => hc.mapRng _

theorem mgmtDiscord (h : s.Canonical) : s.mgmtDiscord.Canonical := by
  unfold State.mgmtDiscord
  split
  · exact h.retire _ 0
  · exact h.updPort.retire .b 2

theorem agreed {α : Type} [BEq α] (h : s.Canonical) (f : Channel → α) : (s.agreed f).1.Canonical := by
  unfold State.agreed
  split
  · split
    · exact h
    · exact h.mgmtDiscord
  · exact h

theorem giveNonce (h : s.Canonical) (m : KerralMsg) : (s.giveNonce m).Canonical := by
  unfold State.giveNonce
  split
  · exact h.complete m _ _ _
  · exact ((h.countMgmtDraw 24).onMgmt).complete m _ _ _

theorem openCeremony (h : s.Canonical) (m : KerralMsg) : (s.openCeremony m).Canonical := by
  unfold State.openCeremony
  dsimp only
  split
  · exact h.complete m _ _ _
  · exact (h.countMgmtDraw 16).updMsg _ _

theorem hostBytes (h : s.Canonical) (f addr : Nat) (bs : Bytes) : (s.hostBytes f addr bs).Canonical :=
  h.foldl fun _ _ _ ht => ht

theorem perform (h : s.Canonical) (m : KerralMsg) : (s.perform m).Canonical := by
  unfold State.perform
  dsimp only
  split
  · exact h.giveNonce m
  · exact h.complete m _ _ _
  · exact h.onMgmt.complete m _ _ _
  · exact h.openCeremony m
  · exact h.updMsg _ _
  · exact h.updPort
  · exact h.updPort
  · exact ((h.agreed _).hostBytes 0 _ _).complete m _ _ _
  · split
    · exact h.updMsg _ _
    · exact h.complete m _ _ _
  · exact h.complete m _ _ _
  · split
    · exact h.complete m _ _ _
    · exact .ite _ (h.updMsg _ _) (h.updMsg _ _)

theorem spendNonce (h : s.Canonical) (m : KerralMsg) (v : Nat) : (s.spendNonce m v).Canonical := .ite _ h h.onMgmt

theorem dropCeremony (h : s.Canonical) (m : KerralMsg) (v : Nat) : (s.dropCeremony m v).Canonical :=
  .ite _ h (foldlUpd h fun hc => .ite _ (hc.endSession _ _) hc)

theorem verifies (h : s.Canonical) (m : KerralMsg) (v : Nat) : (s.verifies m v).Canonical :=
  .ite _ h (foldlUpd h fun hc => hc.foldl _ fun _ hd => hd.verifyOn _)

theorem startMsg (h : s.Canonical) (m : KerralMsg) : (s.startMsg m).Canonical := by
  unfold State.startMsg
  extract_lets s1
  have hagreed := (h.updMsg m.counter fun x => { x with started := true }).agreed fun c => s1.kerralVerdict c m
  generalize s1.agreed (fun c => s1.kerralVerdict c m) = r at hagreed
  obtain ⟨s2, v⟩ := r
  have h0 := ((State.Canonical.spendNonce hagreed m v).dropCeremony m v).verifies m v
  refine .ite _ (h0.perform m) (complete ?_ m _ _ _)
  refine .ite _ ?_ h0
  split
  · exact h0.updPort
  · exact h0

theorem pump (h : s.Canonical) (n : Nat) : (s.pump n).Canonical := by
  induction n generalizing s with
  | zero => exact h
  | succ n ih =>
    unfold State.pump
    split
    · exact h
    · exact .ite _ h (ih (h.startMsg _))

theorem kerralIn (h : s.Canonical) (code : Nat) (m : Kerral) (image : Bytes) : (s.kerralIn code m image).Canonical :=
  .ite _ h (.ite _ h.updPort (.ite _ (h.updPort.complete _ _ _ _)
    (.ite _ (h.updPort.startMsg _) (h.updPort.pump 9))))

theorem completeChange (h : s.Canonical) (m : KerralMsg) (r : Nat × Bytes) (effect : Nat) :
    (s.completeChange m r effect).Canonical := (h.complete m _ _ _).pump 9

theorem provision (h : s.Canonical) (n : Nat) (l : List (Nat × Officer)) : (s.provision n l).Canonical := by
  unfold State.provision
  dsimp only
  have hdrawn : (s.upd .a fun c => { c with rng := (s.a.rng.generate [] 32).2 }).Canonical := upd h fun hc => hc
  exact updPort (upd (upd hdrawn.sluiceMsg fun hc => hc.provision _ _ _) fun hc => hc.provision _ _ _)

theorem applyChange (h : s.Canonical) (m : KerralMsg) (x : Change) : (s.applyChange m x).Canonical := by
  have htaken {t : State} (ht : t.Canonical) (x : Change) :
      (t.port.joinedChans.foldl (fun s ch => s.upd ch (fun c => (c.takeChange m.intakeNo x).1)) t).Canonical :=
    foldlUpd ht fun hc => hc.takeChange _ _
  unfold State.applyChange
  dsimp only
  split
  · exact .ite _ (h.completeChange m _ _) ((h.provision _ _).updMsg _ _)
  · have h2 := htaken (h.agreed fun c => (c.takeChange m.intakeNo x).2) x
    refine completeChange (.ite _ (updPort ?_) ?_) m _ _ <;>
    · split
      · exact foldlUpd h2 fun hc => hc.dropWriter _
      · exact h2

theorem queueDestroy (h : s.Canonical) (x : Change) : (s.queueDestroy x).Canonical := by
  unfold State.queueDestroy
  split
  · exact foldlUpd h fun hc => hc.queueWriter _
  · exact h

theorem provisionDone (h : s.Canonical) : s.provisionDone.Canonical := by
  unfold State.provisionDone
  split
  · exact h
  · exact .ite _ h (h.completeChange _ _ _)

theorem kerralBoundary (h : s.Canonical) : s.kerralBoundary.Canonical := by
  unfold State.kerralBoundary
  extract_lets s1
  have h1 : s1.Canonical := h.provisionDone
  split
  · exact h1
  · split
    · exact .ite _ h1 (.ite _ (h1.queueDestroy _) ((h1.queueDestroy _).applyChange _ _))
    · exact h1

theorem fenceHold (h : s.Canonical) (ch : Chan) : (s.fenceHold ch).Canonical := by
  unfold State.fenceHold
  split
  · exact h
  · split
    · exact .ite _ h (upd h fun hc => hc)
    · exact h

theorem fenceReport (h : s.Canonical) (ch : Chan) : (s.fenceReport ch).Canonical := by
  unfold State.fenceReport
  split
  · exact .ite _ h (h.updMsg _ _)
  · exact h

theorem fenceApply (h : s.Canonical) (ch : Chan) : (s.fenceApply ch).Canonical := by
  unfold State.fenceApply
  split
  · exact h
  · split
    next m _ _ _ x _ _ _ =>
      have hlifted : (s.upd ch fun c => (c.takeChange m.intakeNo x).1.liftFence).Canonical :=
        upd h fun hc => (hc.takeChange _ _).liftFence
      exact .ite _ h (.ite _ hlifted (hlifted.completeChange _ _ _))
    · exact h

theorem kerralRespond (h : s.Canonical) : s.kerralRespond.Canonical := h.of_portOnly (.kerralRespond s)

/-! ### Other management (R385, R387) -/

theorem answer (h : s.Canonical) (v : Via) (type : BitVec 7) (kind : Nat) (content : Bytes) :
    (s.answer v type kind content).Canonical := h.onMgmt

theorem spdmAnswer {v : Via} {ok : Bool} {kind : Nat} {content : Bytes} (h : s.Canonical) :
    (s.spdmAnswer v ok kind content).Canonical := .ite _ (h.answer _ _ _ _) (h.answer _ _ _ _)

theorem spdm {v : Via} {body : Bytes} {f : Chan → State → State} (h : s.Canonical) (hf : ∀ ch, (f ch s).Canonical) :
    (s.spdm v body f).Canonical := by
  unfold State.spdm
  refine .ite _ h (.ite _ h.updPort ?_)
  split
  · exact h
  · exact hf _

theorem spdmIn {v : Via} {ok : SpdmSession → Bool} {kind : Nat} {body : Bytes} {f : Spdm → Nat → Spdm} (h : s.Canonical) :
    (s.spdmIn v ok kind body f).Canonical := by
  refine spdm h fun ch => ?_
  split
  · exact h.spdmAnswer
  · exact .ite _ (onMgmt (spdmAnswer h)) h.spdmAnswer

theorem update (h : s.Canonical) (image : Bytes) : (s.update image).Canonical := by
  unfold State.update
  extract_lets one
  have hone {t : State} (ht : t.Canonical) (ch : Chan) : (one t ch).Canonical :=
    .ite _ (ht.setChan ((ht.chan ch).recover image)) (.ite _ ht (onMgmt (ht.setChan ((ht.chan ch).mapFlash _))))
  exact hone (hone h.onMgmt .a) .b

/-! ### Function resets (R346 to R348) -/

theorem flr (h : s.Canonical) (f : Nat) : (s.flr f).Canonical := .ite _ (h.requestReset _ _ _) (h.requestReset _ _ _)

theorem resetBoundaryR (h : s.Canonical) : s.resetBoundaryR.Canonical :=
  updPort (h.foldl fun _ _ _ ht => ht.foldl fun _ ch _ hu => .ite _ hu (hu.setChan ((hu.chan ch).resetR _ _)))

theorem resetListIn (h : s.Canonical) (ch : Chan) : (s.resetListIn ch).Canonical := by
  unfold State.resetListIn
  dsimp only
  split
  · exact h
  · exact updPort (h.setChan (.of_mk (h.chan ch)))

theorem resetLate (h : s.Canonical) : s.resetLate.Canonical := updPort (h.foldl fun _ ch _ ht => ht.retire ch 4)

theorem resetBoundaryV (h : s.Canonical) : s.resetBoundaryV.Canonical := by
  refine h.foldl fun t r _ ht => ?_
  have hchans : (chans.foldl (fun s ch => if (s.chan ch).resetting.contains (r.fns, r.n) then
      s.upd ch (fun c => c.resetV r.fns r.n r.union) else s) t).Canonical :=
    ht.foldl fun _ ch _ hu => .ite _ (upd hu fun hc => hc.resetV _ _ _) hu
  exact hchans

end Sys2Proof.Machine.State.Canonical
end

section
/-! The regions of both channels: the sluice, refills, the start and the tide boundary leave them in their form. -/

namespace Sys2Proof.Machine.State.Canonical

variable {s t u : State}

/-! ### Security version numbers and the sluice session (R22, R278 to R282) -/

theorem endSvn (h : s.Canonical) (result : Nat) : (s.endSvn result).Canonical := by
  unfold State.endSvn
  split
  · exact h
  · dsimp only
    split
    · exact h.updPort
    · exact h.updPort.completeChange _ _ _

theorem svnDone (h : s.Canonical) : s.svnDone.Canonical := by
  unfold State.svnDone
  split
  · exact h
  · exact .ite _ (h.endSvn 0) h

theorem svnStart (h : s.Canonical) (ch : Chan) : (s.svnStart ch).Canonical := by
  unfold State.svnStart
  extract_lets c
  split
  · exact h
  · exact .ite _ h (h.setChan (.of_mk (h.chan ch)))

theorem matchRungs (h : s.Canonical) (x y : RootCopy) : (s.matchRungs x y).Canonical := by
  unfold State.matchRungs
  extract_lets one t
  have hone {t : State} (ht : t.Canonical) (ch : Chan) (r : RootCopy) : (one t ch r).Canonical := by
    refine upd ht fun hc => .ite _ hc (.ite _ ?_ (.of_mk hc))
    exact .of_mk hc
  have ht : t.Canonical := hone (hone h .a x) .b y
  exact .ite _ ht.updPort ht

theorem repairRungs (h : s.Canonical) : s.repairRungs.Canonical := by
  unfold State.repairRungs
  split
  · extract_lets s1
    have h1 : s1.Canonical := .ite _ (upd h fun hc => hc) (.ite _ (upd h fun hc => hc) h)
    split
    · exact (h1.matchRungs _ _).svnDone
    · exact h1
  · exact h

theorem endSluice (h : s.Canonical) : s.endSluice.Canonical := updPort (upd (upd h fun hc => hc) fun hc => hc)

theorem sluiceTag (h : s.Canonical) (ch : Chan) : (s.sluiceTag ch).Canonical :=
  .ite _ h (.ite _ (updPort (endSluice (updPort h))) (upd (updPort h) fun hc => hc))

theorem present (h : s.Canonical) : s.present.Canonical := setFree (upd (upd h fun hc => hc) fun hc => hc)

theorem openSluice (h : s.Canonical) (n : Nat) : (s.openSluice n).Canonical := upd (upd h fun hc => hc) fun hc => hc

theorem reconcile (h : s.Canonical) : s.reconcile.Canonical := by
  unfold State.reconcile
  extract_lets x s1
  have h1 : s1.Canonical := .ite _ (upd h fun _ => Channel.Canonical.copyFrom _ _) h
  exact upd (upd h1 fun hc => hc.startCheckpoint) fun hc => hc.startCheckpoint

theorem beginRefill (h : s.Canonical) (x : Chan) : (s.beginRefill x).Canonical := updPort (upd h fun hc => hc)

theorem agreement (h : s.Canonical) : s.agreement.Canonical := by
  unfold State.agreement
  extract_lets m n may s1 s2 first s3 s4 ready
  have h2 : s2.Canonical := upd (upd h.present fun hc => hc) fun hc => hc
  have h3 : s3.Canonical := upd (staysOut (upd h2 fun hc => hc.toStep .join) .b .failed) fun hc => hc.mapRng _
  have h4 : s4.Canonical := (h2.openSluice n).repairRungs
  have hready {c : Channel} (hc : c.Canonical) : (ready c).Canonical := (hc.toStep .join).mapRng _
  refine .ite _ h (.ite _ (.ite _ h3.updPort ?_) (.ite _ (.ite _ (upd (upd h4.reconcile hready) hready) h4) ?_))
  · exact h2.foldl fun _ ch _ ht => .ite _ (upd ht fun hc => hc.toStep .failed) ht
  · exact h4.foldl fun _ ch _ ht => .ite _ (beginRefill (upd ht fun hc => hc.toStep .join) ch) ht

theorem svnMessage (h : s.Canonical) (ch : Chan) : (s.svnMessage ch).Canonical := by
  unfold State.svnMessage
  dsimp only
  split
  · exact h
  · split
    · have h1 {b : Prop} [Decidable b] {m : SluiceMsg} : (if b then s.sluiceMsg ch.peer m else s).Canonical :=
        .ite b (sluiceMsg h) h
      exact .ite _ h1 (.ite _ (svnDone (h1.setChan (.of_mk (h1.chan ch)))) (h1.updPort.endSvn 11))
    · exact h

/-! ### Refill and join (R323 to R329) -/

theorem refillAt (h : s.Canonical) (ok : RefillStep → Bool) {f : Chan → State} (hf : ∀ x, (f x).Canonical) :
    (s.refillAt ok f).Canonical := by
  unfold State.refillAt
  split
  · exact h
  · exact .ite _ (hf _) h

theorem repair (h : s.Canonical) (x : Chan) : (s.repair x).Canonical := by
  refine upd (sluiceMsg (sluiceMsg h)) fun {c} hc => ?_
  extract_lets from_ mine c1 c2
  have h1 : c1.Canonical := hc.foldl _ fun _ hd => (hd.applyImage _).journalWrite _ _ _
  exact Channel.Canonical.refillStep (.ite _ (.of_mk h1) h1) .replay

theorem switchFull (h : s.Canonical) (x : Chan) : (s.switchFull x).Canonical := updPort (upd h fun hc => hc)

theorem nextDelta (h : s.Canonical) (x : Chan) : (s.nextDelta x).Canonical := by
  unfold State.nextDelta
  refine .ite _ (h.switchFull x) ?_
  split
  · exact upd (sluiceMsg h) fun hc => hc.takeDelta _
  · exact h

theorem regionImage (h : s.Canonical) (x : Chan) : (s.regionImage x).Canonical :=
  upd (sluiceMsg h) fun {c} _ => Channel.Canonical.copyFrom c (s.chan x.peer)

theorem snapshot (h : s.Canonical) (x : Chan) :
    ((s.sluiceMsg x.peer .snapshot).upd x fun c => (c.takeSnapshot (s.chan x.peer)).refillStep .catchUp).Canonical :=
  upd (sluiceMsg h) fun hc => (hc.takeSnapshot _).refillStep _

theorem shareEpochs (h : s.Canonical) : s.shareEpochs.Canonical := by
  unfold State.shareEpochs
  split
  · exact h
  · exact .ite _ h (upd h fun hc => hc)

theorem joinCapTide (h : s.Canonical) : s.joinCapTide.Canonical := by
  unfold State.joinCapTide
  extract_lets cap
  have hcap {t : State} (ht : t.Canonical) (ch : Chan) : (cap t ch).Canonical := .ite _ (upd ht fun hc => hc) ht
  exact hcap (hcap h .a) .b

theorem joinCapStep (h : s.Canonical) : s.joinCapStep.Canonical := joinCapTide (upd (upd h fun hc => hc) fun hc => hc)

theorem shareEbb (h : s.Canonical) : s.shareEbb.Canonical := .ite _ h (upd (upd h fun hc => hc) fun hc => hc)

theorem ready (h : s.Canonical) (x : Chan) : (s.ready x).Canonical := .ite _ h (h.shareEbb.updPort)

theorem sendAll (h : s.Canonical) (x : Chan) : (s.sendAll x).Canonical :=
  h.foldl fun _ _ _ ht => upd (sluiceMsg ht) fun hc => hc.takeDelta _

theorem joinNow (h : s.Canonical) (x : Chan) (j : Nat) : (s.joinNow x j).Canonical := by
  have hsent : ((s.sendAll x).sluiceMsg x.peer .snapshot).Canonical := (h.sendAll x).sluiceMsg
  refine updPort (upd (upd hsent fun {c} hc => ?_) fun hc => hc)
  extract_lets c1
  have h1 : c1.Canonical := ((hc.takeEpochs _).loadKept _).placePlaceholders _
  exact .of_mk h1

theorem joinTide (h : s.Canonical) : s.joinTide.Canonical := by
  unfold State.joinTide
  split
  · exact .ite _ h (h.joinNow _ _)
  · exact h

theorem endWriters (h : s.Canonical) (x : Chan) : (s.endWriters x).Canonical := by
  unfold State.endWriters
  extract_lets d alive late s1 s2
  have h1 : s1.Canonical := upd h fun hc => hc.dropPlaceholders _
  have h2 : s2.Canonical := upd h1 fun hc => hc
  exact .ite _ h1 (upd h2 fun hc => hc)

theorem lateDelta (h : s.Canonical) (x : Chan) : (s.lateDelta x).Canonical := by
  refine endWriters ?_ x
  split
  · exact h
  · exact upd (sluiceMsg h) fun hc => Channel.Canonical.dropPlaceholders (.of_mk (hc.takeLate _)) _

theorem handover (h : s.Canonical) (x : Chan) : (s.handover x).Canonical := by
  unfold State.handover
  extract_lets s1
  have h1 : s1.Canonical := upd h fun hc => hc.formHandover
  split
  · exact h1
  · refine .ite _ h1 (endWriters ?_ x)
    exact upd (sluiceMsg h1) fun hc => hc.takeHandover _ _

theorem plannedStart (h : s.Canonical) : s.plannedStart.Canonical := by
  unfold State.plannedStart
  split
  · exact h
  · exact .ite _ h (updPort (upd h fun hc => .of_mk (hc.writeCheckpoint _)))

theorem drainEnd (h : s.Canonical) : s.drainEnd.Canonical := by
  unfold State.drainEnd
  split
  · exact h
  · refine .ite _ h (retire ?_ _ 6)
    exact upd h fun hc => (hc.writeCheckpoint _).mapFlash _

/-! ### Resets and the start (R427 to R446) -/

theorem serviceEnds (h : s.Canonical) (x : Chan) : (s.serviceEnds x).Canonical := by
  unfold State.serviceEnds
  extract_lets y _ back s1 s2
  have h1 : s1.Canonical := upd h fun hc => .ite _ hc (.of_mk hc)
  exact updPort (.ite _ h1.updPort h1)

theorem failActivation (h : s.Canonical) (x : Chan) : (s.failActivation x).Canonical := by
  unfold State.failActivation
  split
  · exact h
  · refine .ite _ h ?_
    split
    · exact h
    · exact h.onMgmt.completeChange _ _ _

theorem resetChannel (h : s.Canonical) (x : Chan) : (s.resetChannel x).Canonical := by
  unfold State.resetChannel
  refine .ite _ h ?_
  extract_lets s1 s2 last s3 s4 boot first s5 s6 s7 s8
  have h1 : s1.Canonical := .ite _ (h.retire x 4) h
  have h2 : s2.Canonical := h1.failActivation x
  have h3 : s3.Canonical := .ite _ (serviceEnds (.ite _ h2 (h2.soloFault x)) x) h2
  have h4 : s4.Canonical := .ite _ h3.updPort h3
  have h5 : s5.Canonical := .ite _ h4.endSluice h4
  have h6 : s6.Canonical := upd h5 fun hc => by
    extract_lets r _ r'
    have hr : r.Canonical := hc.restart _
    have hr' : r'.Canonical := .ite _ (.of_mk hr) hr
    exact .ite _ (.of_mk hr') (.of_mk hr')
  have h7 : s7.Canonical := .ite _ (upd h6 fun hc => hc.waitOn) h6
  have h8 : s8.Canonical := upd h7 fun hc => .ite _ (.of_mk (hc.dropPlaceholders _)) hc
  exact h8.updPort

theorem deviceReset (h : s.Canonical) (kept cold wakes : Bool) : (s.deviceReset kept cold wakes).Canonical := by
  unfold State.deviceReset
  extract_lets hold s1
  have h1 : s1.Canonical := h.foldl fun _ ch _ ht => upd ht fun hc => hc.peerErase
  have hhold {c : Channel} (hc : c.Canonical) : (hold c).Canonical := .ite _ (.of_mk hc) (hc.hold kept)
  exact ⟨hhold h1.1, hhold h1.2⟩

theorem beginStart (h : s.Canonical) : s.beginStart.Canonical :=
  updPort (upd (upd h fun hc => hc.release) fun hc => hc.release)

theorem mapStart {f : PortStart → PortStart} (h : s.Canonical) : (s.mapStart f).Canonical := h.updPort

theorem portUp (h : s.Canonical) : s.portUp.Canonical := by
  unfold State.portUp
  extract_lets
  refine .ite _ h (.ite _ h.updPort (drawn (updPort (foldl ?_ fun t ch _ ht => ?_))))
  · exact .ite _ h.updPort.updPort.updPort.updPort h.updPort.updPort.updPort
  · exact upd (.ite _ ht ht.updPort) fun hc => hc

theorem sleep (h : s.Canonical) : s.sleep.Canonical := by
  unfold State.sleep
  split
  · exact h
  · extract_lets n s1 rest s2
    have hrest {c : Channel} (hc : c.Canonical) : (rest c).Canonical := .of_mk ((hc.writeCheckpoint _).eraseVolatile _)
    have h2 : s2.Canonical := drawn (upd (upd (updPort h.drain) hrest) hrest)
    exact .ite _ h h2.updPort

theorem wakeRelease (h : s.Canonical) (ch : Chan) (half : Nat) : (s.wakeRelease ch half).Canonical := by
  unfold State.wakeRelease
  extract_lets decided k s1 s2
  have h1 : s1.Canonical := drawn (.ite _ (h.wakeTamper ch) h)
  have h2 : s2.Canonical := upd h1 fun hc => hc
  split
  · exact h2
  · exact .ite _ h2 (h2.deviceReset _ _ _).mapStart.beginStart
  · exact .ite _ h2 (upd h2 fun hc => hc)

theorem lockReport (h : s.Canonical) (ch : Chan) : (s.lockReport ch).Canonical :=
  .ite _ h.mapStart (.ite _ (upd (mapStart (mapStart h)) fun hc => hc) h.mapStart.mapStart)

theorem tideZero (h : s.Canonical) : s.tideZero.Canonical := by
  unfold State.tideZero
  extract_lets x s1 s2
  have h1 : s1.Canonical := .ite _ (upd h fun hc => hc) h
  exact updPort (.ite _ (upd h1 fun hc => hc) h1)

theorem alignLater (h : s.Canonical) : s.alignLater.Canonical := by
  unfold State.alignLater
  extract_lets one
  have hone {c : Channel} (hc : c.Canonical) : (one c).Canonical := .ite _ (.of_mk hc) hc
  exact upd (upd h hone) hone

theorem tideFault (h : s.Canonical) (ch : Chan) : (s.tideFault ch).Canonical :=
  updPort (updPort (upd h fun hc => hc.clearHealth 0))

theorem tideBoth (h : s.Canonical) : s.tideBoth.Canonical := (((h.tideFault .a).tideFault .b).retire .b 4).retire .a 4

theorem tideReport (h : s.Canonical) (a : Option (BitVec 16)) (ka : Nat) (b : Option (BitVec 16)) (kb : Nat) :
    (s.tideReport a ka b kb).Canonical := by
  unfold State.tideReport
  extract_lets p da db skew s1
  have h1 : s1.Canonical := h.updPort
  refine .ite _ ?_ (.ite _ ((h1.tideFault .a).retire .a 4) (.ite _ ((h1.tideFault .b).retire .b 4) h1))
  split
  · exact .ite _ h1.updPort h1.tideBoth
  · exact h1.tideBoth

theorem activated (h : s.Canonical) (ch : Chan) (outcome : Nat) : (s.activated ch outcome).Canonical := by
  unfold State.activated
  split
  · exact h
  · refine .ite _ h ?_
    dsimp only
    split
    · exact h.onMgmt
    · exact h.onMgmt.completeChange _ _ _

theorem fuseLoad (h : s.Canonical) (ch : Chan) (rows : Bool) : (s.fuseLoad ch rows).Canonical := by
  unfold State.fuseLoad
  refine .ite _ h ?_
  extract_lets tide s1 r s2 found s3
  have h1 : s1.Canonical := upd h fun hc => by
    extract_lets row lock _ _ loaded
    have hloaded : loaded.Canonical := .of_mk hc
    exact .ite _ hloaded (hloaded.clearHealth 14)
  have h2 : s2.Canonical := h1.setChan (h1.chan ch).checkIsland
  have h3 : s3.Canonical := h2.tamper ch _
  exact .ite _ h3 (upd h3 fun hc => .ite _ (hc.toStep .tripped) ((hc.programEvidence ch).toStep .image))

theorem imageHash (h : s.Canonical) (ch : Chan) (m mn : Bool) : (s.imageHash ch m mn).Canonical := by
  unfold State.imageHash
  refine .ite _ h ?_
  extract_lets image t1 s1 t2
  have h1 : t1.Canonical := .ite _ (h.tamperOne ch _) h
  have hs1 : s1.Canonical := upd h1 fun hc => .of_mk hc
  have h2 : t2.Canonical := h1.updPort
  refine .ite _ (hs1.activated ch _) (.ite _ ((h2.staysOut ch _).activated ch 1) ?_)
  exact upd h2 fun hc => .of_mk (hc.mapFlash _)

theorem startTestFails (h : s.Canonical) (ch : Chan) : (s.startTestFails ch).Canonical :=
  drawn (staysOut (upd h fun hc => hc.event ch 0x22 _) ch .failed)

theorem training (h : s.Canonical) (ch : Chan) (ok : Bool) : (s.training ch ok).Canonical :=
  .ite _ h (.ite _ (h.setChan ((h.chan ch).toStep .memoryTest)) (.ite _ (h.setChan (.of_mk (h.chan ch)))
    (h.staysOut ch .failed).updPort))

theorem memoryFails (h : s.Canonical) (ch : Chan) : (s.memoryFails ch).Canonical :=
  .ite _ (h.startTestFails ch) (drawn (upd h fun hc => .of_mk hc))

theorem selfTest (h : s.Canonical) (ch : Chan) : (s.selfTest ch).Canonical := by
  unfold State.selfTest
  extract_lets s1
  have h1 : s1.Canonical := upd h fun hc => .of_mk (hc.openRoot.toStep .sluice)
  exact .ite _ h1.updPort h1

theorem joinWaitEnds (h : s.Canonical) (ch : Chan) : (s.joinWaitEnds ch).Canonical := by
  unfold State.joinWaitEnds
  extract_lets c past go whole
  have hgo {t : State} (ht : t.Canonical) : (go t).Canonical := upd ht fun hc => .of_mk ((hc.toStep .join).mapRng _)
  refine .ite _ h (.ite _ (hgo h) (.ite _ (hgo ?_) h))
  exact upd h.endSluice fun hc => .of_mk (hc.toStep .sluice)

theorem firstJoin (h : s.Canonical) : s.firstJoin.Canonical := by
  unfold State.firstJoin
  split
  · exact h
  · refine .ite _ h (foldl (epochClear (updPort (foldl (updPort h.shareEbb) ?_))) ?_)
    · exact fun _ ch _ ht => updPort (upd ht fun hc => .of_mk (hc.joinFirst _ _))
    · exact fun _ ch _ ht => .ite _ (beginRefill (upd ht fun hc => hc.toStep .join) ch) ht

theorem probeIn (h : s.Canonical) (ch : Chan) (wrong : Option DWord) : (s.probeIn ch wrong).Canonical := by
  unfold State.probeIn
  split
  · exact h
  · split
    · exact h.tryProbe
    · exact .ite _ h h.updPort.tryProbe

/-! ### The tide boundary and temperature (R35, R452 to R457) -/

theorem hearNoise (h : s.Canonical) (ch : Chan) : (s.hearNoise ch).Canonical := .ite _ h (drawn (upd h fun hc => hc.mapRng _))

theorem portSteps (h : s.Canonical) : s.portSteps.Canonical := by
  unfold State.portSteps
  extract_lets s1 s2 s3 s4 s5
  have h1 : s1.Canonical := h.applyCommits.kerralBoundary
  have h3 : s3.Canonical := (((h1.fenceHold .a).fenceHold .b).fenceApply .a).fenceApply .b
  have h5 : s5.Canonical := h3.resetBoundaryR.resetBoundaryV.foldl fun _ v _ ht => ht.applyWait v.intakeNo
  exact (h5.plannedStart.svnStart .a).svnStart .b

theorem epochSteps (h : s.Canonical) : s.epochSteps.Canonical := by
  have heffect : (s.port.joinedChans.foldl
      (fun s ch => s.upd ch (fun c => (c.epochEffect s.port.lastIntake).renewalDue)) s).Canonical :=
    foldlUpd h fun hc => (hc.epochEffect _).renewalDue
  exact heffect.epochClear.shareEpochs

theorem portEnds (h : s.Canonical) : s.portEnds.Canonical := by
  unfold State.portEnds
  extract_lets a low s1 s2 s3
  have h1 : s1.Canonical := foldlUpd h fun hc => hc
  have h2 : s2.Canonical := h1.releaseWaiting
  have h3 : s3.Canonical := .ite _ (h2.writeLost .a) h2
  exact .ite _ (h3.writeLost .b) h3

theorem drawCredits (h : s.Canonical) : s.drawCredits.Canonical := h.updPort.drawn

theorem tideBoundary (h : s.Canonical) : s.tideBoundary.Canonical := by
  unfold State.tideBoundary
  refine .ite _ h ?_
  extract_lets s1 t enter s2 s3 s4 s5 s6 report
  have henter {ch : Chan} {c : Channel} (hc : c.Canonical) : (enter ch c).Canonical := by
    have hdone : (((c.noteWaits s1.port).enterTide t).clearPreempts.schedCycle.programLevels).Canonical :=
      (Channel.Canonical.clearPreempts (.of_mk (hc.noteWaits _))).schedCycle.programLevels
    exact .ite _ hc (.ite _ (hdone.sweep ch) hdone)
  have hreport {c : Channel} (hc : c.Canonical) : (report c).Canonical := .ite _ hc.report hc
  have hentered : ((s1.upd .a (enter .a)).upd .b (enter .b)).Canonical := upd (upd (updPort h) henter) henter
  have h2 : s2.Canonical := (hentered.hearNoise .a).hearNoise .b
  have h3 : s3.Canonical := h2.alignLater.portSteps.epochSteps.joinCapStep
  have h4 : s4.Canonical := upd (upd h3 fun hc => hc.boundary _) fun hc => hc.boundary _
  have h5 : s5.Canonical := h4.joinTide.firstJoin.portEnds.drawCredits
  exact upd (upd ((h5.outlasted .a).outlasted .b) hreport) hreport

theorem temperature (h : s.Canonical) (ch : Chan) (r : Int) : (s.temperature ch r).Canonical := by
  refine .ite _ h (tempSource (updPort ?_) ch r)
  exact upd h fun hc => hc.temperature r

theorem tripRole (h : s.Canonical) (ch : Chan) : (s.tripRole ch).Canonical := by
  unfold State.tripRole
  split
  · exact h
  · exact upd h fun hc => .ite _ hc (.of_mk hc)

theorem thermalDecision (h : s.Canonical) : s.thermalDecision.Canonical := by
  unfold State.thermalDecision
  extract_lets readings whole next s1 t r
  have h1 : s1.Canonical := .ite _ h (foldlUpd h fun hc => hc)
  have ha : t.Canonical := h1.tripRole .a
  have hb := h1.tripRole .b
  exact ⟨ha.1, hb.2⟩

theorem idle (h : s.Canonical) : s.idle.Canonical := by
  unfold State.idle
  extract_lets on t1 t2
  have hon {f : Channel → Channel} (hf : ∀ {c : Channel}, c.Canonical → (f c).Canonical) {c : Channel} (hc : c.Canonical) :
      (on f c).Canonical := .ite _ (hf hc) hc
  have h1 : t1.Canonical := tick (upd (upd h (hon fun hc => hc.noteWaits _)) (hon fun hc => hc.noteWaits _))
  have h2 : t2.Canonical :=
    upd (upd h1 (hon fun hc => hc.schedCycle.heardFailure .a)) (hon fun hc => hc.schedCycle.heardFailure .b)
  exact (h2.outlasted .a).outlasted .b

end Sys2Proof.Machine.State.Canonical
end

section
/-! The canonical form of the regions through every command, and O58. -/

namespace Sys2Proof.Machine

namespace State.Canonical

variable {s t u : State}

/-! ### The commands that do not end in one meaning -/

theorem assayWindowExpiry (h : s.Canonical) {n : Nat} (hnext : exec (.assayWindowExpiry n) s = .next t) : t.Canonical := by
  refine .of_next hnext (finish ?_)
  split
  · exact h
  · exact .ite _ h (h.windowExpiry _)

theorem indData (h : s.Canonical) {x : Tlp} {w : Option Word} (hnext : Machine.exec (.indData x w) s = .next t) :
    t.Canonical := by
  refine .of_next hnext ((h.hostAccess x fun {v} hv => ?_).finish)
  have hread (l : List Word) : { (v.indAccess w).2 with host := { (v.indAccess w).2.host with readData := l } }.Canonical :=
    hv.indAccess w
  exact .ite _ (hread _) hv

theorem probeTimeout (h : s.Canonical) (hnext : exec .probeTimeout s = .next t) : t.Canonical := by
  refine .of_next hnext (finish ?_)
  split
  · exact h
  · refine .ite _ h ?_
    split
    · exact h
    · exact h.updPort.probeVerdict _ _

theorem channelFaultReport (h : s.Canonical) {a b : Bool} (hnext : exec (.channelFaultReport a b) s = .next t) :
    t.Canonical := by
  refine .of_next hnext (finish (retireTogether ?_ _ _ 4))
  cases a <;> cases b
  · exact h
  · exact h.takeFault .b
  · exact h.takeFault .a
  · exact (h.takeFault .a).takeFault .b

theorem journalDelta (h : s.Canonical) (hnext : exec .journalDeltaReceived s = .next t) : t.Canonical := by
  refine .of_next hnext ?_
  split
  · exact .ite _ (h.lateDelta _) h
  · exact h.refillAt _ h.nextDelta

theorem joinHandover (h : s.Canonical) (hnext : exec .joinHandoverReceived s = .next t) : t.Canonical := by
  refine .of_next hnext ?_
  split
  · exact .ite _ (h.handover _) h
  · exact h

theorem porstNAssert (h : s.Canonical) (hnext : exec .porstNAssert s = .next t) : t.Canonical := by
  refine .of_next hnext ?_
  split
  · exact h.mapStart
  · exact (h.deviceReset _ _ _).mapStart

theorem deadlineMiss (h : s.Canonical) {ch : Chan} {id : Nat} (hnext : Machine.exec (.deadlineMiss ch id) s = .next t) :
    t.Canonical := by
  refine .of_next hnext (finish (upd h fun hc => ?_))
  split
  · exact .ite _ (hc.miss ch _) hc
  · exact hc

theorem onDigests {ch : Chan} {f : Digests → Digests} (h : s.Canonical) : (s.onDigests ch f).Canonical := upd h fun hc => hc

/-- Every command keeps the regions of both channels in their canonical form. -/
theorem exec {c : Instr} (h : s.Canonical) (hnext : Machine.exec c s = .next t) : t.Canonical := by
  cases c with
  | getRandom ch step | reseed ch step | echo ch step | pinTranslate ch step | pinVerifyOffset ch step
    | pinVerifyPvv ch step | pinChange ch step | cvcGenerate ch step | cvcVerify ch step | arqcVerify ch step
    | arqcVerifyLongPan ch step | dukptTranslate ch step | dukptTranslateLongKey ch step | dukptData ch step
    | macCmac ch step | macIso97973 ch step | macCmacLong ch step | macIso9797Long ch step | macHmacSha256 ch step
    | keyblockImport ch step | keyblockExport ch step | keyWrap ch step | keyUnwrap ch step | transportImport ch step
    | transportExport ch step | componentBegin ch step | componentAdd ch step | componentAbandon ch step
    | tokenFf1 ch step | vaultTokenise ch step | vaultDetokenise ch step | vaultDelete ch step | cipherEncrypt ch step
    | cipherDecrypt ch step | streamOpen ch step | streamUpdate ch step | streamFinal ch step | streamAbandon ch step
    | digest ch step | macHmacSha2 ch step | pkSign ch step | pkVerify ch step | pkKeygen ch step | pkAgree ch step
    | pkEncap ch step | pkDecap ch step | pkPubkeyExport ch step | pkPubkeyImport ch step | keyCheckValue ch step
    | keyAttributes ch step | keyGenerate ch step | keyRestrict ch step | keyDestroy ch step =>
    exact .of_next hnext ((h.operate _ ch step).finish)
  | getNonce m | getStatus m | officerSet m | provision m | tamperLevels m | tamperClear m | slack m | slotGrant m
    | policySet m | dectabSet m | custodiansSet m | ceremonyBegin m | ceremonyComponent m | ceremonyAbandon m
    | mgmtKeyblockImport m | mgmtKeyDestroy m | budgetSet m | basinAssign m | basinClear m | dukptUnbind m
    | personalise m | updateActivate m | svnCommit m | imageExport m | recorderRead m | recorderFreeze m
    | recorderFlush m | recorderLimits m | alertRoute m | kerralUnknownCode _ m =>
    exact .of_next hnext ((h.kerralIn _ m []).finish)
  | destroyUsersDrained ch id => exact .of_next hnext (finish (upd h fun hc => hc.usersDrained id))
  | decodeResume ch | unassignedOpcode ch => exact .of_next hnext (finish (upd h fun hc => hc.decodeHead _ _))
  | decodeLateFault ch => exact .of_next hnext (finish (upd h fun hc => hc.decodeLate ch))
  | delayRelease ch => exact .of_next hnext (finish (upd h fun hc => hc.releaseDue _))
  | commandStart ch id => exact .of_next hnext (finish (upd h fun hc => hc.startOne id))
  | keyCacheFillDone ch slot => exact .of_next hnext (finish (upd h fun hc => hc.fillDone ch _))
  | shadowEntryAcquire ch id => exact .of_next hnext (finish (upd h fun hc => hc.shadowAcquire id))
  | completionAccept ch => exact .of_next hnext (finish (upd h fun hc => hc.collect _ 4 80))
  | deadlineMiss ch id => exact h.deadlineMiss hnext
  | drbgReseedDone ch noise => exact .of_next hnext (finish (upd h fun hc => hc.drbgReseed ch noise))
  | tripRecovery ch => exact .of_next hnext (finish (upd h fun hc => hc.tripRecover ch))
  | coreDispatch ch core => exact .of_next hnext (upd h fun hc => hc.dispatch _)
  | coreSliceTimer ch core => exact .of_next hnext (upd h fun hc => hc.sliceTimer _)
  | rakeJobStart ch pair => exact .of_next hnext (upd h fun hc => hc.rakeStart _)
  | rakeSliceEnd ch pair => exact .of_next hnext (upd h fun hc => hc.rakeSliceEnd _)
  | digestJobStart ch engine => exact .of_next hnext (upd h fun hc => hc.digestStart _)
  | digestSliceEnd ch engine => exact .of_next hnext (upd h fun hc => hc.digestSliceEnd _)
  | digestMode ch _ _ | digestData ch _ _ | digestLastWord ch _ _ | digestLastCount ch _ _ =>
    exact .of_next hnext h.onDigests
  | digestFinishDone ch _ | digestCmp ch _ _ _ => exact .of_next hnext h.onDigests.drawn
  | pkJobStart ch engine => exact .of_next hnext (upd h fun hc => hc.pkStart _)
  | pkValidationEnd ch engine => exact .of_next hnext (upd h fun hc => hc.pkValidate _)
  | pkSliceReport ch engine => exact .of_next hnext (upd h fun hc => hc.pkReport _)
  | pkWipeDone ch engine => exact .of_next hnext (upd h fun hc => hc.pkWiped _)
  | keyCacheFillStart ch slot => exact .of_next hnext (upd h fun hc => hc.fillStart _)
  | checkpointTimer ch => exact .of_next hnext (upd h fun hc => hc.checkpointDue)
  | exhaustionMark ch slot => exact .of_next hnext (upd h fun hc => hc.exhaustMark _ _)
  | rngSeedReady ch noise => exact .of_next hnext (upd h fun hc => hc.rngSeed ch noise)
  | drbgReseedDue ch => exact .of_next hnext (upd h fun hc => hc.drbgDue)
  | rngPortReq ch core value => exact .of_next hnext (drawn (upd h fun hc => hc.portServe _ value _))
  | rngPortData ch core => exact .of_next hnext (drawn (upd h fun hc => hc.portRead _ _))
  | inlineDoorbell x _ _ _ => exact .of_next hnext (finish (.ite _ h (h.hostAccess x fun ht => ht.doorbell _ _ _)))
  | ringTail x _ => exact .of_next hnext (h.hostAccess x fun ht => ht.writeRingTail _ _)
  | ringFetchDone _ _ _ _ => exact .of_next hnext (finish (.ite _ (h.fetched _ _ _ _) h))
  | intakeResume => exact .of_next hnext ((h.resumeIntake _).finish)
  | cqHead x _ => exact .of_next hnext ((h.hostAccess x fun ht => ht.writeCqHead _ _).finish)
  | commit x _ => exact .of_next hnext (h.hostAccess x fun ht => .ite _ (ht.writeCommit _) ht)
  | commitApply => exact .of_next hnext h.applyCommits.finish
  | indAddrLo x _ | indAddrHi x _ => exact .of_next hnext (h.hostAccess x fun ht => .ite _ ht.updPort ht)
  | indData x w => exact h.indData hnext
  | fnAcuEnable x _ => exact .of_next hnext ((h.hostAccess x fun ht => .ite _ (ht.acuEnable _) ht).finish)
  | fnAcuDisable x _ => exact .of_next hnext (h.hostAccess x fun ht => .ite _ (ht.acuDisable _) ht)
  | acuDrainDone _ => exact .of_next hnext h.updPort
  | registerWrite x _ _ _ _ => exact .of_next hnext ((h.hostAccess x fun ht => ht.hostWrite _ _ _ _ _).finish)
  | rcRegisterRead x _ _ _ => exact .of_next hnext (h.hostAccess x fun ht => ht.hostRead _ _ _ _ _)
  | completionArrival who => exact .of_next hnext ((h.arrivals who).finish)
  | moderationTimer _ => exact .of_next hnext (.ite _ (h.signal _) h)
  | passingAreaDrain _ => exact .of_next hnext (h.updPort.drainPassing _)
  | assayWindowExpiry n => exact h.assayWindowExpiry hnext
  | probeCompletion ch _ => exact .of_next hnext ((h.probeIn ch _).finish)
  | probeTimeout => exact h.probeTimeout hnext
  | healthReport a b =>
    have hfirst : (if a then s.takeReport .a else s).Canonical := .ite _ (h.takeReport .a) h
    exact .of_next hnext (finish (judge (.ite _ (hfirst.takeReport .b) hfirst)))
  | healthReportMissing _ => exact .of_next hnext (finish (.ite _ h.judgeNow h))
  | channelFaultReport a b => exact h.channelFaultReport hnext
  | channelLostTimeout ch => exact .of_next hnext (finish (.ite _ (h.writeLost ch) h))
  | waitLimitExpiry ch _ => exact .of_next hnext ((h.waitExpiry ch _).finish)
  | waitVerdict _ => exact .of_next hnext h.updPort
  | waitVerdictApply n => exact .of_next hnext ((h.applyWait n).finish)
  | tideBoundary => exact .of_next hnext h.tideBoundary.finish
  | tideAlign => exact .of_next hnext (.ite _ h.alignLater (.ite _ h.tideZero h))
  | cclkLockReport ch => exact .of_next hnext (h.lockReport ch)
  | cclkLockTimeout => exact .of_next hnext (.ite _ h.tideZero h)
  | tideReport _ _ _ _ => exact .of_next hnext (finish (.ite _ (h.tideReport _ _ _ _) h))
  | temperatureReading ch r => exact .of_next hnext ((h.temperature ch r).finish)
  | thermalDecision => exact .of_next hnext h.thermalDecision.finish
  | channelTrip ch | secondChannelTrip ch => exact .of_next hnext (finish (.ite _ (upd h fun hc => hc.trip) h))
  | rakeJobDone ch _ _ => exact .of_next hnext ((h.rakeDone ch _ _).finish)
  | laneSelfTest ch _ _ => exact .of_next hnext ((h.laneTest ch _ _).finish)
  | digestJobDone ch _ _ => exact .of_next hnext ((h.digestDone ch _ _).finish)
  | digestKnownAnswerTest ch _ _ => exact .of_next hnext ((h.digestTest ch _ _).finish)
  | pkOperationDone ch _ _ => exact .of_next hnext ((h.pkDone ch _ _).finish)
  | backgroundSelfTest ch _ _ => exact .of_next hnext ((h.background ch _ _).finish)
  | tamperSourceDetected ch _ =>
    exact .of_next hnext (finish (.ite _ (h.setPins.detected ch _) h))
  | peerL5Order ch => exact .of_next hnext ((h.peerL5 ch).finish)
  | monitorTest ch _ _ => exact .of_next hnext ((h.monitorTest ch _ _).finish)
  | tmpInAssert ch _ => exact .of_next hnext ((h.tmpIn ch _).finish)
  | refclkLoss => exact .of_next hnext h.refclkLost.finish
  | wakeNRelease ch _ => exact .of_next hnext ((h.wakeRelease ch _).finish)
  | wakeTamperDecision ch => exact .of_next hnext ((h.wakeTamper ch).finish)
  | islandBrownOut ch => exact .of_next hnext (h.brownOut ch).finish
  | exhaustionReport ch _ => exact .of_next hnext (h.exhaustReport ch _)
  | rngStartTestEnd ch _ => exact .of_next hnext ((h.rngTestEnd ch _).finish)
  | rngHealthFail ch _ => exact .of_next hnext (finish (.ite _ h (drawn (upd h fun hc => hc.rngFail ch _ _))))
  | epochRenewalTrigger => exact .of_next hnext (foldlUpd h fun hc => hc.renewalDue)
  | entropyContribution ch _ => exact .of_next hnext (.ite _ (upd h fun hc => hc.contribute _) h)
  | contributionReceived ch => exact .of_next hnext (h.contribution ch)
  | epochFormAlone ch => exact .of_next hnext (h.formAlone ch)
  | epochCheckReceived => exact .of_next hnext h.epochChecks.finish
  | epochEffect ch => exact .of_next hnext (finish (.ite _ (epochClear (upd h fun hc => hc.epochEffect _)) h))
  | epochRetryTimer => exact .of_next hnext h.epochRetry
  | sluiceTagFail ch => exact .of_next hnext ((h.sluiceTag ch).finish)
  | sluiceAgreementDone => exact .of_next hnext h.agreement.finish
  | repairListReceived => exact .of_next hnext (h.refillAt _ h.repair)
  | regionImageReceived => exact .of_next hnext (h.refillAt _ h.regionImage)
  | stateSnapshotReceived => exact .of_next hnext (h.refillAt _ fun x => .ite _ h (h.snapshot x))
  | joinReady => exact .of_next hnext ((h.refillAt _ h.ready).finish)
  | joinCapTide => exact .of_next hnext h.joinCapTide
  | joinTide => exact .of_next hnext h.joinTide.finish
  | journalDeltaReceived => exact h.journalDelta hnext
  | joinHandoverReceived => exact h.joinHandover hnext
  | plannedRetirementStart => exact .of_next hnext h.plannedStart.finish
  | plannedDrainEnd => exact .of_next hnext h.drainEnd.finish
  | channelReset ch => exact .of_next hnext ((h.resetChannel ch).finish)
  | functionLevelReset f => exact .of_next hnext (finish (.ite _ (h.flr f.toNat) h))
  | vfEnableClear => exact .of_next hnext (finish (.ite _ h (h.updPort.requestReset _ _ _)))
  | functionResetBoundaryR => exact .of_next hnext h.resetBoundaryR.finish
  | resetListReceived ch => exact .of_next hnext (h.resetListIn ch)
  | resetListTimeout => exact .of_next hnext h.resetLate.finish
  | functionResetBoundaryV => exact .of_next hnext h.resetBoundaryV.finish
  | linkReset => exact .of_next hnext (finish (.ite _ h ((h.flr 0).updPort)))
  | powerOn => exact .of_next hnext (.ite _ h (mapStart (upd (upd h fun hc => hc) fun hc => hc)))
  | mainPowerLoss => exact .of_next hnext (.ite _ h (mapStart (upd (upd (h.deviceReset _ _ _) fun hc => hc) fun hc => hc)))
  | porstNAssert => exact h.porstNAssert hnext
  | porstNRelease => exact .of_next hnext (.ite _ h (.ite _ h.mapStart.beginStart h.mapStart))
  | portDieStartDone => exact .of_next hnext h.portUp.finish
  | perstNAssert => exact .of_next hnext (.ite _ h.mapStart (h.mapStart.deviceReset _ _ _))
  | perstNRelease => exact .of_next hnext (.ite _ h.mapStart.beginStart h.mapStart)
  | pwrFailNAssert => exact .of_next hnext (finish (.ite _ h h.updPort))
  | linkTrainingDone => exact .of_next hnext (.ite _ (h.mapStart.updPort) h)
  | sleepDrainDone => exact .of_next hnext h.sleep
  | fuseLoadDone ch _ => exact .of_next hnext ((h.fuseLoad ch _).finish)
  | imageHashDone ch _ _ => exact .of_next hnext ((h.imageHash ch _ _).finish)
  | hbmTrainingDone ch _ => exact .of_next hnext ((h.training ch _).finish)
  | memoryTestDone ch _ =>
    exact .of_next hnext (finish (.ite _ h (.ite _ (h.setChan ((h.chan ch).toStep .selfTest)) (h.memoryFails ch))))
  | selfTestDone ch _ =>
    exact .of_next hnext (finish (.ite _ h (.ite _ (h.selfTest ch) (h.startTestFails ch))))
  | firstJoinWaitExpiry ch => exact .of_next hnext ((h.joinWaitEnds ch).finish)
  | firstJoin => exact .of_next hnext h.firstJoin.finish
  | svnCommitTarget ch => exact .of_next hnext (h.svnStart ch)
  | rootRecordWriteDone ch =>
    exact .of_next hnext (finish (.ite _ (provisionDone (upd h fun hc => hc.firstRootWritten)) (upd h fun hc => hc.rootWritten)))
  | svnCommitMessage ch => exact .of_next hnext ((h.svnMessage ch).finish)
  | imageImport m image => exact .of_next hnext ((h.kerralIn _ m image).finish)
  | fenceHold ch => exact .of_next hnext (h.fenceHold ch)
  | fenceReport ch => exact .of_next hnext (h.fenceReport ch)
  | fenceApply ch => exact .of_next hnext ((h.fenceApply ch).finish)
  | recorderFreezeTimeout => exact .of_next hnext (h.of_portOnly (PortOnly.recorderFreezeTimeout rfl))
  | recorderPeriodicFlush | recorderFlushDone => exact .of_next hnext h.updPort
  | nonceExpiry => exact .of_next hnext h.onMgmt
  | kerralResponse => exact .of_next hnext h.kerralRespond
  | mctpUnsupportedMessage _ _ => exact .of_next hnext (finish (.ite _ h h.updPort))
  | getVersion v b => exact .of_next hnext (finish (spdm h fun _ => spdmAnswer (onMgmt h)))
  | getCapabilities v b | negotiateAlgorithms v b =>
    exact .of_next hnext (finish (spdm h fun _ => spdmAnswer (.ite _ (onMgmt h) h)))
  | getDigests v b | getCertificate v b | getMeasurements v b =>
    exact .of_next hnext (finish (spdm h fun _ => spdmAnswer h))
  | challenge v b => exact .of_next hnext (drawn (finish (spdm h fun _ => spdmAnswer h)))
  | keyExchange v b =>
    exact .of_next hnext (drawn (finish (spdm h fun _ => spdmAnswer (.ite _ (onMgmt h) h))))
  | finish v b | heartbeat v b | keyUpdate v b | endSession v b => exact .of_next hnext (finish (spdmIn h))
  | ideKm _ _ _ _ => exact .of_next hnext (.ite _ h.updPort h)
  | requestUpdate v image => exact .of_next hnext (.ite _ h ((h.update image).answer v _ _ _))
  | activateFirmware v => exact .of_next hnext (.ite _ (h.answer v _ _ _) h)
  | getSensorReading v n => exact .of_next hnext (h.of_portOnly (PortOnly.getSensorReading (v := v) (n := n) rfl))
  | endpointIdAssignment _ _ => exact .of_next hnext (.ite _ h h.onMgmt)
  | dynamicAddressAssignment _ => exact .of_next hnext (.ite _ h.onMgmt h)

end State.Canonical

/-- Settles O58: each of the four regions is written through the operations of sorted maps alone, so a channel keeps its
canonical form through every function of the model, and with it both channels through every step. -/
theorem storeRegionsStayCanonical : Obligations.StoreRegionsStayCanonical := by
  intro s t hs hstep
  have h : s.Canonical := ⟨hs .a, hs .b⟩
  unfold step at hstep
  split at hstep
  · exact (State.Canonical.of_next hstep h.idle).chan
  next rest _ => exact (State.Canonical.exec (s := { s with pending := rest }) h hstep).chan

end Sys2Proof.Machine
end

section
/-! The firmware-path work of the lane pairs (O33): how a pair takes, yields and ends a job, and what a fault of its lane work
leaves, whatever the channel's response to it stops. -/

namespace Sys2Proof.Machine

/-! ### The units of a channel -/

theorem Channel.unitsWhole_pairs {c : Channel} (h : c.unitsWhole = true) (n : BitVec 6) : n.toNat < c.skim.pairs.length := by
  simp only [Channel.unitsWhole, Bool.and_eq_true, beq_iff_eq] at h
  omega

/-- A changed pair reads as changed. -/
theorem Channel.mapPair_lanePair {c : Channel} {n : Nat} (h : n < c.skim.pairs.length) (f : Pair → Pair) :
    (c.mapPair n f).lanePair n = f (c.lanePair n) := by
  simp [Channel.mapPair, Channel.lanePair, h]

@[simp] theorem Channel.sync_pairs_length (c : Channel) : c.sync.skim.pairs.length = c.skim.pairs.length := by simp [Channel.sync]

/-! ### Items that enter their level touch no lane pair (R88 to R90) -/

@[simp] theorem Channel.preempt_skim (c : Channel) (k : Nat) (y : Item) (urgent : Bool) : (c.preempt k y urgent).skim = c.skim := rfl

@[simp] theorem Channel.enter_skim (c : Channel) (x : Item) : (c.enter x).skim = c.skim := by
  simp only [Channel.enter, Channel.enterAt]
  split
  · exact Channel.preempt_skim ..
  · rfl

@[simp] theorem Channel.rejoin_skim (c : Channel) (id : Nat) : (c.rejoin id).skim = c.skim := by
  unfold Channel.rejoin Channel.enterSaved
  split
  · split
    · rfl
    · exact c.enter_skim _
  · rfl

/-! ### Slices (R178, R179) -/

/-- A pair that runs a slice holds the job, and the queue stays. -/
theorem Channel.laneSlice_takes {c : Channel} {n : Nat} (h : n < c.skim.pairs.length) (j : Job) :
    (c.laneSlice n j).rakes.jobs = c.rakes.jobs ∧ ((c.laneSlice n j).lanePair n).job.map (·.item) = some j.item := by
  unfold Channel.laneSlice
  extract_lets cut start w c1
  have hpair : (c1.lanePair n).job.map (·.item) = some j.item := by
    unfold c1
    rw [Channel.mapPair_lanePair (by simpa using h)]
    rfl
  split
  · exact ⟨rfl, hpair⟩
  · exact ⟨rfl, hpair⟩

/-- Everything the masks of an item's lane work can do to a channel. -/
theorem Channel.maskDraw_eq (c : Channel) (x : Item) : ∃ g, (c.maskDraw x).1 = { c with rng := g } := by
  unfold Channel.maskDraw
  dsimp only
  split <;> exact ⟨_, rfl⟩

section
variable {c : Channel} {n : Nat} {j : Job} (hhead : headJob (c.landed c.rakes.jobs) = some j) (hfirm : c.firmwarePair n = true)
  (hfree : c.pairFree n = true) (hmasks : (!j.saved && (c.item? j.item).any (fun x => c.maskWaits x.op)) = false)
include hhead hfirm hfree hmasks

/-- A free firmware-path pair starts a slice of the job at the head of the queue, once the job has its masks. -/
theorem Channel.rakeStart_eq : ∃ d : Channel, d.skim = c.skim ∧ d.rakes = c.rakes
    ∧ c.rakeStart n = ({ d with rakes := { d.rakes with jobs := d.rakes.jobs.erase j } } : Channel).laneSlice n j := by
  unfold Channel.rakeStart
  split
  next hnone => cases hhead.symm.trans hnone
  next j' hj' =>
    obtain rfl : j = j' := Option.some.inj (hhead.symm.trans hj')
    extract_lets free ok c1
    have hok : ok = true := by simp [ok, hfirm, hfree]
    have h1 : c1.skim = c.skim ∧ c1.rakes = c.rakes := by
      unfold c1
      split
      next x _ =>
        split
        · exact ⟨rfl, rfl⟩
        · obtain ⟨g, hg⟩ := c.maskDraw_eq x
          dsimp only
          rw [hg]
          exact ⟨rfl, rfl⟩
      next => exact ⟨rfl, rfl⟩
    exact ⟨c1, h1.1, h1.2, if_neg (by simp [hok, hmasks])⟩

/-- A free firmware-path pair takes the job at the head of the queue. -/
theorem Channel.rakeStart_takes (hn : n < c.skim.pairs.length) :
    (c.rakeStart n).rakes.jobs = c.rakes.jobs.erase j ∧ ((c.rakeStart n).lanePair n).job.map (·.item) = some j.item := by
  obtain ⟨d, hskim, hrakes, hd⟩ := Channel.rakeStart_eq hhead hfirm hfree hmasks
  rw [hd, ← hrakes]
  exact Channel.laneSlice_takes (hskim ▸ hn) j

end

/-- A firmware-path job whose slice ends while a job of its level waits is saved, and leaves its pair. -/
theorem Channel.rakeSliceEnd_yields {c : Channel} {n : Nat} {j : Job} (hn : n < c.skim.pairs.length)
    (hjob : (c.lanePair n).job = some j) (hleft : j.runs ≠ []) (hover : (c.lanePair n).busyUntil ≤ c.now)
    (hfirm : c.firmwarePair n = true) (hwaits : (c.landed c.rakes.jobs).any (fun k => k.rank ≤ j.rank) = true) :
    ((c.rakeSliceEnd n).lanePair n).job = none
    ∧ (c.rakeSliceEnd n).rakes.jobs = queueJob c.rakes.jobs { j with saved := true, readyAt := c.now + 24, front := false } := by
  have hruns : j.runs.isEmpty = false := by simpa using hleft
  unfold Channel.rakeSliceEnd
  simp only [hjob, hruns, hfirm, hwaits, Nat.not_lt.2 hover, decide_false, Bool.or_self, Bool.not_true, Bool.false_eq_true,
    if_false, if_true]
  refine ⟨?_, rfl⟩
  exact congrArg Pair.job (Channel.mapPair_lanePair
    (c := { c with rakes := { c.rakes with jobs := queueJob c.rakes.jobs { j with saved := true, readyAt := c.now + 24, front := false } } })
    hn _)

/-- A job with no step left leaves its pair. -/
theorem Channel.rakeGood_leaves {c : Channel} {n : Nat} {j : Job} (hn : n < c.skim.pairs.length)
    (hjob : (c.lanePair n).job = some j) (hdone : j.runs = []) (hover : (c.lanePair n).busyUntil ≤ c.now) :
    ((c.rakeGood n).lanePair n).job = none := by
  have hgood : c.rakeGood n = (c.mapPair n (fun p => { p with job := none })).rejoin j.item := by
    simp [Channel.rakeGood, hjob, hdone, Nat.not_lt.2 hover]
  rw [hgood, Channel.lanePair, Channel.rejoin_skim]
  exact congrArg Pair.job (Channel.mapPair_lanePair hn _)

/-! ### Items that have ended (R94, R182) -/

/-- Work item `id` has ended, with the completion record `k`. -/
structure Channel.Ended (c : Channel) (id : Nat) (k : CompRec) : Prop where
  finished : ∀ y ∈ c.sched.items, y.id = id → y.phase = .finished
  completion : ∃ r ∈ c.sched.produced, r.item = some id ∧ r.record = k

namespace Channel.Ended

variable {c d : Channel} {id : Nat} {k : CompRec}

theorem of_sched (h : c.Ended id k) (hsched : d.sched = c.sched) : d.Ended id k :=
  ⟨hsched ▸ h.finished, hsched ▸ h.completion⟩

/-- An item that has ended stays ended when any item completes. -/
theorem produce (h : c.Ended id k) (x : Item) (producer at' : Nat) (r : Res) : (c.produce x producer at' r).Ended id k where
  finished := by
    intro y hy hid
    obtain ⟨z, hz, rfl⟩ := List.mem_map.1 hy
    dsimp only at hid ⊢
    split
    · rfl
    next hne => exact h.finished z hz (by rwa [if_neg hne] at hid)
  completion := by
    obtain ⟨p, hp, hitem⟩ := h.completion
    exact ⟨p, List.mem_append_left _ hp, hitem⟩

/-- The stop of another item takes no completion of this one. -/
theorem stop (h : c.Ended id k) {x : Item} (hx : x.id ≠ id) : (c.stop x).Ended id k where
  finished := h.finished
  completion := by
    obtain ⟨p, hp, hitem, hrecord⟩ := h.completion
    exact ⟨p, List.mem_filter.2 ⟨hp, by simpa [hitem] using hx.symm⟩, hitem, hrecord⟩

/-- The stop of an item leaves every item that has ended, since it does nothing to a finished one. -/
theorem abort (h : c.Ended id k) {x : Item} (hx : x.id = id → x.phase = .finished) (r : Res) : (c.abort x r).Ended id k := by
  unfold Channel.abort
  split
  · exact h
  next hpast =>
    have hother : x.id ≠ id := fun hid => hpast (by simp [Channel.past, hx hid])
    dsimp only
    split
    all_goals exact (h.stop hother).produce _ _ _ _

theorem foldl_abort (h : c.Ended id k) (r : Res) {l : List Item} (hl : ∀ x ∈ l, x.id = id → x.phase = .finished) :
    (l.foldl (fun c x => c.abort x r) c).Ended id k := by
  induction l generalizing c with
  | nil => exact h
  | cons x l ih => exact ih (h.abort (hl x List.mem_cons_self) r) fun y hy => hl y (List.mem_cons_of_mem x hy)

/-- The completion of an item that has ended in a failure. -/
theorem failed {x : Item} {code : Code} {detail : BitVec 4} (h : c.Ended x.id (x.record (Res.fail code detail))) :
    ∃ y ∈ c.sched.produced, y.item = some x.id ∧ y.record.code = code ∧ y.record.detail = detail := by
  obtain ⟨y, hy, hitem, hrecord⟩ := h.completion
  exact ⟨y, hy, hitem, by rw [hrecord]; rfl, by rw [hrecord]; rfl⟩

end Channel.Ended

/-- A completion produced ends its item. -/
theorem Channel.produce_ended (c : Channel) (x : Item) (producer at' : Nat) (r : Res) :
    (c.produce x producer at' r).Ended x.id (x.record r) where
  finished := by
    intro y hy hid
    obtain ⟨z, hz, rfl⟩ := List.mem_map.1 hy
    dsimp only at hid ⊢
    split
    · rfl
    next hne => exact absurd (beq_iff_eq.2 (by rwa [if_neg hne] at hid)) hne
  completion := ⟨_, List.mem_append_right _ (List.mem_singleton_self _), rfl, rfl⟩

/-- An item that something can still stop ends as it is stopped. -/
theorem Channel.abort_ended {c : Channel} {x : Item} (hpast : c.past x = false) (r : Res) :
    (c.abort x r).Ended x.id (x.record r) := by
  unfold Channel.abort
  rw [if_neg (by simp [hpast])]
  dsimp only
  split
  all_goals exact Channel.produce_ended _ _ _ _ _

theorem Channel.past_congr {c d : Channel} (hsched : d.sched = c.sched) (hnow : d.now = c.now) (x : Item) : d.past x = c.past x := by
  simp only [Channel.past, hsched, hnow]

/-- The item of faulty lane work ends with FAULT_DETECTED. -/
theorem Channel.faultItem_ended {c : Channel} {x : Item} (hpast : c.past x = false) (w : WorkEnd) :
    (c.faultItem x w).Ended x.id (x.record (Res.fail .faultDetected (faultDetail w))) := by
  unfold Channel.faultItem
  extract_lets r c1
  have h1 : c1.sched = c.sched ∧ c1.now = c.now := by
    unfold c1
    split <;> exact ⟨rfl, rfl⟩
  obtain ⟨k, g, h, hnote⟩ := c1.noteResult_eq x r
  refine Channel.abort_ended ?_ r
  rw [hnote]
  exact (Channel.past_congr h1.1 h1.2 x).trans hpast

/-- A piece that the region set of a job refuses ends the job's item with FAULT_DETECTED. -/
theorem Channel.rakeRefused_ended {c : Channel} {n a : Nat} {j : Job} {x : Item} {hbm write : Bool}
    (hjob : (c.lanePair n).job = some j) (hitem : c.item? j.item = some x) (hrefused : permits j.regions hbm write a = false)
    (hpast : c.past x = false) :
    (c.rakeRefused n hbm write a).Ended x.id (x.record (Res.fail .faultDetected fltEngine)) := by
  have hgo : c.rakeRefused n hbm write a = (c.reportRefused write a).faultItem x .engineFault := by
    simp [Channel.rakeRefused, hjob, hitem, hrefused]
  rw [hgo]
  exact Channel.faultItem_ended (c := c.reportRefused write a) hpast .engineFault

/-! ### Lane compare faults (R182) -/

/-- The lane compare flags of the pairs. -/
def Channel.compareFaults (c : Channel) : List Bool := c.skim.pairs.map Pair.faultCompare

theorem Channel.lanePair_faultCompare (c : Channel) (n : Nat) : (c.lanePair n).faultCompare = c.compareFaults.getD n false := by
  simp only [Channel.lanePair, Channel.compareFaults, List.getD_eq_getElem?_getD, List.getElem?_map]
  cases c.skim.pairs[n]? <;> rfl

@[simp] theorem Channel.stop_compareFaults (c : Channel) (x : Item) : (c.stop x).compareFaults = c.compareFaults := by
  refine List.ext_getElem (by simp [Channel.compareFaults, Channel.stop]) fun i _ _ => ?_
  simp only [Channel.compareFaults, Channel.stop, List.getElem_map, List.getElem_mapIdx]
  (repeat' split) <;> simp [Channel.sync]

@[simp] theorem Channel.abort_compareFaults (c : Channel) (x : Item) (r : Res) : (c.abort x r).compareFaults = c.compareFaults := by
  unfold Channel.abort
  split
  · rfl
  · dsimp only
    split
    all_goals exact c.stop_compareFaults x

theorem Channel.foldl_abort_compareFaults (r : Res) (l : List Item) (c : Channel) :
    (l.foldl (fun c x => c.abort x r) c).compareFaults = c.compareFaults := by
  induction l generalizing c with
  | nil => rfl
  | cons x l ih => rw [List.foldl_cons, ih, Channel.abort_compareFaults]

@[simp] theorem Channel.faultItem_compareFaults (c : Channel) (x : Item) (w : WorkEnd) :
    (c.faultItem x w).compareFaults = c.compareFaults := by
  unfold Channel.faultItem
  extract_lets r c1
  have h1 : c1.skim = c.skim := by
    unfold c1
    split <;> rfl
  obtain ⟨k, g, h, hnote⟩ := c1.noteResult_eq x r
  rw [Channel.abort_compareFaults, hnote]
  exact congrArg (fun s : Skim => s.pairs.map Pair.faultCompare) h1

/-- A lane compare fault sets the flag of its pair and ends the item with FAULT_DETECTED. -/
theorem Channel.laneCompareFault_leaves {c : Channel} {n : Nat} (ch : Chan) {x : Item} (hn : n < c.skim.pairs.length)
    (hpast : c.past x = false) :
    ((c.laneCompareFault ch n x).lanePair n).faultCompare = true
    ∧ (c.laneCompareFault ch n x).Ended x.id (x.record (Res.fail .faultDetected fltLane)) := by
  unfold Channel.laneCompareFault
  extract_lets c1 c2 c3 c4
  have h4 : c4.sched = c.sched ∧ c4.now = c.now ∧ c4.skim.pairs = c1.skim.pairs := by
    unfold c4
    split <;> exact ⟨rfl, rfl, rfl⟩
  obtain ⟨hsched, hnow, hpairs⟩ := h4
  refine ⟨?_, Channel.faultItem_ended (c := c4.event ch 0x20 n) ((Channel.past_congr hsched hnow x).trans hpast) .laneCompare⟩
  have hflag : (c1.lanePair n).faultCompare = true := congrArg Pair.faultCompare (Channel.mapPair_lanePair hn _)
  rw [Channel.lanePair_faultCompare] at hflag ⊢
  rw [Channel.faultItem_compareFaults, ← hflag]
  exact congrArg (fun l : List Pair => (l.map Pair.faultCompare).getD n false) hpairs

/-! ### Streams that end touch no item and no lane pair (R200) -/

theorem Channel.foldl_killStream_leaves (l : List Item) (c : Channel) :
    (l.foldl (fun c x => c.killStream x.pkt.intakeNo (streamIx x)) c).sched = c.sched
    ∧ (l.foldl (fun c x => c.killStream x.pkt.intakeNo (streamIx x)) c).skim = c.skim := by
  induction l generalizing c with
  | nil => exact ⟨rfl, rfl⟩
  | cons x l ih => exact ih (c.killStream x.pkt.intakeNo (streamIx x))

theorem Channel.killStreams_leaves (c : Channel) (n : Nat) (f : Nat → Stream → Bool) :
    (c.killStreams n f).sched = c.sched ∧ (c.killStreams n f).skim = c.skim := by
  unfold Channel.killStreams
  extract_lets r hit r1 c1
  obtain ⟨j, hj⟩ := Channel.foldl_journalWrite_eq n (fun x : Nat × Stream => x.1) (fun x => .stream x.1 x.2.kill) hit c1
  rw [hj]
  exact ⟨rfl, rfl⟩

/-! ### A tamper response (R364 to R369) -/

/-- What a tamper response leaves of a channel: the lane compare flags, and the items that have ended with their completions. -/
structure Channel.Responds (c d : Channel) : Prop where
  compareFaults : d.compareFaults = c.compareFaults
  ended : ∀ {id : Nat} {k : CompRec}, c.Ended id k → d.Ended id k

namespace Channel.Responds

variable {c d e : Channel}

theorem of_eq (hsched : d.sched = c.sched) (hskim : d.skim = c.skim) : Channel.Responds c d :=
  ⟨congrArg (fun s : Skim => s.pairs.map Pair.faultCompare) hskim, fun h => h.of_sched hsched⟩

theorem refl (c : Channel) : Channel.Responds c c := of_eq rfl rfl

theorem trans (h : Channel.Responds c d) (h' : Channel.Responds d e) : Channel.Responds c e :=
  ⟨h'.compareFaults.trans h.compareFaults, fun he => h'.ended (h.ended he)⟩

theorem ite (b : Prop) [Decidable b] (hd : Channel.Responds c d) (he : Channel.Responds c e) :
    Channel.Responds c (if b then d else e) := by
  split
  · exact hd
  · exact he

theorem foldl {α : Type} {f : Channel → α → Channel} (h : ∀ c x, Channel.Responds c (f c x)) (l : List α) (c : Channel) :
    Channel.Responds c (l.foldl f c) := by
  induction l generalizing c with
  | nil => exact refl c
  | cons x l ih => exact (h c x).trans (ih (f c x))

theorem faultCompare (h : Channel.Responds c d) (n : Nat) : (d.lanePair n).faultCompare = (c.lanePair n).faultCompare := by
  rw [Channel.lanePair_faultCompare, h.compareFaults, Channel.lanePair_faultCompare]

/-- Items that the channel holds are stopped: those that have ended are none of them. -/
theorem abortAll (r : Res) {l : List Item} (hl : ∀ x ∈ l, x ∈ c.sched.items) :
    Channel.Responds c (l.foldl (fun c x => c.abort x r) c) :=
  ⟨Channel.foldl_abort_compareFaults .., fun h => h.foldl_abort r fun x hx => h.finished x (hl x hx)⟩

/-! The levels of a response -/

/-- The streams and the stopped items of a response of L2 leave the items that have ended. -/
theorem respondL2 (c : Channel) (n : Nat) : Channel.Responds c (c.respondL2 n) := by
  unfold Channel.respondL2
  extract_lets hit opens c1 c2 c3
  obtain ⟨hsched1, hskim1⟩ := Channel.foldl_killStream_leaves opens c
  obtain ⟨hsched2, hskim2⟩ := c1.killStreams_leaves n (fun i _ => c1.streamBusy i)
  have h2 : c2.sched = c.sched := hsched2.trans hsched1
  have h3 : Channel.Responds c2 c3 := abortAll _ fun x hx => h2 ▸ List.mem_of_mem_filter hx
  exact ((of_eq h2 (hskim2.trans hskim1)).trans h3).trans (of_eq rfl rfl)

theorem eraseVolatile (c : Channel) (n : Nat) : Channel.Responds c (c.eraseVolatile n) := by
  unfold Channel.eraseVolatile
  extract_lets c1 c2 g
  obtain ⟨hsched, hskim⟩ := c.killStreams_leaves n fun _ _ => true
  have h2 : Channel.Responds c1 c2 := foldl (fun _ _ => by exact of_eq rfl rfl) _ c1
  exact ((of_eq hsched hskim).trans h2).trans (of_eq rfl rfl)

theorem respondL3 (c : Channel) (n : Nat) : Channel.Responds c (c.respondL3 n) := (eraseVolatile c n).trans (of_eq rfl rfl)

theorem respondL4 (c : Channel) : Channel.Responds c c.respondL4 :=
  ite _ (of_eq rfl rfl) (ite _ (of_eq rfl rfl) (of_eq rfl rfl))

theorem respondUpTo (c : Channel) (n done level : Nat) : Channel.Responds c (c.respondUpTo n done level) := by
  unfold Channel.respondUpTo
  extract_lets c1 c2
  have h1 : Channel.Responds c c1 := ite _ (respondL2 c n) (refl c)
  have h2 : Channel.Responds c1 c2 := ite _ (respondL3 c1 n) (refl c1)
  exact (h1.trans h2).trans (ite _ (respondL4 c2) (refl c2))

theorem setEvidence (c : Channel) (s : BitVec 23) : Channel.Responds c (c.setEvidence s) :=
  foldl (fun _ _ => by exact of_eq rfl rfl) _ c

end Channel.Responds

theorem State.drain_chan (s : State) (ch : Chan) : s.drain.chan ch = { s.chan ch with events := [] } := by
  cases ch <;> rfl

/-- Whatever the level of the response, and whether one begins at all. -/
theorem State.respond_responds (s : State) (ch : Chan) (src : BitVec 23) :
    Channel.Responds (s.chan ch) ((s.respond ch src).chan ch) := by
  unfold State.respond
  extract_lets c i w c1 done level c2 j c3 c4 union c5 c6 s1 s2 s3
  have h2 : Channel.Responds c c2 :=
    .trans (by exact .of_eq rfl rfl) (.foldl (fun _ _ => by exact .of_eq rfl rfl) _ c1)
  have h3 : Channel.Responds c c3 := .ite _ h2 (h2.trans (.of_eq rfl rfl))
  have h4 : Channel.Responds c c4 := .ite _ (h3.trans (.setEvidence c3 src)) h3
  have h5 : Channel.Responds c c5 :=
    h4.trans (.trans (by exact .of_eq rfl rfl) (.respondUpTo _ s.port.lastIntake done level))
  have h6 : Channel.Responds c c6 := .ite _ (h5.trans (.of_eq rfl rfl)) h5
  have hs1 : s1.chan ch = c6 := s.chan_setChan ch c6
  have hs2 : s2.chan ch = c6 := by
    unfold s2
    split
    · exact ((WayOut.raiseError s1 0).chan ch).trans hs1
    · exact hs1
  have hs3 : Channel.Responds c (s3.chan ch) := by
    unfold s3
    split
    · exact hs2 ▸ h6
    · rw [State.updPort_chan, State.drain_chan, hs2]
      exact h6.trans (.of_eq rfl rfl)
  split
  · exact .refl c
  · split
    · rw [State.chan_setChan]
      exact .of_eq rfl rfl
    · split
      · rw [State.chan_setChan]
        exact h4
      · split
        · rw [State.updPort_chan]
          exact hs3
        · exact hs3

theorem State.tamperOne_responds (s : State) (ch : Chan) (n : Nat) :
    Channel.Responds (s.chan ch) ((s.tamperOne ch n).chan ch) := s.respond_responds ch _

/-! ### The commands -/

/-- A lane compare fault is answered as a tamper source (R182, R357), whose response leaves the flag and the completion. -/
theorem State.rakeDone_laneCompare {s : State} {ch : Chan} {n : Nat} {x : Item} (hn : n < (s.chan ch).skim.pairs.length)
    (hwork : (s.chan ch).laneWork n = some x) (hpast : (s.chan ch).past x = false) :
    (((s.rakeDone ch n .laneCompare).chan ch).lanePair n).faultCompare = true
    ∧ ((s.rakeDone ch n .laneCompare).chan ch).Ended x.id (x.record (Res.fail .faultDetected fltLane)) := by
  have hgo : s.rakeDone ch n .laneCompare = (s.setChan ch ((s.chan ch).laneCompareFault ch n x)).tamperOne ch srcLogic := by
    simp only [State.rakeDone, hwork]
  obtain ⟨hflag, hended⟩ := Channel.laneCompareFault_leaves ch hn hpast
  have hresponds := State.tamperOne_responds (s.setChan ch ((s.chan ch).laneCompareFault ch n x)) ch srcLogic
  rw [State.chan_setChan] at hresponds
  rw [hgo]
  exact ⟨(hresponds.faultCompare n).trans hflag, hresponds.ended hended⟩

/-- A self-test that passes takes 136 cycles, and its tide is noted (R184). -/
theorem State.laneTest_notes {s : State} {ch : Chan} {n : Nat} (hn : n < (s.chan ch).skim.pairs.length)
    (hopen : (s.chan ch).testOpen n = true) : ((s.laneTest ch n true).chan ch).lanePair n
      = { (s.chan ch).lanePair n with testedTide := some (s.chan ch).tide, busyUntil := (s.chan ch).now + 136 } := by
  unfold State.laneTest
  rw [if_neg (by simp [hopen]), if_pos rfl, State.chan_setChan, Channel.mapPair_lanePair hn]
  simp

/-- Settles O33, command by command. The completion of a lane compare fault outlives the tamper response to it, which stops no
item that has ended. That a refused read is an event with the address as its operand is the model's choice (R349 to R351, log
140). -/
theorem lanePairsRunJobs : Obligations.LanePairsRunJobs := by
  unfold Obligations.LanePairsRunJobs
  refine ⟨?_, ?_, ?_, ?_, ?_, ?_⟩
  · intro s ch n j hunits hhead hfirm hidle hqueue hmasks
    have hfree : (s.chan ch).pairFree n.toNat = true := by simp [Channel.pairFree, hfirm, hidle, hqueue]
    refine .intro rfl ?_
    rw [State.chan_upd]
    exact Channel.rakeStart_takes hhead hfirm hfree hmasks (Channel.unitsWhole_pairs hunits n)
  · intro s ch n j hunits hjob hleft hover hfirm hwaits
    refine .intro rfl ?_
    rw [State.chan_upd]
    exact Channel.rakeSliceEnd_yields (Channel.unitsWhole_pairs hunits n) hjob hleft hover hfirm hwaits
  · intro s ch n j hunits hjob hdone hover
    refine .intro rfl ?_
    rw [State.finish_chan, State.rakeDone, State.chan_setChan]
    exact Channel.rakeGood_leaves (Channel.unitsWhole_pairs hunits n) hjob hdone hover
  · intro s ch n x hunits hwork hskim hop hpast
    refine .intro rfl ?_
    rw [State.finish_chan]
    obtain ⟨hflag, hended⟩ := State.rakeDone_laneCompare (Channel.unitsWhole_pairs hunits n) hwork hpast
    exact ⟨hflag, hended.failed⟩
  · intro s ch n j x h a hunits hjob hitem hrefused hpast hpair
    refine .intro rfl ?_
    rw [State.finish_chan, State.rakeDone, State.chan_setChan]
    exact (Channel.rakeRefused_ended hjob hitem hrefused hpast).failed
  · intro s ch n hunits hopen
    refine .intro rfl ?_
    rw [State.finish_chan]
    have hpair := State.laneTest_notes (Channel.unitsWhole_pairs hunits n) hopen
    exact ⟨congrArg Pair.testedTide hpair, congrArg Pair.busyUntil hpair⟩

end Sys2Proof.Machine
end

section
/-! The register mode of the digest engines (O35): how an engine reads after a change, and what each register does with its
write. -/

namespace Sys2Proof.Machine

/-! ### The engines of a channel -/

theorem Channel.unitsWhole_digests {c : Channel} (h : c.unitsWhole = true) (n : BitVec 2) : n.toNat < c.digests.engines.length := by
  simp only [Channel.unitsWhole, Bool.and_eq_true, beq_iff_eq] at h
  omega

/-- A changed engine reads as changed. -/
theorem Digests.mapEngine_getD {d : Digests} {n : Nat} (h : n < d.engines.length) (f : DigestEngine → DigestEngine) :
    (d.mapEngine n f).engines.getD n DigestEngine.reset = f (d.engines.getD n DigestEngine.reset) := by
  simp [Digests.mapEngine, h]

theorem State.onDigests_digestEngine (s : State) (ch : Chan) (f : Digests → Digests) (n : Nat) :
    ((s.onDigests ch f).chan ch).digestEngine n = (f (s.chan ch).digests).engines.getD n DigestEngine.reset := by
  rw [State.onDigests, State.chan_upd]
  rfl

theorem State.onDigests_id {s : State} {ch : Chan} {f : Digests → Digests} (h : f (s.chan ch).digests = (s.chan ch).digests) :
    s.onDigests ch f = s := by
  show s.setChan ch { s.chan ch with digests := f (s.chan ch).digests } = s
  rw [h]
  cases ch <;> rfl

@[simp] theorem State.drawn_chan (s : State) (ch : Chan) : s.drawn.chan ch = s.chan ch := by cases ch <;> rfl

/-! ### The registers of register mode (R211 to R213, R221) -/

section
variable {d : Digests} {n : Nat}

/-- MODE with REG set, unlocked, opens register mode with an empty message. -/
theorem Digests.modeWrite_opens {v : Word} (hn : n < d.engines.length) (hreg : v.getLsbD 3 = true) (hlock : d.locked = false) :
    (d.modeWrite n v).engines.getD n DigestEngine.reset
      = { d.engines.getD n DigestEngine.reset with
          algo := v.setWidth 3, regMode := true, message := [], lastWord := 0#64, lastCount := none, done := false,
          result := zeros 64 } := by
  rw [Digests.modeWrite, Digests.mapEngine_getD hn]
  simp only [hreg, hlock, Bool.not_true, Bool.false_eq_true, if_false, BitVec.ofNat_toNat]

theorem DigestEngine.data_open {e : DigestEngine} {v : DWord} (hopen : e.lastCount = none) :
    e.data v = { e with message := e.message ++ beBytes 8 v.toNat } := by
  rw [DigestEngine.data, if_neg (by simp [hopen])]

/-- DATA joins its bytes to the message while finishing has not begun. -/
theorem Digests.dataWrite_message {v : DWord} (hn : n < d.engines.length)
    (hreg : (d.engines.getD n DigestEngine.reset).regMode = true) (hlock : d.locked = false)
    (hopen : (d.engines.getD n DigestEngine.reset).lastCount = none) :
    ((d.dataWrite n v).engines.getD n DigestEngine.reset).message
      = (d.engines.getD n DigestEngine.reset).message ++ beBytes 8 v.toNat := by
  unfold Digests.dataWrite
  rw [if_neg (by rw [hreg, hlock]; decide)]
  refine (congrArg DigestEngine.message (Digests.mapEngine_getD hn _)).trans ?_
  rw [DigestEngine.data_open hopen]

/-- A finisher register takes its write in register mode, unlocked. -/
theorem Digests.finisher_takes {f : DigestEngine → DigestEngine} (hn : n < d.engines.length)
    (hreg : (d.engines.getD n DigestEngine.reset).regMode = true) (hlock : d.locked = false) :
    (d.finisher n f).engines.getD n DigestEngine.reset = f (d.engines.getD n DigestEngine.reset) := by
  rw [Digests.finisher, if_neg (by simp [hlock]), Digests.mapEngine_getD hn, if_pos hreg]

/-- The finisher registers take no write while register mode is locked (R212). -/
theorem Digests.finisher_locked {f : DigestEngine → DigestEngine} (hlock : d.locked = true) : d.finisher n f = d :=
  if_pos hlock

theorem Digests.dataWrite_locked {v : DWord} (hlock : d.locked = true) : d.dataWrite n v = d :=
  if_pos (by simp [hlock])

/-- The first LAST_COUNT starts finishing up to 8 and faults above. -/
theorem DigestEngine.finishAt_first {e : DigestEngine} {v : Word} (hopen : e.lastCount = none) :
    if v.toNat % 16 ≤ 8 then (e.finishAt v).lastCount = some (v.setWidth 4)
    else (e.finishAt v).modeFault = true ∧ (e.finishAt v).lastCount = none := by
  simp only [DigestEngine.finishAt, BitVec.ofNat_toNat, BitVec.toNat_setWidth, Nat.reducePow]
  by_cases h : v.toNat % 16 ≤ 8
  · rw [if_pos h, if_neg (Nat.not_lt.2 h), hopen]
    rfl
  · rw [if_neg h, if_pos (Nat.lt_of_not_le h)]
    exact ⟨rfl, hopen⟩

/-- As finishing ends, DONE rises and RESULT holds the digest of the message with the counted bytes of the last word. -/
theorem Digests.finishDone_hashes {other : Bytes} {k : BitVec 4} {e : DigestEngine} (hn : n < d.engines.length)
    (he : d.engines.getD n DigestEngine.reset = e) (hreg : e.regMode = true) (hdone : e.done = false)
    (hcount : e.lastCount = some k) (hfirst : 1 ≤ e.algo.toNat) (hlast : e.algo.toNat ≤ 6) :
    ((d.finishDone n other).engines.getD n DigestEngine.reset).done = true
    ∧ ((d.finishDone n other).engines.getD n DigestEngine.reset).result
      = fitR 64 (digestOf e.algo.toNat (e.message ++ (beBytes 8 e.lastWord.toNat).take k.toNat)) := by
  unfold Digests.finishDone
  simp only [he, hcount, hreg, hdone, Bool.not_true, Bool.or_self, Bool.false_eq_true, if_false, hfirst, hlast, decide_true,
    Bool.and_self, if_true]
  constructor
  · exact congrArg DigestEngine.done (Digests.mapEngine_getD hn _)
  · exact congrArg DigestEngine.result (Digests.mapEngine_getD hn _)

/-- The count of a compare changes no engine. -/
theorem Digests.compareWrite_getD {expect : Option Bytes} {v : Word} {pick : Nat} (hn : n < d.engines.length) :
    (d.compareWrite n expect v pick).engines.getD n DigestEngine.reset
      = ({ d.engines.getD n DigestEngine.reset with
            expect := expect.getD (d.engines.getD n DigestEngine.reset).expect } : DigestEngine).compare v pick := by
  rw [← Digests.mapEngine_getD (f := fun e => ({ e with expect := expect.getD e.expect } : DigestEngine).compare v pick) hn]
  unfold Digests.compareWrite
  extract_lets d' e'
  split_ifs <;> rfl

end

theorem fitR_of_length {n : Nat} {bs : Bytes} (h : bs.length = n) : fitR n bs = bs := by
  simp [fitR, zeros, ← h]

/-- A compare of 1 to 64 bytes of a finished digest: MATCH for equal leftmost bytes, and MATCH_N its inverse (R213). -/
theorem DigestEngine.compare_verdict {e : DigestEngine} {v : Word} {pick : Nat} (hgo : v.getLsbD 7 = true)
    (hfirst : 1 ≤ v.toNat % 128) (hlast : v.toNat % 128 ≤ 64) (hdone : e.done = true) (hlength : e.expect.length = 64) :
    ((e.compare v pick).isMatch = true ↔ e.result.take (v.toNat % 128) = e.expect.take (v.toNat % 128))
    ∧ (e.compare v pick).isMatchN = !(e.compare v pick).isMatch := by
  have hwindow : e.resultWindow = e.result := if_pos hdone
  simp only [DigestEngine.compare, hgo, Bool.not_true, Bool.false_eq_true, if_false, hfirst, hlast, decide_true, Bool.and_self,
    if_true, hwindow, fitR_of_length hlength]
  exact ⟨beq_iff_eq, trivial⟩

/-- Settles O35, register by register. Which registers lock and the compare while locked are log 93, EXPECT as an operand log
94, the MODE read log 99, and LAST_WORD while finishing log 281. -/
theorem digestRegisterMode : Obligations.DigestRegisterMode := by
  unfold Obligations.DigestRegisterMode
  refine ⟨?_, ?_, ?_, ?_, ?_, ?_, ?_, ?_⟩
  · intro s ch n v hunits hreg hlock
    refine .intro rfl ?_
    rw [State.onDigests_digestEngine, Digests.modeAccess, Digests.modeWrite_opens (Channel.unitsWhole_digests hunits n) hreg hlock]
    exact ⟨rfl, rfl, rfl, rfl, rfl⟩
  · intro s ch n hunits
    refine .intro rfl ?_
    rw [State.onDigests_digestEngine, Digests.modeAccess, Digests.mapEngine_getD (Channel.unitsWhole_digests hunits n)]
    exact ⟨rfl, rfl⟩
  · intro s ch n v hunits hreg hlock hopen
    refine .intro rfl ?_
    rw [State.onDigests_digestEngine]
    exact Digests.dataWrite_message (Channel.unitsWhole_digests hunits n) hreg hlock hopen
  · intro s ch n v hunits hreg hlock
    refine .intro rfl ?_
    rw [State.onDigests_digestEngine, Digests.finisher_takes (Channel.unitsWhole_digests hunits n) hreg hlock]
  · intro s ch n v hunits hreg hlock hopen
    refine .intro rfl ?_
    rw [State.onDigests_digestEngine, Digests.finisher_takes (Channel.unitsWhole_digests hunits n) hreg hlock]
    exact DigestEngine.finishAt_first hopen
  · intro s ch n k hunits hreg hdone hcount hfirst hlast
    refine .intro rfl ?_
    rw [State.drawn_chan, State.onDigests_digestEngine]
    exact Digests.finishDone_hashes (Channel.unitsWhole_digests hunits n) rfl hreg hdone hcount hfirst hlast
  · intro s ch n e v hunits hgo hfirst hlast hdone hlength
    refine .intro rfl ?_
    rw [State.drawn_chan, State.onDigests_digestEngine, Digests.compareWrite_getD (Channel.unitsWhole_digests hunits n)]
    exact DigestEngine.compare_verdict hgo hfirst hlast hdone hlength
  · intro s ch n v w hlock
    exact ⟨congrArg Host.Outcome.next (State.onDigests_id (Digests.dataWrite_locked hlock)),
      congrArg Host.Outcome.next (State.onDigests_id (Digests.finisher_locked hlock)),
      congrArg Host.Outcome.next (State.onDigests_id (Digests.finisher_locked hlock))⟩

end Sys2Proof.Machine
end

section
/-! The jobs of the digest engines (O34), which fails at a slice's end: a job sent back takes along the blocks that its slice has
compressed (R220), where the statement has it queued with the count it had before. -/

namespace Sys2Proof.Machine

/-! ### The end of a slice (R209, R220) -/

/-- As the blocks compressed by now are counted, an engine's job takes along its own; its time stays. -/
theorem Channel.sync_digestEngine {c : Channel} {n : Nat} (hn : n < c.digests.engines.length) :
    (c.sync.digestEngine n).job
      = (c.digestEngine n).job.map (fun j => { j with hashed := j.hashed + (syncWork (c.digestEngine n).work c.now).1 })
    ∧ (c.sync.digestEngine n).busyUntil = (c.digestEngine n).busyUntil := by
  simp [Channel.sync, Channel.digestEngine, hn]

/-- A job whose slice ends while a job of its level waits goes back to the queue, with the blocks of the slice compressed. -/
theorem Channel.digestSliceEnd_queues {c : Channel} {n : Nat} {j : Job} (hn : n < c.digests.engines.length)
    (hjob : (c.digestEngine n).job = some j) (hleft : j.runs ≠ []) (hover : (c.digestEngine n).busyUntil ≤ c.now)
    (hwaits : (c.landed c.digests.jobs).any (fun k => k.rank ≤ j.rank) = true) :
    (c.digestSliceEnd n).digests.jobs
      = queueJob c.digests.jobs { j with hashed := j.hashed + (syncWork (c.digestEngine n).work c.now).1,
                                         saved := true, readyAt := c.now + 24, front := false } := by
  obtain ⟨hsynced, hbusy⟩ := Channel.sync_digestEngine hn
  have hruns : j.runs.isEmpty = false := by simpa using hleft
  have hnow : ¬ c.sync.now < (c.sync.digestEngine n).busyUntil := by
    rw [hbusy]
    exact Nat.not_lt.2 hover
  rw [hjob, Option.map_some] at hsynced
  unfold Channel.digestSliceEnd
  simp only [hsynced, hruns, hnow, decide_false, Bool.or_self, Bool.false_eq_true, if_false]
  split
  all_goals exact congrArg (fun d : Channel => d.digests.jobs) (if_pos hwaits)

/-! ### A job of two slices -/

/-- A SHA-256 job over 3,831 bytes with their padding: 60 blocks of 68 cycles, of which 52 fit in a slice. -/
def sixtyBlocks (item : Nat) : Job :=
  { item := item, level := 0#3, urgent := false, runs := [{ count := 60, cycles := 68, blocks := 1 }],
    frags := [{ addr := 0#64, len := 3840#24, hbm := false, last := true, reserved := 0#38 }], regions := [], saved := false,
    readyAt := 0, front := false, message := 3831, block := 64, lead := 0, hashed := 0 }

/-- A DIGEST by SHA-256 that waits for its engine. -/
def digestItem : Item :=
  { Item.new 0 .digest { hdr := Header.parse (zeros 32), payload := 2#8 :: zeros 15, intakeTide := 0, intakeNo := 1 } with
    phase := .engine }

/-- Engine 0 of a channel takes the first of two such jobs at cycle 0; at cycle 3,572 its slice is over. -/
def State.sliceOver : State :=
  State.reset.upd .a (fun c =>
    { ({ c with sched := { c.sched with items := [digestItem] }
                digests := { c.digests with jobs := [sixtyBlocks 0, sixtyBlocks 1] } } : Channel).digestStart 0 with
      offset := 3572 })

/-- The job with the 8 blocks that its second slice runs. -/
def eightLeft : Job := { sixtyBlocks 0 with runs := [{ count := 8, cycles := 68, blocks := 1 }] }

theorem State.sliceOver_job : (State.sliceOver.a.digestEngine 0).job = some eightLeft := by decide

theorem State.sliceOver_jobs : State.sliceOver.a.digests.jobs = [sixtyBlocks 1] := by decide

theorem State.sliceOver_blocks : (syncWork (State.sliceOver.a.digestEngine (0#2).toNat).work State.sliceOver.a.now).1 = 52 := by decide

/-- Refutes O34: the job goes back to the queue with the 52 blocks of its slice compressed, and the statement has it there with
none. -/
theorem not_digestEnginesRunJobs : ¬ Obligations.DigestEnginesRunJobs := by
  rintro ⟨-, -, hslice, -⟩
  have hunits : State.sliceOver.a.unitsWhole = true := by decide
  have hover : (State.sliceOver.a.digestEngine 0).busyUntil ≤ State.sliceOver.a.now := by decide
  have hwaits : (State.sliceOver.a.landed State.sliceOver.a.digests.jobs).any (fun k => k.rank ≤ eightLeft.rank) = true := by
    decide
  have hleft : eightLeft.runs ≠ [] := List.cons_ne_nil _ _
  obtain ⟨t, hexec, -, -, hjobs⟩ := hslice State.sliceOver .a 0#2 eightLeft hunits State.sliceOver_job hleft hover hwaits
  obtain rfl := Host.Outcome.next.inj hexec
  have hqueue := Channel.digestSliceEnd_queues (Channel.unitsWhole_digests hunits 0#2) State.sliceOver_job hleft hover hwaits
  rw [State.chan_upd, State.chan_a, hqueue, State.sliceOver_blocks, State.sliceOver_jobs] at hjobs
  exact absurd hjobs (by decide)

end Sys2Proof.Machine
end

section
/-! The jobs of the public-key engines (O36): how an engine takes, validates, reports and ends a job, what an ended job leaves,
and that the response to a failed closing check takes nothing of it back. -/

namespace Sys2Proof.Machine

/-! ### The engines of a channel -/

theorem Channel.unitsWhole_pks {c : Channel} (h : c.unitsWhole = true) (n : BitVec 4) : n.toNat < c.pks.engines.length := by
  simp only [Channel.unitsWhole, Bool.and_eq_true, beq_iff_eq] at h
  omega

/-- A changed engine reads as changed. -/
theorem Channel.mapPk_pkEngine {c : Channel} {n : Nat} (h : n < c.pks.engines.length) (f : PkEngine → PkEngine) :
    (c.mapPk n f).pkEngine n = f (c.pkEngine n) := by
  simp [Channel.mapPk, Pks.mapEngine, Channel.pkEngine, h]

/-- An engine without a job stays without one under a change of all engines that gives none a job. -/
theorem PkEngine.map_idle {l : List PkEngine} {n : Nat} {f : PkEngine → PkEngine} (hf : ∀ e, e.job = none → (f e).job = none)
    (h : (l.getD n PkEngine.reset).job = none) : ((l.map f).getD n PkEngine.reset).job = none := by
  simp only [List.getD_eq_getElem?_getD, List.getElem?_map] at h ⊢
  cases he : l[n]? with
  | none => rfl
  | some e =>
    rw [he] at h
    exact hf e h

/-- The stop of an item gives no engine a job. -/
theorem Channel.stop_idle {c : Channel} {n : Nat} (h : (c.pkEngine n).job = none) (x : Item) :
    ((c.stop x).pkEngine n).job = none :=
  PkEngine.map_idle (by intro e he; simp [he]) h

theorem Channel.pkItem_eq {c : Channel} {n : Nat} {j : PkJob} {x : Item} (hjob : (c.pkEngine n).job = some j)
    (hitem : c.item? j.item = some x) : c.pkItem n = some x := by
  rw [Channel.pkItem, hjob, Option.bind_some, hitem]

/-! ### Start (R233, R234, R241) -/

/-- Everything the draws of an item can do to a channel. -/
theorem Channel.drawFor_eq (c : Channel) (x : Item) (ks : List Loaded) : ∃ g, (c.drawFor x ks).1 = { c with rng := g } := by
  unfold Channel.drawFor
  extract_lets l
  split
  · exact ⟨_, rfl⟩
  · split <;> exact ⟨_, rfl⟩

/-- Everything the blinding of an operation can do to a channel. -/
theorem Channel.blind_eq (c : Channel) (x : Item) : ∃ g, (c.blind x).1 = { c with rng := g } := by
  unfold Channel.blind
  split_ifs <;> exact ⟨_, rfl⟩

section
variable {c : Channel} {n : Nat} {j : PkJob} {x : Item}

/-- A free engine runs the job at the head of its kind's queue, once the job has its material. -/
theorem Channel.pkStart_eq
    (hhead : headPk (if c.pks.halvedEngine n then c.pks.queueHalved else c.pks.queueTwin) = some j) (hfree : c.pkFree n = true)
    (hitem : c.item? j.item = some x)
    (hdrawn : isPk x.op = false ∨ ∃ c₁ y c₂ z, c.drawFor x (c.held x) = (c₁, y, true) ∧ y.rngFailed = false
      ∧ c₁.blind y = (c₂, z, true) ∧ z.rngFailed = false) :
    ∃ (d : Channel) (z : Item), d.pks = c.pks ∧ d.now = c.now ∧ c.pkStart n = d.pkRun n j z := by
  by_cases hop : isPk x.op
  · obtain ⟨c₁, y, c₂, z, hdraw, hy, hblind, hz⟩ := hdrawn.resolve_left (by simp [hop])
    obtain ⟨g, hg⟩ := c.drawFor_eq x (c.held x)
    obtain ⟨g', hg'⟩ := c₁.blind_eq y
    rw [hdraw] at hg
    rw [hblind] at hg'
    obtain rfl : c₁ = { c with rng := g } := hg
    obtain rfl : c₂ = { c with rng := g' } := hg'
    exact ⟨({ c with rng := g' } : Channel).setItem z, z, rfl, rfl, by
      simp [Channel.pkStart, hhead, hfree, hitem, hop, hdraw, hy, hblind, hz]⟩
  · exact ⟨c, x, rfl, rfl, by simp [Channel.pkStart, hhead, hfree, hitem, hop]⟩

/-- An engine that no other function owns takes a job without a wipe. -/
theorem Channel.pkRun_pkEngine (hn : n < c.pks.engines.length)
    (howner : (c.pkEngine n).owned = true → (c.pkEngine n).owner.toNat = j.function) :
    (c.pkRun n j x).pkEngine n
      = { c.pkEngine n with job := some j, startedAt := c.now, validated := false, slicesReported := 0, owned := true,
                            owner := BitVec.ofNat 8 j.function, wiping := false, secret := [], working := x.p } := by
  have hwipe : ((c.pkEngine n).owned && (c.pkEngine n).owner.toNat != j.function) = false := by simpa using howner
  unfold Channel.pkRun
  simp only [hwipe, Bool.false_eq_true, if_false]
  exact Channel.mapPk_pkEngine (c := { c with pks := c.pks.take j }) hn _

/-- A job that an engine runs has left its queue, whether the engine wipes first or not. -/
theorem Channel.pkRun_queues (c : Channel) (n : Nat) (j : PkJob) (x : Item) :
    (c.pkRun n j x).pks.queueTwin = c.pks.queueTwin.erase j ∧ (c.pkRun n j x).pks.queueHalved = c.pks.queueHalved.erase j := by
  unfold Channel.pkRun
  extract_lets now e wipe start p p'
  have hp : p'.queueTwin = p.queueTwin ∧ p'.queueHalved = p.queueHalved := by
    unfold p'
    split <;> exact ⟨rfl, rfl⟩
  exact hp

end

/-! ### Ends of a job (R236, R238, R241) -/

/-- The inputs refused and the closing checks failed, as a channel counts them (R246). -/
def Pks.rejections (k : Pks) : BitVec 16 × BitVec 16 := (k.rejInput, k.rejInvariant)

@[simp] theorem Pks.log_rejections (k : Pks) (n kind tide : Nat) : (k.log n kind tide).rejections = k.rejections := by
  unfold Pks.log
  split <;> rfl

/-- Engine `n` has ended a job: it is free, its channel counts the rejections `k`, and the item of the completion `p` has ended
with it. -/
structure Channel.PkEnded (c : Channel) (n : Nat) (k : BitVec 16 × BitVec 16) (p : Produced) : Prop where
  idle : (c.pkEngine n).job = none
  rejections : c.pks.rejections = k
  finished : ∀ y ∈ c.sched.items, p.item = some y.id → y.phase = .finished
  completion : p ∈ c.sched.produced

namespace Channel.PkEnded

variable {c d : Channel} {n : Nat} {k : BitVec 16 × BitVec 16} {p : Produced}

theorem of_eq (h : c.PkEnded n k p) (hsched : d.sched = c.sched) (hpks : d.pks = c.pks) : d.PkEnded n k p where
  idle := by rw [Channel.pkEngine, hpks]; exact h.idle
  rejections := by rw [hpks]; exact h.rejections
  finished := by rw [hsched]; exact h.finished
  completion := by rw [hsched]; exact h.completion

theorem ite (b : Prop) [Decidable b] (hc : c.PkEnded n k p) (hd : d.PkEnded n k p) : (if b then c else d).PkEnded n k p := by
  split
  · exact hc
  · exact hd

theorem foldl {α : Type} {f : Channel → α → Channel} {l : List α} (h : c.PkEnded n k p)
    (hf : ∀ {c}, ∀ a ∈ l, c.PkEnded n k p → (f c a).PkEnded n k p) : (l.foldl f c).PkEnded n k p :=
  List.foldlRecOn (motive := (·.PkEnded n k p)) l f h fun _ hc a ha => hf a ha hc

theorem produce (h : c.PkEnded n k p) (x : Item) (producer at' : Nat) (r : Res) : (c.produce x producer at' r).PkEnded n k p where
  idle := h.idle
  rejections := h.rejections
  finished := by
    intro y hy hid
    obtain ⟨z, hz, rfl⟩ := List.mem_map.1 hy
    dsimp only at hid ⊢
    split
    · rfl
    next hne => exact h.finished z hz (by rwa [if_neg hne] at hid)
  completion := List.mem_append_left _ h.completion

/-- The stop of another item takes back nothing of the job. -/
theorem stop (h : c.PkEnded n k p) {x : Item} (hx : p.item ≠ some x.id) : (c.stop x).PkEnded n k p where
  idle := Channel.stop_idle h.idle x
  rejections := h.rejections
  finished := h.finished
  completion := List.mem_filter.2 ⟨h.completion, by simpa using hx⟩

/-- The stop of any item takes back nothing of the job, since it does nothing to the job's own, which is finished. -/
theorem abort (h : c.PkEnded n k p) {x : Item} (hx : p.item = some x.id → x.phase = .finished) (r : Res) :
    (c.abort x r).PkEnded n k p := by
  unfold Channel.abort
  split
  · exact h
  next hpast =>
    have hother : p.item ≠ some x.id := fun hid => hpast (by simp [Channel.past, hx hid])
    dsimp only
    split
    all_goals exact (h.stop hother).produce _ _ _ _

theorem wipeAll (h : c.PkEnded n k p) (now : Nat) : ({ c with pks := c.pks.wipeAll now } : Channel).PkEnded n k p where
  idle := PkEngine.map_idle (by intro e he; simp [he]) h.idle
  rejections := h.rejections
  finished := h.finished
  completion := h.completion

/-! The response to a tamper source (R364 to R369) -/

theorem killStream (h : c.PkEnded n k p) (m i : Nat) : (c.killStream m i).PkEnded n k p := h.of_eq rfl rfl

theorem killStreams (h : c.PkEnded n k p) (m : Nat) (f : Nat → Stream → Bool) : (c.killStreams m f).PkEnded n k p := by
  unfold Channel.killStreams
  extract_lets r hit r1 c1
  exact foldl (h.of_eq rfl rfl) fun _ _ hc => hc.of_eq rfl rfl

/-- The items that a response of L2 stops are those of the channel, and the job's own has ended. -/
theorem respondL2 (h : c.PkEnded n k p) (m : Nat) : (c.respondL2 m).PkEnded n k p := by
  unfold Channel.respondL2
  extract_lets hit opens c1 c2 c3
  have h1 : c1.PkEnded n k p := h.foldl fun _ _ hc => hc.killStream _ _
  have h2 : c2.PkEnded n k p := h1.killStreams _ _
  have h3 : c3.PkEnded n k p := h2.foldl fun x hx hc => hc.abort (h.finished x (List.mem_of_mem_filter hx)) _
  exact (h3.wipeAll c3.now).of_eq rfl rfl

theorem respondL3 (h : c.PkEnded n k p) (m : Nat) : (c.respondL3 m).PkEnded n k p := by
  unfold Channel.respondL3 Channel.eraseVolatile
  extract_lets c1 c2 g e
  have h2 : c2.PkEnded n k p := (h.killStreams _ _).foldl fun _ _ hc => hc.of_eq rfl rfl
  exact (h2.wipeAll c2.now).of_eq rfl rfl

theorem respondL4 (h : c.PkEnded n k p) : c.respondL4.PkEnded n k p :=
  .ite _ (h.of_eq rfl rfl) (.ite _ (h.of_eq rfl rfl) (h.of_eq rfl rfl))

theorem respondUpTo (h : c.PkEnded n k p) (m done level : Nat) : (c.respondUpTo m done level).PkEnded n k p := by
  unfold Channel.respondUpTo
  extract_lets c1 c2
  have h1 : c1.PkEnded n k p := .ite _ (h.respondL2 m) h
  have h2 : c2.PkEnded n k p := .ite _ (h1.respondL3 m) h1
  exact .ite _ h2.respondL4 h2

theorem setEvidence (h : c.PkEnded n k p) (src : BitVec 23) : (c.setEvidence src).PkEnded n k p :=
  h.foldl fun _ _ hc => hc.of_eq rfl rfl

end Channel.PkEnded

/-- Whatever the level of a tamper response, and whether one begins at all, it takes back nothing of a job that has ended. -/
theorem State.respond_pkEnded {s : State} {ch : Chan} {n : Nat} {k : BitVec 16 × BitVec 16} {p : Produced}
    (h : (s.chan ch).PkEnded n k p) (src : BitVec 23) : ((s.respond ch src).chan ch).PkEnded n k p := by
  unfold State.respond
  extract_lets c i w c1 done level c2 j c3 c4 union c5 c6 s1 s2 s3
  have h1 : c1.PkEnded n k p := h.of_eq rfl rfl
  have h2 : c2.PkEnded n k p := h1.foldl fun _ _ hc => hc.of_eq rfl rfl
  have h3 : c3.PkEnded n k p := .ite _ h2 (h2.of_eq rfl rfl)
  have h4 : c4.PkEnded n k p := .ite _ (h3.setEvidence src) h3
  have h5 : c5.PkEnded n k p := .respondUpTo (by exact h4.of_eq rfl rfl) _ _ _
  have h6 : c6.PkEnded n k p := .ite _ (h5.of_eq rfl rfl) h5
  have hs1 : s1.chan ch = c6 := s.chan_setChan ch c6
  have hs2 : s2.chan ch = c6 := by
    unfold s2
    split
    · exact ((WayOut.raiseError s1 0).chan ch).trans hs1
    · exact hs1
  have hs3 : (s3.chan ch).PkEnded n k p := by
    unfold s3
    split
    · exact hs2 ▸ h6
    · rw [State.updPort_chan, State.drain_chan, hs2]
      exact h6.of_eq rfl rfl
  split
  · exact h
  · split
    · rw [State.chan_setChan]
      exact h1
    · split
      · rw [State.chan_setChan]
        exact h4
      · split
        · rw [State.updPort_chan]
          exact hs3
        · exact hs3

/-- The completion that engine `n` gives an item. -/
def pkCompletion (n at' : Nat) (x : Item) (r : Res) : Produced :=
  { producer := 12 + n, readyAt := at', item := some x.id, record := x.record r }

/-- An item completes from an engine that is free of its job. -/
theorem Channel.produce_pkEnded {c : Channel} {n : Nat} (hidle : (c.pkEngine n).job = none) (at' : Nat) (x : Item) (r : Res) :
    (c.produce x (12 + n) at' r).PkEnded n c.pks.rejections (pkCompletion n at' x r) where
  idle := hidle
  rejections := rfl
  finished := fun y hy hid => (c.produce_ended x (12 + n) at' r).finished y hy (Option.some.inj hid).symm
  completion := List.mem_append_right _ (List.mem_singleton_self _)

@[simp] theorem Channel.noteResult_pks (c : Channel) (x : Item) (r : Res) : (c.noteResult x r).pks = c.pks := by
  obtain ⟨k, g, h, hnote⟩ := c.noteResult_eq x r
  rw [hnote]

@[simp] theorem Channel.noteResult_now (c : Channel) (x : Item) (r : Res) : (c.noteResult x r).now = c.now := by
  obtain ⟨k, g, h, hnote⟩ := c.noteResult_eq x r
  rw [hnote]
  rfl

/-- An aborted job frees its engine, leaves the counts of rejections, and ends its item. -/
theorem Channel.pkAbort_ended {c : Channel} {n : Nat} (hn : n < c.pks.engines.length) (x : Item) (r : Res) :
    (c.pkAbort n x r).PkEnded n c.pks.rejections (pkCompletion n (c.now + 18) x r) := by
  have hpks := c.noteResult_pks x r
  have hnow := c.noteResult_now x r
  unfold Channel.pkAbort
  generalize c.noteResult x r = d at hpks hnow ⊢
  extract_lets now d1 pks d2
  have hidle : (d1.pkEngine n).job = none := congrArg PkEngine.job (Channel.mapPk_pkEngine (by rwa [hpks]) _)
  have hstopped : (d2.pkEngine n).job = none := Channel.stop_idle (by exact hidle) x
  have hrejections : d2.pks.rejections = c.pks.rejections := by
    show d.pks.rejections = _
    rw [hpks]
  have hnow2 : d2.now = c.now := hnow
  rw [hnow2, ← hrejections]
  exact Channel.produce_pkEnded hstopped _ x r

/-! ### Validation (R236) -/

section
variable {c : Channel} {n : Nat} {j : PkJob} {x : Item} (hn : n < c.pks.engines.length) (hjob : (c.pkEngine n).job = some j)
  (hitem : c.item? j.item = some x) (hover : (c.pkEngine n).startedAt + j.valid ≤ c.now)
include hn hjob hitem hover

/-- An input that validation refuses is counted, and ends the job with INPUT_REJECTED. -/
theorem Channel.pkValidate_refuses {d : BitVec 4} (hfirst : (c.pkEngine n).validated = false)
    (hrefused : c.pkRefuses x (c.held x) = some d) :
    (c.pkValidate n).PkEnded n (satBv c.pks.rejInput 1, c.pks.rejInvariant)
      (pkCompletion n (c.now + 18) x (.fail .inputRejected d)) := by
  unfold Channel.pkValidate
  simp only [hjob, Channel.pkItem_eq hjob hitem, hfirst, Nat.not_lt.2 hover, decide_false, Bool.or_self, Bool.false_eq_true,
    if_false, hrefused]
  exact Channel.pkAbort_ended (c := { c with pks := { c.pks with rejInput := satBv c.pks.rejInput 1 } }) hn x _

/-- A job that validation does not refuse is marked as validated. -/
theorem Channel.pkValidate_marks (hgood : c.pkRefuses x (c.held x) = none) :
    ((c.pkValidate n).pkEngine n).job = some j ∧ ((c.pkValidate n).pkEngine n).validated = true := by
  unfold Channel.pkValidate
  simp only [hjob, Channel.pkItem_eq hjob hitem, Nat.not_lt.2 hover, decide_false, Bool.or_false, hgood]
  split
  next hdone => exact ⟨hjob, hdone⟩
  · rw [Channel.mapPk_pkEngine hn]
    exact ⟨hjob, rfl⟩

end

/-! ### Slices (R234) -/

/-- The end of a slice is counted, and the item has the slices left that its cycles ask for, one at least. -/
theorem Channel.pkReport_reports {c : Channel} {n : Nat} {j : PkJob} {x : Item} (hn : n < c.pks.engines.length)
    (hjob : (c.pkEngine n).job = some j) (hitem : c.item? j.item = some x)
    (hover : (c.pkEngine n).startedAt + 3584 * ((c.pkEngine n).slicesReported + 1) ≤ c.now) :
    ((c.pkReport n).pkEngine n).slicesReported = (c.pkEngine n).slicesReported + 1
    ∧ (c.pkReport n).item? x.id
      = some { x with remaining := max 1 (ceilDiv j.cycles 3584 - ((c.pkEngine n).slicesReported + 1)) } := by
  unfold Channel.pkReport
  simp only [hjob, Channel.pkItem_eq hjob hitem, Nat.not_lt.2 hover, if_false]
  constructor
  · exact congrArg PkEngine.slicesReported (Channel.mapPk_pkEngine (c := c.setItem _) hn _)
  · rw [Channel.trace_item?]
    exact Channel.setItem_item?_same (List.mem_map_of_mem (Channel.item?_some hitem).1)

/-! ### The end of an operation (R229, R238, R239) -/

/-- An operation of range 0x0700 is no key operation of a transport, so it is stopped by nothing but its own result. -/
theorem pkStops_eq_none {x : Item} {ks : List Loaded} {r : Res} (hop : isPk x.op = true) (hcheck : r.code ≠ .invariantFail)
    (hcap : r.code ≠ .faultDetected) : pkStops x ks r = none := by
  have hexport : x.op ≠ .transportExport := by
    intro h
    rw [h] at hop
    exact absurd hop (by decide)
  simp [pkStops, hcheck, hcap, hexport]

/-- A result that waits for no shadow entry completes its item 18 cycles on. -/
theorem Channel.pkLeave_completes {c d : Channel} {x : Item} {r : Res} (hroom : c.install? x (d, r) = none) (n : Nat) :
    pkCompletion n (d.now + 18) x r ∈ (c.pkLeave d n x r).sched.produced := by
  unfold Channel.pkLeave
  simp only [hroom]
  exact List.mem_append_right _ (List.mem_singleton_self _)

/-- Everything the note of a signing can do to a channel. -/
theorem Channel.noteSigning_eq (c : Channel) (x : Item) (ks : List Loaded) :
    ∃ a h, c.noteSigning x ks = { c with pks := { c.pks with maxAttempts := a, capHits := h } } := by
  unfold Channel.noteSigning
  split
  · exact ⟨_, _, rfl⟩
  · exact ⟨_, _, rfl⟩

/-- A failed closing check is counted, and ends the job with INVARIANT_FAIL. -/
theorem Channel.pkInvariant_ended {c : Channel} {n : Nat} (hn : n < c.pks.engines.length) (ch : Chan) (x : Item) :
    (c.pkInvariant ch n x).PkEnded n (c.pks.rejInput, satBv c.pks.rejInvariant 1)
      (pkCompletion n (c.now + 18) x (.fail .invariantFail)) := by
  unfold Channel.pkInvariant
  extract_lets k c1
  have hrejections : c1.pks.rejections = (c.pks.rejInput, satBv c.pks.rejInvariant 1) :=
    Pks.log_rejections { k with rejInvariant := satBv k.rejInvariant 1 } n 4 c.tide
  have hengines : c1.pks.engines = c.pks.engines := by
    show (Pks.log _ _ _ _).engines = _
    unfold Pks.log
    split <;> rfl
  rw [← hrejections]
  exact Channel.pkAbort_ended (c := c1.event ch 0x40 n) (by exact hengines ▸ hn) x _

section
variable {s : State} {ch : Chan} {n : Nat} {j : PkJob} {x : Item} (hjob : ((s.chan ch).pkEngine n).job = some j)
  (hitem : (s.chan ch).item? j.item = some x)
include hjob hitem

/-- A good end of an operation of range 0x0700 completes its item with what the operation computes. -/
theorem State.pkDone_good_completes {r : Channel × Res} (hran : (s.chan ch).pkRanOut n x = true) (hop : isPk x.op = true)
    (hr : r = ((s.chan ch).noteSigning x ((s.chan ch).held x)).run x ((s.chan ch).held x)) (hcheck : r.2.code ≠ .invariantFail)
    (hcap : r.2.code ≠ .faultDetected) (hroom : ((s.chan ch).noteSigning x ((s.chan ch).held x)).install? x r = none) :
    pkCompletion n (r.1.now + 18) x r.2 ∈ ((s.pkDone ch n .good).chan ch).sched.produced := by
  have hgo : s.pkDone ch n .good
      = s.setChan ch (((s.chan ch).noteSigning x ((s.chan ch).held x)).pkLeave r.1 n x r.2) := by
    simp only [State.pkDone, hjob, Channel.pkItem_eq hjob hitem, State.pkGood, hran, hop, ← hr, pkStops_eq_none hop hcheck hcap,
      Bool.not_true, Bool.false_eq_true, if_false]
  rw [hgo, State.chan_setChan]
  exact Channel.pkLeave_completes hroom n

/-- A failed closing check is answered as a tamper source (R357), whose response takes nothing of the end back. -/
theorem State.pkDone_closingCheck_ended (hn : n < (s.chan ch).pks.engines.length)
    (hcloses : (pkStep x ((s.chan ch).held x)).closes = true) (hran : (s.chan ch).pkRanOut n x = true) :
    ((s.pkDone ch n .closingCheck).chan ch).PkEnded n ((s.chan ch).pks.rejInput, satBv (s.chan ch).pks.rejInvariant 1)
      (pkCompletion n ((s.chan ch).now + 18) x (.fail .invariantFail)) := by
  have hgo : s.pkDone ch n .closingCheck
      = (s.setChan ch (((s.chan ch).noteSigning x ((s.chan ch).held x)).pkInvariant ch n x)).tamperOne ch srcLogic := by
    simp only [State.pkDone, hjob, Channel.pkItem_eq hjob hitem, hcloses, hran, Bool.and_self, if_true]
  obtain ⟨a, h, hnote⟩ := (s.chan ch).noteSigning_eq x ((s.chan ch).held x)
  rw [hgo, hnote]
  refine State.respond_pkEnded ?_ _
  rw [State.chan_setChan]
  exact Channel.pkInvariant_ended (c := { s.chan ch with pks := { (s.chan ch).pks with maxAttempts := a, capHits := h } }) hn ch x

/-- A read that the job's region set refuses ends the job with FAULT_DETECTED (R349 to R351). -/
theorem State.pkDone_readRefused_ended (hn : n < (s.chan ch).pks.engines.length) {hbm : Bool} {a : BitVec 64}
    (hrefused : permits j.regions hbm false a.toNat = false) :
    ((s.pkDone ch n (.readRefused hbm a)).chan ch).PkEnded n (s.chan ch).pks.rejections
      (pkCompletion n ((s.chan ch).now + 18) x (.fail .faultDetected fltEngine)) := by
  have hgo : s.pkDone ch n (.readRefused hbm a)
      = s.setChan ch (((s.chan ch).reportRefused false a.toNat).pkAbort n x (.fail .faultDetected fltEngine)) := by
    simp only [State.pkDone, hjob, Channel.pkItem_eq hjob hitem, Channel.pkPiece, hrefused, Bool.false_eq_true, if_false]
  rw [hgo, State.chan_setChan]
  exact Channel.pkAbort_ended (c := (s.chan ch).reportRefused false a.toNat) hn x _

end

/-! ### Wipes (R241) -/

/-- A wipe that has run its cycles leaves both regions clear, but for what a job that waited for it brings. -/
theorem PkEngine.wiped_over {e : PkEngine} {now : Nat} (hwiping : e.wiping = true) (hover : e.wipingUntil ≤ now) :
    e.wiped now = { e with wiping := false, secret := [], working := if e.job.isSome then e.working else [] } := by
  simp [PkEngine.wiped, hwiping, hover]

/-! ### The commands -/

/-- Settles O36, command by command. Draws at the engine's start are log 103, the closing check as an operand log 104, and a
refused read as an event log 140. -/
theorem publicKeyEnginesRunJobs : Obligations.PublicKeyEnginesRunJobs := by
  unfold Obligations.PublicKeyEnginesRunJobs
  refine ⟨?_, ?_, ?_, ?_, ?_, ?_, ?_, ?_⟩
  · intro s ch n j x hunits hhead hfree howner hitem hdrawn
    refine .intro rfl ?_
    rw [State.chan_upd]
    obtain ⟨d, z, hpks, hnow, hstart⟩ := Channel.pkStart_eq hhead hfree hitem hdrawn
    have hengine : d.pkEngine n.toNat = (s.chan ch).pkEngine n.toNat := by rw [Channel.pkEngine, hpks]; rfl
    rw [← hengine] at howner
    rw [hstart, Channel.pkRun_pkEngine (hpks ▸ Channel.unitsWhole_pks hunits n) howner, ← hpks]
    exact ⟨rfl, hnow, rfl, rfl, BitVec.toNat_ofNat .., Channel.pkRun_queues d n.toNat j z⟩
  · intro s ch n j x d hunits hjob hfirst hover hitem hrefused
    refine .intro rfl ?_
    rw [State.chan_upd]
    have h := Channel.pkValidate_refuses (Channel.unitsWhole_pks hunits n) hjob hitem hover hfirst hrefused
    exact ⟨h.idle, congrArg Prod.fst h.rejections, _, h.completion, rfl, rfl, rfl⟩
  · intro s ch n j x hunits hjob hover hitem hgood
    refine .intro rfl ?_
    rw [State.chan_upd]
    exact Channel.pkValidate_marks (Channel.unitsWhole_pks hunits n) hjob hitem hover hgood
  · intro s ch n j x hunits hjob hitem hover
    refine .intro rfl ?_
    rw [State.chan_upd]
    obtain ⟨hcount, hleft⟩ := Channel.pkReport_reports (Channel.unitsWhole_pks hunits n) hjob hitem hover
    exact ⟨hcount, _, (Channel.item?_some hleft).1, rfl, rfl⟩
  · intro s ch n j x r hunits hjob hitem hran hop hr hcheck hcap hroom
    refine .intro rfl ?_
    rw [State.finish_chan]
    exact ⟨_, State.pkDone_good_completes hjob hitem hran hop hr hcheck hcap hroom, rfl, rfl, rfl, rfl, rfl, rfl⟩
  · intro s ch n j x hunits hjob hitem hcloses hran
    refine .intro rfl ?_
    rw [State.finish_chan]
    have h := State.pkDone_closingCheck_ended hjob hitem (Channel.unitsWhole_pks hunits n) hcloses hran
    exact ⟨h.idle, congrArg Prod.snd h.rejections, _, h.completion, rfl, rfl, rfl⟩
  · intro s ch n j x hbm a hunits hjob hitem hrefused
    refine .intro rfl ?_
    rw [State.finish_chan]
    have h := State.pkDone_readRefused_ended hjob hitem (Channel.unitsWhole_pks hunits n) hrefused
    exact ⟨h.idle, _, h.completion, rfl, rfl, rfl, rfl⟩
  · intro s ch n hunits hwiping hover
    refine .intro rfl ?_
    rw [State.chan_upd, Channel.pkWiped, Channel.mapPk_pkEngine (Channel.unitsWhole_pks hunits n),
      PkEngine.wiped_over hwiping hover]
    exact ⟨rfl, rfl, fun hjob => by simp [hjob]⟩

end Sys2Proof.Machine
end

section
/-! O54: the header's 128 bits and the tally's 32 bytes read back, a sealed home record field by field, and the fill
without VR (R249 to R252, R256, R367). -/

namespace Sys2Proof

/-! ### The header and the tally read back (R250, R251) -/

@[simp] theorem KeyHeader.bytes_length (h : KeyHeader) : h.bytes.length = 16 := leBytes_length ..

/-- The fields of a header fill 126 bits. -/
theorem KeyHeader.toNat_lt (h : KeyHeader) : h.toNat < 256 ^ 16 := by
  have hm := h.mgmt.toNat_le
  have hv := h.isVolatile.toNat_le
  have hl := h.limited.toNat_le
  simp only [KeyHeader.toNat]
  omega

/-- Every field of a header stands at its bit (R250). -/
theorem KeyHeader.ofBytes_bytes (h : KeyHeader) (rest : Bytes) : KeyHeader.ofBytes (h.bytes ++ rest) = h := by
  have hn : leNat ((h.bytes ++ rest).take 16) = h.toNat := by
    rw [List.take_left' h.bytes_length, KeyHeader.bytes, leNat_leBytes, Nat.mod_eq_of_lt h.toNat_lt]
  have hm := h.mgmt.toNat_le
  have hv := h.isVolatile.toNat_le
  have hl := h.limited.toNat_le
  have bit {n k : Nat} {b : Bool} (e : n / 2 ^ k % 2 = b.toNat) : n.testBit k = b := by
    rw [Nat.testBit_eq_decide_div_mod_eq, e]; cases b <;> rfl
  have word {w n : Nat} {x : BitVec w} (e : n % 2 ^ w = x.toNat) : BitVec.ofNat w n = x :=
    BitVec.eq_of_toNat_eq ((BitVec.toNat_ofNat ..).trans e)
  simp only [KeyHeader.ofBytes, hn]
  obtain ⟨state, cls, alg, extCount, length, mgmt, isVolatile, limited, usage, mode, exportability, owner, version,
    generation, useCount⟩ := h
  simp only [KeyHeader.mk.injEq]
  simp only [KeyHeader.toNat] at *
  refine ⟨word ?_, word ?_, word ?_, word ?_, word ?_, bit ?_, bit ?_, bit ?_, word ?_, word ?_, word ?_, word ?_, word ?_,
    word ?_, word ?_⟩ <;> omega

/-- A header whose state is not 0 is not blank: STATE is the low two bits of its first byte. -/
theorem KeyHeader.recBlank_bytes {h : KeyHeader} (hs : h.state ≠ 0#2) (rest : Bytes) : recBlank (h.bytes ++ rest) = false := by
  have hstate : h.state.toNat ≠ 0 := fun e => hs (BitVec.eq_of_toNat_eq e)
  have hfirst : byte h.toNat ≠ 0#8 := fun e => hstate <| by
    have hbyte : h.toNat % 256 = 0 := (BitVec.toNat_ofNat h.toNat 8).symm.trans (congrArg BitVec.toNat e)
    simp only [KeyHeader.toNat] at hbyte
    omega
  simp [recBlank, KeyHeader.bytes, leBytes, hfirst]

@[simp] theorem Tally.bytes_length (t : Tally) : t.bytes.length = 32 := by simp [Tally.bytes, zeros]

/-- The fields of a tally lie within their bytes (R251). -/
def Tally.Fits (t : Tally) : Prop :=
  t.tdesBlocks < 2 ^ 48 ∧ t.gcmEncryptions < 2 ^ 48 ∧ t.aesBlocks < 2 ^ 64 ∧ t.exhaustedFrom < 2 ^ 64

/-- A tally within its fields reads back from its bytes. -/
theorem Tally.ofBytes_bytes {t : Tally} (h : t.Fits) : Tally.ofBytes t.bytes = t := by
  obtain ⟨htdes, hgcm, haes, hfrom⟩ := h
  have hflag : ((byte t.exhausted.toNat).toNat % 2 == 1) = t.exhausted := by cases t.exhausted <;> rfl
  have hfield {n k : Nat} (hn : n < 256 ^ k) : leNat (leBytes k n) = n := by rw [leNat_leBytes, Nat.mod_eq_of_lt hn]
  simp (disch := simp) only [Tally.ofBytes, Tally.bytes, List.append_assoc, List.singleton_append, leAt_append_left,
    leAt_append_right, u8_append_right, leBytes_length, Nat.reduceSub, Nat.sub_self, leAt_leBytes, u8_cons_zero, hflag,
    hfield (k := 6) htdes, hfield (k := 6) hgcm, hfield (k := 8) haes, hfield (k := 8) hfrom]

/-! ### A sealed home record (R249, R252) -/

/-- The tally block a record carries: that of a header with a tally, none of another (R251). -/
def KeyHeader.tallyBlock (h : KeyHeader) (t : Tally) : Bytes := if h.hasTally then t.bytes else []

/-- The encrypted material and the tally block fill 64 bytes. -/
theorem KeyHeader.sealLen_add_tallyBlock (h : KeyHeader) (t : Tally) : h.sealLen + (h.tallyBlock t).length = 64 := by
  unfold KeyHeader.sealLen KeyHeader.tallyBlock
  split <;> simp

/-- The tally that a record's tally block gives back. -/
theorem KeyHeader.tally_of_block {h : KeyHeader} {t : Tally} {bs : Bytes} (ht : t.Fits)
    (hbs : h.hasTally = true → bs = t.bytes) :
    (if h.hasTally then Tally.ofBytes bs else {}) = if h.hasTally then t else {} := by
  split
  next hhas => rw [hbs hhas, Tally.ofBytes_bytes ht]
  next => rfl

/-- The synthetic initial vector of a home record (R252). -/
def SealKeys.sivOf (k : SealKeys) (slot : Nat) (h : KeyHeader) (m chk : Bytes) : Bytes :=
  aesCmac k.siv (slotBytes slot ++ h.bytes ++ m ++ chk)

/-- The five fields of a home record in front of its MAC (R249). -/
def recordOf (h : KeyHeader) (ct tally chk siv : Bytes) : Bytes := h.bytes ++ (ct ++ (tally ++ (chk ++ siv)))

/-- Sealing lays out the header, the encrypted material, the tally block, the check value and the SIV, and closes them with
the record MAC. -/
theorem sealRecord_eq (k : SealKeys) (slot : Nat) {h : KeyHeader} (t : Tally) {m : Bytes} (chk : Bytes) (hm : m.length = h.sealLen) :
    let body := recordOf h (ctrRun (aesCipher k.enc) ctr32 (k.sivOf slot h m chk) m) (h.tallyBlock t) chk (k.sivOf slot h m chk)
    sealRecord k slot h t m chk = body ++ aesCmac k.mac (slotBytes slot ++ body) := by
  simp only [sealRecord, Machine.fitR_of_length hm, recordOf, KeyHeader.tallyBlock, SealKeys.sivOf, List.append_assoc]

section
variable {h : KeyHeader} {ct tally chk siv : Bytes} (hct : ct.length = h.sealLen) (hfill : h.sealLen + tally.length = 64)
  (hchk : chk.length = 16) (hsiv : siv.length = 16)
include hct hfill hchk hsiv

theorem recordOf_length : (recordOf h ct tally chk siv).length = 112 := by simp [recordOf]; omega

/-- A body closed with its own CMAC passes the record MAC. -/
theorem recMacOk_recordOf {k : SealKeys} (hmac : k.mac.length = 32) (slot : Nat) :
    recMacOk k slot (recordOf h ct tally chk siv ++ aesCmac k.mac (slotBytes slot ++ recordOf h ct tally chk siv)) = true := by
  have hlen := recordOf_length hct hfill hchk hsiv
  rw [recMacOk, List.take_left' hlen, slice_append_right _ _ hlen.le, hlen, slice_zero_of_length (aesCmac_length _ _ hmac)]
  exact beq_self_eq_true _

/-- The fields of a record stand at their offsets (R249). -/
theorem recordOf_fields (mac : Bytes) :
    let bs := recordOf h ct tally chk siv ++ mac
    slice bs 16 h.sealLen = ct ∧ (tally.length = 32 → slice bs 48 32 = tally) ∧ slice bs 80 16 = chk ∧ slice bs 96 16 = siv := by
  have hskip {n : Nat} (k : Nat) (rest : Bytes) (hn : 16 ≤ n) : slice (h.bytes ++ rest) n k = slice rest (n - 16) k := by
    rw [slice_append_right _ _ (by simpa using hn), h.bytes_length]
  have hfield {a : Bytes} {k : Nat} (rest : Bytes) (ha : a.length = k) : slice (a ++ rest) 0 k = a := by
    rw [slice_append_left _ (by omega), slice_zero_of_length ha]
  simp only [recordOf, List.append_assoc]
  refine ⟨?_, fun ht => ?_, ?_, ?_⟩
  · rw [hskip _ _ le_rfl, Nat.sub_self, hfield _ hct]
  · rw [hskip _ _ (by decide), slice_append_right _ _ (by omega), show 48 - 16 - ct.length = 0 by omega, hfield _ ht]
  · rw [hskip _ _ (by decide), slice_append_right _ _ (by omega), slice_append_right _ _ (by omega),
      show 80 - 16 - ct.length - tally.length = 0 by omega, hfield _ hchk]
  · rw [hskip _ _ (by decide), slice_append_right _ _ (by omega), slice_append_right _ _ (by omega),
      slice_append_right _ _ (by omega), show 96 - 16 - ct.length - tally.length - chk.length = 0 by omega, hfield _ hsiv]

end

/-! ### Opening what was sealed (R256) -/

/-- A record that begins with a header in use, of a class and an exportability that are not reserved, loads where its record
MAC passes and its SIV is that of what counter mode gives. -/
theorem openRecord_of_header {k vol ks : SealKeys} {slot : Nat} {h : KeyHeader} {rest m chk siv : Bytes}
    (hks : ks = if h.isVolatile then vol else k) (hstate : h.state = 1#2) (hcls : h.cls ≠ 3#2) (hexp : h.exportability ≠ 3#2)
    (hmac : recMacOk k slot (h.bytes ++ rest) = true) (hsiv : slice (h.bytes ++ rest) 96 16 = siv)
    (hchk : slice (h.bytes ++ rest) 80 16 = chk)
    (hm : ctrRun (aesCipher ks.enc) ctr32 siv (slice (h.bytes ++ rest) 16 h.sealLen) = m) (hgood : ks.sivOf slot h m chk = siv) :
    openRecord k vol slot (h.bytes ++ rest)
      = .loaded h (if h.hasTally then Tally.ofBytes (slice (h.bytes ++ rest) 48 32) else {}) m chk := by
  have hblank : recBlank (h.bytes ++ rest) = false := KeyHeader.recBlank_bytes (by rw [hstate]; decide) rest
  have hhead : (h.bytes ++ rest).take 16 = h.bytes := List.take_left' h.bytes_length
  have hsame : (aesCmac ks.siv (slotBytes slot ++ h.bytes ++ m ++ chk) == siv) = true := beq_iff_eq.2 hgood
  simp only [openRecord, hblank, hmac, h.ofBytes_bytes, hstate, ← hks, hsiv, hm, hchk, hhead, hsame]
  simp [hcls, hexp]

/-- A home record sealed under the keys that its header selects opens to what was sealed, whatever its header. -/
theorem openRecord_sealRecord_of_keys {k vol ks : SealKeys} (slot : Nat) {h : KeyHeader} {t : Tally} {m chk : Bytes}
    (hks : ks = if h.isVolatile then vol else k) (hstate : h.state = 1#2) (hcls : h.cls ≠ 3#2) (hexp : h.exportability ≠ 3#2)
    (henc : ks.enc.length = 32) (hsivKey : ks.siv.length = 32) (hmac : k.mac.length = 32) (hm : m.length = h.sealLen)
    (hchk : chk.length = 16) (ht : t.Fits) :
    openRecord k vol slot (sealRecord { ks with mac := k.mac } slot h t m chk)
      = .loaded h (if h.hasTally then t else {}) m chk := by
  have hblock : ∀ x, ((aesCipher ks.enc).enc x).length = (aesCipher ks.enc).size := aesCipher_enc_length (.inr (.inr henc))
  have hpos : 0 < (aesCipher ks.enc).size := Nat.succ_pos 15
  obtain ⟨siv, hgood⟩ : ∃ siv, ks.sivOf slot h m chk = siv := ⟨_, rfl⟩
  have hsiv : siv.length = 16 := hgood ▸ aesCmac_length _ _ hsivKey
  obtain ⟨ct, hrun⟩ : ∃ ct, ctrRun (aesCipher ks.enc) ctr32 siv m = ct := ⟨_, rfl⟩
  have hct : ct.length = h.sealLen := hrun ▸ (ctrRun_length hblock hpos ..).trans hm
  have hback : ctrRun (aesCipher ks.enc) ctr32 siv ct = m := hrun ▸ ctrRun_ctrRun_of_cipher hblock hpos ..
  have hfill := h.sealLen_add_tallyBlock t
  have hok := recMacOk_recordOf hct hfill hchk hsiv hmac slot
  have hsealed : sealRecord { ks with mac := k.mac } slot h t m chk = recordOf h ct (h.tallyBlock t) chk siv
      ++ aesCmac k.mac (slotBytes slot ++ recordOf h ct (h.tallyBlock t) chk siv) := by
    rw [← hrun, ← hgood]; exact sealRecord_eq _ slot t chk hm
  rw [hsealed]
  generalize aesCmac k.mac (slotBytes slot ++ recordOf h ct (h.tallyBlock t) chk siv) = mac at hok ⊢
  obtain ⟨hmat, htally, hcheck, hvec⟩ := recordOf_fields hct hfill hchk hsiv mac
  rw [recordOf, List.append_assoc] at hok hmat htally hcheck hvec ⊢
  rw [openRecord_of_header hks hstate hcls hexp hok hvec hcheck (by rw [hmat, hback]) hgood]
  refine congrArg (Fill.loaded h · m chk) (KeyHeader.tally_of_block ht fun hhas => ?_)
  have hblk : h.tallyBlock t = t.bytes := if_pos hhas
  rw [htally (by rw [hblk, Tally.bytes_length]), hblk]

namespace Machine

/-- Without VR no volatile record loads (R367). -/
theorem Keys.load_loaded_of_noVr {k : Keys} {slot : Nat} {g : BitVec 16} {h : KeyHeader} {t : Tally} {m chk : Bytes}
    (hvr : k.vr = none) (hload : k.load slot g = .loaded h t m chk) : h.isVolatile = false := by
  unfold Keys.load at hload
  dsimp only at hload
  split at hload
  next h' t' m' c' hfill =>
    rw [hvr, Option.isNone_none, Bool.and_true] at hload
    split at hload
    next => cases hload
    next hv =>
      cases hload
      exact Bool.eq_false_iff.2 hv
  next f hnot => exact absurd hload (hnot h t m chk)

/-- Settles O54: the fields of what was sealed stand at their offsets, and counter mode undoes itself under the SIV. -/
theorem sealedRecordsOpen : Obligations.SealedRecordsOpen := by
  unfold Obligations.SealedRecordsOpen
  refine ⟨?_, fun k slot g h y m chk => Keys.load_loaded_of_noVr⟩
  intro k vol slot h y m chk hstate hcls hexp henc hsiv hmac hvenc hvsiv hm hchk hy
  obtain ⟨hkenc, hksiv⟩ : (if h.isVolatile then vol else k).enc.length = 32 ∧ (if h.isVolatile then vol else k).siv.length = 32 := by
    split
    · exact ⟨hvenc, hvsiv⟩
    · exact ⟨henc, hsiv⟩
  exact openRecord_sealRecord_of_keys slot rfl hstate hcls hexp hkenc hksiv hmac hm hchk hy

end Machine
end Sys2Proof
end

section
/-! O44: the resets of the device and the releases that end them (R281, R429, R430, R440, R449). -/

namespace Sys2Proof.Machine

/-! ### An L5 order on its way (R368) -/

/-- An erase line driven twice does what it does once. -/
@[simp] theorem Channel.peerErase_peerErase (c : Channel) : c.peerErase.peerErase = c.peerErase := by
  simp [Channel.peerErase, Island.erase, Island.pend, BitVec.or_assoc]

/-- A channel as a device reset finds it: erased where its peer's L5 order is on its way. -/
def State.l5Chan (s : State) (ch : Chan) : Channel :=
  if ch.peer ∈ s.port.l5From then (s.chan ch).peerErase else s.chan ch

@[simp] theorem State.l5Chan_start (s : State) (ch : Chan) : (s.l5Chan ch).start = (s.chan ch).start := by
  unfold State.l5Chan; split <;> rfl

@[simp] theorem State.l5Chan_keys (s : State) (ch : Chan) : (s.l5Chan ch).keys = (s.chan ch).keys := by
  unfold State.l5Chan; split <;> rfl

/-- The order of a peer takes the brine key. -/
@[simp] theorem State.l5Chan_brine (s : State) (ch : Chan) :
    (s.l5Chan ch).island.brine = if ch.peer ∈ s.port.l5From then zeros 32 else (s.chan ch).island.brine := by
  unfold State.l5Chan; split <;> rfl

theorem Chan.eq_of_peer_ne {ch x : Chan} (h : ch.peer ≠ x) : x = ch := by
  cases ch <;> cases x <;> simp_all [Chan.peer]

/-- The erase lines of the channels of a list change their peers alone. -/
theorem State.eraseLines_chan (l : List Chan) (s : State) (ch : Chan) :
    (l.foldl (fun s x => s.upd x.peer (·.peerErase)) s).chan ch = if ch.peer ∈ l then (s.chan ch).peerErase else s.chan ch := by
  induction l generalizing s with
  | nil => rfl
  | cons x l ih =>
    rw [List.foldl_cons, ih]
    by_cases hx : ch.peer = x
    · subst hx
      simp
    · rw [Chan.eq_of_peer_ne hx, State.chan_upd_of_peer]
      simp [Chan.peer_ne ch]

theorem State.eraseLines_port (l : List Chan) (s : State) : (l.foldl (fun s x => s.upd x.peer (·.peerErase)) s).port = s.port := by
  induction l generalizing s with
  | nil => rfl
  | cons x l ih => rw [List.foldl_cons, ih, State.upd_port]

/-! ### What a hold keeps (R429) -/

@[simp] theorem Channel.hold_step (c : Channel) (kept : Bool) : (c.hold kept).start.step = .off := rfl
@[simp] theorem Channel.hold_rng (c : Channel) (kept : Bool) : (c.hold kept).rng = Rng.reset := rfl
@[simp] theorem Channel.hold_items (c : Channel) (kept : Bool) : (c.hold kept).sched.items = [] := rfl
@[simp] theorem Channel.hold_island (c : Channel) (kept : Bool) : (c.hold kept).island = c.island := rfl
@[simp] theorem Channel.hold_slots_kept (c : Channel) : (c.hold true).keys.slots = c.keys.slots := rfl
@[simp] theorem Channel.hold_slots_lost (c : Channel) : (c.hold false).keys.slots = [] := rfl
@[simp] theorem Channel.hold_vr (c : Channel) (kept : Bool) : (c.hold kept).keys.vr = none := by cases kept <;> rfl
@[simp] theorem Channel.hold_fuseRoot (c : Channel) (kept : Bool) : (c.hold kept).keys.fuseRoot = c.keys.fuseRoot := by
  cases kept <;> rfl

/-! ### The reset of the device -/

/-- A reset holds every channel that is not halted, and a halted one where the reset wakes it. -/
theorem State.deviceReset_chan {s : State} (kept cold : Bool) {wakes : Bool} {ch : Chan}
    (h : (s.chan ch).start.step ≠ .halted ∨ wakes = true) : (s.deviceReset kept cold wakes).chan ch = (s.l5Chan ch).hold kept := by
  have hheld : ((s.l5Chan ch).start.step == .halted && !wakes) = false := by
    rw [State.l5Chan_start]
    rcases h with h | h <;> simp [h]
  have hline : (s.port.l5From.foldl (fun s x => s.upd x.peer (·.peerErase)) s).chan ch = s.l5Chan ch := State.eraseLines_chan ..
  rw [← hline] at hheld ⊢
  cases ch <;> exact if_neg (Bool.eq_false_iff.1 hheld)

/-- A reset leaves the pins as they are. -/
@[simp] theorem State.deviceReset_perst (s : State) (kept cold wakes : Bool) :
    (s.deviceReset kept cold wakes).port.start.perst = s.port.start.perst :=
  congrArg (·.start.perst) (State.eraseLines_port s.port.l5From s)

@[simp] theorem State.mapStart_chan (s : State) (f : PortStart → PortStart) (ch : Chan) : (s.mapStart f).chan ch = s.chan ch :=
  State.updPort_chan ..
@[simp] theorem State.mapStart_start (s : State) (f : PortStart → PortStart) : (s.mapStart f).port.start = f s.port.start := rfl
@[simp] theorem State.mapStart_l5Chan (s : State) (f : PortStart → PortStart) (ch : Chan) : (s.mapStart f).l5Chan ch = s.l5Chan ch := by
  cases ch <;> rfl

/-! ### The releases (R430) -/

@[simp] theorem State.beginStart_chan (s : State) (ch : Chan) : (s.beginStart).chan ch = (s.chan ch).release := by cases ch <;> rfl

@[simp] theorem State.beginStart_start (s : State) : s.beginStart.port.start = s.port.start := rfl

/-- A channel held in reset starts at step 1, and its generator in its start test (R432). -/
theorem Channel.release_of_off {c : Channel} (h : c.start.step = .off) :
    c.release.start.step = .fuseLoad ∧ c.release.rng.state = .startTest := by
  simp [Channel.release, h]

/-- The assay unit shows a channel that is off as starting. -/
def Assay.begins (y : Assay) (ch : Chan) : Assay := if y.st ch == .off then y.setSt ch .starting else y

theorem Assay.begins_st {y : Assay} {ch : Chan} (h : y.st ch = .off) : (y.begins ch).st ch = .starting := by
  rw [Assay.begins, if_pos (by rw [h]; rfl)]
  cases ch <;> rfl

@[simp] theorem Assay.begins_st_peer (y : Assay) (ch : Chan) : (y.begins ch).st ch.peer = y.st ch.peer := by
  unfold Assay.begins
  split
  · cases ch <;> rfl
  · rfl

theorem State.beginStart_assay (s : State) : s.beginStart.port.assay = (s.port.assay.begins .a).begins .b := rfl

theorem State.beginStart_st {s : State} {ch : Chan} (h : s.port.assay.st ch = .off) : s.beginStart.port.assay.st ch = .starting := by
  rw [State.beginStart_assay]
  cases ch
  · exact (Assay.begins_st_peer _ .b).trans (Assay.begins_st h)
  · exact Assay.begins_st ((Assay.begins_st_peer s.port.assay .a).trans h)

/-- Where a release begins the start, a channel held in reset starts at fuse load. -/
theorem State.beginStart_starts (s : State) {ch : Chan} (hoff : (s.chan ch).start.step = .off) :
    (s.beginStart.chan ch).start.step = .fuseLoad ∧ (s.beginStart.chan ch).rng.state = .startTest := by
  rw [State.beginStart_chan]
  exact Channel.release_of_off hoff

/-! ### The commands -/

theorem execPorstNAssert_of_power {s : State} (h : s.port.start.power ≠ .backup) :
    execPorstNAssert s
      = .next ((s.deviceReset true false true).mapStart (fun t => { t with porst := true, power := .run })) := by
  unfold execPorstNAssert
  split
  next hbackup => exact absurd hbackup h
  next => rfl

theorem execPorstNRelease_of_run {s : State} (hporst : s.port.start.porst = true) (hrun : s.port.start.power = .run) :
    execPorstNRelease s = .next (s.mapStart (fun t => { t with porst := false, refclk := true })).beginStart := by
  simp [execPorstNRelease, hporst, hrun]

theorem execPerstNAssert_of_run {s : State} (hrun : s.port.start.power = .run) (hporst : s.port.start.porst = false)
    (hperst : s.port.start.perst = false) :
    execPerstNAssert s = .next ((s.mapStart (fun t => { t with perst := true })).deviceReset true false false) := by
  simp [execPerstNAssert, hrun, hporst, hperst]

/-- Settles O44, command by command: the channels are as the hold or the release of the device leaves them. The brine key
under an L5 order on its way is log 180, PORST_N low at POWER_ON log 168. -/
theorem deviceResets : Obligations.DeviceResets := by
  unfold Obligations.DeviceResets
  refine ⟨?_, ?_, ?_, ?_, ?_, ?_, ?_⟩
  · intro s hbackup
    refine .intro (congrArg Host.Outcome.next (if_neg (by simp [hbackup]))) ⟨rfl, rfl, rfl, fun ch => ?_⟩
    rw [State.mapStart_chan, State.upd_both_chan]
  · intro s hpower
    refine .intro (congrArg Host.Outcome.next (if_neg (by simpa using hpower))) ⟨rfl, rfl, fun ch => ?_⟩
    rw [State.mapStart_chan, State.upd_both_chan, State.deviceReset_chan false true (.inr rfl)]
    simp
  · intro s hpower
    refine .intro (execPorstNAssert_of_power hpower) ⟨rfl, rfl, rfl, rfl, fun ch => ?_⟩
    rw [State.mapStart_chan, State.deviceReset_chan true false (.inr rfl)]
    simp
  · intro s hporst hrun
    refine .intro (execPorstNRelease_of_run hporst hrun) ⟨rfl, fun ch hoff => ?_⟩
    obtain ⟨hstep, hrng⟩ := State.beginStart_starts (s.mapStart fun t => { t with porst := false, refclk := true })
      (ch := ch) (by simpa using hoff)
    exact ⟨hstep, hrng, State.beginStart_st⟩
  · intro s hrun hporst hperst
    refine .intro (execPerstNAssert_of_run hrun hporst hperst)
      ⟨State.deviceReset_perst .., rfl, fun ch hstep => ?_, fun ch hstep => ?_⟩ <;>
      rw [State.deviceReset_chan true false (.inl (by simpa using hstep))] <;> simp
  · intro s h
    refine .intro (congrArg Host.Outcome.next (if_pos ?_)) rfl
    rcases h with h | h <;> simp [h]
  · intro s hrun hporst
    refine .intro (congrArg Host.Outcome.next (if_pos (by simp [hrun, hporst]))) ⟨rfl, fun ch hoff => ?_⟩
    exact State.beginStart_starts _ (by simpa using hoff)

end Sys2Proof.Machine
end

section
/-! O47: the first join and the wait before it (R437), and the SVN commit with the root copies it writes (R280, R439). -/

namespace Sys2Proof.Machine

/-! ### The wait for the peer ends (R437) -/

/-- A channel goes on to join alone: it begins its epoch, and notes from when it has had no sluice session. -/
def Channel.joinsAlone (c : Channel) : Channel :=
  let c := (c.toStep .join).mapRng (·.trigger)
  { c with health := { c.health with noSluiceFrom := some (c.health.noSluiceFrom.getD c.tide) } }

@[simp] theorem Channel.joinsAlone_step (c : Channel) : c.joinsAlone.start.step = .join := rfl

/-- A trigger leaves a renewal pending. -/
theorem Rng.trigger_renewal (g : Rng) : g.trigger.renewal.isSome = true := by
  unfold Rng.trigger
  split
  next h => exact h
  next => rfl

theorem Channel.joinsAlone_renewal (c : Channel) : c.joinsAlone.rng.renewal.isSome = true := Rng.trigger_renewal c.rng

/-- A whole channel at step 9 goes on alone after 25,000 tides, with its peer not at the join. -/
theorem State.joinWaitEnds_of_past {s : State} {ch : Chan} {n : Nat} (hstep : (s.chan ch).start.step = .sluice)
    (hdone : (s.chan ch).start.step8At = some n) (hpast : n + 25000 ≤ (s.chan ch).tide) (hnone : s.port.joinedChans = [])
    (hj0 : s.port.j0 = none) (hpeer : (s.chan ch.peer).start.step ≠ .join) (hwhole : (s.chan ch).refill.partialCopy = false) :
    s.joinWaitEnds ch = s.upd ch Channel.joinsAlone := by
  simp only [State.joinWaitEnds, hdone, Option.any_some, hpast, hwhole, hnone, hj0, hstep]
  rw [if_neg (by simp), if_pos (by simpa using hpeer)]
  rfl

/-! ### J0 (R437) -/

@[simp] theorem PortDie.record_j0 (p : PortDie) (code v : Nat) : (p.record code v).j0 = p.j0 :=
  (congrArg PortDie.j0 (p.record_control code v) :)

@[simp] theorem Assay.joins_st (y : Assay) (ch : Chan) (tide : Nat) : (y.joins ch tide).st ch = .joined := by cases ch <;> rfl

@[simp] theorem Assay.joins_st_peer (y : Assay) (ch : Chan) (tide : Nat) : (y.joins ch tide).st ch.peer = y.st ch.peer := by
  cases ch <;> rfl

@[simp] theorem Channel.joinFirst_step (c : Channel) (k : Kept) (wipes : List Nat) : (c.joinFirst k wipes).start.step = .service :=
  rfl

@[simp] theorem Channel.withEbb_start (c : Channel) (e : Bool) : (c.withEbb e).start = c.start := rfl

/-- A channel that formed epoch 0 joins at J0. -/
def State.joinAtJ0 (s : State) (ch : Chan) : State :=
  let t := s.upd ch (fun c => (c.joinFirst s.port.kept s.port.wipes).withEbb s.ebb)
  t.updPort (fun p => ({ p with assay := p.assay.joins ch t.port.tide } : PortDie).record 0x014 ch.idx)

theorem State.joinAtJ0_step (s : State) (ch : Chan) : ((s.joinAtJ0 ch).chan ch).start.step = .service := by
  simp [State.joinAtJ0]

theorem State.joinAtJ0_peer (s : State) (ch : Chan) : (s.joinAtJ0 ch).chan ch.peer = s.chan ch.peer := by
  simp [State.joinAtJ0]

theorem State.joinAtJ0_joined (s : State) (ch : Chan) : (s.joinAtJ0 ch).port.joined ch = true := by
  simp [State.joinAtJ0, PortDie.joined, PortDie.record_assay]

theorem State.joinAtJ0_joined_peer (s : State) (ch : Chan) : (s.joinAtJ0 ch).port.joined ch.peer = s.port.joined ch.peer := by
  simp [State.joinAtJ0, PortDie.joined, PortDie.record_assay]

theorem State.joinAtJ0_j0 (s : State) (ch : Chan) : (s.joinAtJ0 ch).port.j0 = s.port.j0 := by
  simp [State.joinAtJ0]

/-- The agreement's record ends without a change of a channel. -/
@[simp] theorem State.epochClear_chan (s : State) (ch : Chan) : s.epochClear.chan ch = s.chan ch := by
  unfold State.epochClear
  dsimp only
  split
  · rfl
  · exact State.updPort_chan ..

/-- Of the port die the agreement's record alone ends. -/
theorem State.epochClear_port (s : State) : ∃ e, s.epochClear.port = { s.port with epoch := e } := by
  unfold State.epochClear
  dsimp only
  split <;> exact ⟨_, rfl⟩

@[simp] theorem State.epochClear_joined (s : State) (ch : Chan) : s.epochClear.port.joined ch = s.port.joined ch := by
  obtain ⟨e, he⟩ := s.epochClear_port
  rw [he]
  rfl

@[simp] theorem State.epochClear_j0 (s : State) : s.epochClear.port.j0 = s.port.j0 := by
  obtain ⟨e, he⟩ := s.epochClear_port
  rw [he]

/-- Both channels join at J0, one after the other. -/
def State.joinPair (s : State) : State := (s.joinAtJ0 .a).joinAtJ0 .b

theorem State.joinPair_step (s : State) (ch : Chan) : (s.joinPair.chan ch).start.step = .service := by
  rw [State.joinPair]
  cases ch
  · have hkept := State.joinAtJ0_peer (s.joinAtJ0 .a) .b
    rw [Chan.peer] at hkept
    rw [hkept, State.joinAtJ0_step]
  · exact State.joinAtJ0_step _ .b

theorem State.joinPair_joined (s : State) (ch : Chan) : s.joinPair.port.joined ch = true := by
  rw [State.joinPair]
  cases ch
  · have hkept := State.joinAtJ0_joined_peer (s.joinAtJ0 .a) .b
    rw [Chan.peer] at hkept
    rw [hkept, State.joinAtJ0_joined]
  · exact State.joinAtJ0_joined _ .b

theorem State.joinPair_j0 (s : State) : s.joinPair.port.j0 = s.port.j0 := by
  rw [State.joinPair, State.joinAtJ0_j0, State.joinAtJ0_j0]

/-- J0 with both channels: after the joins the wipes of function resets are over, and the agreement on epoch 0 with them. -/
def State.joinBoth (s : State) : State :=
  ((s.shareEbb.updPort (fun p => { p with j0 := none })).joinPair.updPort (fun p => { p with wipes := [] })).epochClear

theorem State.joinBoth_step (s : State) (ch : Chan) : (s.joinBoth.chan ch).start.step = .service := by
  rw [State.joinBoth, State.epochClear_chan, State.updPort_chan, State.joinPair_step]

theorem State.joinBoth_joined (s : State) (ch : Chan) : s.joinBoth.port.joined ch = true := by
  rw [State.joinBoth, State.epochClear_joined, State.updPort_port]
  exact State.joinPair_joined _ ch

theorem State.joinBoth_j0 (s : State) : s.joinBoth.port.j0 = none := by
  rw [State.joinBoth, State.epochClear_j0, State.updPort_port, State.joinPair_j0, State.updPort_port]

/-- Where both channels formed epoch 0 both join at J0, and none is left at step 9 to refill. -/
theorem State.firstJoin_of_both {s : State} {j : Nat} (hj0 : s.port.j0 = some j) (hdue : j ≤ s.port.tide)
    (hnone : s.port.joinedChans = []) (hstep : ∀ ch, (s.chan ch).start.step = .join)
    (hformed : ∀ ch, (s.chan ch).rng.renewal.any (fun r => r.target.isSome) = true) : s.firstJoin = s.joinBoth := by
  have hwho : chans.filter (fun ch => (s.chan ch).start.step == .join && (s.chan ch).rng.renewal.any (fun r => r.target.isSome))
      = [.a, .b] := by
    simp [chans, hstep, hformed]
  have hjoined : s.firstJoin = chans.foldl (fun t ch =>
      if (t.chan ch).start.step == .sluice && t.sluiceUp && t.port.joined ch.peer then (t.upd ch (·.toStep .join)).beginRefill ch
      else t) s.joinBoth := by
    simp only [State.firstJoin, hj0, hwho]
    rw [if_neg (by simp [hnone, hdue])]
    rfl
  have hserves {ch : Chan} : ((s.joinBoth.chan ch).start.step == .sluice) = false := by rw [State.joinBoth_step]; rfl
  rw [hjoined, chans, List.foldl_cons, List.foldl_cons, List.foldl_nil]
  simp only [hserves, Bool.false_and, Bool.false_eq_true, if_false]

/-! ### The SVN commit (R280) -/

theorem State.svnStart_of_due {s : State} {ch : Chan} {n x : Nat} (htarget : s.port.svnTarget = some (n, x))
    (hdue : x ≤ (s.chan ch).tide) (hjoined : s.port.joined ch = true) (hnone : (s.chan ch).keys.commit = none)
    (hrung : (s.chan ch).keys.rung ≠ n) :
    s.svnStart ch = s.setChan ch { s.chan ch with
      keys := { (s.chan ch).keys with commit := some { target := n, since := x, written := false } } } := by
  simp [State.svnStart, htarget, Nat.not_lt.2 hdue, hjoined, hnone, hrung]

/-- With no copy that opens, nothing is written. -/
theorem Channel.rootWritten_of_noCopy {c : Channel} (h : c.topCopy = none) : c.rootWritten = c := by
  unfold Channel.rootWritten
  split
  next htop => rw [h] at htop; cases htop
  next => rfl

/-- The new copy takes the place of the older one, after the sequence number of the newest. -/
theorem Channel.rootWritten_of_copy {c : Channel} {m : SvnCommit} {k : Bytes} {r : RootCopy} (hcommit : c.keys.commit = some m)
    (hwritten : m.written = false) (hsdk : c.keys.sdk = some k) (htop : c.topCopy = some r) :
    c.rootWritten.keys = { c.keys with
      rootCopies := [r, c.rootCopy k m.target (r.seq + 1)], commit := some { m with written := true } } := by
  simp [Channel.rootWritten, hcommit, hsdk, htop, hwritten]

/-- PROVISION does not complete while a joined channel has its root records to write (R439). -/
theorem State.provisionDone_of_firstRoot {s : State} {ch : Chan} (hjoined : s.port.joined ch = true)
    (hfirst : (s.chan ch).keys.firstRoot = true) : s.provisionDone = s := by
  have hwaits : s.port.joinedChans.any (fun ch => (s.chan ch).keys.firstRoot) = true :=
    List.any_eq_true.2 ⟨ch, List.mem_filter.2 ⟨by cases ch <;> simp [chans], hjoined⟩, hfirst⟩
  unfold State.provisionDone
  split
  · rfl
  · rw [hwaits, Bool.or_true, if_pos rfl]

/-- A commit that a channel has not settled is not done. -/
theorem State.svnDone_of_commit {s : State} {ch : Chan} (h : (s.chan ch).keys.commit ≠ none) : s.svnDone = s := by
  unfold State.svnDone
  split
  · rfl
  · refine if_neg fun hdone => h ?_
    simp only [Bool.and_eq_true, Option.isNone_iff_eq_none] at hdone
    obtain ⟨⟨-, ha⟩, hb⟩ := hdone
    cases ch
    · exact ha
    · exact hb

theorem State.sluiceMsg_keys (s : State) (x : Chan) (m : SluiceMsg) (ch : Chan) : ((s.sluiceMsg x m).chan ch).keys = (s.chan ch).keys := by
  cases x <;> cases ch <;> rfl

theorem State.sluiceMsg_sluiceUp (s : State) (x : Chan) (m : SluiceMsg) : (s.sluiceMsg x m).sluiceUp = s.sluiceUp := by
  cases x <;> rfl

/-- Matching checks of both new copies settle the channel at the new rung, while its peer has its commit to settle. -/
theorem State.svnMessage_of_match {s : State} {ch : Chan} {m : SvnCommit} {x y : RootCopy} (hup : s.sluiceUp = true)
    (hcommit : (s.chan ch).keys.commit = some m) (hwritten : m.written = true)
    (hsent : (s.chan ch.peer).keys.commit.any (·.written) = true) (hx : (s.chan ch).keys.copyOf m.target = some x)
    (hy : (s.chan ch.peer).keys.copyOf m.target = some y) (hcheck : x.check = y.check) :
    s.svnMessage ch = (s.sluiceMsg ch.peer (.svnCommit m.target)).upd ch (·.settleRung x) := by
  have hpending : (s.chan ch.peer).keys.commit ≠ none := fun h => by simp [h] at hsent
  simp only [State.svnMessage, hcommit, hy, hx, hsent, hwritten, hup, hcheck, Bool.true_or, Bool.and_self, if_true,
    State.sluiceMsg_sluiceUp, Bool.not_true, Bool.or_self, Bool.false_eq_true, if_false, beq_self_eq_true]
  exact State.svnDone_of_commit (ch := ch.peer) (by rw [State.chan_setChan_peer, State.sluiceMsg_keys]; exact hpending)

/-- The copy of a rung is at that rung. -/
theorem Keys.copyOf_rung {k : Keys} {t : Nat} {x : RootCopy} (h : k.copyOf t = some x) : x.rung = t :=
  beq_iff_eq.1 (List.find?_some h :)

/-! ### The commands -/

/-- Settles O47, command by command: where its conditions hold each has one meaning, which the lemmas above give. The two
copies that a provisioned channel writes at once are log 269, the wait of a channel with part of a refill log 271. -/
theorem firstJoinAndSvnCommit : Obligations.FirstJoinAndSvnCommit := by
  unfold Obligations.FirstJoinAndSvnCommit
  refine ⟨?_, ?_, ?_, ?_, ?_, ?_⟩
  · intro s ch n hstep hdone hpast hnone hj0 hpeer hwhole
    refine .intro rfl ?_
    rw [State.finish_chan, State.joinWaitEnds_of_past hstep hdone hpast hnone hj0 hpeer hwhole, State.chan_upd]
    exact ⟨Channel.joinsAlone_step _, Channel.joinsAlone_renewal _⟩
  · intro s j hj0 hdue hnone ha hb hra hrb
    have hstep : ∀ ch, (s.chan ch).start.step = .join := fun | .a => ha | .b => hb
    have hformed : ∀ ch, (s.chan ch).rng.renewal.any (fun r => r.target.isSome) = true := fun | .a => hra | .b => hrb
    refine .intro rfl ?_
    rw [State.firstJoin_of_both hj0 hdue hnone hstep hformed, State.finish_a, State.finish_b, State.finish_port_j0]
    simp only [PortDie.joined, State.finish_port_assay]
    exact ⟨s.joinBoth_joined .a, s.joinBoth_joined .b, s.joinBoth_step .a, s.joinBoth_step .b, s.joinBoth_j0⟩
  · intro s ch n x htarget hdue hjoined hnone hrung
    refine .intro rfl ?_
    rw [State.svnStart_of_due htarget hdue hjoined hnone hrung, State.chan_setChan]
  · intro s ch m k hfirst hcommit hwritten hsdk
    refine .intro (congrArg (fun t => Host.Outcome.next (s.finish t)) (if_neg (by rw [hfirst]; decide))) ?_
    rw [State.finish_chan, State.chan_upd]
    refine ⟨fun r htop => ?_, fun htop => by rw [Channel.rootWritten_of_noCopy htop]⟩
    dsimp only
    rw [Channel.rootWritten_of_copy hcommit hwritten hsdk htop]
    exact ⟨rfl, rfl⟩
  · intro s ch k hfirst hsdk hjoined hpeer
    refine .intro (congrArg (fun t => Host.Outcome.next (s.finish t)) (if_pos hfirst)) ?_
    rw [State.provisionDone_of_firstRoot (ch := ch.peer) (by rwa [State.upd_port]) (by rwa [State.chan_upd_peer]),
      State.finish_chan, State.chan_upd]
    simp [Channel.firstRootWritten, hsdk]
  · intro s ch m x y hup hcommit hwritten hsent hx hy hcheck
    refine .intro rfl ?_
    rw [State.svnMessage_of_match hup hcommit hwritten hsent hx hy hcheck, State.finish_chan, State.finish_chan, State.chan_upd,
      State.chan_upd_peer]
    exact ⟨rfl, Keys.copyOf_rung hx, rfl, State.sluiceMsg_keys ..⟩

end Sys2Proof.Machine
end

section
/-! The response to tamper sources (R364 to R369): what a response of each level does to its channel, and what it leaves. -/

namespace Sys2Proof.Machine

/-! ### What the stopping of work leaves (R364) -/

/-- What stands in a channel beside the work that a response stops. -/
structure Guarded where
  clock : Nat × Nat × Bool
  tamper : Tamper
  island : Island
  start : Start
  fuses : Fuses
  thermal : Thermal
  health : Health
  faults : List FaultCause
  resetOrder : Bool
  cache : List CacheEntry
  vr : Option Bytes

def Channel.guarded (c : Channel) : Guarded :=
  { clock := c.clock, tamper := c.tamper, island := c.island, start := c.start, fuses := c.fuses
    thermal := c.thermal, health := c.health, faults := c.faults, resetOrder := c.resetOrder, cache := c.keys.cache, vr := c.keys.vr }

/-- What each step of a fold leaves, the fold leaves. -/
theorem foldl_keeps {α β γ : Type} (p : β → γ) {f : β → α → β} (h : ∀ b a, p (f b a) = p b) (l : List α) (b : β) :
    p (l.foldl f b) = p b := by
  induction l generalizing b with
  | nil => rfl
  | cons a l ih => rw [List.foldl_cons, ih, h]

@[simp] theorem Channel.stop_guarded (c : Channel) (x : Item) : (c.stop x).guarded = c.guarded := rfl

@[simp] theorem Channel.produce_guarded (c : Channel) (x : Item) (producer at' : Nat) (r : Res) :
    (c.produce x producer at' r).guarded = c.guarded := rfl

@[simp] theorem Channel.schedPort_guarded (c : Channel) (x : Item) (r : Res) : (c.schedPort x r).guarded = c.guarded := rfl

@[simp] theorem Channel.abort_guarded (c : Channel) (x : Item) (r : Res) : (c.abort x r).guarded = c.guarded := by
  unfold Channel.abort
  repeat' split <;> simp

theorem Channel.killStream_guarded (c : Channel) (n i : Nat) : (c.killStream n i).guarded = c.guarded := rfl

theorem Channel.killStreams_guarded (c : Channel) (n : Nat) (f : Nat → Stream → Bool) :
    (c.killStreams n f).guarded = c.guarded := by
  unfold Channel.killStreams
  extract_lets r hit r1 c1
  exact foldl_keeps Channel.guarded (fun _ _ => by rfl) hit c1

theorem Channel.endSession_guarded (c : Channel) (n slot : Nat) : (c.endSession n slot).guarded = c.guarded := rfl

/-! ### The levels of a response (R364) -/

/-- A response of L2 purges the key cache and clears health bit 11. -/
theorem Channel.respondL2_guarded (c : Channel) (n : Nat) :
    (c.respondL2 n).guarded = { c.guarded with cache := [], health := (c.clearHealth 11).health } := by
  unfold Channel.respondL2
  extract_lets hit opens c1 c2 c3
  have h3 : c3.guarded = c.guarded := (foldl_keeps Channel.guarded (fun c x => c.abort_guarded x _) hit c2).trans
    ((c1.killStreams_guarded ..).trans (foldl_keeps Channel.guarded (fun c x => c.killStream_guarded ..) opens c))
  clear_value c3
  exact congrArg (fun g : Guarded =>
    { g with cache := [], health := { g.health with cleared := g.health.cleared ||| BitVec.ofNat 16 (2 ^ 11) } }) h3

/-- L3 erases VR and sends a fault report. -/
theorem Channel.respondL3_guarded (c : Channel) (n : Nat) :
    (c.respondL3 n).guarded = { c.guarded with vr := none, faults := c.faults ++ [.tamper] } := by
  unfold Channel.respondL3 Channel.eraseVolatile
  extract_lets c1 c2 g
  have h2 : c2.guarded = c.guarded :=
    (foldl_keeps Channel.guarded (fun c x => c.endSession_guarded ..) _ c1).trans (c.killStreams_guarded ..)
  clear_value c2
  exact congrArg (fun g : Guarded => { g with vr := none, faults := g.faults ++ [FaultCause.tamper] }) h2

/-- A response takes nothing back: the responder and the island keep all but the count of restarts and the evidence, cleared
health bits stay so, and what a level has erased or ordered stands. -/
structure Guarded.Answers (g h : Guarded) : Prop where
  tamper : ∃ n, h.tamper = { g.tamper with restarts := n }
  island : ∃ p, h.island = { g.island with pending := p }
  fuses : h.fuses = g.fuses
  thermal : h.thermal = g.thermal
  cleared : ∃ v, h.health.cleared = g.health.cleared ||| v
  purged : g.cache = [] → h.cache = []
  erased : g.vr = none ∧ .tamper ∈ g.faults → h.vr = none ∧ .tamper ∈ h.faults

namespace Guarded.Answers

variable {g h k : Guarded}

theorem refl (g : Guarded) : Guarded.Answers g g :=
  ⟨⟨_, rfl⟩, ⟨_, rfl⟩, rfl, rfl, ⟨0#16, by simp⟩, id, id⟩

theorem trans (hg : Guarded.Answers g h) (hk : Guarded.Answers h k) : Guarded.Answers g k := by
  obtain ⟨⟨n, ht⟩, ⟨p, hi⟩, hf, hth, ⟨v, hc⟩, hp, he⟩ := hg
  obtain ⟨⟨n', ht'⟩, ⟨p', hi'⟩, hf', hth', ⟨v', hc'⟩, hp', he'⟩ := hk
  exact ⟨⟨n', by rw [ht', ht]⟩, ⟨p', by rw [hi', hi]⟩, hf'.trans hf, hth'.trans hth, ⟨v ||| v', by rw [hc', hc, BitVec.or_assoc]⟩,
    hp' ∘ hp, he' ∘ he⟩

theorem ite (b : Prop) [Decidable b] {c d e : Channel} (hd : Guarded.Answers c.guarded d.guarded)
    (he : Guarded.Answers c.guarded e.guarded) : Guarded.Answers c.guarded (if b then d else e).guarded := by
  split
  · exact hd
  · exact he

theorem respondL2 (c : Channel) (n : Nat) : Guarded.Answers c.guarded (c.respondL2 n).guarded := by
  rw [Channel.respondL2_guarded]
  exact ⟨⟨_, rfl⟩, ⟨_, rfl⟩, rfl, rfl, ⟨_, rfl⟩, fun _ => rfl, id⟩

theorem respondL3 (c : Channel) (n : Nat) : Guarded.Answers c.guarded (c.respondL3 n).guarded := by
  rw [Channel.respondL3_guarded]
  exact ⟨⟨_, rfl⟩, ⟨_, rfl⟩, rfl, rfl, ⟨0#16, by simp⟩, id, fun _ => ⟨rfl, by simp⟩⟩

theorem respondL4 (c : Channel) : Guarded.Answers c.guarded c.respondL4.guarded := by
  unfold Channel.respondL4
  extract_lets n d
  have h {e : Channel} (ht : ∃ n, e.tamper = { c.tamper with restarts := n }) (hi : ∃ p, e.island = { c.island with pending := p })
      (hf : e.fuses = c.fuses) (hth : e.thermal = c.thermal) (hh : e.health = c.health) (hl : e.faults = c.faults) (hk : e.keys = c.keys) :
      Guarded.Answers c.guarded e.guarded :=
    ⟨ht, hi, hf, hth, ⟨0#16, by simp [Channel.guarded, hh]⟩, by simp [Channel.guarded, hk], by simp [Channel.guarded, hk, hl]⟩
  exact ite _ (h ⟨_, rfl⟩ ⟨_, rfl⟩ rfl rfl rfl rfl rfl)
    (ite _ (h ⟨_, rfl⟩ ⟨_, rfl⟩ rfl rfl rfl rfl rfl) (h ⟨_, rfl⟩ ⟨_, rfl⟩ rfl rfl rfl rfl rfl))

end Guarded.Answers

/-- L4 orders a reset or halts the channel. -/
theorem Channel.respondL4_orders (c : Channel) : c.respondL4.resetOrder = true ∨ c.respondL4.start.step = .halted := by
  unfold Channel.respondL4
  extract_lets n d
  split_ifs
  · exact .inl rfl
  · exact .inr rfl
  · exact .inl rfl

/-- A response of a level beyond one of level `done` does what the levels between do. -/
theorem Channel.respondUpTo_answers (c : Channel) (n done level : Nat) :
    Guarded.Answers c.guarded (c.respondUpTo n done level).guarded
    ∧ (done < 2 → 2 ≤ level → (c.respondUpTo n done level).keys.cache = [])
    ∧ (done < 3 → 3 ≤ level → (c.respondUpTo n done level).keys.vr = none ∧ .tamper ∈ (c.respondUpTo n done level).faults)
    ∧ (done < 4 → 4 ≤ level → (c.respondUpTo n done level).resetOrder = true
        ∨ (c.respondUpTo n done level).start.step = .halted) := by
  unfold Channel.respondUpTo
  extract_lets c1 c2
  have h1 : Guarded.Answers c.guarded c1.guarded := .ite _ (.respondL2 c n) (.refl _)
  have h2 : Guarded.Answers c1.guarded c2.guarded := .ite _ (.respondL3 c1 n) (.refl _)
  have h3 : Guarded.Answers c2.guarded (if done < 4 && 4 ≤ level then c2.respondL4 else c2).guarded :=
    .ite _ (.respondL4 c2) (.refl _)
  refine ⟨(h1.trans h2).trans h3, fun hd hl => h3.purged (h2.purged ?_), fun hd hl => h3.erased ?_, fun hd hl => ?_⟩
  · simp only [c1, hd, hl, decide_true, Bool.and_self, if_true]
    exact congrArg Guarded.cache (c.respondL2_guarded n)
  · simp [c2, hd, hl, Channel.respondL3_guarded]
  · simp only [hd, hl, decide_true, Bool.and_self, if_true]
    exact c2.respondL4_orders

/-! ### The response of a channel (R364, R369, R378) -/

/-- Sources are latched in the alarm register and seen by the responder. -/
def Channel.latch (c : Channel) (src : BitVec 23) : Channel :=
  { c with island := { c.island with alarm := c.island.alarm ||| src }, tamper := { c.tamper with seen := c.tamper.seen ||| src } }

theorem Channel.setEvidence_eq (c : Channel) (src : BitVec 23) :
    ∃ p, c.setEvidence src = { c with island := { c.island with pending := p } } := by
  unfold Channel.setEvidence
  generalize (sourcesOf src).filter (fun n => 4 ≤ c.tamper.level n) = l
  induction l generalizing c with
  | nil => exact ⟨_, rfl⟩
  | cons n l ih =>
    obtain ⟨p, hp⟩ := ih { c with island := c.island.pend (tamperClasses.getD n 0) }
    exact ⟨p, hp⟩

theorem Channel.foldl_event_eq (ch : Chan) (level : Nat) (l : List Nat) (c : Channel) :
    ∃ e, l.foldl (fun c n => c.event ch (0xA0 + n) level) c = { c with events := e } := by
  induction l generalizing c with
  | nil => exact ⟨_, rfl⟩
  | cons n l ih =>
    obtain ⟨e, he⟩ := ih (c.event ch (0xA0 + n) level)
    exact ⟨e, he⟩

/-- Sources that a response answers at L1 or above are kept as drivers. -/
def Channel.drive (c : Channel) (highest : Nat) (src : BitVec 23) : Channel :=
  if highest == 0 then c else { c with island := { c.island with drivers := c.island.drivers ||| src } }

theorem Channel.drive_eq (c : Channel) (highest : Nat) (src : BitVec 23) :
    ∃ d, c.drive highest src = { c with island := { c.island with drivers := d } } := by
  unfold Channel.drive
  split
  · exact ⟨_, rfl⟩
  · exact ⟨_, rfl⟩

/-- The sources' events, drivers and evidence: what a response, or one that goes on, begins with. -/
def Channel.signal (c : Channel) (ch : Chan) (src : BitVec 23) : Channel :=
  let level := c.tamper.union src
  let highest := max c.responding level
  let c := ((sourcesOf src).foldl (fun c n => c.event ch (0xA0 + n) level) c).drive highest src
  if 4 ≤ level then c.setEvidence src else c

theorem Channel.signal_eq (c : Channel) (ch : Chan) (src : BitVec 23) : ∃ e d p,
    c.signal ch src = { c with events := e, island := { c.island with drivers := d, pending := p } } := by
  obtain ⟨e, he⟩ := Channel.foldl_event_eq ch (c.tamper.union src) (sourcesOf src) c
  obtain ⟨d, hd⟩ := Channel.drive_eq { c with events := e } (max c.responding (c.tamper.union src)) src
  obtain ⟨p, hp⟩ := Channel.setEvidence_eq { c with events := e, island := { c.island with drivers := d } } src
  dsimp only [Channel.signal]
  rw [he, hd]
  split
  · exact ⟨e, d, p, hp⟩
  · exact ⟨e, d, c.island.pending, rfl⟩

/-- The actions of the levels up to `level` that a response of level `done` has not done, the island's erasure among them. -/
def Channel.rise (c : Channel) (n done level : Nat) (src : BitVec 23) : Channel :=
  let union := c.answering ||| src
  let c := ({ c with tamper := c.tamper.note union level c.tide }.beginResponse level union).respondUpTo n done level
  if level == 5 then { c with island := c.island.erase.pend 13 } else c

/-- A response that rises is announced: by the error vector, a flush of the recorder, and the order to the peer. -/
def State.announce (s : State) (ch : Chan) (done level : Nat) : State :=
  let s := if done == 0 then s.raiseError 0 else s
  let s := if level < 2 || 2 ≤ done then s else (s.drain).updPort (fun p => { p with recorder := p.recorder.flush 1 })
  if level == 5 then s.updPort (fun p => { p with l5From := p.l5From ++ [ch] }) else s

/-- What a detection does, by the state of the responder (R364, R369, R378). -/
theorem State.respond_eq (s : State) (ch : Chan) (src : BitVec 23) : s.respond ch src =
    if (s.chan ch).start.step == .off || (s.chan ch).start.step == .halted then s
    else if src == 0#23 || !(s.chan ch).tamper.armed then s.setChan ch ((s.chan ch).latch src)
    else if (s.chan ch).tamper.union src ≤ (s.chan ch).responding then s.setChan ch (((s.chan ch).latch src).signal ch src)
    else (s.setChan ch ((((s.chan ch).latch src).signal ch src).rise s.port.lastIntake (s.chan ch).responding
      ((s.chan ch).tamper.union src) src)).announce ch (s.chan ch).responding ((s.chan ch).tamper.union src) := rfl

/-! ### A response that rises -/

/-- What the responder keeps through a response: that it is armed, the sources that detect, the pins and the peer's order. -/
def Tamper.senses (t : Tamper) : Bool × BitVec 23 × BitVec 23 × BitVec 4 × Bool :=
  (t.armed, t.detecting, t.outlast, t.tmpIn, t.peerL5)

@[simp] theorem Tamper.note_senses (t : Tamper) (src : BitVec 23) (level tide : Nat) :
    (t.note src level tide).senses = t.senses := by
  unfold Tamper.note
  extract_lets t1
  have h1 : t1.senses = t.senses := by
    unfold t1
    split <;> rfl
  split
  · exact h1
  · exact h1

theorem Channel.respondUpTo_senses (c : Channel) (n done level : Nat) :
    (c.respondUpTo n done level).tamper.senses = c.tamper.senses := by
  obtain ⟨r, ht⟩ := (c.respondUpTo_answers n done level).1.tamper
  exact (congrArg Tamper.senses ht :)

/-- What the actions of a response do and leave, from what they begin with. -/
structure Channel.Rises (c d : Channel) (done level : Nat) : Prop where
  senses : d.tamper.senses = c.tamper.senses
  island : ∃ p, d.island = if level = 5 then { c.island.erase with pending := p } else { c.island with pending := p }
  fuses : d.fuses = c.fuses
  thermal : d.thermal = c.thermal
  cleared : ∃ v, d.health.cleared = c.health.cleared ||| v
  purged : done < 2 → 2 ≤ level → d.keys.cache = []
  erased : done < 3 → 3 ≤ level → d.keys.vr = none ∧ .tamper ∈ d.faults
  ordered : done < 4 → 4 ≤ level → d.resetOrder = true ∨ d.start.step = .halted

theorem Channel.eq_of_quiet {d e : Channel} (h : e.quiet = d.quiet) : e = { d with events := e.events } :=
  calc e = { e.quiet with events := e.events } := rfl
    _ = { d with events := e.events } := by rw [h]; rfl

theorem Channel.Rises.of_quiet {c d e : Channel} {done level : Nat} (h : Channel.Rises c d done level) (hq : e.quiet = d.quiet) :
    Channel.Rises c e done level := by
  rw [Channel.eq_of_quiet hq]
  exact ⟨h.senses, h.island, h.fuses, h.thermal, h.cleared, h.purged, h.erased, h.ordered⟩

theorem Channel.rise_rises (c : Channel) (n done level : Nat) (src : BitVec 23) :
    Channel.Rises c (c.rise n done level src) done level := by
  unfold Channel.rise
  extract_lets union d
  obtain ⟨⟨⟨r, ht⟩, ⟨p, hi⟩, hf, hth, hc, -, -⟩, hpurged, herased, hordered⟩ := Channel.respondUpTo_answers
    ({ c with tamper := c.tamper.note union level c.tide }.beginResponse level union) n done level
  have hsenses : d.tamper.senses = c.tamper.senses := (congrArg Tamper.senses ht).trans (Tamper.note_senses ..)
  have hisland : d.island = { c.island with pending := p } := hi
  by_cases h5 : level = 5
  · rw [if_pos (by simpa using h5)]
    exact ⟨hsenses, ⟨_, by rw [hisland, if_pos h5]; rfl⟩, hf, hth, hc, hpurged, herased, hordered⟩
  · rw [if_neg (by simpa using h5)]
    exact ⟨hsenses, ⟨p, by rw [hisland, if_neg h5]⟩, hf, hth, hc, hpurged, herased, hordered⟩

/-- A flush of the recorder with the events on their way leaves the orders to the peers, and of a channel its events alone. -/
theorem State.flushed_chan (s : State) (n : Nat) (x : Chan) :
    ((s.drain.updPort (fun p => { p with recorder := p.recorder.flush n })).chan x).quiet = (s.chan x).quiet := by
  rw [State.updPort_chan, State.drain_chan]
  rfl

theorem State.flushed_l5From (s : State) (n : Nat) :
    (s.drain.updPort (fun p => { p with recorder := p.recorder.flush n })).port.l5From = s.port.l5From := by
  obtain ⟨r, m, o, h⟩ := s.drain_eq
  rw [h]
  rfl

/-- The announcement of a response changes no channel but the events that the recorder takes. -/
theorem State.announce_quiet (s : State) (ch : Chan) (done level : Nat) (x : Chan) :
    ((s.announce ch done level).chan x).quiet = (s.chan x).quiet := by
  unfold State.announce
  extract_lets s1 s2
  have h1 : s1.chan x = s.chan x := (WayOut.ite _ (.raiseError s 0) (.refl s)).chan x
  have h2 : (s2.chan x).quiet = (s1.chan x).quiet := by
    unfold s2
    split
    · rfl
    · exact State.flushed_chan ..
  rw [← h1, ← h2]
  split
  · rw [State.updPort_chan]
  · rfl

theorem State.announce_l5From (s : State) (ch : Chan) (done level : Nat) :
    (s.announce ch done level).port.l5From = if level = 5 then s.port.l5From ++ [ch] else s.port.l5From := by
  unfold State.announce
  extract_lets s1 s2
  have h1 : s1.port.l5From = s.port.l5From := by
    unfold s1
    split <;> simp
  have h2 : s2.port.l5From = s1.port.l5From := by
    unfold s2
    split
    · rfl
    · exact State.flushed_l5From ..
  rw [← h1, ← h2]
  by_cases h5 : level = 5 <;> simp [h5]

/-! ### What a detection leaves, whatever it begins -/

@[simp] theorem Tamper.union_zero (t : Tamper) : t.union 0#23 = 0 := by
  have h : sourcesOf 0#23 = [] := by decide
  rw [Tamper.union, h]
  rfl

/-- The channel whose sources detect, as a detection leaves it: one that has started is latched, armed it is signalled, and where
the response rises, its actions stand. -/
inductive Channel.Responded (ch : Chan) (src : BitVec 23) (c : Channel) : Channel → Prop
  | stopped : c.start.step = .off ∨ c.start.step = .halted → Channel.Responded ch src c c
  | latched : src = 0#23 ∨ c.tamper.armed = false → Channel.Responded ch src c (c.latch src)
  | signalled : c.tamper.armed = true → c.tamper.union src ≤ c.responding
      → Channel.Responded ch src c ((c.latch src).signal ch src)
  | risen {d : Channel} : c.tamper.armed = true → c.responding < c.tamper.union src
      → Channel.Rises ((c.latch src).signal ch src) d c.responding (c.tamper.union src) → Channel.Responded ch src c d

theorem State.respond_responded (s : State) (ch : Chan) (src : BitVec 23) :
    Channel.Responded ch src (s.chan ch) ((s.respond ch src).chan ch) := by
  rw [State.respond_eq]
  split_ifs with hstart hsrc hlevel
  · exact .stopped (by simpa using hstart)
  · rw [State.chan_setChan]
    exact .latched (by simpa using hsrc)
  · have harmed : (s.chan ch).tamper.armed = true := by simp_all
    rw [State.chan_setChan]
    exact .signalled harmed hlevel
  · have harmed : (s.chan ch).tamper.armed = true := by simp_all
    refine .risen harmed (Nat.lt_of_not_le hlevel) ?_
    refine (Channel.rise_rises _ s.port.lastIntake _ _ src).of_quiet ?_
    rw [State.announce_quiet, State.chan_setChan]

namespace Channel.Responded

variable {ch : Chan} {src : BitVec 23} {c d : Channel}

/-- A detection leaves the responder's senses. -/
theorem senses (h : Channel.Responded ch src c d) : d.tamper.senses = c.tamper.senses := by
  obtain ⟨e, v, p, hsignal⟩ := (c.latch src).signal_eq ch src
  cases h with
  | stopped | latched => rfl
  | signalled => rw [hsignal]; rfl
  | risen _ _ h => rw [h.senses, hsignal]; rfl

/-- A detection leaves the temperatures of the channel. -/
theorem thermal (h : Channel.Responded ch src c d) : d.thermal = c.thermal := by
  obtain ⟨e, v, p, hsignal⟩ := (c.latch src).signal_eq ch src
  cases h with
  | stopped | latched => rfl
  | signalled => rw [hsignal]; rfl
  | risen _ _ h => rw [h.thermal, hsignal]; rfl

/-- Sources detected in a channel that has started are latched. -/
theorem alarm (h : Channel.Responded ch src c d) (hoff : c.start.step ≠ .off) (hhalt : c.start.step ≠ .halted) :
    d.island.alarm = c.island.alarm ||| src := by
  obtain ⟨e, v, p, hsignal⟩ := (c.latch src).signal_eq ch src
  cases h with
  | stopped h => simp [hoff, hhalt] at h
  | latched => rfl
  | signalled => rw [hsignal]; rfl
  | risen _ _ h =>
    obtain ⟨p', hisland⟩ := h.island
    rw [hisland, hsignal]
    split <;> rfl

/-- An island that is erased stays so through a detection, and keeps its decision on WAKE_N. -/
theorem erased (h : Channel.Responded ch src c d) (hbrine : c.island.brine = zeros 32) (herased : c.island.erased = true) :
    d.island.brine = zeros 32 ∧ d.island.erased = true ∧ d.island.wakeClass = c.island.wakeClass := by
  obtain ⟨e, v, p, hsignal⟩ := (c.latch src).signal_eq ch src
  cases h with
  | stopped | latched => exact ⟨hbrine, herased, rfl⟩
  | signalled => rw [hsignal]; exact ⟨hbrine, herased, rfl⟩
  | risen _ _ h =>
    obtain ⟨p', hisland⟩ := h.island
    rw [hisland, hsignal]
    split
    · exact ⟨rfl, rfl, rfl⟩
    · exact ⟨hbrine, herased, rfl⟩

/-- A detection clears health bits and sets none. -/
theorem cleared (h : Channel.Responded ch src c d) : ∃ v, d.health.cleared = c.health.cleared ||| v := by
  obtain ⟨e, v, p, hsignal⟩ := (c.latch src).signal_eq ch src
  cases h with
  | stopped | latched => exact ⟨0#16, by simp [Channel.latch]⟩
  | signalled => exact ⟨0#16, by rw [hsignal, BitVec.or_zero]; rfl⟩
  | risen _ _ h =>
    obtain ⟨w, hcleared⟩ := h.cleared
    exact ⟨w, by rw [hcleared, hsignal]; rfl⟩

/-- Where no response begins or rises, the sources are latched and signalled. -/
theorem unrisen (h : Channel.Responded ch src c d) (hle : c.tamper.armed = false ∨ c.tamper.union src ≤ c.responding) :
    ∃ e i v, d = { c with events := e, island := i, tamper := { c.tamper with seen := v } } := by
  obtain ⟨e, v, p, hsignal⟩ := (c.latch src).signal_eq ch src
  cases h with
  | stopped => exact ⟨c.events, c.island, c.tamper.seen, rfl⟩
  | latched => exact ⟨_, _, _, rfl⟩
  | signalled => exact ⟨_, _, _, hsignal⟩
  | risen harmed hlt =>
    rcases hle with h | h
    · simp [harmed] at h
    · omega

/-- An armed responder that answers nothing performs the levels of the sources' union. -/
theorem answered (h : Channel.Responded ch src c d) (hoff : c.start.step ≠ .off) (hhalt : c.start.step ≠ .halted)
    (harmed : c.tamper.armed = true) (hidle : c.responding = 0) :
    (2 ≤ c.tamper.union src → d.keys.cache = [])
    ∧ (3 ≤ c.tamper.union src → d.keys.vr = none ∧ .tamper ∈ d.faults)
    ∧ (4 ≤ c.tamper.union src → d.resetOrder = true ∨ d.start.step = .halted)
    ∧ (c.tamper.union src = 5 → d.island.brine = zeros 32 ∧ d.island.erased = true) := by
  cases h with
  | stopped h => simp [hoff, hhalt] at h
  | latched h =>
    obtain rfl : src = 0#23 := by simpa [harmed] using h
    simp
  | signalled _ h =>
    rw [hidle] at h
    refine ⟨?_, ?_, ?_, ?_⟩ <;> intro hl <;> omega
  | risen _ _ h =>
    rw [hidle] at h
    refine ⟨h.purged (by omega), h.erased (by omega), h.ordered (by omega), fun h5 => ?_⟩
    obtain ⟨p, hisland⟩ := h.island
    rw [hisland, if_pos h5]
    exact ⟨rfl, rfl⟩

end Channel.Responded

/-- A response that does not begin or rise announces nothing. -/
theorem State.respond_port {s : State} {ch : Chan} {src : BitVec 23}
    (h : (s.chan ch).tamper.armed = false ∨ (s.chan ch).tamper.union src ≤ (s.chan ch).responding) :
    (s.respond ch src).port = s.port := by
  rw [State.respond_eq]
  split_ifs with hstart hsrc hlevel
  · rfl
  · exact State.setChan_port ..
  · exact State.setChan_port ..
  · exact absurd h (by simp_all)

/-- Of the orders to the peer, a detection adds the channel's own where its response rises to L5. -/
theorem State.respond_l5From {s : State} {ch : Chan} {src : BitVec 23} (hoff : (s.chan ch).start.step ≠ .off)
    (hhalt : (s.chan ch).start.step ≠ .halted) (hsrc : src ≠ 0#23) (harmed : (s.chan ch).tamper.armed = true) :
    (s.respond ch src).port.l5From
      = if (s.chan ch).responding < (s.chan ch).tamper.union src ∧ (s.chan ch).tamper.union src = 5 then s.port.l5From ++ [ch]
        else s.port.l5From := by
  rw [State.respond_eq, if_neg (by simp [hoff, hhalt]), if_neg (by simp [hsrc, harmed])]
  by_cases hle : (s.chan ch).tamper.union src ≤ (s.chan ch).responding
  · rw [if_pos hle, if_neg (by omega), State.setChan_port]
  · simp only [if_neg hle, State.announce_l5From, State.setChan_port, Nat.lt_of_not_le hle, true_and]

/-! ### Detections (R362, R364) -/

/-- A channel whose sources are about to be answered. -/
def Channel.detects (c : Channel) (seen held : BitVec 23) : Channel :=
  { c with tamper := { c.tamper with detecting := seen, outlast := held } }

theorem State.detected_eq (s : State) (ch : Chan) (v : BitVec 23) :
    let held := v &&& (s.chan ch).underTest &&& ~~~ (s.chan ch).tamper.detecting
    s.detected ch v = (s.upd ch (·.detects (v &&& ~~~ held) held)).respond ch (v &&& ~~~ held &&& ~~~ (s.chan ch).tamper.detecting) :=
  rfl

theorem State.detected_of_untested {s : State} {ch : Chan} (h : (s.chan ch).underTest = 0#23) (v : BitVec 23) :
    s.detected ch v = (s.upd ch (·.detects v 0#23)).respond ch (v &&& ~~~ (s.chan ch).tamper.detecting) := by
  simp only [State.detected_eq, h, BitVec.and_zero, BitVec.zero_and, BitVec.not_zero, BitVec.and_allOnes]

/-- The state in which the sources of a detection, and the pins with them, stand. -/
def State.sensed (s : State) (ch : Chan) (v : BitVec 23) : State :=
  (s.setPins ch (BitVec.ofNat 4 (v.toNat / 2 ^ 14))).upd ch (·.detects v 0#23)

@[simp] theorem State.sensed_port (s : State) (ch : Chan) (v : BitVec 23) : (s.sensed ch v).port = s.port := by
  simp [State.sensed, State.setPins]

theorem State.sensed_chan (s : State) (ch : Chan) (v : BitVec 23) : (s.sensed ch v).chan ch
    = { s.chan ch with tamper := { (s.chan ch).tamper with
        tmpIn := BitVec.ofNat 4 (v.toNat / 2 ^ 14), detecting := v, outlast := 0#23 } } := by
  rw [State.sensed, State.chan_upd, State.setPins, State.chan_upd]
  rfl

theorem execTamperSourceDetected_of_run {s : State} {ch : Chan} (v : BitVec 23) (hrun : s.port.start.power = .run)
    (h : (s.chan ch).underTest = 0#23) : execTamperSourceDetected ch v s
      = .next (s.finish ((s.sensed ch v).respond ch (v &&& ~~~ (s.chan ch).tamper.detecting))) := by
  have hpins : ((s.setPins ch (BitVec.ofNat 4 (v.toNat / 2 ^ 14))).chan ch).underTest = 0#23 := by
    rw [State.setPins, State.chan_upd]
    exact h
  rw [execTamperSourceDetected, if_pos (by simp [State.monitored, hrun]), State.detected_of_untested hpins, State.setPins,
    State.chan_upd]
  rfl

/-! ### The order of the peer (R368, R369) -/

/-- A response to the peer's order is announced: by the error vector, an alert, and a flush of the recorder. -/
def State.announceOrder (s : State) (from_ : Chan) (done : Nat) : State :=
  let s := if done == 0 then (s.raiseError 0).orderAlert from_ else s
  if done < 2 then (s.drain).updPort (fun p => { p with recorder := p.recorder.flush 1 }) else s

theorem State.announceOrder_quiet (s : State) (from_ : Chan) (done : Nat) (x : Chan) :
    ((s.announceOrder from_ done).chan x).quiet = (s.chan x).quiet := by
  unfold State.announceOrder
  extract_lets s1
  have h1 : s1.chan x = s.chan x := by
    unfold s1
    split
    · rw [State.orderAlert, State.updPort_chan, (WayOut.raiseError s 0).chan]
    · rfl
  rw [← h1]
  split
  · exact State.flushed_chan ..
  · rfl

theorem State.announceOrder_l5From (s : State) (from_ : Chan) (done : Nat) :
    (s.announceOrder from_ done).port.l5From = s.port.l5From := by
  unfold State.announceOrder
  extract_lets s1
  have h1 : s1.port.l5From = s.port.l5From := by
    unfold s1
    split
    · show (s.raiseError 0).port.l5From = _
      rw [State.raiseError_port]
    · rfl
  rw [← h1]
  split
  · exact State.flushed_l5From ..
  · rfl

/-- A channel that its peer's order reaches: its island erased, the order noted. -/
def Channel.ordered (c : Channel) : Channel := { c.peerErase with tamper := { c.tamper with peerL5 := true } }

/-- The response of a channel to its peer's order. -/
def Channel.obey (c : Channel) (n : Nat) : Channel :=
  let done := c.responding
  let level := if done == 0 then 4 else 5
  let union := c.answering
  (({ c with tamper := if done < level then c.tamper.note union level c.tide else c.tamper } : Channel).beginResponse level
    union).respondUpTo n done 4

theorem Channel.obey_senses (c : Channel) (n : Nat) : (c.obey n).tamper.senses = c.tamper.senses := by
  unfold Channel.obey
  extract_lets done level union
  refine (Channel.respondUpTo_senses ..).trans ?_
  show (if done < level then c.tamper.note union level c.tide else c.tamper).senses = _
  split
  · exact Tamper.note_senses ..
  · rfl

/-- The response to an order leaves the island but its evidence. -/
theorem Channel.obey_island (c : Channel) (n : Nat) : ∃ p, (c.obey n).island = { c.island with pending := p } :=
  (Channel.respondUpTo_answers _ n c.responding 4).1.island

/-- What an order does, by the state of the responder that it reaches. -/
theorem State.peerL5_eq {s : State} {x : Chan} (hx : x ∈ s.port.l5From) : s.peerL5 x =
    let t := (s.updPort (fun p => { p with l5From := p.l5From.erase x })).upd x.peer (·.ordered)
    if (t.chan x.peer).start.step == .off || (t.chan x.peer).start.step == .halted || !(t.chan x.peer).tamper.armed then t
    else (t.setChan x.peer ((t.chan x.peer).obey t.port.lastIntake)).announceOrder x (t.chan x.peer).responding := by
  unfold State.peerL5
  rw [if_neg (by simpa using hx)]
  rfl

/-- An L5 order erases the island of the channel it reaches, notes the order there and is on its way no longer. -/
theorem State.peerL5_erased {s : State} {x : Chan} (hx : x ∈ s.port.l5From) :
    ((s.peerL5 x).chan x.peer).island.brine = zeros 32 ∧ ((s.peerL5 x).chan x.peer).island.erased = true
      ∧ ((s.peerL5 x).chan x.peer).tamper.peerL5 = true ∧ (s.peerL5 x).port.l5From = s.port.l5From.erase x := by
  rw [State.peerL5_eq hx]
  extract_lets t
  have hc : t.chan x.peer = (s.chan x.peer).ordered := by rw [State.chan_upd, State.updPort_chan]
  have hport : t.port.l5From = s.port.l5From.erase x := by rw [State.upd_port, State.updPort_port]
  split
  · rw [hc]
    exact ⟨rfl, rfl, rfl, hport⟩
  · obtain ⟨p, hisland⟩ := (t.chan x.peer).obey_island t.port.lastIntake
    have hsenses := (t.chan x.peer).obey_senses t.port.lastIntake
    rw [Channel.eq_of_quiet (State.announceOrder_quiet ..), State.announceOrder_l5From, State.chan_setChan, State.setChan_port]
    rw [hc] at hisland hsenses ⊢
    refine ⟨?_, ?_, congrArg (·.2.2.2.2) hsenses, hport⟩
    · exact congrArg Island.brine hisland
    · exact congrArg Island.erased hisland

/-- Settles O42: a detection, by whether it begins a response, goes on with one, or is latched alone; and the order of the
peer. That all actions stand at the detection is log 160, the sources that detect log 161. -/
theorem tamperResponses : Obligations.TamperResponses := by
  unfold Obligations.TamperResponses
  refine ⟨?_, ?_, ?_, ?_⟩
  · intro s ch v n l hrun hoff hhalt harmed hidle htest hn hl
    refine .intro (execTamperSourceDetected_of_run v hrun htest) ?_
    rw [← hn]
    have hd := (s.sensed ch v).respond_responded ch n
    have hl5 := State.respond_l5From (s := s.sensed ch v) (ch := ch) (src := n)
    rw [State.sensed_chan, State.sensed_port] at hl5
    rw [State.sensed_chan] at hd
    rw [State.finish_chan, State.finish_port_l5From]
    generalize (s.sensed ch v).respond ch n = t at hd hl5
    subst hl
    obtain ⟨hpurged, herased, hordered, hbrine⟩ := hd.answered hoff hhalt harmed hidle
    refine ⟨congrArg (·.2.1) hd.senses, hd.alarm hoff hhalt, hpurged, herased, hordered, fun h5 => ?_⟩
    obtain ⟨hzeros, herase⟩ := hbrine h5
    have hne : n ≠ 0#23 := fun h0 => by simp [h0] at h5
    refine ⟨hzeros, herase, ?_⟩
    rw [hl5 hoff hhalt hne harmed, if_pos ⟨by show (s.chan ch).responding < (s.chan ch).tamper.union n; omega, h5⟩]
    simp
  · intro s ch v n hrun hoff hhalt harmed htest hn
    refine .intro (execTamperSourceDetected_of_run v hrun htest) ?_
    have hd := (s.sensed ch v).respond_responded ch n
    rw [State.sensed_chan] at hd
    rw [← hn, State.finish_chan]
    generalize (s.sensed ch v).respond ch n = t at hd
    have halarm := hd.alarm hoff hhalt
    obtain ⟨e, i, w, heq⟩ := hd.unrisen (.inl harmed)
    rw [heq] at halarm ⊢
    exact ⟨rfl, halarm, rfl, rfl⟩
  · intro s ch v n l hrun hoff hhalt harmed htest hn hl hle
    refine .intro (execTamperSourceDetected_of_run v hrun htest) ?_
    rw [hl] at hle
    have hd := (s.sensed ch v).respond_responded ch n
    have hport := State.respond_port (s := s.sensed ch v) (ch := ch) (src := n)
      (.inr (by rw [State.sensed_chan]; exact hle))
    rw [State.sensed_chan] at hd
    rw [← hn, State.finish_chan, State.finish_port_l5From, hport, State.sensed_port]
    generalize (s.sensed ch v).respond ch n = t at hd
    have halarm := hd.alarm hoff hhalt
    obtain ⟨e, i, w, heq⟩ := hd.unrisen (.inr hle)
    rw [heq] at halarm ⊢
    exact ⟨rfl, halarm, rfl, rfl, rfl, rfl, rfl, rfl⟩
  · intro s x hx
    have herased := State.peerL5_erased hx
    refine .intro rfl ?_
    rw [State.finish_chan, State.finish_port_l5From]
    exact herased

end Sys2Proof.Machine
end

section
/-! The generator: its start, seeds, reseeds and failure (O23), the ports of the cores (O24), and the renewal of twin epochs
(O25). -/

namespace Sys2Proof.Machine

/-! ### The ends of requests -/

/-- What the ends of a failed generator's requests leave: what is guarded, and the generator but for its count of them. -/
def Channel.holding (c : Channel) : Guarded × Rng := (c.guarded, { c.rng with failedReqs := 0 })

@[simp] theorem Channel.noteResult_rngFailed_holding (c : Channel) (x : Item) :
    (c.noteResult x (.fail .rngFailed)).holding = c.holding := by
  simp [Channel.noteResult, Res.fail, Channel.holding, Channel.guarded, Channel.clock]

@[simp] theorem Channel.schedPort_holding (c : Channel) (x : Item) (r : Res) : (c.schedPort x r).holding = c.holding := rfl

@[simp] theorem Channel.produce_holding (c : Channel) (x : Item) (producer at' : Nat) (r : Res) :
    (c.produce x producer at' r).holding = c.holding := rfl

theorem Channel.drawsEnd_holding (c : Channel) (x : Item) : (c.drawsEnd x).holding = c.holding := by
  unfold Channel.drawsEnd
  extract_lets y d r e
  have he : e.holding = c.holding := rfl
  split
  · exact he
  · rw [Channel.produce_holding, Channel.noteResult_rngFailed_holding]
    exact he

/-! ### The failure -/

/-- A generator that has failed: it holds no pool, no key, no V and no epoch. -/
structure Rng.Failed (g : Rng) (cause : BitVec 3) (atStartup : Bool) : Prop where
  state : g.state = .failed
  cause : g.cause = cause
  atStartup : g.atStartup = atStartup
  pool : g.pool = []
  drbgKey : g.drbgKey = []
  drbgV : g.drbgV = []
  epochs : g.epochs = []

/-- A generator that fails is left failed, with a fault report and health bit 2 cleared; of what is guarded nothing else differs. -/
theorem Channel.rngFail_fails {c : Channel} (hfailed : c.rng.state ≠ .failed) (hoff : c.rng.state ≠ .off) (ch : Chan)
    (cause source : BitVec 3) :
    (c.rngFail ch cause source).rng.Failed cause (c.rng.state == .startTest)
    ∧ (c.rngFail ch cause source).guarded
        = { c.guarded with health := (c.clearHealth 2).health, faults := c.faults ++ [.generator] } := by
  unfold Channel.rngFail
  extract_lets g ended c1 h c2 c3 c4
  rw [if_neg (by simp [g, hfailed, hoff])]
  have h4 : c4.holding = c3.holding := foldl_keeps Channel.holding (fun c x => c.drawsEnd_holding x) _ c3
  have hend : (List.foldl (fun c x => (c.noteResult x (.fail .rngFailed)).schedPort x (.fail .rngFailed)) c4
      (c4.sched.items.filter (fun x => x.op == .reseed && x.halved && x.phase == .epochWait))).holding = c3.holding :=
    (foldl_keeps Channel.holding (fun c x => by simp) _ c4).trans h4
  generalize List.foldl _ c4 _ = d at hend ⊢
  have hrng : ({ d.rng with failedReqs := 0 } : Rng) = { c3.rng with failedReqs := 0 } := congrArg Prod.snd hend
  exact ⟨⟨(congrArg Rng.state hrng :), (congrArg Rng.cause hrng :), (congrArg Rng.atStartup hrng :), (congrArg Rng.pool hrng :),
    (congrArg Rng.drbgKey hrng :), (congrArg Rng.drbgV hrng :), (congrArg Rng.epochs hrng :)⟩, congrArg Prod.fst hend⟩

theorem Channel.rngFail_rng {c : Channel} (hfailed : c.rng.state ≠ .failed) (hoff : c.rng.state ≠ .off) (ch : Chan)
    (cause source : BitVec 3) : (c.rngFail ch cause source).rng.Failed cause (c.rng.state == .startTest) :=
  (Channel.rngFail_fails hfailed hoff ch cause source).1

theorem Channel.rngFail_faults {c : Channel} (hfailed : c.rng.state ≠ .failed) (hoff : c.rng.state ≠ .off) (ch : Chan)
    (cause source : BitVec 3) : (c.rngFail ch cause source).faults = c.faults ++ [.generator] :=
  (congrArg Guarded.faults (Channel.rngFail_fails hfailed hoff ch cause source).2 :)

theorem Channel.rngFail_cleared {c : Channel} (hfailed : c.rng.state ≠ .failed) (hoff : c.rng.state ≠ .off) (ch : Chan)
    (cause source : BitVec 3) : (c.rngFail ch cause source).health.cleared = c.health.cleared ||| 4#16 :=
  (congrArg (fun g : Guarded => g.health.cleared) (Channel.rngFail_fails hfailed hoff ch cause source).2 :)

/-! ### Seeds and reseeds (R288, R289) -/

theorem Rng.instantiate_eq (g : Rng) (ch : Chan) (tide : Nat) (identity noise : Bytes) :
    g.instantiate ch tide identity noise = { g with
      drbgKey := (drbgInstantiate (fitR 128 noise) (beBytes 8 tide ++ [ch.letter]) (identity ++ [ch.letter])).1
      drbgV := (drbgInstantiate (fitR 128 noise) (beBytes 8 tide ++ [ch.letter]) (identity ++ [ch.letter])).2
      drbgRequests := 0, drbgSeedTide := tide, reseedDue := false } := by
  unfold Rng.instantiate
  generalize drbgInstantiate (fitR 128 noise) (beBytes 8 tide ++ [ch.letter]) (identity ++ [ch.letter]) = p
  rfl

theorem Rng.reseed_eq (g : Rng) (tide : Nat) (noise : Bytes) : ∃ k v, g.reseed tide noise = { g with
    drbgKey := k, drbgV := v, drbgRequests := 0, drbgSeedTide := tide, reseedDue := false, reseeds := satBv g.reseeds 1 } := by
  unfold Rng.reseed
  generalize drbgUpdate g.drbgKey g.drbgV (drbgDf (fitR 128 noise)) = p
  exact ⟨p.1, p.2, rfl⟩

/-- A generator in SEEDING takes the unit at hand: it is READY, with its DRBG instantiated over the unit. -/
theorem Channel.rngSeed_of_unit {c : Channel} {noise u : Bytes} (hunit : c.unitOf noise = some u) (hseeding : c.rng.state = .seeding)
    (ch : Chan) :
    (c.rngSeed ch noise).rng.state = .ready ∧ (c.rngSeed ch noise).rng.drbgRequests = 0
    ∧ (c.rngSeed ch noise).rng.drbgSeedTide = c.tide ∧ (c.rngSeed ch noise).rng.reseedDue = false
    ∧ ((c.rngSeed ch noise).rng.drbgKey, (c.rngSeed ch noise).rng.drbgV)
      = drbgInstantiate (fitR 128 u) (beBytes 8 c.tide ++ [ch.letter]) (c.fuses.identity ++ [ch.letter])
    ∧ (c.rngSeed ch noise).rng.pool = c.rng.pool.drop 16 := by
  have hseed : c.rngSeed ch noise
      = c.mapRng (fun g => { ((g.instantiate ch c.tide c.fuses.identity u).useUnit) with state := .ready }) := by
    simp [Channel.rngSeed, hunit, hseeding]
  rw [hseed, Channel.mapRng_rng, Rng.instantiate_eq]
  generalize drbgInstantiate (fitR 128 u) (beBytes 8 c.tide ++ [ch.letter]) (c.fuses.identity ++ [ch.letter]) = p
  exact ⟨rfl, rfl, rfl, rfl, rfl, rfl⟩

theorem Channel.unitOf_of_unit {c : Channel} (h : c.rng.unit = true) (noise : Bytes) : c.unitOf noise = some c.rng.unitBytes :=
  if_pos h

theorem Channel.unitOf_of_operand {c : Channel} (h : c.rng.unit = false) (haligned : c.aligned = false) (noise : Bytes) :
    c.unitOf noise = some (fitR 128 noise) := by
  simp [Channel.unitOf, h, haligned]

/-- A reseed that is due takes the unit at hand and starts the counts again, whether the DRBG is reseeded or instantiated anew. -/
theorem Channel.drbgReseed_of_unit {c : Channel} {noise u : Bytes} (hunit : c.unitOf noise = some u) (hready : c.rng.state = .ready)
    (hdue : c.rng.reseedDue = true) (ch : Chan) :
    (c.drbgReseed ch noise).rng.reseedDue = false ∧ (c.drbgReseed ch noise).rng.drbgRequests = 0
      ∧ (c.drbgReseed ch noise).rng.drbgSeedTide = c.tide ∧ (c.drbgReseed ch noise).rng.pool = c.rng.pool.drop 16 := by
  unfold Channel.drbgReseed
  rw [hunit]
  dsimp only
  rw [if_neg (by simp [hready, hdue]), foldl_keeps Channel.rng (fun _ _ => by rfl), Channel.mapRng_rng]
  split
  · rw [Rng.instantiate_eq]
    exact ⟨rfl, rfl, rfl, rfl⟩
  · obtain ⟨k, v, h⟩ := c.rng.reseed_eq c.tide u
    rw [h]
    exact ⟨rfl, rfl, rfl, rfl⟩

/-- Settles O23, event by event: a failure is one, at the start test or later, and a seed is drawn from the pool or, where no
tide runs, is the operand (log 230). -/
theorem rngStartSeedAndFailure : Obligations.RngStartSeedAndFailure := by
  unfold Obligations.RngStartSeedAndFailure
  refine ⟨?_, ?_, ?_, ?_, ?_, ?_, ?_⟩
  · intro s ch hstart
    refine .intro rfl ?_
    rw [State.finish_chan, State.rngTestEnd, if_neg (by simp [hstart]), if_pos rfl, State.chan_upd]
    rfl
  · intro s ch hstart
    refine .intro rfl ?_
    have hfailed : (s.chan ch).rng.state ≠ .failed := by simp [hstart]
    have hoff : (s.chan ch).rng.state ≠ .off := by simp [hstart]
    have hrng := Channel.rngFail_rng hfailed hoff ch (BitVec.ofNat 3 (1 + Config.freeNat s.free % 3))
      (BitVec.ofNat 3 (Config.freeNat s.free / 3))
    have hfaults := Channel.rngFail_faults hfailed hoff ch (BitVec.ofNat 3 (1 + Config.freeNat s.free % 3))
      (BitVec.ofNat 3 (Config.freeNat s.free / 3))
    rw [State.finish_chan, State.rngTestEnd, if_neg (by simp [hstart]), if_neg (by decide), State.drawn_chan, State.chan_upd]
    refine ⟨hrng.state, hrng.atStartup.trans (by simp [hstart]), hrng.drbgKey, hrng.epochs, ?_⟩
    rw [hfaults]
    simp
  · intro s ch noise hseeding hunit
    refine .intro rfl ?_
    rw [State.chan_upd]
    exact Channel.rngSeed_of_unit (Channel.unitOf_of_unit hunit noise) hseeding ch
  · intro s ch noise hseeding hunit haligned
    refine .intro rfl ?_
    obtain ⟨hready, hrequests, htide, hdue, hkey, -⟩ :=
      Channel.rngSeed_of_unit (Channel.unitOf_of_operand hunit haligned noise) hseeding ch
    rw [State.chan_upd, ← fitR_of_length (fitR_length 128 noise)]
    exact ⟨hready, hrequests, htide, hdue, hkey⟩
  · intro s ch cause hfailed hoff hcause hle
    refine .intro rfl ?_
    have hrng := Channel.rngFail_rng hfailed hoff ch cause (BitVec.ofNat 3 (Config.freeNat s.free))
    have hfaults := Channel.rngFail_faults hfailed hoff ch cause (BitVec.ofNat 3 (Config.freeNat s.free))
    have hcleared := Channel.rngFail_cleared hfailed hoff ch cause (BitVec.ofNat 3 (Config.freeNat s.free))
    rw [State.finish_chan, if_neg (by simp [hcause]; omega), State.drawn_chan, State.chan_upd]
    refine ⟨hrng.state, hrng.cause, hrng.atStartup, hrng.pool, hrng.drbgKey, hrng.drbgV, hrng.epochs, ?_, ?_⟩
    · rw [hfaults]
      simp
    · rw [hcleared]
      simp
  · intro s ch hready hdue
    refine .intro rfl ?_
    rw [State.chan_upd, Channel.drbgDue, if_pos (by rcases hdue with h | h <;> simp [hready, h])]
    rfl
  · intro s ch noise hready hdue hunit
    refine .intro rfl ?_
    rw [State.finish_chan, State.chan_upd]
    exact Channel.drbgReseed_of_unit (Channel.unitOf_of_unit hunit noise) hready hdue ch

/-! ### The cores' ports (R299) -/

@[simp] theorem Rng.port_setPort (g : Rng) (k : Nat) (q : RngPort) : (g.setPort k q).port k = q := SMap.get_set_same ..

/-- A local request of 1 to 4,096 bytes that nothing holds up leaves what is generated in the port. -/
theorem Channel.portServe_of_local {c : Channel} {v : Word} (hready : c.rng.state = .ready) (hdue : c.rng.reseedDue = false)
    (hlocal : v.getLsbD 21 = true) (hpos : v.toNat / 256 % 8192 ≠ 0) (hle : v.toNat / 256 % 8192 ≤ 4096) (k : Nat) (other : Bytes) :
    (c.portServe k v other).rng.port k
      = { RngPort.reset with word := (c.rng.port k).word, data := (c.rng.generate [] (v.toNat / 256 % 8192)).1 } := by
  unfold Channel.portServe
  extract_lets len index g put blank got wait failed
  rw [if_neg (by simp [g, hready]), if_neg (by simp [len]; omega), if_pos hlocal, if_neg (by simp [g, hdue])]
  exact Rng.port_setPort ..

/-- Settles O24: what is left in a port is what the generator generates, and a read takes it from there eight bytes at a time. -/
theorem rngPortDeliversWords : Obligations.RngPortDeliversWords := by
  unfold Obligations.RngPortDeliversWords
  refine ⟨?_, ?_⟩
  · intro s ch core value hready hdue hlocal hpos hle
    refine .intro rfl ?_
    rw [State.drawn_chan, State.chan_upd, Channel.portServe_of_local hready hdue hlocal hpos hle]
    exact ⟨rfl, rfl, rfl⟩
  · intro s ch core hwaits
    refine .intro rfl ?_
    rw [State.drawn_chan, State.chan_upd, Channel.portRead]
    simp [hwaits]

/-! ### The renewal of twin epochs (R295, R296) -/

/-- A change made in each channel of a list is made once in each. -/
theorem State.foldl_upd_chan (f : Chan → Channel → Channel) {l : List Chan} (hl : l.Nodup) (s : State) (ch : Chan) :
    (l.foldl (fun s x => s.upd x (f x)) s).chan ch = if ch ∈ l then f ch (s.chan ch) else s.chan ch := by
  induction l generalizing s with
  | nil => rfl
  | cons x l ih =>
    obtain ⟨hx, hl⟩ := List.nodup_cons.1 hl
    rw [List.foldl_cons, ih hl]
    by_cases h : ch = x
    · subst h
      simp [hx]
    · obtain rfl : x = ch.peer := Chan.eq_of_peer_ne (by simpa using h)
      simp [h, State.chan_upd_of_peer]

theorem PortDie.joinedChans_nodup (p : PortDie) : p.joinedChans.Nodup := List.Nodup.filter _ (by decide)

theorem PortDie.mem_joinedChans {p : PortDie} {ch : Chan} : ch ∈ p.joinedChans ↔ p.joined ch = true := by
  cases ch <;> simp [PortDie.joinedChans, chans]

/-- A channel that may contribute takes the unit at hand as its contribution. -/
theorem Channel.contribute_of_unit {c : Channel} {noise u : Bytes} (hunit : c.unitOf noise = some u) (hmay : c.mayContribute = true) :
    c.contribute noise = c.mapRng (fun g => { g.useUnit with
      renewal := g.renewal.map (fun r => { r with own := some u, askedAt := c.tide }) }) := by
  simp [Channel.contribute, hunit, hmay]

/-- A channel that may contribute has a renewal open. -/
theorem Channel.renewal_of_mayContribute {c : Channel} (h : c.mayContribute = true) : ∃ r, c.rng.renewal = some r := by
  simp only [Channel.mayContribute, Bool.and_eq_true, Option.any_eq_true] at h
  obtain ⟨-, r, hr, -⟩ := h
  exact ⟨r, hr⟩

/-- With its own contribution in hand, and none formed, a channel forms the epoch over both. -/
theorem Channel.formWith_formed {c : Channel} {r : Renewal} {own : Bytes} (hrenewal : c.rng.renewal = some r) (hown : r.own = some own)
    (hnone : r.formed = none) (ch : Chan) (peer : Bytes) (anew : Bool) :
    (c.formWith ch peer anew).rng.renewal.bind (·.formed) = some (c.epochSeed ch own peer) := by
  simp [Channel.formWith, hrenewal, hown, hnone]

/-- With the check of every channel awaited, and all equal, the target is fixed. -/
theorem State.epochChecks_of_equal {s : State} {k : Bytes} (htarget : s.port.epoch.target = none) (hsome : s.checking ≠ [])
    (hcheck : ∀ ch ∈ s.checking, (s.chan ch).formed.map epochCheck = some k) :
    s.epochChecks.port.epoch.target = some (s.port.tide + 2) := by
  unfold State.epochChecks
  extract_lets e now read e1 t l
  have hl : ∀ x ∈ l, x = some k := by
    intro x hx
    obtain ⟨ch, hch, rfl⟩ := List.mem_map.1 hx
    have hcontains : now.contains ch = true := by simpa using hch
    cases ch
    · exact (if_pos hcontains).trans (hcheck .a hch)
    · exact (if_pos hcontains).trans (hcheck .b hch)
  obtain ⟨x, l', hcons⟩ : ∃ x l', l = x :: l' := List.exists_cons_of_ne_nil (by simpa [l, now] using hsome)
  have hhead : l.headD none = some k := by
    rw [hcons]
    exact hl x (by simp [hcons])
  have hall : l.all (·.isSome) = true := List.all_eq_true.2 fun x hx => by rw [hl x hx]; rfl
  have hequal : l.all (fun x => x == l.headD none) = true := List.all_eq_true.2 fun x hx => by rw [hl x hx, hhead]; simp
  rw [if_neg (by simp [e1, e, htarget, now, hsome]), if_neg (by simp [hall]), if_pos hequal]
  rfl

@[simp] theorem Channel.giveVr_rng (c : Channel) (intake number : Nat) (seed : Bytes) :
    (c.giveVr intake number seed).rng = c.rng := by
  unfold Channel.giveVr
  split
  · rfl
  · extract_lets v d
    split <;> rfl

/-- At its target the seed takes effect, its count at 0. -/
theorem Channel.epochEffect_of_due {c : Channel} {r : Renewal} {seed : Bytes} {n : Nat} (hrenewal : c.rng.renewal = some r)
    (hformed : r.formed = some seed) (htarget : r.target = some n) (hdue : n ≤ c.tide) (intake : Nat) :
    (c.epochEffect intake).rng.current = c.rng.nextEpoch ∧ (c.epochEffect intake).rng.uses = 0
      ∧ (c.epochEffect intake).rng.epochTide = n ∧ (c.epochEffect intake).rng.renewal = none := by
  simp only [Channel.epochEffect, hrenewal, hformed, htarget, if_neg (Nat.not_lt.2 hdue)]
  rw [foldl_keeps Channel.rng]
  · simp only [Channel.releaseEpochs, Channel.giveVr_rng, Channel.mapRng_rng]
    exact ⟨trivial, trivial, trivial, trivial⟩
  · intro c x
    split <;> rfl

/-- Settles O25, step by step. The contribution of a channel whose tide does not run is log 230, forming alone log 114, and the
checks awaited log 116. -/
theorem twinEpochIsRenewed : Obligations.TwinEpochIsRenewed := by
  unfold Obligations.TwinEpochIsRenewed
  refine ⟨?_, ?_, ?_, ?_, ?_, ?_, ?_, ?_⟩
  · intro s ch hjoined hbegun hdue
    refine .intro rfl ?_
    rw [State.foldl_upd_chan (fun _ => (·.renewalDue)) s.port.joinedChans_nodup, if_pos (PortDie.mem_joinedChans.2 hjoined),
      Channel.renewalDue, if_neg (by simp [hbegun]; omega)]
    exact Rng.trigger_renewal _
  · intro s ch noise hforms hmay hunit
    refine .intro (congrArg Host.Outcome.next (if_pos hforms)) ?_
    obtain ⟨r, hr⟩ := Channel.renewal_of_mayContribute hmay
    rw [State.chan_upd, Channel.contribute_of_unit (Channel.unitOf_of_unit hunit noise) hmay]
    exact ⟨rfl, by simp [hr]⟩
  · intro s ch noise hforms hmay hunit haligned
    refine .intro (congrArg Host.Outcome.next (if_pos hforms)) ?_
    obtain ⟨r, hr⟩ := Channel.renewal_of_mayContribute hmay
    rw [State.chan_upd, Channel.contribute_of_unit (Channel.unitOf_of_operand hunit haligned noise) hmay]
    simp [hr]
  · intro s ch r own peer hforms hpeer ha hb hrenewal hown hnone hsent
    refine .intro rfl ?_
    have hup : s.sluiceUp = true := by simp [State.sluiceUp, ha, hb]
    have htaken := s.sluiceMsg_receiver ch.peer (.contribution peer)
    rw [Chan.peer_peer] at htaken
    simp only [State.contribution, hsent, hforms, hpeer, hup, Bool.not_true, Bool.or_self, Bool.false_eq_true, if_false]
    rw [State.chan_upd, htaken]
    exact Channel.formWith_formed (c := (s.chan ch).sluiceTaken _) hrenewal hown hnone ch peer false
  · intro s k htarget hsome hcheck
    refine .intro rfl ?_
    rw [State.finish_port_epoch]
    exact State.epochChecks_of_equal htarget hsome hcheck
  · intro s ch r seed n hjoined hrenewal hformed htarget hdue
    refine .intro rfl ?_
    rw [if_pos hjoined, State.finish_chan, State.epochClear_chan, State.chan_upd]
    exact Channel.epochEffect_of_due hrenewal hformed htarget hdue s.port.lastIntake
  · intro s ch n hretry hdue hjoined
    refine .intro rfl ?_
    have hmem := PortDie.mem_joinedChans.2 hjoined
    simp only [State.epochRetry, hretry, if_neg (Nat.not_lt.2 hdue)]
    have hjoins : (s.updPort fun p => { p with epoch := { p.epoch with retryAt := none } }).port.joinedChans = s.port.joinedChans := rfl
    rw [hjoins, if_neg (by simpa using List.ne_nil_of_mem hmem),
      State.foldl_upd_port (fun _ => (·.mapRng (fun g => ({ g with retryAt := none } : Rng).trigger))),
      State.foldl_upd_chan (fun _ => (·.mapRng (fun g => ({ g with retryAt := none } : Rng).trigger))) s.port.joinedChans_nodup,
      if_pos hmem]
    exact ⟨rfl, Rng.trigger_renewal _⟩
  · intro s ch r own hjoined hpeer hrenewal hown hnone hsilent
    refine .intro rfl ?_
    have hforms : s.forms ch = true := by simp [State.forms, hjoined]
    have hpeerSilent : s.peerSilent ch = true := by
      unfold State.peerSilent
      rcases hsilent with h | h
      · rw [h]
      · split
        all_goals simp [hrenewal, h]
    rw [State.formAlone, if_neg (by simp [hforms, hpeer]), if_pos (by simp [hjoined, hpeerSilent]), State.chan_setChan]
    exact Channel.formWith_formed hrenewal hown hnone ch (zeros 128) true

end Sys2Proof.Machine
end

section
/-! Monitor tests, pins and the islands' decisions (O43): the responder through a cycle, and a detection held back by a test. -/

namespace Sys2Proof.Machine

/-! ### What a cycle leaves of the responder (R30) -/

/-- What a cycle leaves of a channel that counts tides: its responder, its island and its start. -/
def Channel.watch (c : Channel) : (Nat × Nat × Bool) × Tamper × Island × Start := (c.clock, c.tamper, c.island, c.start)

@[simp] theorem Channel.setItem_watch (c : Channel) (x : Item) : (c.setItem x).watch = c.watch := rfl
@[simp] theorem Channel.onSched_watch (c : Channel) (f : Sched → Sched) : (c.onSched f).watch = c.watch := rfl
@[simp] theorem Channel.mapSched_watch (c : Channel) (f : SchedRegs → SchedRegs) : (c.mapSched f).watch = c.watch := rfl
@[simp] theorem Channel.trace_watch (c : Channel) (x : Item) (decision unit : Nat) (code due cycles : Nat) (exempt : Bool) :
    (c.trace x decision unit code due cycles exempt).watch = c.watch := rfl

@[simp] theorem Channel.preempt_watch (c : Channel) (k : Nat) (y : Item) (urgent : Bool) :
    (c.preempt k y urgent).watch = c.watch := by simp [Channel.preempt]

@[simp] theorem Channel.enterAt_watch (c : Channel) (x : Item) (head : Bool) : (c.enterAt x head).watch = c.watch := by
  simp only [Channel.enterAt]
  split <;> simp

@[simp] theorem Channel.landSaves_watch (c : Channel) : c.landSaves.watch = c.watch := by
  unfold Channel.landSaves
  refine foldl_keeps Channel.watch (fun c x => ?_) _ c
  repeat' split
  all_goals simp

@[simp] theorem Channel.rngFail_watch (c : Channel) (ch : Chan) (cause source : BitVec 3) :
    (c.rngFail ch cause source).watch = c.watch := by
  by_cases h : c.rng.state = .failed ∨ c.rng.state = .off
  · rw [Channel.rngFail, if_pos (by simpa using h)]
  · obtain ⟨hfailed, hoff⟩ := not_or.1 h
    have hguarded := (Channel.rngFail_fails hfailed hoff ch cause source).2
    exact (congrArg (fun g : Guarded => (g.clock, g.tamper, g.island, g.start)) hguarded :)

@[simp] theorem Channel.heardFailure_watch (c : Channel) (ch : Chan) : (c.heardFailure ch).watch = c.watch := by
  unfold Channel.heardFailure
  split <;> simp

/-- A cycle of a channel that counts tides: its offset rises, and its responder, island and start stay. -/
def State.cycled (s : State) : State :=
  let on (f : Channel → Channel) (c : Channel) : Channel := if c.aligned then f c else c
  let t := ((s.upd .a (on (·.noteWaits s.port))).upd .b (on (·.noteWaits s.port))).tick
  (t.upd .a (on (fun c => (c.schedCycle).heardFailure .a))).upd .b (on (fun c => (c.schedCycle).heardFailure .b))

theorem State.idle_eq (s : State) : s.idle = (s.cycled.outlasted .a).outlasted .b := rfl

theorem State.cycled_watch {s : State} {ch : Chan} (haligned : (s.chan ch).aligned = true) (hrefclk : s.port.start.refclk = true) :
    (s.cycled.chan ch).watch = ({ s.chan ch with offset := min 4095 ((s.chan ch).offset + 1) } : Channel).watch := by
  have hcycle {c d : Channel} (hd : d.aligned = true) (h : d.watch = c.watch) (ch : Chan) :
      (if d.aligned then d.schedCycle.heardFailure ch else d).watch = c.watch := by
    rw [if_pos hd, Channel.heardFailure_watch, Channel.schedCycle, Channel.landSaves_watch, Channel.onSched_watch, h]
  cases ch
  all_goals
    simp only [State.chan_a, State.chan_b] at haligned
    refine hcycle ?_ ?_ _ <;> simp [State.tick, Channel.noteWaits, haligned, hrefclk, Channel.watch, Channel.clock]

/-! ### Detections held back by a test (R362) -/

/-- A detection that is due leaves the channel's peer, but for events on their way to the recorder. -/
theorem State.outlasted_peer (s : State) (ch : Chan) : ((s.outlasted ch).chan ch.peer).quiet = (s.chan ch.peer).quiet := by
  unfold State.outlasted
  extract_lets c o
  split
  · rfl
  · exact (((StaysIn.upd ch s _).trans (StaysIn.respond ch _ o)).finish s).peer

/-- A detection held back until its test is over is raised. -/
theorem State.outlasted_of_over {s : State} {ch : Chan} (haligned : (s.chan ch).aligned = true)
    (hheld : (s.chan ch).tamper.outlast ≠ 0#23) (hover : (s.chan ch).tamper.bistUntil ≤ (s.chan ch).now)
    (hoff : (s.chan ch).start.step ≠ .off) (hhalt : (s.chan ch).start.step ≠ .halted) :
    ((s.outlasted ch).chan ch).tamper.outlast = 0#23
      ∧ ((s.outlasted ch).chan ch).tamper.detecting = (s.chan ch).tamper.present
      ∧ ((s.outlasted ch).chan ch).island.alarm = (s.chan ch).island.alarm ||| (s.chan ch).tamper.outlast := by
  have hd := (s.upd ch (·.detects (s.chan ch).tamper.present 0#23)).respond_responded ch (s.chan ch).tamper.outlast
  have hraised : s.outlasted ch = s.finish ((s.upd ch (·.detects (s.chan ch).tamper.present 0#23)).respond ch
      (s.chan ch).tamper.outlast) := by
    unfold State.outlasted
    extract_lets c o
    rw [if_neg (by simp [c, o, haligned, hheld]; omega)]
    cases ch <;> rfl
  rw [State.chan_upd] at hd
  rw [hraised, State.finish_chan]
  exact ⟨congrArg (·.2.2.1) hd.senses, congrArg (·.2.1) hd.senses, hd.alarm hoff hhalt⟩

/-- What a cycle raises in a channel, it raises in a state that the cycle has brought. -/
theorem State.idle_chan (s : State) (ch : Chan) : ∃ t : State, (t.chan ch).quiet = (s.cycled.chan ch).quiet
    ∧ (s.idle.chan ch).quiet = ((t.outlasted ch).chan ch).quiet := by
  rw [State.idle_eq]
  cases ch
  · exact ⟨_, rfl, State.outlasted_peer _ .b⟩
  · exact ⟨_, State.outlasted_peer _ .a, rfl⟩

/-- Of a detection held back, a cycle in which its test is over leaves nothing held and everything latched. -/
theorem State.idle_of_over {s : State} {ch : Chan} (hrefclk : s.port.start.refclk = true) (haligned : (s.chan ch).aligned = true)
    (hoffset : (s.chan ch).offset < 4095) (hheld : (s.chan ch).tamper.outlast ≠ 0#23)
    (hover : (s.chan ch).tamper.bistUntil ≤ (s.chan ch).now + 1) (hoff : (s.chan ch).start.step ≠ .off)
    (hhalt : (s.chan ch).start.step ≠ .halted) :
    (s.idle.chan ch).tamper.outlast = 0#23 ∧ (s.idle.chan ch).tamper.detecting = (s.chan ch).tamper.present
      ∧ (s.idle.chan ch).island.alarm = (s.chan ch).island.alarm ||| (s.chan ch).tamper.outlast := by
  obtain ⟨t, ht, hidle⟩ := s.idle_chan ch
  have hwatch : (t.chan ch).watch = ({ s.chan ch with offset := min 4095 ((s.chan ch).offset + 1) } : Channel).watch :=
    (congrArg Channel.watch ht : (t.chan ch).quiet.watch = _).trans (State.cycled_watch haligned hrefclk)
  simp only [Channel.watch, Channel.clock, Prod.mk.injEq] at hwatch
  obtain ⟨⟨htide, hoffset', haligned'⟩, htamper, hisland, hstart⟩ := hwatch
  have hnow : (t.chan ch).now = (s.chan ch).now + 1 := by
    rw [Channel.now, htide, hoffset', Channel.now]
    omega
  have hraised := State.outlasted_of_over (haligned'.trans haligned) (by rwa [htamper]) (by rwa [htamper, hnow])
    (by rwa [hstart]) (by rwa [hstart])
  rw [Channel.eq_of_quiet hidle, ← htamper, ← hisland]
  exact hraised

/-! ### Detections under test (R362) -/

/-- The source under test alone goes unanswered: it is held back. -/
theorem State.detected_underTest {s : State} {ch : Chan} {v : BitVec 23} (hv : v = (s.chan ch).underTest)
    (hnew : v &&& (s.chan ch).tamper.detecting = 0#23) :
    s.detected ch v = (s.upd ch (·.detects 0#23 v)).respond ch 0#23 := by
  have hheld : v &&& (s.chan ch).underTest &&& ~~~ (s.chan ch).tamper.detecting = v := by
    rw [← hv, BitVec.and_self]
    ext i hi
    have h : (v &&& (s.chan ch).tamper.detecting)[i] = false := by simp [hnew]
    simpa using h
  simp [State.detected_eq, hheld]

/-- No new source leaves the channel as it is. -/
theorem State.respond_zero_chan (s : State) (ch : Chan) : (s.respond ch 0#23).chan ch = s.chan ch := by
  rw [State.respond_eq]
  split
  · rfl
  · rw [if_pos (by simp), State.chan_setChan]
    simp [Channel.latch]

/-- A detection outside a test sets the sources detecting, and leaves the pins. -/
theorem State.detected_detecting {s : State} {ch : Chan} (h : (s.chan ch).underTest = 0#23) (v : BitVec 23) :
    ((s.detected ch v).chan ch).tamper.detecting = v ∧ ((s.detected ch v).chan ch).tamper.tmpIn = (s.chan ch).tamper.tmpIn := by
  have hd := (s.upd ch (·.detects v 0#23)).respond_responded ch (v &&& ~~~ (s.chan ch).tamper.detecting)
  rw [State.chan_upd] at hd
  rw [State.detected_of_untested h]
  exact ⟨congrArg (·.2.1) hd.senses, congrArg (·.2.2.2.1) hd.senses⟩

theorem State.detected_peer (s : State) (ch : Chan) (v : BitVec 23) :
    ((s.detected ch v).chan ch.peer).quiet = (s.chan ch.peer).quiet := ((StaysIn.refl ch s).detected v).peer

/-- What a response leaves of the port die: all but the orders to the peers, and what events write on their way out. -/
def PortDie.calm (p : PortDie) : PortDie := { p.control with l5From := [] }

theorem State.announce_calm (s : State) (ch : Chan) (done level : Nat) : (s.announce ch done level).port.calm = s.port.calm := by
  unfold State.announce
  extract_lets s1 s2
  have h1 : s1.port.calm = s.port.calm :=
    congrArg (fun p : PortDie => { p with l5From := [] }) (WayOut.ite _ (.raiseError s 0) (.refl s)).control
  have h2 : s2.port.calm = s1.port.calm := by
    unfold s2
    split
    · rfl
    · obtain ⟨r, m, o, h⟩ := s1.drain_eq
      rw [h]
      rfl
  rw [← h1, ← h2]
  split <;> rfl

@[simp] theorem State.respond_calm (s : State) (ch : Chan) (src : BitVec 23) : (s.respond ch src).port.calm = s.port.calm := by
  rw [State.respond_eq]
  split_ifs
  · rfl
  · rw [State.setChan_port]
  · rw [State.setChan_port]
  · rw [State.announce_calm, State.setChan_port]

@[simp] theorem State.detected_calm (s : State) (ch : Chan) (v : BitVec 23) : (s.detected ch v).port.calm = s.port.calm := by
  rw [State.detected_eq, State.respond_calm, State.upd_port]

@[simp] theorem State.detected_start (s : State) (ch : Chan) (v : BitVec 23) : (s.detected ch v).port.start = s.port.start :=
  (congrArg PortDie.start (s.detected_calm ch v) :)

/-- Settles O43, event by event. The first failure kept is R363, the sources that detect log 161, the row of the monitor test log
163, and ERASED at once log 165. -/
theorem monitorsAndIslands : Obligations.MonitorsAndIslands := by
  unfold Obligations.MonitorsAndIslands
  have hmonitored {s : State} (hrun : s.port.start.power = .run) : s.monitored = true := by simp [State.monitored, hrun]
  refine ⟨?_, ?_, ?_, ?_, ?_, ?_, ?_⟩
  · intro s ch n pass hrun harmed hn hdue hfirst
    refine .intro rfl ?_
    subst hn
    rw [State.finish_chan, State.monitorTest, if_neg (by simp [hmonitored hrun, harmed, hdue])]
    cases pass with
    | true =>
      rw [if_pos rfl, State.chan_upd]
      exact ⟨rfl, rfl, fun h => by simp at h, rfl, rfl⟩
    | false =>
      have hfirst : (s.chan ch).tamper.failedOnce.getLsbD (s.chan ch).tamper.bistNext.toNat = false := by simpa using hfirst
      rw [if_neg (by decide), if_neg (by simp [hfirst]), State.chan_upd]
      exact ⟨rfl, rfl, fun _ => rfl, rfl, rfl⟩
  · intro s ch v hrun hv hnew
    refine .intro rfl ?_
    have hpins : (s.setPins ch (BitVec.ofNat 4 (v.toNat / 2 ^ 14))).chan ch
        = { s.chan ch with tamper := { (s.chan ch).tamper with tmpIn := BitVec.ofNat 4 (v.toNat / 2 ^ 14) } } := State.chan_upd ..
    rw [State.finish_chan, if_pos (hmonitored hrun), State.detected_underTest (by rw [hpins]; exact hv) (by rw [hpins]; exact hnew),
      State.respond_zero_chan, State.chan_upd, hpins]
    exact ⟨rfl, rfl, rfl, rfl, rfl⟩
  · intro s ch v hpending hrefclk haligned hoffset hv hne hover hoff hhalt
    subst hv
    obtain ⟨hout, hdetecting, halarm⟩ := State.idle_of_over hrefclk haligned hoffset hne hover hoff hhalt
    refine ⟨s.idle, by simp [step, hpending], hout, hdetecting, ?_⟩
    rw [halarm]
    ext i hi
    simpa using Or.inr
  · intro s ch pin hrun htest
    refine .intro rfl ?_
    have hpins (p : BitVec 4) : (s.setPins ch p).chan ch = { s.chan ch with tamper := { (s.chan ch).tamper with tmpIn := p } } :=
      State.chan_upd ..
    rw [State.finish_chan, State.tmpIn, if_neg (by simp [hmonitored hrun])]
    obtain ⟨hdetecting, htmp⟩ := State.detected_detecting (s := s.setPins ch ((s.chan ch).tamper.tmpIn ||| BitVec.ofNat 4 (2 ^ pin.toNat)))
      (by rw [hpins]; exact htest) ((s.chan ch).tamper.present ||| sourceBit (14 + pin.toNat))
    exact ⟨htmp.trans (by rw [hpins]), hdetecting⟩
  · intro s hrun htest
    refine .intro rfl ?_
    rw [State.finish_port_start, State.refclkLost, if_neg (by simp [hmonitored hrun])]
    extract_lets s1 one
    have hpeer (t : State) (ch : Chan) : ((one t ch).chan ch.peer).quiet = (t.chan ch.peer).quiet := State.detected_peer t ch _
    have hown {t : State} {ch : Chan} (ht : (t.chan ch).quiet = (s.chan ch).quiet) :
        ((one t ch).chan ch).tamper.detecting = (s.chan ch).tamper.present ||| sourceBit 8 := by
      have htamper : (t.chan ch).tamper = (s.chan ch).tamper := (congrArg Channel.tamper ht :)
      rw [← htamper]
      refine (State.detected_detecting ?_ _).1
      rw [Channel.eq_of_quiet ht]
      exact htest ch
    refine ⟨by simp only [one, State.detected_start]; rfl, fun ch => ?_⟩
    rw [State.finish_chan]
    cases ch
    · have hkept : ((one (one s1 .a) .b).chan .a).tamper = ((one s1 .a).chan .a).tamper :=
        (congrArg Channel.tamper (hpeer (one s1 .a) .b) :)
      rw [hkept]
      exact hown rfl
    · exact hown (hpeer s1 .a)
  · intro s ch
    refine .intro rfl ?_
    rw [State.finish_chan, State.wakeTamper]
    generalize ht : s.upd ch _ = t
    replace ht := (congrArg (·.chan ch) ht.symm).trans (State.chan_upd ..)
    dsimp only at ht ⊢
    split
    · have hd := t.respond_responded ch (sourceBit 22 &&& ~~~ (t.chan ch).underTest)
      obtain ⟨hbrine, herased, hclass⟩ := hd.erased (by rw [ht]; rfl) (by rw [ht]; rfl)
      exact ⟨hbrine, herased, hclass.trans (by rw [ht])⟩
    · rw [ht]
      exact ⟨rfl, rfl, rfl⟩
  · intro s ch
    refine .intro rfl ?_
    rw [State.finish_chan, State.brownOut, State.drawn_chan, State.chan_upd]
    dsimp only
    split <;> rfl

end Sys2Proof.Machine
end

section
/-! The queue of waiting commands (O1, O3, O4): every operation of the model leaves it, and every command answers a next state. -/

namespace Sys2Proof.Machine

@[simp] theorem State.ite_pending (p : Prop) [Decidable p] (t u : State) :
    (if p then t else u).pending = if p then t.pending else u.pending := apply_ite State.pending p t u

@[simp] theorem State.foldl_pending {α : Type} {f : State → α → State} (hf : ∀ t x, (f t x).pending = t.pending) (l : List α)
    (s : State) : (l.foldl f s).pending = s.pending := foldl_keeps State.pending hf l s

/-! ### The writes of the state -/

@[simp] theorem State.hostLine_pending (s : State) (f addr : Nat) (line : Bytes) :
    (s.hostLine f addr line).pending = s.pending := by simp [State.hostLine]
@[simp] theorem State.drawn_pending (s : State) : s.drawn.pending = s.pending := rfl

/-! ### Errors, events and interrupts -/

@[simp] theorem State.raise_pending (s : State) (f v : Nat) : (s.raise f v).pending = s.pending := by simp [State.raise]
@[simp] theorem State.raiseError_pending (s : State) (f : Nat) :
    (s.raiseError f).pending = s.pending := by simp [State.raiseError]
@[simp] theorem State.fnErr_pending (s : State) (f : Nat) (e : FnErr) :
    (s.fnErr f e).pending = s.pending := by simp [State.fnErr]
@[simp] theorem State.errCause_pending (s : State) (e : ErrCause) :
    (s.errCause e).pending = s.pending := by simp [State.errCause]
@[simp] theorem State.devEvent_pending (s : State) (f : Global → Global) :
    (s.devEvent f).pending = s.pending := by simp [State.devEvent]
@[simp] theorem State.dmaFault_pending (s : State) (f kind q addr : Nat) (part : Bool) :
    (s.dmaFault f kind q addr part).pending = s.pending := by simp [State.dmaFault]
@[simp] theorem State.signal_pending (s : State) (q : Nat) : (s.signal q).pending = s.pending := by simp [State.signal]
@[simp] theorem State.moderate_pending (s : State) (q : Nat) : (s.moderate q).pending = s.pending := by simp [State.moderate]
@[simp] theorem State.drain_pending (s : State) : s.drain.pending = s.pending := rfl

/-! ### The way out (R58 to R69) -/

@[simp] theorem State.emit_pending (s : State) (e : Egress) : (s.emit e).pending = s.pending := by simp [State.emit]
@[simp] theorem State.requestReset_pending (s : State) (fns : List Nat) (all egress : Bool) :
    (s.requestReset fns all egress).pending = s.pending := by simp [State.requestReset]
@[simp] theorem State.hold_pending (s : State) (e : Egress) : (s.hold e).pending = s.pending := by simp [State.hold]
@[simp] theorem State.send_pending (s : State) (e : Egress) : (s.send e).pending = s.pending := by simp [State.send]
@[simp] theorem State.sendOwn_pending (s : State) (x : Header) (n : Nat) (code : Code) (detail : BitVec 4) :
    (s.sendOwn x n code detail).pending = s.pending := by simp [State.sendOwn]
@[simp] theorem State.sendRecord_pending (s : State) (r : CompRec) (tag : BitVec 2) (single : Bool) :
    (s.sendRecord r tag single).pending = s.pending := by simp [State.sendRecord]

@[simp] theorem State.drainPassing_pending (s : State) (n : Nat) : (s.drainPassing n).pending = s.pending := by
  induction n generalizing s with
  | zero => rfl
  | succ n ih =>
    unfold State.drainPassing
    (repeat' split) <;> simp [ih]

@[simp] theorem State.holdPassing_pending (s : State) (f : Nat) :
    (s.holdPassing f).pending = s.pending := by simp [State.holdPassing]
@[simp] theorem State.release_pending (s : State) (q : Nat) : (s.release q).pending = s.pending := by simp [State.release]
@[simp] theorem State.releaseWaiting_pending (s : State) :
    s.releaseWaiting.pending = s.pending := by simp [State.releaseWaiting]
@[simp] theorem State.releaseFn_pending (s : State) (f : Nat) :
    (s.releaseFn f).pending = s.pending := by simp [State.releaseFn]
@[simp] theorem State.intakeDrop_pending (s : State) (f cause : Nat) (q : BitVec 16) (attributed : Bool) :
    (Machine.intakeDrop s f cause q attributed).pending = s.pending := by simp [Machine.intakeDrop]
@[simp] theorem State.writeCqHead_pending (s : State) (f : Nat) (v : Word) :
    (s.writeCqHead f v).pending = s.pending := by simp [State.writeCqHead]

/-! ### The assay (R304 to R325) -/

@[simp] theorem State.writeOffOne_pending (s : State) (x : Chan) (o : Outst) : (s.writeOffOne x o).pending = s.pending := by
  unfold State.writeOffOne
  dsimp only
  (repeat' split) <;> simp

@[simp] theorem State.soloFault_pending (s : State) (x : Chan) : (s.soloFault x).pending = s.pending := rfl
@[simp] theorem State.probeOver_pending (s : State) : s.probeOver.pending = s.pending := by simp [State.probeOver]
@[simp] theorem State.probeFrom_pending (s : State) (n : Nat) : (s.probeFrom n).pending = s.pending := rfl

@[simp] theorem State.writeHeldRng_pending (s : State) (x : Chan) : (s.writeHeldRng x).pending = s.pending := by
  refine foldl_keeps State.pending (fun t o => ?_) _ s
  split <;> simp

@[simp] theorem State.retire_pending (s : State) (x : Chan) (cause : Nat) :
    (s.retire x cause).pending = s.pending := by simp [State.retire]
@[simp] theorem State.inTime_pending (s : State) (ch : Chan) (cls : BitVec 3) :
    (s.inTime ch cls).pending = s.pending := by simp [State.inTime]
@[simp] theorem State.late_pending (s : State) (ch : Chan) (cls : BitVec 3) :
    (s.late ch cls).pending = s.pending := by simp [State.late]
@[simp] theorem State.verdict_pending (s : State) (x : Chan) (v cause : Nat) :
    (s.verdict x v cause).pending = s.pending := by simp [State.verdict]

@[simp] theorem State.discord_pending (s : State) (o : Outst) : (s.discord o).pending = s.pending := by
  unfold State.discord
  dsimp only
  (repeat' split) <;> simp

@[simp] theorem State.probeVerdict_pending (s : State) (r : Resolve) (o : Outst) :
    (s.probeVerdict r o).pending = s.pending := by simp [State.probeVerdict]

@[simp] theorem State.tryProbe_pending (s : State) : s.tryProbe.pending = s.pending := by
  unfold State.tryProbe
  (repeat' split) <;> simp

@[simp] theorem State.keepGot_pending (s : State) (ch : Chan) (o : Outst) (r : CompRec) :
    (s.keepGot ch o r).pending = s.pending := rfl
@[simp] theorem State.firstArrival_pending (s : State) (ch : Chan) (o : Outst) (r : CompRec) :
    (s.firstArrival ch o r).pending = s.pending := by simp [State.firstArrival]

@[simp] theorem State.secondArrival_pending (s : State) (ch : Chan) (o : Outst) (x y : CompRec) :
    (s.secondArrival ch o x y).pending = s.pending := by
  unfold State.secondArrival
  dsimp only
  split <;> simp

@[simp] theorem State.portArrive_pending (s : State) (ch : Chan) (r : CompRec) :
    (s.portArrive ch r).pending = s.pending := by
  unfold State.portArrive
  (repeat' split) <;> simp

@[simp] theorem State.takeReport_pending (s : State) (ch : Chan) : (s.takeReport ch).pending = s.pending := by
  unfold State.takeReport
  split <;> simp

@[simp] theorem State.retireTogether_pending (s : State) (a b : Bool) (cause : Nat) :
    (s.retireTogether a b cause).pending = s.pending := by
  unfold State.retireTogether
  split <;> simp

@[simp] theorem State.judgeNow_pending (s : State) : s.judgeNow.pending = s.pending := by simp [State.judgeNow]
@[simp] theorem State.judge_pending (s : State) : s.judge.pending = s.pending := by simp [State.judge]

@[simp] theorem State.takeFault_pending (s : State) (ch : Chan) : (s.takeFault ch).1.pending = s.pending := by
  unfold State.takeFault
  dsimp only
  split <;> simp

@[simp] theorem State.writeLost_pending (s : State) (ch : Chan) :
    (s.writeLost ch).pending = s.pending := by simp [State.writeLost]

@[simp] theorem State.takeFaults_pending (s : State) (ch : Chan) (n : Nat) : (s.takeFaults ch n).pending = s.pending := by
  induction n generalizing s with
  | zero => rfl
  | succ n ih => simp [State.takeFaults, ih]

@[simp] theorem State.reportFirst_pending (s : State) (ch : Chan) (r : CompRec) :
    (s.reportFirst ch r).pending = s.pending := by simp [State.reportFirst]

@[simp] theorem State.arrive_pending (s : State) (ch : Chan) : (s.arrive ch).pending = s.pending := by
  unfold State.arrive
  (repeat' split) <;> simp

@[simp] theorem State.arrivals_pending (s : State) (who : Arrivals) : (s.arrivals who).pending = s.pending := by
  unfold State.arrivals
  split <;> simp

@[simp] theorem State.expire_pending (s : State) (o : Outst) (r : CompRec) (x : Chan) :
    (windowExpiry.expire s o r x).pending = s.pending := by simp [State.windowExpiry.expire]

@[simp] theorem State.windowExpiry_pending (s : State) (o : Outst) : (s.windowExpiry o).pending = s.pending := by
  unfold State.windowExpiry
  split <;> simp

/-! ### Commits, the access control unit and intake (R54, R352, R423) -/

@[simp] theorem State.commitBlock_pending {α : Type} [BEq α] (s : State) (shadow : Channel → α)
    (f g : Channel → Channel) (keep : Channel → Kept → Kept) : (s.commitBlock shadow f g keep).1.pending = s.pending := by
  unfold State.commitBlock
  split_ifs <;> simp

@[simp] theorem State.applyBlock_pending (s : State) (m : Nat) : (s.applyBlock m).1.pending = s.pending := by
  unfold State.applyBlock
  split <;> simp

@[simp] theorem State.applyCommit_pending (s : State) (c : Commit) : (s.applyCommit c).pending = s.pending := by
  have hblocks := foldl_keeps (fun r : State × Nat => r.1.pending) (f := fun r m => if c.mask.getLsbD m then
    ((r.1.applyBlock m).1, if (r.1.applyBlock m).2 then r.2 + 2 ^ m else r.2) else r)
    (fun r m => by split <;> simp) (List.range 7) (s, 0)
  unfold State.applyCommit
  extract_lets r g g' t
  split <;> simpa [t] using hblocks

@[simp] theorem State.applyCommits_pending (s : State) : s.applyCommits.pending = s.pending := by simp [State.applyCommits]
@[simp] theorem State.writeCommit_pending (s : State) (v : Word) :
    (s.writeCommit v).pending = s.pending := by simp [State.writeCommit]
@[simp] theorem State.shadowWrite_pending (s : State) (m : Nat) {f : State → State} (hf : (f s).pending = s.pending) :
    (s.shadowWrite m f).pending = s.pending := by simp [State.shadowWrite, hf]

@[simp] theorem State.acuEnable_pending (s : State) (f : Nat) : (s.acuEnable f).pending = s.pending := by
  unfold State.acuEnable
  dsimp only
  split <;> simp

@[simp] theorem State.acuDisable_pending (s : State) (f : Nat) :
    (s.acuDisable f).pending = s.pending := by simp [State.acuDisable]
@[simp] theorem State.acuDrained_pending (s : State) (f : Nat) : (s.acuDrained f).pending = s.pending :=
  State.updPort_pending ..
@[simp] theorem State.vfSeen_pending (s : State) (f : Nat) : (s.vfSeen f).pending = s.pending := by simp [State.vfSeen]
@[simp] theorem State.hostAccess_pending (s : State) (x : Tlp) {f : State → State}
    (hf : ∀ t : State, (f t).pending = t.pending) : (s.hostAccess x f).pending = s.pending := by simp [State.hostAccess, hf]
@[simp] theorem State.fanOut_pending (s : State) (k : Packet) : (s.fanOut k).pending = s.pending := by simp [State.fanOut]
@[simp] theorem State.accept_pending (s : State) (k : Packet) : (s.accept k).pending = s.pending := by simp [State.accept]

@[simp] theorem State.resumeIntake_pending (s : State) (n : Nat) : (s.resumeIntake n).pending = s.pending := by
  induction n generalizing s with
  | zero => rfl
  | succ n ih =>
    unfold State.resumeIntake
    (repeat' split) <;> simp [ih]

@[simp] theorem State.drop_pending (s : State) (f cause : Nat) (q : BitVec 16) :
    (s.drop f cause q).pending = s.pending := by simp [State.drop]

@[simp] theorem State.attributed_pending (s : State) (x : Header) (pad size : Bool)
    {payload : State → State × Option Bytes} (hp : ∀ t : State, (payload t).1.pending = t.pending) :
    (s.attributed x pad size payload).pending = s.pending := by
  unfold State.attributed
  extract_lets q x s1
  have hpayload : (payload s1).1.pending = s.pending := hp s1
  split
  · simp [s1]
  · split <;> rename_i heq <;> rw [heq] at hpayload <;> simpa using hpayload

@[simp] theorem State.doorbell_pending (s : State) (f offset : Nat) (data : Bytes) :
    (s.doorbell f offset data).pending = s.pending := by
  unfold State.doorbell
  dsimp only
  (repeat' split) <;> simp

@[simp] theorem State.fetchPayload_pending (s : State) (f : Nat) (x : Header) (entry : Bytes) (payload : Option Bytes) :
    (s.fetchPayload f x entry payload).1.pending = s.pending := by
  unfold State.fetchPayload
  dsimp only
  (repeat' split) <;> simp

@[simp] theorem State.fetched_pending (s : State) (queue : BitVec 16) (ide : Option (BitVec 6)) (entry : Bytes)
    (payload : Option Bytes) : (s.fetched queue ide entry payload).pending = s.pending := by
  unfold State.fetched
  dsimp only
  (repeat' split) <;> simp

@[simp] theorem State.writeRingTail_pending (s : State) (f : Nat) (v : Word) :
    (s.writeRingTail f v).pending = s.pending := by simp [State.writeRingTail]

/-! ### The register interface (R415 to R426) -/

@[simp] theorem State.writeWindow_pending (s : State) (f n j : Nat) (v : Word) :
    (s.writeWindow f n j v).pending = s.pending := by simp [State.writeWindow]
@[simp] theorem State.writeIndLo_pending (s : State) (v : Word) : (s.writeIndLo v).pending = s.pending :=
  State.updPort_pending ..
@[simp] theorem State.writeIndHi_pending (s : State) (v : Word) : (s.writeIndHi v).pending = s.pending :=
  State.updPort_pending ..
@[simp] theorem State.indErr_pending (s : State) (f : Global → Global) :
    (s.indErr f).pending = s.pending := by simp [State.indErr]

@[simp] theorem State.indRead_pending (s : State) (w : IndWord) : (s.indRead w).2.pending = s.pending := by
  unfold State.indRead
  split <;> simp

@[simp] theorem State.indWrite_pending (s : State) (w : IndWord) (v : Word) : (s.indWrite w v).pending = s.pending := by
  have hshadow (m : Nat) (g : State → PortDie → PortDie) : (s.shadowWrite m fun t => t.updPort (g t)).pending = s.pending :=
    State.shadowWrite_pending s m rfl
  unfold State.indWrite
  (repeat' split) <;> simp [hshadow]

@[simp] theorem State.indAccess_pending (s : State) (w : Option Word) : (s.indAccess w).2.pending = s.pending := by
  unfold State.indAccess
  dsimp only
  (repeat' split) <;> simp

@[simp] theorem State.devRead_pending (s : State) (o : Nat) : (s.devRead o).2.pending = s.pending := by
  unfold State.devRead
  (repeat' split) <;> simp

@[simp] theorem State.devWrite_pending (s : State) (o : Nat) (v : Word) : (s.devWrite o v).pending = s.pending := by
  have hshadow (m : Nat) (g : State → PortDie → PortDie) : (s.shadowWrite m fun t => t.updPort (g t)).pending = s.pending :=
    State.shadowWrite_pending s m rfl
  unfold State.devWrite
  (repeat' split) <;> simp [hshadow]

@[simp] theorem State.readWord_pending (s : State) (f : Nat) (bar : Bar) (o : Nat) :
    (s.readWord f bar o).2.pending = s.pending := by
  unfold State.readWord
  (repeat' split) <;> simp

@[simp] theorem State.writeMsix_pending (s : State) (f o : Nat) (v : Word) :
    (s.writeMsix f o v).pending = s.pending := by simp [State.writeMsix]

@[simp] theorem State.writeWord_pending (s : State) (f : Nat) (bar : Bar) (o : Nat) (v : Word) :
    (s.writeWord f bar o v).pending = s.pending := by
  unfold State.writeWord
  (repeat' split) <;> simp

@[simp] theorem State.accessError_pending (s : State) (f : Nat) :
    (s.accessError f).pending = s.pending := by simp [State.accessError]

@[simp] theorem State.readWords_pending (s : State) (f : Nat) (bar : Bar) (o n : Nat) :
    (s.readWords f bar o n).2.pending = s.pending := by
  induction n generalizing s o with
  | zero => rfl
  | succ n ih => simp [State.readWords, ih]

@[simp] theorem State.writeWords_pending (s : State) (f : Nat) (bar : Bar) (o : Nat) (l : List Word) :
    (s.writeWords f bar o l).pending = s.pending := by
  induction l generalizing s o with
  | nil => rfl
  | cons v l ih => simp [State.writeWords, ih]

@[simp] theorem State.hostRead_pending (s : State) (f : Nat) (bar : Bar) (o n : Nat) (enables : Bool) :
    (s.hostRead f bar o n enables).pending = s.pending := by simp [State.hostRead]
@[simp] theorem State.hostWrite_pending (s : State) (f : Nat) (bar : Bar) (o : Nat) (data : List Word) (enables : Bool) :
    (s.hostWrite f bar o data enables).pending = s.pending := by simp [State.hostWrite]

/-! ### The events of a channel (R311, R364, R368) -/

@[simp] theorem State.sluiceMsg_pending (s : State) (ch : Chan) (m : SluiceMsg) :
    (s.sluiceMsg ch m).pending = s.pending := by simp [State.sluiceMsg]
@[simp] theorem State.respond_pending (s : State) (ch : Chan) (src : BitVec 23) : (s.respond ch src).pending = s.pending :=
  (StaysIn.respond ch s src).pending
@[simp] theorem State.detected_pending (s : State) (ch : Chan) (v : BitVec 23) : (s.detected ch v).pending = s.pending :=
  ((StaysIn.refl ch s).detected v).pending
@[simp] theorem State.tamperOne_pending (s : State) (ch : Chan) (n : Nat) : (s.tamperOne ch n).pending = s.pending :=
  ((StaysIn.refl ch s).tamperOne n).pending
@[simp] theorem State.tamper_pending (s : State) (ch : Chan) (src : BitVec 23) : (s.tamper ch src).pending = s.pending :=
  (StaysIn.tamper ch s src).pending
@[simp] theorem State.orderAlert_pending (s : State) (ch : Chan) : (s.orderAlert ch).pending = s.pending := rfl
@[simp] theorem State.wakeTamper_pending (s : State) (ch : Chan) : (s.wakeTamper ch).pending = s.pending :=
  (StaysIn.wakeTamper ch s).pending
@[simp] theorem State.outlasted_pending (s : State) (ch : Chan) :
    (s.outlasted ch).pending = s.pending := by simp [State.outlasted]
@[simp] theorem State.brownOut_pending (s : State) (ch : Chan) : (s.brownOut ch).pending = s.pending := State.upd_pending ..
@[simp] theorem State.setPins_pending (s : State) (ch : Chan) (p : BitVec 4) : (s.setPins ch p).pending = s.pending :=
  State.upd_pending ..

@[simp] theorem State.peerL5_pending (s : State) (ch : Chan) : (s.peerL5 ch).pending = s.pending := by
  unfold State.peerL5
  split
  · rfl
  · extract_lets s1 s2 c done level union c' s3 s4
    have h2 : s2.pending = s.pending := State.upd_pending ..
    have h4 : s4.pending = s.pending := by simp [s4, s3, h2]
    split_ifs <;> simp [h2, h4]

@[simp] theorem State.refclkLost_pending (s : State) : s.refclkLost.pending = s.pending := by simp [State.refclkLost]

@[simp] theorem State.operate_pending (s : State) (o : Op) (ch : Chan) (st : OpStep) :
    (s.operate o ch st).pending = s.pending := by
  unfold State.operate
  split <;> simp

@[simp] theorem State.onDigests_pending (s : State) (ch : Chan) (f : Digests → Digests) :
    (s.onDigests ch f).pending = s.pending := State.upd_pending ..

@[simp] theorem State.waitExpiry_pending (s : State) (ch : Chan) (id : Nat) : (s.waitExpiry ch id).pending = s.pending := by
  unfold State.waitExpiry
  dsimp only
  (repeat' split) <;> simp

@[simp] theorem State.applyWait_pending (s : State) (n : Nat) : (s.applyWait n).pending = s.pending := by
  unfold State.applyWait
  (repeat' split) <;> simp

@[simp] theorem State.exhaustReport_pending (s : State) (ch : Chan) (slot : Nat) :
    (s.exhaustReport ch slot).pending = s.pending := by
  unfold State.exhaustReport
  split <;> simp

@[simp] theorem State.rngTestEnd_pending (s : State) (ch : Chan) (pass : Bool) :
    (s.rngTestEnd ch pass).pending = s.pending := by simp [State.rngTestEnd]

/-! ### Epochs (R288 to R303) -/

@[simp] theorem State.contribution_pending (s : State) (ch : Chan) : (s.contribution ch).pending = s.pending := by
  unfold State.contribution
  dsimp only
  (repeat' split) <;> simp

@[simp] theorem State.formAlone_pending (s : State) (ch : Chan) :
    (s.formAlone ch).pending = s.pending := by simp [State.formAlone]
@[simp] theorem State.fixEpoch_pending (s : State) : s.fixEpoch.pending = s.pending := by simp [State.fixEpoch]
@[simp] theorem State.epochMismatch_pending (s : State) :
    s.epochMismatch.pending = s.pending := by simp [State.epochMismatch]
@[simp] theorem State.epochChecks_pending (s : State) : s.epochChecks.pending = s.pending := by simp [State.epochChecks]
@[simp] theorem State.epochClear_pending (s : State) : s.epochClear.pending = s.pending := by simp [State.epochClear]

@[simp] theorem State.epochRetry_pending (s : State) : s.epochRetry.pending = s.pending := by
  unfold State.epochRetry
  split <;> simp

/-! ### Kerral messages (R392 to R405) -/

@[simp] theorem State.onMgmt_pending (s : State) (f : Mgmt → Mgmt) : (s.onMgmt f).pending = s.pending := rfl
@[simp] theorem State.updMsg_pending (s : State) (n : Nat) (f : KerralMsg → KerralMsg) : (s.updMsg n f).pending = s.pending :=
  rfl
@[simp] theorem State.complete_pending (s : State) (m : KerralMsg) (result effect : Nat) (data : Bytes) :
    (s.complete m result effect data).pending = s.pending := by simp [State.complete]
@[simp] theorem State.countMgmtDraw_pending (s : State) (n : Nat) :
    (s.countMgmtDraw n).pending = s.pending := by simp [State.countMgmtDraw]

@[simp] theorem State.mgmtDiscord_pending (s : State) : s.mgmtDiscord.pending = s.pending := by
  unfold State.mgmtDiscord
  split <;> simp

@[simp] theorem State.agreed_pending {α : Type} [BEq α] (s : State) (f : Channel → α) :
    (s.agreed f).1.pending = s.pending := by
  unfold State.agreed
  (repeat' split) <;> simp

@[simp] theorem State.giveNonce_pending (s : State) (m : KerralMsg) : (s.giveNonce m).pending = s.pending := by
  unfold State.giveNonce
  split <;> simp

@[simp] theorem State.openCeremony_pending (s : State) (m : KerralMsg) : (s.openCeremony m).pending = s.pending := by
  unfold State.openCeremony
  split <;> simp

@[simp] theorem State.hostBytes_pending (s : State) (f addr : Nat) (bs : Bytes) :
    (s.hostBytes f addr bs).pending = s.pending := foldl_keeps State.pending (fun _ _ => State.hostLine_pending ..) _ s

@[simp] theorem State.perform_pending (s : State) (m : KerralMsg) : (s.perform m).pending = s.pending := by
  unfold State.perform
  dsimp only
  (repeat' split) <;> simp

@[simp] theorem State.spendNonce_pending (s : State) (m : KerralMsg) (v : Nat) :
    (s.spendNonce m v).pending = s.pending := by simp [State.spendNonce]
@[simp] theorem State.dropCeremony_pending (s : State) (m : KerralMsg) (v : Nat) :
    (s.dropCeremony m v).pending = s.pending := by simp [State.dropCeremony]
@[simp] theorem State.verifies_pending (s : State) (m : KerralMsg) (v : Nat) :
    (s.verifies m v).pending = s.pending := by simp [State.verifies]

@[simp] theorem State.startMsg_pending (s : State) (m : KerralMsg) : (s.startMsg m).pending = s.pending := by
  unfold State.startMsg
  dsimp only
  (repeat' split) <;> simp

@[simp] theorem State.pump_pending (s : State) (n : Nat) : (s.pump n).pending = s.pending := by
  induction n generalizing s with
  | zero => rfl
  | succ n ih =>
    unfold State.pump
    split <;> simp [ih]

@[simp] theorem State.kerralIn_pending (s : State) (code : Nat) (m : Kerral) (image : Bytes) :
    (s.kerralIn code m image).pending = s.pending := by simp [State.kerralIn]
@[simp] theorem State.completeChange_pending (s : State) (m : KerralMsg) (r : Nat × Bytes) (effect : Nat) :
    (s.completeChange m r effect).pending = s.pending := by simp [State.completeChange]
@[simp] theorem State.provision_pending (s : State) (n : Nat) (l : List (Nat × Officer)) :
    (s.provision n l).pending = s.pending := by simp [State.provision]

@[simp] theorem State.applyChange_pending (s : State) (m : KerralMsg) (x : Change) :
    (s.applyChange m x).pending = s.pending := by
  unfold State.applyChange
  dsimp only
  (repeat' split) <;> simp

@[simp] theorem State.queueDestroy_pending (s : State) (x : Change) : (s.queueDestroy x).pending = s.pending := by
  unfold State.queueDestroy
  split <;> simp

@[simp] theorem State.provisionDone_pending (s : State) : s.provisionDone.pending = s.pending := by
  unfold State.provisionDone
  split <;> simp

@[simp] theorem State.kerralBoundary_pending (s : State) : s.kerralBoundary.pending = s.pending := by
  unfold State.kerralBoundary
  dsimp only
  (repeat' split) <;> simp

@[simp] theorem State.fenceHold_pending (s : State) (ch : Chan) : (s.fenceHold ch).pending = s.pending := by
  unfold State.fenceHold
  (repeat' split) <;> simp

@[simp] theorem State.fenceReport_pending (s : State) (ch : Chan) : (s.fenceReport ch).pending = s.pending := by
  unfold State.fenceReport
  split <;> simp

@[simp] theorem State.fenceApply_pending (s : State) (ch : Chan) : (s.fenceApply ch).pending = s.pending := by
  unfold State.fenceApply
  (repeat' split) <;> simp

@[simp] theorem State.kerralRespond_pending (s : State) : s.kerralRespond.pending = s.pending := by
  unfold State.kerralRespond
  (repeat' split) <;> simp

/-! ### Other management (R385, R387) -/

@[simp] theorem State.answer_pending (s : State) (v : Via) (type : BitVec 7) (kind : Nat) (content : Bytes) :
    (s.answer v type kind content).pending = s.pending := rfl
@[simp] theorem State.onSpdm_pending (s : State) (f : Spdm → Spdm) : (s.onSpdm f).pending = s.pending :=
  State.updPort_pending ..
@[simp] theorem State.dropLong_pending (s : State) (t : BitVec 7) : (s.dropLong t).pending = s.pending :=
  State.updPort_pending ..
@[simp] theorem State.spdmAnswer_pending (s : State) (v : Via) (ok : Bool) (kind : Nat) (content : Bytes) :
    (s.spdmAnswer v ok kind content).pending = s.pending := by simp [State.spdmAnswer]

@[simp] theorem State.spdm_pending (s : State) (v : Via) (body : Bytes) {f : Chan → State → State}
    (hf : ∀ ch, (f ch s).pending = s.pending) : (s.spdm v body f).pending = s.pending := by
  unfold State.spdm
  (repeat' split) <;> simp [hf]

@[simp] theorem State.spdmIn_pending (s : State) (v : Via) (ok : SpdmSession → Bool) (kind : Nat) (body : Bytes)
    (f : Spdm → Nat → Spdm) : (s.spdmIn v ok kind body f).pending = s.pending := by
  refine State.spdm_pending s v body fun ch => ?_
  split <;> simp

@[simp] theorem State.update_pending (s : State) (image : Bytes) :
    (s.update image).pending = s.pending := by simp [State.update]

/-! ### Function resets (R346 to R348) -/

@[simp] theorem State.flr_pending (s : State) (f : Nat) : (s.flr f).pending = s.pending := by simp [State.flr]
@[simp] theorem State.resetBoundaryR_pending (s : State) :
    s.resetBoundaryR.pending = s.pending := by simp [State.resetBoundaryR]

@[simp] theorem State.resetListIn_pending (s : State) (ch : Chan) : (s.resetListIn ch).pending = s.pending := by
  unfold State.resetListIn
  dsimp only
  split <;> simp

@[simp] theorem State.resetLate_pending (s : State) : s.resetLate.pending = s.pending := by simp [State.resetLate]

@[simp] theorem State.resetBoundaryV_pending (s : State) : s.resetBoundaryV.pending = s.pending := by
  refine foldl_keeps State.pending (fun t r => ?_) _ s
  simp

/-! ### Security version numbers and the sluice session (R22, R278 to R282) -/

@[simp] theorem State.svnStart_pending (s : State) (ch : Chan) : (s.svnStart ch).pending = s.pending :=
  (StaysIn.svnStart ch s).pending

@[simp] theorem State.endSvn_pending (s : State) (result : Nat) : (s.endSvn result).pending = s.pending := by
  unfold State.endSvn
  dsimp only
  (repeat' split) <;> simp

@[simp] theorem State.svnDone_pending (s : State) : s.svnDone.pending = s.pending := by
  unfold State.svnDone
  split <;> simp

@[simp] theorem State.matchRungs_pending (s : State) (x y : RootCopy) :
    (s.matchRungs x y).pending = s.pending := by simp [State.matchRungs]

@[simp] theorem State.repairRungs_pending (s : State) : s.repairRungs.pending = s.pending := by
  unfold State.repairRungs
  dsimp only
  (repeat' split) <;> simp

@[simp] theorem State.endSluice_pending (s : State) : s.endSluice.pending = s.pending := rfl
@[simp] theorem State.sluiceTag_pending (s : State) (ch : Chan) :
    (s.sluiceTag ch).pending = s.pending := by simp [State.sluiceTag]
@[simp] theorem State.present_pending (s : State) : s.present.pending = s.pending := rfl
@[simp] theorem State.openSluice_pending (s : State) (n : Nat) : (s.openSluice n).pending = s.pending := rfl
@[simp] theorem State.reconcile_pending (s : State) : s.reconcile.pending = s.pending := by simp [State.reconcile]
@[simp] theorem State.beginRefill_pending (s : State) (x : Chan) :
    (s.beginRefill x).pending = s.pending := by simp [State.beginRefill]
@[simp] theorem State.staysOut_pending (s : State) (ch : Chan) (v : StartStep) :
    (s.staysOut ch v).pending = s.pending := by simp [State.staysOut]
@[simp] theorem State.agreement_pending (s : State) : s.agreement.pending = s.pending := by simp [State.agreement]

/-! ### Refill and join (R323 to R329) -/

@[simp] theorem State.refillAt_pending (s : State) (ok : RefillStep → Bool) {f : Chan → State}
    (hf : ∀ x, (f x).pending = s.pending) : (s.refillAt ok f).pending = s.pending := by
  unfold State.refillAt
  (repeat' split) <;> simp [hf]

@[simp] theorem State.repair_pending (s : State) (x : Chan) : (s.repair x).pending = s.pending := by simp [State.repair]
@[simp] theorem State.switchFull_pending (s : State) (x : Chan) :
    (s.switchFull x).pending = s.pending := by simp [State.switchFull]

@[simp] theorem State.nextDelta_pending (s : State) (x : Chan) : (s.nextDelta x).pending = s.pending := by
  unfold State.nextDelta
  (repeat' split) <;> simp

@[simp] theorem State.regionImage_pending (s : State) (x : Chan) :
    (s.regionImage x).pending = s.pending := by simp [State.regionImage]

@[simp] theorem State.shareEpochs_pending (s : State) : s.shareEpochs.pending = s.pending := by
  unfold State.shareEpochs
  split <;> simp

@[simp] theorem State.joinCapTide_pending (s : State) : s.joinCapTide.pending = s.pending := by simp [State.joinCapTide]
@[simp] theorem State.joinCapStep_pending (s : State) : s.joinCapStep.pending = s.pending := by simp [State.joinCapStep]
@[simp] theorem State.shareEbb_pending (s : State) : s.shareEbb.pending = s.pending := by simp [State.shareEbb]
@[simp] theorem State.ready_pending (s : State) (x : Chan) : (s.ready x).pending = s.pending := by simp [State.ready]
@[simp] theorem State.sendAll_pending (s : State) (x : Chan) : (s.sendAll x).pending = s.pending := by simp [State.sendAll]
@[simp] theorem State.joinNow_pending (s : State) (x : Chan) (j : Nat) :
    (s.joinNow x j).pending = s.pending := by simp [State.joinNow]

@[simp] theorem State.joinTide_pending (s : State) : s.joinTide.pending = s.pending := by
  unfold State.joinTide
  split <;> simp

@[simp] theorem State.endWriters_pending (s : State) (x : Chan) :
    (s.endWriters x).pending = s.pending := by simp [State.endWriters]

@[simp] theorem State.lateDelta_pending (s : State) (x : Chan) : (s.lateDelta x).pending = s.pending := by
  unfold State.lateDelta
  split <;> simp

@[simp] theorem State.handover_pending (s : State) (x : Chan) : (s.handover x).pending = s.pending := by
  unfold State.handover
  dsimp only
  split <;> simp

@[simp] theorem State.plannedStart_pending (s : State) : s.plannedStart.pending = s.pending := by
  unfold State.plannedStart
  split <;> simp

@[simp] theorem State.drainEnd_pending (s : State) : s.drainEnd.pending = s.pending := by
  unfold State.drainEnd
  split <;> simp

/-! ### Resets and the start (R427 to R446) -/

@[simp] theorem State.serviceEnds_pending (s : State) (x : Chan) :
    (s.serviceEnds x).pending = s.pending := by simp [State.serviceEnds]

@[simp] theorem State.failActivation_pending (s : State) (x : Chan) : (s.failActivation x).pending = s.pending := by
  unfold State.failActivation
  (repeat' split) <;> simp

@[simp] theorem State.resetChannel_pending (s : State) (x : Chan) :
    (s.resetChannel x).pending = s.pending := by simp [State.resetChannel]
@[simp] theorem State.deviceReset_pending (s : State) (kept cold wakes : Bool) :
    (s.deviceReset kept cold wakes).pending = s.pending := by simp [State.deviceReset]
@[simp] theorem State.beginStart_pending (s : State) : s.beginStart.pending = s.pending := rfl
@[simp] theorem State.mapStart_pending (s : State) (f : PortStart → PortStart) : (s.mapStart f).pending = s.pending := rfl
@[simp] theorem State.portUp_pending (s : State) : s.portUp.pending = s.pending := by simp [State.portUp]

@[simp] theorem State.sleep_pending (s : State) : s.sleep.pending = s.pending := by
  unfold State.sleep
  split <;> simp

@[simp] theorem State.wakeRelease_pending (s : State) (ch : Chan) (half : Nat) :
    (s.wakeRelease ch half).pending = s.pending := by
  unfold State.wakeRelease
  extract_lets decided k s1 s2
  have h2 : s2.pending = s.pending := by simp [s2, s1]
  split <;> simp [h2]

@[simp] theorem State.lockReport_pending (s : State) (ch : Chan) : (s.lockReport ch).pending = s.pending := by
  unfold State.lockReport
  dsimp only
  (repeat' split) <;> simp

@[simp] theorem State.tideZero_pending (s : State) : s.tideZero.pending = s.pending := by simp [State.tideZero]
@[simp] theorem State.alignLater_pending (s : State) : s.alignLater.pending = s.pending := rfl
@[simp] theorem State.tideFault_pending (s : State) (ch : Chan) :
    (s.tideFault ch).pending = s.pending := by simp [State.tideFault]
@[simp] theorem State.tideBoth_pending (s : State) : s.tideBoth.pending = s.pending := by simp [State.tideBoth]

@[simp] theorem State.tideReport_pending (s : State) (a : Option (BitVec 16)) (ka : Nat) (b : Option (BitVec 16)) (kb : Nat) :
    (s.tideReport a ka b kb).pending = s.pending := by
  unfold State.tideReport
  (repeat' split) <;> simp

@[simp] theorem State.activated_pending (s : State) (ch : Chan) (outcome : Nat) :
    (s.activated ch outcome).pending = s.pending := by
  unfold State.activated
  dsimp only
  (repeat' split) <;> simp

@[simp] theorem State.imageHash_pending (s : State) (ch : Chan) (m mn : Bool) :
    (s.imageHash ch m mn).pending = s.pending := by simp [State.imageHash]
@[simp] theorem State.selfTest_pending (s : State) (ch : Chan) :
    (s.selfTest ch).pending = s.pending := by simp [State.selfTest]
@[simp] theorem State.startTestFails_pending (s : State) (ch : Chan) : (s.startTestFails ch).pending = s.pending :=
  (StaysIn.startTestFails ch s).pending
@[simp] theorem State.memoryFails_pending (s : State) (ch : Chan) : (s.memoryFails ch).pending = s.pending :=
  (StaysIn.memoryFails ch s).pending
@[simp] theorem State.joinWaitEnds_pending (s : State) (ch : Chan) :
    (s.joinWaitEnds ch).pending = s.pending := by simp [State.joinWaitEnds]

@[simp] theorem State.firstJoin_pending (s : State) : s.firstJoin.pending = s.pending := by
  unfold State.firstJoin
  split <;> simp

@[simp] theorem State.svnMessage_pending (s : State) (ch : Chan) : (s.svnMessage ch).pending = s.pending := by
  unfold State.svnMessage
  dsimp only
  (repeat' split) <;> simp

@[simp] theorem State.probeIn_pending (s : State) (ch : Chan) (wrong : Option DWord) :
    (s.probeIn ch wrong).pending = s.pending := by
  unfold State.probeIn
  (repeat' split) <;> simp

/-! ### The tide boundary and temperature (R35, R452 to R457) -/

@[simp] theorem State.hearNoise_pending (s : State) (ch : Chan) :
    (s.hearNoise ch).pending = s.pending := by simp [State.hearNoise]
@[simp] theorem State.portSteps_pending (s : State) :
    s.portSteps.pending = s.pending := by simp [State.portSteps, State.foldl_pending fun t v => State.applyWait_pending t _]
@[simp] theorem State.epochSteps_pending (s : State) : s.epochSteps.pending = s.pending := by simp [State.epochSteps]
@[simp] theorem State.portEnds_pending (s : State) : s.portEnds.pending = s.pending := by simp [State.portEnds]
@[simp] theorem State.drawCredits_pending (s : State) : s.drawCredits.pending = s.pending := rfl
@[simp] theorem State.tideBoundary_pending (s : State) : s.tideBoundary.pending = s.pending := by simp [State.tideBoundary]
@[simp] theorem State.tempSource_pending (s : State) (ch : Chan) (r : Int) :
    (s.tempSource ch r).pending = s.pending := by simp [State.tempSource]
@[simp] theorem State.temperature_pending (s : State) (ch : Chan) (r : Int) :
    (s.temperature ch r).pending = s.pending := by simp [State.temperature]

@[simp] theorem State.tripRole_pending (s : State) (ch : Chan) : (s.tripRole ch).pending = s.pending := by
  unfold State.tripRole
  split <;> simp

@[simp] theorem State.thermalDecision_pending (s : State) :
    s.thermalDecision.pending = s.pending := by simp [State.thermalDecision]

/-! ### Every command -/

/-- Every command answers a next state, and leaves the queue. -/
theorem exec_answers (c : Instr) (s : State) : ∃ t, exec c s = .next t ∧ t.pending = s.pending := by
  have keeps {t : State} (h : t.pending = s.pending) : ∃ u, (.next t : Out) = .next u ∧ u.pending = s.pending := ⟨t, rfl, h⟩
  cases c with
  | rakeJobDone ch _ _ => exact keeps ((StaysIn.rakeDone ch s _ _).finish s).pending
  | laneSelfTest ch _ _ => exact keeps ((StaysIn.laneTest ch s _ _).finish s).pending
  | digestJobDone ch _ _ => exact keeps ((StaysIn.digestDone ch s _ _).finish s).pending
  | digestKnownAnswerTest ch _ _ => exact keeps ((StaysIn.digestTest ch s _ _).finish s).pending
  | pkOperationDone ch _ _ => exact keeps ((StaysIn.pkDone ch s _ _).finish s).pending
  | backgroundSelfTest ch _ _ => exact keeps ((StaysIn.background ch s _ _).finish s).pending
  | monitorTest ch _ _ => exact keeps ((StaysIn.monitorTest ch s _ _).finish s).pending
  | tmpInAssert ch _ => exact keeps ((StaysIn.tmpIn ch s _).finish s).pending
  | fuseLoadDone ch _ => exact keeps ((StaysIn.fuseLoad ch s _).finish s).pending
  | hbmTrainingDone ch _ => exact keeps ((StaysIn.training ch s _).finish s).pending
  | assayWindowExpiry n =>
    refine keeps ((State.finish_pending ..).trans ?_)
    split <;> simp
  | probeTimeout =>
    refine keeps ((State.finish_pending ..).trans ?_)
    (repeat' split) <;> simp
  | channelFaultReport a b => cases a <;> cases b <;> exact keeps (by simp)
  | journalDeltaReceived | joinHandoverReceived | porstNAssert =>
    refine keeps ?_
    split <;> simp
  | recorderFreezeTimeout =>
    refine keeps ?_
    (repeat' split) <;> simp
  | getSensorReading v n =>
    refine keeps ((State.drawn_pending _).trans ?_)
    (repeat' split) <;> simp
  | recorderPeriodicFlush | recorderFlushDone => exact keeps rfl
  | _ => exact keeps (by simp)

/-- Settles O1: the front command is the one that runs. -/
theorem stepRunsTheFrontCommand : Obligations.StepRunsTheFrontCommand := fun _ _ => rfl

/-- Settles O3. The queue itself is log 7. -/
theorem noCommandTouchesTheQueue : Obligations.NoCommandTouchesTheQueue := by
  intro c s t hnext
  obtain ⟨u, hanswer, hkept⟩ := exec_answers c s
  rwa [← Host.Outcome.next.inj (hanswer.symm.trans hnext)]

/-- Settles O4. That a command which is not due leaves the state as it was is log 5. -/
theorem everyCommandAnswersANextState : Obligations.EveryCommandAnswersANextState := fun c s =>
  (exec_answers c s).imp fun _ h => h.1

end Sys2Proof.Machine
end

section
/-! Reports, faults and probes (O17), and the last joined channel (O18): what a retirement leaves of the assay unit and of the
channels, and which channel a judgement retires. -/

namespace Sys2Proof.Machine

/-! ### What a retirement leaves (R319, R322) -/

/-- What a retirement leaves of a channel: all but the epoch of a probe and the order of a reset. -/
def Channel.still (c : Channel) : Channel := { c with rng := { c.rng with probeTide := none }, resetOrder := false }

theorem State.probeOver_still (s : State) (ch : Chan) : (s.probeOver.chan ch).still = (s.chan ch).still := by
  simp only [State.probeOver]
  split
  · rfl
  · cases ch <;> rfl

theorem State.upd_resetOrder_still (s : State) (x ch : Chan) :
    ((s.upd x (fun c => { c with resetOrder := true })).chan ch).still = (s.chan ch).still := by
  cases x <;> cases ch <;> rfl

@[simp] theorem State.soloFault_assay (s : State) (x : Chan) :
    (s.soloFault x).port.assay = { s.port.assay with soloFault := true } := PortDie.record_assay ..

/-- The assay unit at a retirement of `x`, which is not the last channel in service. -/
def Assay.retired (y : Assay) (x : Chan) (cause tide : Nat) : Assay :=
  let y := (y.setSt x .retired).logRetire x cause tide
  { y with runA := 0#5, runB := 0#5, resolve := none, lostDue := y.lostDue ++ [(x == Chan.b, tide + 2)], planned := none }

/-- A retirement of a channel that is not the last in service: the assay unit and the channels before the writing off. -/
theorem State.retire_of_not_last {s : State} {x : Chan} (cause : Nat) (hx : s.port.serving x = true)
    (hlast : (!s.port.joined x.peer && (s.port.joined x || !s.port.serving x.peer)) = false) :
    ∃ u, WayOut u (s.retire x cause) ∧ u.port.assay = s.port.assay.retired x cause s.port.tide
      ∧ ∀ ch, (u.chan ch).still = (s.chan ch).still := by
  unfold State.retire
  rw [if_neg (by simp [hx]), if_neg (by simp [hlast])]
  extract_lets s1 p1 y1 y2 p2 _ _ p3 s2 s3 s4
  have hp1 : p1 = s.port := s.probeOver_port
  have hp2 : p2.assay = y2 := PortDie.record_assay ..
  refine ⟨s4, (WayOut.foldl (fun s o => .writeOffOne s x o) _ s4).trans (.updPort _ rfl), ?_, fun ch => ?_⟩
  · rw [State.upd_port, (WayOut.devEvent s2 _).assay]
    refine hp2.trans ?_
    rw [Assay.retired, ← hp1]
  · rw [State.upd_resetOrder_still, (WayOut.devEvent s2 _).chan]
    exact s.probeOver_still ch

theorem State.retire_parts (s : State) (x : Chan) (cause : Nat) :
    s.retire x cause = s ∨ s.retire x cause = (s.soloFault x).writeHeldRng x
      ∨ ∃ u, WayOut u (s.retire x cause) ∧ u.port.assay = s.port.assay.retired x cause s.port.tide
        ∧ ∀ ch, (u.chan ch).still = (s.chan ch).still := by
  by_cases hx : s.port.serving x = true
  · cases hlast : !s.port.joined x.peer && (s.port.joined x || !s.port.serving x.peer) with
    | true => exact .inr (.inl (by rw [State.retire, if_neg (by simp [hx]), if_pos hlast]))
    | false => exact .inr (.inr (State.retire_of_not_last cause hx hlast))
  · exact .inl (by rw [State.retire, if_pos (by simp [hx])])

@[simp] theorem State.retire_still (s : State) (x : Chan) (cause : Nat) (ch : Chan) :
    ((s.retire x cause).chan ch).still = (s.chan ch).still := by
  rcases s.retire_parts x cause with h | h | ⟨u, hway, -, hstill⟩
  · rw [h]
  · rw [h, (WayOut.writeHeldRng _ x).chan]
    rfl
  · rw [hway.chan, hstill]

theorem State.retire_assay {s : State} {x : Chan} (cause : Nat) (hx : s.port.serving x = true)
    (hpeer : s.port.joined x.peer = true) :
    (s.retire x cause).port.assay = s.port.assay.retired x cause s.port.tide := by
  obtain ⟨u, hway, hassay, -⟩ := State.retire_of_not_last cause hx (by simp [hpeer])
  rw [hway.assay, hassay]

/-- What the port die holds of the channels' reports. -/
def Assay.heard (y : Assay) : (Word × Byte × Option Nat) × (Word × Byte × Option Nat) :=
  ((y.healthA, y.scoreA, y.reportA), (y.healthB, y.scoreB, y.reportB))

theorem Assay.logRetire_heard (y : Assay) (x : Chan) (cause tide : Nat) : (y.logRetire x cause tide).heard = y.heard := by
  unfold Assay.logRetire
  split <;> rfl

theorem Assay.retired_heard (y : Assay) (x : Chan) (cause tide : Nat) : (y.retired x cause tide).heard = y.heard := by
  have hlog : (y.retired x cause tide).heard = (y.setSt x .retired).heard := Assay.logRetire_heard ..
  rw [hlog]
  cases x <;> rfl

@[simp] theorem State.retire_heard (s : State) (x : Chan) (cause : Nat) :
    (s.retire x cause).port.assay.heard = s.port.assay.heard := by
  rcases s.retire_parts x cause with h | h | ⟨u, hway, hassay, -⟩
  · rw [h]
  · rw [h, (WayOut.writeHeldRng _ x).assay, State.soloFault_assay]
    rfl
  · rw [hway.assay, hassay, Assay.retired_heard]

/-- The last joined channel stays joined, with SOLO_FAULT set (R322). -/
theorem State.retire_last {s : State} {x : Chan} (cause : Nat) (hx : s.port.joined x = true)
    (hpeer : s.port.joined x.peer = false) :
    (s.retire x cause).port.joined x = true ∧ (s.retire x cause).port.assay.soloFault = true := by
  have hretire : s.retire x cause = (s.soloFault x).writeHeldRng x := by
    simp [State.retire, PortDie.serving, hx, hpeer]
  refine ⟨?_, ?_⟩
  · rw [PortDie.joined, (State.retire_of_last cause hx hpeer).1]
    exact hx
  · rw [hretire, (WayOut.writeHeldRng _ x).assay, State.soloFault_assay]

/-! ### Judgements (R313, R315) -/

/-- The channel's last report is bad, and the channel is in service. -/
def PortDie.faulty (p : PortDie) (ch : Chan) : Bool := p.serving ch && p.reportBad ch

theorem PortDie.faulty_of_missing {p : PortDie} {ch : Chan} (hserving : p.serving ch = true) (h : p.reportMissing ch = true) :
    p.faulty ch = true := by simp [PortDie.faulty, PortDie.reportBad, hserving, h]

theorem State.judgeNow_eq (s : State) :
    ∃ cause, s.judgeNow = s.retireTogether (s.port.faulty .a) (s.port.faulty .b) cause := ⟨_, rfl⟩

/-- One faulty channel is retired. -/
theorem State.judgeNow_of_one {s : State} {ch : Chan} (hch : s.port.faulty ch = true) (hpeer : s.port.faulty ch.peer = false) :
    ∃ cause, s.judgeNow = s.retire ch cause := by
  obtain ⟨cause, h⟩ := s.judgeNow_eq
  refine ⟨cause, ?_⟩
  cases ch <;> simp only [Chan.peer] at hpeer <;> rw [h, hch, hpeer] <;> rfl

/-- Of two faulty channels that are joined the one with the lower score is retired. -/
theorem State.judgeNow_of_both {s : State} (hjoined : ∀ ch, s.port.joined ch = true) (hfaulty : ∀ ch, s.port.faulty ch = true) :
    ∃ cause, s.judgeNow = (s.retire s.port.lowerScore cause).soloFault s.port.lowerScore.peer := by
  obtain ⟨cause, h⟩ := s.judgeNow_eq
  have hweaker : s.port.weaker = s.port.lowerScore := by simp [PortDie.weaker, hjoined]
  exact ⟨cause, by rw [h, hfaulty, hfaulty, ← hweaker]; rfl⟩

/-- With one channel joined, of two faulty ones the other is retired. -/
theorem State.judgeNow_of_joined {s : State} {ch : Chan} (hch : s.port.joined ch = true) (hpeer : s.port.joined ch.peer = false)
    (hfaulty : ∀ x, s.port.faulty x = true) : ∃ cause, s.judgeNow = (s.retire ch.peer cause).soloFault ch := by
  obtain ⟨cause, h⟩ := s.judgeNow_eq
  have hweaker : s.port.weaker = ch.peer := by cases ch <;> simp_all [PortDie.weaker, Chan.peer]
  refine ⟨cause, ?_⟩
  rw [h, hfaulty, hfaulty]
  refine (congrArg (fun x : Chan => (s.retire x cause).soloFault x.peer) hweaker).trans ?_
  cases ch <;> rfl

theorem State.judge_heard (s : State) (ch : Chan) :
    s.judge.port.assay.heard = s.port.assay.heard ∧ (s.judge.chan ch).still = (s.chan ch).still := by
  have htogether (badA badB : Bool) (cause : Nat) : (s.retireTogether badA badB cause).port.assay.heard = s.port.assay.heard
      ∧ ((s.retireTogether badA badB cause).chan ch).still = (s.chan ch).still := by
    unfold State.retireTogether
    split
    · rw [State.soloFault_assay]
      exact ⟨s.retire_heard .., s.retire_still ..⟩
    · exact ⟨s.retire_heard .., s.retire_still ..⟩
    · exact ⟨s.retire_heard .., s.retire_still ..⟩
    · exact ⟨rfl, rfl⟩
  unfold State.judge
  dsimp only
  split
  · exact htogether ..
  · exact ⟨rfl, rfl⟩

theorem execHealthReportMissing_of_missing {s : State} {ch : Chan} (hjoined : s.port.joined ch = true)
    (hmissing : s.port.reportMissing ch = true) : exec (.healthReportMissing ch) s = .next (s.finish s.judgeNow) := by
  have h : (s.port.serving ch && s.port.reportMissing ch) = true := by simp [PortDie.serving_of_joined hjoined, hmissing]
  simp only [exec, execHealthReportMissing, if_pos h]

/-! ### Halved commands of a lost channel (R320) -/

/-- A halved command that a lost channel was home of. -/
def Outst.lostWith (o : Outst) (ch : Chan) : Prop := o.halved = true ∧ homeChan o.homeB = ch

/-- A lost command that is outstanding is among those still to be written. -/
def State.LostAmong (ch : Chan) (l : List Outst) : State → Prop := State.AllOut fun o => o.lostWith ch → o.intakeNo ∈ l.map (·.intakeNo)

theorem State.LostAmong.foldl {ch : Chan} {l : List Outst} {s : State} (h : s.LostAmong ch l) :
    (l.foldl (fun s o => (s.sendOwn o.pkt.hdr o.intakeNo .channelLost 0#4).updPort (fun p =>
      (p.dropOut o.intakeNo).lessOut o.queue.toNat)) s).LostAmong ch [] := by
  induction l generalizing s with
  | nil => exact h
  | cons x l ih =>
    refine ih fun o ho hlost => ?_
    have hsent : (s.sendOwn x.pkt.hdr x.intakeNo .channelLost 0#4).LostAmong ch (x :: l) :=
      (sendKeeps_allOut fun _ ho => ho).send s _ h
    obtain ⟨hmem, hne⟩ := List.mem_filter.1 ho
    refine (List.mem_cons.1 (hsent o hmem hlost)).resolve_left ?_
    simpa using hne

/-- CHANNEL_LOST is written for every lost command. -/
theorem State.writeLost_lost (s : State) (ch : Chan) : ∀ o ∈ (s.writeLost ch).port.outst, ¬ o.lostWith ch := by
  have hall : s.LostAmong ch (s.port.lostOf ch) := fun o ho ⟨hhalved, hhome⟩ => by
    refine List.mem_map_of_mem (List.mem_mergeSort.2 (List.mem_filter.2 ⟨ho, ?_⟩))
    simp [hhalved, hhome]
  have hdue (d : List (Bool × Nat)) : (s.updPort (fun p => { p with assay := { p.assay with lostDue := d } })).LostAmong ch
      (s.port.lostOf ch) := hall.of_outst rfl
  exact fun o ho hlost => List.not_mem_nil ((hdue _).foldl o ho hlost)

/-! ### Probes (R316, R317) -/

/-- The probes of one discord are decided only when both are in. -/
theorem State.tryProbe_of_waiting {s : State} {r : Resolve} {o : Outst} (hr : s.port.assay.resolve = some r)
    (ho : s.port.findOut r.intakeNo = some o) (hwaits : (r.probeA.isSome && r.probeB.isSome) = false) : s.tryProbe = s := by
  simp [State.tryProbe, hr, ho, hwaits]

/-- A probe that comes in time is kept. -/
theorem State.probeIn_of_first {s : State} {ch : Chan} {wrong : Option DWord} {r : Resolve} {o : Outst}
    (hr : s.port.assay.resolve = some r) (ho : s.port.findOut r.intakeNo = some o) (htide : s.port.tide ≤ r.lateTide)
    (hwaits : ((match ch with | .a => r.probeB | .b => r.probeA) : Option DWord) = none) :
    (s.probeIn ch wrong).port.assay.resolve
      = some (r.take ch (wrong.getD ((s.chan ch).probe s.port o).check) ((s.chan ch).probeStale r.intakeNo)) := by
  unfold State.probeIn
  simp only [hr, ho, if_neg (Nat.not_lt.2 htide)]
  rw [State.tryProbe_of_waiting (r := r.take ch _ _) (o := o) rfl]
  · rfl
  · cases ch <;> exact ho
  · cases ch <;> simp_all [Resolve.take]

/-- Past the late tide, of a channel whose probe has not come, the other's being as its completion, the verdict retires it. -/
theorem State.probeVerdict_of_a {s : State} {r : Resolve} {o : Outst} {k : CompRec} (hstale : r.stale = false)
    (hprobe : r.probeA = some k.check) (hgot : o.got .a = some k) (hnone : r.probeB = none) :
    s.probeVerdict r o = s.verdict .b 2 1 := by
  simp [State.probeVerdict, hstale, hprobe, hgot, hnone]

theorem Assay.logVerdictOf_st (y : Assay) (v : Nat) (x ch : Chan) : (y.logVerdictOf v x).st ch = y.st ch := by
  unfold Assay.logVerdictOf
  split <;> cases ch <;> rfl

/-- A verdict on a channel in service, whose peer is joined, retires it and ends the probes. -/
theorem State.verdict_retires {s : State} {x : Chan} (hx : s.port.serving x = true) (hpeer : s.port.joined x.peer = true)
    (v cause : Nat) : (s.verdict x v cause).port.assay.st x = .retired ∧ (s.verdict x v cause).port.assay.resolve = none := by
  unfold State.verdict
  generalize ht : s.updPort (fun p => { p with assay := p.assay.logVerdictOf v x }) = t
  have hst (ch : Chan) : t.port.assay.st ch = s.port.assay.st ch := by
    rw [← ht]
    exact Assay.logVerdictOf_st ..
  have hxt : t.port.serving x = true := by rwa [PortDie.serving, PortDie.joined, hst]
  have hpeert : t.port.joined x.peer = true := by rwa [PortDie.joined, hst]
  refine ⟨(State.retire_of_peer_states cause hxt hpeert).1, ?_⟩
  rw [State.retire_assay cause hxt hpeert]
  rfl

/-! ### The statements -/

/-- Settles O17, event by event. That a probe is computed at its own row is log 133, and that missing reports are counted from
the last report or the join log 121. -/
theorem reportsFaultsAndProbesRetire : Obligations.ReportsFaultsAndProbesRetire := by
  unfold Obligations.ReportsFaultsAndProbesRetire
  refine ⟨?_, ?_, ?_, ?_, ?_, ?_, ?_, ?_, ?_⟩
  · intro s w k hreport
    refine .intro rfl ?_
    have htaken : (s.takeReport .a).port.assay.heard
        = ((w, k, some s.port.tide), (s.port.assay.healthB, s.port.assay.scoreB, s.port.assay.reportB))
        ∧ ((s.takeReport .a).chan .a).health.report = none := by
      rw [State.takeReport, State.chan_a, hreport]
      exact ⟨rfl, rfl⟩
    obtain ⟨hheard, hstill⟩ := (s.takeReport .a).judge_heard .a
    have hheld := hheard.trans htaken.1
    rw [State.finish_port_assay, State.finish_a]
    exact ⟨congrArg (·.1.1) hheld, congrArg (·.1.2.1) hheld, congrArg (·.1.2.2) hheld,
      (congrArg (·.health.report) hstill :).trans htaken.2⟩
  · intro s ch hjoined hpeer hmissing hgood
    obtain ⟨cause, hretire⟩ := State.judgeNow_of_one (PortDie.faulty_of_missing (PortDie.serving_of_joined hjoined) hmissing)
      (by simp [PortDie.faulty, hgood])
    refine .intro (execHealthReportMissing_of_missing hjoined hmissing) ?_
    rw [State.finish_port_assay, State.finish_chan, hretire]
    exact ⟨(State.retire_of_peer_states cause (PortDie.serving_of_joined hjoined) hpeer).1,
      (State.retire_of_peer_chan cause (PortDie.serving_of_joined hjoined) hpeer).1⟩
  · intro s ch hjoined hpeer hmissing hbad
    have hall {P : Chan → Prop} (h : P ch) (h' : P ch.peer) (x : Chan) : P x := by
      cases ch <;> cases x <;> assumption
    have hboth : ∀ x, s.port.joined x = true := hall hjoined hpeer
    have hfaulty : ∀ x, s.port.faulty x = true := hall
      (PortDie.faulty_of_missing (PortDie.serving_of_joined hjoined) hmissing)
      (by simp [PortDie.faulty, PortDie.serving_of_joined hpeer, hbad])
    obtain ⟨cause, hretire⟩ := State.judgeNow_of_both hboth hfaulty
    obtain ⟨hst, hkept, -⟩ := State.retire_of_peer_states cause (PortDie.serving_of_joined (hboth s.port.lowerScore)) (hboth _)
    refine .intro (execHealthReportMissing_of_missing hjoined hmissing) ?_
    rw [PortDie.joined, State.finish_port_assay, hretire, State.soloFault_assay]
    generalize s.port.lowerScore = x at hst hkept
    refine ⟨?_, ?_, rfl⟩
    · cases x <;> exact hst
    · cases x <;> exact hkept
  · intro s f l hserving hpeer hfaults
    refine .intro rfl ?_
    obtain ⟨y, hy, htake⟩ := State.takeFault_of_cons (s := s) (ch := .a) hfaults
    rw [State.finish_port_assay, State.finish_a]
    simp only [if_true, htake, Bool.false_eq_true, if_false, hserving, State.retireTogether]
    generalize ht : (s.setChan .a { s.chan .a with faults := l }).updPort (fun p => { p with assay := y }) = t
    have hst (x : Chan) : t.port.assay.st x = s.port.assay.st x := by rw [← ht]; exact hy x
    have hservingt : t.port.serving .a = true := by rwa [PortDie.serving, PortDie.joined, hst]
    have hpeert : t.port.joined .b = true := by rwa [PortDie.joined, hst]
    refine ⟨(State.retire_of_peer_states 4 hservingt hpeert).1, ?_⟩
    have hstill : ((t.retire .a 4).chan .a).faults = (t.chan .a).faults := (congrArg Channel.faults (t.retire_still .a 4 .a) :)
    rw [State.chan_a] at hstill
    rw [hstill, ← ht]
    rfl
  · intro s check r o hr ho hb htide
    refine .intro rfl ?_
    rw [State.finish_port_assay]
    exact State.probeIn_of_first hr ho htide hb
  · intro s ch r o hr ho ha hb htide
    refine .intro rfl ?_
    rw [State.finish_port_assay]
    have hkept := State.probeIn_of_first (ch := ch) (wrong := none) hr ho htide (by cases ch <;> assumption)
    rwa [Option.getD_none] at hkept
  · intro s ch w r o hr ho hlate
    refine .intro rfl ?_
    rw [State.finish_port_assay]
    simp only [State.probeIn, hr, ho, if_pos hlate]
  · intro s r o k hr ho hlate hstale hprobe hgot hnone ha hb
    refine .intro rfl ?_
    rw [State.finish_port_assay]
    simp only [hr, ho, if_neg (Nat.not_le.2 hlate), State.probeVerdict_of_a hstale hprobe hgot hnone]
    generalize ht : s.updPort _ = t
    have hst (x : Chan) : t.port.assay.st x = s.port.assay.st x := by
      rw [← ht]
      cases x <;> rfl
    exact State.verdict_retires (s := t) (x := .b) (by rwa [PortDie.serving, PortDie.joined, hst])
      (by rwa [PortDie.joined, hst]) 2 1
  · intro s ch hdue
    refine .intro rfl ?_
    rw [State.finish_port_outst, if_pos hdue]
    exact s.writeLost_lost ch

/-- Settles O18: no cause retires the last joined channel. -/
theorem lastJoinedChannelIsKept : Obligations.LastJoinedChannelIsKept := by
  unfold Obligations.LastJoinedChannelIsKept
  refine ⟨?_, ?_⟩
  · intro s ch hjoined hpeer hmissing
    refine .intro (execHealthReportMissing_of_missing hjoined hmissing) ?_
    rw [PortDie.joined, State.finish_port_assay]
    have hch : s.port.faulty ch = true := PortDie.faulty_of_missing (PortDie.serving_of_joined hjoined) hmissing
    cases hfaulty : s.port.faulty ch.peer with
    | false =>
      obtain ⟨cause, hretire⟩ := State.judgeNow_of_one hch hfaulty
      rw [hretire]
      exact State.retire_last cause hjoined hpeer
    | true =>
      obtain ⟨cause, hretire⟩ := State.judgeNow_of_joined hjoined hpeer (by cases ch <;> intro x <;> cases x <;> assumption)
      have hserving : s.port.serving ch.peer = true := (Bool.and_eq_true_iff.1 hfaulty).1
      obtain ⟨-, hkept, -⟩ := State.retire_of_peer_states (x := ch.peer) cause hserving (by cases ch <;> exact hjoined)
      rw [hretire, State.soloFault_assay]
      refine ⟨?_, rfl⟩
      cases ch <;> exact hkept
  · intro s f l hjoined hpeer hfaults
    refine .intro rfl ?_
    obtain ⟨y, hy, htake⟩ := State.takeFault_of_cons (s := s) (ch := .a) hfaults
    rw [PortDie.joined, State.finish_port_assay]
    simp only [if_true, htake, Bool.false_eq_true, if_false, PortDie.serving_of_joined hjoined, State.retireTogether]
    refine State.retire_last 4 ?_ ?_
    · exact (congrArg (· == ChState.joined) (hy .a)).trans hjoined
    · exact (congrArg (· == ChState.joined) (hy .b)).trans hpeer

end Sys2Proof.Machine
end

section
/-! Temperature and trips (O22): what a reading sets, and the role of a channel for the tide. -/

namespace Sys2Proof.Machine

/-! ### Readings (R452) -/

theorem State.detected_thermal (s : State) (ch : Chan) (v : BitVec 23) :
    ((s.detected ch v).chan ch).thermal = (s.chan ch).thermal := by
  rw [State.detected_eq, (State.respond_responded _ ch _).thermal, State.chan_upd]
  rfl

@[simp] theorem State.detected_reading (s : State) (ch : Chan) (v : BitVec 23) (x : Chan) :
    (s.detected ch v).port.reading x = s.port.reading x := by
  cases x
  · exact (congrArg PortDie.readA (s.detected_calm ch v) :)
  · exact (congrArg PortDie.readB (s.detected_calm ch v) :)

theorem State.tempSource_kept (s : State) (ch : Chan) (r : Int) :
    ((s.tempSource ch r).chan ch).thermal = (s.chan ch).thermal ∧ (s.tempSource ch r).port.reading ch = s.port.reading ch := by
  unfold State.tempSource
  dsimp only
  split
  · exact ⟨rfl, rfl⟩
  · exact ⟨s.detected_thermal .., s.detected_reading ..⟩

/-! ### The decision (R454, R457) -/

/-- The ebb states of the decision leave the port die and where the channels stand. -/
theorem State.foldl_ebb_kept (f : State → Channel → Channel) (hf : ∀ s c, (f s c).start = c.start) (l : List Chan) (s : State) :
    (l.foldl (fun s ch => s.upd ch (f s)) s).port = s.port
      ∧ ∀ x, ((l.foldl (fun s ch => s.upd ch (f s)) s).chan x).start = (s.chan x).start := by
  refine ⟨foldl_keeps State.port (fun s ch => s.upd_port ch _) l s, fun x => ?_⟩
  refine foldl_keeps (fun s => (s.chan x).start) (fun s ch => ?_) l s
  cases ch <;> cases x
  · exact hf s s.a
  · rfl
  · rfl
  · exact hf s s.b

theorem State.isSecond_of_kept {s t : State} (hport : t.port = s.port) (hstart : ∀ x, (t.chan x).start = (s.chan x).start)
    (ch : Chan) : t.isSecond ch = s.isSecond ch := by
  simp only [State.isSecond, Channel.trips, hport, hstart]

/-- A first channel at 115 degrees or more is told to trip. -/
theorem State.tripRole_first {s : State} {ch : Chan} {r : Int} (hr : s.port.reading ch = some r) (hhot : 115 ≤ r)
    (hfirst : s.isSecond ch = false) (hin : (s.chan ch).trips = false) (hhalt : (s.chan ch).start.step ≠ .halted) :
    ((s.tripRole ch).chan ch).thermal.tripFirst = true := by
  simp [State.tripRole, hr, hfirst, hin, hhalt, hhot, State.chan_upd]

theorem State.thermalDecision_first {s : State} {r : Int} (hr : s.port.reading .a = some r) (hhot : 115 ≤ r)
    (hfirst : s.isSecond .a = false) (hin : s.a.trips = false) (hhalt : s.a.start.step ≠ .halted) :
    s.thermalDecision.a.thermal.tripFirst = true ∧ s.thermalDecision.port.readA = none
      ∧ s.thermalDecision.port.readB = none := by
  unfold State.thermalDecision
  extract_lets readings whole next s1 t r'
  have hkept : s1.port = s.port ∧ ∀ x, (s1.chan x).start = (s.chan x).start := by
    unfold s1
    split
    · exact ⟨rfl, fun _ => rfl⟩
    · exact State.foldl_ebb_kept (fun _ c => { c with thermal := { c.thermal with
        nextTwin := ebbNext c.thermal.nextTwin readings c.thermal.threshold || (c.thermal.nextTwin && !whole) } })
        (fun _ _ => rfl) _ s
  obtain ⟨hport, hstart⟩ := hkept
  refine ⟨State.tripRole_first (by rw [hport]; exact hr) hhot ((State.isSecond_of_kept hport hstart .a).trans hfirst) ?_ ?_,
    rfl, rfl⟩
  · rw [Channel.trips, hstart]
    exact hin
  · rw [hstart]
    exact hhalt

/-- Settles O22. That recovery goes on from the image check is log 171 (R457: step 2), that trips are counted by readings log 182,
and the roles of a tide log 183. -/
theorem temperatureAndTrips : Obligations.TemperatureAndTrips := by
  unfold Obligations.TemperatureAndTrips
  refine ⟨?_, ?_, ?_, ?_, ?_⟩
  · intro s ch c hoff
    refine .intro rfl ?_
    have hfinish (t : State) : (s.finish t).port.reading ch = t.port.reading ch := by
      cases ch
      · exact State.finish_port_readA ..
      · exact State.finish_port_readB ..
    rw [State.finish_chan, hfinish, State.temperature, if_neg (by simpa using hoff)]
    generalize ht : (s.upd ch (fun d => d.temperature c)).updPort _ = t
    obtain ⟨hthermal, hreading⟩ := t.tempSource_kept ch c
    rw [hreading]
    refine ⟨(congrArg Thermal.reading hthermal).trans ?_, ?_⟩ <;> rw [← ht]
    · rw [State.updPort_chan, State.chan_upd]
      rfl
    · cases ch <;> rfl
  · intro s r hr hhot hfirst hin hhalt
    refine .intro rfl ?_
    rw [State.finish_a, State.finish_port_readA, State.finish_port_readB]
    exact State.thermalDecision_first hr hhot hfirst hin hhalt
  · intro s ch hfirst
    refine .intro rfl ?_
    rw [State.finish_chan, if_pos hfirst, State.chan_upd]
    exact ⟨rfl, rfl, List.mem_append_right _ (List.mem_singleton_self _)⟩
  · intro s ch hsecond
    refine .intro rfl ?_
    rw [State.finish_chan, if_pos hsecond, State.chan_upd]
    exact ⟨rfl, rfl, List.mem_append_right _ (List.mem_singleton_self _)⟩
  · intro s ch hstep horder hcool
    refine .intro rfl ?_
    rw [State.finish_chan, State.chan_upd, Channel.tripRecover, if_neg (by simp [hstep, horder]; omega)]
    rfl

end Sys2Proof.Machine
end

section
/-! The port die's start, the link, Sleep and WAKE_N (O45): the recorder under a flush, and what a rest leaves of a channel. -/

namespace Sys2Proof.Machine

/-! ### A flush of the recorder (R410) -/

@[simp] theorem Recorder.take_flushing (r : Recorder) (code v : Nat) : (r.take code v).flushing = r.flushing := by
  unfold Recorder.take
  dsimp only
  split <;> rfl

@[simp] theorem Recorder.takeFrozen_flushing (r : Recorder) (code v : Nat) : (r.takeFrozen code v).flushing = r.flushing := by
  unfold Recorder.takeFrozen
  dsimp only
  repeat' split
  all_goals rfl

@[simp] theorem Recorder.overflow_flushing (r : Recorder) (code : Nat) : (r.overflow code).flushing = r.flushing := by
  unfold Recorder.overflow
  split <;> rfl

/-- An event leaves a flush in progress as it is. -/
@[simp] theorem Recorder.event_flushing (r : Recorder) (code v : Nat) : (r.event code v).flushing = r.flushing := by
  unfold Recorder.event
  dsimp only
  repeat' split
  all_goals simp

theorem Recorder.copy_flushing (r : Recorder) (one : Bool) (trigger : Nat) : (r.copy one trigger).flushing.isSome = true := rfl

/-- After a trigger a flush is in progress: the one it starts, or the one that was. -/
theorem Recorder.flush_flushing (r : Recorder) (trigger : Nat) : (r.flush trigger).flushing.isSome = true := by
  unfold Recorder.flush
  split
  · exact Recorder.copy_flushing ..
  · exact Recorder.copy_flushing ..
  next one img hflushing hbegan =>
    split
    · exact Recorder.copy_flushing ..
    · simp [hflushing]

theorem PortDie.record_flushing {p : PortDie} (h : p.recorder.flushing.isSome = true) (code v : Nat) :
    (p.record code v).recorder.flushing.isSome = true := by
  have hevent : ({ p with recorder := p.recorder.event code v } : PortDie).recorder.flushing.isSome = true := by simpa using h
  unfold PortDie.record
  extract_lets stamp p1 p2
  have h2 : p2.recorder.flushing.isSome = true := by
    unfold p2
    split <;> exact hevent
  split
  · exact Recorder.flush_flushing ..
  · exact h2

theorem PortDie.records_flushing {p : PortDie} (h : p.recorder.flushing.isSome = true) (l : List (Nat × Nat)) :
    (l.foldl (fun p e => p.record e.1 e.2) p).recorder.flushing.isSome = true := by
  induction l generalizing p with
  | nil => exact h
  | cons e l ih => exact ih (PortDie.record_flushing h e.1 e.2)

/-- The events of a step that flushes go their way, and the flush is in progress. -/
theorem State.finish_flushing {s : State} (h : s.port.recorder.flushing.isSome = true) (old : State) :
    (old.finish s).port.recorder.flushing.isSome = true := by
  obtain ⟨g, p, l, hnote⟩ := s.drain.noteStatus_eq old
  rw [State.finish, hnote]
  exact PortDie.records_flushing (PortDie.records_flushing h _) _

/-! ### The end of the port die's start (R430) -/

theorem PortDie.record_start (p : PortDie) (code v : Nat) : (p.record code v).start = p.start :=
  (congrArg PortDie.start (p.record_control code v) :)

theorem State.portUp_start {s : State} (hrun : s.port.start.power = .run) (hporst : s.port.start.porst = false)
    (hup : s.port.start.up = false) (hon : s.a.start.step ≠ .off ∨ s.b.start.step ≠ .off) :
    s.portUp.port.start = { s.port.start with up := true, coldStart := false } := by
  have hoff : (s.a.start.step == .off && s.b.start.step == .off) = false := by
    rcases hon with h | h <;> simp [h]
  unfold State.portUp
  rw [if_neg (by simp [hrun, hporst, hup, hoff])]
  extract_lets cold s1 none' s2 s3 s4 s5 n
  split
  · rfl
  · have h3 : s3.port.start = s1.port.start := PortDie.record_start ..
    have h4 : s4.port.start = s3.port.start := by
      unfold s4
      split
      · exact PortDie.record_start ..
      · rfl
    have h5 : s5.port.start = s4.port.start := foldl_keeps (fun s : State => s.port.start) (fun s ch => by
      dsimp only
      rw [State.upd_port]
      split
      · rfl
      · exact PortDie.record_start ..) chans s4
    exact (h5.trans h4).trans h3

/-! ### Sleep (R371) -/

/-- What the erasures of L3 leave of a channel. -/
def Channel.awake (c : Channel) : Start × SMap Bytes := (c.start, c.keys.slots)

theorem Channel.eraseVolatile_kept (c : Channel) (n : Nat) :
    (c.eraseVolatile n).awake = c.awake ∧ (c.eraseVolatile n).keys.vr = none := by
  unfold Channel.eraseVolatile
  extract_lets c1 c2 g
  have h1 : c1.awake = c.awake := by
    unfold c1 Channel.killStreams
    extract_lets r hit r1 c0
    exact foldl_keeps Channel.awake (fun _ _ => by rfl) hit c0
  have h2 : c2.awake = c1.awake := foldl_keeps Channel.awake (fun _ _ => by rfl) _ c1
  exact ⟨h2.trans h1, rfl⟩

/-- A channel at the entry to Sleep: a checkpoint, the erasures of L3, and all but its stores at rest. -/
def Channel.rest (c : Channel) (n : Nat) : Channel :=
  let c := (c.writeCheckpoint c.journal.lowWater).eraseVolatile n
  { c with start := { c.start with step := if c.start.step == .halted then .halted else .off }, aligned := false, sluice := false,
           tamper := { c.tamper with armed := false } }

theorem Channel.rest_rests (c : Channel) (n : Nat) : (c.start.step ≠ .halted → (c.rest n).start.step = .off)
    ∧ (c.rest n).keys.vr = none ∧ (c.rest n).tamper.armed = false ∧ (c.rest n).keys.slots = c.keys.slots := by
  unfold Channel.rest
  extract_lets d
  obtain ⟨hkept, hvr⟩ := (c.writeCheckpoint c.journal.lowWater).eraseVolatile_kept n
  obtain ⟨hstart, hslots⟩ := Prod.mk.inj hkept
  refine ⟨fun hhalt => if_neg ?_, hvr, rfl, hslots⟩
  rw [show d.start = c.start from hstart]
  simpa using hhalt

theorem State.sleep_of_due {s : State} {n : Nat} (hslack : s.port.mgmt.slack = some n) (hdue : n ≤ s.port.tide)
    (hquiet : s.port.quiet = true) : s.sleep.port.start = { s.port.start with
        power := .sleep, up := false, linkUp := false, aligned := false, lockA := false, lockB := false }
      ∧ s.sleep.port.mgmt.slack = none
      ∧ ∀ ch, ∃ m, s.sleep.chan ch = Channel.rest { s.chan ch with events := [] } m := by
  unfold State.sleep
  rw [hslack]
  dsimp only
  rw [if_neg (by simp [hquiet]; omega)]
  obtain ⟨r, m, o, hdrain⟩ := s.drain_eq
  rw [hdrain]
  exact ⟨rfl, rfl, fun ch => by cases ch <;> exact ⟨_, rfl⟩⟩

/-! ### WAKE_N (R372 to R374) -/

/-- A low of WAKE_N that the island classifies when it ends: the duration and class of the low. -/
def Channel.wakes (c : Channel) (half k : Nat) : Channel :=
  { c with tamper := { c.tamper with wakeHigh := true }
           island := { c.island with wakeDuration := BitVec.ofNat 16 (min 0xFFFF half), wakeClass := BitVec.ofNat 2 k } }

/-- A low that is no tamper is classified, and what it does follows from its class and the power state. -/
theorem State.wakeRelease_of_class {s : State} {ch : Chan} {half k : Nat} (hhigh : (s.chan ch).tamper.wakeHigh = true)
    (hclass : wakeClassOf half (Config.freeNat s.free) = k) (hk : k ≠ 3) : s.wakeRelease ch half =
      let t := s.drawn.upd ch (·.wakes half k)
      match s.port.start.power with
      | .run => t
      | .sleep => if k != 2 then t else ((t.deviceReset true false false).mapStart (fun t => { t with power := .run })).beginStart
      | .backup =>
        if k != 2 then t
        else t.upd ch (fun c => { c with island := { c.island with backupWakes := satBv c.island.backupWakes 1 } }) := by
  unfold State.wakeRelease
  simp only [hhigh, hclass, Bool.not_true, Bool.false_eq_true, if_false, beq_eq_false_iff_ne.2 hk, Bool.false_and]
  have hpower : (s.drawn.upd ch (·.wakes half k)).port.start.power = s.port.start.power := by rw [State.upd_port]; rfl
  rw [← hpower]
  rfl

theorem wakeClassOf_wake {n : Nat} (hlow : 5 ≤ n) (hhigh : n ≤ 38) (free : Nat) : wakeClassOf n free = 2 := by
  unfold wakeClassOf
  rw [if_neg (by omega), if_neg (by simp; omega), if_pos hhigh]

theorem wakeClassOf_noise {n : Nat} (h : n ≤ 3) (free : Nat) : wakeClassOf n free = 1 := if_pos h

/-- A device reset leaves the islands as the orders of the peers leave them. -/
theorem State.deviceReset_island (s : State) (kept cold wakes : Bool) (ch : Chan) :
    ((s.deviceReset kept cold wakes).chan ch).island = (s.l5Chan ch).island := by
  have hline : (s.port.l5From.foldl (fun s x => s.upd x.peer (·.peerErase)) s).chan ch = s.l5Chan ch := State.eraseLines_chan ..
  rw [← hline]
  cases ch
  all_goals
    simp only [State.deviceReset, State.chan_a, State.chan_b]
    split <;> rfl

/-- The order of a peer leaves what the island has decided on WAKE_N. -/
theorem State.l5Chan_wake (s : State) (ch : Chan) : (s.l5Chan ch).island.wakeClass = (s.chan ch).island.wakeClass
    ∧ (s.l5Chan ch).island.wakeDuration = (s.chan ch).island.wakeDuration := by
  unfold State.l5Chan
  split <;> exact ⟨rfl, rfl⟩

theorem Channel.release_island (c : Channel) : c.release.island = c.island := by
  unfold Channel.release
  split <;> rfl

/-- A wake ends Sleep: the device is reset, and its start begins (R372). -/
theorem State.wakeRelease_of_sleep {s : State} {ch : Chan} {n : Nat} (hsleep : s.port.start.power = .sleep)
    (hhigh : (s.chan ch).tamper.wakeHigh = true) (hclass : wakeClassOf n (Config.freeNat s.free) = 2) :
    (s.wakeRelease ch n).port.start.power = .run
      ∧ ((s.wakeRelease ch n).chan ch).island.wakeClass = 2#2
      ∧ ((s.wakeRelease ch n).chan ch).island.wakeDuration = BitVec.ofNat 16 (min 0xFFFF n)
      ∧ ∀ d, (s.chan d).start.step ≠ .halted → ((s.wakeRelease ch n).chan d).start.step = .fuseLoad := by
  rw [State.wakeRelease_of_class hhigh hclass (by decide), hsleep]
  dsimp only
  rw [if_neg (by decide)]
  generalize ht : s.drawn.upd ch (·.wakes n 2) = t
  have hch : t.chan ch = (s.chan ch).wakes n 2 := by rw [← ht, State.chan_upd, State.drawn_chan]
  have hstart (d : Chan) : (t.chan d).start = (s.chan d).start := by
    rw [← ht]
    cases ch <;> cases d <;> rfl
  have hisland : (((t.deviceReset true false false).mapStart (fun t => { t with power := .run })).beginStart.chan ch).island
      = (t.l5Chan ch).island := by
    rw [State.beginStart_chan, Channel.release_island, State.mapStart_chan, State.deviceReset_island]
  rw [hisland, (t.l5Chan_wake ch).1, (t.l5Chan_wake ch).2, hch]
  refine ⟨rfl, rfl, rfl, fun d hd => ?_⟩
  rw [State.beginStart_chan, State.mapStart_chan, State.deviceReset_chan _ _ (.inl (by rwa [hstart]))]
  exact (Channel.release_of_off (Channel.hold_step ..)).1

/-- Settles O45, event by event. -/
theorem powerStatesAndTheLink : Obligations.PowerStatesAndTheLink := by
  unfold Obligations.PowerStatesAndTheLink
  refine ⟨?_, ?_, ?_, ?_, ?_, ?_, ?_⟩
  · intro s hrun hporst hup hon
    refine .intro rfl ?_
    rw [State.finish_port_start, State.portUp_start hrun hporst hup hon]
    exact ⟨rfl, rfl⟩
  · intro s hrun hporst hperst hup hrefclk
    refine .intro rfl ?_
    rw [if_pos (by simp [hrun, hporst, hperst, hup, hrefclk])]
    rfl
  · intro s hrun hporst
    refine .intro rfl ?_
    rw [State.finish_port_start, if_neg (by simp [hrun, hporst])]
    exact ⟨State.finish_flushing (Recorder.flush_flushing ..) s, PortDie.record_start ..⟩
  · intro s n hslack hdue hquiet
    obtain ⟨hstart, hnone, hrest⟩ := State.sleep_of_due hslack hdue hquiet
    refine .intro rfl ?_
    rw [hstart]
    refine ⟨rfl, rfl, hnone, fun ch => ?_⟩
    obtain ⟨m, hch⟩ := hrest ch
    rw [hch]
    exact Channel.rest_rests { s.chan ch with events := [] } m
  · intro s ch n hsleep hhigh hlow hn
    obtain ⟨hrun, hclass, hduration, hstarts⟩ := State.wakeRelease_of_sleep hsleep hhigh (wakeClassOf_wake hlow hn _)
    refine .intro rfl ?_
    rw [State.finish_port_start, State.finish_chan]
    refine ⟨hrun, hclass, hduration.trans (by rw [Nat.min_eq_right (by omega)]), fun d hd => ?_⟩
    rw [State.finish_chan]
    exact hstarts d hd
  · intro s ch n hbackup hhigh hlow hn
    refine .intro rfl ?_
    rw [State.finish_port_start, State.finish_chan, State.wakeRelease_of_class hhigh (wakeClassOf_wake hlow hn _) (by decide),
      hbackup]
    dsimp only
    rw [if_neg (by decide), State.chan_upd, State.chan_upd, State.drawn_chan, State.upd_port, State.upd_port]
    exact ⟨rfl, hbackup⟩
  · intro s ch n hhigh hn
    have hnoise : s.wakeRelease ch n = s.drawn.upd ch (·.wakes n 1) := by
      rw [State.wakeRelease_of_class hhigh (wakeClassOf_noise hn _) (by decide)]
      dsimp only
      split <;> rfl
    refine .intro rfl ?_
    rw [State.finish_port_start, State.finish_chan, hnoise, State.chan_upd, State.drawn_chan, State.upd_port]
    exact ⟨rfl, rfl, rfl⟩

end Sys2Proof.Machine
end

section
/-! The steps of a channel's start and background tests (O46): fuse load with the responder, and the image. -/

namespace Sys2Proof.Machine

/-! ### Fuse load (R377, R378, R381) -/

/-- The fuses of a channel at the end of their load, the responder armed. -/
def Channel.fused (c : Channel) (rows : Bool) (tide : Word) (row : Bytes) : Channel :=
  let lock := if c.fuses.lockFuse == 0xC3#8 then 0xC3#8 else 0x3C#8
  let c : Channel := { c with fuses := { c.fuses with loaded := true, rowsAgree := rows, rootRow := row, cfgLock := lock, loadTide := tide }
                              tamper := { c.tamper with armed := true, boot := true } }
  if rows then c else c.clearHealth 14

/-- A channel whose start goes on from fuse load. -/
def Channel.fuseLoaded (c : Channel) (ch : Chan) : Channel :=
  if c.start.held then c.toStep .tripped else (c.programEvidence ch).toStep .image

/-- The sources that the fuse load finds. -/
def fuseSources (rows : Bool) (island : Option Nat) : BitVec 23 :=
  (if rows then 0#23 else sourceBit 20) ||| (match island with | some n => sourceBit n | none => 0#23)

/-- What the end of a fuse load does: the fuses and the island, the response to what they show, and the step that follows. -/
theorem State.fuseLoad_of_due {s : State} {ch : Chan} (hstep : (s.chan ch).start.step = .fuseLoad)
    (horder : (s.chan ch).resetOrder = false) (rows : Bool) : ∃ (tide : Word) (row : Bytes) (t : State),
      let d := (s.chan ch).fused rows tide row
      t.chan ch = d.checkIsland.1 ∧ (s.fuseLoad ch rows).chan ch
        = let e := (t.tamper ch ((t.chan ch).tamper.seen ||| fuseSources rows d.checkIsland.2)).chan ch
          if e.resetOrder || e.start.step != .fuseLoad then e else e.fuseLoaded ch := by
  unfold State.fuseLoad
  rw [if_neg (by simp [hstep, horder])]
  extract_lets tide s1 r s2 found s3
  have hch : s1.chan ch = (s.chan ch).fused rows (if s.port.start.aligned then BitVec.ofNat 32 s.port.tide else 0#32)
      (if rows then (s.chan ch).keys.fuseRoot else Config.freeBytes s.free) := State.chan_upd ..
  refine ⟨_, _, s2, by rw [← hch]; exact State.chan_setChan .., ?_⟩
  rw [← hch]
  have hite (b : Prop) [Decidable b] (u : State) (f : Channel → Channel) :
      (if b then u else u.upd ch f).chan ch = if b then u.chan ch else f (u.chan ch) := by
    split
    · rfl
    · rw [State.chan_upd]
  exact hite ..

/-- The check of the island leaves the alarm register, and the channel beside the island. -/
theorem Channel.checkIsland_eq (c : Channel) :
    ∃ i : Island, c.checkIsland.1 = { c with island := i } ∧ i.alarm = c.island.alarm := by
  unfold Channel.checkIsland
  extract_lets i put j e
  split
  · exact ⟨_, rfl, rfl⟩
  · split
    · exact ⟨_, rfl, rfl⟩
    · exact ⟨_, rfl, rfl⟩
    · exact ⟨_, rfl, rfl⟩
    · refine ⟨_, rfl, ?_⟩
      dsimp only
      split <;> rfl

/-- An island whose retained key passes its check raises nothing. -/
theorem Channel.checkIsland_good {c : Channel} (herased : c.island.erased = false) (hretain : c.island.retain = true)
    (hpasses : c.island.passes = true) :
    c.checkIsland = ({ c with island := { c.island with valid := true, retain := true } }, none) := by
  simp [Channel.checkIsland, herased, hretain, hpasses]

/-- Evidence that is programmed leaves the responder, the alarm register, and the fuses' marks. -/
theorem Channel.programEvidence_kept (c : Channel) (ch : Chan) :
    (c.programEvidence ch).tamper = c.tamper ∧ (c.programEvidence ch).island = { c.island with pending := 0#16 }
      ∧ (c.programEvidence ch).health = c.health
      ∧ (c.programEvidence ch).fuses.loaded = c.fuses.loaded ∧ (c.programEvidence ch).fuses.rowsAgree = c.fuses.rowsAgree := by
  unfold Channel.programEvidence
  extract_lets pend d
  have hd : (d.tamper, d.island, d.health, d.fuses.loaded, d.fuses.rowsAgree)
      = (c.tamper, c.island, c.health, c.fuses.loaded, c.fuses.rowsAgree) :=
    foldl_keeps (fun c : Channel => (c.tamper, c.island, c.health, c.fuses.loaded, c.fuses.rowsAgree)) (fun c k => by
      dsimp only
      split <;> rfl) pend c
  simp only [Prod.mk.injEq] at hd
  obtain ⟨htamper, hisland, hhealth, hloaded, hrows⟩ := hd
  exact ⟨htamper, (congrArg (fun i : Island => { i with pending := 0#16 }) hisland :), hhealth, hloaded, hrows⟩

theorem Channel.fuseLoaded_kept (c : Channel) (ch : Chan) : (c.fuseLoaded ch).tamper = c.tamper
    ∧ (c.fuseLoaded ch).island.alarm = c.island.alarm ∧ (c.fuseLoaded ch).health = c.health := by
  unfold Channel.fuseLoaded
  split
  · exact ⟨rfl, rfl, rfl⟩
  · obtain ⟨htamper, hisland, hhealth, -⟩ := c.programEvidence_kept ch
    exact ⟨htamper, (congrArg Island.alarm hisland :), hhealth⟩

/-- With agreeing rows and a good island the fuse load goes on to the image. -/
theorem State.fuseLoad_good {s : State} {ch : Chan} (hstep : (s.chan ch).start.step = .fuseLoad)
    (horder : (s.chan ch).resetOrder = false) (hheld : (s.chan ch).start.held = false) (hseen : (s.chan ch).tamper.seen = 0#23)
    (hpasses : (s.chan ch).island.passes = true) (hretain : (s.chan ch).island.retain = true)
    (herased : (s.chan ch).island.erased = false) : ∃ tide row, (s.fuseLoad ch true).chan ch
      = ((({ (s.chan ch).fused true tide row with
          island := { (s.chan ch).island with valid := true, retain := true } } : Channel).programEvidence ch).toStep .image) := by
  obtain ⟨tide, row, t, hch, hload⟩ := State.fuseLoad_of_due hstep horder true
  rw [Channel.checkIsland_good (c := (s.chan ch).fused true tide row) herased hretain hpasses] at hch hload
  refine ⟨tide, row, ?_⟩
  have hnone : (t.chan ch).tamper.seen ||| fuseSources true none = 0#23 := by
    rw [hch]
    exact (congrArg (· ||| fuseSources true none) hseen).trans (by decide)
  rw [hload, hnone, State.tamper, BitVec.zero_and, State.respond_zero_chan, hch]
  dsimp only
  rw [if_neg, Channel.fuseLoaded, if_neg]
  · rfl
  · exact Bool.eq_false_iff.1 hheld
  · simp [Channel.fused, horder, hstep]

/-- Rows that disagree are latched and answered as source 20, and clear health bit 14. -/
theorem State.fuseLoad_rows {s : State} {ch : Chan} (hstep : (s.chan ch).start.step = .fuseLoad)
    (horder : (s.chan ch).resetOrder = false) (htest : (s.chan ch).underTest.getLsbD 20 = false) :
    ((s.fuseLoad ch false).chan ch).island.alarm.getLsbD 20 = true
      ∧ ((s.fuseLoad ch false).chan ch).health.cleared.getLsbD 14 = true ∧ ((s.fuseLoad ch false).chan ch).tamper.armed = true := by
  obtain ⟨tide, row, t, hch, hload⟩ := State.fuseLoad_of_due hstep horder false
  rw [hload]
  generalize ((s.chan ch).fused false tide row).checkIsland.2 = found
  obtain ⟨i, hcheck, halarm⟩ := ((s.chan ch).fused false tide row).checkIsland_eq
  rw [hcheck] at hch
  have hd := t.respond_responded ch (((t.chan ch).tamper.seen ||| fuseSources false found) &&& ~~~ (t.chan ch).underTest)
  have hunder : (t.chan ch).underTest = (s.chan ch).underTest := by rw [hch]; rfl
  have hstart : (t.chan ch).start.step = .fuseLoad := by rw [hch]; exact hstep
  have hlatched := hd.alarm (by simp [hstart]) (by simp [hstart])
  obtain ⟨v, hcleared⟩ := hd.cleared
  have harmed : ((t.respond ch _).chan ch).tamper.armed = true := (congrArg (·.1) hd.senses).trans (by rw [hch]; rfl)
  generalize he : (t.tamper ch ((t.chan ch).tamper.seen ||| fuseSources false found)).chan ch = e
  have hkept : e.island.alarm.getLsbD 20 = true ∧ e.health.cleared.getLsbD 14 = true ∧ e.tamper.armed = true := by
    rw [← he]
    refine ⟨?_, ?_, harmed⟩
    · have hbit : (fuseSources false found).getLsbD 20 = true := by
        simp [fuseSources, sourceBit]
      refine (congrArg (·.getLsbD 20) hlatched).trans ?_
      simp only [BitVec.getLsbD_or, BitVec.getLsbD_and, BitVec.getLsbD_not, hbit, hunder, htest, Bool.or_true]
      simp
    · refine (congrArg (·.getLsbD 14) hcleared).trans ?_
      rw [hch]
      simp [Channel.fused, Channel.clearHealth]
  dsimp only
  split
  · exact hkept
  · obtain ⟨htamper, halarm', hhealth⟩ := e.fuseLoaded_kept ch
    rw [htamper, halarm', hhealth]
    exact hkept

/-! ### The image (R433) -/

theorem State.activated_of_none {s : State} (h : s.port.mgmt.activation = none) (ch : Chan) (outcome : Nat) :
    s.activated ch outcome = s := by
  unfold State.activated
  rw [h]

theorem PortDie.record_activation (p : PortDie) (code v : Nat) : (p.record code v).mgmt.activation = p.mgmt.activation :=
  (congrArg (fun p : PortDie => p.mgmt.activation) (p.record_control code v) :)

/-- The boot ROM's checks, with a digest pattern that holds and no activation that waits. -/
theorem State.imageHash_pattern {s : State} {ch : Chan} (hstep : (s.chan ch).start.step = .image)
    (horder : (s.chan ch).resetOrder = false) (hnone : s.port.mgmt.activation = none) :
    (s.imageHash ch true false).chan ch =
      let c := s.chan ch
      let image := c.flash.image c.flash.active
      if c.imageOk image then
        ({ c with keys := { c.keys with svnRun := (Config.imageSvn image).toNat }
                  digests := { c.digests with locked := true } } : Channel).toStep .training
      else if c.start.triedOther then c.toStep .recovery
      else { (c.mapFlash (fun f => { f with active := 1 - f.active })) with start := { c.start with triedOther := true } } := by
  unfold State.imageHash
  rw [if_neg (by simp [hstep, horder])]
  simp only [Bool.and_true, Bool.not_false, if_neg (show ¬ ((true == false) = true) by decide)]
  split
  · rw [State.activated_of_none (by rw [State.upd_port]; exact hnone), State.chan_upd]
  · split
    · rw [State.activated_of_none, State.staysOut, State.updPort_chan, State.chan_upd, State.updPort_chan]
      rw [State.staysOut, State.updPort_port, State.upd_port]
      exact (PortDie.record_activation ..).trans hnone
    · rw [State.chan_upd, State.updPort_chan]

/-! ### HBM training (R434) -/

theorem State.training_chan {s : State} {ch : Chan} (hstep : (s.chan ch).start.step = .training)
    (horder : (s.chan ch).resetOrder = false) (ok : Bool) : (s.training ch ok).chan ch =
      let c := s.chan ch
      if ok then c.toStep .memoryTest
      else if c.start.trainingFailures = 0 then { c with start := { c.start with trainingFailures := 1 } }
      else c.toStep .failed := by
  unfold State.training
  rw [if_neg (by simp [hstep, horder])]
  simp only [beq_iff_eq]
  split
  · rw [State.chan_setChan]
  · split
    · rw [State.chan_setChan]
    · rw [State.staysOut, State.updPort_chan, State.updPort_chan, State.chan_upd]

/-! ### Tests (R314, R432) -/

theorem Channel.openRoot_tide (c : Channel) : c.openRoot.tide = c.tide := by
  unfold Channel.openRoot
  extract_lets ebb d k f
  split
  · rfl
  · split <;> rfl

/-- At the end of its self-test a channel waits for its peer. -/
theorem State.selfTest_waits (s : State) (ch : Chan) :
    ((s.selfTest ch).chan ch).start.step = .sluice ∧ ((s.selfTest ch).chan ch).start.step8At = some (s.chan ch).tide := by
  unfold State.selfTest
  extract_lets t
  have ht : (t.chan ch).start.step = .sluice ∧ (t.chan ch).start.step8At = some (s.chan ch).tide := by
    rw [State.chan_upd]
    exact ⟨rfl, congrArg some (s.chan ch).openRoot_tide⟩
  split
  · rwa [State.updPort_chan]
  · exact ht

/-- An idle core that is due its test and fails it leaves service. -/
theorem Channel.coreTest_fails {c : Channel} {n : Nat} {z : Core} (hz : c.sched.cores[n]? = some z) (hitem : z.item = none)
    (hout : z.out = false) (hsince : z.since ≤ c.now) (hdue : restDue z.testedTide c.tide = true) (ch : Chan) :
    ((c.coreTest ch n .fail).sched.cores[n]?).map (·.out) = some true
      ∧ (c.coreTest ch n .fail).health.cleared.getLsbD 6 = true := by
  unfold Channel.coreTest
  rw [hz]
  dsimp only
  rw [if_neg (by simp [hitem, hout, hdue]; omega), if_pos (by decide)]
  refine ⟨?_, by simp [Channel.event, Channel.clearHealth]⟩
  refine (congrArg (Option.map Core.out) ((Sched.mapCore_core ..).trans (congrArg _ hz))).trans ?_
  rfl

theorem State.background_of_service {s : State} {ch : Chan} (h : (s.chan ch).start.step = .service) (n : BitVec 6) (r : TestEnd) :
    (s.background ch (.core n) r).chan ch = (s.chan ch).coreTest ch n.toNat r
      ∧ (s.background ch .channelStore r).chan ch = (s.chan ch).scrub false r := by
  have hin : ¬ ((s.chan ch).start.step != .service) = true := by simp [h]
  constructor
  · rw [State.background, if_neg hin, State.chan_upd]
  · rw [State.background, if_neg hin, State.chan_upd]

/-- Settles O46, step by step. That pending evidence is programmed in FUSE_LOAD_DONE is log 171, which row ends which step log 184,
and what a failed core test does log 178. -/
theorem channelStartSteps : Obligations.ChannelStartSteps := by
  unfold Obligations.ChannelStartSteps
  refine ⟨?_, ?_, ?_, ?_, ?_, ?_, ?_, ?_⟩
  · intro s ch hstep horder hheld hseen hpasses hretain herased
    obtain ⟨tide, row, hload⟩ := State.fuseLoad_good hstep horder hheld hseen hpasses hretain herased
    refine .intro rfl ?_
    rw [State.finish_chan, hload]
    obtain ⟨htamper, hisland, -, hloaded, hrows⟩ := Channel.programEvidence_kept
      { (s.chan ch).fused true tide row with island := { (s.chan ch).island with valid := true, retain := true } } ch
    exact ⟨rfl, (congrArg Tamper.armed htamper :), hloaded, hrows, (congrArg Island.pending hisland :),
      (congrArg Island.alarm hisland :)⟩
  · intro s ch hstep horder htest
    refine .intro rfl ?_
    rw [State.finish_chan]
    exact State.fuseLoad_rows hstep horder htest
  · intro s ch hstep horder hnone
    refine .intro rfl ?_
    rw [State.finish_chan, State.imageHash_pattern hstep horder hnone]
    dsimp only
    split
    · exact ⟨rfl, rfl, rfl⟩
    · split
      · rfl
      · exact ⟨hstep, rfl, rfl⟩
  · intro s ch ok hstep horder
    refine .intro rfl ?_
    rw [State.finish_chan, State.training_chan hstep horder]
    dsimp only
    split
    · rfl
    · split
      · exact ⟨hstep, rfl⟩
      · rfl
  · intro s ch hstep horder
    refine .intro rfl ?_
    rw [State.finish_chan, if_neg (by simp [hstep, horder]), if_pos rfl, State.chan_setChan]
    rfl
  · intro s ch hstep horder hready
    refine .intro rfl ?_
    rw [State.finish_chan, if_neg (by simp [hstep, horder]), if_pos (by simp [hready])]
    exact s.selfTest_waits ch
  · intro s ch n z hservice hz hitem hout hsince hdue
    refine .intro rfl ?_
    rw [State.finish_chan, (State.background_of_service hservice n .fail).1]
    exact Channel.coreTest_fails hz hitem hout hsince hdue ch
  · intro s ch hservice
    refine .intro rfl ?_
    rw [State.finish_chan, (State.background_of_service hservice 0#6 .fail).2]
    simp [Channel.scrub, Channel.memoryError, Channel.clearHealth]

end Sys2Proof.Machine
end

section
/-! Fenced changes, responses and nonces (O51): what the release of held commands leaves of a channel, and what the work of one
message leaves of the others. -/

namespace Sys2Proof.Machine

/-! ### What the release of held commands leaves (R401) -/

/-- A channel's fence and its management records. -/
def Channel.fencing (c : Channel) : Option (Nat × Nat) × Records := (c.fence, c.records)

theorem Channel.fencing_foldl {α : Type} {f : Channel → α → Channel} (h : ∀ c x, (f c x).fencing = c.fencing) (l : List α)
    (c : Channel) : (l.foldl f c).fencing = c.fencing := foldl_keeps _ h l c

@[simp] theorem Channel.fencing_ite (b : Prop) [Decidable b] (c d : Channel) :
    (if b then c else d).fencing = if b then c.fencing else d.fencing := apply_ite ..

@[simp] theorem Channel.fencing_eta (c : Channel) : (c.fence, c.records) = c.fencing := rfl

@[simp] theorem Channel.fencing_mk {side tide offset aligned alignAt start flash fuses island tamper thermal health records
    journal refill sluice sluiceRetry link sched skim rakes digests pks keys rng faults events writersDone resetList
    resetting fence draining resetOrder} :
    (Channel.mk side tide offset aligned alignAt start flash fuses island tamper thermal health records
      journal refill sluice sluiceRetry link sched skim rakes digests pks keys rng faults events writersDone resetList
      resetting fence draining resetOrder).fencing = (fence, records) := rfl

@[simp] theorem Channel.onSched_fencing (c : Channel) (f : Sched → Sched) : (c.onSched f).fencing = c.fencing := rfl
@[simp] theorem Channel.setItem_fencing (c : Channel) (x : Item) : (c.setItem x).fencing = c.fencing := rfl
@[simp] theorem Channel.mapPair_fencing (c : Channel) (j : Nat) (f : Pair → Pair) : (c.mapPair j f).fencing = c.fencing := rfl
@[simp] theorem Channel.mapSkim_fencing (c : Channel) (f : SkimRegs → SkimRegs) : (c.mapSkim f).fencing = c.fencing := rfl
@[simp] theorem Channel.mapSched_fencing (c : Channel) (f : SchedRegs → SchedRegs) : (c.mapSched f).fencing = c.fencing := rfl
@[simp] theorem Channel.clearHealth_fencing (c : Channel) (bit : Nat) : (c.clearHealth bit).fencing = c.fencing := rfl
@[simp] theorem Channel.sync_fencing (c : Channel) : c.sync.fencing = c.fencing := rfl

@[simp] theorem Channel.trace_fencing (c : Channel) (x : Item) (decision unit : Nat) (code due cycles : Nat) (exempt : Bool) :
    (c.trace x decision unit code due cycles exempt).fencing = c.fencing := rfl

@[simp] theorem Channel.produceIn_fencing (c : Channel) (x : Item) (ph : Phase) (producer at' : Nat) (r : Res) :
    (c.produceIn x ph producer at' r).fencing = c.fencing := rfl

@[simp] theorem Channel.produce_fencing (c : Channel) (x : Item) (producer at' : Nat) (r : Res) :
    (c.produce x producer at' r).fencing = c.fencing := rfl

@[simp] theorem Channel.bindSlot_fencing (c : Channel) (x : Item) (slot : Nat) :
    (c.bindSlot x slot).1.fencing = c.fencing := by
  obtain ⟨k, j, b, h, -⟩ := c.bindSlot_eq x slot
  rw [h]
  rfl

@[simp] theorem Channel.bindAll_fencing (c : Channel) (id : Nat) : (c.bindAll id).fencing = c.fencing := by
  unfold Channel.bindAll
  split
  · rfl
  · refine Channel.fencing_foldl (fun c k => ?_) _ c
    split
    · split
      · rfl
      · simp
    · rfl

@[simp] theorem Channel.settle_fencing (c : Channel) : c.settle.fencing = c.fencing :=
  (Channel.fencing_foldl (fun c _ => c.bindAll_fencing _) _ c.popReaders).trans rfl

@[simp] theorem Channel.preempt_fencing (c : Channel) (k : Nat) (y : Item) (urgent : Bool) :
    (c.preempt k y urgent).fencing = c.fencing := by simp [Channel.preempt]

@[simp] theorem Channel.enterAt_fencing (c : Channel) (x : Item) (head : Bool) :
    (c.enterAt x head).fencing = c.fencing := by
  simp only [Channel.enterAt]
  (repeat' split) <;> simp

@[simp] theorem Channel.enter_fencing (c : Channel) (x : Item) : (c.enter x).fencing = c.fencing := by simp [Channel.enter]

@[simp] theorem Channel.noteResult_fencing (c : Channel) (x : Item) (r : Res) :
    (c.noteResult x r).fencing = c.fencing := by simp [Channel.noteResult]

@[simp] theorem Channel.countHits_fencing (c : Channel) (x : Item) :
    (c.countHits x).fencing = c.fencing := by simp [Channel.countHits]

@[simp] theorem Channel.maskDraw_fencing (c : Channel) (x : Item) : (c.maskDraw x).1.fencing = c.fencing := by
  unfold Channel.maskDraw
  extract_lets
  split <;> rfl

@[simp] theorem Channel.drawSkim_fencing (c : Channel) (x : Item) : (c.drawSkim x).1.fencing = c.fencing := by
  unfold Channel.drawSkim
  split <;> rfl

@[simp] theorem Channel.awaitFill_fencing (c : Channel) (x : Item) : (c.awaitFill x).fencing = c.fencing := by
  unfold Channel.awaitFill
  split <;> simp

@[simp] theorem Channel.laneTake_fencing (c : Channel) (x : Item) : (c.laneTake x).fencing = c.fencing := by
  unfold Channel.laneTake
  repeat' split <;> simp

@[simp] theorem Channel.laneJoin_fencing (c : Channel) (x : Item) : (c.laneJoin x).fencing = c.fencing := by
  unfold Channel.laneJoin
  repeat' split <;> simp

@[simp] theorem Channel.killStream_fencing (c : Channel) (n i : Nat) : (c.killStream n i).fencing = c.fencing := rfl

@[simp] theorem Channel.killStreams_fencing (c : Channel) (n : Nat) (f : Nat → Stream → Bool) :
    (c.killStreams n f).fencing = c.fencing := by
  simp only [Channel.killStreams]
  exact Channel.fencing_foldl (fun _ _ => by rfl) _ _

@[simp] theorem Channel.stop_fencing (c : Channel) (x : Item) : (c.stop x).fencing = c.fencing := rfl

@[simp] theorem Channel.schedPort_fencing (c : Channel) (x : Item) (r : Res) : (c.schedPort x r).fencing = c.fencing := rfl

@[simp] theorem Channel.abort_fencing (c : Channel) (x : Item) (r : Res) : (c.abort x r).fencing = c.fencing := by
  unfold Channel.abort
  repeat' split <;> simp

@[simp] theorem Channel.withdraw_fencing (c : Channel) (slot : Nat) (x : Item) :
    (c.withdraw slot x).fencing = c.fencing := by simp [Channel.withdraw]

@[simp] theorem Channel.withdrawUsers_fencing (c : Channel) (x : Item) : (c.withdrawUsers x).fencing = c.fencing := by
  unfold Channel.withdrawUsers
  extract_lets slot
  split
  · rfl
  · rw [Channel.killStreams_fencing]
    exact Channel.fencing_foldl (fun c y => c.withdraw_fencing slot y) _ c

@[simp] theorem Channel.enterStarted_fencing (c : Channel) (x : Item) :
    (c.enterStarted x).fencing = c.fencing := by simp [Channel.enterStarted]

@[simp] theorem Channel.startItem_fencing (c : Channel) (x : Item) (waited : Bool) :
    (c.startItem x waited).fencing = c.fencing := by simp [Channel.startItem]

@[simp] theorem Channel.tryStart_fencing (c : Channel) (id : Nat) (waited : Bool) :
    (c.tryStart id waited).fencing = c.fencing := by
  unfold Channel.tryStart
  split <;> simp

theorem Channel.liftFence_fencing (c : Channel) : c.liftFence.fencing = (none, c.records) := by
  unfold Channel.liftFence
  extract_lets d
  exact (Channel.fencing_foldl (fun c (x : Item) => c.tryStart_fencing x.id true) _ d).trans (Channel.settle_fencing _)

/-! ### The intake at a retirement (R319) -/

/-- What the port die keeps of its intake: the messages, their counter and the next intake number. -/
def PortDie.intake (p : PortDie) : List KerralMsg × Nat × Nat := (p.mgmt.messages, p.mgmt.counter, p.nextIntake)

theorem PortDie.record_intake (p : PortDie) (code v : Nat) : (p.record code v).intake = p.intake := by
  obtain ⟨r, n, o, h⟩ := p.record_eq code v
  rw [h]
  rfl

theorem WayOut.intake {s t : State} (h : WayOut s t) : t.port.mgmt.messages = s.port.mgmt.messages
    ∧ t.port.mgmt.counter = s.port.mgmt.counter ∧ t.port.nextIntake = s.port.nextIntake :=
  ⟨(congrArg (fun p => p.mgmt.messages) h.control :), (congrArg (fun p => p.mgmt.counter) h.control :),
    (congrArg PortDie.nextIntake h.control :)⟩

theorem WayOut.intake_eq {s t : State} (h : WayOut s t) : t.port.intake = s.port.intake := by
  obtain ⟨hmessages, hcounter, hnext⟩ := h.intake
  simp [PortDie.intake, hmessages, hcounter, hnext]

@[simp] theorem State.retire_intake (s : State) (x : Chan) (cause : Nat) :
    (s.retire x cause).port.intake = s.port.intake := by
  unfold State.retire
  split
  · rfl
  · split
    · rw [(WayOut.writeHeldRng _ x).intake_eq]
      exact PortDie.record_intake ..
    · extract_lets s1 p1 y1 y2 p2 _ _ p3 s2 s3 s4
      have hout : WayOut s4 ((p3.outst.foldl (fun s o => s.writeOffOne x o) s4).updPort (·.resetVerdicts)) :=
        (WayOut.foldl (fun s o => .writeOffOne s x o) _ s4).trans (.updPort _ rfl)
      have hp2 : p2.intake = p1.intake := PortDie.record_intake ..
      rw [hout.intake_eq, State.upd_port, (WayOut.devEvent s2 _).intake_eq]
      exact hp2.trans (congrArg PortDie.intake s.probeOver_port)

/-! ### What the work of one message leaves (R397) -/

/-- The same message, its execution further on. -/
structure KerralMsg.Continues (x y : KerralMsg) : Prop where
  counter : y.counter = x.counter
  arrived : (y.code, y.msg, y.image) = (x.code, x.msg, x.image)
  started : x.started = true → y.started = true

theorem KerralMsg.Continues.trans {x y z : KerralMsg} (h : x.Continues y) (h' : y.Continues z) : x.Continues z :=
  ⟨h'.counter.trans h.counter, h'.arrived.trans h.arrived, h'.started ∘ h.started⟩

/-- The work of the message of counter `k`: no other message changes, none comes or goes, and the channels keep their fences and
management records. -/
structure State.Works (k : Nat) (s t : State) : Prop where
  messages : ∃ g : KerralMsg → KerralMsg, (∀ x : KerralMsg, x.Continues (g x)) ∧ (∀ x, x.counter ≠ k → g x = x)
    ∧ t.port.mgmt.messages = s.port.mgmt.messages.map g
  numbers : (t.port.mgmt.counter, t.port.nextIntake) = (s.port.mgmt.counter, s.port.nextIntake)
  fencing : ∀ ch, (t.chan ch).fencing = (s.chan ch).fencing

namespace State.Works

variable {k : Nat} {s t u : State}

theorem of_eq (hintake : t.port.intake = s.port.intake) (hfencing : ∀ ch, (t.chan ch).fencing = (s.chan ch).fencing) :
    State.Works k s t :=
  ⟨⟨id, fun _ => ⟨rfl, rfl, id⟩, fun _ _ => rfl, (congrArg Prod.fst hintake).trans (List.map_id _).symm⟩,
    congrArg Prod.snd hintake, hfencing⟩

protected theorem refl (s : State) : State.Works k s s := of_eq rfl fun _ => rfl

protected theorem trans (h : State.Works k s t) (h' : State.Works k t u) : State.Works k s u := by
  obtain ⟨⟨g, hsame, hother, hmessages⟩, hnumbers, hfencing⟩ := h
  obtain ⟨⟨g', hsame', hother', hmessages'⟩, hnumbers', hfencing'⟩ := h'
  refine ⟨⟨g' ∘ g, fun x => (hsame x).trans (hsame' _), fun x hx => ?_, by rw [hmessages', hmessages, List.map_map]⟩,
    hnumbers'.trans hnumbers, fun ch => (hfencing' ch).trans (hfencing ch)⟩
  rw [Function.comp_apply, hother x hx, hother' x hx]

theorem ite {b : Prop} [Decidable b] (h : State.Works k s t) (h' : State.Works k s u) :
    State.Works k s (if b then t else u) := by
  split
  · exact h
  · exact h'

theorem updPort (s : State) (f : PortDie → PortDie) (hf : (f s.port).intake = s.port.intake) :
    State.Works k s (s.updPort f) := of_eq hf fun _ => rfl

theorem record (s : State) (code v : Nat) : State.Works k s (s.updPort (fun p => p.record code v)) :=
  updPort s _ (PortDie.record_intake ..)

theorem updMsg (s : State) (f : KerralMsg → KerralMsg) (hf : ∀ x : KerralMsg, x.Continues (f x)) : State.Works k s (s.updMsg k f) := by
  refine ⟨⟨fun x => if x.counter == k then f x else x, fun x => ?_, fun x hx => if_neg (by simpa using hx), rfl⟩, rfl,
    fun _ => rfl⟩
  dsimp only
  split
  · exact hf x
  · exact ⟨rfl, rfl, id⟩

theorem upd (s : State) (x : Chan) (f : Channel → Channel) (hf : ∀ c, (f c).fencing = c.fencing) :
    State.Works k s (s.upd x f) := by
  refine of_eq (by rw [State.upd_port]) fun ch => ?_
  cases x <;> cases ch <;> simp [hf]

theorem foldl {α : Type} {f : State → α → State} (h : ∀ s x, State.Works k s (f s x)) (l : List α) (s : State) :
    State.Works k s (l.foldl f s) := by
  induction l generalizing s with
  | nil => exact .refl s
  | cons x l ih => exact (h s x).trans (ih _)

theorem allJoined (s : State) (f : Channel → Channel) (hf : ∀ c, (f c).fencing = c.fencing) :
    State.Works k s (s.port.joinedChans.foldl (fun s ch => s.upd ch f) s) := foldl (fun s ch => upd s ch f hf) _ s

theorem retire (s : State) (x : Chan) (cause : Nat) : State.Works k s (s.retire x cause) :=
  of_eq (s.retire_intake x cause) fun ch => (congrArg Channel.fencing (s.retire_still x cause ch) :)

theorem mgmtDiscord (s : State) : State.Works k s s.mgmtDiscord := by
  unfold State.mgmtDiscord
  split
  · exact retire s _ 0
  · exact (record s 0x011 0xFFFF).trans (retire _ .b 2)

theorem agreed {α : Type} [BEq α] (s : State) (f : Channel → α) : State.Works k s (s.agreed f).1 := by
  unfold State.agreed
  split
  · split
    · exact .refl s
    · exact mgmtDiscord s
  · exact .refl s

variable (s) (m : KerralMsg)

theorem complete (v effect : Nat) (data : Bytes) : State.Works m.counter s (s.complete m v effect data) := by
  have hdone := updMsg s (k := m.counter) (fun x => { x with
    result := some { result := v, effect := if v == 0 then effect else 0, data := if v == 0 then data else [] } }) fun _ => ⟨rfl, rfl, id⟩
  exact ite (hdone.trans (record _ _ _)) (ite hdone (hdone.trans (record _ _ _)))

theorem spendNonce (v : Nat) : State.Works k s (s.spendNonce m v) := ite (.refl s) (updPort s _ rfl)

theorem dropCeremony (v : Nat) : State.Works k s (s.dropCeremony m v) := by
  refine ite (.refl s) (allJoined s _ fun c => ?_)
  split <;> rfl

theorem verifies (v : Nat) : State.Works k s (s.verifies m v) :=
  ite (.refl s) (allJoined s _ fun c => Channel.fencing_foldl (fun c (a : Auth) => by rfl) _ c)

theorem countMgmtDraw (len : Nat) : State.Works k s (s.countMgmtDraw len) := allJoined s _ fun _ => rfl

theorem giveNonce : State.Works m.counter s (s.giveNonce m) := by
  unfold State.giveNonce
  split
  · exact complete s m 11 0 []
  · exact ((countMgmtDraw s 24).trans (updPort _ _ rfl)).trans (complete _ m 0 0 _)

theorem openCeremony : State.Works m.counter s (s.openCeremony m) := by
  unfold State.openCeremony
  extract_lets
  split
  · exact complete s m 11 0 []
  · exact (countMgmtDraw s 16).trans (updMsg _ _ fun _ => ⟨rfl, rfl, id⟩)

theorem hostBytes (f addr : Nat) (bs : Bytes) : State.Works k s (s.hostBytes f addr bs) :=
  foldl (fun _ _ => of_eq (by rfl) fun _ => by rfl) _ s

theorem perform : State.Works m.counter s (s.perform m) := by
  unfold State.perform
  extract_lets b t c later
  have hlater (x : Change) : State.Works m.counter s (later x) := updMsg s _ fun _ => ⟨rfl, rfl, id⟩
  split
  · exact giveNonce s m
  · exact complete s m 0 0 _
  · exact (updPort s _ rfl).trans (complete _ m 0 t [])
  · exact openCeremony s m
  · exact hlater _
  · exact updPort s _ rfl
  · exact updPort s _ rfl
  · exact (agreed s _).trans ((hostBytes _ _ _ _).trans (complete _ m 0 0 _))
  · split
    · exact hlater _
    · exact complete s m 8 0 []
  · exact complete s m 0 0 _
  · split
    · exact complete s m 2 0 []
    · exact ite (updMsg s _ fun _ => ⟨rfl, rfl, id⟩) (hlater _)

theorem startMsg : State.Works m.counter s (s.startMsg m) := by
  unfold State.startMsg
  extract_lets s1
  have hagreed : State.Works m.counter s (s1.agreed (fun c => s1.kerralVerdict c m)).1 :=
    (updMsg s (fun x => { x with started := true }) fun _ => ⟨rfl, rfl, fun _ => rfl⟩).trans (agreed s1 _)
  generalize s1.agreed (fun c => s1.kerralVerdict c m) = r at hagreed ⊢
  obtain ⟨s2, v⟩ := r
  simp -zeta only at hagreed ⊢
  extract_lets c nonce s3 s4
  have hbegun : State.Works m.counter s s3 :=
    hagreed.trans ((spendNonce s2 m v).trans ((dropCeremony _ m v).trans (verifies _ m v)))
  have hnoted : State.Works m.counter s s4 := by
    refine ite ?_ hbegun
    split
    · exact hbegun.trans (record s3 _ _)
    · exact hbegun
  exact ite (hbegun.trans (perform s3 m)) (hnoted.trans (complete _ m v 0 []))

end State.Works

/-! ### An answered message (R397) -/

/-- The message of counter `k` stands and is answered with `r`. -/
structure State.Answered (s : State) (k : Nat) (r : KerralResult) : Prop where
  stands : ∃ y ∈ s.port.mgmt.messages, y.counter = k
  result : ∀ y ∈ s.port.mgmt.messages, y.counter = k → y.result = some r

theorem State.Answered.works {s t : State} {k i : Nat} {r : KerralResult} (h : s.Answered k r) (hw : State.Works i s t)
    (hi : i ≠ k) : t.Answered k r := by
  obtain ⟨⟨y, hy, hyk⟩, hresult⟩ := h
  obtain ⟨⟨g, hsame, hother, hmessages⟩, -⟩ := hw
  have hkept (x : KerralMsg) (hx : x.counter = k) : g x = x := hother x (by rw [hx]; exact Ne.symm hi)
  refine ⟨⟨y, ?_, hyk⟩, fun z hz hzk => ?_⟩
  · rw [hmessages]
    exact List.mem_map.mpr ⟨y, hy, hkept y hyk⟩
  · rw [hmessages] at hz
    obtain ⟨x, hx, rfl⟩ := List.mem_map.mp hz
    rw [(hsame x).counter] at hzk
    rw [hkept x hzk]
    exact hresult x hx hzk

theorem State.complete_answered {s : State} {m : KerralMsg} (hm : m ∈ s.port.mgmt.messages) (effect : Nat) (data : Bytes) :
    (s.complete m 0 effect data).Answered m.counter { result := 0, effect := effect, data := data } := by
  have hmessages : (s.complete m 0 effect data).port.mgmt.messages = s.port.mgmt.messages.map (fun x =>
      if x.counter == m.counter then { x with result := some { result := 0, effect := effect, data := data } } else x) := by
    unfold State.complete
    extract_lets t
    split
    · exact PortDie.record_messages ..
    · split
      · rfl
      · exact PortDie.record_messages ..
  refine ⟨⟨_, by rw [hmessages]; exact List.mem_map_of_mem hm, by simp⟩, fun y hy hyk => ?_⟩
  rw [hmessages] at hy
  obtain ⟨x, -, rfl⟩ := List.mem_map.mp hy
  split at hyk
  · next hx => rw [if_pos hx]
  · next hx => exact absurd hyk (by simpa using hx)

/-- The messages that begin after a completion leave the answered one and the channels' fences and records. -/
theorem State.Answered.pump {s : State} {k : Nat} {r : KerralResult} (h : s.Answered k r) (n : Nat) :
    (s.pump n).Answered k r ∧ ∀ ch, ((s.pump n).chan ch).fencing = (s.chan ch).fencing := by
  induction n generalizing s with
  | zero => exact ⟨h, fun _ => rfl⟩
  | succ n ih =>
    unfold State.pump
    split
    · exact ⟨h, fun _ => rfl⟩
    · next m hm =>
      split
      · exact ⟨h, fun _ => rfl⟩
      · have hworks := State.Works.startMsg s m
        have hother : m.counter ≠ k := by
          intro hk
          have hnone := List.find?_some hm
          rw [h.result m (List.mem_of_find?_eq_some hm) hk] at hnone
          exact absurd hnone (by simp)
        obtain ⟨hanswered, hfencing⟩ := ih (h.works hworks hother)
        exact ⟨hanswered, fun ch => (hfencing ch).trans (hworks.fencing ch)⟩

theorem State.completeChange_answered {s : State} {m : KerralMsg} (hm : m ∈ s.port.mgmt.messages) (effect : Nat) :
    (s.completeChange m (0, []) effect).Answered m.counter { result := 0, effect := effect, data := [] }
      ∧ ∀ ch, ((s.completeChange m (0, []) effect).chan ch).fencing = (s.chan ch).fencing := by
  obtain ⟨hanswered, hfencing⟩ := (State.complete_answered hm effect []).pump 9
  exact ⟨hanswered, fun ch => (hfencing ch).trans ((State.Works.complete s m 0 effect []).fencing ch)⟩

/-! ### The fence (R401) -/

/-- The fenced message under way is outstanding and has not ended. -/
theorem State.fencing_mem {s : State} {m : KerralMsg} (h : s.fencing = some m) : m ∈ s.port.mgmt.messages :=
  List.mem_of_find?_eq_some h

theorem State.fenceHold_of_due {s : State} {ch : Chan} {m : KerralMsg} {h f : Nat} (hm : s.fencing = some m)
    (hhold : m.hold = some h) (hf : fencedFn m.code m.msg.body = some f) (htarget : m.target = none)
    (hjoined : s.port.joined ch = true) (hh : h ≤ (s.chan ch).tide) :
    s.fenceHold ch = s.upd ch (fun c => { c with fence := some (f, h) }) := by
  simp [State.fenceHold, hm, hhold, hf, htarget, hjoined, Nat.not_lt.mpr hh]

/-- A message with a channel's report of none noted. -/
def KerralMsg.reported (m : KerralMsg) (ch : Chan) : KerralMsg :=
  match ch with
  | .a => { m with noneA := true }
  | .b => { m with noneB := true }

theorem KerralMsg.reported_counter (m : KerralMsg) (ch : Chan) : (m.reported ch).counter = m.counter := by cases ch <;> rfl

/-- A channel's report of none as the message holds it. -/
def KerralMsg.noneOf (m : KerralMsg) : Chan → Bool
  | .a => m.noneA
  | .b => m.noneB

theorem KerralMsg.noneOf_reported (m : KerralMsg) (ch d : Chan) : (m.reported ch).noneOf d = (d == ch || m.noneOf d) := by
  cases ch <;> cases d <;> rfl

/-- A report of none that comes is noted, and the last one fixes X two tides on. -/
theorem State.fenceReport_of_none {s : State} {ch : Chan} {m : KerralMsg} {h f : Nat} (hm : s.fencing = some m)
    (hfence : (s.chan ch).fence = some (f, h)) (htarget : m.target = none) (hjoined : s.port.joined ch = true)
    (hbefore : (s.chan ch).beforeFence f h = false) :
    s.fenceReport ch = s.updMsg m.counter (fun _ => { m.reported ch with
      target := if s.port.joinedChans.all (fun d => (m.reported ch).noneOf d) then some (s.port.tide + 2) else none }) := by
  simp only [State.fenceReport, hm, hfence, htarget, hjoined, hbefore]
  cases ch <;> rfl

/-- At X the change applies in the channel and its hold ends; with no joined channel holding the message completes. -/
theorem State.fenceApply_of_last {s : State} {ch : Chan} {m : KerralMsg} {x : Change} {n : Nat} (hm : s.fencing = some m)
    (hx : m.change = some x) (hn : m.target = some n) (hdue : n ≤ (s.chan ch).tide) (hfence : (s.chan ch).fence.isSome = true)
    (hothers : ∀ d, d ≠ ch → s.port.joined d = true → (s.chan d).fence = none) :
    s.fenceApply ch = (s.upd ch (fun c => (c.takeChange m.intakeNo x).1.liftFence)).completeChange m (0, []) n := by
  have hlifted : ((s.upd ch (fun c => (c.takeChange m.intakeNo x).1.liftFence)).chan ch).fence = none := by
    rw [State.chan_upd]
    exact congrArg Prod.fst (Channel.liftFence_fencing _)
  have hnone : (s.upd ch (fun c => (c.takeChange m.intakeNo x).1.liftFence)).port.joinedChans.any
      (fun d => ((s.upd ch (fun c => (c.takeChange m.intakeNo x).1.liftFence)).chan d).fence.isSome) = false := by
    rw [State.upd_port, List.any_eq_false]
    intro d hd
    by_cases hdc : d = ch
    · rw [hdc, hlifted]
      simp
    · have hchan : (s.upd ch (fun c => (c.takeChange m.intakeNo x).1.liftFence)).chan d = s.chan d := by
        cases ch <;> cases d <;> simp_all
      rw [hchan, hothers d hdc (List.mem_filter.mp hd).2]
      simp
  have hholds : (s.chan ch).fence.isNone = false := by simpa using hfence
  simp only [State.fenceApply, hm, hx, hn, Nat.not_lt.mpr hdue, hholds, decide_false, Bool.or_false, Bool.false_eq_true,
    if_false, hnone]

theorem Channel.takeChange_grants (c : Channel) (n f i a k : Nat) : (c.takeChange n (.grant f i a k)).1.records.grants
    = SMap.put c.records.grants (16 * f + i) (if k == 0 then none else some (a, k)) := rfl

/-! ### The statement -/

/-- Settles O51. That a fenced message completes once every joined channel has applied its change is log 208. -/
theorem fencedChangesAndResponses : Obligations.FencedChangesAndResponses := by
  refine ⟨fun s ch m h f hm hhold hf htarget hjoined hh => ?_, fun s ch m h f hm hfence htarget hjoined hbefore => ?_,
    fun s ch m x n hm hx hn hdue hfence hothers => ?_, fun s m r hm hr => ?_, fun s => ?_⟩
  · refine ⟨s.fenceHold ch, rfl, ?_⟩
    rw [State.fenceHold_of_due hm hhold hf htarget hjoined hh]
    exact congrArg Channel.fence (s.chan_upd ch _)
  · refine ⟨s.fenceReport ch, rfl, ?_⟩
    rw [State.fenceReport_of_none hm hfence htarget hjoined hbefore]
    refine ⟨_, List.mem_map.mpr ⟨m, State.fencing_mem hm, if_pos (by simp)⟩, m.reported_counter ch, ?_, fun hall => ?_⟩
    · cases ch <;> rfl
    · have hreported : s.port.joinedChans.all (fun d => (m.reported ch).noneOf d) = true := by
        simp only [KerralMsg.noneOf_reported]
        exact hall
      exact if_pos hreported
  · refine .intro rfl ?_
    have hmem : m ∈ (s.upd ch (fun c => (c.takeChange m.intakeNo x).1.liftFence)).port.mgmt.messages := by
      rw [State.upd_port]
      exact State.fencing_mem hm
    obtain ⟨⟨⟨y, hy, hyk⟩, hresult⟩, hfencing⟩ := State.completeChange_answered hmem n
    have hchan := (hfencing ch).trans ((congrArg Channel.fencing (State.chan_upd s ch _)).trans (Channel.liftFence_fencing _))
    rw [State.fenceApply_of_last hm hx hn hdue hfence hothers, State.finish_chan, State.finish_mgmt_messages]
    refine ⟨congrArg Prod.fst hchan, ⟨y, hy, hyk, hresult y hy hyk⟩, fun f i a k hgrant => ?_⟩
    refine (congrArg (fun z => z.2.grants) hchan :).trans ?_
    rw [hgrant]
    exact (s.chan ch).takeChange_grants m.intakeNo f i a k
  · refine ⟨s.kerralRespond, rfl, ?_⟩
    simp [State.kerralRespond, hm, hr, State.onMgmt]
  · exact ⟨_, rfl, fun n => by simp [State.onMgmt, Mgmt.expireNonces]⟩

end Sys2Proof.Machine
end

section
/-! The answers of the attestation responder (O52): what the management port has sent stays sent, and what a request that the
port takes is answered with. -/

namespace Sys2Proof.Machine

/-! ### What the management port has sent (R413) -/

theorem Mgmt.alert_out (m : Mgmt) (code v stamp : Nat) : m.out <+: (m.alert code v stamp).out := by
  unfold Mgmt.alert
  split
  · exact List.prefix_rfl
  · split
    · exact List.prefix_rfl
    · exact List.prefix_append ..

theorem PortDie.record_out (p : PortDie) (code v : Nat) : p.mgmt.out <+: (p.record code v).mgmt.out := by
  unfold PortDie.record
  extract_lets stamp p1 p2
  have h2 : p.mgmt.out <+: p2.mgmt.out := by
    unfold p2
    split
    · exact Mgmt.alert_out ..
    · exact List.prefix_rfl
  split
  · exact h2
  · exact h2

theorem PortDie.records_out (p : PortDie) (l : List (Nat × Nat)) :
    p.mgmt.out <+: (l.foldl (fun p e => p.record e.1 e.2) p).mgmt.out := by
  induction l generalizing p with
  | nil => exact List.prefix_rfl
  | cons e l ih => exact (p.record_out e.1 e.2).trans (ih _)

/-- A meaning that ends takes back nothing of what the management port has sent. -/
theorem State.finish_out (old s : State) : s.port.mgmt.out <+: (old.finish s).port.mgmt.out := by
  obtain ⟨g, p, l, h⟩ := s.drain.noteStatus_eq old
  rw [State.finish, h]
  exact (PortDie.records_out _ _).trans (PortDie.records_out _ _)

/-! ### A request that is taken (R385, R387) -/

/-- The answer that the port sends to a request. -/
def spdmReply (v : Via) (kind : Nat) (content : Bytes) : MgmtOut :=
  { binding := v.binding, eid := none, session := v.session, type := Via.spdmType v, body := Config.standardMessage kind content }

/-- A request of a length that can be reassembled reaches the responder. -/
theorem State.spdm_of_up {s : State} {v : Via} {b : Bytes} {ch : Chan} (f : Chan → State → State)
    (hresponder : s.port.responder = some ch) (hup : s.port.mgmtUp v.binding = true) (hlen : 5 + b.length ≤ 16384) :
    s.spdm v b f = f ch s := by
  simp [State.spdm, hup, Nat.not_lt.mpr hlen, hresponder]

theorem State.spdmAnswer_out (s : State) (v : Via) (kind : Nat) (content : Bytes) :
    (s.spdmAnswer v true kind content).port.mgmt.out = s.port.mgmt.out ++ [spdmReply v kind content] := rfl

theorem State.spdmAnswer_spdm (s : State) (v : Via) (ok : Bool) (kind : Nat) (content : Bytes) :
    (s.spdmAnswer v ok kind content).port.mgmt.spdm = s.port.mgmt.spdm := by
  unfold State.spdmAnswer
  split <;> rfl

/-- What a request that is answered has sent once its meaning ends. -/
theorem State.finish_spdmAnswer {s t : State} (hout : t.port.mgmt.out = s.port.mgmt.out) (old : State) (v : Via) (kind : Nat)
    (content : Bytes) :
    (s.port.mgmt.out ++ [spdmReply v kind content]) <+: (old.finish (t.spdmAnswer v true kind content)).port.mgmt.out := by
  rw [← hout, ← State.spdmAnswer_out]
  exact State.finish_out ..

/-! ### A request inside a session (R387) -/

/-- A request inside a session of the responder that is as the request wants it is answered and acts on the session. -/
theorem State.spdmIn_of_session {s : State} {v : Via} {b : Bytes} {i : Nat} {n : SpdmSession} {ok : SpdmSession → Bool}
    (kind : Nat) (f : Spdm → Nat → Spdm) (hup : s.port.mgmtUp v.binding = true) (hlen : 5 + b.length ≤ 16384)
    (hv : v.session = some i) (hn : n ∈ s.port.mgmt.spdm.sessions) (hi : n.id = i)
    (hresponder : s.port.responder = some n.responder) (hok : ok n = true) :
    s.spdmIn v ok kind b f = (s.spdmAnswer v true kind b).onSpdm (fun z => f z i) := by
  have hany : s.port.mgmt.spdm.sessions.any (fun y => y.id == i && y.responder == n.responder && ok y) = true :=
    List.any_eq_true.mpr ⟨n, hn, by simp [hi, hok]⟩
  rw [State.spdmIn, State.spdm_of_up _ hresponder hup hlen]
  simp only [hv]
  rw [if_pos hany]

theorem State.finish_spdmIn_spdm (old s : State) (v : Via) (kind : Nat) (content : Bytes) (f : Spdm → Spdm) :
    (old.finish ((s.spdmAnswer v true kind content).onSpdm f)).port.mgmt.spdm = f s.port.mgmt.spdm := by
  rw [State.finish_mgmt_spdm]
  rfl

theorem State.finish_spdmIn_length (old s : State) (v : Via) (kind : Nat) (content : Bytes) (f : Spdm → Spdm) :
    s.port.mgmt.out.length < (old.finish ((s.spdmAnswer v true kind content).onSpdm f)).port.mgmt.out.length := by
  have hout := (State.finish_out old ((s.spdmAnswer v true kind content).onSpdm f)).length_le
  have hsent : ((s.spdmAnswer v true kind content).onSpdm f).port.mgmt.out = s.port.mgmt.out ++ [spdmReply v kind content] := rfl
  rw [hsent, List.length_append, List.length_singleton] at hout
  omega

theorem Spdm.mem_onSession {z : Spdm} {n : SpdmSession} (hn : n ∈ z.sessions) (f : SpdmSession → SpdmSession) :
    f n ∈ (z.onSession n.id f).sessions :=
  List.mem_map.mpr ⟨n, hn, if_pos (by simp)⟩

/-! ### The statement -/

/-- Settles O52. The order of the requests is log 38 (PRESUMED from DSP0274), the numbers of sessions log 28, and the bytes of
the answers log 34. -/
theorem attestationAnswers : Obligations.AttestationAnswers := by
  refine ⟨fun s ch v b hr hup hlen => ?_, fun s ch v b hr hup hlen hversion => ?_,
    fun s ch v b hr hup hlen hversion hcapabilities => ?_, fun s ch v b hr hup hlen hready => ?_,
    fun s ch v b hr hup hlen hready => ?_, fun s ch v b hr hup hlen hready => ?_, fun s ch v b hr hup hlen hready => ?_,
    fun s ch v b hr hup hlen hready => ?_, fun s v b i n hup hlen hv hn hi hr hopen => ?_,
    fun s v b i n hup hlen hv hn hi hr hopen => ?_, fun s v b i n hup hlen hv hn hi hr hopen => ?_,
    fun s v b i n hup hlen hv hn hi hr hopen => ?_⟩
  · refine ⟨_, rfl, ?_⟩
    rw [State.spdm_of_up _ hr hup hlen]
    refine ⟨?_, ?_, ?_, State.finish_spdmAnswer (by rfl) ..⟩ <;> rw [State.finish_mgmt_spdm] <;> rfl
  · refine ⟨_, rfl, ?_⟩
    rw [State.spdm_of_up _ hr hup hlen]
    simp only [hversion, if_true]
    exact ⟨by rw [State.finish_mgmt_spdm]; rfl, State.finish_spdmAnswer (by rfl) ..⟩
  · refine ⟨_, rfl, ?_⟩
    rw [State.spdm_of_up _ hr hup hlen]
    simp only [hversion, hcapabilities, Bool.and_true, if_true]
    exact ⟨by rw [State.finish_mgmt_spdm]; rfl, State.finish_spdmAnswer (by rfl) ..⟩
  · refine ⟨_, rfl, ?_⟩
    rw [State.spdm_of_up _ hr hup hlen, hready]
    exact State.finish_spdmAnswer (by rfl) ..
  · refine ⟨_, rfl, ?_⟩
    rw [State.spdm_of_up _ hr hup hlen, hready]
    exact State.finish_spdmAnswer (by rfl) ..
  · refine ⟨_, rfl, ?_⟩
    rw [State.spdm_of_up _ hr hup hlen, hready]
    exact State.finish_spdmAnswer (by rfl) ..
  · refine ⟨_, rfl, ?_⟩
    rw [State.spdm_of_up _ hr hup hlen, hready]
    exact ⟨State.finish_spdmAnswer (by rfl) .., rfl⟩
  · refine ⟨_, rfl, ?_⟩
    rw [State.spdm_of_up _ hr hup hlen]
    simp only [hready, if_true]
    refine ⟨⟨⟨s.port.mgmt.spdm.nextSession, ch, false, 0⟩, ?_, rfl, rfl, rfl⟩, State.finish_spdmAnswer (by rfl) ..⟩
    refine (congrArg (_ ∈ Spdm.sessions ·) (State.finish_mgmt_spdm ..)).mpr ?_
    exact List.mem_append_right _ (List.mem_singleton_self _)
  · refine .intro rfl ?_
    rw [State.spdmIn_of_session _ _ hup hlen hv hn hi hr (by simp [hopen]), State.finish_spdmIn_spdm, ← hi]
    exact ⟨Spdm.mem_onSession hn _, State.finish_spdmIn_length ..⟩
  · refine .intro rfl ?_
    rw [State.spdmIn_of_session _ _ hup hlen hv hn hi hr hopen, State.finish_spdmIn_spdm]
    exact ⟨rfl, State.finish_spdmIn_length ..⟩
  · refine .intro rfl ?_
    rw [State.spdmIn_of_session _ _ hup hlen hv hn hi hr hopen, State.finish_spdmIn_spdm, ← hi]
    exact ⟨Spdm.mem_onSession hn _, State.finish_spdmIn_length ..⟩
  · refine .intro rfl ?_
    rw [State.spdmIn_of_session _ _ hup hlen hv hn hi hr hopen, State.finish_spdmIn_spdm]
    exact fun y hy => ⟨by simpa using (List.mem_filter.mp hy).2, State.finish_spdmIn_length ..⟩

end Sys2Proof.Machine
end

section
/-! The management port's events beside Kerral and attestation (O53): an event recorded without a flush, a firmware transfer,
and the recorder's own events. -/

namespace Sys2Proof.Machine

/-! ### An event recorded alone (R406) -/

/-- An event that is not critical reaches the recorder and starts no flush. -/
theorem PortDie.record_recorder (p : PortDie) {code : Nat} (h : eventSeverity code ≠ 3) (v : Nat) :
    (p.record code v).recorder = p.recorder.event code v := by
  unfold PortDie.record
  extract_lets stamp p1 p2
  have h2 : p2.recorder = p1.recorder := by
    unfold p2
    split <;> rfl
  rw [if_neg (by simpa using h), h2]

/-! ### A firmware transfer (R390) -/

/-- A channel with a good image in the inactive of its flash images. -/
def Channel.written (c : Channel) (image : Bytes) : Channel :=
  if c.imageOk image then c.mapFlash (·.writeInactive image) else c

/-- Of two joined channels in service, each writes the image that passes its checks and notes that it has. -/
theorem State.update_of_service {s : State} (image : Bytes) (hja : s.port.joined .a = true) (hjb : s.port.joined .b = true)
    (ha : s.a.start.step = .service) (hb : s.b.start.step = .service) :
    s.update image = { s with
      a := s.a.written image, b := s.b.written image
      port := { s.port with mgmt := { s.port.mgmt with updateA := s.a.imageOk image, updateB := s.b.imageOk image } } } := by
  have hjoined (m : Mgmt) (ch : Chan) : ({ s.port with mgmt := m } : PortDie).joined ch = s.port.joined ch := rfl
  cases hoka : s.a.imageOk image <;> cases hokb : s.b.imageOk image <;>
    simp [State.update, State.onMgmt, State.updPort, State.setChan, State.chan, Channel.written, hjoined, hja, hjb, ha, hb, hoka,
      hokb]

theorem Channel.written_flash_of_ok {c : Channel} {image : Bytes} (h : c.imageOk image = true) :
    (c.written image).flash = c.flash.writeInactive image := by
  rw [Channel.written, if_pos h]
  rfl

theorem Channel.written_of_not_ok {c : Channel} {image : Bytes} (h : c.imageOk image = false) : c.written image = c :=
  if_neg (by simp [h])

/-! ### A flush of the recorder (R410) -/

@[simp] theorem Recorder.take_opFlushed (r : Recorder) (code v : Nat) : (r.take code v).opFlushed = r.opFlushed := by
  unfold Recorder.take
  extract_lets
  split <;> rfl

@[simp] theorem Recorder.event_opFlushed (r : Recorder) (code v : Nat) : (r.event code v).opFlushed = r.opFlushed := by
  unfold Recorder.event
  split
  · unfold Recorder.overflow
    split <;> rfl
  · extract_lets r
    split
    · unfold Recorder.takeFrozen
      extract_lets
      split
      · split <;> rfl
      · rfl
    · exact Recorder.take_opFlushed ..

@[simp] theorem Recorder.foldl_modify_opFlushed {α : Type} (code : α → Nat) (f : α → EventRec → EventRec) (l : List α)
    (r : Recorder) : (l.foldl (fun r x => r.modify (code x) (f x)) r).opFlushed = r.opFlushed :=
  foldl_keeps _ (fun _ _ => by rfl) l r

@[simp] theorem Recorder.unfreeze_opFlushed (r : Recorder) : r.unfreeze.opFlushed = r.opFlushed := by
  unfold Recorder.unfreeze
  split
  · rfl
  · simp

@[simp] theorem Recorder.copy_opFlushed (r : Recorder) (one : Bool) (trigger : Nat) :
    (r.copy one trigger).opFlushed = r.opFlushed := by simp [Recorder.copy]

@[simp] theorem Recorder.flush_opFlushed (r : Recorder) (trigger : Nat) : (r.flush trigger).opFlushed = r.opFlushed := by
  unfold Recorder.flush
  split
  · exact Recorder.copy_opFlushed ..
  · exact Recorder.copy_opFlushed ..
  · split
    · exact Recorder.copy_opFlushed ..
    · rfl

theorem Recorder.unfreeze_of_frozen {r : Recorder} {n : Nat} (h : r.frozenAt = some n) :
    r.unfreeze.frozenAt = none ∧ r.unfreeze.deltas = [] := by
  simp [Recorder.unfreeze, h]

theorem Recorder.periodic_of_due {r : Recorder} (h : r.optime % 4096 = 0) (hnew : r.optime ≠ r.opFlushed) :
    r.periodic = ({ r with opFlushed := r.optime } : Recorder).flush 4 := by
  simp [Recorder.periodic, h, hnew]

/-! ### The statement -/

/-- Settles O53. That REQUEST_UPDATE comes with the whole image and is answered is log 215, that IDE_KM is one command log 214,
and the bytes of the answers are log 34. -/
theorem managementPortEvents : Obligations.ManagementPortEvents := by
  refine ⟨fun s b e hup => ?_, fun s x hup hrun => ?_, fun s x n ha hb hup hdropped => ?_, fun s v x k h hup hin => ?_,
    fun s v k h hup hin => ?_, fun s v x k h hin => ?_, fun s v b hup hja hjb ha hb => ?_, fun s v hup => ?_,
    fun s v n i hup hi => ?_, fun s n hfrozen hdue => ?_, fun s h hnew => ?_, fun s o i hflushing hqueued => ?_⟩
  · refine ⟨_, rfl, ?_⟩
    simp only [hup]
    cases b <;> rfl
  · refine ⟨_, rfl, ?_⟩
    simp [hup, hrun, State.onMgmt]
  · refine ⟨_, rfl, ?_⟩
    have hdrop : (mctpTypes.contains x.toNat && decide (n ≤ 16384)) = false := by
      rcases hdropped with h | h
      · simp [h]
      · simp [h]
    simp only [hup, hdrop]
    have hrecorded := State.finish_recorder (old := s) (s := s.updPort (fun p => p.record 0x300 x.toNat)) ha hb
    exact hrecorded.trans (PortDie.record_recorder _ (by decide) _)
  · refine ⟨_, rfl, ?_⟩
    simp [hup, hin]
  · refine ⟨_, rfl, ?_⟩
    simp [hup, hin]
  · constructor <;> simp [exec, execIdeKm, hin]
  · refine ⟨_, rfl, ?_⟩
    have hjoined : s.port.joinedChans = [.a, .b] := by simp [PortDie.joinedChans, chans, hja, hjb]
    simp only [hup, State.update_of_service b hja hjb ha hb, hjoined]
    refine ⟨fun ch hok => ?_, fun ch hbad => ?_, ?_⟩
    · cases ch
      · exact Channel.written_flash_of_ok hok
      · exact Channel.written_flash_of_ok hok
    · cases ch
      · exact congrArg Channel.flash (Channel.written_of_not_ok hbad)
      · exact congrArg Channel.flash (Channel.written_of_not_ok hbad)
    · simp [State.answer, State.onMgmt]
  · refine ⟨_, rfl, ?_⟩
    simp [hup, State.answer, State.onMgmt]
  · refine ⟨_, rfl, ?_⟩
    simp [hup, hi, State.answer, State.onMgmt, State.drawn]
  · refine ⟨_, rfl, ?_⟩
    simp only [hfrozen, hdue, if_true]
    exact Recorder.unfreeze_of_frozen hfrozen
  · refine ⟨_, rfl, ?_⟩
    simp only [State.updPort_port, Recorder.periodic_of_due h hnew]
    exact ⟨Recorder.flush_flushing .., Recorder.flush_opFlushed ..⟩
  · refine ⟨_, rfl, ?_⟩
    cases o <;> simp [Recorder.flushDone, hflushing, hqueued]

end Sys2Proof.Machine
end

section
/-! The intake of every Kerral message (O48): what the checks leave of the state, and the message performed or refused. -/

namespace Sys2Proof.Machine

/-! ### A message as it is taken in (R397) -/

/-- A message that the port die takes in, before it begins. -/
def State.freshMsg (s : State) (code : Nat) (m : Kerral) (image : Bytes) : KerralMsg :=
  { s.takenMsg code m image with started := false }

/-- The state in which a message whose checks have passed is performed: it stands alone and begun, its nonce is spent and its
signatures are verified. -/
def State.checked (s : State) (code : Nat) (m : Kerral) (image : Bytes) : State :=
  (((s.taking (s.takenMsg code m image)).spendNonce (s.freshMsg code m image) 0).dropCeremony (s.freshMsg code m image) 0).verifies
    (s.freshMsg code m image) 0

theorem State.upd_self (s : State) (ch : Chan) : s.upd ch (fun c => c) = s := by cases ch <;> rfl

/-- A message that passes its checks ends no ceremony. -/
theorem State.dropCeremony_zero (s : State) (x : KerralMsg) : s.dropCeremony x 0 = s := by
  unfold State.dropCeremony
  extract_lets slot gone
  have hgone (c : Channel) : gone c = false := by simp [gone]
  split
  · rfl
  · simp only [hgone, Bool.false_eq_true, if_false]
    exact foldl_keeps id (fun s ch => s.upd_self ch) _ s

/-- The verifications occupy public-key engines and nothing else. -/
theorem State.verifies_chan (s : State) (x : KerralMsg) (v : Nat) (ch : Chan) :
    ∃ p, (s.verifies x v).chan ch = { s.chan ch with pks := p } := by
  have hone (l : List Auth) (c : Channel) : ∃ p, l.foldl (fun c a => c.verifyOn a.alg) c = { c with pks := p } := by
    induction l generalizing c with
    | nil => exact ⟨c.pks, rfl⟩
    | cons a l ih =>
      obtain ⟨p, h⟩ := ih (c.verifyOn a.alg)
      exact ⟨p, h⟩
  have hall (l : List Auth) (chs : List Chan) (s : State) :
      ∃ p, (chs.foldl (fun s ch => s.upd ch (fun c => l.foldl (fun c a => c.verifyOn a.alg) c)) s).chan ch
        = { s.chan ch with pks := p } := by
    induction chs generalizing s with
    | nil => exact ⟨(s.chan ch).pks, rfl⟩
    | cons d chs ih =>
      obtain ⟨p, h⟩ := ih (s.upd d (fun c => l.foldl (fun c a => c.verifyOn a.alg) c))
      obtain ⟨q, hq⟩ := hone l (s.chan d)
      refine ⟨p, h.trans ?_⟩
      by_cases hd : d = ch
      · rw [hd, State.chan_upd, ← hd, hq]
      · cases d <;> cases ch <;> simp_all [State.chan]
  unfold State.verifies
  extract_lets l
  split
  · exact ⟨(s.chan ch).pks, rfl⟩
  · exact hall l _ s

/-- Of the port die the checks that pass change only the nonces held. -/
theorem State.checked_port (s : State) (code : Nat) (m : Kerral) (image : Bytes) :
    ∃ l, (s.checked code m image).port = { s.port with
      nextIntake := s.port.nextIntake + 1
      mgmt := { s.port.mgmt with counter := s.port.mgmt.counter + 1, messages := [s.takenMsg code m image], nonces := l } } := by
  rw [State.checked, State.verifies_port, State.dropCeremony_port]
  unfold State.spendNonce
  split
  · exact ⟨s.port.mgmt.nonces, rfl⟩
  · exact ⟨_, rfl⟩

theorem State.checked_chan (s : State) (code : Nat) (m : Kerral) (image : Bytes) (ch : Chan) :
    ∃ p, (s.checked code m image).chan ch = { s.chan ch with pks := p } := by
  obtain ⟨p, h⟩ := State.verifies_chan (((s.taking (s.takenMsg code m image)).spendNonce (s.freshMsg code m image) 0).dropCeremony
    (s.freshMsg code m image) 0) (s.freshMsg code m image) 0 ch
  refine ⟨p, h.trans ?_⟩
  rw [State.dropCeremony_zero]
  have hspent (u : State) : (u.spendNonce (s.freshMsg code m image) 0).chan ch = u.chan ch := by
    unfold State.spendNonce
    split <;> rfl
  rw [hspent]
  rfl

@[simp] theorem State.checked_messages (s : State) (code : Nat) (m : Kerral) (image : Bytes) :
    (s.checked code m image).port.mgmt.messages = [s.takenMsg code m image] := by
  obtain ⟨l, h⟩ := s.checked_port code m image
  rw [h]

@[simp] theorem State.checked_numbers (s : State) (code : Nat) (m : Kerral) (image : Bytes) :
    ((s.checked code m image).port.mgmt.counter, (s.checked code m image).port.nextIntake)
      = (s.port.mgmt.counter + 1, s.port.nextIntake + 1) := by
  obtain ⟨l, h⟩ := s.checked_port code m image
  rw [h]

@[simp] theorem State.checked_tide (s : State) (code : Nat) (m : Kerral) (image : Bytes) :
    (s.checked code m image).port.tide = s.port.tide := by
  obtain ⟨l, h⟩ := s.checked_port code m image
  rw [h]

@[simp] theorem State.checked_joinedChans (s : State) (code : Nat) (m : Kerral) (image : Bytes) :
    (s.checked code m image).port.joinedChans = s.port.joinedChans := by
  obtain ⟨l, h⟩ := s.checked_port code m image
  rw [h]
  rfl

/-! ### A message begins (R393) -/

/-- A message that is taken in is marked as begun, and judged as its verdict says. -/
theorem State.startMsg_marked {s : State} {code : Nat} {m : Kerral} {image : Bytes}
    (hagree : s.agreeOn (s.takenMsg code m image)) :
    ((s.taking (s.freshMsg code m image)).updMsg (s.freshMsg code m image).counter (fun y => { y with started := true })).agreed
      (fun c => ((s.taking (s.freshMsg code m image)).updMsg (s.freshMsg code m image).counter
        (fun y => { y with started := true })).kerralVerdict c (s.freshMsg code m image))
      = (s.taking (s.takenMsg code m image), s.verdictOf (s.takenMsg code m image)) := by
  have hmarked : (s.taking (s.freshMsg code m image)).updMsg (s.freshMsg code m image).counter (fun y => { y with started := true })
      = s.taking (s.takenMsg code m image) := by
    simp [State.taking, State.updMsg, State.onMgmt, State.updPort, State.freshMsg, State.takenMsg]
  have hverdict (c : Channel) : (s.taking (s.takenMsg code m image)).kerralVerdict c (s.freshMsg code m image)
      = s.kerralVerdict c (s.takenMsg code m image) := rfl
  rw [hmarked]
  simp only [hverdict]
  exact State.agreed_of_agree hagree

theorem State.startMsg_performs {s : State} {code : Nat} {m : Kerral} {image : Bytes}
    (hagree : s.agreeOn (s.takenMsg code m image)) (hv : s.verdictOf (s.takenMsg code m image) = 0) :
    (s.taking (s.freshMsg code m image)).startMsg (s.freshMsg code m image)
      = (s.checked code m image).perform (s.freshMsg code m image) := by
  unfold State.startMsg
  extract_lets s1
  have hagreed := State.startMsg_marked hagree
  rw [hv] at hagreed
  rw [show s1.agreed (fun c => s1.kerralVerdict c (s.freshMsg code m image)) = _ from hagreed]
  rfl

theorem State.startMsg_refuses {s : State} {code : Nat} {m : Kerral} {image : Bytes}
    (hagree : s.agreeOn (s.takenMsg code m image)) (hv : s.verdictOf (s.takenMsg code m image) ≠ 0) :
    ∃ u : State, u.port.intake = ([s.takenMsg code m image], s.port.mgmt.counter + 1, s.port.nextIntake + 1)
      ∧ (s.taking (s.freshMsg code m image)).startMsg (s.freshMsg code m image)
        = u.complete (s.freshMsg code m image) (s.verdictOf (s.takenMsg code m image)) 0 [] := by
  unfold State.startMsg
  extract_lets s1
  rw [show s1.agreed (fun c => s1.kerralVerdict c (s.freshMsg code m image)) = _ from State.startMsg_marked hagree]
  generalize s.verdictOf (s.takenMsg code m image) = v at hv ⊢
  simp -zeta only
  extract_lets c nonce s3 s4
  have hbegun : s3.port.intake = (s.taking (s.takenMsg code m image)).port.intake := by
    have hspent : ((s.taking (s.takenMsg code m image)).spendNonce (s.freshMsg code m image) v).port.intake
        = (s.taking (s.takenMsg code m image)).port.intake := by
      unfold State.spendNonce
      split <;> rfl
    rw [State.verifies_port, State.dropCeremony_port, hspent]
  rw [if_neg (by simpa using hv)]
  refine ⟨s4, ?_, rfl⟩
  have hnoted : s4.port.intake = s3.port.intake := by
    unfold s4
    split
    · split
      · exact PortDie.record_intake ..
      · rfl
    · rfl
  rw [hnoted, hbegun]
  rfl

/-! ### The message taken in (R397) -/

/-- What a message that nothing stands before becomes, whether it is queued or runs alongside: its execution, where that leaves it
alone and begun. -/
theorem State.kerralIn_of_alone {s : State} {code : Nat} {m : Kerral} {image : Bytes} {y : KerralMsg} (hfree : s.mgmtFree m)
    (hy : ((s.taking (s.freshMsg code m image)).startMsg (s.freshMsg code m image)).port.mgmt.messages = [y])
    (hbegun : y.started = true) :
    s.kerralIn code m image = (s.taking (s.freshMsg code m image)).startMsg (s.freshMsg code m image) := by
  obtain ⟨hup, hlen, hnone⟩ := hfree
  have htaken : s.kerralIn code m image = if runsAlongside code
      then (s.taking (s.freshMsg code m image)).startMsg (s.freshMsg code m image)
      else (s.taking (s.freshMsg code m image)).pump 9 := by
    simp [State.kerralIn, State.taking, State.updPort, State.freshMsg, State.takenMsg, hup, Nat.not_lt.mpr hlen, hnone]
  rw [htaken, State.pump_taking s rfl rfl, State.pump_of_begun hy hbegun, ite_self]

/-- The message as it stands after its work is the one that came, begun. -/
theorem State.performed_message (s : State) (code : Nat) (m : Kerral) (image : Bytes) :
    ∃ y, ((s.checked code m image).perform (s.freshMsg code m image)).port.mgmt.messages = [y]
      ∧ (s.takenMsg code m image).Continues y := by
  obtain ⟨g, hsame, -, hmessages⟩ := (State.Works.perform (s.checked code m image) (s.freshMsg code m image)).messages
  exact ⟨g (s.takenMsg code m image), by rw [hmessages, State.checked_messages, List.map_singleton], hsame _⟩

/-- A message whose checks pass is performed. -/
theorem State.kerralIn_performs {s : State} {code : Nat} {m : Kerral} {image : Bytes} (hfree : s.mgmtFree m)
    (hagree : s.agreeOn (s.takenMsg code m image)) (hv : s.verdictOf (s.takenMsg code m image) = 0) :
    s.kerralIn code m image = (s.checked code m image).perform (s.freshMsg code m image) := by
  have hstart := State.startMsg_performs hagree hv
  obtain ⟨y, hy, hsame⟩ := s.performed_message code m image
  rw [← hstart] at hy
  rw [State.kerralIn_of_alone hfree hy (hsame.started rfl), hstart]

/-- A message that a check refuses holds that check's RESULT, with no effect tide and no data. -/
def KerralMsg.refused (x : KerralMsg) (v : Nat) : KerralMsg := { x with result := some { result := v, effect := 0, data := [] } }

theorem State.kerralIn_refuses {s : State} {code : Nat} {m : Kerral} {image : Bytes} (hfree : s.mgmtFree m)
    (hagree : s.agreeOn (s.takenMsg code m image)) (hv : s.verdictOf (s.takenMsg code m image) ≠ 0) :
    (s.kerralIn code m image).port.intake = ([(s.takenMsg code m image).refused (s.verdictOf (s.takenMsg code m image))],
      s.port.mgmt.counter + 1, s.port.nextIntake + 1) := by
  obtain ⟨u, hintake, hstart⟩ := State.startMsg_refuses hagree hv
  have hrefused := State.complete_refused (x := s.takenMsg code m image) (congrArg Prod.fst hintake) hv 0 []
  have hnumbers := (State.Works.complete u (s.freshMsg code m image) (s.verdictOf (s.takenMsg code m image)) 0 []).numbers
  rw [State.kerralIn_of_alone hfree (by rw [hstart]; exact hrefused) rfl, hstart]
  exact Prod.ext hrefused (hnumbers.trans (congrArg Prod.snd hintake))

/-! ### The command of a message -/

/-- What holds of the end of the work holds of the command of a message whose checks pass. -/
theorem kerral_performs {s : State} {code : Nat} {f : Kerral → Instr} {m : Kerral} {P : State → Prop}
    (hrow : (code, f) ∈ kerralRows) (hfree : s.mgmtFree m) (hagree : s.agreeOn (s.takenMsg code m []))
    (hv : s.verdictOf (s.takenMsg code m []) = 0)
    (h : P (s.finish ((s.checked code m []).perform (s.freshMsg code m [])))) : Completes (f m) s P :=
  ⟨_, (exec_kerralRow hrow m s).trans (by rw [kerral, State.kerralIn_performs hfree hagree hv]), h⟩

theorem State.finish_intake (old s : State) : (old.finish s).port.intake = s.port.intake := by
  simp [PortDie.intake]

/-- What holds wherever the message stands refused holds of the command of a message that a check refuses. -/
theorem kerral_refuses {s : State} {code : Nat} {f : Kerral → Instr} {m : Kerral} {P : State → Prop}
    (hrow : (code, f) ∈ kerralRows) (hfree : s.mgmtFree m) (hagree : s.agreeOn (s.takenMsg code m []))
    (hv : s.verdictOf (s.takenMsg code m []) ≠ 0)
    (h : ∀ t : State, t.port.intake = ([(s.takenMsg code m []).refused (s.verdictOf (s.takenMsg code m []))],
      s.port.mgmt.counter + 1, s.port.nextIntake + 1) → P t) : Completes (f m) s P :=
  ⟨_, exec_kerralRow hrow m s, h _ ((State.finish_intake ..).trans (State.kerralIn_refuses hfree hagree hv))⟩

/-! ### The checks (R393, R405) -/

/-- A verdict of 0 says that the rules of the message's row hold. -/
theorem State.kerralRefused_of_verdict {s : State} {c : Channel} {x : KerralMsg} (h : s.kerralVerdict c x = 0) :
    s.kerralRefused c x = false := by
  cases hrefused : s.kerralRefused c x
  · rfl
  · unfold State.kerralVerdict at h
    extract_lets k b l nonce at h
    rw [hrefused, if_pos rfl] at h
    split at h
    · exact absurd h (by decide)
    · split at h
      · exact absurd h (by decide)
      · repeat' split at h
        all_goals exact absurd h (by decide)

/-- An image import that passes its checks carries an image that opens. -/
theorem State.openImage_of_verdict {s : State} {c : Channel} {x : KerralMsg} (hcode : x.code = 0x53)
    (h : s.kerralVerdict c x = 0) : ∃ r, c.openImage x.image = some r := by
  have hrefused := State.kerralRefused_of_verdict h
  cases hopen : c.openImage x.image with
  | none => simp [State.kerralRefused, hcode, hopen] at hrefused
  | some r => exact ⟨r, rfl⟩

/-- A well-formed message of a code that no row has is refused with UNKNOWN_CODE. -/
theorem State.kerralVerdict_of_unknown {s : State} {x : KerralMsg} (hlayout : s.kerralLayout x.code x.msg = true)
    (hrow : kerralRow x.code = none) (c : Channel) : s.kerralVerdict c x = 2 := by
  simp [State.kerralVerdict, hlayout, hrow]

/-! ### The image import and the ninth message (R397, R405) -/

theorem State.perform_imageImport {s : State} {m : Kerral} {image : Bytes} {r : Regions}
    (hopen : (s.chan (s.port.joinedChans.headD .a)).openImage image = some r) :
    ((s.checked 0x53 m image).perform (s.freshMsg 0x53 m image)).port.mgmt.messages
      = [{ s.takenMsg 0x53 m image with change := some (.image r), target := some (s.port.tide + 2) }] := by
  obtain ⟨p, hchan⟩ := s.checked_chan 0x53 m image (s.port.joinedChans.headD .a)
  have hopened : ((s.checked 0x53 m image).chan ((s.checked 0x53 m image).port.joinedChans.headD .a)).openImage
      (s.freshMsg 0x53 m image).image = some r := by
    rw [State.checked_joinedChans, hchan]
    exact hopen
  have hperform (u : State) (x : KerralMsg) (hcode : x.code = 0x53)
      (ho : (u.chan (u.port.joinedChans.headD .a)).openImage x.image = some r) :
      u.perform x = u.updMsg x.counter (fun y => { y with change := some (.image r), target := some (u.port.tide + 2) }) := by
    simp only [State.perform, hcode, ho]
  rw [hperform _ _ rfl hopened, State.checked_tide]
  exact State.updMsg_messages (x := s.takenMsg 0x53 m image) (s.checked_messages 0x53 m image) _

/-- A message that arrives while eight are outstanding is answered with BUSY. -/
theorem State.kerralIn_of_full {s : State} {m : Kerral} (code : Nat) (hup : s.port.mgmtUp m.via.binding = true)
    (hlen : 19 + m.rest.length ≤ 16384)
    (hfull : 8 ≤ (s.port.mgmt.messages.filter (fun x => !x.result.any (fun r => r.result == 9))).length) :
    s.kerralIn code m = (s.updPort (fun p => { p with
      nextIntake := p.nextIntake + 1
      mgmt := { p.mgmt with counter := p.mgmt.counter + 1, messages := p.mgmt.messages ++ [s.freshMsg code m []] } })).complete
        (s.freshMsg code m []) 9 0 [] := by
  simp [State.kerralIn, State.updPort, hup, Nat.not_lt.mpr hlen, hfull, State.freshMsg, State.takenMsg]

theorem State.complete_refused_mem {s : State} {x : KerralMsg} (h : x ∈ s.port.mgmt.messages) {v : Nat} (hv : v ≠ 0)
    (effect : Nat) (data : Bytes) : x.refused v ∈ (s.complete x v effect data).port.mgmt.messages := by
  have hmessages : (s.complete x v effect data).port.mgmt.messages = s.port.mgmt.messages.map (fun y =>
      if y.counter == x.counter then y.refused v else y) := by
    simp [State.complete, hv, State.updMsg, State.onMgmt, KerralMsg.refused]
  rw [hmessages]
  exact List.mem_map.mpr ⟨x, h, if_pos (by simp)⟩

theorem State.complete_counter (s : State) (x : KerralMsg) (v effect : Nat) (data : Bytes) :
    (s.complete x v effect data).port.mgmt.counter = s.port.mgmt.counter :=
  congrArg Prod.fst (State.Works.complete s x v effect data).numbers

/-! ### The statement -/

/-- Settles O48. The place of TRANSPORT in the order of the checks is log 190, that a message answered with BUSY takes a counter
value is log 201, and what an image opens to is log 198. -/
theorem kerralMessagesAreChecked : Obligations.KerralMessagesAreChecked := by
  refine ⟨fun s code f m hrow hfree hagree => ?_, fun s m image hfree hagree => ?_, fun s code m hfree hrow hlayout => ?_,
    fun s code f m hrow hup hlen hfull => ?_⟩
  · by_cases hv : s.verdictOf (s.takenMsg code m []) = 0
    · refine kerral_performs hrow hfree hagree hv ?_
      obtain ⟨y, hy, hcounter, harrived, hbegun⟩ := s.performed_message code m []
      have hnumbers := (State.Works.perform (s.checked code m []) (s.freshMsg code m [])).numbers.trans
        (s.checked_numbers code m [])
      simp only [State.finish_mgmt_counter, State.finish_port_nextIntake, State.finish_mgmt_messages, hy]
      exact ⟨congrArg Prod.fst hnumbers, congrArg Prod.snd hnumbers, y, List.mem_singleton_self y, hcounter,
        congrArg Prod.fst harrived, congrArg (·.2.1) harrived, hbegun rfl, fun hne => absurd hv hne⟩
    · refine kerral_refuses hrow hfree hagree hv fun t ht => ?_
      obtain ⟨hmessages, hcounter, hnext⟩ := Prod.mk.inj ht |>.imp_right Prod.mk.inj
      exact ⟨hcounter, hnext, _, by rw [hmessages]; exact List.mem_singleton_self _, rfl, rfl, rfl, rfl, fun _ => rfl⟩
  · refine ⟨_, rfl, ?_⟩
    by_cases hv : s.verdictOf (s.takenMsg 0x53 m image) = 0
    · obtain ⟨r, hopen⟩ := State.openImage_of_verdict (x := s.takenMsg 0x53 m image) rfl hv
      have hmessages := State.perform_imageImport (s := s) (m := m) (image := image) hopen
      have hnumbers := (State.Works.perform (s.checked 0x53 m image) (s.freshMsg 0x53 m image)).numbers.trans
        (s.checked_numbers 0x53 m image)
      simp only [State.finish_mgmt_counter, State.finish_port_nextIntake, State.finish_mgmt_messages,
        State.kerralIn_performs hfree hagree hv, hmessages, if_pos hv]
      exact ⟨congrArg Prod.fst hnumbers, congrArg Prod.snd hnumbers, _, List.mem_singleton_self _, rfl, rfl, rfl,
        ⟨r, hopen, rfl⟩, rfl⟩
    · obtain ⟨hmessages, hcounter, hnext⟩ := Prod.mk.inj (State.kerralIn_refuses hfree hagree hv) |>.imp_right Prod.mk.inj
      simp only [State.finish_mgmt_counter, State.finish_port_nextIntake, State.finish_mgmt_messages, hmessages, hcounter, hnext,
        if_neg hv]
      exact ⟨trivial, trivial, _, List.mem_singleton_self _, rfl, rfl, rfl, rfl⟩
  · refine ⟨_, rfl, ?_⟩
    have hverdict := State.kerralVerdict_of_unknown (s := s) (x := s.takenMsg code.toNat m []) hlayout hrow
    have hv : s.verdictOf (s.takenMsg code.toNat m []) = 2 := hverdict _
    have hrefused := congrArg Prod.fst (State.kerralIn_refuses (image := []) hfree (fun _ => by rw [hverdict, hverdict])
      (by rw [hv]; decide))
    rw [hv] at hrefused
    beta_reduce
    rw [State.finish_mgmt_messages, show (s.kerralIn code.toNat m).port.mgmt.messages = _ from hrefused]
    exact ⟨_, List.mem_singleton_self _, rfl, rfl, rfl⟩
  · refine ⟨_, exec_kerralRow hrow m s, ?_⟩
    beta_reduce
    rw [State.finish_mgmt_counter, State.finish_mgmt_messages, State.kerralIn_of_full code hup hlen hfull,
      State.complete_counter]
    refine ⟨rfl, _,
      State.complete_refused_mem ?_ (by decide) 0 [], rfl, rfl⟩
    exact List.mem_append_right _ (List.mem_singleton_self _)

end Sys2Proof.Machine
end

section
/-! The Kerral queries and orders whose effect is their own (O50): GET_NONCE, GET_STATUS, RECORDER_READ, SLACK, ceremonies,
activation, SVN commit and the store image. -/

namespace Sys2Proof.Machine

/-! ### A completion (R397) -/

/-- A message that completes holds its effect tide and its data. -/
def KerralMsg.done (x : KerralMsg) (effect : Nat) (data : Bytes) : KerralMsg :=
  { x with result := some { result := 0, effect := effect, data := data } }

theorem State.complete_done {s : State} {x : KerralMsg} (h : s.port.mgmt.messages = [x]) (effect : Nat) (data : Bytes) :
    (s.complete x 0 effect data).port.mgmt.messages = [x.done effect data] := by
  have hdone := State.updMsg_messages h
    (fun z => { z with result := some { result := 0, effect := effect, data := data } })
  unfold State.complete
  extract_lets t
  split
  · exact (PortDie.record_messages ..).trans hdone
  · split
    · exact hdone
    · exact (PortDie.record_messages ..).trans hdone

/-- What a completion leaves of the management port: the nonces and the tide of Sleep. -/
theorem State.complete_kept (s : State) (x : KerralMsg) (v effect : Nat) (data : Bytes) :
    (s.complete x v effect data).port.mgmt.nonces = s.port.mgmt.nonces
      ∧ (s.complete x v effect data).port.mgmt.slack = s.port.mgmt.slack := by
  have hrecord (p : PortDie) (code w : Nat) :
      (p.record code w).mgmt.nonces = p.mgmt.nonces ∧ (p.record code w).mgmt.slack = p.mgmt.slack := by
    obtain ⟨r, n, o, h⟩ := p.record_eq code w
    rw [h]
    exact ⟨rfl, rfl⟩
  unfold State.complete
  extract_lets t
  split
  · exact hrecord t.port _ _
  · split
    · exact ⟨rfl, rfl⟩
    · exact hrecord t.port _ _

/-! ### What the checks leave to the work -/

/-- A message without authorisations spends at most a nonce. -/
theorem State.checked_of_query (s : State) {code role : Nat} (m : Kerral) (image : Bytes) (hrow : kerralRow code = some (0, role)) :
    s.checked code m image = (s.taking (s.takenMsg code m image)).spendNonce (s.freshMsg code m image) 0 := by
  rw [State.checked, State.dropCeremony_zero]
  unfold State.verifies
  extract_lets l
  have hnone : (kerralRow (s.freshMsg code m image).code).all (fun r => r.1 == 0) = true := by
    rw [show (s.freshMsg code m image).code = code from rfl, hrow]
    rfl
  rw [if_pos (by simp [hnone])]

@[simp] theorem State.checked_mgmtDraw (s : State) (code : Nat) (m : Kerral) (image : Bytes) (counter index len : Nat) :
    (s.checked code m image).mgmtDraw counter index len = s.mgmtDraw counter index len := by
  unfold State.mgmtDraw
  rw [State.checked_joinedChans]
  cases s.port.joinedChans with
  | nil => rfl
  | cons ch l =>
    obtain ⟨p, h⟩ := s.checked_chan code m image ch
    simp only [h]

@[simp] theorem State.countMgmtDraw_port (s : State) (len : Nat) : (s.countMgmtDraw len).port = s.port :=
  State.foldl_upd_port (fun _ => _) _ s

theorem State.checked_storeImage (s : State) (code : Nat) (m : Kerral) (image : Bytes) (ch : Chan) :
    ((s.checked code m image).chan ch).storeImage = (s.chan ch).storeImage := by
  obtain ⟨p, h⟩ := s.checked_chan code m image ch
  rw [h]
  rfl

theorem State.checked_statusData (s : State) (m : Kerral) : (s.checked 2 m []).statusData = s.statusData := by
  rw [State.checked_of_query s m [] (role := 0) rfl]
  unfold State.spendNonce
  split <;> rfl

theorem State.checked_recorder (s : State) (code : Nat) (m : Kerral) (image : Bytes) :
    (s.checked code m image).port.recorder = s.port.recorder := by
  obtain ⟨l, h⟩ := s.checked_port code m image
  rw [h]

/-- The last of the nonces is among the 16 that stay live. -/
theorem mem_last_sixteen (l : List Nonce) (n : Nonce) : n ∈ (l ++ [n]).drop ((l ++ [n]).length - 16) := by
  rw [List.drop_append_of_le_length (by simp)]
  exact List.mem_append_right _ (List.mem_singleton_self n)

/-- The work of a message does not depend on whether it is marked as begun. -/
theorem State.perform_freshMsg (s u : State) (code : Nat) (m : Kerral) (image : Bytes) :
    u.perform (s.freshMsg code m image) = u.perform (s.takenMsg code m image) := rfl

/-! ### GET_NONCE and CEREMONY_BEGIN (R399, R402) -/

theorem State.giveNonce_of_none {u : State} {x : KerralMsg} (h : u.port.mgmt.messages = [x])
    (hdraw : u.mgmtDraw x.counter 0xFF 24 = none) : (u.giveNonce x).port.mgmt.messages = [x.refused 11] := by
  rw [State.giveNonce, hdraw]
  exact State.complete_refused h (by decide) 0 []

/-- GET_NONCE answers the counter value and its nonce, which is live. -/
theorem State.giveNonce_of_draw {u : State} {x : KerralMsg} {d : Bytes} (h : u.port.mgmt.messages = [x])
    (hdraw : u.mgmtDraw x.counter 0xFF 24 = some d) :
    (u.giveNonce x).port.mgmt.messages = [x.done 0 (leBytes 4 (x.counter % 2 ^ 32) ++ (beBytes 8 x.counter ++ d))]
      ∧ { id := BitVec.ofNat 32 x.counter, value := beBytes 8 x.counter ++ d, tide := u.port.tide }
        ∈ (u.giveNonce x).port.mgmt.nonces := by
  rw [State.giveNonce, hdraw]
  refine ⟨State.complete_done ?_ 0 _, ?_⟩
  · rw [State.onMgmt, State.updPort_port, State.countMgmtDraw_port]
    exact h
  · rw [(State.complete_kept ..).1, State.onMgmt, State.updPort_port]
    exact mem_last_sixteen _ _

/-- The session that CEREMONY_BEGIN opens, with its nonce (R402). -/
def KerralMsg.openedSession (x : KerralMsg) (d : Bytes) : Session :=
  let b := x.msg.body
  { slot := leAt b 4 4, function := u8 b 0, ceremony := true, count := u8 b 1, replace := u8 b 3 == 1, attr := slice b 16 16,
    kcv := slice b 32 (u8 b 2), nonce := d, expiry := x.intakeTide + 500000 * leAt b 8 2, received := [], contributors := [] }

theorem State.openCeremony_messages {u : State} {x : KerralMsg} (h : u.port.mgmt.messages = [x]) :
    (u.openCeremony x).port.mgmt.messages = match u.mgmtDraw x.counter 0xFE 16 with
      | none => [x.refused 11]
      | some d => [{ x with change := some (.openSession (x.openedSession d)), target := some (u.port.tide + 2) }] := by
  cases hdraw : u.mgmtDraw x.counter 0xFE 16 with
  | none =>
    rw [State.openCeremony, hdraw]
    exact State.complete_refused h (by decide) 0 []
  | some d =>
    rw [State.openCeremony, hdraw]
    exact State.updMsg_messages (by rw [State.countMgmtDraw_port, h]) _

/-! ### IMAGE_EXPORT (R405) -/

@[simp] theorem State.hostBytes_port (s : State) (f addr : Nat) (bs : Bytes) : (s.hostBytes f addr bs).port = s.port :=
  foldl_keeps State.port (fun _ _ => by rfl) _ s

/-- Channels whose images agree: the length and the digest of the image are answered. -/
theorem State.perform_imageExport {u : State} {x : KerralMsg} (hcode : x.code = 0x52) (h : u.port.mgmt.messages = [x])
    (hagree : u.port.bothJoined = true → u.a.storeImage = u.b.storeImage) :
    (u.perform x).port.mgmt.messages = [x.done 0 (leBytes 8 (u.chan (u.port.joinedChans.headD .a)).storeImage.length
      ++ sha384 (u.chan (u.port.joinedChans.headD .a)).storeImage)] := by
  have hagreed := State.agreed_of_agree (f := (·.storeImage)) hagree
  have hperform : u.perform x = ((u.agreed (·.storeImage)).1.hostBytes 0 (leAt x.msg.body 0 8) (u.agreed (·.storeImage)).2).complete
      x 0 0 (leBytes 8 (u.agreed (·.storeImage)).2.length ++ sha384 (u.agreed (·.storeImage)).2) := by
    simp only [State.perform, hcode]
  rw [hperform, hagreed]
  exact State.complete_done (by rw [State.hostBytes_port, h]) 0 _

/-! ### A message's own effect -/

/-- A message whose checks pass has the effect of its work; one that a check refuses holds that check's RESULT. -/
theorem kerral_effect {s : State} {code v : Nat} {f : Kerral → Instr} {m : Kerral} {P : State → KerralMsg → Prop}
    (hrow : (code, f) ∈ kerralRows) (hfree : s.mgmtFree m) (hagree : s.agreeOn (s.takenMsg code m []))
    (hv : v = s.verdictOf (s.takenMsg code m []))
    (h : ∃ y, ((s.checked code m []).perform (s.takenMsg code m [])).port.mgmt.messages = [y]
      ∧ y.counter = s.port.mgmt.counter + 1 ∧ P (s.finish ((s.checked code m []).perform (s.takenMsg code m []))) y) :
    Completes (f m) s (fun t => ∃ x ∈ t.port.mgmt.messages, x.counter = s.port.mgmt.counter + 1 ∧
      if v = 0 then P t x else x.result = some { result := v, effect := 0, data := [] }) := by
  subst hv
  by_cases hzero : s.verdictOf (s.takenMsg code m []) = 0
  · refine kerral_performs hrow hfree hagree hzero ?_
    obtain ⟨y, hy, hcounter, hP⟩ := h
    rw [State.perform_freshMsg]
    refine ⟨y, ?_, hcounter, ?_⟩
    · rw [State.finish_mgmt_messages, hy]
      exact List.mem_singleton_self y
    · rwa [if_pos hzero]
  · refine kerral_refuses hrow hfree hagree hzero fun t ht => ?_
    have hmessages : t.port.mgmt.messages = _ := congrArg Prod.fst ht
    refine ⟨_, by rw [hmessages]; exact List.mem_singleton_self _, rfl, ?_⟩
    rw [if_neg hzero]
    rfl

/-- The effect of a message whose checks pass. -/
theorem kerral_effect_of_zero {s : State} {code : Nat} {f : Kerral → Instr} {m : Kerral} {P : State → KerralMsg → Prop}
    (hrow : (code, f) ∈ kerralRows) (hfree : s.mgmtFree m) (hagree : s.agreeOn (s.takenMsg code m []))
    (hv : s.verdictOf (s.takenMsg code m []) = 0)
    (h : ∃ y, ((s.checked code m []).perform (s.takenMsg code m [])).port.mgmt.messages = [y]
      ∧ y.counter = s.port.mgmt.counter + 1 ∧ P (s.finish ((s.checked code m []).perform (s.takenMsg code m []))) y) :
    Completes (f m) s (fun t => ∃ x ∈ t.port.mgmt.messages, x.counter = s.port.mgmt.counter + 1 ∧ P t x) := by
  obtain ⟨t, hstep, x, hx, hcounter, hP⟩ := kerral_effect hrow hfree hagree hv.symm h
  exact ⟨t, hstep, x, hx, hcounter, by rwa [if_pos rfl] at hP⟩

/-! ### SLACK (R371) -/

theorem State.perform_slack {u : State} {x : KerralMsg} (hcode : x.code = 0x22) :
    u.perform x = (u.onMgmt (fun y => { y with slack := some (u.port.tide + 2) })).complete x 0 (u.port.tide + 2) [] := by
  simp only [State.perform, hcode]

theorem State.slack_of_performed (s : State) (m : Kerral) :
    ((s.checked 0x22 m []).perform (s.takenMsg 0x22 m [])).port.mgmt.slack = some (s.port.tide + 2) := by
  have hperform := State.perform_slack (u := s.checked 0x22 m []) (x := s.takenMsg 0x22 m []) rfl
  have hkept := State.complete_kept ((s.checked 0x22 m []).onMgmt (fun y => { y with slack := some ((s.checked 0x22 m []).port.tide + 2) }))
    (s.takenMsg 0x22 m []) 0 ((s.checked 0x22 m []).port.tide + 2) []
  rw [hperform, hkept.2, State.checked_tide]
  rfl

/-! ### The statement -/

/-- Settles O50. That GET_NONCE answers FAULT where no epoch gives material is log 199. -/
theorem kerralQueriesAndOrders : Obligations.KerralQueriesAndOrders := by
  refine ⟨fun s m hfree hagree hv => ?_, fun s m hfree hagree hv => ?_, fun s m n hfree hagree hv hn => ?_,
    fun s m v hfree hagree hv => ?_, fun s m v hfree hagree hv => ?_, fun s m v hfree hagree hv => ?_,
    fun s m v hfree hagree hv => ?_, fun s m v hfree hagree hv => ?_, fun s m v hfree hagree hv himage => ?_⟩
  · refine kerral_effect_of_zero (f := .getStatus) (by simp [kerralRows]) hfree hagree hv
      ⟨(s.takenMsg 2 m []).done 0 (s.checked 2 m []).statusData, ?_, rfl, ?_⟩
    · exact State.complete_done (s.checked_messages 2 m []) 0 (s.checked 2 m []).statusData
    · rw [← s.checked_statusData m]
      rfl
  · refine kerral_effect_of_zero (f := .recorderRead) (by simp [kerralRows]) hfree hagree hv
      ⟨(s.takenMsg 0x60 m []).done 0 ((s.checked 0x60 m []).port.recorder.read (leAt m.body 0 2) (u8 m.body 2)), ?_, rfl, ?_⟩
    · exact State.complete_done (s.checked_messages 0x60 m []) 0
        ((s.checked 0x60 m []).port.recorder.read (leAt m.body 0 2) (u8 m.body 2))
    · rw [s.checked_recorder 0x60 m []]
      rfl
  · subst hn
    have hmessages := s.checked_messages 1 m []
    have hdrawn := s.checked_mgmtDraw 1 m [] (s.port.mgmt.counter + 1) 0xFF 24
    cases hdraw : s.mgmtDraw (s.port.mgmt.counter + 1) 0xFF 24 with
    | none =>
      rw [hdraw] at hdrawn
      exact kerral_effect_of_zero (f := .getNonce) (by simp [kerralRows]) hfree hagree hv
        ⟨_, State.giveNonce_of_none hmessages hdrawn, rfl, rfl⟩
    | some d =>
      rw [hdraw] at hdrawn
      obtain ⟨hgiven, hlive⟩ := State.giveNonce_of_draw hmessages hdrawn
      refine kerral_effect_of_zero (f := .getNonce) (by simp [kerralRows]) hfree hagree hv ⟨_, hgiven, rfl, rfl, ?_⟩
      rw [State.checked_tide] at hlive
      rw [State.finish_mgmt_nonces]
      exact hlive
  · refine kerral_effect (f := .slack) (by simp [kerralRows]) hfree hagree hv
      ⟨(s.takenMsg 0x22 m []).done (s.port.tide + 2) [], ?_, rfl, ?_, rfl⟩
    · have hperform := State.perform_slack (u := s.checked 0x22 m []) (x := s.takenMsg 0x22 m []) rfl
      rw [hperform, State.checked_tide]
      exact State.complete_done (by exact s.checked_messages 0x22 m []) (s.port.tide + 2) []
    · exact (State.finish_mgmt_slack ..).trans (s.slack_of_performed m)
  · have hopened := State.openCeremony_messages (s.checked_messages 0x34 m [])
    rw [State.checked_mgmtDraw, State.checked_tide] at hopened
    cases hdraw : s.mgmtDraw (s.port.mgmt.counter + 1) 0xFE 16 with
    | none =>
      rw [show s.mgmtDraw (s.takenMsg 0x34 m []).counter 0xFE 16 = none from hdraw] at hopened
      exact kerral_effect (f := .ceremonyBegin) (by simp [kerralRows]) hfree hagree hv ⟨_, hopened, rfl, rfl⟩
    | some d =>
      rw [show s.mgmtDraw (s.takenMsg 0x34 m []).counter 0xFE 16 = some d from hdraw] at hopened
      exact kerral_effect (f := .ceremonyBegin) (by simp [kerralRows]) hfree hagree hv
        ⟨_, hopened, rfl, rfl, _, rfl, rfl, rfl, rfl, rfl, rfl, rfl⟩
  · refine kerral_effect (f := .ceremonyComponent) (by simp [kerralRows]) hfree hagree hv
      ⟨_, State.updMsg_messages (s.checked_messages 0x35 m []) _, rfl, ?_, _, rfl⟩
    exact congrArg (fun t => some (t + 2)) (s.checked_tide 0x35 m [])
  · refine kerral_effect (f := .updateActivate) (by simp [kerralRows]) hfree hagree hv
      ⟨_, s.checked_messages 0x50 m [], rfl, ?_, rfl, ?_⟩
    · rw [State.finish_port_assay, ← s.checked_tide 0x50 m []]
      simp [State.perform, State.takenMsg]
    · rw [State.finish_mgmt_activation]
      simp [State.perform, State.takenMsg]
  · refine kerral_effect (f := .svnCommit) (by simp [kerralRows]) hfree hagree hv ⟨_, s.checked_messages 0x51 m [], rfl, ?_, rfl⟩
    rw [State.finish_port_svnTarget, ← s.checked_tide 0x51 m []]
    rfl
  · have himages : (s.checked 0x52 m []).port.bothJoined = true →
        (s.checked 0x52 m []).a.storeImage = (s.checked 0x52 m []).b.storeImage := by
      intro hboth
      have hjoined : s.port.bothJoined = true := by
        obtain ⟨l, hport⟩ := s.checked_port 0x52 m []
        rw [hport] at hboth
        exact hboth
      exact (s.checked_storeImage 0x52 m [] .a).trans ((himage hjoined).trans (s.checked_storeImage 0x52 m [] .b).symm)
    have hexport := State.perform_imageExport (x := s.takenMsg 0x52 m []) rfl (s.checked_messages 0x52 m []) himages
    rw [State.checked_joinedChans, State.checked_storeImage] at hexport
    exact kerral_effect (f := .imageExport) (by simp [kerralRows]) hfree hagree hv ⟨_, hexport, rfl, rfl⟩

end Sys2Proof.Machine
end

section
/-! The messages of a refill (O38): what a delta leaves of the refill under way, and what each message brings. -/

namespace Sys2Proof.Machine

/-! ### The refill under a delta (R327) -/

@[simp] theorem Channel.applySlot_refill (c : Channel) (recs : List (Nat × Bytes)) : (c.applySlot recs).refill = c.refill := by
  unfold Channel.applySlot
  extract_lets
  split <;> rfl

/-- A change of the management records or of the flash area leaves the refill. -/
theorem Channel.change_refill_of_record (c : Channel) (n : Nat) {x : Change} (h : x.isRecord = true) :
    (c.change n x).1.refill = c.refill := by
  cases x <;> simp [Change.isRecord] at h <;> rfl

@[simp] theorem Channel.applyImage_refill (c : Channel) (i : Image) : (c.applyImage i).refill = c.refill := by
  cases i with
  | slot recs => exact c.applySlot_refill recs
  | management x =>
    unfold Channel.applyImage
    dsimp only
    split
    · next h => exact c.change_refill_of_record 0 h
    · rfl
  | _ => rfl

/-- A delta moves the refill on past it and changes nothing else of it. -/
theorem Channel.takeDelta_refill (c : Channel) (d : Delta) :
    (c.takeDelta d).refill = { c.refill with nextSend := d.jseq + 1 } := by
  unfold Channel.takeDelta
  extract_lets e
  have he : e.refill = c.refill := by
    unfold e
    split
    · rfl
    · exact c.applyImage_refill d.image
  exact congrArg (fun r : Refill => { r with nextSend := d.jseq + 1 }) he

theorem Channel.takeLate_awaits (c : Channel) (d : Delta) : (c.takeLate d).refill.awaitHandover = c.refill.awaitHandover := by
  unfold Channel.takeLate
  split
  · split
    · split <;> rfl
    · rfl
  · rw [Channel.takeDelta_refill]

/-- What is still to be sent after the first of the deltas that were: the rest of them, in a ring in the order of JSEQ. -/
theorem filter_sends_rest {ring l : List Delta} {r : Refill} {d : Delta} (hring : ring.Pairwise (fun y z => y.jseq < z.jseq))
    (h : ring.filter r.sends = d :: l) : ring.filter ({ r with nextSend := d.jseq + 1 } : Refill).sends = l := by
  have hfirst : r.nextSend ≤ d.jseq := by
    have hd : d ∈ ring.filter r.sends := by rw [h]; exact List.mem_cons_self
    have hsends := (List.mem_filter.mp hd).2
    simp only [Refill.sends, Bool.and_eq_true, decide_eq_true_eq] at hsends
    exact hsends.1
  have hsends (y : Delta) : ({ r with nextSend := d.jseq + 1 } : Refill).sends y = (decide (d.jseq + 1 ≤ y.jseq) && r.sends y) := by
    rw [Bool.eq_iff_iff]
    simp only [Refill.sends, Bool.and_eq_true, decide_eq_true_eq]
    constructor
    · rintro ⟨h1, h2⟩
      exact ⟨h1, by omega, h2⟩
    · rintro ⟨h1, -, h2⟩
      exact ⟨h1, h2⟩
  have hordered : (d :: l).Pairwise (fun y z => y.jseq < z.jseq) := h ▸ hring.filter _
  obtain ⟨hlater, -⟩ := List.pairwise_cons.mp hordered
  calc ring.filter ({ r with nextSend := d.jseq + 1 } : Refill).sends
      = (ring.filter r.sends).filter (fun y => decide (d.jseq + 1 ≤ y.jseq)) := by
        rw [List.filter_filter]
        exact List.filter_congr fun y _ => hsends y
    _ = l := by
        rw [h, List.filter_cons_of_neg (by simp)]
        exact List.filter_eq_self.mpr fun y hy => decide_eq_true (hlater y hy)

/-! ### The refill where placeholders end (R329) -/

theorem Channel.bindAll_refill (c : Channel) (id : Nat) : (c.bindAll id).refill = c.refill := by
  unfold Channel.bindAll
  split
  · rfl
  · refine foldl_keeps Channel.refill (fun c k => ?_) _ c
    split
    · next y _ =>
      split
      · rfl
      · obtain ⟨k', j, b, h, -⟩ := c.bindSlot_eq y k.2
        rw [h]
        rfl
    · rfl

theorem Channel.settle_refill (c : Channel) : c.settle.refill = c.refill :=
  (foldl_keeps Channel.refill (fun c (x : Item) => c.bindAll_refill x.id) _ c.popReaders).trans rfl

/-- Placeholders that end leave the rest of the refill. -/
theorem Channel.dropPlaceholders_refill (c : Channel) (gone : Nat × FlowKind × Nat → Bool) :
    ∃ l, (c.dropPlaceholders gone).refill = { c.refill with placeholders := l } :=
  ⟨_, (Channel.settle_refill _).trans ((foldl_keeps Channel.refill (fun _ _ => by rfl) _ _).trans rfl)⟩

/-- A channel that awaits its handover does not leave its refill. -/
theorem State.endWriters_refill {s : State} {x : Chan} (hawait : (s.chan x).refill.awaitHandover = true) :
    ∃ l, ((s.endWriters x).chan x).refill = { (s.chan x).refill with placeholders := l } := by
  unfold State.endWriters
  extract_lets d alive late t u
  obtain ⟨l, hl⟩ := (s.chan x).dropPlaceholders_refill (fun p => !alive p.1 && !late.contains p.1)
  have ht : (t.chan x).refill = { (s.chan x).refill with placeholders := l } := by rw [State.chan_upd, hl]
  rw [if_pos (by simp [ht, hawait])]
  exact ⟨l, ht⟩

theorem State.lateDelta_refill {s : State} {x : Chan} {d : Delta} {l : List Delta} (hlate : s.lateDeltas x = d :: l)
    (hawait : (s.chan x).refill.awaitHandover = true) :
    ((s.lateDelta x).chan x).refill.nextSend = d.jseq + 1 ∧ ((s.lateDelta x).chan x).refill.awaitHandover = true := by
  unfold State.lateDelta
  extract_lets t
  have ht : t = (s.sluiceMsg x.peer (.delta d)).upd x (fun c =>
      ({ (c.takeLate d) with refill := { (c.takeLate d).refill with nextSend := d.jseq + 1 } } : Channel).dropPlaceholders
        (fun p => p.1 == d.intake && d.image.object == some p.2.1)) := by
    simp only [t, hlate, List.head?_cons]
  obtain ⟨c, hc, hchan⟩ : ∃ c : Channel, c.refill.awaitHandover = true ∧ t.chan x
      = ({ (c.takeLate d) with refill := { (c.takeLate d).refill with nextSend := d.jseq + 1 } } : Channel).dropPlaceholders
        (fun p => p.1 == d.intake && d.image.object == some p.2.1) := by
    refine ⟨(s.sluiceMsg x.peer (.delta d)).chan x, ?_, by rw [ht, State.chan_upd]⟩
    have hreceived := s.sluiceMsg_receiver x.peer (.delta d)
    rw [Chan.peer_peer] at hreceived
    rw [hreceived]
    exact hawait
  obtain ⟨l1, h1⟩ := Channel.dropPlaceholders_refill
    ({ (c.takeLate d) with refill := { (c.takeLate d).refill with nextSend := d.jseq + 1 } } : Channel)
    (fun p => p.1 == d.intake && d.image.object == some p.2.1)
  rw [← hchan] at h1
  have hstill : (t.chan x).refill.awaitHandover = true := by
    rw [h1]
    exact (c.takeLate_awaits d).trans hc
  obtain ⟨l2, h2⟩ := State.endWriters_refill hstill
  rw [h2]
  exact ⟨by rw [h1], hstill⟩

/-! ### A message to the refilling channel -/

theorem State.sluiceMsg_upd_sender (s : State) (x : Chan) (m : SluiceMsg) (f : Channel → Channel) :
    ((s.sluiceMsg x.peer m).upd x f).chan x.peer = (s.chan x.peer).sluiceSent m := by
  rw [State.chan_upd_peer, State.sluiceMsg_sender]

theorem State.sluiceMsg_upd_receiver (s : State) (x : Chan) (m : SluiceMsg) (f : Channel → Channel) :
    ((s.sluiceMsg x.peer m).upd x f).chan x = f ((s.chan x).sluiceTaken ((s.chan x.peer).sealed m)) := by
  have hreceived := s.sluiceMsg_receiver x.peer m
  rw [Chan.peer_peer] at hreceived
  rw [State.chan_upd, hreceived]

/-- The repair list crosses and its images come back: X goes on to the replay, and the survivor has taken one message and sent
one. -/
theorem State.repair_chans (s : State) (x : Chan) : ((s.repair x).chan x).refill.step = .replay
    ∧ (s.repair x).chan x.peer = ((s.chan x.peer).sluiceTaken ((s.chan x).sealed .repairList)).sluiceSent .repairImage := by
  unfold State.repair
  extract_lets src t
  refine ⟨?_, ?_⟩
  · rw [State.chan_upd]
    rfl
  · rw [State.chan_upd_peer, State.sluiceMsg_sender, State.sluiceMsg_receiver]

/-! ### The commands -/

/-- The next delta to send crosses and is taken. -/
theorem exec_journalDeltaReceived {s : State} {x : Chan} (hjoin : s.joining = none) (hx : s.refilling = some x)
    (hup : s.sluiceUp = true) (hstep : (s.chan x).refill.step = .replay ∨ (s.chan x).refill.step = .catchUp) :
    exec .journalDeltaReceived s = .next (s.nextDelta x) := by
  have hok : ((s.chan x).refill.step == .replay || (s.chan x).refill.step == .catchUp) = true := by
    rcases hstep with hstep | hstep <;> simp [hstep]
  simp only [exec, execJournalDeltaReceived, hjoin]
  rw [State.refillAt_eq hx hup hok]

theorem exec_stateSnapshotReceived {s : State} {x : Chan} (hx : s.refilling = some x) (hup : s.sluiceUp = true)
    (hstep : (s.chan x).refill.step = .snapshots ∨ (s.chan x).refill.step = .replay ∧ s.toSend x = []) :
    exec .stateSnapshotReceived s = .next ((s.sluiceMsg x.peer .snapshot).upd x
      (fun c => (c.takeSnapshot (s.chan x.peer)).refillStep .catchUp)) := by
  have hok : ((s.chan x).refill.step == .replay || (s.chan x).refill.step == .snapshots) = true := by
    rcases hstep with hstep | ⟨hstep, -⟩ <;> simp [hstep]
  have hlast : ¬ ((s.chan x).refill.step == .replay && !(s.toSend x).isEmpty) = true := by
    rcases hstep with hstep | ⟨hstep, hnone⟩
    · simp [hstep]
    · simp [hstep, hnone]
  simp only [exec, execStateSnapshotReceived]
  rw [State.refillAt_eq hx hup hok, if_neg hlast]

/-- What a delta that is taken leaves to be sent. -/
theorem State.toSend_of_taken {s t : State} {x : Chan} {d : Delta} {l : List Delta} {c : Channel} {m : SluiceMsg}
    (hsend : s.toSend x = d :: l) (hring : (s.chan x.peer).journal.ring.Pairwise (fun y z => y.jseq < z.jseq))
    (hc : c.refill = (s.chan x).refill) (htaken : t.chan x = c.takeDelta d)
    (hsent : t.chan x.peer = (s.chan x.peer).sluiceSent m) : t.toSend x = l := by
  rw [State.toSend, htaken, hsent, Channel.takeDelta_refill, hc]
  exact filter_sends_rest hring hsend

/-- Settles O38. That the management records go with the regions is log 128. -/
theorem refillTakesTheSurvivorsState : Obligations.RefillTakesTheSurvivorsState := by
  refine ⟨fun s x hx hup hstep => ?_, fun s x d l hjoin hx hup hstep hring hsend => ?_,
    fun s x d l hjoin hup hawait hlate => ?_, fun s x hjoin hx hup hstep hring => ?_, fun s x hx hup hstep => ?_,
    fun s x hx hup hstep => ?_⟩
  · exact ⟨_, congrArg Host.Outcome.next (State.refillAt_eq hx hup (by simp [hstep]) _), s.repair_chans x⟩
  · have hnext : s.nextDelta x = (s.sluiceMsg x.peer (.delta d)).upd x (·.takeDelta d) := by
      simp [State.nextDelta, hring, hsend]
    have hx' := s.sluiceMsg_upd_receiver x (.delta d) (·.takeDelta d)
    have hpeer := s.sluiceMsg_upd_sender x (.delta d) (·.takeDelta d)
    refine ⟨_, (exec_journalDeltaReceived hjoin hx hup hstep).trans (by rw [hnext]), ?_, hx',
      fun hordered => State.toSend_of_taken hsend hordered (by rfl) hx' hpeer, hpeer⟩
    rw [hx', Channel.takeDelta_refill]
  · refine ⟨s.lateDelta x, ?_, State.lateDelta_refill hlate hawait⟩
    simp only [exec, execJournalDeltaReceived, hjoin, hup, if_true]
  · have hnext : s.nextDelta x = s.switchFull x := by simp [State.nextDelta, hring]
    refine ⟨_, (exec_journalDeltaReceived hjoin hx hup hstep).trans (by rw [hnext]), ?_, ?_, ?_⟩
    · rw [State.switchFull, State.updPort_chan, State.chan_upd]
    · rw [State.switchFull, State.updPort_port]
    · rw [State.switchFull, State.updPort_chan, State.chan_upd_peer]
  · refine ⟨s.regionImage x, congrArg Host.Outcome.next (State.refillAt_eq hx hup (by simp [hstep]) _), ?_⟩
    beta_reduce
    rw [State.regionImage, s.sluiceMsg_upd_receiver, s.sluiceMsg_upd_sender]
    exact ⟨rfl, rfl, rfl, rfl, rfl, rfl, rfl⟩
  · refine ⟨_, exec_stateSnapshotReceived hx hup hstep, ?_⟩
    beta_reduce
    rw [s.sluiceMsg_upd_receiver, s.sluiceMsg_upd_sender]
    exact ⟨rfl, rfl, rfl, rfl, rfl, rfl, rfl, rfl⟩

end Sys2Proof.Machine
end

section
/-! The channel reset (O40): it keeps HBM's content where the start has recorded that HBM holds it, and not otherwise. -/

namespace Sys2Proof.Machine

/-- A channel in service with a record in its slots and a reset ordered, whose start has recorded neither that HBM kept its content
nor the tide of its step 8. -/
def Channel.unrecorded : Channel :=
  { Channel.reset with
    start := { Start.reset with step := .service }
    keys := { Keys.reset with slots := [(0, [])] }
    resetOrder := true }

/-- The device at reset, with channel A as `Channel.unrecorded` has it. -/
def State.unrecorded : State := { State.reset with a := Channel.unrecorded }

/-- The reset of such a channel takes HBM's content as lost. -/
theorem State.unrecorded_reset_slots : ((State.unrecorded.resetChannel .a).chan .a).keys.slots = [] := rfl

/-- Refutes O40: its first clause asks of a channel in service only that its reset is ordered. In `State.unrecorded` the start of
channel A, in service, has recorded neither HBM's content as kept nor a tide for step 8, so the reset takes the content as lost and
the slots, which hold a record before it, are empty after it. -/
theorem not_channelResetKeepsWhatEndures : ¬ Obligations.ChannelResetKeepsWhatEndures := by
  rintro ⟨hreset, -⟩
  obtain ⟨t, hstep, -, -, -, -, -, -, hslots, -⟩ := hreset State.unrecorded .a rfl rfl rfl
  have ht : t = State.unrecorded.finish (State.unrecorded.resetChannel .a) := (Host.Outcome.next.inj hstep).symm
  have hempty : (t.chan .a).keys.slots = [] := by
    rw [ht, State.finish_chan]
    exact State.unrecorded_reset_slots
  rw [hempty] at hslots
  exact absurd hslots (List.cons_ne_nil _ _).symm

end Sys2Proof.Machine
end
